-- ==== Sys2Proof/Word.lean ====
section
/-!
DEFINITION. The word types of the model: bytes, lane-local register words, and the one sparse map that the
state uses wherever the spec gives numbered things (sessions, nodes, table rows, registers).
-/
namespace Sys2Proof

/-- A byte. -/
abbrev Byte := BitVec 8
/-- A byte string, first byte first. -/
abbrev Bytes := List Byte
/-- A lane-local register word (R9: 32 bits). -/
abbrev Word32 := BitVec 32
/-- A sparse map from numbers: strictly rising keys. Its operations are in Machine/Maps.lean. -/
abbrev NMap (α : Type) := List (Nat × α)

end Sys2Proof
end

