-- ==== Sys2Proof/Syntax.lean ====
section
/-!
DEFINITION. The commands of the block: one constructor of `Instr` per row of spec/opcode_table.json, in the
table's order, with the operands the row's rule names. The first operand `t` of every command is the FAB instant
(in 2.5 ns cycles, R328) at which it reaches the block (log entry 1).
-/
namespace Sys2Proof

/-- The two controller lanes (R11). -/
inductive Lane | A | B
  deriving DecidableEq, Repr

/-- The cores with a place on the lane's fabric, in the order of LANE_ID.CORE (R26). -/
inductive Core | A0 | A1 | A2 | A3 | M0 | D0
  deriving DecidableEq, Repr

/-- Where an Ibier association or stream enters (R65). -/
inductive Entry | trunk | service
  deriving DecidableEq, Repr

/-- A decoded value of R30: a number (BOOL, U*, S*, Q16.16 raw, TIME64, ENUM8, BITS32) or a byte string. -/
inductive Val
  | num (n : Int)
  | bytes (b : Bytes)
  deriving DecidableEq, Repr

/-- One table row, or a scalar as a row of one column (R34). -/
abbrev Row := List Val

/-- A tagged value of an argument block (R30, R35). -/
structure TVal where
  tag : Nat
  val : Val
  deriving DecidableEq, Repr

/-- Where a head-end's datagrams come from (R321): IPv6 address, UDP port, and whether they entered at the master's service
port (port kind 1) or at a gateway (0). -/
structure Peer where
  addr : Bytes
  port : Nat
  service : Bool
  deriving DecidableEq, Repr

/-- What a ClientHello offers of what R64 asks for: DTLS 1.3, TLS_AES_256_GCM_SHA384, secp384r1,
ecdsa_secp384r1_sha384; and whether early data comes with it. -/
structure Offer13 where
  version : Bool
  suite : Bool
  group : Bool
  sig : Bool
  early : Bool
  deriving DecidableEq, Repr

/-- What strikes while a request is executed (R78, R79, R368): nothing; a module fault before the request took effect, with its
fault code, or one that leaves the outcome uncertain; or a tamper trip during the key work of COMMISSION, ESCROW_EXPORT or
TRUNK_KEY_INSTALL, and nothing for any other request. -/
inductive Strike
  | none
  | before (code : Nat)
  | uncertain
  | tamper
  deriving DecidableEq, Repr

/-- A datagram's way to the module: the node it came in from (255 for the own service port) and the head-end (R66, R321). -/
structure Way where
  via : Nat
  peer : Peer
  deriving DecidableEq, Repr

/-- The relay header of a datagram (R66). -/
structure RelayHdr where
  version : Nat
  module : Nat
  tclass : Nat
  reserved : Nat
  deriving DecidableEq, Repr

/-- A core of a lane. -/
structure LaneCore where
  lane : Lane
  core : Core
  deriving DecidableEq, Repr

/-- A request as it arrives: the association it came in on, its relay header (R66), the length of the message in its
record, the 32-byte header of R72 (`typ` its TYPE), and a module fault that strikes meanwhile. -/
structure Hdr where
  assoc : Nat
  rhVersion : Nat
  rhModule : Nat
  tclass : Nat
  rhReserved : Nat
  size : Nat
  typ : Nat
  flags : Nat
  length : Nat
  sid : Nat
  seq : Nat
  handle : Nat
  dclass : Nat
  resend : Nat
  deadline : Nat
  obj : Nat
  firstRow : Nat
  rowCount : Nat
  reserved : Nat
  strike : Strike
  deriving DecidableEq, Repr

/-- What a client certificate chain presents (R355, R356). -/
structure Cert where
  wellFormed : Bool
  anchor : Option Nat
  ouLevel : Option Nat
  hash : Bytes
  inDates : Bool
  returnAnchor : Bool
  deriving DecidableEq, Repr

/-- A ClientHello: what it offers, and the certificate the client then presents (R64, R355). -/
structure ClientHello where
  offered : Offer13
  cert : Cert
  deriving DecidableEq, Repr

/-- One answer code heard in an acknowledgement field (R140, R141): member, ACK (2i) or HEARD (2i + 1),
energy in thousandths of the expected energy, and hundredths of a dB above the decoy reference. -/
structure CodeObs where
  member : Nat
  ack : Bool
  energy : Nat
  overDecoy : Int
  deriving DecidableEq, Repr

/-- One event of an EVENT_BURST (R158). -/
structure BurstEvent where
  endpoint : Nat
  kind : Nat
  age : Nat
  data : Nat
  deriving DecidableEq, Repr

/-- A received EVENT_BURST frame (R158), or one that fails its FCS (R160); `micOk` is the verdict of CCM* under the cluster's
current key (R152, R153). -/
structure Burst where
  xcvr : Nat
  cluster : Nat
  member : Nat
  seq : Nat
  flags : Nat
  counter : Nat
  fcsOk : Bool
  micOk : Bool
  rssi : Int
  start : Nat
  asn : Nat
  events : List BurstEvent
  deriving DecidableEq, Repr

/-- A HANDOFF message (R218); `eta` is a TIME64. -/
structure HandoffMsg where
  source : Nat
  track : Nat
  bkey : Nat
  cls : Nat
  flags : Nat
  speed : Nat
  eta : Nat
  hseq : Nat
  deriving DecidableEq, Repr

/-- A zero crossing of a phase (R234): the low-pass output around it. -/
structure Crossing where
  phase : Fin 3
  low : List Int
  deriving DecidableEq, Repr

/-- What one lane's eight channels delivered since its energy interval began (R232, R236): each channel's 24-bit samples after
the FIR decimator, oldest first, in the order V1, V2, V3, I1, I2, I3, IN, IRES; `hot` above 85 °C (R254). -/
structure Samples where
  raw : List (List Int)
  hot : Bool
  deriving DecidableEq, Repr

/-- One lane's complete LED set for a period: 96 duty words and four current codes (R262). -/
structure LedSet where
  duty : List Nat
  code : List Nat
  deriving DecidableEq, Repr

/-- What the LED stage samples for one string (R259, R272): current in µA, string voltage and the 25 taps in mV, pad in
0.1 °C. -/
structure StringSample where
  current : Nat
  volts : Nat
  tap : List Nat
  pad : Int
  deriving DecidableEq, Repr

/-- HELLO (R309), with the tamper notice of R366 when it carries one. -/
structure HelloMsg where
  role : Nat
  node : Nat
  port : Nat
  part : Nat
  cascade : Nat
  serial : Bytes
  nonce : Nat
  proto : Nat
  caps : Nat
  notice : Option Bytes
  deriving DecidableEq, Repr

/-- OFFER and ACCEPT (R309); `proofOk` is the verdict on PROOF, `nonceOk` on the echoed nonce. -/
structure OfferMsg where
  time : Nat
  anchor : Int
  quality : Nat
  master : Nat
  grant : List Nat
  proofOk : Bool
  nonceOk : Bool
  deriving DecidableEq, Repr

/-- The trunk header of a received frame (R307); `tagOk` is the verdict on TAG. -/
structure TrunkFrame where
  cls : Nat
  vc : Nat
  turned : Bool
  mtype : Nat
  dst : Nat
  src : Nat
  hops : Nat
  tgen : Nat
  fcnt : Nat
  len : Nat
  tagOk : Bool
  deriving DecidableEq, Repr

/-- TOPO (R316); `anchor` is ASN_ANCHOR in FAB cycles of TAI, entries are (node, link to next in state 4). -/
structure TopoMsg where
  tgen : Nat
  anchor : Int
  kind : Nat
  deputy : Nat
  dateline : Nat
  entries : List (Nat × Bool)
  deriving DecidableEq, Repr

/-- STATUS of a member (R323). -/
structure StatusMsg where
  module : Nat
  sticky : Nat
  activeLane : Nat
  roleA : Nat
  roleB : Nat
  health : Nat
  quality : Nat
  ring : Nat
  ticketsOpen : Nat
  time : Nat
  deriving DecidableEq, Repr

/-- A record handed to the Dripstone port (R374, R376). -/
structure RecIn where
  typ : Nat
  sev : Nat
  source : Nat
  payload : Bytes
  deriving DecidableEq, Repr

/-- The fields of an image header that boot and the objects read (R460, R466): MAGIC and HDR_VER, the fields by name,
whether RUNTIME_HASH matches and RUNTIME_SIG verifies under the key in SIGNER_SLOT, whether POLICY_HASH matches, and the
key under which POLICY_SIG verifies (empty: under none). -/
structure ImageHdr where
  magicOk : Bool
  partMask : Nat
  version : Nat
  rollback : Nat
  stateLayout : Nat
  settingsLayout : Nat
  migrateFrom : Nat
  feature : Nat
  minPeer : Nat
  runtimeOk : Bool
  policyLen : Nat
  policyVersion : Nat
  policyOk : Bool
  policyKey : Bytes
  deriving DecidableEq, Repr

/-- A service-stream message (R463). -/
structure StreamHdr where
  assoc : Nat
  target : Nat
  kind : Nat
  lanes : Nat
  tid : Nat
  offset : Nat
  length : Nat
  deriving DecidableEq, Repr

/-- What a self-test slice reads (R432): the measured value in the unit of its test, the voltages of a string's 24 positions
open and closed in mV, whether the change, echo or match was seen, symbol errors since the last slice. -/
structure SliceObs where
  measured : Int
  volts : List Nat
  closed : List Nat
  seen : Bool
  errors : Nat
  deriving DecidableEq, Repr

/-- One command of the block: one constructor per row of spec/opcode_table.json. -/
inductive Instr
  -- Ibier (chapter 3) and sequences (chapter 2)
  | dtlsHandshake (t assoc : Nat) (entry : Entry) (way : Way) (hello : ClientHello)
  | datagramDrop (t : Nat) (rh : RelayHdr) (auth : Bool) (size : Nat)
  | setup (t : Nat) (h : Hdr) (client : Bytes) (idle : Nat)
  | close (t : Nat) (h : Hdr)
  | read (t : Nat) (h : Hdr)
  | write (t : Nat) (h : Hdr) (tag : Nat) (rows : List (Nat × Row))
  | seqOpen (t : Nat) (h : Hdr) (mask lease : Nat)
  | seqCommit (t : Nat) (h : Hdr)
  | seqAbort (t : Nat) (h : Hdr)
  | subscribe (t : Nat) (h : Hdr) (subId mode minSev interval : Nat)
  | ack (t : Nat) (h : Hdr) (compSeq : Nat)
  | sessionIdleTimeout (t sid : Nat)
  | leaseExpiry (t handle : Nat)
  | commitApply (t : Nat)
  | subIntervalExpiry (t sub : Nat)
  | subPeriodExpiry (t sub : Nat)
  | completionResend (t comp : Nat)
  | heldCompletionSend (t sid : Nat)
  | completionHoldExpiry (t comp : Nat)
  | describe (t : Nat) (h : Hdr) (args : List TVal)
  | breakLock (t : Nat) (h : Hdr) (args : List TVal)
  | restoreDefaults (t : Nat) (h : Hdr) (args : List TVal)
  | survey (t : Nat) (h : Hdr) (args : List TVal)
  | snapshot (t : Nat)
  | surveyMemberTimeout (t : Nat)
  | closeSession (t : Nat) (h : Hdr) (args : List TVal)
  | ticketResult (t : Nat) (h : Hdr) (args : List TVal)
  -- admission (chapter 4)
  | deadlineInstant (t ticket : Nat)
  | subGo (t : Nat) (at_ : LaneCore)
  | compPop (t : Nat) (at_ : LaneCore)
  | selectClass (t : Nat) (at_ : LaneCore) (zone cls hold : Nat)
  | histCopy (t : Nat) (at_ : LaneCore) (kind first rows dest : Nat)
  | histCopyDone (t : Nat) (at_ : LaneCore)
  -- Cydel (chapter 5)
  | slotCommandLate (t : Nat) (xcvr : Fin 4)
  | slotPosition (t : Nat) (xcvr : Fin 4)
  | ackField (t : Nat) (xcvr : Fin 4) (codes : List CodeObs)
  | shockTimeout (t : Nat) (node : Nat)
  | blankDecision (t : Nat)
  | echoInsert (t : Nat) (cluster : Fin 256)
  | superframeBoundary (t : Nat)
  | pathSwap (t : Nat) (cluster : Fin 256)
  | pathSwapBack (t : Nat) (cluster : Fin 256)
  | supervisionExpiry (t : Nat) (node : Nat)
  | eventBurst (t : Nat) (b : Burst)
  | joinKey (t : Nat) (xcvr : Fin 4) (eui nonce key : Bytes) (asn : Nat) (rssi : Int)
  | joinSig (t : Nat) (xcvr : Fin 4) (eui nonce : Bytes) (asn : Nat) (sigOk : Bool)
  | joinPendingExpiry (t : Nat) (eui : Bytes)
  | approveJoin (t : Nat) (h : Hdr) (args : List TVal)
  | removeNode (t : Nat) (h : Hdr) (args : List TVal)
  | lightSet (t : Nat) (h : Hdr) (args : List TVal)
  | lightResume (t : Nat) (h : Hdr) (args : List TVal)
  | nodeFunc (t : Nat) (h : Hdr) (args : List TVal)
  -- epochs and node images (chapter 6)
  | epochOpen (t : Nat) (h : Hdr) (args : List TVal)
  | epochStage (t : Nat) (h : Hdr) (args : List TVal)
  | epochArm (t : Nat) (h : Hdr) (args : List TVal)
  | epochAbandon (t : Nat) (h : Hdr) (args : List TVal)
  | epochPreswitchCheck (t : Nat)
  | cancelledPayloadEnd (t : Nat)
  | epochSwitch (t : Nat)
  | epochVerifyTimeout (t : Nat)
  | imageDiscard (t : Nat) (h : Hdr) (args : List TVal)
  | imageBlock (t : Nat) (h : Hdr) (args : List TVal)
  -- tracker (chapter 7)
  | presenceEventIngest (t : Nat)
  | tentativeTimeout (t track : Nat)
  | coastStart (t track : Nat)
  | coastLimitExpiry (t track : Nat)
  | handedEnd (t track : Nat)
  | endedRelease (t track : Nat)
  | midpointRefresh (t track : Nat)
  | handoffRetry (t hseq : Nat)
  | handoff (t : Nat) (m : HandoffMsg)
  | handoffAck (t source hseq track status : Nat)
  | boundaryList (t source part parts : Nat) (entries : List (Nat × Nat × Nat))
  | boundaryUnmatchedTimeout (t vertex : Nat)
  | historyHourEnd (t : Nat)
  | turnsWeekEnd (t : Nat)
  | adaptiveClassChange (t : Nat)
  | classApply (t : Nat) (zone : Fin 256)
  | classHoldExpiry (t : Nat) (zone : Fin 256)
  | histClear (t : Nat) (h : Hdr) (args : List TVal)
  -- metering (chapter 8)
  | zeroCrossing (t : Nat) (x : Crossing)
  | zcTimeout (t : Nat) (phase : Fin 3)
  | measurementPeriodEnd (t : Nat) (a b : Samples)
  | periodicSave (t : Nat) (a b : Samples)
  | finalSaveRepeat (t : Nat) (a b : Samples)
  | calMeasure (t : Nat) (h : Hdr) (args : List TVal)
  | calMeasureDone (t v i : Nat) (angle : Int) (freq : Nat) (voff ioff : Int)
  | battMetStart (t : Nat)
  | battWindow (t : Nat) (rms : List Nat) (volts : List Bool)
  | battBudgetSpent (t : Nat)
  | battMetRenew (t : Nat) (h : Hdr) (args : List TVal)
  -- anchor drive (chapter 9)
  | ledPeriodBoundary (t : Nat) (complete : Bool) (hashA hashB : Nat) (samples : List StringSample)
  | safeLightTimeout (t : Nat)
  | ledControlTick (t : Nat) (samples : List StringSample)
  | padSensorStuck (t : Nat) (string : Fin 4)
  | hwOvertempCut (t : Nat) (string : Fin 4) (pad : Int)
  | hwOvertempRelease (t : Nat) (string : Fin 4) (pad : Int)
  | bypassClamp (t : Nat) (string : Fin 4) (pos : Fin 24) (volts : Nat)
  | stringCurrentFault (t : Nat) (string : Fin 4)
  | flowstoneTick (t : Nat)
  | flsStart (t : Nat) (h : Hdr) (args : List TVal)
  | flsStop (t : Nat) (h : Hdr) (args : List TVal)
  | flsTrigger (t : Nat) (h : Hdr) (args : List TVal)
  | flsCtrlStart (t : Nat) (lane : Lane) (core : Core) (engine : Fin 8) (own : Nat)
  | flsCtrlStop (t : Nat) (lane : Lane) (core : Core) (engine : Fin 8)
  | flsTrigSet (t : Nat) (lane : Lane) (core : Core) (engine : Fin 8) (bits : Nat)
  | flsProgWrite (t : Nat) (lane : Lane) (core : Core) (engine : Fin 8) (index : Fin 64) (word : Word32)
  | ledRetest (t : Nat) (h : Hdr) (args : List TVal)
  | ledRetestEnd (t : Nat) (string : Fin 4)
  -- lanes (chapters 1 and 10)
  | inputArrival (t source hash : Nat) (atActive atStandby : Bool)
  | orderTag (t seq source hash : Nat)
  | forwardedInput (t seq source hash : Nat)
  | orphanTimeout (t hash : Nat)
  | comparisonRecord (t : Nat) (lane : Lane) (seq kind hash : Nat)
  | outputReleaseTimeout (t seq : Nat)
  | lagDetect (t : Nat)
  | selfCheckDone (t : Nat) (condemnA condemnB : Bool)
  | eccError (t : Nat) (lane : Lane) (corrected : Bool)
  | laneWatchdogExpiry (t : Nat) (lane : Lane) (core : Core)
  | aliveLoss (t : Nat) (lane : Lane)
  | switchoverTakeEffect (t : Nat)
  | switchover (t : Nat) (h : Hdr) (args : List TVal)
  | restartStandby (t : Nat) (h : Hdr) (args : List TVal)
  | resync (t : Nat) (h : Hdr) (args : List TVal)
  | resyncRequest (t : Nat) (lane : Lane)
  | stateTransferDone (t : Nat) (lane : Lane)
  | resyncCompareEnd (t : Nat) (lane : Lane) (allMatch : Bool)
  | laneBridgeLinkFail (t : Nat) (link : Fin 2)
  | laneStartReport (t : Nat) (lane : Lane) (repairs : Nat)
  | lanesAgree (t : Nat)
  | agreementTimeout (t : Nat) (lane : Lane)
  | unitTest (t : Nat) (lane : Lane) (unit : Fin 5) (result : Fin 3)
  -- trunk (chapter 11)
  | sfpInsert (t : Nat) (port : Fin 2) (is1000X overCurrent : Bool)
  | autonegDone (t : Nat) (port : Fin 2)
  | autonegTimeout (t : Nat) (port : Fin 2)
  | hello (t : Nat) (port : Fin 2) (m : HelloMsg)
  | helloRetry (t : Nat) (port : Fin 2)
  | tamperHello (t : Nat)
  | offer (t : Nat) (port : Fin 2) (m : OfferMsg)
  | accept (t : Nat) (port : Fin 2) (m : OfferMsg)
  | linkDown (t : Nat) (port : Fin 2)
  | passThrough (t : Nat) (port : Fin 2) (f : TrunkFrame)
  | credit (t : Nat) (port : Fin 2) (freed : List Nat)
  | creditSend (t : Nat) (port : Fin 2)
  | dcredit (t source : Nat) (reset : Bool) (freed held grant : List Nat)
  | dcreditSend (t dest : Nat)
  | topo (t : Nat) (port : Fin 2) (m : TopoMsg)
  | topoDeferredAdopt (t : Nat)
  | topoFlood (t : Nat)
  | linkReport (t node stateTA neighTA stateTB neighTB : Nat)
  | linkReportPeriodic (t : Nat)
  | breakMsg (t : Nat) (port : Fin 2) (nodeA nodeB tgen : Nat)
  | ibierFrame (t : Nat) (way : Way) (rhVersion module tclass reserved size : Nat)
  | surveySnap (t asn : Nat)
  | surveyRec (t module : Nat) (record : Bytes)
  | status (t : Nat) (m : StatusMsg)
  | statusSend (t : Nat)
  | memberSilentTimeout (t module : Nat)
  | pauseFrame (t : Nat) (port : Fin 2)
  | masterHandover (t : Nat) (h : Hdr) (args : List TVal)
  | handoverApply (t : Nat)
  | portRestart (t : Nat) (h : Hdr) (args : List TVal)
  -- time (chapter 12)
  | ptpSync (t : Nat) (port : Fin 2) (offset : Int) (tlvOk : Bool)
  | ptpSyncSend (t : Nat) (port : Fin 2)
  | pdelayExchange (t : Nat) (port : Fin 2) (roundTrip : Nat)
  | syncMiss (t : Nat)
  | asnConflictTimeout (t : Nat)
  | asnSlewDone (t : Nat) (diff : Nat)
  | rtcRealign (t : Nat)
  | rtcCompensation (t : Nat) (temp : Int)
  | ptpTrimUpdate (t : Nat) (rate : Int)
  | mainsTrimWindow (t cycles : Nat)
  | oscStopDetect (t : Nat) (lane : Lane)
  | timeSet (t : Nat) (h : Hdr) (args : List TVal)
  | timeStep (t : Nat)
  | slewComplete (t : Nat)
  | leapInstant (t : Nat)
  | alarmFire (t : Nat) (row : Fin 32)
  -- vault and life cycle (chapter 13)
  | derive (t : Nat) (lane : Lane) (core : Core)
  | loadSlot (t : Nat) (lane : Lane) (core : Core)
  | sign (t : Nat) (lane : Lane) (core : Core)
  | verify (t : Nat) (lane : Lane) (core : Core)
  | ecdh (t : Nat) (lane : Lane) (core : Core)
  | aeadSeal (t : Nat) (lane : Lane) (core : Core)
  | aeadOpen (t : Nat) (lane : Lane) (core : Core)
  | hmac (t : Nat) (lane : Lane) (core : Core)
  | wrapExport (t : Nat) (lane : Lane) (core : Core)
  | unwrapImport (t : Nat) (lane : Lane) (core : Core)
  | vaultOpDone (t : Nat) (lane : Lane) (checkOk : Bool)
  | rootCopy (t : Nat) (target : Lane)
  | tamperTrip (t : Nat) (source : Fin 11)
  | laneLocalTrip (t : Nat) (lane : Lane) (source : Fin 11)
  | sleepTrip (t : Nat) (source : Fin 11)
  | encSuspend (t : Nat) (h : Hdr) (args : List TVal)
  | encSuspendExpiry (t : Nat)
  | commission (t : Nat) (h : Hdr) (args : List TVal) (claimOk blobOk : Bool)
  | claimLockoutExpiry (t : Nat)
  | recommission (t : Nat) (h : Hdr) (args : List TVal) (blobOk tamper : Bool)
  | returnModule (t : Nat) (h : Hdr) (args : List TVal)
  | scrap (t : Nat) (h : Hdr) (args : List TVal)
  | escrowExport (t : Nat) (h : Hdr) (args : List TVal)
  | trunkKeyInstall (t : Nat) (h : Hdr) (args : List TVal) (blobOk : Bool)
  | returnToStock (t : Nat) (h : Hdr) (args : List TVal)
  | factoryRootsInstall (t : Nat)
  -- recorder (chapter 14)
  | recordSubmit (t : Nat) (lane : Lane) (core : Core) (r : RecIn)
  | recordWrite (t : Nat)
  | recorderNoticeWindowEnd (t : Nat)
  | summaryIntervalEnd (t : Nat) (interval : Fin 3)
  | recRead (t : Nat) (h : Hdr) (args : List TVal)
  -- interrupt controller (chapter 15)
  | icuSourceEvent (t : Nat) (lane : Lane) (source : Fin 512) (level : Bool)
  | icuClaim (t : Nat) (lane : Lane) (core : Core) (target : Fin 7)
  | icuComplete (t : Nat) (lane : Lane) (core : Core) (target : Fin 7) (source : Nat)
  | enableSet (t : Nat) (lane : Lane) (core : Core) (word : Fin 16) (bits : Word32)
  | enableClr (t : Nat) (lane : Lane) (core : Core) (word : Fin 16) (bits : Word32)
  | sgiSet (t : Nat) (lane : Lane) (core : Core) (value : Word32)
  | icuStuckTimeout (t : Nat) (lane : Lane) (target : Fin 7)
  | coreReset (t : Nat) (lane : Lane) (core : Core)
  | laneReset (t : Nat) (lane : Lane)
  | stopEntry (t : Nat) (lane : Lane)
  | wakeEdge (t : Nat) (lane : Lane) (source : Fin 64) (width : Nat)
  | semaphoreAcquire (t : Nat) (lane : Lane) (core : Core) (sem : Fin 64)
  | semaphoreRelease (t : Nat) (lane : Lane) (core : Core) (sem : Fin 64)
  | timeLoRead (t : Nat) (lane : Lane) (core : Core)
  -- Gour and Sump (chapter 16)
  | gourWindowStart (t : Nat) (lane : Lane) (arb : Fin 23)
  | gourGrant (t : Nat) (lane : Lane) (arb : Fin 23)
  | gourRequest (t : Nat) (lane : Lane) (arb : Fin 23) (req : Fin 16) (cost : Nat)
  | gourWithdraw (t : Nat) (lane : Lane) (arb : Fin 23) (req : Fin 16) (slotQueued : Bool)
  | gourRefillWrite (t : Nat) (lane : Lane) (core : Core) (arb : Fin 23) (req : Fin 16) (value : Word32)
  | sumpFlush (t : Nat) (lane : Lane) (core : Core) (queue : Fin 22)
  | sumpDataRead (t : Nat) (lane : Lane) (core : Core) (queue : Fin 22)
  | sumpWdataWrite (t : Nat) (lane : Lane) (core : Core) (queue : Fin 22) (value : Word32)
  | sumpWordArrival (t : Nat) (lane : Lane) (queue : Fin 22) (word : BitVec 64) (last : Bool) (badBits : Fin 3)
  | busWatchdogAbort (t : Nat) (lane : Lane) (core : Core)
  | registerWrite (t : Nat) (lane : Lane) (core : Core) (addr : Nat) (value : Word32)
  -- self-test (chapter 17)
  | sliceTick (t : Nat)
  | sliceRestore (t : Nat) (obs : SliceObs) (readback1 readback2 : Bool)
  | stSweep (t : Nat) (h : Hdr) (args : List TVal)
  | sweepEnd (t : Nat)
  -- power and start-up (chapter 18)
  | powerFailWarning (t : Nat) (a b : Samples)
  | brownoutRecovery (t : Nat)
  | vStop (t : Nat)
  | por (t : Nat) (canaryOk : Bool) (parityA parityB : Bool)
  | cellLoadTest (t : Nat) (cell : Fin 2) (millivolts : Nat)
  | cellRemoval (t : Nat) (cell : Fin 2)
  | cellReplaced (t : Nat) (h : Hdr) (args : List TVal) (millivolts : Nat)
  | cellTest (t : Nat) (h : Hdr) (args : List TVal) (mvA mvB : Nat)
  | vbdDip (t : Nat)
  | vbdRecovery (t : Nat)
  | keepTimeExpiry (t : Nat) (below16 : Bool)
  | coilSupplyLoss (t : Nat) (decivolts : Nat)
  | coilSupplyReturn (t : Nat) (decivolts : Nat)
  | ledSupplyFail (t : Nat)
  | keepaliveFail (t : Nat)
  | inputRange (t : Nat) (decivolts : Nat)
  | baseplateHot (t : Nat) (temp : Int)
  | baseplateCool (t : Nat) (temp : Int)
  | outputSet (t : Nat) (h : Hdr) (args : List TVal)
  | outputGapEnd (t : Nat) (output : Fin 4)
  | outputTrip (t : Nat) (output : Fin 4) (milliamps decivolts : Nat)
  | diEdge (t : Nat) (input : Fin 8) (on : Bool)
  -- firmware (chapter 19)
  | streamOpen (t : Nat) (h : StreamHdr) (sha : Bytes)
  | streamData (t : Nat) (h : StreamHdr) (data : Bytes)
  | streamEnd (t : Nat) (h : StreamHdr) (sigOk : Bool) (policyKey : Bytes)
  | streamAbort (t : Nat) (h : StreamHdr)
  | streamTimeout (t : Nat) (row : Fin 3)
  | bankProgramDone (t : Nat) (lane : Lane)
  | trialConfirm (t : Nat) (lane : Lane)
  | fwActivate (t : Nat) (h : Hdr) (args : List TVal)
  | fwCommit (t : Nat) (h : Hdr) (args : List TVal)
  | fwCommitApply (t : Nat)
  | fwRestartAll (t : Nat) (h : Hdr) (args : List TVal)
  | bankErase (t : Nat) (h : Hdr) (args : List TVal)
  -- rows at the table's end
  | coreCheckerFire (t : Nat) (lane : Lane) (core : Core)
  | laneBridgeLinkUp (t : Nat) (link : Fin 2)
  | dtlsTeardown (t assoc : Nat)
  | pendingRead (t : Nat) (lane : Lane) (core : Core) (word : Fin 16)
  | busErrorRead (t : Nat) (lane : Lane) (core : Core) (addr : Nat)
  deriving DecidableEq, Repr

end Sys2Proof
end

