-- ==== Sys2Proof/Config.lean ====
section
/-!
DEFINITION. What an implementation fixes and the spec leaves open: opaque constants with no body that a proof could
see (each named in a log entry), and the fixed facts of the part.
-/
namespace Sys2Proof.Config

/-- LANE_ID.PART of BSC9-T4L2 (R1, R26). -/
def partCode : Nat := 3
/-- LANE_ID.SILREV of the first silicon revision (R26). -/
def silRev : Nat := 1
/-- FAB cycles in a slot of 5 ms, a superframe of 256 slots, a millisecond and a second (R8, R19). -/
def slotCycles : Nat := 2000000
def frameCycles : Nat := 512000000
def msCycles : Nat := 400000
def secCycles : Nat := 400000000

/-- SERIAL (0:0000, factory). -/
opaque serial : Bytes
/-- MAC_EUI64 (4:0000, factory). -/
opaque eui64 : Bytes
/-- The factory root and the return root of the vaults (R346): 256 bits each, installed at the factory. -/
opaque factoryRoot : Bytes
opaque returnRoot : Bytes
/-- The free values of the model: the n-th one drawn (log entry 8). -/
opaque freeNat : Nat → Nat
/-- A free byte string: the n-th draw. -/
opaque freeBytes : Nat → Bytes
/-- Promise tickets (R112): a permutation of the 32-bit values, so tickets do not repeat. -/
opaque ticketPerm : Equiv.Perm (Fin 4294967295)
/-- Session IDs (R69), never 0. -/
opaque sidPerm : Equiv.Perm (Fin 4294967295)
/-- Sequence handles (R48) and subscription IDs (R82), 0001h to FFFFh. -/
opaque handlePerm : Equiv.Perm (Fin 65535)
/-- The minute after 00:00 local standard time at which the sun passes an altitude (R168, R343): latitude, longitude, STD_OFFSET,
year, day of a leap-year calendar, altitude in millidegrees, rising; 1,440 or more where it does not. The spec gives the
altitudes, not the formulas (log entry 8). -/
opaque sunMinute : Int → Int → Int → Nat → Nat → Int → Bool → Nat
/-- How a part of JOIN_RESP or JOIN_ASSIGN lays out what it holds (R149: PTYPE, part, join key, content): the spec gives no layout
(log entry 63). -/
opaque joinPart : Nat → Nat → Bytes → Bytes → Bytes
/-- Full scale of the residual-current channel, µA (R230 gives none; log entry 64). -/
opaque resScale : Nat
/-- The basis coefficients of the cubic interpolator (R239): tap 0 to 3, power 0 to 3 of the position, in 2^-30 (log entry 64). -/
opaque farrow : Nat → Nat → Int
/-- The share of a sample by which the DC blocker's estimate moves (R232 stage 4, corner 0.5 Hz), in 2^-30 (log entry 64). -/
opaque dcCorner : Nat
/-- The 63 taps of the Hilbert FIR, in 2^-30 (R236, log entry 64). -/
opaque hilbert : Nat → Int
/-- Cosine and sine of the DFT at a frequency (mHz) and a sample of the period, in the number form of D0 (R237, log entry 64). -/
opaque cosine : Nat → Nat → Int
opaque sine : Nat → Nat → Int
/-- The angle of a phasor, real and imaginary part, in 0.01° (R237, log entry 64). -/
opaque angle : Int → Int → Int
/-- The vendor area's factory calibration (R510): channel, range, column 0 to 2 of CAL_MAIN or 3 to 8 of CAL_FALLBACK (log entry 64). -/
opaque factoryCal : Nat → Nat → Nat → Nat
/-- What a number that does not fit its object's form reads as (log entry 64). -/
opaque outOfForm : Int → Nat
/-- The Q gain of CAL_MEASURE's step 2 from the reference and the measured angle (R242, log entry 8). -/
opaque qGain : Int → Int → Nat
/-- What CAP of RCFG shows where 2 × REFILL does not fit its 8 bits (R416, REFILL from 128 up): log entry 67. -/
opaque capField : Nat → Nat
/-- NEXT in the master's reply to a stream message that it relayed (R463), whose member's progress it does not know: a free
value of the member, the transfer, the offset and the cycle (log entry 62). -/
opaque memberNext : Nat → Nat → Nat → Nat → Nat

/-- What a quantity measures that no command brings: object, column, FAB instant (log entry 67). -/
opaque sensor : Nat → Nat → Nat → Nat
/-- The MRAM word that holds a settings row, by object × 2^32 + row (R39, log entry 8). -/
opaque settingsWord : Nat → Nat
/-- The public key of a DER certificate (R372, log entry 8). -/
opaque certKey : Bytes → Bytes

end Sys2Proof.Config
end

