-- ==== Sys2Proof/Machine/State.lean ====
section
/-!
DEFINITION. The state of the block as plain data, in the order of the spec's chapters; the faults and refusals; the
state after reset.
-/
namespace Sys2Proof.Machine

/-- The roles of R26. -/
inductive Role | undecided | standby | active | lagging
  deriving DecidableEq, Repr

/-- One thing per lane (R11). -/
structure Pair (α : Type) where
  a : α
  b : α
  deriving DecidableEq, Repr

/-- A correction being slewed (R333, R335): its size in FAB cycles and the FAB instant it began. -/
structure Slew where
  amt : Int
  start : Nat
  deriving DecidableEq, Repr

/-- The block's time (R8, R328, R333): the FAB time counter in 2.5 ns cycles since reset and what it was at the command before
(R82, log entry 1), what TAI and the ASN stand
ahead of it, and the corrections being slewed (`slew` moves TAI and the ASN together, `aslew` the slot timer alone). -/
structure Clock where
  fab : Nat
  prev : Nat
  taiOff : Int
  asnOff : Int
  slew : Option Slew
  aslew : Option Slew
  deriving DecidableEq, Repr

/-- The body of a reply or notice: nothing, bytes as they leave (R30, R34, R35, R78), or parts of a Survey (R75). -/
inductive Body
  | empty
  | raw (b : Bytes)
  | survey (snap : Nat) (only : Nat) (parts : List Bytes)
  deriving DecidableEq, Repr

/-- A reply (R74, R78): STATUS, FIRST_STATUS, APPLY_ASN, TICKET, OBJECT, body. -/
structure Reply where
  status : Nat
  first : Nat
  applyAsn : Nat
  ticket : Nat
  obj : Nat
  body : Body
  deriving DecidableEq, Repr

/-- A message of this module's Ibier service: a part of a reply (R74: echoed SESSION_ID and REQ_SEQ, request TYPE, PART, PARTS), a NOTICE (R83:
session, NOTICE_SEQ, SUB_ID, FLAGS, CHANGES, TIME, OBJECT, body), a COMPLETION (R84: receiving session, COMP_SEQ, ticket,
original REQ_SEQ and session, notice). -/
inductive IbMsg
  | reply (sid seq typ part parts : Nat) (r : Reply)
  | notice (sid seq sub flags changes time obj : Nat) (b : Body)
  | completion (sid compSeq ticket reqSeq origSid : Nat) (notice : Bytes)
  deriving DecidableEq, Repr

/-- A datagram of this module's: MODULE and TCLASS of its relay header (R66), the number of its DTLS record (R71). -/
structure Dgram where
  module : Nat
  tclass : Nat
  recNo : Nat
  msg : IbMsg
  deriving DecidableEq, Repr

/-- A DTLS association (R64, R65, R71, R356): where it entered, the trunk node and the head-end it came from (R321), the
next record number, the client certificate, the level it gives, its session. -/
structure Assoc where
  entry : Entry
  via : Nat
  peer : Peer
  recNo : Nat
  cert : Cert
  level : Nat
  session : Option Nat
  deriving DecidableEq, Repr

/-- A session (R69, R70, R76, R83). `hi` is H; `cache` holds the window's replies, newest first, `none` while the reply
is still to come; `broken` the handles the module broke for it with their causes (R58). -/
structure Session where
  client : Bytes
  level : Nat
  assoc : Nat
  entry : Entry
  opened : Nat
  last : Nat
  lastFab : Nat
  idle : Nat
  hi : Option Nat
  cache : List (Nat × Option Reply)
  noticeSeq : Nat
  broken : List (Nat × Nat)
  deriving DecidableEq, Repr

/-- A subscription (R80, R82): mode 1 on change, 2 periodic, 3 recorder notices; what it last saw and has to send. -/
structure Sub where
  sid : Nat
  mode : Nat
  minSev : Nat
  interval : Nat
  obj : Nat
  row : Nat
  changes : Nat
  changedAt : Nat
  dirty : List Nat
  notBefore : Nat
  deriving DecidableEq, Repr

/-- An exclusive sequence (R48 to R56): owner, groups held, lease, shadows by object and row, bank restores, and once
its commit is accepted the apply ASN and the order of acceptance. -/
structure Sequence where
  sid : Nat
  client : Bytes
  groups : List Nat
  leaseLen : Nat
  leaseEnd : Nat
  shadows : NMap Row
  restores : List Nat
  commit : Option (Nat × Nat)
  deriving DecidableEq, Repr

/-- A pending COMPLETION (R84, R85): addressed to a client ID. -/
structure Completion where
  client : Bytes
  compSeq : Nat
  ticket : Nat
  reqSeq : Nat
  origSid : Nat
  urgent : Bool
  notice : Bytes
  created : Nat
  firstSent : Option Nat
  resends : Nat
  deriving DecidableEq, Repr

/-- A snapshot buffer (R87): SNAP_SEQ, the ASN taken, the 3,072-byte record. -/
structure Snapshot where
  seq : Nat
  asn : Nat
  record : Bytes
  deriving DecidableEq, Repr

/-- A cascade Survey in progress at the master (R88). -/
structure CascadeSurvey where
  asn : Nat
  mask : Nat
  sid : Nat
  reqSeq : Nat
  snap : Option Nat
  recs : NMap Bytes
  deriving DecidableEq, Repr

/-- Ibier (chapter 3) and the sequences (chapter 2). `names` is the model's own counter from which session IDs, handles
and subscription IDs are drawn (log entry 15). -/
structure Ibier where
  handshakes : List Nat
  assocs : NMap Assoc
  sessions : NMap Session
  subs : NMap Sub
  seqs : NMap Sequence
  orderNext : Nat
  comps : NMap Completion
  compNext : Nat
  compSeqs : List (Bytes × Nat)
  heldFor : List (Nat × Nat)
  snaps : List Snapshot
  snapPending : NMap (List (Nat × Nat))
  surveys : List CascadeSurvey
  names : Nat
  deriving DecidableEq, Repr

/-- An entry of the operation journal in MRAM (R13, R54, R111, R333, R470): its kind and its numbers. -/
inductive JEntry
  | commit (handle : Nat) (applyAsn : Nat)
  | ticket (ticket : Nat)
  | timeSet (correction : Int) (realigned : Int)
  | powerFail (time : Nat)
  | fwCommit (applyAsn : Nat)
  | life (state : Nat)
  deriving DecidableEq, Repr

/-- The dictionary's storage (R27, R38, R39, R44, R384): live object rows by object × 2^32 + row, absent when at the
default; the logs by object, newest first; the 256 sticky bits and which of the C bits' conditions hold now; the E:0032 bits; the
operation journal; the writes of each settings row so far (R39). -/
structure Dict where
  store : NMap Row
  logs : NMap (List Row)
  sticky : BitVec 256
  stuckAt : NMap Nat
  live : BitVec 256
  semReset : BitVec 12
  journal : List JEntry
  wear : NMap Nat
  deriving DecidableEq, Repr

/-- What is known of one target of a ticket (R99, R100, R114, R116, R120). `out` is the residue reason of a target that
gets no more attempts; `got` the fragments it has answered, by unit code × 16 + fragment; `hit` the number plus 1 of the last attempt that it answered. -/
structure Target where
  node : Nat
  cluster : Nat
  member : Nat
  k : Nat
  plcb : Nat
  acked : Bool
  run : Nat
  shocked : Bool
  excluded : Bool
  out : Option Nat
  got : List Nat
  hit : Nat
  deriving DecidableEq, Repr

/-- A command's frame content (R157): function, endpoints, arguments. -/
structure CmdFrame where
  endpoints : Nat
  func : Nat
  args : Bytes
  deriving DecidableEq, Repr

/-- What a ticket carries: a COMMAND frame, the units of an epoch package, one image block (R178, R181, R193). -/
inductive Job
  | cmd
  | stage (epoch : Nat)
  | block (image index : Nat)
  deriving DecidableEq, Repr

/-- A promise ticket (R111, R113, R119). `state` 1 open, 2 completed; `deadline` FAB; times TIME64. -/
structure Ticket where
  id : Nat
  state : Nat
  dclass : Nat
  obj : Nat
  client : Bytes
  sid : Nat
  reqSeq : Nat
  submitter : Nat
  kind : Nat
  group : Nat
  admitted : Nat
  deadlineTime : Nat
  deadline : Nat
  deadlineAsn : Nat
  admSeq : Nat
  frame : CmdFrame
  job : Job
  begun : List (Nat × Nat)
  targets : List Target
  booked : Nat
  sent : Nat
  released : Nat
  shockedN : Nat
  fShock : Bool
  fPath : Bool
  fExcl : Bool
  fSwitch : Bool
  fRestart : Bool
  cfs : List (Nat × Nat)
  deriving DecidableEq, Repr

/-- A fragment frame (R175, R176): KIND, OBJ_ID, INDEX, FRAG byte, and the bytes of the unit it carries. -/
structure Seg where
  kind : Nat
  objId : Nat
  index : Nat
  frag : Nat
  off : Nat
  len : Nat
  deriving DecidableEq, Repr

/-- A booked attempt (R101, R103, R107), or one fragment frame of it (R178): first position, positions occupied, channel, on-air time in µs;
whether it has been keyed. -/
structure Booking where
  ticket : Nat
  cluster : Nat
  attempt : Nat
  xcvr : Nat
  asn : Nat
  len : Nat
  chan : Nat
  dur : Nat
  dclass : Nat
  policy : Bool
  urgent : Bool
  seg : Option Seg
  sent : Bool
  deriving DecidableEq, Repr

/-- What a policy core submits (R121, R226): what its half of the port holds, or one of the policy functions. -/
inductive PolicyAsk
  | port
  | select (zone cls hold : Nat)
  | copy (kind first rows dest : Nat)
  deriving DecidableEq, Repr

/-- One half of the policy admission port (R121). `want` is a standby's submission that waits for the active lane's decision. -/
structure PortHalf where
  arg : Bytes
  dclass : Nat
  obj : Nat
  deadline : Nat
  len : Nat
  busy : Bool
  detail : Nat
  done : Bool
  status : Nat
  ticket : Nat
  earliest : Nat
  failing : Nat
  badbuf : Bool
  ready : Bool
  compBuf : Nat
  compLen : Nat
  pending : List Bytes
  want : Option PolicyAsk
  deriving DecidableEq, Repr

/-- A HIST_COPY in progress (R226). -/
structure HistJob where
  kind : Nat
  first : Nat
  rows : Nat
  dest : Nat
  deriving DecidableEq, Repr

/-- Admission (chapter 4): the ticket table by row, the bookings. -/
structure Admission where
  tickets : NMap Ticket
  bookings : List Booking
  deriving DecidableEq, Repr

/-- A cluster context's own state (R137, R138, R145, R147, R153). Echo marks are of the running superframe;
`ctxOld` is the row before the last change while members still have to answer the CONTEXT frame. -/
structure Cluster where
  cevent : Nat
  keyGen : Nat
  counter : Nat
  servingAlt : Bool
  swaps : Nat
  missPri : Nat
  missAlt : Nat
  askedPri : Bool
  askedAlt : Bool
  hitPri : Bool
  hitAlt : Bool
  lastEchoPri : Nat
  lastEchoAlt : Nat
  restoreRun : Nat
  swapDue : Bool
  backDue : Bool
  ctxAnswered : BitVec 32
  ctxOld : Option Row
  echoSeq : Nat
  more : Bool
  duePri : Bool
  dueAlt : Bool
  cfs : Nat
  deriving DecidableEq, Repr

/-- A node's link state (R98, R116, R146, R159, R508): `joined` 0 absent, 1 joined, 2 LOST; `hist` newest first, at
most 256; `shock` the FAB instant of the declaration with the probes still to enter the history. -/
structure Node where
  joined : Nat
  hist : List Bool
  shock : Option (Nat × Nat)
  heardFab : Nat
  heard : Nat
  rssi : Int
  upCounter : Option Nat
  bursts : List Nat
  deriving DecidableEq, Repr

/-- One superframe bucket of a gate ledger channel (R133, R135): used and reserved µs. -/
structure Bucket where
  used : Nat
  reserved : Nat
  deriving DecidableEq, Repr

/-- BLANK and CLOSED sets of a band (R136): of the superframe before `base`, of `base` and of the next. -/
structure Blank where
  base : Nat
  prev : BitVec 64
  cur : BitVec 64
  next : BitVec 64
  closedPrev : BitVec 64
  closedCur : BitVec 64
  closedNext : BitVec 64
  deriving DecidableEq, Repr

/-- No set decided yet. -/
def Blank.init : Blank := { base := 0, prev := 0, cur := 0, next := 0, closedPrev := 0, closedCur := 0, closedNext := 0 }

/-- The downlink or uplink frame whose acknowledgement field a transceiver expects (R140, R141): its kind, cluster,
path, members named, ticket; for the module's own control frames their FUNC, what they carry (epoch or floor) and the
driver channels. -/
inductive FrameKind | command | echo | context | control | probe | burst | beacon | join
  deriving DecidableEq, Repr

structure Expect where
  kind : FrameKind
  asn : Nat
  cluster : Nat
  alt : Bool
  targets : BitVec 32
  ticket : Nat
  last : Nat
  seg : Option Seg
  func : Nat
  arg : Nat
  mask : Nat
  deriving DecidableEq, Repr

/-- A join in progress or a held JOIN_KEY (R149): the module's ephemeral key, nonce and signature; `parts` are the broadcast
payloads still due: (PTYPE, part). -/
structure Join where
  xcvr : Nat
  eui : Bytes
  nonce : Bytes
  key : Bytes
  asn : Nat
  node : Option Nat
  eph : Nat
  own : Bytes
  sig : Bytes
  parts : List (Nat × Nat)
  waited : Nat
  rssi : Int
  deriving DecidableEq, Repr

/-- A row of JOIN_PENDING (R150). -/
structure JoinWait where
  eui : Bytes
  heard : Nat
  fab : Nat
  xcvr : Nat
  rssi : Int
  deriving DecidableEq, Repr

/-- A group command copy waiting for a broadcast payload (R105, R156). -/
structure GroupCopy where
  xcvr : Nat
  ticket : Nat
  dclass : Nat
  admSeq : Nat
  deadline : Nat
  deriving DecidableEq, Repr

/-- Per transceiver (R21, R152, R156): the broadcast key generation and counter, the late position, the frames that wait
for their acknowledgement field (newest first), the cluster after which the next control frame and the next owner of an
open urgent position are looked for, the superframes whose broadcast frames are reserved (R135), the superframe (plus 1) of
the last epoch payload, the first position that no frame on the air covers. -/
structure Xcvr where
  bcastGen : Nat
  bcastCounter : Nat
  lateAsn : Option Nat
  expect : List Expect
  rr : Nat
  urgNext : Nat
  bres : List Nat
  epochSent : Nat
  busy : Nat
  deriving DecidableEq, Repr

/-- The Cydel MAC (chapter 5). `radio` holds the rows of the staged radio settings that are in force (R139). -/
structure Mac where
  clusters : NMap Cluster
  nodes : NMap Node
  gate : NMap (NMap Bucket)
  duty : NMap (NMap Bucket)
  blank : Pair Blank
  xcvrs : List Xcvr
  joins : List Join
  waiting : List JoinWait
  copies : List GroupCopy
  radio : NMap Row
  lastFrame : Nat
  restartAt : Nat
  probes : List Nat
  deriving DecidableEq, Repr

/-- A slot of the node image store (R192, 6:0400): state 0 empty, 1 loading, 2 READY. -/
structure NodeImage where
  id : Nat
  bytes : Nat
  blocks : Nat
  sha : Bytes
  state : Nat
  loaded : Nat
  data : NMap Bytes
  deriving DecidableEq, Repr

/-- Progress of a node's image (R194): ID, leading blocks held, the 64-bit window behind them. -/
structure Progress where
  id : Nat
  hold : Nat
  window : BitVec 64
  deriving DecidableEq, Repr

/-- A cancelled changeover whose CANCELLED payloads are due (R184, R186): up to which ASN, its number, switch ASN, hash, FLAGS and
IMAGE_ID. -/
structure Cancelled where
  until_ : Nat
  epoch : Nat
  switchAsn : Nat
  hash : Bytes
  flags : Nat
  imageId : Nat
  deriving DecidableEq, Repr

/-- The epoch changeover (R179, R190). Bitmaps are lists of node numbers; `frozen` holds the rows of lock group 14 and
the staged radio rows as EPOCH_OPEN froze them, `content` those of the epoch in force; `openAt` an accepted EPOCH_OPEN
that waits for its boundary (ASN, IMAGE_ID); `floorsIn` and `floorsNext` the four floors of each node as the manifests
of the epoch in force and of the next give them, `yearIn` and `yearNext` the years their sun tables are computed for,
`segIn` and `segNext` their segment parts (R170); `disarm` the epoch that each node must still disarm; `resume` 1 while beacons have not resumed
after a restart in ARMED, 2 where the check of R184 is past by then (R191); `kept` the STAGED, ARMED and VERIFIED bitmaps as the journal holds them. -/
structure Epoch where
  inForce : Nat
  state : Nat
  next : Nat
  abandoned : List Nat
  switchAsn : Nat
  radio : Bool
  image : Bool
  imageId : Nat
  hashInForce : Bytes
  hashNext : Bytes
  staged : List Nat
  armed : List Nat
  verified : List Nat
  heard : List Nat
  mismatched : Nat
  cancel : Option Cancelled
  resume : Nat
  openAt : Option (Nat × Nat)
  frozen : NMap Row
  content : NMap Row
  disarm : NMap Nat
  opener : Bytes
  zoneList : List (Nat × Int)
  zoneInForce : List (Nat × Int)
  floorsNext : NMap (List Nat)
  floorsIn : NMap (List Nat)
  yearNext : Nat
  yearIn : Nat
  segNext : Bytes
  segIn : Bytes
  held : NMap (List Nat)
  store : List NodeImage
  progress : NMap Progress
  kept : List Nat × List Nat × List Nat
  deriving DecidableEq, Repr

/-- The states of a track (R203). -/
inductive TrackState | free | tentative | confirmed | coasting | handed | ended
  deriving DecidableEq, Repr

/-- One lantern of a path (R207): node, distance from the last vertex in 0.1 m, the edge by which the path arrives there
(255 none), and the turns taken since the lantern before it: vertex, arriving edge, leaving edge. -/
structure Hop where
  node : Nat
  dist : Nat
  arr : Nat
  via : List (Nat × Nat × Nat)
  deriving DecidableEq, Repr

/-- What the last frame of a branch gave (R209): its time at entry 0 and when it was built (FAB), its SPEED, its lanterns
with their coded distances in 0.1 m. -/
structure LastFrame where
  eta0 : Nat
  built : Nat
  speed : Nat
  entries : List (Nat × Nat)
  deriving DecidableEq, Repr

/-- A HANDOFF not yet answered (R219): HSEQ, tries, the instant it was sent, the boundary vertex and its distance. -/
structure Handing where
  hseq : Nat
  tries : Nat
  at_ : Nat
  vertex : Nat
  dist : Nat
  deriving DecidableEq, Repr

/-- A track row (R203 to R209, R227). `branches` are the paths from the last vertex; `arrived` the edge it arrived by;
`speed` in cm/s; `lastAt` the last event's FAB instant; `votes` events per reported class; `frames` the last frames by
branch; `boundary` the boundary vertex a branch reaches and its distance; `handoff` a HANDOFF
not yet answered; `dead` the boundary vertices that are dead ends for this track. -/
structure Track where
  state : TrackState
  cls : Nat
  votes : List Nat
  vertex : Nat
  arrived : Option Nat
  heading : Option Nat
  speed : Nat
  measured : Bool
  lastAt : Nat
  lastTime : Nat
  lastAsn : Nat
  events : Nat
  tseq : Nat
  branches : List (List Hop)
  boundary : Option (Nat × Nat)
  fromModule : Nat
  fromTrack : Nat
  frames : List LastFrame
  endedAt : Nat
  handoff : Option Handing
  dead : List Nat
  version : Nat
  deriving DecidableEq, Repr

/-- A presence event waiting for the tracker (R200 to R202): event instant and arrival in FAB cycles. -/
structure Presence where
  vertex : Nat
  kind : Nat
  data : Nat
  at_ : Nat
  arrived : Nat
  deriving DecidableEq, Repr

/-- A trajectory frame (R211) in a transceiver's queue (R210): need time, last entry's predicted time, since when it is queued. -/
structure TrajFrame where
  track : Nat
  cls : Nat
  ending : Bool
  tseq : Nat
  branch : Nat
  eta0 : Nat
  speed : Nat
  dunit : Nat
  level : Nat
  lead : Nat
  trail : Nat
  rampch : Nat
  entries : List (Nat × Nat)
  need : Nat
  lastEta : Nat
  queued : Nat
  deriving DecidableEq, Repr

/-- A boundary row (R217, 7:0110): state 1 waiting, 2 MATCHED, 3 UNMATCHED; the handshake's instant while no complete
list has come since. -/
structure Boundary where
  state : Nat
  nVertex : Nat
  nLength : Nat
  since : Option Nat
  deriving DecidableEq, Repr

/-- A BOUNDARY_LIST being assembled (R217): parts had, entries (BKEY, vertex, length). -/
structure BoundaryBuf where
  parts : Nat
  got : Nat
  entries : List (Nat × Nat × Nat)
  deriving DecidableEq, Repr

/-- A zone's lighting class (R222, R226): in force, source, since (TIME64), the adaptive choice, expected traffic; the policy
selection accepted last, with its expiry (FAB and TIME64), and the one in force; the override in force (class, TIME64 of its
end, 0 for none); the boundary ASNs that an accepted override and selection wait for. -/
structure Zone where
  cls : Nat
  source : Nat
  since : Nat
  adaptive : Nat
  expected : Nat
  policy : Option (Nat × Nat × Nat)
  policyNow : Option (Nat × Nat × Nat)
  ovrNow : Option (Nat × Nat)
  change : Option Nat
  policyChange : Option Nat
  deriving DecidableEq, Repr

/-- The tracker, floor guard and traffic history (chapter 7). `nowCount` counts passages of the hour by vertex × 4 +
class, `passages` those of them that a track took or an event started; `lists` the latest complete BOUNDARY_LIST of each
module; `hour`, `week` and `adaptHour` the civil hour (twice the hour, plus 1 in daylight-saving time) and week up to which the
history is kept and the hour of the last adaptive choice; `floors` the SET_FLOOR distribution still to answer by node × 4 + channel − 1; `clamps` is FLOOR_CLAMPS. -/
structure Traffic where
  tracks : NMap Track
  ingest : List Presence
  queues : List (List TrajFrame)
  bounds : NMap Boundary
  buffers : NMap BoundaryBuf
  lists : NMap (List (Nat × Nat × Nat))
  hseq : Nat
  answered : List (Nat × Nat × Nat × Nat)
  turnsNow : NMap Nat
  nowCount : NMap Nat
  passages : NMap Nat
  zones : NMap Zone
  floors : NMap Nat
  clamps : Nat
  gen : Nat
  trkAsn : Nat
  hour : Nat
  week : Nat
  adaptHour : Nat
  secEvents : Nat
  deriving DecidableEq, Repr

/-- A voltage phase (R234): ABSENT, its last valid crossing (FAB), consecutive valid crossings while ABSENT, the crossing that
the next interval is measured from. -/
structure Phase where
  absent : Bool
  last : Nat
  lastTime : Nat
  run : Nat
  base : Option Nat
  deriving DecidableEq, Repr

/-- The live quantities of a lane (R236, R237), primary values: per phase mV, mA, mW, mvar, mVA, 0.0001, 0.01°; µA. -/
structure Live where
  v : List Nat
  i : List Nat
  p : List Int
  q : List Int
  sa : List Nat
  pf : List Int
  avi : List Int
  av : List Nat
  freq : Nat
  ires : Nat
  isum : Nat
  ovr : Nat
  hot : Bool
  deriving DecidableEq, Repr

/-- A slot of the save ring (R246); `acc` are the seven billing values in units of 2^-32. -/
structure SaveSlot where
  seq : Nat
  time : Nat
  asn : Nat
  final : Bool
  flags : Nat
  acc : List Nat
  pmaxImp : Nat
  pmaxExp : Nat
  deriving DecidableEq, Repr

/-- A CURRENT_WITHOUT_VOLTAGE event (R251, R252): channels seen, start TIME64, seconds, mA·s and peak per channel. -/
structure Cwv where
  source : Nat
  channels : Nat
  ongoing : Bool
  folded : Bool
  start : Nat
  secs : Nat
  amps : List Nat
  peak : List Nat
  ct : List Nat
  folds : Nat
  below : Nat
  deriving DecidableEq, Repr

/-- One channel of a lane's pipeline (R232, R236, R239): the corrected samples that the interpolator still needs and the last 62
samples delivered, newest first; the DC blocker's estimate in 2^-30 of a sample. -/
structure ChanPipe where
  past : List Int
  dc : Int
  line : List Int
  deriving DecidableEq, Repr

/-- The ratios in force (R231): VT_RATIO in 2^-16, each current channel's range and CT primary, RES_RATIO. -/
structure Scale where
  vt : Nat
  range : List Nat
  prim : List Nat
  res : Nat
  deriving DecidableEq, Repr

/-- The metering of one lane (R233, R238, R243, R244): billing values and the increments since the last save in units
of 2^-32, whether it has measured since that save, largest powers, the sums of the squared currents (µA² × 2^46) and the samples
since the last whole second, the pipeline's channels, the samples of the running measurement period (eight channels, then V1 to
V3 shifted by 90°), the save ring. -/
structure LaneMeter where
  live : Live
  bill : List Nat
  inc : List Nat
  whole : Bool
  pmaxImp : Nat
  pmaxExp : Nat
  sq : List Nat
  n : Nat
  pipes : List ChanPipe
  wave : List (List Int)
  ring : NMap SaveSlot
  deriving DecidableEq, Repr

/-- A CAL_MEASURE in progress (R242). -/
structure CalJob where
  sid : Nat
  reqSeq : Nat
  handle : Nat
  phase : Nat
  step : Nat
  vref : Nat
  iref : Nat
  angle : Int
  ends : Nat
  leaseLeft : Nat
  deriving DecidableEq, Repr

/-- The battery domain's metering (R250 to R253): running, the absence of main power it stands in and since when, its interval
entry, CWV runs above the threshold by channel, the open event, the stored entries. -/
structure BattMeter where
  running : Bool
  away : Bool
  since : Nat
  start : Nat
  amps : List Nat
  seen : Nat
  hit : Bool
  above : List Nat
  prev : List Nat
  event : Option Cwv
  entries : List Cwv
  intervals : List (Nat × Nat × List Nat × Nat × Bool)
  deriving DecidableEq, Repr

/-- Metering (chapter 8). `refSince` is the FAB instant since which the reference phase has been present without
frequency fall-back (R332); `ref` the running period's reference phase, `first` its first crossing, `cyc` its cycles, `due` that
the period is to close, `began` when it began (R235); `inUse` the rows of CAL_MAIN and CAL_FALLBACK the period uses (R242), the
tables themselves where none; `lastClose` the last close of an energy interval, `cuts` the samples since then at which a ratio
changed, with the ratios before (R231); `top` the highest billing values reported (R244); `cwv` the open event of each of
I1 to I3 while the lanes run, with their runs above the threshold and the RMS of the window before. -/
structure Meter where
  phases : List Phase
  lanes : Pair LaneMeter
  freqFall : Bool
  refSince : Option Nat
  ref : Option Nat
  first : Nat
  cyc : Nat
  due : Bool
  began : Nat
  inUse : Option (List Row × List Row)
  lastClose : Nat
  cuts : List (Nat × Scale)
  top : List Nat
  saveSeq : Nat
  lastSave : Nat
  lastFinal : Nat
  nextSave : Nat
  above : List Nat
  prev : List Nat
  cwv : List (Option Cwv)
  cal : Option CalJob
  batt : BattMeter
  deriving DecidableEq, Repr

/-- A LED string (R263 to R274): the code in effect, measured current (µA) and voltage (mV), pad (0.1 °C) and when it last
changed, R(T) in millionths, the compensated current C (µA) and whether it is limited; latched cuts; fault state and runs;
`retest` the end of a retest. -/
structure StringSt where
  code : Nat
  current : Nat
  volts : Nat
  pad : Int
  padAt : Nat
  sensorBad : Bool
  rt : Nat
  comp : Nat
  limited : Bool
  hotLatch : Bool
  hwCut : Bool
  fault : Bool
  under : Bool
  openRun : List Nat
  shortRun : List Nat
  complSince : Option Nat
  complTold : Bool
  openSince : Option Nat
  faulty : BitVec 24
  opens : BitVec 24
  shorts : BitVec 24
  clamped : BitVec 24
  cross : Nat
  retest : Option Nat
  deriving DecidableEq, Repr

/-- A Flowstone engine (R275, R278): 0 idle, 1 running, 2 waiting, 3 fault; `waitKind` 1 WAIT, 2 RAMP (start, target, ticks),
3 SYNC, 4 TWAIT, 5 stuck at a word that is not defined; `left` its ticks, period or mask. -/
structure Engine where
  own : BitVec 4
  state : Nat
  fault : Nat
  sig : Nat
  pc : Nat
  lvl : Nat
  base : Nat
  first : Nat
  last : Nat
  mask : BitVec 4
  cnt : List Nat
  trig : BitVec 4
  left : Nat
  waitKind : Nat
  ramp : Option (Nat × Nat × Nat)
  prog : List Word32
  deriving DecidableEq, Repr

/-- The LED stage and the anchor drive (chapter 9). `acc` the 96 carries (R261), `lit` the lit cycles of the period,
`safe` the stage's copy of SAFE_LIGHT by string (code, duty), `cap` K in millionths, `period`, `second` and `index` the running period (R260),
`crossRun` the periods in a row in which a pair looked shorted, `ctrlAt` the last 100 ms computation, `tickAt` the TAI
millisecond of the engines' last tick. -/
structure Led where
  set : LedSet
  lastSet : Nat
  safeOn : Bool
  safe : List (Nat × Nat)
  acc : List Nat
  lit : List (Nat × Nat)
  strings : List StringSt
  cap : Nat
  capActive : Bool
  power : Nat
  crossRun : NMap Nat
  crossSuspect : Bool
  period : Nat
  second : Nat
  index : Nat
  ctrlAt : Nat
  tickAt : Nat
  deriving DecidableEq, Repr

/-- What a health deduction is for (R288). -/
inductive HealthCause | ecc | busWd
  deriving DecidableEq, Repr

/-- Why a lane is condemned (the column of A:0011). -/
inductive Condemn | none | uncorrectable | correctedRate | lockstep | vault | watchdog | unitFail | layout
  deriving DecidableEq, Repr

/-- Where a lane stands in resynchronisation (R295): not in it, waiting to be let in (step 2 not begun), state transfer,
delta log, comparison. -/
inductive Resync | idle | waiting | transfer | compare
  deriving DecidableEq, Repr

/-- One continuously tested unit (R299): 0 OK, 1 WARN, 2 FAIL; last test TIME64; failures. -/
structure UnitSt where
  state : Nat
  tested : Nat
  failures : Nat
  deriving DecidableEq, Repr

/-- What one core's latch of the time window holds (R329). -/
structure TimeLatch where
  hi : Word32
  asnLo : Word32
  asnHi : Word32
  tstat : Word32
  deriving DecidableEq, Repr

/-- A switchover that waits for its boundary (R292, R298): the lane to take over, the cause, its apply ASN. -/
structure Switch where
  target : Lane
  cause : Nat
  applyAsn : Nat
  deriving DecidableEq, Repr

/-- An input a lane holds without its tag (R16, R17). -/
structure HeldInput where
  hash : Nat
  source : Nat
  since : Nat
  deriving DecidableEq, Repr

/-- OFFER and ACCEPT as this module sends them (R309): the neighbour's nonce, its own time, anchor, quality, master and
grants, and the PROOF. -/
structure ProofMsg where
  nonce : Nat
  time : Nat
  anchor : Int
  quality : Nat
  master : Nat
  grant : List Nat
  proof : Bytes
  deriving DecidableEq, Repr

/-- The payload of a trunk frame of the module's own (R308 to R324, R217, R218, R321): `ibier` carries a datagram of its
own to a head-end, `relay` one of another (head-end, MODULE, TCLASS, its size), `passed` is the payload of a frame passed
through as it came, `spoiled` of one whose TAG failed, ended with an inverted FCS (R307). -/
inductive TMsg
  | hello (m : HelloMsg)
  | offer (m : ProofMsg)
  | accept (m : ProofMsg)
  | credit (freed : List Nat)
  | dcredit (reset : Bool) (freed held grant : List Nat)
  | topo (m : TopoMsg)
  | linkReport (node stateTA neighTA stateTB neighTB : Nat)
  | breakMsg (nodeA nodeB tgen : Nat)
  | status (m : StatusMsg)
  | ibier (peer : Peer) (d : Dgram)
  | relay (peer : Peer) (module tclass size : Nat)
  | passed
  | spoiled
  | handoff (m : HandoffMsg)
  | handoffAck (source hseq track status : Nat)
  | boundaryList (source part parts : Nat) (entries : List (Nat × Nat × Nat))
  | surveySnap (asn : Nat)
  | surveyRec (record : Bytes)
  | image (styp : Nat) (h : StreamHdr) (body : Bytes)
  deriving DecidableEq, Repr

/-- A trunk port (R305 to R312, R320): the R90 state, the SFP, whether it is unsuitable, and its wiring, the neighbour's HELLO, this side's link-start
instant and nonce, the frame counters, the credit books by class × 2 + VC (the neighbour's GRANT by class; units sent and the
FREED heard; units freed here and those last reported), the measured round trip in ns, the frames waiting for
this egress and since when, this node's messages to every node that wait for it, and by class whether the frame served last was this
node's own (R310), and when the port last sent an Announce (R320). -/
structure Port where
  state : Nat
  present : Bool
  unsuit : Bool
  negotiated : Bool
  miswired : Bool
  dup : Bool
  peer : Option HelloMsg
  started : Nat
  nonce : Nat
  wasUp : Bool
  grant : List Nat
  sent : List Nat
  freed : List Nat
  inFreed : List Nat
  reported : List Nat
  firstFree : Option Nat
  lastCredit : Nat
  rtt : Nat
  long : Bool
  exchanges : Nat
  fcntTx : Nat
  fcntRx : Nat
  wait : List TrunkFrame
  waitSince : Option Nat
  flood : List TMsg
  lastOwn : List Bool
  announced : Option Nat
  deriving DecidableEq, Repr

/-- The destination credit this node holds at one destination (R315), by U, N, S: GRANT in bytes, bytes sent, FREED; and the
NOTICEs of class N among them, by the bytes sent once each had left, and its size (R388). -/
structure DestCredit where
  grant : List Nat
  sent : List Nat
  freed : List Nat
  notes : List (Nat × Nat)
  deriving DecidableEq, Repr

/-- What this node's receive store holds from one source (R315), by U, N, S: bytes held, freed in all, freed when
DCREDIT last left, and that instant. -/
structure SrcShare where
  held : List Nat
  freed : List Nat
  reported : List Nat
  sentAt : Nat
  deriving DecidableEq, Repr

/-- A member as the master keeps it (R323): its last STATUS, when it came, whether it is SILENT. -/
structure Member where
  status : StatusMsg
  at_ : Nat
  silent : Bool
  deriving DecidableEq, Repr

/-- The trunk (chapter 11). `topo` is the TOPO in force, `later` one that waits for the superframe boundary, `cut` the
links routed around since BREAK, `reports` the ports each node last reported (state TA, neighbour TA, state TB,
neighbour TB), `hand` an accepted MASTER_HANDOVER with its apply ASN, `moved` whether module 0 has handed its duties to the
deputy, `voq` this node's own messages that wait for credit (destination, class, message; R315), oldest first; `turn` the destination served
last of each class; `heads` the gateway
by which each head-end's datagrams come to the master (R321). -/
structure Trunk where
  ports : List Port
  topo : Option TopoMsg
  later : Option (TopoMsg × Nat)
  tgen : Nat
  cut : List (Nat × Nat)
  reports : NMap (Nat × Nat × Nat × Nat)
  members : NMap Member
  dests : NMap DestCredit
  srcs : NMap SrcShare
  hand : Option (Bool × Nat)
  moved : Bool
  voq : List (Nat × Nat × TMsg)
  turn : List Nat
  heads : List (Peer × Nat)
  deriving DecidableEq, Repr

/-- The real-time clock of a lane (R328, R337, 2:0030). -/
structure Rtc where
  stopped : Bool
  rate : Int
  stops : Nat
  temp : Int
  realigned : Nat
  deriving DecidableEq, Repr

/-- The time base (chapter 12): PTP lock, holdover, trims and the battery-domain values. `offsetRun` counts Syncs in a
row within ±10 µs; `pendingStep` is (correction in cycles, the ASN it applies at, its source, its client). -/
structure TimeBase where
  locked : Bool
  everLocked : Bool
  offsetRun : Nat
  lastSync : Nat
  misses : Nat
  goodRun : Nat
  holdover : Bool
  holdoverAt : Nat
  asnSlewing : Bool
  conflict : Bool
  unexplained : Option Nat
  held : Bool
  trimmed : Bool
  windows : List Int
  pendingStep : Option (Int × Nat × Nat × Bytes)
  oscStopped : Bool
  rtcs : Pair Rtc
  deriving DecidableEq, Repr

/-- The life-cycle states (R354). -/
inductive Lc | blank | stock | owned | tampered | returned | scrapped
  deriving DecidableEq, Repr

/-- The operations of the vault mailbox (R353). -/
inductive VaultOp | derive | loadSlot | sign | verify | ecdh | aeadSeal | aeadOpen | hmac | wrapExport | unwrapImport
  deriving DecidableEq, Repr

/-- One lane's Shallot vault and its mailbox (R345 to R353): the owner root it holds, whether it holds the factory and return roots, UNSEALED, the last known-answer test (TIME64, FAB), lane-local zeroisations (count, FAB instants), ignored GO,
the last cause, CMD.OP, the operation in progress with the core that wrote GO, the mailbox registers and DATA words, and the keys behind the valid
handles. -/
structure Vault where
  root : Option Bytes
  roots : Bool
  unsealed : Bool
  katAt : Nat
  katFab : Option Nat
  katBad : Bool
  zeroised : Nat
  zeroTimes : List Nat
  ignored : Nat
  cause : Nat
  op : Nat
  busy : Option (VaultOp × Core)
  err : Bool
  handle : Nat
  inLen : Nat
  outLen : Nat
  data : NMap Word32
  handles : NMap Bytes
  keys : Bool
  deriving DecidableEq, Repr

/-- A tamper record or suspension entry (R370). -/
structure TamperRec where
  moment : Nat
  lcBefore : Nat
  sources : BitVec 16
  time : Nat
  tripped : Nat
  folds : Nat
  zeroised : Nat
  flags : Nat
  deriving DecidableEq, Repr

/-- Life cycle and tamper (chapter 13): LC_STATE and TAMPER_CAUSE, the public values kept in MRAM, the claim count and
lockout (end instant), the cascade trunk key, an ENC suspension (end instant, granted ms), the live tripped inputs, the last trip's
(FAB instant, record), the records in the battery domain, and whether the module has ever been commissioned (R128). -/
structure Life where
  state : Lc
  cause : Nat
  rootId : Bytes
  attestPub : Bytes
  trunkKeyId : Bytes
  trunkKey : Bytes
  claimBad : Nat
  lockout : Option Nat
  suspend : Option (Nat × Nat)
  inputs : BitVec 16
  lastTrip : Option Nat
  firstTrip : Nat
  seen : BitVec 16
  store : List TamperRec
  newRoot : Bool
  everOwned : Bool
  deriving DecidableEq, Repr

/-- A record of the Dripstone recorder (R374). -/
structure Record where
  typ : Nat
  sev : Nat
  summary : Bool
  origin : Nat
  late : Bool
  rseq : Nat
  time : Nat
  rep : Nat
  source : Nat
  lastMs : Nat
  payload : Bytes
  deriving DecidableEq, Repr

/-- A page of the recorder (R379); records oldest first. -/
structure RecPage where
  pageSeq : Nat
  firstRseq : Nat
  maxSev : Nat
  drain : Nat
  records : List Record
  deriving DecidableEq, Repr

/-- The notice window of one subscription and one record type (R387). -/
structure NoticeWin where
  sub : Nat
  typ : Nat
  sent : Nat
  folded : Nat
  loSev : Nat
  hiSev : Nat
  firstRseq : Nat
  lastRseq : Nat
  firstTime : Nat
  lastTime : Nat
  firstSrc : Nat
  lastSrc : Nat
  noticed : List Nat
  deriving DecidableEq, Repr

/-- The engine state of one SUMMARY_CONFIG row (R383). -/
structure Summary where
  start : Nat
  samples : Nat
  lo : Int
  loTime : Nat
  hi : Int
  hiTime : Nat
  sum : Int
  under : Nat
  ovr : Nat
  bins : List Nat
  partialFlag : Bool
  deriving DecidableEq, Repr

/-- The Dripstone recorder (chapter 14): submission queue (oldest first), pages by number, the open page, the last
RSEQ and PAGE_SEQ given, the repeats grown in this window by RSEQ, notice windows and token buckets (a token is
400,000,000 units, a rate of r tokens a second adds r units a cycle; negative is debt, R388), summaries, and each lane's holding queue while LAGGING (R380),
and whether a power loss left a record half written (R381). -/
structure Recorder where
  queue : List Record
  pages : NMap RecPage
  openPage : Option Nat
  rseq : Nat
  written : Nat
  pageSeq : Nat
  grown : NMap Nat
  wins : List NoticeWin
  normal : Int
  reserved : Int
  refilled : Nat
  sums : NMap Summary
  held : Pair (List Record)
  draining : Bool
  torn : Bool
  deriving DecidableEq, Repr

/-- One interrupt source of a lane's ICU (R390 to R402): target, priority, enabled, pending (edge sources), level line,
the target whose claim is active, whether that claim's first PENDING read is still to come, merged and empty counts,
the instant it last became pending, and when it was last disabled. -/
structure IcuSrc where
  target : Nat
  prio : Nat
  enabled : Bool
  pending : Bool
  line : Bool
  active : Option Nat
  unread : Bool
  merged : Nat
  empties : Nat
  since : Nat
  cleared : Option Nat
  deriving DecidableEq, Repr

/-- One target of a lane's ICU (R392 to R396): threshold, the claims not completed (source, priority) innermost first,
counters of stray, late and NONE, RESET_DROP, since when its level stands above 0, and ICU_STUCK. -/
structure IcuTarget where
  threshold : Nat
  stack : List (Nat × Nat)
  stray : Nat
  late : Nat
  none_ : Nat
  resetDrop : Bool
  since : Nat
  stuck : Bool
  deriving DecidableEq, Repr

/-- A lane's ICU (chapter 15). Sources are held sparsely: an absent one is at its reset value (R405). `wokeAt` is the FAB
instant of the last restart from stop. -/
structure Icu where
  srcs : NMap IcuSrc
  targets : List IcuTarget
  wakeEn : BitVec 64
  wakeLatch : BitVec 64
  stopped : Bool
  wokeAt : Option Nat
  deriving DecidableEq, Repr

/-- A requester of a Gour arbiter (R408 to R414): REFILL in force and as written for the next window, counter, grants
used in the window, the waiting requests oldest first (arrival, cost, parked), AGE, and its counters. -/
structure GReq where
  refill : Nat
  next : Nat
  credit : Nat
  used : Nat
  waiting : List (Nat × Nat × Bool)
  grants : Nat
  waits : Nat
  longest : Nat
  withdrawn : Nat
  deriving DecidableEq, Repr

/-- A Gour arbiter (R407 to R416): the requesters that are not at reset, the alarm and pending-full bits and count,
WAIT_ALARM, dead units, the partner granted last and those granted in this window (trunk), granted and not yet done. -/
structure Arb where
  reqs : NMap GReq
  alarm : Bool
  pendFull : Bool
  pendFullN : Nat
  waitAlarm : Nat
  dead : Nat
  lastGrant : NMap Nat
  granted : List Nat
  holding : Option (Nat × Nat × Nat)
  deriving DecidableEq, Repr

/-- A word of a Sump queue (R417, R420): its 64 bits, whether it ends its packet, wrong bits in storage (0, 1, 2). -/
structure SumpWord where
  data : BitVec 64
  last : Bool
  bad : Nat
  deriving DecidableEq, Repr

/-- A Sump queue (R417 to R422): words oldest first, the low half written for the next push, whether its
producer is inside a packet with how many words to come, whether the rest of the producer's packet is discarded on arrival, and its counters. -/
structure SumpQ where
  words : List SumpWord
  low : Word32
  mid : Bool
  remain : Nat
  dropping : Bool
  flushAt : Option Nat
  corr : Nat
  uncorr : Nat
  flushed : Nat
  flushedPartial : Nat
  overrun : Nat
  stalls : Nat
  deriving DecidableEq, Repr

/-- A slice in progress (R428, R431, R432): its item, whether it is a retest, the start instant, whether it records SKIPPED. -/
structure Slice where
  row : Nat
  retest : Bool
  started : Nat
  skip : Bool
  deriving DecidableEq, Repr

/-- A sweep (R436): mask, rows still to run, counts of PASS, WARN, FAIL, SKIPPED. -/
structure Sweep where
  mask : Nat
  rows : List Nat
  counts : List Nat
  deriving DecidableEq, Repr

/-- The self-test (chapter 17): the next row of the rotation, requested rows (R273), retests due, the slice in progress,
SWEEP_STATE, the sweep, stopped by a failed restore, no further slice before restart (R431); the tick served last plus 1, the
position of the last slice, the input edges of the slice in progress and the writes that went into its copy (R431, R433); of the
strings that it drives, the copy of the code and of each position's lit interval (R273, R431). -/
structure SelfTest where
  next : Nat
  requests : List Nat
  retests : List Nat
  slice : Option Slice
  sweepState : Nat
  sweep : Option Sweep
  stopped : Bool
  barred : Bool
  lastTick : Nat
  lastAsn : Option Nat
  edges : NMap Bool
  copy : NMap Bool
  saved : NMap (Nat × List (Nat × Nat))
  deriving DecidableEq, Repr

/-- Why the lanes last started (0:0440). -/
inductive StartCause | cold | vStop | laneRestart | recommission
  deriving DecidableEq, Repr

/-- The power path and the battery domain (chapter 18): the power-fail warning, main power, the LED and keep-alive
converters, the sheds of the LED supply by cause, the coil supply (decivolts; when lost), VBD's dip (start instant,
fell below 1.6 V), the latch (RETENTION_LOST, tamper pending with its sources and instant), the canary, out of the
input range, the input and supply measurements being 0:0401 ff., the restart that follows a command's reply, and what the next start-up needs. -/
structure Power where
  warning : Bool
  warnTime : Option Nat
  warnFab : Nat
  mainOn : Bool
  ledOk : Bool
  ledShed : Bool
  hotShed : Bool
  keepaliveOk : Bool
  coil : Bool
  coilDv : Nat
  coilLost : Nat
  dip : Option (Nat × Bool)
  lost : Bool
  tamperPending : Option (BitVec 16 × Nat)
  canary : Bool
  inputBad : Bool
  restart : Option StartCause
  cause : StartCause
  porFab : Nat
  deriving DecidableEq, Repr

/-- A contactor output K0 to K3 (R443, R496): commanded and driven state, TRIPPED, a pending state, the instant of the
last driven change, and the stage's own copy of OUT_POWERON. -/
structure Output where
  cmd : Bool
  pin : Bool
  tripped : Bool
  pend : Option Bool
  changed : Option Nat
  powerOn : Bool
  deriving DecidableEq, Repr

/-- Outputs and inputs of J8 (chapter 20); `scrap` is SCRAP's hold of every output (R361). -/
structure Io where
  outs : List Output
  inputs : BitVec 8
  scrap : Bool
  deriving DecidableEq, Repr

/-- An image bank (R90, D:0011): 0 empty, 1 valid, 2 staged, 3 failed; the image's header facts, when it was staged,
the check of R466 that failed, and the bytes written since reset, by offset. -/
structure Bank where
  state : Nat
  img : Option ImageHdr
  staged : Nat
  failStep : Nat
  data : NMap Bytes
  deriving DecidableEq, Repr

/-- A lane's boot record and run (R461, R466, R467): NEXT_BANK, confirmed bank, TRIAL with its retries and start, floor,
committed layout; the running bank, since when it holds a role, ROM recovery, and the bank whose trial failed. -/
structure Boot where
  next : Option Nat
  confirmed : Nat
  trial : Bool
  retries : Nat
  trialStart : Nat
  floor : Nat
  layout : Nat
  running : Nat
  recovery : Bool
  deriving DecidableEq, Repr

/-- A transfer (R463 to R465): row 0 lane A, 1 lane B, 2 node image store. `got` are the received ranges, rising and
apart, `data` the bytes by offset; `programming` the image END found complete, while the bank is written; `closed` once
it is finished, when the row still shows it. -/
structure Transfer where
  tid : Nat
  kind : Nat
  lanes : Nat
  total : Nat
  sha : Bytes
  got : List (Nat × Nat)
  opened : Nat
  last : Nat
  programming : Option ImageHdr
  closed : Bool
  data : NMap Bytes
  deriving DecidableEq, Repr

/-- Firmware (chapter 19): banks by lane × 2 + bank, the lanes' boot records, ACTIVE_LEVEL, transfers by row, a
pre-migration copy held until commit (R471), an accepted FW_COMMIT's apply ASN, the layout
of each lane's live settings copy and of its pre-migration copy. -/
structure Firmware where
  banks : List Bank
  boots : Pair Boot
  activeLevel : Nat
  transfers : NMap Transfer
  uncommitted : Bool
  commitAt : Option Nat
  live : Pair Nat
  pre : Pair (Option Nat)
  deriving DecidableEq, Repr

/-- What a broadcast frame's payload is (R155, R156): PTYPE 00h to 05h; a trajectory with its BASE_ETA (R211), a join part with the
join key and what it holds (R149). -/
inductive Payload
  | none
  | traj (f : TrajFrame) (base : Int)
  | copy (admSeq kind group expiry endpoints func : Nat) (args : Bytes)
  | epoch (state next switchAsn : Nat) (hash : Bytes) (flags imageId : Nat)
  | join (ptype part : Nat) (key content : Bytes)
  deriving DecidableEq, Repr

/-- A frame on the air before it is sealed (R155, R157, R175), or the answer code to an uplink frame that began at an ASN
(R140, R143). -/
inductive Air
  | beacon (flags asn module xcvr taiS subsec : Nat) (utc : Int) (epoch : Nat) (blankCur blankNext : BitVec 64)
      (urgOwn : List Nat) (p : Payload)
  | command (cluster cevent cfs expiry admSeq targets endpoints func : Nat) (args : Bytes) (alt : Bool)
  | segment (cluster cevent cfs expiry admSeq targets kind objId index frag : Nat) (data : Bytes) (alt : Bool)
  | echo (cluster cevent seq : Nat) (alt : Bool)
  | context (cluster cevent : Nat) (row : Row) (alt : Bool)
  | answer (cluster code asn : Nat)
  deriving DecidableEq, Repr


/-- What leaves the block, as a plain record of it (log entry 10). Each constructor names the rule that gives the
thing sent. -/
inductive Out
  /-- An Ibier datagram that leaves by the service port (R66, R67). -/
  | ibier (assoc : Nat) (d : Dgram)
  /-- A member's datagram that leaves by the master's service port (R67, R321). -/
  | relayed (peer : Peer) (module tclass size : Nat)
  /-- The end of a DTLS handshake (R64). -/
  | handshake (assoc : Nat)
  /-- The answer to a lane-local register read (R22). -/
  | regData (lane : Lane) (core : Core) (addr : Nat) (value : Word32)
  /-- A bus error answered to a core (R22). -/
  | busError (lane : Lane) (core : Core) (addr : Nat)
  /-- An order tag over the lane bridge (R16). -/
  | orderTag (seq source hash : Nat)
  /-- A whole input sent over the lane bridge (R17). -/
  | forward (seq source hash : Nat)
  /-- A frame or answer code keyed (R123): transceiver, ASN, channel. -/
  | radio (xcvr asn chan : Nat) (f : Air) (psdu : Bytes)
  /-- A trunk frame (R307): the port it leaves by, its header, its payload, its TAG. -/
  | trunk (port : Nat) (f : TrunkFrame) (m : TMsg) (tag : Bytes)
  /-- A frame that streams through is ended with an inverted FCS after a flush (R419): the port it leaves by. -/
  | streamCut (port : Nat)
  /-- A port begins to send configuration ordered sets with remote fault "link failure" (R306). -/
  | remoteFault (port : Nat)
  /-- A PTP Sync (R320), under the AUTHENTICATION TLV of the port's link key: the port it leaves by, PTP_DOMAIN, its TIME64. -/
  | ptpSync (port domain time : Nat)
  /-- A PTP Announce (R320), under the same TLV: the port it leaves by, PTP_DOMAIN. -/
  | ptpAnnounce (port domain : Nat)
  /-- A reply on the service stream, in the 24 bytes of R463: association, message. -/
  | stream (assoc : Nat) (msg : Bytes)
  deriving DecidableEq, Repr

/-- The two lanes together (chapters 1 and 10): bridge links, the input order, released and computed output sequence
numbers, pending comparison records per lane (sequence, kind, hash, arrival), the highest sequence matched, decisions under way; `asked` are the SWITCHOVER requests (session, REQ_SEQ) that wait for a self-check's decision (R298);
the last write of the ownership flip-flop with its FAB cycle, whether lane B's comparator status shows a refusal, and the ASN at
which it asks again (R15). -/
structure LanePair where
  links : Pair Bool
  owner : Option Lane
  inputSeq : Nat
  held : List HeldInput
  tags : List (Nat × Nat × Nat)
  orphans : List Nat
  outSeq : Nat
  waiting : List (Nat × Nat × Out)
  released : Nat
  records : Pair (List (Nat × Nat × Nat × Nat))
  matched : Nat
  checking : Option (Nat × Nat × Nat × Nat × Bool)
  flaps : List Nat
  planned : Option Switch
  switch : Option Switch
  agreedAt : Option Nat
  asked : List (Nat × Nat)
  ownerReq : Option (Lane × Nat)
  refusedB : Bool
  retryB : Option Nat
  deriving DecidableEq, Repr

/-- One lane (R11, R26, R280 to R299, R329, R45, R25): its role and whether it runs, its condemnation and health events,
its counters since lane start by counter key, the cores' time latches, the semaphores (holder's number plus 1), the lane-local memory (R22), the addresses of the MRAM words a core wrote (R13), its ICU, Gour arbiters and Sump queues that are not at reset, the cores'
stalled queue reads (queue, since), the bus watchdog limits, its vault, the halves of its policy admission port (A2, A3) with the
copies under way (R121, R226) and, in the standby, the active lane's verdicts on submissions that the standby's own core has still to make (R16), its Flowstone engines (R278), the register writes of the running FAB cycle (cycle, core, address,
value; R24). -/
structure LaneSt where
  role : Role
  running : Bool
  alive : Bool
  cause : Condemn
  health : List (HealthCause × Nat)
  upSince : Nat
  report : Option (Nat × Bool)
  wasActive : Bool
  resync : Resync
  ecc : List Nat
  uncorrAt : Option Nat
  checker : Bool
  katFail : Bool
  wdExpired : Bool
  units : List UnitSt
  cnt : NMap Nat
  latches : List TimeLatch
  sems : List Nat
  roleSince : Nat
  bootAt : Option Nat
  mem : List Host.Cell
  wrote : List Nat
  icu : Icu
  arbs : NMap Arb
  sumps : NMap SumpQ
  stalls : List (Option (Nat × Nat))
  busWd : List Nat
  vault : Vault
  ports : Pair PortHalf
  copies : Pair (Option HistJob)
  owed : List (Core × (Reply ⊕ Nat))
  engines : List Engine
  writes : List (Nat × Nat × Nat × Word32)
  deriving DecidableEq, Repr

/-- The whole block: everything the spec gives the module, the model's own log of what left it (`out`, newest first),
the model's count of free values drawn (`free`), and the queue of waiting commands, first in, first out. -/
structure State where
  pending : List Instr
  clk : Clock
  ib : Ibier
  dict : Dict
  adm : Admission
  mac : Mac
  epoch : Epoch
  trk : Traffic
  met : Meter
  led : Led
  lanes : Pair LaneSt
  lp : LanePair
  time : TimeBase
  recd : Recorder
  trunk : Trunk
  life : Life
  test : SelfTest
  power : Power
  io : Io
  fw : Firmware
  out : List Out
  free : Nat
  deriving DecidableEq, Repr

/-- The faults of the block. -/
inductive Fault
  /-- Raised by a register access whose address lies beyond the 32-bit address space (R22): no such address exists, so
  the command cannot reach the block. Safe: the model stops where there is nothing to model. -/
  | noSuchAddress
  deriving DecidableEq, Repr

/-- The refusals of the block. -/
inductive Refusal
  /-- A command with no meaning yet. Safe. -/
  | notModelled (mnemonic : String)
  deriving DecidableEq, Repr

/-- Both lanes alike. -/
def both {α : Type} (x : α) : Pair α := { a := x, b := x }

/-- An RTC at reset (R337: OSC_STOPPED true until time is set). -/
def Rtc.init : Rtc := { stopped := true, rate := 0, stops := 0, temp := 0, realigned := 0 }

/-- A half of the admission port at reset (R121). -/
def PortHalf.init : PortHalf :=
  { arg := List.replicate 1024 0, dclass := 0, obj := 0, deadline := 0, len := 0, busy := false, detail := 0,
    done := false, status := 0, ticket := 0, earliest := 0, failing := 0, badbuf := false, ready := false,
    compBuf := 0, compLen := 0, pending := [], want := none }

/-- A cluster context at reset. -/
def Cluster.init : Cluster :=
  { cevent := 0, keyGen := 0, counter := 0, servingAlt := false, swaps := 0, missPri := 0, missAlt := 0,
    askedPri := false, askedAlt := false, hitPri := false, hitAlt := false, lastEchoPri := 0, lastEchoAlt := 0,
    restoreRun := 0, swapDue := false, backDue := false, ctxAnswered := 0, ctxOld := none, echoSeq := 0, more := false,
    duePri := false, dueAlt := false, cfs := 0 }

/-- A node of which nothing is known. -/
def Node.init : Node :=
  { joined := 0, hist := [], shock := none, heardFab := 0, heard := 0, rssi := 0, upCounter := none, bursts := [] }

/-- A transceiver at reset. -/
def Xcvr.init : Xcvr :=
  { bcastGen := 0, bcastCounter := 0, lateAsn := none, expect := [], rr := 0, urgNext := 0, bres := [], epochSent := 0,
    busy := 0 }

/-- An empty node image slot (R192). -/
def NodeImage.init : NodeImage :=
  { id := 0, bytes := 0, blocks := 0, sha := List.replicate 32 0, state := 0, loaded := 0, data := [] }

/-- A FREE track row (R227 reset column). -/
def Track.init : Track :=
  { state := .free, cls := 0, votes := [0, 0, 0, 0], vertex := 0, arrived := none, heading := none, speed := 0,
    measured := false, lastAt := 0, lastTime := 0, lastAsn := 0, events := 0, tseq := 0, branches := [],
    boundary := none, fromModule := 255, fromTrack := 0, frames := [], endedAt := 0, handoff := none,
    dead := [], version := 0 }

/-- A zone whose class nothing has changed: its default class M6 is in force (R222, R229). -/
def Zone.init : Zone :=
  { cls := 5, source := 0, since := 0, adaptive := 5, expected := 0, policy := none, policyNow := none, ovrNow := none,
    change := none, policyChange := none }

/-- A lane's live quantities before the first measurement period. -/
def Live.init : Live :=
  { v := [0, 0, 0], i := [0, 0, 0, 0], p := [0, 0, 0], q := [0, 0, 0], sa := [0, 0, 0], pf := [0, 0, 0],
    avi := [0, 0, 0], av := [0, 0, 0], freq := 50000, ires := 0, isum := 0, ovr := 0, hot := false }

/-- A lane's metering at reset: registers at 0, the ring empty. -/
def LaneMeter.init : LaneMeter :=
  { live := Live.init, bill := List.replicate 7 0, inc := List.replicate 7 0, whole := false, pmaxImp := 0, pmaxExp := 0,
    sq := [0, 0, 0, 0], n := 0, pipes := List.replicate 8 { past := [], dc := 0, line := [] }, wave := List.replicate 11 []
    ring := [] }

/-- The battery domain's metering at reset. -/
def BattMeter.init : BattMeter :=
  { running := false, away := false, since := 0, start := 0, amps := [0, 0, 0, 0], seen := 0, hit := false
    above := [0, 0, 0, 0], prev := [0, 0, 0, 0], event := none, entries := [], intervals := [] }

/-- A phase before its first crossing: MET_STATE is 0 at reset (R255). -/
def Phase.init : Phase := { absent := false, last := 0, lastTime := 0, run := 0, base := none }

/-- A LED string at reset. -/
def StringSt.init : StringSt :=
  { code := 0, current := 0, volts := 0, pad := 250, padAt := 0, sensorBad := false, rt := 1000000, comp := 0,
    limited := false, hotLatch := false, hwCut := false, fault := false, under := false,
    openRun := List.replicate 24 0, shortRun := List.replicate 24 0, complSince := none, complTold := false, openSince := none,
    faulty := 0, opens := 0, shorts := 0, clamped := 0, cross := 255, retest := none }

/-- A Flowstone engine at reset (R278). -/
def Engine.init : Engine :=
  { own := 0, state := 0, fault := 0, sig := 0, pc := 0, lvl := 0, base := 0, first := 0, last := 23, mask := 0,
    cnt := [0, 0, 0, 0], trig := 0, left := 0, waitKind := 0, ramp := none, prog := List.replicate 64 0 }

/-- A core's time latch at reset (R329): OSC_STOPPED 1, QUALITY 100b. -/
def TimeLatch.init : TimeLatch := { hi := 0, asnLo := 0, asnHi := 0, tstat := 0x14 }

/-- A trunk port at link start (R305): dark. -/
def Port.init : Port :=
  { state := 0, present := false, unsuit := false, negotiated := false, miswired := false, dup := false, peer := none, started := 0,
    nonce := 0, wasUp := false, grant := [0, 0, 0, 0], sent := List.replicate 8 0, freed := List.replicate 8 0,
    inFreed := List.replicate 8 0, reported := List.replicate 8 0, firstFree := none, lastCredit := 0, rtt := 0,
    long := false, exchanges := 0, fcntTx := 0, fcntRx := 0, wait := [], waitSince := none, flood := [], lastOwn := List.replicate 4 false,
    announced := none }

/-- A vault at reset: no owner root, sealed (R346, R352). -/
def Vault.init : Vault :=
  { root := none, roots := false, unsealed := false, katAt := 0, katFab := none, katBad := false, zeroised := 0,
    zeroTimes := [], ignored := 0, cause := 0, op := 0, busy := none, err := false, handle := 0, inLen := 0, outLen := 0,
    data := [], handles := [], keys := false }

/-- An ICU target at reset. -/
def IcuTarget.init : IcuTarget :=
  { threshold := 0, stack := [], stray := 0, late := 0, none_ := 0, resetDrop := false, since := 0, stuck := false }

/-- A lane's ICU at reset: every source at its R405 reset value. -/
def Icu.init : Icu :=
  { srcs := [], targets := List.replicate 7 IcuTarget.init, wakeEn := 0, wakeLatch := 0, stopped := false,
    wokeAt := none }

/-- An empty Sump queue. -/
def SumpQ.init : SumpQ :=
  { words := [], low := 0, mid := false, remain := 0, dropping := false, flushAt := none, corr := 0, uncorr := 0, flushed := 0, flushedPartial := 0,
    overrun := 0, stalls := 0 }

/-- A Gour arbiter at reset. -/
def Arb.init : Arb :=
  { reqs := [], alarm := false, pendFull := false, pendFullN := 0, waitAlarm := 65535, dead := 0, lastGrant := [],
    granted := [], holding := none }

/-- An output whose commanded state nothing has set, with the stage's copy of OUT_POWERON at its default (R443, R506). -/
def Output.init : Output :=
  { cmd := false, pin := false, tripped := false, pend := none, changed := none, powerOn := true }

/-- An empty bank. -/
def Bank.init : Bank := { state := 0, img := none, staged := 0, failStep := 0, data := [] }

/-- The factory image, which passes every check of R466 (log entry 16). -/
def ImageHdr.factory : ImageHdr :=
  { magicOk := true, partMask := 7, version := 0, rollback := 0, stateLayout := 0, settingsLayout := 0,
    migrateFrom := 0, feature := 0, minPeer := 0, runtimeOk := true, policyLen := 0, policyVersion := 0,
    policyOk := true, policyKey := [] }

/-- Bank 0 as it leaves the factory: valid. -/
def Bank.factory : Bank := { state := 1, img := some ImageHdr.factory, staged := 0, failStep := 0, data := [] }

/-- A boot record at reset: bank 0 confirmed and running. -/
def Boot.init : Boot :=
  { next := none, confirmed := 0, trial := false, retries := 0, trialStart := 0, floor := 0, layout := 0, running := 0,
    recovery := false }

/-- A lane at reset: ROLE 00b (R26), every register at its reset value. -/
def LaneSt.init : LaneSt :=
  { role := .undecided, running := true, alive := true, cause := .none, health := [], upSince := 0,
    report := none, wasActive := false, resync := .idle, ecc := [], uncorrAt := none,
    checker := false, katFail := false, wdExpired := false,
    units := List.replicate 5 { state := 0, tested := 0, failures := 0 }, cnt := [],
    latches := List.replicate 6 TimeLatch.init, sems := List.replicate 64 0, roleSince := 0, bootAt := some 0,
    mem := [], wrote := [], icu := Icu.init, arbs := [], sumps := [], stalls := List.replicate 6 none,
    busWd := List.replicate 6 400000, vault := Vault.init,
    ports := both PortHalf.init, copies := both none, owed := [], engines := List.replicate 8 Engine.init, writes := [] }

/-- The block right after reset: no lane active, no session, every object at its default, the pending queue empty. -/
def State.reset : State :=
  { pending := []
    clk := { fab := 0, prev := 0, taiOff := 400000000, asnOff := 0, slew := none, aslew := none }
    ib := { handshakes := [], assocs := [], sessions := [], subs := [], seqs := [], orderNext := 0, comps := [],
            compNext := 0, compSeqs := [], heldFor := [], snaps := [], snapPending := [], surveys := [], names := 0 }
    dict := { store := [], logs := [], sticky := 0, stuckAt := [], live := 0, semReset := 0, journal := [], wear := [] }
    adm := { tickets := [], bookings := [] }
    mac := { clusters := [], nodes := [], gate := [], duty := [],
             blank := both Blank.init,
             xcvrs := List.replicate 4 Xcvr.init, joins := [], waiting := [], copies := [], radio := [], lastFrame := 0,
             restartAt := 0, probes := [] }
    epoch := { inForce := 0, state := 0, next := 0, abandoned := [], switchAsn := 0, radio := false, image := false,
               imageId := 0, hashInForce := List.replicate 8 0, hashNext := List.replicate 8 0, staged := [], armed := [],
               verified := [], heard := [], mismatched := 0, cancel := none, resume := 0, openAt := none, frozen := [],
               content := [], disarm := [], opener := [], zoneList := [], zoneInForce := [], floorsNext := [],
               floorsIn := [], yearNext := 2020, yearIn := 2020,
               segNext := List.replicate 230 0, segIn := List.replicate 230 0, held := [],
               store := [NodeImage.init, NodeImage.init], progress := [], kept := ([], [], []) }
    trk := { tracks := [], ingest := [], queues := [[], [], [], []], bounds := [], buffers := [], lists := [], hseq := 0,
             answered := [], turnsNow := [], nowCount := [], passages := [], zones := [], floors := [], clamps := 0, gen := 0,
             trkAsn := 0, hour := 350638, week := 1044, adaptHour := 350638, secEvents := 0 }
    met := { phases := List.replicate 3 Phase.init, lanes := both LaneMeter.init,
             freqFall := false, refSince := none, ref := none, first := 0, cyc := 0, due := false, began := 0, inUse := none
             lastClose := 0, cuts := [], top := List.replicate 7 0
             saveSeq := 0, lastSave := 0, lastFinal := 0, nextSave := 0, above := [0, 0, 0], prev := [0, 0, 0, 0],
             cwv := [none, none, none], cal := none, batt := BattMeter.init }
    led := { set := { duty := List.replicate 24 65535 ++ List.replicate 72 0, code := [512, 0, 0, 0] }, lastSet := 0,
             safeOn := true, safe := [(512, 65535), (0, 0), (0, 0), (0, 0)], acc := List.replicate 96 0,
             lit := (List.range 96).map (fun i => (260 * i % 25000, 0)), strings := List.replicate 4 StringSt.init, cap := 1000000, capActive := false,
             power := 0, crossRun := [], crossSuspect := false, period := 0, second := 0, index := 0,
             ctrlAt := 0, tickAt := 0 }
    lanes := both LaneSt.init
    lp := { links := both true, owner := none, inputSeq := 0, held := [], tags := [], orphans := [], outSeq := 0,
            waiting := [], released := 0, records := both [], matched := 0, checking := none, flaps := [],
            planned := none, switch := none, agreedAt := none, asked := [],
            ownerReq := none, refusedB := false, retryB := none }
    time := { locked := false, everLocked := false, offsetRun := 0, lastSync := 0, misses := 0, goodRun := 0,
              holdover := false, holdoverAt := 0, asnSlewing := false, conflict := false, unexplained := none,
              held := false, trimmed := false, windows := [], pendingStep := none,
              oscStopped := true, rtcs := both Rtc.init }
    recd := { queue := [], pages := [], openPage := none, rseq := 0, written := 0, pageSeq := 0, grown := [], wins := [],
              normal := 160000000000, reserved := 40000000000, refilled := 0, sums := [], held := both [], draining := false,
              torn := false }
    trunk := { ports := List.replicate 2 Port.init, topo := none, later := none, tgen := 0, cut := [], reports := [],
               members := [], dests := [], srcs := [], hand := none, moved := false, voq := [], turn := List.replicate 4 65, heads := [] }
    life := { state := .blank, cause := 0, rootId := List.replicate 8 0, attestPub := List.replicate 97 0,
              trunkKeyId := List.replicate 8 0, trunkKey := [], claimBad := 0, lockout := none, suspend := none, inputs := 0,
              lastTrip := none, firstTrip := 0, seen := 0, store := [], newRoot := false, everOwned := false }
    test := { next := 0, requests := [], retests := [], slice := none, sweepState := 0, sweep := none, stopped := false,
              barred := false, lastTick := 0, lastAsn := none, edges := [], copy := [], saved := [] }
    power := { warning := false, warnTime := none, warnFab := 0, mainOn := true, ledOk := true, ledShed := false,
               hotShed := false, keepaliveOk := true, coil := true, coilDv := 240, coilLost := 0, dip := none,
               lost := false, tamperPending := none, canary := true, inputBad := false, restart := none,
               cause := .cold, porFab := 0 }
    io := { outs := List.replicate 4 Output.init, inputs := 0, scrap := false }
    fw := { banks := [Bank.factory, Bank.init, Bank.factory, Bank.init], boots := both Boot.init, activeLevel := 0,
            transfers := [], uncommitted := false, commitAt := none, live := both 0, pre := both none }
    out := []
    free := 0 }

end Sys2Proof.Machine
end

