-- ==== Sys2Proof/Machine/Clock.lean ====
section
/-!
DEFINITION. Reading the block's time: FAB cycles, TAI, TIME64, the ASN and its superframes (R7, R8, R54, R328, R333).
-/
namespace Sys2Proof.Machine

/-- How much of a correction has been slewed by the FAB instant `now`: at most 500 ppm of the time since it began
(R333), never beyond the correction. -/
def slewDone (now : Nat) (w : Option Slew) : Int :=
  match w with
  | none => 0
  | some w =>
    let d : Int := ((now - w.start) / 2000 : Nat)
    if 0 ≤ w.amt then min w.amt d else max w.amt (-d)

/-- TAI in FAB cycles at a FAB instant, as the present offset gives it. The module's own time never lies earlier than
00:00:01 on the first day of TIME64 (R7): an offset that would take it earlier reads as that instant. -/
def taiAt (c : Clock) (f : Nat) : Nat := max Config.secCycles ((f : Int) + c.taiOff + slewDone f c.slew).toNat

/-- The slot timer in FAB cycles at a FAB instant. -/
def slotAt (c : Clock) (f : Nat) : Nat := ((f : Int) + c.asnOff + slewDone f c.slew + slewDone f c.aslew).toNat

/-- TIME64 of a TAI instant in FAB cycles (R7). -/
def toTime64 (cycles : Nat) : Nat := cycles * 16777216 / Config.secCycles

/-- A TIME64 as TAI in FAB cycles. -/
def ofTime64 (t : Nat) : Nat := t * Config.secCycles / 16777216

/-- The FAB time now. -/
def now (s : State) : Nat := s.clk.fab
/-- TAI now in FAB cycles. -/
def tai (s : State) : Nat := taiAt s.clk s.clk.fab
/-- TIME64 now. -/
def time64 (s : State) : Nat := toTime64 (tai s)
/-- TIME64 of a FAB instant. -/
def timeOf (s : State) (f : Nat) : Nat := toTime64 (taiAt s.clk f)
/-- The whole TAI seconds now. -/
def taiSec (s : State) : Nat := tai s / Config.secCycles
/-- The ASN now (R8). -/
def asn (s : State) : Nat := slotAt s.clk s.clk.fab / Config.slotCycles
/-- The superframe now. -/
def frame (s : State) : Nat := asn s / 256
/-- The ASN that holds a FAB instant. -/
def asnOf (s : State) (f : Nat) : Nat := slotAt s.clk f / Config.slotCycles

/-- The FAB instant at which an ASN starts, as the present offset gives it. -/
def fabOfAsn (s : State) (a : Nat) : Nat := ((s.clk.fab : Int) + (a * Config.slotCycles : Nat) - slotAt s.clk s.clk.fab).toNat

/-- The first superframe boundary that lies at least `cycles` FAB cycles ahead (R54: 20 ms; R334: 40 ms). -/
def boundaryAfter (s : State) (cycles : Nat) : Nat :=
  (slotAt s.clk s.clk.fab + cycles + Config.frameCycles - 1) / Config.frameCycles * 256

/-- The apply ASN of a commit accepted now (R54): the next superframe boundary at least 4 slots ahead. -/
def applyAsn (s : State) : Nat := boundaryAfter s (4 * Config.slotCycles)

/-- The command's instant reaches the block: time never runs backward. -/
def tick (t : Nat) (s : State) : State := { s with clk := { s.clk with fab := max s.clk.fab t, prev := s.clk.fab } }

/-- Milliseconds between two FAB instants. -/
def msBetween (a b : Nat) : Nat := (b - a) / Config.msCycles

end Sys2Proof.Machine
end

