-- ==== Sys2Proof/Machine/Dict.lean ====
section
/-!
DEFINITION. The object dictionary as the spec's object tables give it (R27, R28, R36, R41, R46): for each object its
number, access kind, write level, lock group, row capacity, columns with their types and ranges, default and unit.
The comment beside each row names the object and the rule of its table.
-/
namespace Sys2Proof

/-- The number a value carries (0 for bytes). -/
def Val.toNat : Val → Nat
  | .num n => n.toNat
  | .bytes _ => 0
/-- The number a value carries. -/
def Val.toInt : Val → Int
  | .num n => n
  | .bytes _ => 0
/-- The bytes a value carries. -/
def Val.toBytes : Val → Bytes
  | .num _ => []
  | .bytes b => b

end Sys2Proof

namespace Sys2Proof.Machine

/-- The access kinds of R36. -/
inductive Access | ro | rw | rws | w1c | x | rop
  deriving DecidableEq, Repr

/-- Where a READ finds the value: the object store, the active lane's own counters (R45), a function of the state,
or nowhere (a command). -/
inductive Src | store | lane | calc | cmd
  deriving DecidableEq, Repr

/-- The type and range of one column (R30, R31). `int` and `sparse` carry the type tag. -/
inductive ColKind
  | bool
  | int (tag : Nat) (lo hi : Int)
  | sparse (tag : Nat) (ranges : List (Int × Int))
  | enum (vals : List Nat)
  | bits (mask : Nat)
  | octets (n : Nat)
  | octetsVar (lo hi : Nat)
  | text (n : Nat)
  deriving DecidableEq, Repr

/-- One object of the dictionary. `cap` 0 is a scalar; `keep` marks RO values kept at every restart (the exceptions
to R44); `row` is the default of a row. -/
structure ObjDesc where
  num : Nat
  acc : Access
  wlevel : Nat
  group : Option Nat
  cap : Nat
  cols : List ColKind
  row : Row
  unit : Bytes
  src : Src
  keep : Bool
  deriving DecidableEq, Repr

def cU8 : ColKind := .int 2 0 255
def cU16 : ColKind := .int 3 0 65535
def cU32 : ColKind := .int 4 0 4294967295
def cU64 : ColKind := .int 5 0 18446744073709551615
def cS16 : ColKind := .int 6 (-32768) 32767
def cS32 : ColKind := .int 7 (-2147483648) 2147483647
def cS64 : ColKind := .int 8 (-9223372036854775808) 9223372036854775807
def cQ : ColKind := .int 9 (-2147483648) 2147483647
def cTime : ColKind := .int 10 0 18446744073709551615

/-- `n` zero bytes. -/
def zeros (n : Nat) : Val := .bytes (List.replicate n 0)
/-- `n` bytes FFh. -/
def ones (n : Nat) : Val := .bytes (List.replicate n 255)
/-- The lighting classes of R222. -/
def classVals : List Nat := List.range 18 ++ [31]
/-- The default hop permutation of R160: entry i is 37 i mod 64. -/
def hopDefault : Bytes := (List.range 64).map (fun i => BitVec.ofNat 8 (37 * i % 64))

/-- A row of an RO object table. -/
def roObj (num : Nat) (src : Src) (keep : Bool) (cap : Nat) (cols : List ColKind) (row : Row) (unit : Bytes) : ObjDesc :=
  { num, acc := .ro, wlevel := 0, group := none, cap, cols, row, unit, src, keep }
/-- A row of an ROP object table (R38). -/
def ropObj (num : Nat) (src : Src) (cols : List ColKind) (row : Row) : ObjDesc :=
  { num, acc := .rop, wlevel := 0, group := none, cap := 0, cols, row, unit := [], src, keep := true }
/-- A row of an RW or W1C object table. -/
def setObj (num : Nat) (acc : Access) (wlevel : Nat) (group : Option Nat) (cap : Nat) (cols : List ColKind) (row : Row)
    (unit : Bytes) : ObjDesc :=
  { num, acc, wlevel, group, cap, cols, row, unit, src := .store, keep := true }
/-- A row of a CMD object (R35). -/
def cmdObj (num : Nat) (wlevel : Nat) (group : Option Nat) : ObjDesc :=
  { num, acc := .x, wlevel, group, cap := 0, cols := [], row := [], unit := [], src := .cmd, keep := true }

/-- Objects of bank 0 (R28). -/
def dict0a : List ObjDesc := [
  roObj 0x00000 .calc false 0 [.octets 16] [zeros 16] [],  -- 0:0000 SERIAL (R92)
  setObj 0x00001 .rw 2 (some 0) 0 [.text 31] [.bytes []] [],  -- 0:0001 MODULE_NAME (R92)
  roObj 0x00010 .calc false 0 [.int 3 0 512] [.num 0] [],  -- 0:0010 SESSIONS_OPEN (R92)
  roObj 0x00011 .lane false 0 [cU32] [.num 0] [],  -- 0:0011 SETUP_REFUSED (R92)
  roObj 0x00012 .lane false 0 [cU32] [.num 0] [],  -- 0:0012 DATAGRAMS_DROPPED (R92)
  roObj 0x00013 .lane false 0 [cU32] [.num 0] [],  -- 0:0013 COMPLETIONS_EXPIRED (R92)
  cmdObj 0x00100 0 none,  -- 0:0100 SURVEY (R92)
  ropObj 0x00101 .store [cU32] [.num 0],  -- 0:0101 SNAP_SEQ (R92)
  setObj 0x00110 .rw 2 (some 0) 0 [.int 4 30 86400] [.num 600] [115],  -- 0:0110 IDLE_TIMEOUT (R92)
  roObj 0x00111 .calc false 512 [cU32, .octets 16, cU8, .enum [0, 1], cTime, cTime, cU8] [.num 0, zeros 16, .num 0, .num 0, .num 0, .num 0, .num 0] [],  -- 0:0111 SESSION_TABLE (R92)
  cmdObj 0x00130 2 none,  -- 0:0130 CLOSE_SESSION (R92)
  cmdObj 0x00200 0 none,  -- 0:0200 DESCRIBE (R62)
  roObj 0x00210 .calc false 32 [.enum [0, 1, 2], cU32, .octets 16, cU16, cU16, cU64] [.num 0, .num 0, zeros 16, .num 0, .num 0, .num 0] [],  -- 0:0210 LOCK_TABLE (R62)
  roObj 0x00211 .calc false 0 [.int 4 0 1048576] [.num 0] [98, 121, 116, 101, 115],  -- 0:0211 SHADOW_USE (R62)
  cmdObj 0x00220 2 none,  -- 0:0220 BREAK_LOCK (R62)
  roObj 0x00230 .store false 16 [cTime, .bits 0xFFFFFFFF, cU32, .octets 16, cU16, .enum [1, 2, 3, 4], cU16] [.num 0, .num 0, .num 0, zeros 16, .num 0, .num 0, .num 0] [],  -- 0:0230 SEQ_BROKEN_LOG (R62)
  ropObj 0x00231 .store [cU32] [.num 0],  -- 0:0231 SEQ_BROKEN_COUNT (R62)
  ropObj 0x00232 .store [cU32] [.num 0],  -- 0:0232 SEQ_COMMIT_COUNT (R62)
  cmdObj 0x00240 2 none,  -- 0:0240 RESTORE_DEFAULTS (R62)
  setObj 0x00250 .rw 2 (some 0) 0 [.int 3 5 300] [.num 30] [115],  -- 0:0250 DEFAULT_LEASE (R62)
  setObj 0x00251 .rw 3 (some 0) 0 [.int 3 5 300] [.num 300] [115],  -- 0:0251 MAX_LEASE (R62)
  roObj 0x00400 .calc false 0 [.enum [0, 1]] [.num 0] [],  -- 0:0400 POWER_STATE (R459)
  roObj 0x00401 .calc false 0 [cU16] [.num 0] [48, 46, 49, 32, 86],  -- 0:0401 INPUT_VRMS (R459)
  roObj 0x00402 .calc false 0 [cU16] [.num 0] [48, 46, 49, 32, 87]  -- 0:0402 INPUT_POWER (R459)
  ]

/-- Objects of bank 0 (R28). -/
def dict0b : List ObjDesc := [
  roObj 0x00403 .calc false 0 [cU16] [.num 0] [48, 46, 49, 32, 86],  -- 0:0403 BULK_V (R459)
  roObj 0x00404 .lane false 0 [cU32] [.num 0] [],  -- 0:0404 BROWNOUTS (R459)
  ropObj 0x00405 .store [cU32] [.num 0],  -- 0:0405 POWER_LOSSES (R459)
  roObj 0x00406 .store true 0 [cU16] [.num 0] [109, 115],  -- 0:0406 HOLDUP_LAST (R459)
  roObj 0x00410 .store true 2 [.enum [0, 1, 2, 3], cU16, cTime, cU32, cTime] (List.replicate 5 (.num 0)) [],  -- 0:0410 CELLS (R459)
  roObj 0x00411 .calc true 1 [cU16, cU16, cS16, cU32, cU32] (List.replicate 5 (.num 0)) [],  -- 0:0411 BATT_DOMAIN (R459)
  setObj 0x00420 .rw 2 (some 0) 4 [.enum [0, 1]] [.num 1] [],  -- 0:0420 OUT_POWERON (R459)
  cmdObj 0x00430 2 none,  -- 0:0430 CELL_REPLACED (R459)
  cmdObj 0x00431 2 none,  -- 0:0431 CELL_TEST (R459)
  roObj 0x00440 .store true 8 [cTime, .enum [0, 1, 2, 3], cU32, cU32, cU32, cU32, cU32] (List.replicate 7 (.num 0)) [],  -- 0:0440 STARTUP_LOG (R459)
  cmdObj 0x00500 1 none,  -- 0:0500 OUTPUT_SET (R506)
  roObj 0x00501 .calc false 4 [.enum [0, 1], .enum [0, 1, 2, 3, 4], cU16, cU32, cU32] (List.replicate 5 (.num 0)) [],  -- 0:0501 OUTPUT_STATUS (R506)
  setObj 0x00502 .rw 2 (some 0) 0 [.int 3 100 60000] [.num 1000] [109, 115],  -- 0:0502 OUTPUT_MIN_GAP (R506)
  roObj 0x00510 .calc false 0 [.bits 0xFFFFFFFF] [.num 0] [],  -- 0:0510 INPUTS (R506)
  setObj 0x00511 .rw 2 (some 0) 8 [.int 3 1 1000, .bool] [.num 10, .num 0] [],  -- 0:0511 INPUT_CONFIG (R506)
  roObj 0x00512 .calc false 8 [cU32, cU32, cTime] [.num 0, .num 0, .num 0] [],  -- 0:0512 INPUT_EDGES (R506)
  roObj 0x00520 .calc false 1 [cS16, cS16, cS16, cS16, cU32] (List.replicate 5 (.num 0)) []  -- 0:0520 THERMAL (R506)
  ]

/-- Objects of bank 1 (R28). -/
def dict1a : List ObjDesc := [
  roObj 0x10010 .calc false 0 [.enum [0, 1, 2, 3, 4, 5]] [.num 0] [],  -- 1:0010 LC_STATE (R372)
  roObj 0x10011 .calc false 0 [.enum [0, 1, 2]] [.num 0] [],  -- 1:0011 TAMPER_CAUSE (R372)
  roObj 0x10012 .calc false 0 [.octets 97] [zeros 97] [],  -- 1:0012 ESCROW_IN_PUB (R372)
  roObj 0x10013 .calc false 0 [.octets 8] [zeros 8] [],  -- 1:0013 ROOT_ID (R372)
  roObj 0x10014 .calc false 2 [.bool, .bool, cTime, cU32, cU32, cU8] (List.replicate 6 (.num 0)) [],  -- 1:0014 VAULT_STATUS (R372)
  roObj 0x10015 .calc false 0 [.bits 0xFFFFFFFF] [.num 0] [],  -- 1:0015 TAMPER_INPUTS (R372)
  ropObj 0x10016 .store [cU32] [.num 0],  -- 1:0016 TAMPER_COUNT (R372)
  roObj 0x10017 .calc false 0 [.octets 8] [zeros 8] [],  -- 1:0017 TRUNK_KEY_ID (R372)
  roObj 0x10020 .store true 16 [.octets 32] [zeros 32] [],  -- 1:0020 TAMPER_LOG (R372)
  roObj 0x10030 .store true 16 [cTime, .enum [0, 1, 2, 3, 4, 5], .enum [0, 1, 2, 3, 4, 5], .octets 16, cU8] [.num 0, .num 0, .num 0, zeros 16, .num 0] [],  -- 1:0030 LC_LOG (R372)
  roObj 0x10040 .store true 2 [cU8, .octets 16, cTime, cTime] [.num 0, zeros 16, .num 0, .num 0] [],  -- 1:0040 NEIGHBOUR_TAMPER (R372)
  setObj 0x10100 .rw 3 (some 1) 0 [.bits 0x7FF] [.num 2047] [],  -- 1:0100 TAMPER_MASK (R372)
  setObj 0x10101 .rw 3 (some 1) 4 [.enum [0, 1, 2]] [.num 0] [],  -- 1:0101 OUT_TAMPER (R372)
  setObj 0x10102 .rw 3 (some 1) 0 [.bool] [.num 1] [],  -- 1:0102 CERT_TIME_CHECK (R372)
  setObj 0x10110 .rw 3 (some 1) 0 [.bool] [.num 0] [],  -- 1:0110 CERTIFIED (R372)
  setObj 0x10120 .rw 3 (some 1) 8 [.bool, .octets 97, .int 2 0 3, .text 16] [.num 0, zeros 97, .num 0, .bytes []] [],  -- 1:0120 TRUST_ANCHORS (R372)
  setObj 0x10121 .rw 3 (some 1) 64 [.octets 16] [zeros 16] [],  -- 1:0121 DENY_LIST (R372)
  setObj 0x10130 .rw 3 (some 1) 1 [.int 3 0 1024, .octets 1024] [.num 0, zeros 1024] [],  -- 1:0130 DEVICE_CERT (R372)
  roObj 0x10131 .calc false 0 [.octets 97] [zeros 97] [],  -- 1:0131 ATTEST_PUB (R372)
  setObj 0x10140 .rw 3 (some 1) 0 [.octets 97] [zeros 97] [],  -- 1:0140 ESCROW_KEY (R372)
  cmdObj 0x10141 3 none,  -- 1:0141 ESCROW_EXPORT (R372)
  cmdObj 0x10150 3 (some 1),  -- 1:0150 TRUNK_KEY_INSTALL (R372)
  cmdObj 0x10160 2 none,  -- 1:0160 ENC_SUSPEND (R372)
  cmdObj 0x10300 3 (some 1)  -- 1:0300 COMMISSION (R372)
  ]

/-- Objects of bank 1 (R28). -/
def dict1b : List ObjDesc := [
  cmdObj 0x10301 3 (some 1),  -- 1:0301 RECOMMISSION (R372)
  cmdObj 0x10302 3 (some 1),  -- 1:0302 RETURN_MODULE (R372)
  cmdObj 0x10303 3 (some 1)  -- 1:0303 SCRAP (R372)
  ]

/-- Objects of bank 2 (R28). -/
def dict2 : List ObjDesc := [
  roObj 0x20010 .calc false 0 [.bits 0xFFFFFFFF] [.num 0] [],  -- 2:0010 TIME_STATE (R344)
  roObj 0x20011 .calc false 0 [.enum [0, 1, 2, 3, 4]] [.num 4] [],  -- 2:0011 TIME_QUALITY (R344)
  roObj 0x20012 .calc false 0 [.bool] [.num 1] [],  -- 2:0012 OSC_STOPPED (R344)
  roObj 0x20013 .store false 0 [cS32] [.num 0] [110, 115],  -- 2:0013 PTP_OFFSET (R344)
  roObj 0x20014 .calc false 0 [cU32] [.num 0] [115],  -- 2:0014 HOLDOVER_S (R344)
  roObj 0x20015 .store false 0 [.int 7 (-5000) 5000] [.num 0] [48, 46, 49, 32, 112, 112, 109],  -- 2:0015 RATE_TRIM (R344)
  roObj 0x20016 .calc false 0 [.enum [0, 1, 2, 3]] [.num 0] [],  -- 2:0016 TRIM_SOURCE (R344)
  roObj 0x20017 .store true 0 [cTime] [.num 0] [],  -- 2:0017 LAST_TIME_SET (R344)
  roObj 0x20018 .store false 8 [cTime, .enum [0, 1, 2, 3, 4, 5], cS64, .bool, .octets 16] [.num 0, .num 0, .num 0, .num 0, zeros 16] [],  -- 2:0018 TIME_SET_LOG (R344)
  ropObj 0x20019 .store [cU32] [.num 0],  -- 2:0019 STEPS (R344)
  roObj 0x2001A .lane false 0 [cU32] [.num 0] [],  -- 2:001A SYNC_MISSES (R344)
  roObj 0x2001B .store true 0 [.enum [0, 1, 2, 3, 255]] [.num 255] [],  -- 2:001B LAST_TIME_SOURCE (R344)
  roObj 0x20020 .store true 0 [cTime] [.num 0] [],  -- 2:0020 FIRST_BACKUP (R344)
  ropObj 0x20021 .store [cU32] [.num 0],  -- 2:0021 BACKUP_SWITCHES (R344)
  roObj 0x20022 .store true 0 [cTime] [.num 0] [],  -- 2:0022 LAST_POWER_LOSS (R344)
  roObj 0x20030 .calc false 2 [.bool, cS32, cU32, cS16] [.num 1, .num 0, .num 0, .num 0] [],  -- 2:0030 RTC_STATUS (R344)
  setObj 0x20100 .rw 1 (some 2) 0 [.int 6 0 100] [.num 37] [115],  -- 2:0100 UTC_OFFSET (R344)
  setObj 0x20101 .rw 1 (some 2) 1 [cTime, .int 6 0 100] [.num 0, .num 0] [],  -- 2:0101 LEAP_NEXT (R344)
  setObj 0x20110 .rw 2 (some 2) 1 [.int 6 (-840) 840, .int 6 0 120, .int 2 1 12, .int 2 1 5, .int 2 0 6, .int 3 0 1439, .int 2 1 12, .int 2 1 5, .int 2 0 6, .int 3 0 1439] [.num 0, .num 0, .num 3, .num 5, .num 6, .num 60, .num 10, .num 5, .num 6, .num 120] [],  -- 2:0110 ZONE_RULES (R344)
  setObj 0x20120 .rw 2 (some 2) 0 [.int 9 (-5898240) 5898240] [.num 0] [194, 176],  -- 2:0120 LATITUDE (R344)
  setObj 0x20121 .rw 2 (some 2) 0 [.int 9 (-11796480) 11796480] [.num 0] [194, 176],  -- 2:0121 LONGITUDE (R344)
  setObj 0x20130 .rw 1 (some 2) 32 [.bool, cTime, cU32] [.num 0, .num 0, .num 0] [],  -- 2:0130 ALARMS (R344)
  roObj 0x20131 .store true 32 [cTime, cTime, cU32, .bool, cU32] (List.replicate 5 (.num 0)) [],  -- 2:0131 ALARM_STATUS (R344)
  cmdObj 0x20300 1 none  -- 2:0300 TIME_SET (R344)
  ]

/-- Objects of bank 3 (R28). -/
def dict3 : List ObjDesc := [
  roObj 0x30010 .calc false 0 [.enum [0, 1, 2, 3]] [.num 3] [],  -- 3:0010 RING_STATE (R327)
  roObj 0x30011 .calc false 0 [cU32] [.num 0] [],  -- 3:0011 TGEN (R327)
  roObj 0x30012 .lane false 0 [cU32] [.num 0] [],  -- 3:0012 RING_HEALS (R327)
  roObj 0x30013 .store false 0 [cTime] [.num 0] [],  -- 3:0013 LAST_HEAL (R327)
  roObj 0x30014 .lane false 0 [cU32] [.num 0] [],  -- 3:0014 FRAMES_LOST (R327)
  roObj 0x30015 .lane false 0 [cU32] [.num 0] [],  -- 3:0015 AUTH_FAILURES (R327)
  roObj 0x30016 .lane false 0 [cU32] [.num 0] [],  -- 3:0016 DEST_OVERRUNS (R327)
  roObj 0x30017 .lane false 0 [cU32] [.num 0] [],  -- 3:0017 BE_DROPPED (R327)
  roObj 0x30018 .lane false 0 [cU32] [.num 0] [],  -- 3:0018 PAUSE_RECEIVED (R327)
  roObj 0x30020 .calc false 2 [.enum [0, 1, 2, 3, 4], cU8, .enum [0, 1, 2], cU32, cU32, cU32, cU32, cU32, cU32] [.num 0, .num 255, .num 0, .num 0, .num 0, .num 0, .num 0, .num 0, .num 0] [],  -- 3:0020 PORT_STATUS (R327)
  roObj 0x30030 .calc false 66 [cU8, .bool] [.num 255, .num 0] [],  -- 3:0030 TOPOLOGY (R327)
  setObj 0x30100 .rw 2 (some 3) 0 [cU32] [.num 0] [],  -- 3:0100 CASCADE_ID (R327)
  setObj 0x30101 .rw 2 (some 3) 0 [.sparse 2 [(0, 63), (255, 255)]] [.num 255] [],  -- 3:0101 MODULE_ID (R327)
  setObj 0x30102 .rw 2 (some 3) 0 [.int 3 1024 65535] [.num 50718] [],  -- 3:0102 IBIER_PORT (R327)
  setObj 0x30103 .rw 2 (some 3) 0 [.octets 16] [zeros 16] [],  -- 3:0103 CASCADE_ADDR (R327)
  setObj 0x30104 .rw 2 (some 3) 0 [.octets 16] [zeros 16] [],  -- 3:0104 MODULE_ADDR (R327)
  setObj 0x30105 .rw 2 (some 3) 0 [.enum [0, 1, 2]] [.num 0] [],  -- 3:0105 TOPOLOGY_KIND (R327)
  setObj 0x30110 .rw 2 (some 3) 0 [.sparse 2 [(1, 63), (255, 255)]] [.num 255] [],  -- 3:0110 DEPUTY (R327)
  setObj 0x30120 .rw 2 (some 3) 0 [.int 2 0 127] [.num 0] [],  -- 3:0120 PTP_DOMAIN (R327)
  cmdObj 0x30300 2 (some 3),  -- 3:0300 MASTER_HANDOVER (R327)
  cmdObj 0x30310 2 (some 3),  -- 3:0310 PORT_RESTART (R327)
  roObj 0x30400 .calc false 64 [.enum [0, 1, 2], cTime, .octets 32, cU8, cU8, cU8, cU16, .enum [0, 1, 2, 3, 4], .enum [0, 1, 2, 3], cU32, cTime] [.num 0, .num 0, zeros 32, .num 0, .num 0, .num 0, .num 0, .num 0, .num 0, .num 0, .num 0] []  -- 3:0400 CASCADE_MEMBERS (R327)
  ]

/-- Objects of bank 4 (R28). -/
def dict4a : List ObjDesc := [
  roObj 0x40000 .calc false 0 [.octets 8] [zeros 8] [],  -- 4:0000 MAC_EUI64 (R160)
  roObj 0x40010 .calc false 0 [cU64] [.num 0] [],  -- 4:0010 ASN_NOW (R160)
  roObj 0x40012 .calc false 0 [.int 3 0 8192] [.num 0] [],  -- 4:0012 NODES_JOINED (R160)
  roObj 0x40013 .calc false 0 [.int 3 0 8192] [.num 0] [],  -- 4:0013 NODES_LOST (R160)
  roObj 0x40014 .calc false 0 [.int 3 0 256] [.num 0] [],  -- 4:0014 CLUSTERS_SWAPPED (R160)
  roObj 0x40015 .lane false 0 [cU32] [.num 0] [],  -- 4:0015 JOINS (R160)
  roObj 0x40016 .lane false 0 [cU32] [.num 0] [],  -- 4:0016 JOINS_REFUSED (R160)
  roObj 0x40017 .lane false 0 [cU32] [.num 0] [],  -- 4:0017 UPLINK_DUPLICATES (R160)
  roObj 0x40018 .lane false 0 [cU32] [.num 0] [],  -- 4:0018 MIC_FAILURES (R160)
  roObj 0x40019 .lane false 0 [cU32] [.num 0] [],  -- 4:0019 LOST_TRANSITIONS (R160)
  roObj 0x400E0 .calc false 2 (List.replicate 8 (.bits 0xFFFFFFFF)) (List.replicate 8 (.num 0)) [],  -- 4:00E0 BLANK_STATE (R160)
  roObj 0x400E1 .calc false 128 [cU32, cU32] [.num 0, .num 0] [],  -- 4:00E1 GATE_LEDGER (R160)
  roObj 0x400E2 .calc false 8 [cU32, cU32] [.num 0, .num 0] [],  -- 4:00E2 DUTY_LEDGER (R160)
  roObj 0x400F0 .lane false 4 [cU32] [.num 0] [],  -- 4:00F0 LATE_SLOTS (R160)
  roObj 0x400F1 .lane false 4 (List.replicate 5 (cU32)) (List.replicate 5 (.num 0)) [],  -- 4:00F1 XCVR_STATS (R160)
  setObj 0x40100 .rw 2 (some 4) 0 [cU16] [.num 51455] [],  -- 4:0100 PAN_ID (R160)
  setObj 0x40101 .rw 2 (some 4) 0 [.int 4 400000 1000000] [.num 902200] [107, 72, 122],  -- 4:0101 SUBGHZ_CH0 (R160)
  setObj 0x40102 .rw 2 (some 4) 0 [.int 3 100 2000] [.num 400] [107, 72, 122],  -- 4:0102 SUBGHZ_SPACING (R160)
  setObj 0x40103 .rw 2 (some 4) 0 [.octets 64] [.bytes hopDefault] [],  -- 4:0103 HOP_PERM (R160)
  roObj 0x40104 .calc false 0 [.bool] [.num 0] [],  -- 4:0104 RADIO_PENDING (R160)
  setObj 0x40110 .rw 2 (some 4) 4 [.enum [0, 1], .enum [1, 2, 3, 4, 5, 6, 7, 8], .int 2 0 63, .bits 0xFFFFFFFF, .bits 0xFFFFFFFF] [.num 0, .num 7, .num 0, .num 4294967295, .num 4294967295] [],  -- 4:0110 XCVR_HOP (R160)
  setObj 0x40111 .rw 2 (some 4) 4 [.bool, .int 6 (-100) 270, .enum [0, 1]] [.num 1, .num 140, .num 0] [],  -- 4:0111 XCVR_RF (R160)
  setObj 0x40120 .rw 2 (some 4) 0 [.int 3 10 400] [.num 400] [109, 115],  -- 4:0120 DWELL_LIMIT (R160)
  setObj 0x40121 .rw 2 (some 4) 0 [.int 3 0 200] [.num 80] [109, 115]  -- 4:0121 BLANK_MARGIN (R160)
  ]

/-- Objects of bank 4 (R28). -/
def dict4b : List ObjDesc := [
  setObj 0x40122 .rw 2 (some 4) 8 [.bool, .int 2 0 63, .int 2 0 63, .int 3 1 10000] [.num 0, .num 0, .num 63, .num 10000] [],  -- 4:0122 DUTY_BANDS (R160)
  setObj 0x40400 .rw 2 (some 5) 256 [.bool, .enum [1, 2, 3, 4, 5, 6, 7, 8], .int 2 0 3, .int 2 0 63, .int 2 0 3, .int 2 0 63, .bits 0xFFFFFFFF, .bits 0xFFFFFFFF, .int 3 5 600, .octets 4, .int 2 1 16, .int 2 4 64] [.num 0, .num 6, .num 0, .num 0, .num 2, .num 32, .num 4294967295, .num 4294967295, .num 80, ones 4, .num 4, .num 16] [],  -- 4:0400 CLUSTER_CONTEXT (R160)
  roObj 0x40410 .calc false 256 [.enum [0, 1, 2, 3], cU8, cU8, .enum [0, 1], cU32, cU32, cU8, cU8, cU32, .bits 0xFFFFFFFF] (List.replicate 10 (.num 0)) [],  -- 4:0410 CLUSTER_STATUS (R160)
  roObj 0x40420 .store false 16 [cTime, cU8, .enum [0, 1]] [.num 0, .num 0, .num 0] [],  -- 4:0420 PATH_SWAP_LOG (R160)
  setObj 0x40500 .rw 2 (some 27) 8192 [.octets 8, .octets 49, .sparse 3 [(0, 255), (65535, 65535)], .int 2 0 31, .bool] [zeros 8, zeros 49, .num 65535, .num 0, .num 0] [],  -- 4:0500 NODE_DIRECTORY (R160)
  roObj 0x40510 .calc false 8192 [.enum [0, 1, 2], .bool, cU16, cU16, cU16, cTime, cS16, cU32] (List.replicate 8 (.num 0)) [],  -- 4:0510 NODE_STATUS (R160)
  roObj 0x40600 .calc false 64 [.octets 8, cTime, cU8, cS16] [zeros 8, .num 0, .num 0, .num 0] [],  -- 4:0600 JOIN_PENDING (R160)
  cmdObj 0x40610 2 (some 27),  -- 4:0610 APPROVE_JOIN (R160)
  cmdObj 0x40611 2 (some 27)  -- 4:0611 REMOVE_NODE (R160)
  ]

/-- Objects of bank 5 (R28). -/
def dict5 : List ObjDesc := [
  roObj 0x50010 .calc false 0 [.int 3 0 4096] [.num 0] [],  -- 5:0010 TICKETS_OPEN (R122)
  roObj 0x50011 .lane false 0 [cU32] [.num 0] [],  -- 5:0011 ADMITTED (R122)
  roObj 0x50012 .lane false 0 [cU32] [.num 0] [],  -- 5:0012 REFUSED_FULL (R122)
  roObj 0x50013 .lane false 0 [cU32] [.num 0] [],  -- 5:0013 REFUSED_LINK (R122)
  roObj 0x50014 .lane false 0 [cU32] [.num 0] [],  -- 5:0014 REFUSED_CLASS (R122)
  roObj 0x50015 .lane false 0 [cU32] [.num 0] [],  -- 5:0015 LINK_SHOCKS (R122)
  roObj 0x50016 .lane false 0 [cU32] [.num 0] [],  -- 5:0016 ATTEMPTS_LOST (R122)
  roObj 0x50017 .lane false 0 [cU32] [.num 0] [],  -- 5:0017 LATE_ACKS (R122)
  roObj 0x50018 .lane false 0 [cU32] [.num 0] [],  -- 5:0018 GROUP_COPIES_DROPPED (R122)
  ropObj 0x50020 .store [cU64] [.num 0],  -- 5:0020 ADMIT_COUNT (R122)
  ropObj 0x50021 .store [cU64] [.num 0],  -- 5:0021 DELIVERED_TOTAL (R122)
  ropObj 0x50022 .store [cU64] [.num 0],  -- 5:0022 RESIDUE_TOTAL (R122)
  setObj 0x50100 .rw 2 (some 13) 0 [.int 2 0 203] [.num 128] [],  -- 5:0100 BOOKABLE_SLOTS (R122)
  setObj 0x50101 .rw 2 (some 13) 0 [.int 2 0 203] [.num 64] [],  -- 5:0101 BI_SLOTS (R122)
  setObj 0x50102 .rw 2 (some 13) 0 [.int 2 0 203] [.num 32] [],  -- 5:0102 I_SLOTS (R122)
  setObj 0x50110 .rw 2 (some 13) 0 [.int 2 0 16] [.num 12] [],  -- 5:0110 TRACKER_BCAST (R122)
  setObj 0x50111 .rw 2 (some 13) 0 [.int 2 0 35] [.num 7] [],  -- 5:0111 POLICY_U_SLOTS (R122)
  setObj 0x50112 .rw 2 (some 13) 0 [.int 2 0 50] [.num 25] [37],  -- 5:0112 POLICY_SHARE (R122)
  setObj 0x50120 .rw 2 (some 13) 0 [.bool] [.num 1] [],  -- 5:0120 GROUP_ECHO (R122)
  roObj 0x50300 .calc false 65536 [cU32, .enum [0, 1, 2], cU8, cU32, .octets 16, .enum [0, 1, 2], cTime, cTime, cU16, cU16, cU16, cU16, cU16, .bits 0xFFFFFFFF] [.num 0, .num 0, .num 0, .num 0, zeros 16, .num 0, .num 0, .num 0, .num 0, .num 0, .num 0, .num 0, .num 0, .num 0] [],  -- 5:0300 TICKET_TABLE (R122)
  cmdObj 0x50310 0 none  -- 5:0310 TICKET_RESULT (R122)
  ]

/-- Objects of bank 6 (R28). -/
def dict6a : List ObjDesc := [
  roObj 0x60010 .calc false 0 [cU16] [.num 0] [],  -- 6:0010 EPOCH_IN_FORCE (R195)
  roObj 0x60011 .calc false 0 [.enum [0, 1, 2, 3]] [.num 0] [],  -- 6:0011 EPOCH_STATE (R195)
  roObj 0x60012 .calc false 0 [cU16] [.num 0] [],  -- 6:0012 EPOCH_NEXT (R195)
  roObj 0x60013 .calc false 0 [cU64] [.num 0] [],  -- 6:0013 SWITCH_ASN (R195)
  roObj 0x60014 .calc false 0 [.int 3 0 8192] [.num 0] [],  -- 6:0014 STAGED_COUNT (R195)
  roObj 0x60015 .calc false 0 [.int 3 0 8192] [.num 0] [],  -- 6:0015 ARMED_COUNT (R195)
  roObj 0x60016 .calc false 0 [.int 3 0 8192] [.num 0] [],  -- 6:0016 VERIFIED_COUNT (R195)
  roObj 0x60017 .calc false 0 [cU16] [.num 0] [],  -- 6:0017 MISMATCHED_COUNT (R195)
  roObj 0x60018 .calc false 3 [.octets 1024] [zeros 1024] [],  -- 6:0018 EPOCH_BITMAPS (R195)
  ropObj 0x60019 .store [cU32] [.num 0],  -- 6:0019 EPOCH_CHANGES (R195)
  roObj 0x60020 .calc false 0 [.bool] [.num 0] [],  -- 6:0020 CONTENT_PENDING (R195)
  roObj 0x60021 .calc false 0 [.octets 8] [zeros 8] [],  -- 6:0021 EPOCH_HASH (R195)
  setObj 0x60100 .rw 2 (some 14) 4096 [.text 16, cU16, cU16] [.bytes [], .num 65535, .num 65535] [],  -- 6:0100 GROUPS (R195)
  setObj 0x60110 .rw 2 (some 14) 8192 (List.replicate 4 (cU16)) (List.replicate 4 (.num 65535)) [],  -- 6:0110 GROUP_MEMBERS (R195)
  setObj 0x60120 .rw 2 (some 14) 1024 [.int 2 0 100, .int 2 0 32, .octets 256] [.num 100, .num 0, zeros 256] [],  -- 6:0120 SCHEDULES (R195)
  cmdObj 0x60200 1 none,  -- 6:0200 LIGHT_SET (R195)
  cmdObj 0x60201 1 none,  -- 6:0201 LIGHT_RESUME (R195)
  cmdObj 0x60202 1 none,  -- 6:0202 NODE_FUNC (R195)
  cmdObj 0x60300 2 (some 15),  -- 6:0300 EPOCH_OPEN (R195)
  cmdObj 0x60301 2 none,  -- 6:0301 EPOCH_STAGE (R195)
  cmdObj 0x60302 2 (some 15),  -- 6:0302 EPOCH_ARM (R195)
  cmdObj 0x60303 2 (some 15),  -- 6:0303 EPOCH_ABANDON (R195)
  roObj 0x60400 .calc false 2 [cU32, cU32, cU16, .octets 32, .enum [0, 1, 2], cTime] [.num 0, .num 0, .num 0, zeros 32, .num 0, .num 0] [],  -- 6:0400 NODE_IMAGE_STORE (R195)
  cmdObj 0x60401 2 (some 15)  -- 6:0401 IMAGE_DISCARD (R195)
  ]

/-- Objects of bank 6 (R28). -/
def dict6b : List ObjDesc := [
  cmdObj 0x60410 2 none,  -- 6:0410 IMAGE_BLOCK (R195)
  roObj 0x60420 .calc false 8192 [cU32, cU16, .bits 0xFFFFFFFF, .bits 0xFFFFFFFF, .bool] (List.replicate 5 (.num 0)) [],  -- 6:0420 IMAGE_PROGRESS (R195)
  roObj 0x60421 .calc false 0 [cU16] [.num 0] []  -- 6:0421 IMAGE_COMPLETE_NODES (R195)
  ]

/-- Objects of bank 7 (R28). -/
def dict7a : List ObjDesc := [
  roObj 0x70010 .calc false 0 [.int 3 0 4096] [.num 0] [],  -- 7:0010 TRACKS_ACTIVE (R229)
  roObj 0x70011 .lane false 0 [cU32] [.num 0] [],  -- 7:0011 EVENTS_IN (R229)
  roObj 0x70012 .lane false 0 [cU32] [.num 0] [],  -- 7:0012 EVENTS_DROPPED (R229)
  roObj 0x70013 .lane false 0 [cU32] [.num 0] [],  -- 7:0013 EVENTS_STALE (R229)
  roObj 0x70014 .lane false 0 [cU32] [.num 0] [],  -- 7:0014 TRAJ_SENT (R229)
  roObj 0x70015 .lane false 0 [cU32] [.num 0] [],  -- 7:0015 TRAJ_LATE (R229)
  roObj 0x70016 .lane false 0 [cU32] [.num 0] [],  -- 7:0016 TRAJ_DROPPED (R229)
  roObj 0x70017 .lane false 0 [cU32] [.num 0] [],  -- 7:0017 HANDOFFS_OUT (R229)
  roObj 0x70018 .lane false 0 [cU32] [.num 0] [],  -- 7:0018 HANDOFFS_IN (R229)
  roObj 0x70019 .lane false 0 [cU32] [.num 0] [],  -- 7:0019 HANDOFFS_LOST (R229)
  roObj 0x7001A .lane false 0 [cU32] [.num 0] [],  -- 7:001A TRACKS_MERGED (R229)
  roObj 0x7001B .calc false 0 [cU16] [.num 0] [],  -- 7:001B FLOOR_PENDING (R229)
  roObj 0x7001C .lane false 0 [cU32] [.num 0] [],  -- 7:001C TRACKS_FULL (R229)
  roObj 0x70020 .calc false 4096 [.enum [0, 1, 2, 3, 4, 5], .enum [0, 1, 2, 3, 4, 255], cU16, cU16, cU16, cU8, cU8, cTime, cU16, cU8, cU16] (List.replicate 11 (.num 0)) [],  -- 7:0020 TRACK_TABLE (R229)
  roObj 0x70021 .calc false 256 [.enum classVals, .enum [0, 1, 2, 3, 4], cU16, cTime, cTime, cTime] [.num 5, .num 0, .num 0, .num 0, .num 0, .num 0] [],  -- 7:0021 ZONE_STATE (R229)
  setObj 0x70100 .rw 2 (some 16) 16384 [.enum [0, 1, 2, 3], cU8, .sparse 2 [(0, 3), (255, 255)], cU16, cU16, cU8, cU16, cU16, cU8, cU16, cU16, cU8, cU16, cU16, cU8, .sparse 2 [(0, 63), (255, 255)], cU16] [.num 0, .num 0, .num 255, .num 65535, .num 0, .num 0, .num 65535, .num 0, .num 0, .num 65535, .num 0, .num 0, .num 65535, .num 0, .num 0, .num 255, .num 0] [],  -- 7:0100 STREET_GRAPH (R229)
  roObj 0x70110 .calc false 256 [cU16, cU8, cU16, .enum [0, 1, 2, 3], cU16, cU16] (List.replicate 6 (.num 0)) [],  -- 7:0110 BOUNDARY_STATUS (R229)
  setObj 0x70120 .rw 2 (some 17) 256 [.text 16, .bits 0x8003FFFF, .enum classVals, .bool, .octets 12, .octets 4, .bool] [.bytes [], .num 2147745791, .num 5, .num 0, .bytes [255, 0, 0, 255, 0, 0, 255, 0, 0, 255, 0, 0], .bytes [0, 1, 2, 3], .num 0] [],  -- 7:0120 ZONES (R229)
  setObj 0x70121 .rw 2 (some 17) 16 [.int 2 0 100, cU8, cU8, .int 2 0 15, .int 2 1 15, .int 3 10 6000] [.num 100, .num 80, .num 40, .num 4, .num 1, .num 1389] [],  -- 7:0121 PROFILES (R229)
  setObj 0x70122 .rw 2 (some 17) 256 [.octets 72] [zeros 72] [],  -- 7:0122 FLOOR_TABLE (R229)
  setObj 0x70130 .rw 2 (some 17) 0 [.int 2 10 120] [.num 30] [115],  -- 7:0130 PATH_HORIZON (R229)
  setObj 0x70131 .rw 2 (some 17) 0 [.int 2 2 60] [.num 15] [115],  -- 7:0131 COAST_LIMIT (R229)
  setObj 0x70132 .rw 2 (some 17) 0 [.int 3 100 10000] [.num 2000] [109, 115],  -- 7:0132 EVENT_MAX_AGE (R229)
  setObj 0x70133 .rw 2 (some 17) 0 [.int 3 200 5000] [.num 1000] [109, 115]  -- 7:0133 REFRESH_ETA_ERR (R229)
  ]

/-- Objects of bank 7 (R28). -/
def dict7b : List ObjDesc := [
  setObj 0x70134 .rw 2 (some 17) 0 [.int 2 5 50] [.num 15] [37],  -- 7:0134 REFRESH_SPEED (R229)
  setObj 0x70135 .rw 2 (some 17) 0 [.bool] [.num 1] [],  -- 7:0135 TRACKER_ENABLE (R229)
  setObj 0x70140 .rw 1 (some 17) 256 [.enum (classVals ++ [255]), cTime] [.num 255, .num 0] [],  -- 7:0140 ZONE_OVERRIDE (R229)
  roObj 0x70200 .store true 57344 [.octets 192] [zeros 192] [],  -- 7:0200 HISTOGRAM (R229)
  roObj 0x70201 .store true 0 [cU16] [.num 0] [],  -- 7:0201 HIST_WEEKS (R229)
  roObj 0x70202 .store true 16384 [.octets 128] [zeros 128] [],  -- 7:0202 TURNS (R229)
  cmdObj 0x70210 2 (some 17)  -- 7:0210 HIST_CLEAR (R229)
  ]

/-- Objects of bank 8 (R28). -/
def dict8a : List ObjDesc := [
  roObj 0x80010 .calc false 0 [.bits 0xFFFFFFFF] [.num 0] [],  -- 8:0010 MET_STATE (R255)
  roObj 0x80011 .lane false 0 [cU32] [.num 0] [],  -- 8:0011 PERIODS (R255)
  roObj 0x80012 .lane false 0 [cU32] [.num 0] [],  -- 8:0012 SAVES (R255)
  roObj 0x80013 .lane false 0 [cU32] [.num 0] [],  -- 8:0013 SAVE_LATE (R255)
  ropObj 0x80014 .store [cU32] [.num 0],  -- 8:0014 CWV_EVENTS (R255)
  roObj 0x80015 .lane false 0 [cU32] [.num 0] [],  -- 8:0015 LANE_DIFFS (R255)
  roObj 0x80016 .calc false 0 [cU32] [.num 0] [109, 115],  -- 8:0016 SAVE_AGE (R255)
  roObj 0x80020 .calc false 4 [cU32, cU32, cS32, cS32, cU32, cS16, cS16, cU16] (List.replicate 8 (.num 0)) [],  -- 8:0020 PHASES (R255)
  roObj 0x80021 .calc false 0 [cS32] [.num 0] [87],  -- 8:0021 P_TOTAL (R255)
  roObj 0x80022 .calc false 0 [cS32] [.num 0] [118, 97, 114],  -- 8:0022 Q_TOTAL (R255)
  roObj 0x80023 .calc false 0 [cU32] [.num 0] [86, 65],  -- 8:0023 S_TOTAL (R255)
  roObj 0x80024 .calc false 0 [cS16] [.num 0] [48, 46, 48, 48, 48, 49],  -- 8:0024 PF_TOTAL (R255)
  roObj 0x80025 .calc false 0 [cU32] [.num 0] [109, 72, 122],  -- 8:0025 FREQ (R255)
  roObj 0x80026 .calc false 0 [cU32] [.num 0] [194, 181, 65, 32, 112, 114, 105, 109, 97, 114, 121],  -- 8:0026 I_RES (R255)
  roObj 0x80027 .calc false 0 [cU32] [.num 0] [194, 181, 65, 32, 112, 114, 105, 109, 97, 114, 121],  -- 8:0027 I_SUM (R255)
  roObj 0x80030 .calc false 7 [cU64, cU32, cU16] [.num 0, .num 0, .num 0] [],  -- 8:0030 ENERGY (R255)
  roObj 0x80031 .calc false 0 [cU32] [.num 0] [],  -- 8:0031 E32_0 (R255)
  roObj 0x80032 .calc false 0 [cU32] [.num 0] [],  -- 8:0032 E32_1 (R255)
  roObj 0x80033 .calc false 0 [cU32] [.num 0] [],  -- 8:0033 E32_2 (R255)
  roObj 0x80034 .calc false 0 [cU32] [.num 0] [],  -- 8:0034 E32_3 (R255)
  roObj 0x80035 .calc false 0 [cU32] [.num 0] [],  -- 8:0035 E32_4 (R255)
  roObj 0x80036 .calc false 0 [cU32] [.num 0] [],  -- 8:0036 E32_5 (R255)
  roObj 0x80037 .calc false 0 [cU32] [.num 0] [],  -- 8:0037 E32_6 (R255)
  roObj 0x80041 .calc false 0 [cU16] [.num 0] []  -- 8:0041 EPOCH_0 (R255)
  ]

/-- Objects of bank 8 (R28). -/
def dict8b : List ObjDesc := [
  roObj 0x80042 .calc false 0 [cU16] [.num 0] [],  -- 8:0042 EPOCH_1 (R255)
  roObj 0x80043 .calc false 0 [cU16] [.num 0] [],  -- 8:0043 EPOCH_2 (R255)
  roObj 0x80044 .calc false 0 [cU16] [.num 0] [],  -- 8:0044 EPOCH_3 (R255)
  roObj 0x80045 .calc false 0 [cU16] [.num 0] [],  -- 8:0045 EPOCH_4 (R255)
  roObj 0x80046 .calc false 0 [cU16] [.num 0] [],  -- 8:0046 EPOCH_5 (R255)
  roObj 0x80047 .calc false 0 [cU16] [.num 0] [],  -- 8:0047 EPOCH_6 (R255)
  roObj 0x80051 .calc false 0 [cU64] [.num 0] [],  -- 8:0051 E64_0 (R255)
  roObj 0x80052 .calc false 0 [cU64] [.num 0] [],  -- 8:0052 E64_1 (R255)
  roObj 0x80053 .calc false 0 [cU64] [.num 0] [],  -- 8:0053 E64_2 (R255)
  roObj 0x80054 .calc false 0 [cU64] [.num 0] [],  -- 8:0054 E64_3 (R255)
  roObj 0x80055 .calc false 0 [cU64] [.num 0] [],  -- 8:0055 E64_4 (R255)
  roObj 0x80056 .calc false 0 [cU64] [.num 0] [],  -- 8:0056 E64_5 (R255)
  roObj 0x80057 .calc false 0 [cU64] [.num 0] [],  -- 8:0057 E64_6 (R255)
  roObj 0x80060 .store true 8 [cTime, cTime, cTime, cU32, .bool, cU32, cU32] (List.replicate 7 (.num 0)) [],  -- 8:0060 GAP_LOG (R255)
  roObj 0x80061 .store true 16 [.octets 60] [zeros 60] [],  -- 8:0061 CWV_LOG (R255)
  roObj 0x80062 .store true 8 [cTime, cU32, cU32, cU32, cU32, cU32, cU8, .bool] (List.replicate 8 (.num 0)) [],  -- 8:0062 BATT_LOG (R255)
  roObj 0x80063 .store true 0 [cU32] [.num 0] [115],  -- 8:0063 BATT_MET_USED (R255)
  { ropObj 0x80064 .store [cU32] [.num 0] with unit := [115] },  -- 8:0064 BATT_MET_TOTAL (R255)
  setObj 0x80100 .rw 2 (some 18) 0 [.int 9 65536 655360000] [.num 65536] [],  -- 8:0100 VT_RATIO (R255)
  setObj 0x80101 .rw 2 (some 18) 4 [.enum [0, 1], .int 4 1 100000] [.num 1, .num 5] [],  -- 8:0101 CT (R255)
  setObj 0x80102 .rw 2 (some 18) 0 [.int 3 0 10000] [.num 0] [],  -- 8:0102 RES_RATIO (R255)
  setObj 0x80103 .rw 2 (some 18) 0 [.enum [0, 1]] [.num 0] [],  -- 8:0103 NOMINAL_F (R255)
  setObj 0x80104 .rw 2 (some 18) 0 [.int 3 20 200] [.num 40] [109, 115],  -- 8:0104 ZC_TIMEOUT (R255)
  setObj 0x80105 .rw 2 (some 18) 0 [.int 3 5 100] [.num 10] [48, 46, 48, 49, 32, 37, 32, 111, 102, 32, 73, 110]  -- 8:0105 START_I (R255)
  ]

/-- Objects of bank 8 (R28). -/
def dict8c : List ObjDesc := [
  setObj 0x80106 .rw 2 (some 18) 0 [.int 3 10 1000] [.num 50] [109, 65],  -- 8:0106 CWV_THRESHOLD (R255)
  setObj 0x80107 .rw 2 (some 18) 0 [.bool] [.num 1] [],  -- 8:0107 BATT_MET_ENABLE (R255)
  setObj 0x80108 .rw 2 (some 18) 0 [.int 3 0 8000] [.num 8000] [104],  -- 8:0108 BATT_MET_BUDGET (R255)
  setObj 0x80200 .rw 2 (some 19) 8 [.int 4 536870912 1610612736, cS32, .int 6 (-4096) 4096, .enum [0, 1, 255], .bool, .enum [0, 1], cTime] [.num 1073741824, .num 0, .num 0, .num 255, .num 0, .num 0, .num 0] [],  -- 8:0200 CAL_MAIN (R255)
  setObj 0x80201 .rw 2 (some 19) 8 [cU32, cS32, cU32, cS32, cU32, cS32] [.num 1073741824, .num 0, .num 1073741824, .num 0, .num 1073741824, .num 0] [],  -- 8:0201 CAL_FALLBACK (R255)
  cmdObj 0x80210 2 (some 19),  -- 8:0210 CAL_MEASURE (R255)
  cmdObj 0x80220 2 none  -- 8:0220 BATT_MET_RENEW (R255)
  ]

/-- Objects of bank 9 (R28). -/
def dict9 : List ObjDesc := [
  roObj 0x90010 .calc false 0 [.bits 0xFFFFFFFF] [.num 0] [],  -- 9:0010 LED_STATE (R279)
  roObj 0x90011 .calc false 0 [cU16] [.num 0] [48, 46, 49, 32, 87],  -- 9:0011 LED_POWER (R279)
  roObj 0x90012 .calc false 4 [cU16, cU16, cU16, cS16, cU8, .enum [0, 1, 2, 3], cU8] (List.replicate 7 (.num 0)) [],  -- 9:0012 STRING_STATUS (R279)
  roObj 0x90013 .calc false 4 [.bits 0xFFFFFFFF, .bits 0xFFFFFFFF, .bits 0xFFFFFFFF, cU8] [.num 0, .num 0, .num 0, .num 255] [],  -- 9:0013 POSITION_FAULTS (R279)
  roObj 0x90014 .lane false 0 [cU32] [.num 0] [],  -- 9:0014 DUTY_LATE (R279)
  roObj 0x90015 .lane false 0 [cU32] [.num 0] [],  -- 9:0015 FLOOR_UNDER_COUNT (R279)
  roObj 0x90016 .calc false 8 [.enum [0, 1, 2, 3], cU8, cU8, cU8] (List.replicate 4 (.num 0)) [],  -- 9:0016 FLS_STATUS (R279)
  setObj 0x90100 .rw 2 (some 20) 4 [.bool, .int 3 0 700, .bits 0xFFFFFF, .enum [0, 1, 2, 3, 4], .int 2 0 4, .int 9 32768 98304] [.num 0, .num 0, .num 16777215, .num 0, .num 0, .num 65536] [],  -- 9:0100 STRING_CONFIG (R279)
  setObj 0x90101 .rw 2 (some 20) 0 [cU8] [.num 0] [],  -- 9:0101 ANCHOR_ZONE (R279)
  setObj 0x90102 .rw 1 (some 20) 4 [.octets 48] [ones 48] [],  -- 9:0102 LEVELS (R279)
  setObj 0x90103 .rw 2 (some 20) 0 [.int 3 100 1800] [.num 1800] [48, 46, 49, 32, 87],  -- 9:0103 LED_POWER_MAX (R279)
  setObj 0x90110 .rw 2 (some 20) 4 (List.replicate 9 (.int 3 2000 20000)) (List.replicate 9 (.num 10000)) [],  -- 9:0110 COMP_TABLE (R279)
  setObj 0x90111 .rw 2 (some 20) 1 [.int 6 600 1100, .int 6 700 1240, .int 2 0 100] [.num 850, .num 1200, .num 25] [],  -- 9:0111 DERATE (R279)
  setObj 0x90112 .rw 2 (some 20) 4 [.int 3 0 700, cU16] [.num 0, .num 0] [],  -- 9:0112 SAFE_LIGHT (R279)
  setObj 0x90113 .rw 2 (some 20) 0 [.int 6 (-400) 1200] [.num 250] [48, 46, 49, 32, 194, 176, 67],  -- 9:0113 COMP_REF (R279)
  setObj 0x90200 .rw 2 (some 21) 8 [.int 2 0 15, .bool, .octets 256] [.num 0, .num 0, zeros 256] [],  -- 9:0200 FLOWSTONE_PROG (R279)
  cmdObj 0x90210 1 none,  -- 9:0210 FLS_START (R279)
  cmdObj 0x90211 1 none,  -- 9:0211 FLS_STOP (R279)
  cmdObj 0x90212 1 none,  -- 9:0212 FLS_TRIGGER (R279)
  cmdObj 0x90220 2 none  -- 9:0220 LED_RETEST (R279)
  ]

/-- Objects of bank A (R28). -/
def dictA : List ObjDesc := [
  roObj 0xA0010 .calc false 0 [.enum [0, 1, 255]] [.num 255] [],  -- A:0010 ACTIVE_LANE (R301)
  roObj 0xA0011 .calc false 2 [.enum [0, 1, 2, 3], cU16, .bool, .enum [0, 1, 2, 3, 4, 5, 6, 7], cU16, cU16, cTime, cU8] (List.replicate 8 (.num 0)) [],  -- A:0011 LANE_ROLES (R301)
  ropObj 0xA0012 .store [cU32] [.num 0],  -- A:0012 SWITCHOVERS (R301)
  roObj 0xA0013 .lane false 0 [cU32] [.num 0] [],  -- A:0013 MISMATCHES (R301)
  roObj 0xA0014 .lane false 0 [cU32] [.num 0] [],  -- A:0014 LAG_EVENTS (R301)
  roObj 0xA0015 .lane false 0 [cU32] [.num 0] [],  -- A:0015 RESYNCS (R301)
  roObj 0xA0016 .lane false 0 [cU32] [.num 0] [],  -- A:0016 UNCHECKED_OUTPUTS (R301)
  roObj 0xA0017 .store true 0 [cTime] [.num 0] [],  -- A:0017 LAST_SWITCHOVER (R301)
  roObj 0xA0018 .store true 0 [.enum [0, 1, 2, 3, 4, 5]] [.num 0] [],  -- A:0018 SWITCH_CAUSE (R301)
  roObj 0xA0020 .store false 16 [cTime, cU64, cU8, .enum [0, 1, 2, 3, 4, 5], .enum [0, 1], cU16, cU16] (List.replicate 7 (.num 0)) [],  -- A:0020 SWITCH_LOG (R301)
  roObj 0xA0030 .store false 16 [cTime, cU32, .enum [0, 1, 2, 3, 4], cU32, cU32, .enum [0, 1], .enum [0, 1], .enum [0, 1, 2, 3]] (List.replicate 8 (.num 0)) [],  -- A:0030 MISMATCH_LOG (R301)
  setObj 0xA0100 .rw 2 (some 22) 0 [.bool] [.num 1] [],  -- A:0100 RESYNC_AUTO (R301)
  setObj 0xA0101 .rw 2 (some 22) 0 [.int 2 2 10] [.num 3] [],  -- A:0101 FLAP_LIMIT (R301)
  setObj 0xA0102 .rw 2 (some 22) 0 [.int 4 60 86400] [.num 600] [115],  -- A:0102 FLAP_WINDOW (R301)
  roObj 0xA0120 .lane false 0 [cU32] [.num 0] [],  -- A:0120 FORWARDED_INPUTS (R301)
  roObj 0xA0121 .lane false 0 [cU32] [.num 0] [],  -- A:0121 ORPHAN_INPUTS (R301)
  roObj 0xA0200 .calc false 10 [.enum [0, 1, 2], cTime, cU32] [.num 0, .num 0, .num 0] [],  -- A:0200 UNIT_HEALTH (R301)
  cmdObj 0xA0300 2 none,  -- A:0300 SWITCHOVER (R301)
  cmdObj 0xA0301 2 none,  -- A:0301 RESTART_STANDBY (R301)
  cmdObj 0xA0302 2 (some 22)  -- A:0302 RESYNC (R301)
  ]

/-- Objects of bank B (R28). -/
def dictB : List ObjDesc := [
  ropObj 0xB0010 .calc [cU32] [.num 0],  -- B:0010 REC_WRITTEN (R389)
  roObj 0xB0011 .store true 8 [cU32] [.num 0] [],  -- B:0011 REC_DROPPED (R389)
  roObj 0xB0012 .store true 8 [cU32] [.num 0] [],  -- B:0012 REC_OVERWRITTEN (R389)
  roObj 0xB0013 .lane false 0 [cU32] [.num 0] [],  -- B:0013 REC_FOLDED (R389)
  roObj 0xB0014 .lane false 0 [cU32] [.num 0] [],  -- B:0014 REC_QUEUE_OVERFLOW (R389)
  ropObj 0xB0015 .store [cU32] [.num 0],  -- B:0015 REC_TORN (R389)
  roObj 0xB0016 .store true 8 [cU32] [.num 0] [],  -- B:0016 NOTICES_DROPPED (R389)
  roObj 0xB0017 .calc false 1 [cU32, cU32, cU32, cU32, cTime, cU16] (List.replicate 6 (.num 0)) [],  -- B:0017 REC_POINTERS (R389)
  setObj 0xB0100 .w1c 2 none 8 [.bits 0xFFFFFFFF] [.num 0] [],  -- B:0100 STICKY_FAULTS (R389)
  roObj 0xB0101 .store true 256 [cTime, cTime, cU32, cU32] (List.replicate 4 (.num 0)) [],  -- B:0101 STICKY_DETAIL (R389)
  setObj 0xB0110 .rw 2 (some 23) 0 [.int 2 0 3] [.num 1] [],  -- B:0110 REC_MIN_SEV (R389)
  setObj 0xB0111 .rw 2 (some 23) 0 [.int 3 10 2000] [.num 200] [112, 101, 114, 32, 115],  -- B:0111 NOTICE_RATE (R389)
  setObj 0xB0112 .rw 2 (some 23) 0 [.int 3 10 500] [.num 50] [112, 101, 114, 32, 115],  -- B:0112 NOTICE_URGENT_RATE (R389)
  setObj 0xB0113 .rw 2 (some 23) 0 [.int 2 1 64] [.num 4] [],  -- B:0113 FOLD_AFTER (R389)
  setObj 0xB0120 .rw 2 (some 23) 16 [.sparse 2 [(1, 10), (16, 20), (24, 24), (25, 25), (32, 37), (40, 40), (41, 41), (0, 0)], .enum [0, 1, 2], .enum [0, 1, 2], cS32, cS32] (List.replicate 5 (.num 0)) [],  -- B:0120 SUMMARY_CONFIG (R389)
  cmdObj 0xB0300 0 none  -- B:0300 REC_READ (R389)
  ]

/-- Objects of bank C (R28). -/
def dictC : List ObjDesc := [
  roObj 0xC0010 .calc false 0 [.enum [0, 1, 2, 3]] [.num 0] [],  -- C:0010 SWEEP_STATE (R437)
  roObj 0xC0011 .lane false 0 [cU32] [.num 0] [],  -- C:0011 SLICES (R437)
  roObj 0xC0012 .lane false 0 [cU32] [.num 0] [],  -- C:0012 SLICES_SKIPPED (R437)
  roObj 0xC0013 .lane false 0 [cU32] [.num 0] [],  -- C:0013 SWEEPS (R437)
  roObj 0xC0020 .store false 41 [.enum [0, 1, 2, 3, 4], cS32, cTime, cU32, cU32] (List.replicate 5 (.num 0)) [],  -- C:0020 ST_RESULTS (R437)
  setObj 0xC0100 .rw 2 (some 24) 0 [.bool] [.num 1] [],  -- C:0100 ST_ENABLE (R437)
  setObj 0xC0101 .rw 2 (some 24) 0 [.bits 0xFF] [.num 255] [],  -- C:0101 ST_CLASSES (R437)
  setObj 0xC0102 .rw 2 (some 24) 0 [.int 2 2 15] [.num 6] [100, 66],  -- C:0102 ANT_WARN_RL (R437)
  cmdObj 0xC0300 2 (some 24)  -- C:0300 ST_SWEEP (R437)
  ]

/-- Objects of bank D (R28). -/
def dictD : List ObjDesc := [
  roObj 0xD0010 .calc false 2 [cU8, .bool, cU8, cU32, cU16, cU16, cU16, cU16, cU32, .bool] (List.replicate 10 (.num 0)) [],  -- D:0010 FW_LANES (R477)
  roObj 0xD0011 .calc false 4 [.enum [0, 1, 2, 3], cU32, cU16, cU16, cU16, cU16, cU16, cU32, cTime, cU8] (List.replicate 10 (.num 0)) [],  -- D:0011 FW_BANKS (R477)
  roObj 0xD0012 .calc false 2 [cU8, cU8, cU16, cU16] [.num 255, .num 0, .num 0, .num 0] [],  -- D:0012 BOOT_RECORD (R477)
  roObj 0xD0013 .calc false 0 [cU16] [.num 0] [],  -- D:0013 ACTIVE_LEVEL (R477)
  roObj 0xD0020 .calc false 3 [cU32, .enum [0, 1, 2], cU32, cU32, cTime, cTime] (List.replicate 6 (.num 0)) [],  -- D:0020 TRANSFERS (R477)
  roObj 0xD0021 .calc false 3 [.octets 60] [zeros 60] [],  -- D:0021 STAGE_MAP (R477)
  ropObj 0xD0022 .store [cU32] [.num 0],  -- D:0022 IMAGES_STAGED (R477)
  setObj 0xD0100 .rw 2 (some 25) 0 [.int 3 30 600] [.num 60] [115],  -- D:0100 TRIAL_TIMEOUT (R477)
  setObj 0xD0110 .rw 3 (some 25) 0 [.octets 97] [zeros 97] [],  -- D:0110 POLICY_SIGNER (R477)
  setObj 0xD0111 .rw 2 (some 25) 0 [.int 3 1024 65535] [.num 50719] [],  -- D:0111 STREAM_PORT (R477)
  cmdObj 0xD0300 2 none,  -- D:0300 FW_ACTIVATE (R477)
  cmdObj 0xD0301 2 none,  -- D:0301 FW_COMMIT (R477)
  cmdObj 0xD0302 2 none,  -- D:0302 FW_RESTART_ALL (R477)
  cmdObj 0xD0303 2 none  -- D:0303 BANK_ERASE (R477)
  ]

/-- Objects of bank E (R28). -/
def dictE : List ObjDesc := [
  roObj 0xE0030 .store false 12 [cU32] [.num 0] [],  -- E:0030 BUS_ERRORS (R426)
  roObj 0xE0031 .store false 12 [cU32] [.num 0] [],  -- E:0031 SEM_BAD_RELEASE (R426)
  setObj 0xE0032 .w1c 2 none 0 [.bits 0xFFF] [.num 0] [],  -- E:0032 SEM_RESET_RELEASE (R426)
  roObj 0xE0033 .store false 12 [cU32] [.num 0] [],  -- E:0033 BUS_WD_ABORTS (R426)
  roObj 0xE0100 .calc false 14 [cU8, cU8, cU8, cU16, cU16, cU32, .bool] (List.replicate 7 (.num 0)) [],  -- E:0100 ICU_TARGETS (R406)
  roObj 0xE0101 .calc false 1024 [cU8, cU8, .bool, .bool, .bool, .bool, cU16, cU16] (List.replicate 8 (.num 0)) [],  -- E:0101 ICU_SOURCES (R406)
  roObj 0xE0110 .calc false 736 [cU8, cU16, cU32, cU32, cU32, cU32, cU8] (List.replicate 7 (.num 0)) [],  -- E:0110 GOUR_STATS (R426)
  roObj 0xE0111 .calc false 46 [cU8, cU32, cU32, .bool] (List.replicate 4 (.num 0)) [],  -- E:0111 GOUR_ARBITERS (R426)
  roObj 0xE0112 .calc false 44 [cU16, cU16, cU16, cU16, cU16, cU16, cU32, cU32] (List.replicate 8 (.num 0)) [],  -- E:0112 SUMP_STATS (R426)
  setObj 0xE0200 .rw 2 (some 26) 6 [.int 4 10 100000] [.num 1000] [194, 181, 115],  -- E:0200 BUS_WD_LIMIT (R426)
  setObj 0xE0201 .rw 2 (some 26) 23 [cU16] [.num 65535] []  -- E:0201 GOUR_WAIT_ALARM (R426)
  ]

/-- The whole object dictionary (R27): every object of every chapter. -/
def dictionary : List ObjDesc :=
  dict0a ++ dict0b ++ dict1a ++ dict1b ++ dict2 ++ dict3 ++ dict4a ++ dict4b ++ dict5 ++ dict6a ++ dict6b ++ dict7a ++ dict7b ++ dict8a ++ dict8b ++ dict8c ++ dict9 ++ dictA ++ dictB ++ dictC ++ dictD ++ dictE

/-- The object of a number. -/
def findObj (n : Nat) : Option ObjDesc := dictionary.find? (fun d => d.num == n)

/-- A factory value within its column's range (R510). -/
def factoryIn (c rg col : Nat) (lo : Int) (n : Nat) : Val := .num (lo + (Config.factoryCal c rg col % n : Nat))

/-- The factory row of CAL_MAIN for a channel and a range of its current (R255, R510): shipped valid. -/
def factoryMain (c rg : Nat) : Row :=
  [factoryIn c rg 0 536870912 1073741825, factoryIn c rg 1 (-2147483648) 4294967296, factoryIn c rg 2 (-4096) 8193,
   .num (if 3 ≤ c ∧ c ≤ 6 then rg else 255), .num 1, .num 0, .num 0]

/-- The factory row of CAL_FALLBACK (R255, R510): its P and Q columns are used on rows 3 to 5 only. -/
def factoryFall (c rg : Nat) : Row :=
  let gain (col : Nat) : Val := if col = 3 ∨ (3 ≤ c ∧ c ≤ 5) then factoryIn c rg col 0 4294967296 else .num 1073741824
  let off (col : Nat) : Val := if col = 4 ∨ (3 ≤ c ∧ c ≤ 5) then factoryIn c rg col (-2147483648) 4294967296 else .num 0
  [gain 3, off 4, gain 5, off 6, gain 7, off 8]

/-- The default of row `r` of an object, where it depends on the row (R160, R161, R229, R255, R279); `modId` is
MODULE_ID, on which PAN_ID's default depends. -/
def defaultRow (d : ObjDesc) (r : Nat) (modId : Nat) : Row :=
  if d.num = 0x40100 then [.num (0xC900 + modId)]
  else if d.num = 0x40110 then [.num 0, .num 7, .num (16 * r % 64), .num 4294967295, .num 4294967295]
  else if d.num = 0x40400 then
    [.num 0, .num 6, .num (r % 4), .num (5 * r % 64), .num ((r + 2) % 4), .num ((5 * r + 32) % 64),
     .num 4294967295, .num 4294967295, .num 80, ones 4, .num 4, .num 16]
  else if d.num = 0x70121 ∧ r = 1 then [.num 80, .num 80, .num 40, .num 4, .num 1, .num 500]
  else if d.num = 0x70121 ∧ r = 2 then [.num 60, .num 100, .num 60, .num 8, .num 1, .num 140]
  else if d.num = 0x70121 ∧ r = 3 then [.num 80, .num 80, .num 40, .num 4, .num 1, .num 500]
  else if d.num = 0x90100 then
    [.num 0, .num 0, .num 0xFFFFFF, .num r, .num (if r = 0 then 1 else 0), .num 65536]
  else if d.num = 0x90112 ∧ r = 0 then [.num 350, .num 65535]
  else if d.num = 0x80101 then [.num 1, .num 5]
  else if d.num = 0x80200 then factoryMain r 1
  else if d.num = 0x80201 then factoryFall r 1
  else d.row

/-- The type tag of a column (R30). -/
def ColKind.tag : ColKind → Nat
  | .bool => 1
  | .int t _ _ => t
  | .sparse t _ => t
  | .enum _ => 11
  | .bits _ => 12
  | .octets _ => 13
  | .octetsVar _ _ => 13
  | .text _ => 14

/-- The encoded size of a value of a type tag that has a fixed size (R30). -/
def tagSize (tag : Nat) : Nat :=
  match tag with
  | 1 => 1 | 2 => 1 | 3 => 2 | 4 => 4 | 5 => 8 | 6 => 2 | 7 => 4 | 8 => 8 | 9 => 4 | 10 => 8 | 11 => 1 | 12 => 4
  | _ => 0

/-- The encoded size of a column's value (R30). -/
def ColKind.size (c : ColKind) (v : Val) : Nat :=
  match c, v with
  | .octets n, _ => n
  | .octetsVar _ _, .bytes b => 2 + b.length
  | .text _, .bytes b => 1 + b.length
  | c, _ => tagSize c.tag

/-- The encoded size of a row (R34). -/
def rowSize : List ColKind → Row → Nat
  | c :: cs, v :: vs => c.size v + rowSize cs vs
  | _, _ => 0

/-- Whether the bytes are well-formed UTF-8 with no NUL (R31). -/
def utf8Ok : Nat → Bytes → Bool
  | 0, b => b.isEmpty
  | _, [] => true
  | n + 1, a :: r =>
    if a = 0 then false
    else if a < 0x80 then utf8Ok n r
    else if 0xC2 ≤ a ∧ a ≤ 0xDF then
      match r with
      | b :: r => (b &&& 0xC0 == 0x80) && utf8Ok n r
      | _ => false
    else if 0xE0 ≤ a ∧ a ≤ 0xEF then
      match r with
      | b :: c :: r =>
        (b &&& 0xC0 == 0x80) && (c &&& 0xC0 == 0x80) && !(a == 0xE0 && b < 0xA0) && !(a == 0xED && 0xA0 ≤ b)
          && utf8Ok n r
      | _ => false
    else if 0xF0 ≤ a ∧ a ≤ 0xF4 then
      match r with
      | b :: c :: d :: r =>
        (b &&& 0xC0 == 0x80) && (c &&& 0xC0 == 0x80) && (d &&& 0xC0 == 0x80) && !(a == 0xF0 && b < 0x90)
          && !(a == 0xF4 && 0x90 ≤ b) && utf8Ok n r
      | _ => false
    else false

/-- The type part of R31: the value has the column's shape (OCTETS length, TEXT form). -/
def ColKind.shapeOk (c : ColKind) (v : Val) : Bool :=
  match c, v with
  | .octets n, .bytes b => b.length == n
  | .octetsVar lo hi, .bytes b => (lo ≤ b.length) && (b.length ≤ hi)
  | .text n, .bytes b => (b.length ≤ n) && utf8Ok (b.length + 1) b
  | .octets _, .num _ => false
  | .octetsVar _ _, .num _ => false
  | .text _, .num _ => false
  | _, .num _ => true
  | _, .bytes _ => false

/-- The range part of R31. -/
def ColKind.inRange (c : ColKind) (v : Val) : Bool :=
  match c, v with
  | .bool, .num n => n == 0 || n == 1
  | .int _ lo hi, .num n => lo ≤ n && n ≤ hi
  | .sparse _ rs, .num n => rs.any (fun p => p.1 ≤ n && n ≤ p.2)
  | .enum vs, .num n => vs.any (fun k => (k : Int) == n)
  | .bits m, .num n => 0 ≤ n && (n.toNat &&& m) == n.toNat && n.toNat < 4294967296
  | _, .num _ => false
  | _, .bytes _ => true

/-- Every column of a row has its column's shape, and there are as many. -/
def rowShape : List ColKind → Row → Bool
  | [], [] => true
  | c :: cs, v :: vs => c.shapeOk v && rowShape cs vs
  | _, _ => false

/-- Every column of a row is in range. -/
def rowRange : List ColKind → Row → Bool
  | c :: cs, v :: vs => c.inRange v && rowRange cs vs
  | _, _ => true

/-- Column `i` of a row as a number. -/
def rNat (r : Row) (i : Nat) : Nat := match r[i]? with | some v => v.toNat | none => 0
/-- Column `i` of a row as an integer. -/
def rInt (r : Row) (i : Nat) : Int := match r[i]? with | some v => v.toInt | none => 0
/-- Column `i` of a row as bytes. -/
def rOct (r : Row) (i : Nat) : Bytes := match r[i]? with | some v => v.toBytes | none => []

end Sys2Proof.Machine
end

