-- ==== Sys2Proof/Machine/Maps.lean ====
section
/-!
DEFINITION. The operations on the sparse maps of the state: look up, store, erase. A store keeps the keys rising, so
equal contents are equal data.
-/
namespace Sys2Proof.Machine

variable {α : Type}

/-- The value stored under a key. -/
def mget : NMap α → Nat → Option α
  | [], _ => none
  | (j, w) :: r, k => if k = j then some w else mget r k

/-- Store a value under a key, keeping the keys rising. -/
def mset : NMap α → Nat → α → NMap α
  | [], k, v => [(k, v)]
  | (j, w) :: r, k, v =>
    if k < j then (k, v) :: (j, w) :: r
    else if k = j then (k, v) :: r
    else (j, w) :: mset r k v

/-- Remove a key. -/
def mdel (m : NMap α) (k : Nat) : NMap α := m.filter (fun p => p.1 != k)

/-- The value under a key, or a default. -/
def mgetD (m : NMap α) (k : Nat) (d : α) : α := (mget m k).getD d

/-- Change the value under a key that is present. -/
def mmod (m : NMap α) (k : Nat) (f : α → α) : NMap α :=
  match mget m k with
  | some v => mset m k (f v)
  | none => m

/-- Change the value under a key, starting from a default. -/
def mupd (m : NMap α) (k : Nat) (d : α) (f : α → α) : NMap α := mset m k (f (mgetD m k d))

/-- Replace the entry at an index of a list (no change beyond its end). -/
def lset : List α → Nat → α → List α
  | [], _, _ => []
  | _ :: r, 0, v => v :: r
  | x :: r, n + 1, v => x :: lset r n v

/-- The entry at an index, or a default. -/
def lget : List α → Nat → α → α
  | [], _, d => d
  | x :: _, 0, _ => x
  | _ :: r, n + 1, d => lget r n d

/-- Entry of a list of numbers, 0 beyond its end. -/
def cN (l : List Nat) (i : Nat) : Nat := lget l i 0

/-- Change the entry at an index. -/
def lmod : List α → Nat → (α → α) → List α
  | [], _, _ => []
  | x :: r, 0, f => f x :: r
  | x :: r, n + 1, f => x :: lmod r n f

end Sys2Proof.Machine
end

