-- ==== Sys2Proof/Machine/Store.lean ====
section
/-!
DEFINITION. The named operations over the dictionary's storage and the lanes: object rows, ROP counters, lane counters,
logs (R27, R38, R39, R45), and the lane selectors.
-/
namespace Sys2Proof.Machine

/-- The other lane. -/
def otherLane : Lane → Lane
  | .A => .B
  | .B => .A

/-- One lane's half of a pair. -/
def Pair.get {α : Type} (p : Pair α) : Lane → α
  | .A => p.a
  | .B => p.b

/-- Replace one lane's half. -/
def Pair.put {α : Type} (p : Pair α) (l : Lane) (x : α) : Pair α :=
  match l with
  | .A => { p with a := x }
  | .B => { p with b := x }

/-- Change one lane's half. -/
def Pair.upd {α : Type} (p : Pair α) (l : Lane) (f : α → α) : Pair α := p.put l (f (p.get l))

/-- A lane's number: 0 A, 1 B. -/
def laneNo : Lane → Nat
  | .A => 0
  | .B => 1

/-- A core's number (R26). -/
def coreNo : Core → Nat
  | .A0 => 0
  | .A1 => 1
  | .A2 => 2
  | .A3 => 3
  | .M0 => 4
  | .D0 => 5

/-- Change one lane. -/
def updLane (l : Lane) (f : LaneSt → LaneSt) (s : State) : State := { s with lanes := s.lanes.upd l f }

/-- The active lane (R280). -/
def active (s : State) : Option Lane :=
  if s.lanes.a.role = .active then some .A
  else if s.lanes.b.role = .active then some .B
  else none

/-- The lane in ROLE STANDBY (R280: in sync). -/
def standby (s : State) : Option Lane :=
  if s.lanes.a.role = .standby then some .A
  else if s.lanes.b.role = .standby then some .B
  else none

/-- The encoding of ROLE (R26). -/
def roleCode : Role → Nat
  | .undecided => 0
  | .standby => 1
  | .active => 2
  | .lagging => 3

/-- The key of an object's row. -/
def okey (n r : Nat) : Nat := n * 4294967296 + r

/-- MODULE_ID (3:0101). -/
def modId (s : State) : Nat :=
  match mget s.dict.store (okey 0x30101 0) with
  | some r => rNat r 0
  | none => 255

/-- The default row of an object. -/
def defRow (s : State) (n r : Nat) : Row :=
  match findObj n with
  | some d => defaultRow d r (modId s)
  | none => []

/-- The live row of a stored object (R27): as last stored, or its default; a log's row by its age. -/
def getRow (s : State) (n r : Nat) : Row :=
  match mget s.dict.store (okey n r) with
  | some v => v
  | none =>
    match mget s.dict.logs n with
    | some l => (l[r]?).getD (defRow s n r)
    | none => defRow s n r

/-- The rows of an object that stand in the store. -/
def storedRows (s : State) (n : Nat) : List Nat :=
  s.dict.store.filterMap (fun p => if p.1 / 4294967296 = n then some (p.1 % 4294967296) else none)

/-- A stored scalar as a number. -/
def getN (s : State) (n : Nat) : Nat := rNat (getRow s n 0) 0
/-- A stored scalar as an integer. -/
def getI (s : State) (n : Nat) : Int := rInt (getRow s n 0) 0
/-- A stored BOOL. -/
def getB (s : State) (n : Nat) : Bool := getN s n == 1
/-- A column of a stored row as a number. -/
def getC (s : State) (n r c : Nat) : Nat := rNat (getRow s n r) c

/-- Store a row. -/
def putRow (n r : Nat) (v : Row) (s : State) : State :=
  { s with dict := { s.dict with store := mset s.dict.store (okey n r) v } }

/-- Store a scalar. -/
def putN (n : Nat) (v : Int) (s : State) : State := putRow n 0 [.num v] s

/-- Replace column `c` of a stored row. -/
def putC (n r c : Nat) (v : Val) (s : State) : State := putRow n r (lset (getRow s n r) c v) s

/-- Add to column `c` of a stored row, modulo 2^32 (R45). -/
def addC (n r c k : Nat) (s : State) : State :=
  putC n r c (.num (((getC s n r c + k) % 4294967296 : Nat))) s

/-- The largest value of an ROP counter (R38: U32 or U64). -/
def ropMax (n : Nat) : Nat :=
  if n = 0x50020 ∨ n = 0x50021 ∨ n = 0x50022 then 18446744073709551615 else 4294967295

/-- Raise an ROP counter by `k`; it stops at its maximum (R38). -/
def ropUp (n k : Nat) (s : State) : State := putN n (min (getN s n + k) (ropMax n) : Nat) s

/-- Put a row at the top of a log of `cap` rows (newest first). -/
def logPush (n cap : Nat) (v : Row) (s : State) : State :=
  { s with dict := { s.dict with logs := mset s.dict.logs n ((v :: mgetD s.dict.logs n []).take cap) } }

/-- The key of a lane counter: object, row, column. -/
def ckey (n r c : Nat) : Nat := okey n r * 16 + c

/-- Count on one lane (R45). -/
def cntLane (l : Lane) (n r c k : Nat) (s : State) : State :=
  updLane l (fun x => { x with cnt := mset x.cnt (ckey n r c) (mgetD x.cnt (ckey n r c) 0 + k) }) s

/-- Count a thing of the ordered computation: each lane that runs it counts it (R16, R45). -/
def cntUpAt (n r c k : Nat) (s : State) : State :=
  let s := if s.lanes.a.running && s.lanes.a.role != .lagging then cntLane .A n r c k s else s
  if s.lanes.b.running && s.lanes.b.role != .lagging then cntLane .B n r c k s else s

/-- Count a scalar lane counter once. -/
def cntUp (n : Nat) (s : State) : State := cntUpAt n 0 0 1 s

/-- The lane a READ is served from (R29): the active lane, or lane A while there is none. -/
def servedBy (s : State) : Lane := (active s).getD .A

/-- A lane counter as read (R45: modulo 2^32). -/
def cntRead (s : State) (n r c : Nat) : Nat := mgetD (s.lanes.get (servedBy s)).cnt (ckey n r c) 0 % 4294967296

/-- Draw the next free value's number (log entry 8). -/
def draw (s : State) : State := { s with free := s.free + 1 }

end Sys2Proof.Machine
end

