-- ==== Sys2Proof/Machine/Calendar.lean ====
section
/-!
DEFINITION. Civil time (R341, R342): the calendar, local time from TAI, the daylight-saving rules of ZONE_RULES and
their coming transitions. Days are counted from 2000-01-01, a Saturday; TAI from 2020-01-01 (R7), day 7305.
-/
namespace Sys2Proof.Machine

/-- The first day of a year from 2000 on. -/
def yearStart (y : Nat) : Nat := 365 * (y - 2000) + ((y - 1) / 4 + (y - 1) / 400 - (y - 1) / 100) - 484
/-- A leap year. -/
def isLeap (y : Nat) : Bool := y % 4 == 0 && (y % 100 != 0 || y % 400 == 0)
/-- The year of a day. -/
def yearOf (d : Nat) : Nat :=
  let c := 2000 + d * 400 / 146097
  if d < yearStart c then c - 1 else if yearStart (c + 1) ≤ d then c + 1 else c
/-- The days of a month. -/
def monthDays (y m : Nat) : Nat :=
  if m = 2 then (if isLeap y then 29 else 28) else if m = 4 ∨ m = 6 ∨ m = 9 ∨ m = 11 then 30 else 31
/-- The first day of a month. -/
def monthStart (y m : Nat) : Nat := yearStart y + ((List.range (m - 1)).map (fun i => monthDays y (i + 1))).sum
/-- The weekday of a day, 0 Monday. -/
def weekday (d : Nat) : Nat := (d + 5) % 7

/-- The second since 2000 at which a rule of R342 falls in a year (local standard time). -/
def ruleAt (y month week wday minute : Nat) : Nat :=
  let d := monthStart y month
  let off := (wday + 7 - weekday d) % 7
  let k := if week = 5 then (monthDays y month - 1 - off) / 7 else week - 1
  (d + off + 7 * k) * 86400 + minute * 60

/-- The start and end of daylight-saving time in a year, by ZONE_RULES. -/
def dstStart (z : Row) (y : Nat) : Nat := ruleAt y (rNat z 2) (rNat z 3) (rNat z 4) (rNat z 5)
def dstEnd (z : Row) (y : Nat) : Nat := ruleAt y (rNat z 6) (rNat z 7) (rNat z 8) (rNat z 9)

/-- Whether daylight-saving time applies at a second of local standard time (R342). -/
def dstOn (z : Row) (t : Nat) : Bool :=
  let y := yearOf (t / 86400)
  let a := dstStart z y
  let b := dstEnd z y
  rNat z 1 != 0 && (if a < b then decide (a ≤ t ∧ t < b) else decide (t < b ∨ a ≤ t))

/-- ZONE_RULES. -/
def zoneRules (s : State) : Row := getRow s 0x20110 0
/-- Local standard time of a TAI second, in seconds since 2000 (R341, R342). -/
def stdSec (s : State) (sec : Nat) : Nat :=
  ((sec : Int) + 7305 * 86400 - getI s 0x20100 + 60 * rInt (zoneRules s) 0).toNat
/-- The TAI second of a second of local standard time. -/
def ofStdSec (s : State) (t : Nat) : Nat := ((t : Int) - 7305 * 86400 + getI s 0x20100 - 60 * rInt (zoneRules s) 0).toNat
/-- Local civil time of a TAI second, in seconds since 2000. -/
def civilSec (s : State) (sec : Nat) : Nat :=
  let t := stdSec s sec
  t + (if dstOn (zoneRules s) t then 60 * rNat (zoneRules s) 1 else 0)
/-- The hour of the local civil week, 0 to 167 (R220). -/
def hourOfWeek (s : State) (sec : Nat) : Nat :=
  let t := civilSec s sec
  weekday (t / 86400) * 24 + t / 3600 % 24
/-- The calendar year of a TAI second, UTC. -/
def utcYear (s : State) (sec : Nat) : Nat := yearOf (((sec : Int) + 7305 * 86400 - getI s 0x20100).toNat / 86400)

/-- The transitions of some years: the standard second and the civil offset in minutes after it. -/
def transitionsOf (z : Row) (y : Nat) : List (Nat × Int) :=
  let a := (dstStart z y, rInt z 0 + rInt z 1)
  let b := (dstEnd z y, rInt z 0)
  if a.1 < b.1 then [a, b] else [b, a]

/-- The next 8 transitions (R342): TAI seconds and the civil offset from UTC. -/
def nextTransitions (s : State) : List (Nat × Int) :=
  let z := zoneRules s
  let t := stdSec s (taiSec s)
  let y := yearOf (t / 86400)
  if rNat z 1 = 0 then []
  else (((((List.range 6).map (fun i => transitionsOf z (y + i))).flatten).filter (fun p => decide (t < p.1))).take 8).map
    (fun p => (ofStdSec s p.1, p.2))

/-- ZONE_STALE (R170): fewer than two future entries in the list in force while the rules foresee changes. -/
def zoneStale (s : State) : Bool :=
  rNat (zoneRules s) 1 != 0 && decide ((s.epoch.zoneInForce.filter (fun p => decide (taiSec s < p.1))).length < 2)

end Sys2Proof.Machine
end

