-- ==== Sys2Proof/Machine/Bytes.lean ====
section
/-!
DEFINITION. Byte strings: the byte order of what is sent (R9), numbers in bytes, bits of numbers, small lists.
-/
namespace Sys2Proof.Machine

/-- `n` bytes of a number, most significant first (R9). -/
def be : Nat → Nat → Bytes
  | 0, _ => []
  | n + 1, v => be n (v / 256) ++ [BitVec.ofNat 8 v]

/-- `n` bytes of an integer in two's complement, most significant first. -/
def beI (n : Nat) (v : Int) : Bytes := be n (v % (2 : Int) ^ (8 * n)).toNat

/-- `n` bytes of a number, least significant first (R9). -/
def le (n v : Nat) : Bytes := (be n v).reverse
/-- `n` bytes of an integer, least significant first. -/
def leI (n : Nat) (v : Int) : Bytes := (beI n v).reverse

/-- The number that bytes spell, most significant first. -/
def ofBe (b : Bytes) : Nat := b.foldl (fun a x => a * 256 + x.toNat) 0

/-- A byte string cut or filled with zeros to `n` bytes. -/
def fit (n : Nat) (b : Bytes) : Bytes := (b ++ List.replicate n 0).take n

/-- A Bool as a number. -/
def b2n (b : Bool) : Nat := if b then 1 else 0

/-- The bits of a list of Bools, entry 0 in bit 0. -/
def packBits : List Bool → Nat
  | [] => 0
  | b :: r => b2n b + 2 * packBits r

/-- Whether bit `i` of a number is set. -/
def bitOf (n i : Nat) : Bool := Nat.testBit n i

/-- A list without repeats, rising: the union of one more number. -/
def insertNat (n : Nat) : List Nat → List Nat
  | [] => [n]
  | x :: r => if n < x then n :: x :: r else if n = x then x :: r else x :: insertNat n r

end Sys2Proof.Machine
end

