-- ==== Sys2Proof/Machine/Crypto.lean ====
section
/-!
DEFINITION. The algorithms the spec names: SHA-256 and SHA-384 (R180, R460), HMAC and the SP 800-108 KDF (R309, R349), P-384 keys
(R349), AES in counter mode (R140), CCM* (R152) and GCM (R307). Their constants are those of FIPS 180-4, FIPS 197, SP 800-38 and
SEC 2, which the spec does not repeat.
-/
namespace Sys2Proof.Machine

/-- What tells the SHA-2 functions apart: word bits, rotations of the two message and two state functions (the message
functions end in a shift), constants, first hash value. -/
structure Sha2 where
  bits : Nat
  low0 : Nat × Nat × Nat
  low1 : Nat × Nat × Nat
  big0 : Nat × Nat × Nat
  big1 : Nat × Nat × Nat
  k : List Nat
  init : List Nat

/-- The round constants of SHA-256. -/
def k256 : List Nat :=
    [0x428a2f98, 0x71374491, 0xb5c0fbcf, 0xe9b5dba5, 0x3956c25b, 0x59f111f1, 0x923f82a4, 0xab1c5ed5,
     0xd807aa98, 0x12835b01, 0x243185be, 0x550c7dc3, 0x72be5d74, 0x80deb1fe, 0x9bdc06a7, 0xc19bf174] ++
    [0xe49b69c1, 0xefbe4786, 0x0fc19dc6, 0x240ca1cc, 0x2de92c6f, 0x4a7484aa, 0x5cb0a9dc, 0x76f988da,
     0x983e5152, 0xa831c66d, 0xb00327c8, 0xbf597fc7, 0xc6e00bf3, 0xd5a79147, 0x06ca6351, 0x14292967] ++
    [0x27b70a85, 0x2e1b2138, 0x4d2c6dfc, 0x53380d13, 0x650a7354, 0x766a0abb, 0x81c2c92e, 0x92722c85,
     0xa2bfe8a1, 0xa81a664b, 0xc24b8b70, 0xc76c51a3, 0xd192e819, 0xd6990624, 0xf40e3585, 0x106aa070] ++
    [0x19a4c116, 0x1e376c08, 0x2748774c, 0x34b0bcb5, 0x391c0cb3, 0x4ed8aa4a, 0x5b9cca4f, 0x682e6ff3,
     0x748f82ee, 0x78a5636f, 0x84c87814, 0x8cc70208, 0x90befffa, 0xa4506ceb, 0xbef9a3f7, 0xc67178f2]

/-- The round constants of SHA-384. -/
def k512 : List Nat :=
    [0x428a2f98d728ae22, 0x7137449123ef65cd, 0xb5c0fbcfec4d3b2f, 0xe9b5dba58189dbbc,
     0x3956c25bf348b538, 0x59f111f1b605d019, 0x923f82a4af194f9b, 0xab1c5ed5da6d8118,
     0xd807aa98a3030242, 0x12835b0145706fbe, 0x243185be4ee4b28c, 0x550c7dc3d5ffb4e2,
     0x72be5d74f27b896f, 0x80deb1fe3b1696b1, 0x9bdc06a725c71235, 0xc19bf174cf692694] ++
    [0xe49b69c19ef14ad2, 0xefbe4786384f25e3, 0x0fc19dc68b8cd5b5, 0x240ca1cc77ac9c65,
     0x2de92c6f592b0275, 0x4a7484aa6ea6e483, 0x5cb0a9dcbd41fbd4, 0x76f988da831153b5,
     0x983e5152ee66dfab, 0xa831c66d2db43210, 0xb00327c898fb213f, 0xbf597fc7beef0ee4,
     0xc6e00bf33da88fc2, 0xd5a79147930aa725, 0x06ca6351e003826f, 0x142929670a0e6e70] ++
    [0x27b70a8546d22ffc, 0x2e1b21385c26c926, 0x4d2c6dfc5ac42aed, 0x53380d139d95b3df,
     0x650a73548baf63de, 0x766a0abb3c77b2a8, 0x81c2c92e47edaee6, 0x92722c851482353b,
     0xa2bfe8a14cf10364, 0xa81a664bbc423001, 0xc24b8b70d0f89791, 0xc76c51a30654be30,
     0xd192e819d6ef5218, 0xd69906245565a910, 0xf40e35855771202a, 0x106aa07032bbd1b8] ++
    [0x19a4c116b8d2d0c8, 0x1e376c085141ab53, 0x2748774cdf8eeb99, 0x34b0bcb5e19b48a8,
     0x391c0cb3c5c95a63, 0x4ed8aa4ae3418acb, 0x5b9cca4f7763e373, 0x682e6ff3d6b2b8a3,
     0x748f82ee5defb2fc, 0x78a5636f43172f60, 0x84c87814a1f0ab72, 0x8cc702081a6439ec,
     0x90befffa23631e28, 0xa4506cebde82bde9, 0xbef9a3f7b2c67915, 0xc67178f2e372532b] ++
    [0xca273eceea26619c, 0xd186b8c721c0c207, 0xeada7dd6cde0eb1e, 0xf57d4f7fee6ed178,
     0x06f067aa72176fba, 0x0a637dc5a2c898a6, 0x113f9804bef90dae, 0x1b710b35131c471b,
     0x28db77f523047d84, 0x32caab7b40c72493, 0x3c9ebe0a15c9bebc, 0x431d67c49c100d4c,
     0x4cc5d4becb3e42b6, 0x597f299cfc657e2a, 0x5fcb6fab3ad6faec, 0x6c44198c4a475817]

def sha2of256 : Sha2 :=
  { bits := 32, low0 := (7, 18, 3), low1 := (17, 19, 10), big0 := (2, 13, 22), big1 := (6, 11, 25), k := k256
    init := [0x6a09e667, 0xbb67ae85, 0x3c6ef372, 0xa54ff53a, 0x510e527f, 0x9b05688c, 0x1f83d9ab, 0x5be0cd19] }

def sha2of384 : Sha2 :=
  { bits := 64, low0 := (1, 8, 7), low1 := (19, 61, 6), big0 := (28, 34, 39), big1 := (14, 18, 41), k := k512
    init := [0xcbbb9d5dc1059ed8, 0x629a292a367cd507, 0x9159015a3070dd17, 0x152fecd8f70e5939, 0x67332667ffc00b31,
             0x8eb44a8768581511, 0xdb0c2e0d64f98fa7, 0x47b5481dbefa4fa4] }

/-- A right rotation of a word of `n` bits. -/
def rotR (n x r : Nat) : Nat := (x >>> r ||| x <<< (n - r)) % 2 ^ n

/-- A message function. -/
def Sha2.low (h : Sha2) (c : Nat × Nat × Nat) (x : Nat) : Nat :=
  Nat.xor (Nat.xor (rotR h.bits x c.1) (rotR h.bits x c.2.1)) (x >>> c.2.2)

/-- A state function. -/
def Sha2.big (h : Sha2) (c : Nat × Nat × Nat) (x : Nat) : Nat :=
  Nat.xor (Nat.xor (rotR h.bits x c.1) (rotR h.bits x c.2.1)) (rotR h.bits x c.2.2)

/-- The message schedule, newest word first. -/
def Sha2.schedule (h : Sha2) : Nat → List Nat → List Nat
  | 0, w => w
  | n + 1, w =>
    h.schedule n ((h.low h.low1 (w.getD 1 0) + w.getD 6 0 + h.low h.low0 (w.getD 14 0) + w.getD 15 0) % 2 ^ h.bits :: w)

/-- One round: constant and message word into the eight state words. -/
def Sha2.round (h : Sha2) (v : List Nat) (kw : Nat × Nat) : List Nat :=
  match v with
  | [a, b, c, d, e, f, g, i] =>
    let ch := Nat.xor (e &&& f) ((2 ^ h.bits - 1 - e) &&& g)
    let maj := Nat.xor (Nat.xor (a &&& b) (a &&& c)) (b &&& c)
    let t1 := i + h.big h.big1 e + ch + kw.1 + kw.2
    let t2 := h.big h.big0 a + maj
    [(t1 + t2) % 2 ^ h.bits, a, b, c, (d + t1) % 2 ^ h.bits, e, f, g]
  | v => v

/-- One block of 16 words. -/
def Sha2.block (h : Sha2) (v : List Nat) (w : List Nat) : List Nat :=
  let ws := (h.schedule (h.k.length - 16) w.reverse).reverse
  let r := (h.k.zip ws).foldl h.round v
  (v.zip r).map (fun p => (p.1 + p.2) % 2 ^ h.bits)

/-- Words of `n` bytes each. -/
def wordsOf (n : Nat) : Nat → Bytes → List Nat
  | 0, _ => []
  | k + 1, b => ofBe (b.take n) :: wordsOf n k (b.drop n)

/-- All blocks of a padded message. -/
def Sha2.blocks (h : Sha2) : Nat → Bytes → List Nat → List Nat
  | 0, _, v => v
  | k + 1, b, v => h.blocks k (b.drop (2 * h.bits)) (h.block v (wordsOf (h.bits / 8) 16 b))

/-- The padding of a message. -/
def Sha2.pad (h : Sha2) (b : Bytes) : Bytes :=
  let n := 2 * h.bits
  let z := (n - (b.length + 1 + n / 8) % n) % n
  b ++ [0x80] ++ List.replicate z 0 ++ be (n / 8) (8 * b.length)

/-- The hash value of a message. -/
def Sha2.hash (h : Sha2) (b : Bytes) : Bytes :=
  let m := h.pad b
  ((h.blocks (m.length / (2 * h.bits)) m h.init).map (be (h.bits / 8))).flatten

/-- SHA-256. -/
def sha256 (b : Bytes) : Bytes := sha2of256.hash b
/-- SHA-384. -/
def sha384 (b : Bytes) : Bytes := (sha2of384.hash b).take 48

/-- Exclusive or of byte strings, as long as the shorter. -/
def xorBytes (a b : Bytes) : Bytes := a.zipWith (· ^^^ ·) b

/-- HMAC-SHA-256. -/
def hmac (key msg : Bytes) : Bytes :=
  let k := fit 64 (if 64 < key.length then sha256 key else key)
  sha256 (xorBytes k (List.replicate 64 0x5C) ++ sha256 (xorBytes k (List.replicate 64 0x36) ++ msg))

/-- The ASCII bytes of a label. -/
def ascii (s : String) : Bytes := s.toList.map (fun c => BitVec.ofNat 8 c.toNat)

/-- The blocks of the KDF from counter `n` on. -/
def kdfBlocks (key tail : Bytes) : Nat → Nat → Bytes
  | 0, _ => []
  | k + 1, n => hmac key (be 4 n ++ tail) ++ kdfBlocks key tail k (n + 1)

/-- The SP 800-108 KDF in counter mode (R349): `bits` bits for a label and a context. -/
def kdf (key : Bytes) (label : String) (context : Bytes) (bits : Nat) : Bytes :=
  (kdfBlocks key (ascii label ++ [0] ++ context ++ be 4 bits) ((bits + 255) / 256) 1).take (bits / 8)

/-- The field, order and base point of P-384. -/
def p384 : Nat := 2 ^ 384 - 2 ^ 128 - 2 ^ 96 + 2 ^ 32 - 1
def n384 : Nat :=
  0xffffffffffffffffffffffffffffffffffffffffffffffffc7634d81f4372ddf * 2 ^ 128 + 0x581a0db248b0a77aecec196accc52973
def g384 : Nat × Nat :=
  (0xaa87ca22be8b05378eb1c71ef320ad746e1d3b628ba79b9859f741e082542a38 * 2 ^ 128 + 0x5502f25dbf55296c3a545e3872760ab7,
   0x3617de4a96262c6f5d9e98bf9292dc29f8f41dbd289a147ce9da3113b5f0b8c0 * 2 ^ 128 + 0x0a60b1ce1d7e819d7a431d7c90ea0e5f)

/-- A power modulo `m`, over `fuel` bits of the exponent. -/
def powMod (m : Nat) : Nat → Nat → Nat → Nat
  | 0, _, _ => 1
  | fuel + 1, b, e =>
    let r := powMod m fuel (b * b % m) (e / 2)
    if e % 2 = 1 then r * b % m else r

/-- Twice a point of P-384 in Jacobian coordinates; the point at infinity has Z 0. -/
def jacDouble (q : Nat × Nat × Nat) : Nat × Nat × Nat :=
  let (x, y, z) := q
  let p := p384
  let zz := z * z % p
  let yy := y * y % p
  let s := 4 * x * yy % p
  let m := 3 * (x + p - zz) * (x + zz) % p
  let x3 := (m * m + 2 * p - 2 * s) % p
  (x3, (m * (s + p - x3) + 8 * p - 8 * (yy * yy % p)) % p, 2 * y * z % p)

/-- The sum of two points of P-384 in Jacobian coordinates. -/
def jacAdd (a b : Nat × Nat × Nat) : Nat × Nat × Nat :=
  let p := p384
  if a.2.2 = 0 then b
  else if b.2.2 = 0 then a
  else
    let za := a.2.2 * a.2.2 % p
    let zb := b.2.2 * b.2.2 % p
    let u := a.1 * zb % p
    let v := b.1 * za % p
    let s := a.2.1 * zb * b.2.2 % p
    let t := b.2.1 * za * a.2.2 % p
    if u = v then (if s = t then jacDouble a else (1, 1, 0))
    else
      let h := (v + p - u) % p
      let r := (t + p - s) % p
      let hh := h * h % p
      let hhh := hh * h % p
      let x3 := (r * r + 4 * p - hhh - 2 * (u * hh % p)) % p
      (x3, (r * ((u * hh + p - x3) % p) + p - s * hhh % p) % p, h * a.2.2 * b.2.2 % p)

/-- A multiple of a point, over `fuel` bits. -/
def jacMul : Nat → Nat → Nat × Nat × Nat → Nat × Nat × Nat
  | 0, _, _ => (1, 1, 0)
  | fuel + 1, k, q =>
    let r := jacMul fuel (k / 2) (jacDouble q)
    if k % 2 = 1 then jacAdd r q else r

/-- A multiple of a P-384 point in affine coordinates. -/
def pointMul (k : Nat) (q : Nat × Nat) : Nat × Nat :=
  let (x, y, z) := jacMul 384 k (q.1, q.2, 1)
  let i := powMod p384 384 z (p384 - 2)
  (x * (i * i % p384) % p384, y * (i * i % p384 * i % p384) % p384)

/-- The private key from 448 derived bits (R349). -/
def privOf (c : Bytes) : Nat := ofBe c % (n384 - 1) + 1

/-- A P-384 point in its uncompressed form, 97 bytes, and in its compressed form, 49 bytes. -/
def pointBytes (q : Nat × Nat) : Bytes := [4] ++ be 48 q.1 ++ be 48 q.2
def pointShort (q : Nat × Nat) : Bytes := [if q.2 % 2 = 0 then 2 else 3] ++ be 48 q.1

/-- The public key of a private key. -/
def pubOf (d : Nat) : Nat × Nat := pointMul d g384

/-- The point of a compressed key; `y` is the root of x³ − 3x + b with the parity named. -/
def b384 : Nat :=
  0xb3312fa7e23ee7e4988e056be3f82d19181d9c6efe8141120314088f5013875a * 2 ^ 128 + 0xc656398d8a2ed19d2a85c8edd3ec2aef
def pointOf (b : Bytes) : Nat × Nat :=
  let x := ofBe (b.drop 1) % p384
  let y := powMod p384 384 ((x * x * x + (p384 - 3) * x + b384) % p384) ((p384 + 1) / 4)
  (x, if y % 2 = ((b.headD 0).toNat) % 2 then y else p384 - y)

/-- The ECDH shared secret: the x coordinate of the multiple, 48 bytes. -/
def ecdh (d : Nat) (q : Nat × Nat) : Bytes := be 48 (pointMul d q).1

/-- The substitution box of AES, 16 entries a row, entry 0 in the lowest byte. -/
def sboxRows : List Nat :=
    [0x76abd7fe2b670130c56f6bf27b777c63, 0xc072a49cafa2d4adf04759fa7dc982ca,
     0x1531d871f1e5a534ccf73f362693fdb7, 0x75b227ebe28012079a059618c323c704,
     0x842fe329b3d63b52a05a6e1b1a2c8309, 0xcf584c4a39becb6a5bb1fc20ed00d153,
     0xa89f3c507f02f94585334d43fbaaefd0, 0xd2f3ff1021dab6bcf5389d928f40a351,
     0x73195d643d7ea7c41744975fec130ccd, 0xdb0b5ede14b8ee4688902a22dc4f8160,
     0x79e4959162acd3c25c2406490a3a32e0, 0x08ae7a65eaf4566ca94ed58d6d37c8e7,
     0x8a8bbd4b1f74dde8c6b4a61c2e2578ba, 0x9e1dc186b95735610ef6034866b53e70,
     0xdf2855cee9871e9b948ed9691198f8e1, 0x16bb54b00f2d99416842e6bf0d89a18c]

/-- A substituted byte. -/
def sbox (x : Nat) : Nat := (sboxRows.getD (x / 16) 0 >>> (8 * (x % 16))) % 256

/-- Twice an element of the AES field. -/
def xtime (a : Nat) : Nat := Nat.xor (2 * a % 256) (if 128 ≤ a then 0x1B else 0)

/-- Exclusive or of byte lists. -/
def xorNats (a b : List Nat) : List Nat := a.zipWith Nat.xor b

/-- The AES key schedule: words of 4 bytes, newest first, `nk` words in the key, word number `i`. -/
def aesKeys (nk : Nat) : Nat → Nat → Nat → List (List Nat) → List (List Nat)
  | 0, _, _, w => w
  | n + 1, i, rcon, w =>
    let t := w.headD []
    let (t, rcon) :=
      if i % nk = 0 then
        let r := (t.drop 1 ++ t.take 1).map sbox
        (xorNats r [rcon, 0, 0, 0], xtime rcon)
      else if 6 < nk ∧ i % nk = 4 then (t.map sbox, rcon)
      else (t, rcon)
    aesKeys nk n (i + 1) rcon (xorNats (w.getD (nk - 1) []) t :: w)

/-- The round keys of a 128-bit or 256-bit key, 16 bytes each. -/
def roundKeys (key : Bytes) : List (List Nat) :=
  let k := key.map BitVec.toNat
  let nk := k.length / 4
  let first := (List.range nk).map (fun i => (k.drop (4 * i)).take 4)
  let ws := (aesKeys nk (4 * (nk + 7) - nk) nk 1 first.reverse).reverse
  (List.range (nk + 7)).map (fun i => ((ws.drop (4 * i)).take 4).flatten)

/-- The bytes after SubBytes and ShiftRows. -/
def subShift (b : List Nat) : List Nat := (List.range 16).map (fun i => sbox (b.getD ((i + 4 * (i % 4)) % 16) 0))

/-- MixColumns of one column. -/
def mixCol (c : List Nat) : List Nat :=
  (List.range 4).map (fun i =>
    let a := c.getD i 0
    let b := c.getD ((i + 1) % 4) 0
    Nat.xor (Nat.xor (Nat.xor (xtime a) (Nat.xor (xtime b) b)) (c.getD ((i + 2) % 4) 0)) (c.getD ((i + 3) % 4) 0))

/-- The rounds of AES after the first key. -/
def aesRounds : List (List Nat) → List Nat → List Nat
  | [], b => b
  | [k], b => xorNats (subShift b) k
  | k :: ks, b =>
    let m := subShift b
    aesRounds ks (xorNats ((List.range 4).map (fun i => mixCol ((m.drop (4 * i)).take 4))).flatten k)

/-- AES of one block under its round keys. -/
def aesWith (rk : List (List Nat)) (b : Bytes) : Bytes :=
  match rk with
  | [] => b
  | k :: ks => (aesRounds ks (xorNats (b.map BitVec.toNat) k)).map (BitVec.ofNat 8)

/-- AES of one block. -/
def aes (key block : Bytes) : Bytes := aesWith (roundKeys key) block

/-- A number's next counter block: the last `n` bytes count up. -/
def incBlock (n : Nat) (b : Bytes) : Bytes := b.take (16 - n) ++ be n (ofBe (b.drop (16 - n)) + 1)

/-- The key stream of `k` blocks from a counter block on, of which the last `n` bytes count. -/
def aesCtr (key : Bytes) (n : Nat) : Nat → Bytes → Bytes
  | 0, _ => []
  | k + 1, b => aes key b ++ aesCtr key n k (incBlock n b)

/-- The CBC-MAC of whole blocks. -/
def cbcMac (key : Bytes) : Nat → Bytes → Bytes → Bytes
  | 0, _, x => x
  | k + 1, m, x => cbcMac key k (m.drop 16) (aes key (xorBytes x (m.take 16)))

/-- A byte string filled with zeros to whole blocks. -/
def fillBlocks (b : Bytes) : Bytes := b ++ List.replicate ((16 - b.length % 16) % 16) 0

/-- CCM* with an 8-byte MIC over a 13-byte nonce (R152): ciphertext and MIC. -/
def ccm (key nonce a m : Bytes) : Bytes :=
  let b0 := [if a.isEmpty then 0x19 else 0x59] ++ nonce ++ be 2 m.length
  let auth := b0 ++ (if a.isEmpty then [] else fillBlocks (be 2 a.length ++ a)) ++ fillBlocks m
  let t := cbcMac key (auth.length / 16) auth (List.replicate 16 0)
  let ctr := [1] ++ nonce ++ be 2 0
  xorBytes m (aesCtr key 2 ((m.length + 15) / 16) (incBlock 2 ctr)) ++ (xorBytes t (aes key ctr)).take 8

/-- A product in the field of GCM, bit by bit of the first factor from its top. -/
def ghashMul (y : Nat) : Nat → Nat → Nat → Nat
  | 0, _, z => z
  | k + 1, v, z =>
    ghashMul y k (if v % 2 = 1 then Nat.xor (v / 2) (0xE1 * 2 ^ 120) else v / 2) (if y.testBit k then Nat.xor z v else z)

/-- GHASH of whole blocks under the hash key. -/
def ghash (h : Nat) : Nat → Bytes → Nat → Nat
  | 0, _, x => x
  | k + 1, m, x => ghash h k (m.drop 16) (ghashMul (Nat.xor x (ofBe (m.take 16))) 128 h 0)

/-- AES-GCM (R64, R307, R348): ciphertext and 16-byte tag under a 96-bit IV. -/
def gcm (key iv a m : Bytes) : Bytes :=
  let h := ofBe (aes key (List.replicate 16 0))
  let c := xorBytes m (aesCtr key 4 ((m.length + 15) / 16) (iv ++ be 4 2))
  let auth := fillBlocks a ++ fillBlocks c ++ be 8 (8 * a.length) ++ be 8 (8 * c.length)
  c ++ xorBytes (be 16 (ghash h (auth.length / 16) auth 0)) (aes key (iv ++ be 4 1))

/-- A reflected CRC of `n` bits over bytes, lowest bit first, with polynomial `poly`, from the value `x`. -/
def crcBits (poly : Nat) : Nat → Nat → Nat
  | 0, x => x
  | k + 1, x => crcBits poly k (if x % 2 = 1 then Nat.xor (x / 2) poly else x / 2)

/-- One step of the CRC-32 of IEEE 802.3, low bit first. -/
def crcStep (c : BitVec 32) : BitVec 32 := if c.getLsbD 0 then (c >>> 1) ^^^ 0xEDB88320#32 else c >>> 1

/-- One byte into the CRC-32. -/
def crcByte (c : BitVec 32) (b : Byte) : BitVec 32 :=
  let c := c ^^^ (b.setWidth 32)
  crcStep (crcStep (crcStep (crcStep (crcStep (crcStep (crcStep (crcStep c)))))))

/-- CRC-32 (IEEE 802.3) of a byte string. -/
def crc32 (b : Bytes) : BitVec 32 := ~~~ (b.foldl crcByte 0xFFFFFFFF#32)

/-- The 16-bit FCS of IEEE 802.15.4. -/
def crc16 (b : Bytes) : Nat := b.foldl (fun x c => crcBits 0x8408 8 (Nat.xor x c.toNat)) 0

end Sys2Proof.Machine
end

