-- ==== Sys2Proof/Machine/Wire.lean ====
section
/-!
DEFINITION. The bytes of what leaves the module (R9): tagged values and row frames (R30, R34, R35), Ibier datagrams (R66,
R74, R75, R83, R84), trunk frames (R307, R309, R312, R315 to R317, R321, R323, R217, R218, R463).
-/
namespace Sys2Proof.Machine

/-- A value as its column encodes it (R30), with no tag. -/
def encCol (c : ColKind) (v : Val) : Bytes :=
  match c, v with
  | .octets n, .bytes b => fit n b
  | .octetsVar _ _, .bytes b => be 2 b.length ++ b
  | .text _, .bytes b => be 1 b.length ++ b
  | c, .num n => beI (tagSize c.tag) n
  | _, .bytes _ => []

/-- Tagged values in order (R30, R35): each is preceded by its tag. -/
def tagged : List ColKind → List Val → Bytes
  | c :: cs, v :: vs => be 1 c.tag ++ encCol c v ++ tagged cs vs
  | _, _ => []

/-- The columns of a row, without tags (R34). -/
def rowBytes : List ColKind → Row → Bytes
  | c :: cs, v :: vs => encCol c v ++ rowBytes cs vs
  | _, _ => []

/-- A row frame (R34): row index, byte length, columns. -/
def rowFrame (cols : List ColKind) (p : Nat × Row) : Bytes :=
  be 4 p.1 ++ be 2 (rowBytes cols p.2).length ++ rowBytes cols p.2

/-- Row frames in order (R34). -/
def rowFrames (cols : List ColKind) (l : List (Nat × Row)) : Bytes := (l.map (rowFrame cols)).flatten

/-- The bytes of a body of one part. -/
def Body.bytes : Body → Bytes
  | .empty => []
  | .raw b => b
  | .survey _ _ l => l.flatten

/-- The parts of a reply (R74, R75): one, but for a Survey, whose parts are all sent or only the one that RESEND_PART
names (R77). -/
def Body.parts : Body → List (Nat × Bytes)
  | .survey _ only l => if only < l.length then [(only, l.getD only [])] else l.zipIdx.map (fun p => (p.2, p.1))
  | b => [(0, b.bytes)]

/-- How many parts a body has. -/
def Body.count : Body → Nat
  | .survey _ _ l => l.length
  | _ => 1

/-- The bytes of a message (R74, R83, R84). -/
def IbMsg.wire : IbMsg → Bytes
  | .reply sid seq typ part parts r =>
    be 1 (typ + 128) ++ be 1 r.status ++ be 2 (32 + r.body.bytes.length) ++ be 4 sid ++ be 4 seq ++ be 1 r.first
      ++ be 1 part ++ be 1 parts ++ be 1 0 ++ be 8 r.applyAsn ++ be 4 r.ticket ++ be 4 r.obj ++ r.body.bytes
  | .notice sid seq sub flags changes time obj b =>
    be 1 0xC0 ++ be 1 flags ++ be 2 (32 + b.bytes.length) ++ be 4 sid ++ be 4 seq ++ be 2 sub ++ be 2 changes ++ be 8 time
      ++ be 4 obj ++ be 4 0 ++ b.bytes
  | .completion sid compSeq ticket reqSeq origSid n =>
    be 1 0xC1 ++ be 1 0 ++ be 2 (32 + n.length) ++ be 4 sid ++ be 4 compSeq ++ be 4 ticket ++ be 4 reqSeq
      ++ be 4 origSid ++ be 1 0 ++ be 1 1 ++ List.replicate 6 0 ++ n

/-- The bytes a DTLS 1.3 record adds to its message: header, content type and authentication tag; PRESUMED (log entry
62). -/
def recordOver : Nat := 22

/-- The relay header and the message of a datagram (R66); the DTLS record seals the message, and is not laid out. -/
def Dgram.wire (d : Dgram) : Bytes := be 1 1 ++ be 1 d.module ++ be 1 d.tclass ++ be 1 0 ++ d.msg.wire

/-- The length of a datagram on the wire. -/
def Dgram.size (d : Dgram) : Nat := d.wire.length + recordOver

/-- The head-end of an IBIER payload (R321). -/
def peerWire (p : Peer) : Bytes := fit 16 p.addr ++ be 2 p.port ++ be 1 (b2n p.service) ++ be 1 0

/-- MTYPE (R308). -/
def TMsg.mtype : TMsg → Nat
  | .hello _ => 0x01
  | .offer _ => 0x02
  | .accept _ => 0x03
  | .credit _ => 0x04
  | .dcredit _ _ _ _ => 0x05
  | .topo _ => 0x06
  | .linkReport _ _ _ _ _ => 0x07
  | .breakMsg _ _ _ => 0x08
  | .ibier _ _ => 0x10
  | .relay _ _ _ _ => 0x10
  | .surveySnap _ => 0x11
  | .status _ => 0x12
  | .surveyRec _ => 0x13
  | .image _ _ _ => 0x20
  | .handoff _ => 0x31
  | .handoffAck _ _ _ _ => 0x32
  | .boundaryList _ _ _ _ => 0x33
  | .passed => 0
  | .spoiled => 0

/-- HELLO (R309), with the notice of R366 behind it. -/
def helloWire (m : HelloMsg) : Bytes :=
  be 1 m.role ++ be 1 m.node ++ be 1 m.port ++ be 1 m.part ++ be 4 m.cascade ++ fit 16 m.serial ++ be 8 m.nonce
    ++ be 2 m.proto ++ be 2 m.caps ++ m.notice.getD []

/-- The TIME64 of ASN 0 from an anchor in FAB cycles (R309, R316). -/
def anchor64 (a : Int) : Nat := toTime64 a.toNat

/-- Bytes 0 to 35 of OFFER and ACCEPT, which PROOF covers (R309). -/
def ProofMsg.head (m : ProofMsg) : Bytes :=
  be 8 m.nonce ++ be 8 m.time ++ be 8 (anchor64 m.anchor) ++ be 1 m.quality ++ be 1 m.master ++ be 2 0
    ++ (m.grant.map (be 2)).flatten

/-- TOPO (R316). -/
def topoWire (m : TopoMsg) : Bytes :=
  be 4 m.tgen ++ be 8 (anchor64 m.anchor) ++ be 1 m.kind ++ be 1 m.entries.length ++ be 1 m.deputy ++ be 1 m.dateline
    ++ (m.entries.map (fun e => be 1 e.1 ++ be 1 (b2n e.2))).flatten

/-- STATUS (R323), in the encodings of R89. -/
def statusWire (m : StatusMsg) : Bytes :=
  be 32 m.sticky ++ be 1 m.activeLane ++ be 1 m.roleA ++ be 1 m.roleB ++ be 2 m.health ++ be 1 m.quality ++ be 1 m.ring
    ++ be 4 m.ticketsOpen ++ be 8 m.time

/-- The 24-byte header of a service-stream message (R463). -/
def streamWire (styp : Nat) (h : StreamHdr) (status next : Nat) : Bytes :=
  be 1 styp ++ be 1 h.target ++ be 1 h.kind ++ be 1 h.lanes ++ be 4 h.tid ++ be 4 h.offset ++ be 4 h.length ++ be 1 status
    ++ be 3 0 ++ be 4 next

/-- The payload of a trunk frame of the module's own (R308); of a datagram passed on or a frame passed through only the
length is known. -/
def TMsg.payload : TMsg → Bytes
  | .hello m => helloWire m
  | .offer m => m.head ++ fit 16 m.proof
  | .accept m => m.head ++ fit 16 m.proof
  | .credit freed => (freed.map (be 2)).flatten
  | .dcredit reset freed held grant =>
    be 1 (b2n reset) ++ be 1 0 ++ ((List.range 3).map (fun k =>
      be 4 (freed.getD k 0) ++ be 4 (held.getD k 0) ++ be 2 (grant.getD k 0))).flatten
  | .topo m => topoWire m
  | .linkReport node stateTA neighTA stateTB neighTB => be 1 node ++ be 1 stateTA ++ be 1 neighTA ++ be 1 stateTB ++ be 1 neighTB
  | .breakMsg nodeA nodeB tgen => be 1 nodeA ++ be 1 nodeB ++ be 4 tgen
  | .status m => statusWire m
  | .ibier peer d => peerWire peer ++ d.wire
  | .relay peer _ _ _ => peerWire peer
  | .passed => []
  | .spoiled => []
  | .handoff m =>
    be 1 0x31 ++ be 1 m.source ++ be 2 m.track ++ be 2 m.bkey ++ be 1 m.cls ++ be 1 m.flags ++ be 2 m.speed ++ be 8 m.eta
      ++ be 2 m.hseq
  | .handoffAck source hseq track st => be 1 0x32 ++ be 1 source ++ be 2 hseq ++ be 2 track ++ be 1 st
  | .boundaryList source part parts e =>
    be 1 0x33 ++ be 1 source ++ be 1 e.length ++ be 1 (16 * part + (parts - 1))
      ++ (e.map (fun x => be 2 x.1 ++ be 2 x.2.1 ++ be 2 x.2.2)).flatten
  | .surveySnap a => be 8 a
  | .surveyRec b => b
  | .image styp h body => streamWire styp h 0 0 ++ body

/-- The payload length of this module's own messages (R307). -/
def tmsgLen (m : TMsg) : Nat :=
  match m with
  | .ibier _ d => 20 + d.size
  | .relay _ _ _ n => 20 + n
  | m => m.payload.length

/-- The trunk header of a frame (R307). -/
def frameWire (f : TrunkFrame) : Bytes :=
  be 1 1 ++ be 1 (64 * f.cls + 32 * f.vc + 16 * b2n f.turned) ++ be 1 f.mtype ++ be 1 f.dst ++ be 1 f.src ++ be 1 f.hops
    ++ be 1 f.tgen ++ be 1 0 ++ be 8 f.fcnt ++ be 2 f.len ++ be 2 0

end Sys2Proof.Machine
end

