-- ==== Sys2Proof/Machine/Keys.lean ====
section
/-!
DEFINITION. The keys that grow from the vault's roots (R349, R350, R351, R153), the escrow blobs (R358), the keys, proofs and
tags of a trunk link (R307, R309).
-/
namespace Sys2Proof.Machine

/-- What a label of R350 gives from its root: its context in bytes, and its output bits. -/
def attestKey (root : Bytes) (label : String) : Nat := privOf (kdf root label [] 448)

/-- ROOT_ID of an owner root (R350). -/
def rootIdOf (root : Bytes) : Bytes := kdf root "ROOT-ID" [] 64

/-- The public half of a P-384 key of the tree, uncompressed (R349, R350). -/
def attestPub (root : Bytes) (label : String) : Bytes := pointBytes (pubOf (attestKey root label))

/-- The owner root that the serving lane's vault holds unsealed (R345, R347). -/
def liveRoot (s : State) : Bytes :=
  let v := (s.lanes.get (servedBy s)).vault
  if v.unsealed then v.root.getD [] else []

/-- A radio key `g` generations on (R153): each is the KDF of the one before. -/
def ratchetKey : Nat → Bytes → Bytes
  | 0, k => k
  | g + 1, k => kdf (ratchetKey g k) "CYDEL-RATCHET" (be 4 (g + 1)) 128

/-- The key of a cluster at generation `g` (R153, R350). -/
def clusterKey (s : State) (c g : Nat) : Bytes := ratchetKey g (kdf (liveRoot s) "CYDEL-CLUSTER" (be 1 c) 128)

/-- The broadcast key of a transceiver at generation `g` (R153, R350). -/
def bcastKey (s : State) (x g : Nat) : Bytes := ratchetKey g (kdf (liveRoot s) "CYDEL-BCAST" (be 1 x) 128)

/-- The sealing key and IV of an escrow blob (R358), from the ECDH secret, SERIAL and KEY_ID. -/
def blobSeal (secret serial keyId : Bytes) : Bytes × Bytes :=
  let k := kdf secret "ESCROW-WRAP" (fit 16 serial ++ fit 8 keyId) 352
  (k.take 32, k.drop 32)

/-- The bytes of a blob before its WRAPPED key (R358). -/
def blobHead (kind : Nat) (serial keyId ephPub : Bytes) : Bytes :=
  be 1 1 ++ be 1 kind ++ be 2 0 ++ fit 16 serial ++ fit 8 keyId ++ fit 97 ephPub

/-- A blob (R358) sealed to a recipient with an ephemeral private key. -/
def sealBlob (kind : Nat) (serial keyId key : Bytes) (eph : Nat) (recipient : Nat × Nat) : Bytes :=
  let w := blobSeal (ecdh eph recipient) serial keyId
  let a := blobHead kind serial keyId (pointBytes (pubOf eph))
  a ++ gcm w.1 w.2 a (fit 32 key)

/-- A point in its uncompressed form. -/
def pointIn (b : Bytes) : Nat × Nat := (ofBe ((b.drop 1).take 48), ofBe ((b.drop 49).take 48))

/-- The key that a blob for this module holds (R358): the vault's ESCROW-IN key opens it. -/
def blobKey (blob : Bytes) : Bytes :=
  let keyId := (blob.drop 20).take 8
  let secret := ecdh (attestKey Config.factoryRoot "ESCROW-IN") (pointIn ((blob.drop 28).take 97))
  let w := blobSeal secret ((blob.drop 4).take 16) keyId
  (gcm w.1 w.2 (blob.take 125) ((blob.drop 125).take 32)).take 32

/-- The nonces of a link, the lower node's first, behind both node IDs (R309). -/
def linkContext (s : State) (p : Nat) : Bytes :=
  let x := lget s.trunk.ports p Port.init
  match x.peer with
  | none => []
  | some h =>
    if modId s < h.node then be 1 (modId s) ++ be 1 h.node ++ be 8 x.nonce ++ be 8 h.nonce
    else be 1 h.node ++ be 1 (modId s) ++ be 8 h.nonce ++ be 8 x.nonce

/-- The key and the salt of a link (R309). -/
def linkKey (s : State) (p : Nat) : Bytes × Bytes :=
  let k := kdf s.life.trunkKey "TRUNK-LINK" (linkContext s p) 288
  (k.take 32, k.drop 32)

/-- The TAG of a frame on a link (R307): over header and payload, with an empty plaintext; HELLO has none, and of a frame
passed through the payload is not held. -/
def frameTag (s : State) (p : Nat) (f : TrunkFrame) (m : TMsg) : Bytes :=
  match m with
  | .hello _ => []
  | .passed => []
  | .spoiled => []
  | .relay _ _ _ _ => []
  | m =>
    let k := linkKey s p
    gcm k.1 (k.2 ++ be 8 f.fcnt) (frameWire f ++ m.payload) []

/-- The PROOF of an OFFER or ACCEPT (R309): over both HELLOs, the lower node's first, and bytes 0 to 35. -/
def linkProof (s : State) (own peer : HelloMsg) (m : ProofMsg) : Bytes :=
  let both := if own.node < peer.node then helloWire own ++ helloWire peer else helloWire peer ++ helloWire own
  (hmac s.life.trunkKey (both ++ m.head)).take 16

end Sys2Proof.Machine
end

