-- ==== Sys2Proof/Machine/Ops.lean ====
section
/-!
DEFINITION. The shared operations: free values, outputs and their release (R280,
R283), submissions to the recorder (R376), sticky faults (R384, R385).
-/
namespace Sys2Proof.Machine

/-- What the next free value is (log entry 8). -/
def freeNat (s : State) : Nat := Config.freeNat s.free
/-- What the next free bytes are (log entry 8). -/
def freeBytes (s : State) : Bytes := Config.freeBytes s.free

/-- Whether a lane runs the ordered computation (R16): it is active or in sync, or no lane is active yet. -/
def consumes (l : Lane) (s : State) : Bool :=
  let x := s.lanes.get l
  x.running && (x.role == .active || x.role == .standby || (x.role == .undecided && (active s).isNone))

/-- Outputs that leave the module (R280), rather than pass between its own units. -/
def outside : Out → Bool
  | .regData _ _ _ _ => false
  | .busError _ _ _ => false
  | .orderTag _ _ _ => false
  | .forward _ _ _ => false
  | _ => true

/-- Outputs held back until compared (R282, first row of its table). Link and routing frames that the ports' hardware
sends, relayed datagrams, frames passed through and PTP are not (R306, R312, R314, R317, R319). -/
def heldBack : Out → Bool
  | .radio _ _ _ _ _ => false
  | .ptpSync _ _ _ => false
  | .ptpAnnounce _ _ => false
  | .remoteFault _ => false
  | .streamCut _ => false
  | .relayed _ _ _ _ => false
  | .trunk _ _ m _ =>
    match m with
    | .credit _ => false
    | .dcredit _ _ _ _ => false
    | .topo _ => false
    | .linkReport _ _ _ _ _ => false
    | .breakMsg _ _ _ => false
    | .passed => false
    | .spoiled => false
    | .relay _ _ _ _ => false
    | .ibier _ _ => true
    | .hello _ => true
    | .offer _ => true
    | .accept _ => true
    | .status _ => true
    | .handoff _ => true
    | .handoffAck _ _ _ _ => true
    | .boundaryList _ _ _ _ => true
    | .surveySnap _ => true
    | .surveyRec _ => true
    | .image _ _ _ => true
  | _ => true

/-- An output leaves; a trunk frame takes the link's next FCNT and its TAG as it does (R307) and counts in PORT_STATUS (3:0020). -/
def leave (o : Out) (s : State) : State :=
  match o with
  | .trunk p f m _ =>
    let n := (lget s.trunk.ports p Port.init).fcntTx + 1
    cntUpAt 0x30020 p 6 1
      { s with trunk := { s.trunk with ports := lmod s.trunk.ports p (fun x => { x with fcntTx := n }) }
               out := .trunk p { f with fcnt := n } m (frameTag s p { f with fcnt := n } m) :: s.out }
  | o => { s with out := o :: s.out }

/-- An output is produced (R280, R282, R283): with no active lane it is discarded; a held-back kind waits for the
standby's record while the standby is in sync; any other is released at once. -/
def emit (o : Out) (s : State) : State :=
  if outside o then
    match active s with
    | none => s
    | some _ =>
      let n := (s.lp.outSeq + 1) % 4294967296
      if heldBack o && (standby s).isSome then
        { s with lp := { s.lp with outSeq := n, waiting := s.lp.waiting ++ [(n, s.clk.fab, o)] } }
      else leave o { s with lp := { s.lp with outSeq := n, released := n } }
  else { s with out := o :: s.out }

/-- Emit several outputs in order. -/
def emitAll : List Out → State → State
  | [], s => s
  | o :: r, s => emitAll r (emit o s)

/-- While a power-fail warning is in force, DRAIN of the open page equals the queue's length (R379, R381). -/
def syncDrain (s : State) : State :=
  if s.recd.draining then
    match s.recd.openPage with
    | some p =>
      { s with recd := { s.recd with pages := mmod s.recd.pages p (fun g => { g with drain := s.recd.queue.length }) } }
    | none => s
  else s

/-- A payload filled to a multiple of 4 bytes, at least 8 (R374). -/
def padRec (b : Bytes) : Bytes :=
  let n := max 8 ((b.length + 3) / 4 * 4)
  fit n b

/-- A submission to the recorder's engine (R375, R376): below REC_MIN_SEV nothing; a full queue drops and counts. -/
def submitRec (r : Record) (s : State) : State :=
  if r.sev < getN s 0xB0110 then s
  else if 256 ≤ s.recd.queue.length then cntUp 0xB0014 (addC 0xB0011 r.sev 0 1 s)
  else syncDrain { s with recd := { s.recd with queue := s.recd.queue ++ [r] } }

/-- A record of the ordered computation (R374, R380: ORIGIN 00b). -/
def record (typ sev source : Nat) (payload : Bytes) (s : State) : State :=
  submitRec { typ := typ, sev := sev, summary := false, origin := 0, late := false, rseq := 0, time := time64 s,
              rep := 0, source := source, lastMs := 0, payload := padRec payload } s

/-- A sticky bit is set (R384, R385): its first and last time, its count, its detail; the FAB cycle is kept (R37). -/
def stickySet (bit detail : Nat) (s : State) : State :=
  let row := getRow s 0xB0101 bit
  let first : Nat := if s.dict.sticky.getLsbD bit then rNat row 0 else time64 s
  let s := putRow 0xB0101 bit [.num first, .num (time64 s), .num ((rNat row 2 + 1) % 4294967296 : Nat), .num detail] s
  { s with dict := { s.dict with
    sticky := s.dict.sticky ||| (BitVec.twoPow 256 bit), stuckAt := mset s.dict.stuckAt bit s.clk.fab } }

/-- A condition bit's condition begins to hold or ends (R384): it sets the bit when it begins. -/
def condSet (bit detail : Nat) (on : Bool) (s : State) : State :=
  if on then
    if s.dict.live.getLsbD bit then s
    else
      let s := stickySet bit detail s
      { s with dict := { s.dict with live := s.dict.live ||| (BitVec.twoPow 256 bit) } }
  else { s with dict := { s.dict with live := s.dict.live &&& ~~~(BitVec.twoPow 256 bit) } }

/-- An entry of the operation journal (R13, R54). -/
def journal (e : JEntry) (s : State) : State := { s with dict := { s.dict with journal := s.dict.journal ++ [e] } }

/-- Erase the journal entries of a kind. -/
def journalErase (p : JEntry → Bool) (s : State) : State :=
  { s with dict := { s.dict with journal := s.dict.journal.filter (fun e => !p e) } }

/-- Zero client ID. -/
def noClient : Bytes := List.replicate 16 0

end Sys2Proof.Machine
end

