-- ==== Sys2Proof/Machine/IcuOps.lean ====
section
/-!
DEFINITION. The operations of a lane's interrupt controller (chapter 15), and the bus errors of R22 and R23.
-/
namespace Sys2Proof.Machine

/-- Whether a source is a level source (R405, R424). -/
def icuLevel (n : Nat) : Bool :=
  [10, 12, 13, 16, 17, 19, 20, 21, 80, 81, 82, 83, 113, 128, 152, 264, 265, 266, 267, 268].contains n

/-- The reset target and priority of a source (R405, R424); (0, 0) for a reserved one. -/
def icuRoute (n : Nat) : Nat × Nat :=
  if n = 0 then (5, 15) else if n = 1 then (1, 15)
  else if 2 ≤ n ∧ n ≤ 9 then (1, 6) else if n = 10 then (0, 14) else if n = 11 then (1, 4)
  else if n = 12 ∨ n = 13 then (0, 12) else if n = 14 ∨ n = 15 then (0, 5) else if n = 16 ∨ n = 17 then (1, 13)
  else if n = 18 then (1, 15) else if n = 19 then (0, 5) else if n = 20 ∨ n = 21 then (1, 3)
  else if 22 ≤ n ∧ n ≤ 25 then (4, 11) else if 64 ≤ n ∧ n ≤ 67 then (4, 13) else if 68 ≤ n ∧ n ≤ 71 then (4, 12)
  else if n = 72 then (4, 10) else if n = 73 then (4, 9) else if n = 80 then (2, 8) else if n = 81 then (2, 6)
  else if n = 82 then (3, 8) else if n = 83 then (3, 6) else if n = 84 then (2, 5) else if n = 85 then (3, 5)
  else if n = 86 then (0, 9) else if n = 96 then (5, 10) else if n = 97 then (5, 12) else if n = 98 then (5, 9)
  else if 104 ≤ n ∧ n ≤ 111 then (1, 4) else if n = 112 then (1, 7) else if n = 113 then (1, 8)
  else if n = 120 then (0, 7) else if n = 121 then (1, 7) else if n = 122 then (0, 11) else if n = 128 then (1, 3)
  else if n = 136 then (1, 5) else if n = 144 then (0, 9) else if n = 145 then (1, 9) else if n = 146 then (4, 9)
  else if n = 147 then (6, 12) else if n = 152 then (1, 3) else if n = 153 then (1, 2) else if n = 154 then (1, 15)
  else if n = 155 then (1, 6) else if 156 ≤ n ∧ n ≤ 161 then (1, 12) else if n = 256 then (1, 2)
  else if n = 257 ∨ n = 258 then (1, 15) else if n = 259 then (1, 12) else if n = 264 then (0, 13)
  else if n = 265 then (0, 11) else if n = 266 then (0, 8) else if n = 267 then (0, 6) else if n = 268 then (0, 8)
  else (0, 0)

/-- Whether a source is assigned (R405, R424); SRC_CFG of any other reads 0 and ignores writes (R404). -/
def icuAssigned (n : Nat) : Bool := (icuRoute n).2 != 0 || (320 ≤ n && n ≤ 383)

/-- A source at its reset value. -/
def icuSrc0 (n : Nat) : IcuSrc :=
  { target := (icuRoute n).1, prio := (icuRoute n).2, enabled := false, pending := false, line := false,
    active := none, unread := false, merged := 0, empties := 0, since := 0, cleared := none }

/-- A source of a lane's ICU. -/
def icuSrc (u : Icu) (n : Nat) : IcuSrc := mgetD u.srcs n (icuSrc0 n)

/-- Change a source. -/
def icuMod (n : Nat) (f : IcuSrc → IcuSrc) (u : Icu) : Icu := { u with srcs := mset u.srcs n (f (icuSrc u n)) }

/-- Whether a source is pending (R391). -/
def icuPending (n : Nat) (x : IcuSrc) : Bool := if icuLevel n then x.line && x.active.isNone else x.pending

/-- Saturating 16-bit count. -/
def sat16 (n : Nat) : Nat := min n 65535

/-- Saturating 32-bit count. -/
def sat32 (n : Nat) : Nat := min n 4294967295

/-- The event of an edge source (R391): pending, or merged while it is pending; lost while the lane is in stop (R403). -/
def icuEdge (now n : Nat) (u : Icu) : Icu :=
  if u.stopped then u
  else icuMod n (fun x => if x.pending then { x with merged := sat16 (x.merged + 1) }
                          else { x with pending := true, since := now }) u

/-- A level source's line (R391). -/
def icuSetLine (now n : Nat) (on : Bool) (u : Icu) : Icu :=
  icuMod n (fun x => { x with line := on, since := if on && !x.line then now else x.since }) u

/-- The running level of a target (R392). -/
def icuRun (t : IcuTarget) : Nat := match t.stack with | [] => 0 | (_, p) :: _ => p

/-- Apply to one lane's ICU. -/
def updIcu (l : Lane) (f : Icu → Icu) (s : State) : State := updLane l (fun x => { x with icu := f x.icu }) s

/-- An event of the ordered computation reaches both lanes' ICUs (R16). -/
def icuRaise (n : Nat) (s : State) : State :=
  updIcu .B (icuEdge s.clk.fab n) (updIcu .A (icuEdge s.clk.fab n) s)

/-- A level line seen by both lanes. -/
def icuLine (n : Nat) (on : Bool) (s : State) : State :=
  updIcu .B (icuSetLine s.clk.fab n on) (updIcu .A (icuSetLine s.clk.fab n on) s)

/-- A lane's own level line. -/
def icuLineAt (l : Lane) (n : Nat) (on : Bool) (s : State) : State := updIcu l (icuSetLine s.clk.fab n on) s

/-- A lane's own event. -/
def icuRaiseAt (l : Lane) (n : Nat) (s : State) : State := updIcu l (icuEdge s.clk.fab n) s

/-- A policy core (R23). -/
def isPolicy (c : Core) : Bool := c == .A2 || c == .A3

/-- An access answers with a bus error and is not performed (R22, R23): counted for the core; an access of a policy core
beyond its regions sets POLICY_FENCE, whose detail is the word's address with the core's number in bits 1..0 (DESIGN CHOICE,
log entry 60). -/
def busErr (l : Lane) (c : Core) (addr : Nat) (fence : Bool) (s : State) : State :=
  let s := addC 0xE0030 (laneNo l * 6 + coreNo c) 0 1 s
  let s := if isPolicy c && fence then stickySet 114 (addr / 4 * 4 + coreNo c) s else s
  emit (.busError l c addr) s

/-- The sources presented to a target at a claim read (R392, R393, R398), as (priority, source): pending before this
cycle, above threshold and running level, and enabled or disabled within the last 8 FAB cycles with `late` (R400). -/
def icuPresented (now : Nat) (late : Bool) (u : Icu) (tn : Nat) (t : IcuTarget) : List (Nat × Nat × Bool) :=
  u.srcs.filterMap (fun p =>
    let x := p.2
    let win := match x.cleared with | some c => now ≤ c + 8 | none => false
    if x.target == tn && icuPending p.1 x && decide (x.since < now) && decide (t.threshold < x.prio)
        && decide (icuRun t < x.prio) && (x.enabled || (late && win))
    then some (x.prio, p.1, !x.enabled) else none)

/-- The winner: highest priority, then lowest number (R393). -/
def icuBest : List (Nat × Nat × Bool) → Option (Nat × Nat × Bool)
  | [] => none
  | x :: r =>
    match icuBest r with
    | none => some x
    | some y => if y.1 ≤ x.1 then some x else some y

/-- ICU_STUCK holds while any target of either lane is stuck (R394). -/
def icuStuckLive (s : State) : Bool :=
  s.lanes.a.icu.targets.any (fun t => t.stuck) || s.lanes.b.icu.targets.any (fun t => t.stuck)

/-- Keep the condition of ICU_STUCK (R394). -/
def icuStuckSync (detail : Nat) (s : State) : State := condSet 225 detail (icuStuckLive s) s

end Sys2Proof.Machine
end

