-- ==== Sys2Proof/Machine/Memory.lean ====
section
/-!
DEFINITION. A lane's memory (R22): cells in one canonical form, addresses strictly rising and no cell equal to what an
unlisted address reads as, 00h (log entry 9). Words are little-endian (R9).
-/
namespace Sys2Proof.Machine

/-- What an unlisted address reads as. -/
def memDefault : Byte := 0

/-- The canonical form above a lower bound. -/
def memWfFrom : Nat → List Host.Cell → Bool
  | _, [] => true
  | lo, (a, b) :: r => (lo ≤ a) && (b != memDefault) && memWfFrom (a + 1) r

/-- The canonical form of a memory. -/
def Memory.wf (m : List Host.Cell) : Bool := memWfFrom 0 m

/-- Read a byte. -/
def memRead : List Host.Cell → Nat → Byte
  | [], _ => memDefault
  | (a, b) :: r, k => if k = a then b else memRead r k

/-- Write a byte, keeping the canonical form. -/
def memWrite : List Host.Cell → Nat → Byte → List Host.Cell
  | [], k, v => if v = memDefault then [] else [(k, v)]
  | (a, b) :: r, k, v =>
    if k < a then if v = memDefault then (a, b) :: r else (k, v) :: (a, b) :: r
    else if k = a then if v = memDefault then r else (k, v) :: r
    else (a, b) :: memWrite r k v

/-- Read a little-endian 32-bit word. -/
def memRead32 (m : List Host.Cell) (a : Nat) : Word32 :=
  memRead m (a + 3) ++ memRead m (a + 2) ++ memRead m (a + 1) ++ memRead m a

/-- Write a little-endian 32-bit word. -/
def memWrite32 (m : List Host.Cell) (a : Nat) (v : Word32) : List Host.Cell :=
  memWrite (memWrite (memWrite (memWrite m a (v.extractLsb' 0 8)) (a + 1) (v.extractLsb' 8 8)) (a + 2)
    (v.extractLsb' 16 8)) (a + 3) (v.extractLsb' 24 8)

end Sys2Proof.Machine
end

