-- ==== Sys2Proof/Machine/MetBase.lean ====
section
/-!
DEFINITION. What a lane's stop and start do to its metering (R249, R251, R453): the slots of its save ring, its open
CURRENT_WITHOUT_VOLTAGE events, its load.
-/
namespace Sys2Proof.Machine

/-- Change the metering part of the state. -/
def updMet (f : Meter → Meter) (s : State) : State := { s with met := f s.met }
/-- Change one lane's metering. -/
def updLM (l : Lane) (f : LaneMeter → LaneMeter) (s : State) : State := updMet (fun m => { m with lanes := m.lanes.upd l f }) s

/-- The bytes of a save slot as the lane's MRAM holds them (R246): little-endian. -/
def slotBytes (x : SaveSlot) : Bytes :=
  let acc (a : Nat) : Bytes := le 8 (a / 4294967296) ++ le 4 (a % 4294967296)
  let b := le 4 0x5641534D ++ le 4 x.seq ++ le 8 x.time ++ le 8 x.asn ++ le 4 x.flags
    ++ le 4 0 ++ ((List.range 7).map (fun i => acc (cN x.acc i))).flatten ++ le 4 x.pmaxImp ++ le 4 x.pmaxExp
  b ++ le 4 (crc32 b).toNat

/-- The slot that 128 bytes spell, where MAGIC and CRC are correct (R246, R249). -/
def parseSlot (b : Bytes) : Option SaveSlot :=
  let num (o n : Nat) : Nat := ofBe ((fit n (b.drop o)).reverse)
  if num 0 4 = 0x5641534D ∧ num 124 4 = (crc32 (b.take 124)).toNat then
    some { seq := num 4 4, time := num 8 8, asn := num 16 8, final := bitOf (num 24 4) 0, flags := num 24 4
           acc := (List.range 7).map (fun i => num (32 + 12 * i) 8 * 4294967296 + num (40 + 12 * i) 4)
           pmaxImp := num 116 4, pmaxExp := num 120 4 }
  else none

/-- The valid slot at a place of a lane's ring (R249): what was saved there, or what a core's writes over it left. -/
def ringSlot (s : State) (l : Lane) (n : Nat) : Option SaveSlot :=
  let x := s.lanes.get l
  let lo := 0x20800000 + n * 4096
  let g := mget (s.met.lanes.get l).ring n
  if x.wrote.any (fun w => decide (lo < w + 4 ∧ w < lo + 128)) then
    let old : Option Bytes := g.map slotBytes
    let byte (i : Nat) : Option Byte :=
      if x.wrote.any (fun w => decide (w ≤ lo + i ∧ lo + i < w + 4)) then some (memRead x.mem (lo + i))
      else old.bind (fun b => b[i]?)
    ((List.range 128).mapM byte).bind parseSlot
  else g

/-- The newest valid slot of a lane's ring (R249). -/
def newestSlot (s : State) (l : Lane) : Option SaveSlot :=
  ((List.range 16).filterMap (ringSlot s l)).foldl (fun b p => match b with
    | none => some p
    | some y => if y.seq < p.seq then some p else b) none

/-- A CWV record's payload (R252). -/
def cwvBytes (e : Cwv) : Bytes :=
  be 1 e.source ++ be 1 e.channels ++ be 1 (packBits [e.ongoing, e.folded]) ++ be 1 0 ++ be 8 e.start ++ be 4 e.secs
    ++ (e.amps.map (fun a => be 4 (a / 3600))).flatten ++ (e.peak.map (fun p => be 2 (min p 65535))).flatten
    ++ (e.ct.map (fun c => be 4 c)).flatten ++ be 2 e.folds ++ be 2 0

/-- A CWV event enters the recorder and CWV_LOG and is counted (R251, R252). -/
def cwvRecord (e : Cwv) (s : State) : State :=
  record 0x8010 6 e.channels (cwvBytes e) (logPush 0x80061 16 [.bytes (cwvBytes e)] (ropUp 0x80014 1 s))

/-- Open events are closed with ONGOING (R251). -/
def cwvEnd (ends : Cwv → Bool) (s : State) : State :=
  let s := ((s.met.cwv.filterMap id).filter ends).foldl (fun s e => cwvRecord { e with ongoing := true } s) s
  updMet (fun k => { k with cwv := k.cwv.map (fun e => e.filter (fun e => !ends e)), above := [0, 0, 0] }) s

/-- Both lanes stop. -/
def cwvStop (s : State) : State := cwvEnd (fun _ => true) s
/-- One lane stops: the events it watched. -/
def cwvLaneStop (l : Lane) (s : State) : State := cwvEnd (fun e => e.source == laneNo l + 1) s

/-- A lane's metering starts (R453): the billing register from its own ring; the pipeline runs from POR. -/
def meterLoad (l : Lane) (s : State) : State :=
  let acc := match newestSlot s l with | some g => g.acc | none => List.replicate 7 0
  let freq := if getN s 0x80103 = 0 then 50000 else 60000
  updLM l (fun x => { LaneMeter.init with bill := acc, ring := x.ring, live := { Live.init with freq := freq } }) s

end Sys2Proof.Machine
end

