-- ==== Sys2Proof/Machine/LaneOps.lean ====
section
/-!
DEFINITION. The operations over the two lanes that several chapters share: health (R288), boot (R466), restart (R295
step 1, R396, R10), lag (R284), condemnation (R287, R291), and the logs of a switchover (R292, R298).
-/
namespace Sys2Proof.Machine

/-- A mark of the running start-up in the newest row of STARTUP_LOG (0:0440): ms from POR, once. -/
def startupMark (col : Nat) (s : State) : State :=
  match mgetD s.dict.logs 0x00440 [] with
  | [] => s
  | r :: rest =>
    if rNat r col = 0 then
      { s with dict := { s.dict with
        logs := mset s.dict.logs 0x00440 (lset r col (.num (msBetween s.power.porFab s.clk.fab : Nat)) :: rest) } }
    else s

/-- A condemned lane (R287): the LAYOUT of R296 is no condemnation of its list. -/
def condemned (x : LaneSt) : Bool := x.cause != .none && x.cause != .layout

/-- The condemn cause of A:0011 (R301). -/
def condemnCode : Condemn → Nat
  | .none => 0
  | .uncorrectable => 1
  | .correctedRate => 2
  | .lockstep => 3
  | .vault => 4
  | .watchdog => 5
  | .unitFail => 6
  | .layout => 7

/-- Twenty-four hours in FAB cycles. -/
def dayCycles : Nat := 86400 * Config.secCycles

/-- Units whose FAIL condemns the lane (R299): vault, contactor driver, power converter. -/
def unitCondemns (u : Nat) : Bool := u == 0 || u == 1 || u == 4

/-- The deduction for the units of a lane (R288), from unit `u` on. -/
def unitDeduct : Nat → List UnitSt → Nat
  | _, [] => 0
  | u, x :: r => (if x.state = 1 then 50 else if x.state = 2 ∧ !unitCondemns u then 400 else 0) + unitDeduct (u + 1) r

/-- The health score (R288); `orphan` is the orphan rate charged to the active lane (R17). -/
def health (now : Nat) (orphan : Bool) (x : LaneSt) : Nat :=
  if condemned x then 0
  else
    let ev := x.health.filter (fun h => decide (now < h.2 + dayCycles))
    let e := min 200 (ev.filter (fun h => h.1 == .ecc)).length
    let b := min 200 (10 * (ev.filter (fun h => h.1 == .busWd)).length)
    1000 - (e + b + (if orphan then 300 else 0) + unitDeduct 0 x.units)

/-- The newest output sequence of the standby that the comparator has seen (R284). -/
def standbySeq (s : State) : Nat :=
  match standby s with
  | some l => (s.lp.records.get l).foldl (fun m r => max m r.1) s.lp.matched
  | none => s.lp.matched

/-- The newest output sequence of the active lane. -/
def activeSeq (s : State) : Nat :=
  match active s with
  | some l => (s.lp.records.get l).foldl (fun m r => max m r.1) (max s.lp.matched s.lp.outSeq)
  | none => s.lp.outSeq

/-- E of R284: how many outputs the standby is behind. -/
def lagE (s : State) : Nat := activeSeq s - standbySeq s

/-- T of R284 in FAB cycles: the age of the oldest active record with no match. -/
def lagT (s : State) : Nat :=
  match active s with
  | some l =>
    s.lp.waiting.foldl (fun m w => max m (s.clk.fab - w.2.1))
      ((s.lp.records.get l).foldl (fun m r => max m (s.clk.fab - r.2.2.2)) 0)
  | none => 0

/-- The metering source lane (R244): the active lane, or the other when its metering has failed. -/
def meterSource (s : State) : Lane :=
  let l := servedBy s
  match (s.lanes.get l).units[2]? with
  | some u => if u.state = 2 ∧ (s.lanes.get (otherLane l)).running then otherLane l else l
  | none => l

/-- A lane's health now. -/
def healthOf (s : State) (l : Lane) : Nat :=
  let recent := s.lp.orphans.filter (fun f => decide (s.clk.fab < f + Config.secCycles))
  health s.clk.fab (active s == some l && decide (16 < recent.length)) (s.lanes.get l)

/-- A LAGGING lane's record waits in its holding queue of 64 entries; the excess is counted (R380). -/
def holdRecord (l : Lane) (r : Record) (s : State) : State :=
  if r.sev < getN s 0xB0110 then s
  else if 64 ≤ (s.recd.held.get l).length then cntLane l 0xB0014 0 0 1 s
  else { s with recd := { s.recd with held := s.recd.held.upd l (fun q => q ++ [r]) } }

/-- A record of what one lane observed (R380): ORIGIN names the lane; a LAGGING lane holds it. -/
def laneRecord (l : Lane) (typ sev source : Nat) (payload : Bytes) (s : State) : State :=
  let r : Record := { typ := typ, sev := sev, summary := false, origin := laneNo l + 1, late := false, rseq := 0,
                      time := time64 s, rep := 0, source := source, lastMs := 0, payload := padRec payload }
  if (s.lanes.get l).role = .lagging then holdRecord l r s else submitRec r s

/-- A LANE_STATE record (R382): event 0 lagging, 1 degraded, 2 flap, 3 unit WARN, 4 unit FAIL; a unit's verdict is its lane's own
(R380). -/
def laneStateRec (l : Lane) (event unit : Nat) (s : State) : State :=
  let sev := if event = 0 ∨ event = 3 then 5 else 6
  let body := be 1 event ++ be 1 unit ++ be 2 (healthOf s l) ++ be 4 0
  if 3 ≤ event then laneRecord l 0xA011 sev (laneNo l) body s else record 0xA011 sev (laneNo l) body s

/-- A row of SWITCH_LOG (A:0020) and the SWITCHOVER record (R292, R298, R382). -/
def switchLog (sev : Nat) (src : Lane) (cause result hf ht : Nat) (s : State) : State :=
  let s := logPush 0xA0020 16
    [.num (time64 s), .num (asn s), .num (laneNo src), .num cause, .num result, .num hf, .num ht] s
  record 0xA010 sev cause (be 1 (laneNo src) ++ be 1 result ++ be 2 hf ++ be 2 ht ++ be 2 0) s

/-- A pending planned switchover becomes void (R298). -/
def voidPlanned (s : State) : State :=
  match s.lp.planned with
  | none => s
  | some p =>
    let src := otherLane p.target
    let s := switchLog 4 src 1 1 (healthOf s src) (healthOf s p.target) s
    { s with lp := { s.lp with planned := none } }

/-- LANE_DEGRADED holds while the active lane is condemned (R289, R291). -/
def degradedSync (s : State) : State :=
  match active s with
  | some l => condSet 162 (laneNo l) (condemned (s.lanes.get l)) s
  | none => condSet 162 0 false s

/-- A half of a lane's admission port: A2's or A3's. -/
def halfOf (l : Lane) (s : State) (c : Core) : PortHalf :=
  let p := (s.lanes.get l).ports
  if c = .A3 then p.b else p.a

/-- Change a half of a lane's port; the lane's level sources follow DONE and PENDING (R405). -/
def updHalf (l : Lane) (c : Core) (f : PortHalf → PortHalf) (s : State) : State :=
  let s := updLane l (fun x =>
    { x with ports := if c = .A3 then { x.ports with b := f x.ports.b } else { x.ports with a := f x.ports.a } }) s
  let h := halfOf l s c
  let base := if c = .A3 then 82 else 80
  icuLineAt l (base + 1) (!h.pending.isEmpty) (icuLineAt l base h.done s)

/-- A submission that a lane can no longer have answered by the active lane's decision gets LANE_SYNC (R26). -/
def dropGo (l : Lane) (c : Core) (s : State) : State :=
  if (halfOf l s c).want.isSome then
    updHalf l c (fun h => { h with want := none, busy := false, done := true, status := 0x50, detail := 0, ticket := 0 }) s
  else s

/-- A lane leaves the pair that decides together: verdicts kept for it go, its waiting submissions are refused. -/
def dropGoes (l : Lane) (s : State) : State :=
  dropGo l .A3 (dropGo l .A2 (updLane l (fun x => { x with owed := [] }) s))

/-- Release every waiting output unchecked, in order (R283, R284). -/
def releaseAll (s : State) : State :=
  s.lp.waiting.foldl
    (fun s w => cntUp 0xA0016 (leave w.2.2 { s with lp := { s.lp with released := w.1 } }))
    { s with lp := { s.lp with waiting := [] } }

/-- The first failing check of R466 step 3 for an image (0 none). -/
def bootCheck (s : State) (b : Boot) (bank : Bank) : Nat :=
  match bank.img with
  | none => 1
  | some i =>
    if !i.magicOk then 1
    else if !bitOf i.partMask 2 then 2
    else if i.rollback < b.floor then 3
    else if i.settingsLayout < b.layout then 4
    else if !i.runtimeOk then 5
    else
      let signer := rOct (getRow s 0xD0110 0) 0
      if i.policyLen != 0 && (signer.all (fun x => x == 0) || !i.policyOk || i.policyKey != signer) then 6 else 0

/-- A lane has its part in the ordered computation (R16): it is active or standby. -/
def ordered (s : State) (l : Lane) : Bool := (s.lanes.get l).role == .active || (s.lanes.get l).role == .standby

/-- A D010h FW_EVENT record for a bank (R468); what a lane's boot finds, while it has no part in the order, is its own
(R380). -/
def fwEvent (event sev failStep : Nat) (l : Lane) (bank : Nat) (s : State) : State :=
  let g := lget s.fw.banks (laneNo l * 2 + bank) Bank.init
  let v := match g.img with | some i => (i.version, i.rollback, i.settingsLayout) | none => (0, 0, 0)
  let body := be 1 event ++ be 1 failStep ++ be 2 0 ++ be 4 v.1 ++ be 2 v.2.1 ++ be 2 v.2.2
  if ordered s l then record 0xD010 sev (laneNo l * 2 + bank) body s else laneRecord l 0xD010 sev (laneNo l * 2 + bank) body s

/-- Change a bank. -/
def updBank (l : Lane) (bank : Nat) (f : Bank → Bank) (s : State) : State :=
  { s with fw := { s.fw with banks := lmod s.fw.banks (laneNo l * 2 + bank) f } }

/-- Change a boot record. -/
def updBoot (l : Lane) (f : Boot → Boot) (s : State) : State := { s with fw := { s.fw with boots := s.fw.boots.upd l f } }

/-- A bank is marked failed (R466): state 3, FW_BANK_FAILED, event 0. -/
def bankFail (l : Lane) (bank step : Nat) (s : State) : State :=
  let s := updBank l bank (fun g => { g with state := 3, failStep := step }) s
  fwEvent 0 5 step l bank (stickySet 208 (laneNo l * 2 + bank) s)

/-- FW_MIXED (R470) holds while the lanes run different image versions. -/
def fwMixedSync (s : State) : State :=
  let v (l : Lane) := match (lget s.fw.banks (laneNo l * 2 + (s.fw.boots.get l).running) Bank.init).img with
    | some i => some i.version
    | none => none
  condSet 210 0 (v .A != v .B && !(s.fw.boots.a.recovery || s.fw.boots.b.recovery)) s

/-- A lane starts a bank (R466 step 5): under trial when it is NEXT_BANK. -/
def bootStart (l : Lane) (bank : Nat) (trial : Bool) (retries : Nat) (s : State) : State :=
  updBoot l (fun b => { b with running := bank, trial := trial, retries := retries, recovery := false,
                               trialStart := if trial then time64 s else b.trialStart,
                               next := if trial then b.next else none }) s

/-- No bank passes (R466 step 6, R475): ROM recovery; the lane drives nothing. -/
def bootRecovery (l : Lane) (s : State) : State :=
  let s := updBoot l (fun b => { b with recovery := true, trial := false, next := none }) s
  let s := updLane l (fun x => { x with running := false }) s
  fwEvent 3 5 0 l (s.fw.boots.get l).running (stickySet 212 (laneNo l * 65536) s)

/-- R466 step 1: a trial that the previous run did not confirm is tried again after a power loss, at most 3 times, or
its bank is marked failed and the trial reverted (R467). -/
def bootTrial (l : Lane) (s : State) : State :=
  let b := s.fw.boots.get l
  if b.trial then
    if b.trialStart < getN s 0x20022 ∧ b.retries < 3 then s
    else
      let s := bankFail l b.running 0 s
      let s := fwEvent 2 5 0 l b.running (stickySet 209 (laneNo l * 65536 + b.running) s)
      updBoot l (fun b => { b with trial := false, next := none }) s
  else s

/-- The boot ROM chooses and verifies a bank (R466). -/
def bootSelect (l : Lane) (s : State) : State :=
  let s := bootTrial l s
  let b := s.fw.boots.get l
  let c := b.next.getD b.confirmed
  let o := 1 - c
  let e := bootCheck s b (lget s.fw.banks (laneNo l * 2 + c) Bank.init)
  let s := if e = 0 then bootStart l c b.next.isSome (if b.trial then b.retries + 1 else 0) s
    else
      let s := bankFail l c e s
      let g := lget s.fw.banks (laneNo l * 2 + o) Bank.init
      if g.state = 1 ∨ g.state = 2 then
        let e2 := bootCheck s b g
        if e2 = 0 then bootStart l o false 0 s else bootRecovery l (bankFail l o e2 s)
      else bootRecovery l s
  fwMixedSync s

/-- The vault of a lane as a lane reset leaves it: sealed, the mailbox at its reset values, no handle. -/
def vaultReset (v : Vault) : Vault :=
  { v with unsealed := false, op := 0, busy := none, err := false, cause := 0, handle := 0, inLen := 0, outLen := 0, data := [],
           handles := [], keys := false, ignored := 0 }

/-- The semaphore bits E:0032 of the cores that hold one (R25). -/
def semHeld (l : Lane) (sems : List Nat) : Nat :=
  packBits ((List.range 12).map (fun i => decide (i / 6 = laneNo l) && sems.contains (i % 6 + 1)))

/-- What a lane reset leaves of a lane (R10, R26, R396): registers at their reset values, counters at 0, health 1,000,
every semaphore released. Its MRAM role, its vault's roots and its metering stay. -/
def resetLaneSt (now t64 : Nat) (x : LaneSt) : LaneSt :=
  { LaneSt.init with
    wasActive := x.role == .active || (x.role == .undecided && x.wasActive), upSince := t64, units := x.units,
    mem := x.mem.filter (fun c => decide (0x20000000 ≤ c.1 ∧ c.1 < 0x21000000)), wrote := x.wrote, vault := vaultReset x.vault,
    bootAt := some now, roleSince := now }

/-- The RO rows of bank E that a lane counts for itself (R44: bus errors, semaphore errors, watchdog aborts by core). -/
def laneRowsGone (l : Lane) (s : State) : State :=
  let mine (k : Nat) : Bool :=
    let n := k / 4294967296
    (n == 0xE0030 || n == 0xE0031 || n == 0xE0033) && k % 4294967296 / 6 == laneNo l
  { s with dict := { s.dict with store := s.dict.store.filter (fun p => !mine p.1) } }

/-- A lane is reset and boots (R295 step 1, R396, R466): ROLE 00b; a standby that leaves voids a planned switchover. -/
def restartLane (l : Lane) (s : State) : State :=
  let s := if (s.lanes.get l).role == .standby then voidPlanned (releaseAll s) else s
  let rel := semHeld l (s.lanes.get l).sems
  let s := laneRowsGone l { s with dict := { s.dict with semReset := s.dict.semReset ||| BitVec.ofNat 12 rel } }
  let s := meterLoad l (updLane l (resetLaneSt s.clk.fab (time64 s)) (cwvLaneStop l s))
  let s := { s with lp := { s.lp with records := s.lp.records.put l [] } }
  degradedSync (bootSelect l s)

/-- A standby is marked LAGGING (R284): out of comparison, its outputs released unchecked, counted, and set for
resynchronisation where RESYNC_AUTO and a bridge link allow. -/
def markLagging (l : Lane) (s : State) : State :=
  let s := voidPlanned (releaseAll s)
  let auto := getB s 0xA0100 && (s.lp.links.a || s.lp.links.b)
  let s := cntUp 0xA0014 (dropGoes l s)
  let s := updLane l (fun x => { x with role := .lagging, roleSince := s.clk.fab,
                                        resync := if auto then .waiting else .idle }) s
  let s := { s with lp := { s.lp with records := both [] } }
  icuRaise 259 (laneStateRec l 0 0 (stickySet 161 (laneNo l) s))

/-- A lane is set for resynchronisation (R289, R296), not for lag; with RESYNC_AUTO false it waits for RESYNC (R301). -/
def setResync (l : Lane) (s : State) : State :=
  let s := dropGoes l (voidPlanned (releaseAll s))
  let auto := getB s 0xA0100
  let s := updLane l (fun x => { x with role := .lagging, roleSince := s.clk.fab,
                                        resync := if auto then .waiting else .idle }) s
  { s with lp := { s.lp with records := both [] } }

/-- A switchover is decided (R292): it takes effect at the first slot boundary after the decision. -/
def decideSwitch (target : Lane) (cause : Nat) (s : State) : State :=
  { s with lp := { s.lp with switch := some { target := target, cause := cause, applyAsn := asn s + 1 } } }

/-- A lane condemns itself (R287): a lane that is not active restarts; an active one is replaced by a standby in sync
(cause 4), or stays with LANE_DEGRADED (R291). -/
def condemn (l : Lane) (c : Condemn) (s : State) : State :=
  let s := updLane l (fun x => { x with cause := if condemned x then x.cause else c }) s
  if active s = some l then
    if standby s = some (otherLane l) then
      if s.lp.switch.isSome then s else decideSwitch (otherLane l) 4 s
    else laneStateRec l 1 0 (degradedSync s)
  else if (s.lanes.get l).role = .undecided then s
  else restartLane l s

/-- A health event (R288). -/
def healthEvent (l : Lane) (c : HealthCause) (s : State) : State :=
  updLane l (fun x => { x with health := (c, s.clk.fab) :: x.health }) s

/-- An uncorrectable ECC error (R287, R420): it condemns the lane. -/
def eccUncorrectable (l : Lane) (s : State) : State :=
  condemn l .uncorrectable (updLane l (fun x => { x with uncorrAt := some s.clk.fab }) s)

/-- A corrected ECC error (R288); more than 64 within 1 s condemn the lane (R287). -/
def eccCorrected (l : Lane) (s : State) : State :=
  let s := healthEvent l .ecc s
  let keep (f : Nat) : Bool := decide (s.clk.fab < f + Config.secCycles)
  let s := updLane l (fun x => { x with ecc := (s.clk.fab :: x.ecc).filter keep }) s
  if 64 < (s.lanes.get l).ecc.length then condemn l .correctedRate s else s

end Sys2Proof.Machine
end

