-- ==== Sys2Proof/Machine/GourOps.lean ====
section
/-!
DEFINITION. The Gour arbiters and the Sump queues (chapter 16): their fixed facts and the operations on them.
-/
namespace Sys2Proof.Machine

/-- The arbiter's kind (R416): 0 memory, 1 air, 2 trunk. -/
def arbKind (a : Nat) : Nat := if a ≤ 16 then 0 else if a ≤ 20 then 1 else 2

/-- The reset refills of an arbiter's requesters in order (R410, R413, R415, log entry 17). -/
def arbRefills (a : Nat) : List Nat :=
  if a = 0 then [8, 6, 4, 4, 6, 2, 4, 6, 8, 6, 4]
  else if a ≤ 12 then List.replicate 9 12
  else if a ≤ 16 then [4, 4, 56, 56, 4]
  else if a ≤ 20 then [64, 32, 64]
  else List.replicate 16 1

/-- The number of requesters (R416 NREQ). -/
def arbReqs (a : Nat) : Nat := (arbRefills a).length

/-- The window's capacity in credit units of a memory arbiter (R407, R410). -/
def arbCapacity (a : Nat) : Nat := if a = 0 then 64 else 128

/-- The state transfer on the LPDDR port is CAPPED (R409). -/
def arbCapped (a r : Nat) : Bool := a == 0 && r == 9

/-- A requester at reset. -/
def gReq0 (a r : Nat) : GReq :=
  { refill := lget (arbRefills a) r 0, next := lget (arbRefills a) r 0, credit := 0, used := 0, waiting := [],
    grants := 0, waits := 0, longest := 0, withdrawn := 0 }

/-- An arbiter of a lane. -/
def arbOf (x : LaneSt) (a : Nat) : Arb := mgetD x.arbs a Arb.init
/-- A requester. -/
def reqOf (a : Nat) (b : Arb) (r : Nat) : GReq := mgetD b.reqs r (gReq0 a r)
/-- Change an arbiter. -/
def updArb (l : Lane) (a : Nat) (f : Arb → Arb) (s : State) : State :=
  updLane l (fun x => { x with arbs := mset x.arbs a (f (arbOf x a)) }) s
/-- Change a requester. -/
def modReq (a r : Nat) (f : GReq → GReq) (b : Arb) : Arb := { b with reqs := mset b.reqs r (f (reqOf a b r)) }

/-- CAP (R408, R413). -/
def capOf (a refill : Nat) : Nat := if arbKind a = 2 then 1 else 2 * refill

/-- CAP as RCFG shows it (R416). -/
def capShown (a refill : Nat) : Nat := if capOf a refill < 256 then capOf a refill else Config.capField refill % 256

/-- A counter at the start of a window (R408, R416): a counter already above a new CAP stays until it is spent down. -/
def windowCredit (a : Nat) (q : GReq) : GReq :=
  let cap := capOf a q.next
  { q with refill := q.next, used := 0, credit := if cap < q.credit then q.credit else min (q.credit + q.next) cap }

/-- A window starts for the requesters from `r` up (R408). -/
def windowAll (a : Nat) : Nat → Arb → Arb
  | 0, b => b
  | n + 1, b => windowAll a n (modReq a n (windowCredit a) b)

/-- A window of a trunk arbiter ends for a pair when both partners have been granted once (R413). -/
def windowPairs (a : Nat) : Nat → Arb → Arb
  | 0, b => b
  | n + 1, b =>
    let p := 2 * n
    let b := if b.granted.contains p && b.granted.contains (p + 1)
      then { modReq a p (windowCredit a) (modReq a (p + 1) (windowCredit a) b) with
             granted := b.granted.filter (fun x => x != p && x != p + 1) }
      else b
    windowPairs a n b

/-- Parked entries of a requester and of the arbiter (R411). -/
def parkedOf (q : GReq) : Nat := (q.waiting.filter (fun w => w.2.2)).length
/-- Parked entries of an arbiter. -/
def parkedAll (b : Arb) : Nat := (b.reqs.map (fun p => parkedOf p.2)).sum

/-- Requesters that may be granted now (R408, R409), as (credit, number). -/
def gourWaiting (a : Nat) (b : Arb) : List (Nat × Nat) :=
  b.reqs.filterMap (fun p =>
    if p.2.waiting.isEmpty then none
    else if arbCapped a p.1 && decide (p.2.refill ≤ p.2.used) then none
    else some (p.2.credit, p.1))

/-- The fullest counter wins, ties to the lower number (R408). -/
def gourBest : List (Nat × Nat) → Option (Nat × Nat)
  | [] => none
  | x :: r =>
    match gourBest r with
    | none => some x
    | some y => if y.1 ≤ x.1 then some x else some y

/-- The rank of a trunk class (R310): C, U, then S within its reserve or N, by whether class S is within its reserve. -/
def trunkRank (sFirst : Bool) (cls : Nat) : Nat :=
  if cls = 0 then 0 else if cls = 1 then 1 else if cls = 3 then (if sFirst then 2 else 4) else 3

/-- The winner on a trunk egress arbiter (R413): the class order, then the partner with the fuller counter, a tie to
the partner that was not granted last. -/
def trunkBest (sFirst : Bool) (b : Arb) : List (Nat × Nat) → Option (Nat × Nat)
  | [] => none
  | x :: r =>
    match trunkBest sFirst b r with
    | none => some x
    | some y =>
      let rx := trunkRank sFirst (x.2 / 4)
      let ry := trunkRank sFirst (y.2 / 4)
      if rx < ry then some x
      else if ry < rx then some y
      else if x.2 / 2 != y.2 / 2 then some x
      else if y.1 < x.1 then some x
      else if x.1 < y.1 then some y
      else if mget b.lastGrant (x.2 / 2) = some x.2 then some y else some x

/-- The waiting requester that wins the arbitration. -/
def gourWinner (a : Nat) (sFirst : Bool) (b : Arb) : Option (Nat × Nat) :=
  if arbKind a = 2 then trunkBest sFirst b (gourWaiting a b) else gourBest (gourWaiting a b)

/-- The losers of a round (R411): each waits one more round; its request at the door is parked while the requester
holds fewer than 8 parked entries and the queue fewer than 32. -/
def loseRound (a w : Nat) : Nat → Arb → Arb
  | 0, b => b
  | n + 1, b =>
    let q := reqOf a b n
    let b :=
      if n = w ∨ q.waiting.isEmpty then b
      else
        let b := modReq a n (fun q => { q with waits := sat32 (q.waits + 1) }) b
        if q.waiting.all (fun e => e.2.2) then b
        else if 8 ≤ parkedOf q then b
        else if 32 ≤ parkedAll b then { b with pendFull := true, pendFullN := sat32 (b.pendFullN + 1) }
        else modReq a n (fun q => { q with waiting := q.waiting.map (fun e => (e.1, e.2.1, true)) }) b
    loseRound a w n b

/-- A wait in the unit of WAIT_ALARM (R416): FAB cycles, or positions on an air arbiter. -/
def waitUnits (a d : Nat) : Nat := if arbKind a = 1 then d / Config.slotCycles else d

/-- ALARM of an arbiter where a request waits beyond WAIT_ALARM (R416). -/
def waitAlarmed (a now : Nat) (b : Arb) : Arb :=
  { b with alarm := b.alarm || (b.waitAlarm != 65535 &&
      b.reqs.any (fun p => p.2.waiting.any (fun e => decide (b.waitAlarm < waitUnits a (now - e.1))))) }

/-- A grant (R408, R409): the winner's oldest request leaves, its counter pays, its wait is recorded. -/
def gourTake (a r now : Nat) (b : Arb) : Arb :=
  let q := reqOf a b r
  match q.waiting with
  | [] => b
  | e :: rest =>
    let w := waitUnits a (now - e.1)
    let b := modReq a r (fun q => { q with waiting := rest, credit := q.credit - e.2.1, used := q.used + e.2.1,
                                           grants := sat32 (q.grants + 1), longest := sat32 (max q.longest w) }) b
    { b with alarm := b.alarm || (b.waitAlarm != 65535 && decide (b.waitAlarm < w)),
             lastGrant := if arbKind a = 2 then mset b.lastGrant (r / 2) r else b.lastGrant,
             granted := if arbKind a = 2 then insertNat r b.granted else b.granted,
             holding := some (r, e.2.1, q.credit) }

/-- The detail word of the faults of R425. -/
def gourDetail (l : Lane) (low : Nat) : Nat := laneNo l * 65536 + low

/-- GOUR_ALARM follows the OR of every arbiter's ALARM of the lane (R424). -/
def gourAlarmLine (l : Lane) (s : State) : State :=
  updIcu l (icuSetLine s.clk.fab 152 ((s.lanes.get l).arbs.any (fun p => p.2.alarm))) s

/-- Queue depth, largest packet in words, and PACKET mode (R417). -/
def sumpFacts (q : Nat) : Nat × Nat × Bool :=
  if q ≤ 3 then (1024, 260, true) else if q ≤ 7 then (2048, 264, true) else if q = 8 then (256, 8, true)
  else if q ≤ 12 then (2048, 192, true) else if q ≤ 14 then (512, 192, false)
  else if q = 15 then (128, 52, true) else if q = 16 then (128, 40, true) else if q = 17 then (16, 2, true)
  else if q ≤ 19 then (4096, 192, true) else (256, 192, true)

/-- A queue of a lane. -/
def sumpOf (x : LaneSt) (q : Nat) : SumpQ := mgetD x.sumps q SumpQ.init
/-- Change a queue. -/
def updSump (l : Lane) (q : Nat) (f : SumpQ → SumpQ) (s : State) : State :=
  updLane l (fun x => { x with sumps := mset x.sumps q (f (sumpOf x q)) }) s

/-- Queues a core consumes (R417) and produces (log entry 18), on which DATA and WDATA exist (R422). -/
def sumpCoreReads (q : Nat) : Bool := q == 9 || q == 10 || q == 16 || q == 20
/-- Queues a core produces. -/
def sumpCoreWrites (q : Nat) : Bool := q == 11 || q == 12 || q == 15 || q == 21

/-- CREDIT (R418): the words free. -/
def sumpCredit (q : Nat) (k : SumpQ) : Nat := (sumpFacts q).1 - k.words.length

/-- The rest of a packet is dropped up to and with its last word (R420). -/
def dropPacket : List SumpWord → List SumpWord
  | [] => []
  | w :: r => if w.last then r else dropPacket r

/-- Words after the last complete packet are a partial one (R419). -/
def hasPartial : List SumpWord → Bool
  | [] => false
  | [w] => !w.last
  | _ :: r => hasPartial r

/-- The address of a queue's register (R422). -/
def sumpAddr (q off : Nat) : Nat := 0x40120000 + q * 256 + off

end Sys2Proof.Machine
end

