-- ==== Sys2Proof/Machine/ObjSys.lean ====
section
/-!
DEFINITION. What the computed read-only objects read, first part: dictionary service, power, life cycle, time, trunk,
lanes, recorder, firmware, processor complex (banks 0, 1, 2, 3, A, B, C, D, E). Each row names its object's table.
-/
namespace Sys2Proof.Machine

/-- A natural number as a value. -/
def vN (n : Nat) : Val := .num n
/-- A Bool as a value. -/
def vB (b : Bool) : Val := .num (b2n b : Nat)
/-- A U16 that saturates. -/
def v16 (n : Nat) : Val := .num (min n 65535 : Nat)
/-- A U32 modulo 2^32. -/
def v32 (n : Nat) : Val := .num (n % 4294967296 : Nat)

/-- The lane and the rest of a row index that counts lanes first. -/
def laneRow (k r : Nat) : Lane × Nat := (if r / k = 0 then .A else .B, r % k)

/-- This node's ID is the acting master's (R303, R324). -/
def actsMaster (s : State) : Bool :=
  if modId s = 0 then !s.trunk.moved
  else match s.trunk.topo with
    | some m => m.dateline == modId s && modId s != 255
    | none => false

/-- Whether mains trimming applies (R332): the reference phase present for at least 16 h without frequency fall-back. -/
def mainsTrim (s : State) : Bool :=
  s.met.refSince.any (fun f => decide (f + 57600 * Config.secCycles ≤ s.clk.fab)) && !s.met.freqFall

/-- TRIM_SOURCE (R332): a trim whose source no longer applies is held. -/
def trimSource (s : State) : Nat :=
  let k := getN s 0x20016
  if !s.time.locked && (k == 1 || (k == 2 && !mainsTrim s)) then 3 else k

/-- TIME_QUALITY (R330). -/
def timeQuality (s : State) : Nat :=
  let src := getN s 0x2001B
  let last := getN s 0x20017
  let fresh := (src == 1 || src == 2) && decide (taiSec s ≤ last / 16777216 + 30 * 86400)
  let rest : Nat :=
    if s.time.oscStopped then 4
    else if getN s 0x20016 != 0 && (src != 3 || s.time.trimmed) then 2
    else 3
  if actsMaster s then (if fresh then 0 else rest)
  else if s.time.locked then 0
  else if s.time.holdover then 1
  else rest

/-- Whether a correction is being slewed (R333). -/
def slewing (s : State) : Bool :=
  match s.clk.slew with
  | none => false
  | some w => slewDone s.clk.fab (some w) != w.amt

/-- Whether the slot timer is being slewed (R335): until the difference is below 10 µs. -/
def asnSlewing (s : State) : Bool := s.time.asnSlewing

/-- A sequence's encoded shadows in bytes (R51, R61). -/
def shadowBytes (q : Sequence) : Nat :=
  64 * q.restores.length + (q.shadows.map (fun p =>
    match findObj (p.1 / 4294967296) with
    | some d => rowSize d.cols p.2
    | none => 0)).sum

/-- SHADOW_USE (0:0211): open sequences and commits not yet applied. -/
def shadowUse (s : State) : Nat := (s.ib.seqs.map (fun p => shadowBytes p.2)).sum

/-- Remaining lease in whole seconds (R47). -/
def leaseLeft (s : State) (q : Sequence) : Nat := (q.leaseEnd - s.clk.fab) / Config.secCycles

/-- The sequence that holds a lock group, with its handle (R47). -/
def holder (s : State) (g : Nat) : Option (Nat × Sequence) := s.ib.seqs.find? (fun p => p.2.groups.contains g)

/-- A row of LOCK_TABLE (0:0210). -/
def lockRow (s : State) (g : Nat) : Row :=
  match holder s g with
  | none => [vN 0, vN 0, zeros 16, vN 0, vN 0, vN 0]
  | some (h, q) =>
    [vN (if q.commit.isSome then 2 else 1), vN q.sid, .bytes (fit 16 q.client), vN h, vN (leaseLeft s q),
     vN (match q.commit with | some c => c.1 | none => 0)]

/-- A row of SESSION_TABLE (0:0111). -/
def sessionRow (s : State) (r : Nat) : Row :=
  match s.ib.sessions[r]? with
  | none => [vN 0, zeros 16, vN 0, vN 0, vN 0, vN 0, vN 0]
  | some (id, x) =>
    [vN id, .bytes (fit 16 x.client), vN x.level, vN (match x.entry with | .trunk => 0 | .service => 1), vN x.opened,
     vN x.last, vN (s.ib.subs.filter (fun p => p.2.sid == id)).length]

/-- Whether the outputs' situation is TAMPERED (R443). -/
def isTampered (s : State) : Bool := s.life.state == .tampered

/-- LC_STATE (1:0010). -/
def lcCode : Lc → Nat
  | .blank => 0
  | .stock => 1
  | .owned => 2
  | .tampered => 3
  | .returned => 4
  | .scrapped => 5

/-- A measured U16 that no command brings: a free value (log entry 67). -/
def sensed (n col : Nat) (s : State) : Val := vN (Config.sensor n col s.clk.fab % 65536)

/-- A measured S16, free as well. -/
def sensedInt (n col : Nat) (s : State) : Val := .num (((Config.sensor n col s.clk.fab % 65536 : Nat) : Int) - 32768)

/-- A row of OUTPUT_STATUS (0:0501); changes and trips are kept in the lane counters. -/
def outputRow (s : State) (r : Nat) : Row :=
  let o := lget s.io.outs r Output.init
  let driven : Nat := if !s.power.coil then 3 else if o.tripped then 2 else if o.pend.isSome then 4 else b2n o.pin
  [vB o.cmd, vN driven, sensed 0x00501 (8 * r + 2) s, vN (cntRead s 0x00501 r 3), vN (cntRead s 0x00501 r 4)]

/-- INPUTS (0:0510): the debounced pins after inversion, and the coil supply. -/
def inputBits (s : State) : Nat :=
  packBits ((List.range 8).map (fun i => s.io.inputs.getLsbD i != (getC s 0x00511 i 1 == 1))) + 256 * b2n s.power.coil

/-- A row of VAULT_STATUS (1:0014). -/
def vaultRow (s : State) (r : Nat) : Row :=
  let v := (s.lanes.get (laneRow 1 r).1).vault
  [vB v.root.isSome, vB v.unsealed, vN v.katAt, v32 v.zeroised, v32 v.ignored, vN v.cause]

/-- A trunk port by number: 0 TA, 1 TB. -/
def portOf (s : State) (p : Nat) : Port := lget s.trunk.ports p Port.init

/-- The neighbour's node ID on a port (FFh none). -/
def neighbour (p : Port) : Nat := match p.peer with | some m => m.node | none => 255

/-- Whether a node of the ring is next to an open link by the TOPO in force. -/
def besideBreak (m : TopoMsg) (id : Nat) : Bool :=
  let n := m.entries.length
  (List.range n).any (fun i =>
    match m.entries[i]?, m.entries[(i + 1) % n]? with
    | some a, some b => !a.2 && (a.1 == id || b.1 == id)
    | _, _ => false)

/-- RING_STATE (3:0010, Survey RING; R317). -/
def ringState (s : State) : Nat :=
  if !s.trunk.cut.isEmpty then
    (if s.trunk.cut.any (fun c => c.1 == modId s || c.2 == modId s) then 1 else 2)
  else match s.trunk.topo with
    | none => 3
    | some m => if m.kind = 0 then 0 else if m.kind = 1 then (if besideBreak m (modId s) then 1 else 2) else 3

/-- A row of PORT_STATUS (3:0020). -/
def portRow (s : State) (r : Nat) : Row :=
  let p := portOf s r
  [vN p.state, vN (neighbour p), vN (match p.peer with | some m => min m.role 4 | none => 0), vN (cntRead s 0x30020 r 3),
   vN (cntRead s 0x30020 r 4), vN p.rtt, vN (cntRead s 0x30020 r 6), vN (cntRead s 0x30020 r 7),
   vN (cntRead s 0x30020 r 8)]

/-- A row of TOPOLOGY (3:0030). -/
def topoRow (s : State) (r : Nat) : Row :=
  match s.trunk.topo with
  | none => [vN 255, vN 0]
  | some m => match m.entries[r]? with | some e => [vN e.1, vB e.2] | none => [vN 255, vN 0]

/-- A row of CASCADE_MEMBERS (3:0400). -/
def memberRow (s : State) (r : Nat) : Row :=
  match mget s.trunk.members r with
  | none => [vN 0, vN 0, zeros 32, vN 0, vN 0, vN 0, vN 0, vN 0, vN 0, vN 0, vN 0]
  | some m =>
    [vN (if m.silent then 2 else 1), vN (timeOf s m.at_), .bytes (be 32 m.status.sticky), vN m.status.activeLane,
     vN m.status.roleA, vN m.status.roleB, vN m.status.health, vN m.status.quality, vN m.status.ring,
     vN m.status.ticketsOpen, vN m.status.time]

/-- ACTIVE_LANE (A:0010). -/
def activeCode (s : State) : Nat := match active s with | some l => laneNo l | none => 255

/-- A row of LANE_ROLES (A:0011). -/
def laneRolesRow (s : State) (r : Nat) : Row :=
  let l := (laneRow 1 r).1
  let x := s.lanes.get l
  [vN (roleCode x.role), vN (healthOf s l), vB (condemned x), vN (condemnCode x.cause),
   v16 (if x.role = .standby then lagE s else 0), v16 (if x.role = .standby then lagT s / Config.msCycles else 0),
   vN x.upSince, vN (s.fw.boots.get l).running]

/-- A row of UNIT_HEALTH (A:0200). -/
def unitRow (s : State) (r : Nat) : Row :=
  let x := s.lanes.get (laneRow 5 r).1
  match x.units[r % 5]? with
  | some u => [vN u.state, vN u.tested, v32 u.failures]
  | none => [vN 0, vN 0, vN 0]

/-- A record's size (R374). -/
def recSize (r : Record) : Nat := 32 + r.payload.length

/-- Bytes of records on a page. -/
def pageBytes (p : RecPage) : Nat := (p.records.map recSize).sum

/-- The record with the lowest RSEQ held, with its page and offset (R386). -/
def oldestRec (s : State) : Option (Nat × Record) :=
  let firsts := s.recd.pages.filterMap (fun p => match p.2.records with | r :: _ => some (p.1 * 4096 + 16, r) | [] => none)
  firsts.foldl (fun b x => match b with | none => some x | some y => if x.2.rseq < y.2.rseq then some x else b) none

/-- The newest record held. -/
def newestRec (s : State) : Option Record :=
  let all := (s.recd.pages.map (fun p => p.2.records)).flatten
  all.foldl (fun b x => match b with | none => some x | some y => if y.rseq < x.rseq then some x else b) none

/-- REC_WRITE (R386): the next write position. -/
def recWriteOff (s : State) : Nat :=
  match s.recd.openPage with
  | none => 16
  | some p => p * 4096 + 16 + (match mget s.recd.pages p with | some g => pageBytes g | none => 0)

/-- REC_NEWEST (R386): TIME of the newest record plus its LAST_MS. -/
def recNewest (s : State) : Nat :=
  match newestRec s with
  | none => 0
  | some r => r.time + r.lastMs * 16777216 / 1000

/-- REC_POINTERS (B:0017). -/
def recPointers (s : State) : Row :=
  let o := oldestRec s
  [vN (recWriteOff s), vN (match o with | some x => x.1 | none => 16), vN (match o with | some x => x.2.rseq | none => 0),
   vN (match newestRec s with | some r => r.rseq | none => 0), vN (recNewest s), vN s.recd.pages.length]

/-- Row `r` of STICKY_FAULTS (B:0100): bits 32r to 32r + 31. -/
def stickyRow (s : State) (r : Nat) : Nat := (s.dict.sticky.extractLsb' (32 * r) 32).toNat

/-- A bank's image, zeros where it has none. -/
def bankImg (g : Bank) : ImageHdr := g.img.getD
  { magicOk := false, partMask := 0, version := 0, rollback := 0, stateLayout := 0, settingsLayout := 0, migrateFrom := 0,
    feature := 0, minPeer := 0, runtimeOk := false, policyLen := 0, policyVersion := 0, policyOk := false, policyKey := [] }

/-- The image a lane runs. -/
def runningImg (s : State) (l : Lane) : ImageHdr :=
  bankImg (lget s.fw.banks (laneNo l * 2 + (s.fw.boots.get l).running) Bank.init)

/-- A row of FW_LANES (D:0010). -/
def fwLaneRow (s : State) (r : Nat) : Row :=
  let l := (laneRow 1 r).1
  let b := s.fw.boots.get l
  let i := runningImg s l
  [vN b.running, vB b.trial, vN b.retries, vN i.version, vN i.rollback, vN i.stateLayout, vN i.feature, vN (s.fw.live.get l),
   vN i.policyVersion, vB b.recovery]

/-- A row of FW_BANKS (D:0011): a bank under trial reads 2 (R467). -/
def fwBankRow (s : State) (r : Nat) : Row :=
  let g := lget s.fw.banks r Bank.init
  let b := s.fw.boots.get (laneRow 2 r).1
  let i := bankImg g
  [vN (if b.trial && b.running == r % 2 then 2 else g.state), vN i.version, vN i.rollback, vN i.stateLayout,
   vN i.settingsLayout, vN i.feature, vN i.minPeer, vN i.policyVersion, vN g.staged, vN g.failStep]

/-- A row of BOOT_RECORD (D:0012). -/
def bootRow (s : State) (r : Nat) : Row :=
  let b := s.fw.boots.get (laneRow 1 r).1
  [vN (b.next.getD 255), vN b.confirmed, vN b.floor, vN b.layout]

/-- Bytes received of a transfer. -/
def gotBytes (x : Transfer) : Nat := (x.got.map (fun p => p.2 - p.1)).sum

/-- A row of TRANSFERS (D:0020). -/
def transferRow (s : State) (r : Nat) : Row :=
  match mget s.fw.transfers r with
  | none => [vN 0, vN 0, vN 0, vN 0, vN 0, vN 0]
  | some x => [vN x.tid, vN x.kind, vN x.total, vN (gotBytes x), vN (timeOf s x.opened), vN (timeOf s x.last)]

/-- Whether the bytes from `a` to `b` have been received. -/
def gotRange (x : Transfer) (a b : Nat) : Bool := x.got.any (fun p => decide (p.1 ≤ a ∧ b ≤ p.2))

/-- A row of STAGE_MAP (D:0021): the complete 64 KiB extents. -/
def stageRow (s : State) (r : Nat) : Bytes :=
  match mget s.fw.transfers r with
  | none => List.replicate 60 0
  | some x => (List.range 60).map (fun i => BitVec.ofNat 8 (packBits ((List.range 8).map (fun k =>
      let e := 8 * i + (7 - k)
      decide (e * 65536 < x.total) && gotRange x (e * 65536) (min x.total ((e + 1) * 65536))))))

/-- A row of ICU_TARGETS (E:0100). -/
def icuTargetRow (s : State) (r : Nat) : Row :=
  let (l, t) := laneRow 7 r
  let x := lget (s.lanes.get l).icu.targets t IcuTarget.init
  [vN x.threshold, vN (icuRun x), vN x.stack.length, vN x.stray, vN x.late, v32 x.none_, vB x.resetDrop]

/-- A row of ICU_SOURCES (E:0101). -/
def icuSourceRow (s : State) (r : Nat) : Row :=
  let (l, n) := laneRow 512 r
  let x := icuSrc (s.lanes.get l).icu n
  [vN x.prio, vN x.target, vB (icuLevel n), vB x.enabled, vB (icuPending n x), vB x.active.isSome, vN x.empties, vN x.merged]

/-- A row of GOUR_STATS (E:0110). -/
def gourStatRow (s : State) (r : Nat) : Row :=
  let (l, k) := laneRow 368 r
  let q := reqOf (k / 16) (arbOf (s.lanes.get l) (k / 16)) (k % 16)
  [vN q.next, vN q.credit, vN q.grants, vN q.waits, vN q.longest, vN q.withdrawn, vN (parkedOf q)]

/-- A row of GOUR_ARBITERS (E:0111). -/
def gourArbRow (s : State) (r : Nat) : Row :=
  let (l, a) := laneRow 23 r
  let b := arbOf (s.lanes.get l) a
  [vN (parkedAll b), vN b.pendFullN, vN b.dead, vB b.alarm]

/-- A row of SUMP_STATS (E:0112). -/
def sumpRow (s : State) (r : Nat) : Row :=
  let (l, q) := laneRow 22 r
  let k := sumpOf (s.lanes.get l) q
  [vN k.words.length, vN (k.words.filter (fun w => w.last)).length, vN k.corr, vN k.uncorr, vN k.flushed,
   vN k.flushedPartial, vN k.overrun, vN k.stalls]

/-- The computed objects of banks 0 (part), 1, 2, 3, A, B, C, D and E. -/
def calcSys (s : State) (n r : Nat) : Option Row :=
  if n = 0x00000 then some [.bytes (fit 16 Config.serial)]
  else if n = 0x00010 then some [vN s.ib.sessions.length]
  else if n = 0x00111 then some (sessionRow s r)
  else if n = 0x00210 then some (lockRow s r)
  else if n = 0x00211 then some [vN (shadowUse s)]
  else if n = 0x00400 then some [vB s.power.warning]
  else if n = 0x00401 then some [sensed n 0 s]
  else if n = 0x00402 then some [sensed n 0 s]
  else if n = 0x00403 then some [sensed n 0 s]
  else if n = 0x00411 then some ([sensed n 0 s, sensed n 1 s] ++ (getRow s n 0).drop 2)
  else if n = 0x00501 then some (outputRow s r)
  else if n = 0x00510 then some [vN (inputBits s)]
  else if n = 0x00512 then some [vN (cntRead s n r 0), vN (cntRead s n r 1), vN (getC s n r 2)]
  else if n = 0x00520 then some ((List.range 4).map (fun c => sensedInt n c s) ++ [vN (cntRead s n 0 4)])
  else if n = 0x10010 then some [vN (lcCode s.life.state)]
  else if n = 0x10011 then some [vN (if isTampered s then s.life.cause else 0)]
  else if n = 0x10012 then some [.bytes (attestPub Config.factoryRoot "ESCROW-IN")]
  else if n = 0x10013 then some [.bytes (fit 8 s.life.rootId)]
  else if n = 0x10014 then some (vaultRow s r)
  else if n = 0x10015 then some [vN s.life.inputs.toNat]
  else if n = 0x10017 then some [.bytes (fit 8 s.life.trunkKeyId)]
  else if n = 0x10131 then some [.bytes (fit 97 s.life.attestPub)]
  else if n = 0x20010 then some [vN (packBits [slewing s, asnSlewing s, s.time.holdover, s.time.conflict])]
  else if n = 0x20011 then some [vN (timeQuality s)]
  else if n = 0x20012 then some [vB s.time.oscStopped]
  else if n = 0x20014 then
    some [if s.time.holdover then v32 ((s.clk.fab - s.time.holdoverAt) / Config.secCycles) else vN (getN s 0x20014)]
  else if n = 0x20016 then some [vN (trimSource s)]
  else if n = 0x20030 then
    let x := s.time.rtcs.get (laneRow 1 r).1
    some [vB x.stopped, .num x.rate, v32 x.stops, .num x.temp]
  else if n = 0x30010 then some [vN (ringState s)]
  else if n = 0x30011 then some [v32 s.trunk.tgen]
  else if n = 0x30020 then some (portRow s r)
  else if n = 0x30030 then some (topoRow s r)
  else if n = 0x30400 then some (memberRow s r)
  else if n = 0xA0010 then some [vN (activeCode s)]
  else if n = 0xA0011 then some (laneRolesRow s r)
  else if n = 0xA0200 then some (unitRow s r)
  else if n = 0xB0010 then some [vN s.recd.written]
  else if n = 0xB0017 then some (recPointers s)
  else if n = 0xB0100 then some [vN (stickyRow s r)]
  else if n = 0xC0010 then some [vN s.test.sweepState]
  else if n = 0xD0010 then some (fwLaneRow s r)
  else if n = 0xD0011 then some (fwBankRow s r)
  else if n = 0xD0012 then some (bootRow s r)
  else if n = 0xD0013 then some [vN s.fw.activeLevel]
  else if n = 0xD0020 then some (transferRow s r)
  else if n = 0xD0021 then some [.bytes (stageRow s r)]
  else if n = 0xE0032 then some [vN s.dict.semReset.toNat]
  else if n = 0xE0100 then some (icuTargetRow s r)
  else if n = 0xE0101 then some (icuSourceRow s r)
  else if n = 0xE0110 then some (gourStatRow s r)
  else if n = 0xE0111 then some (gourArbRow s r)
  else if n = 0xE0112 then some (sumpRow s r)
  else none

end Sys2Proof.Machine
end

