-- ==== Sys2Proof/Machine/MacOps.lean ====
section
/-!
DEFINITION. The shared operations of the Cydel MAC (chapter 5): air modes, the slot plan, hopping, the transmit gate,
the directory and the link estimate; and the floors of R224.
-/
namespace Sys2Proof.Machine

/-- Change the MAC's state. -/
def updMac (f : Mac → Mac) (s : State) : State := { s with mac := f s.mac }
/-- Change a transceiver. -/
def updX (x : Nat) (f : Xcvr → Xcvr) (s : State) : State := updMac (fun m => { m with xcvrs := lmod m.xcvrs x f }) s
/-- A transceiver. -/
def xOf (s : State) (x : Nat) : Xcvr := lget s.mac.xcvrs x Xcvr.init
/-- A cluster's own state. -/
def clOf (s : State) (c : Nat) : Cluster := mgetD s.mac.clusters c Cluster.init
/-- Change a cluster. -/
def updCl (c : Nat) (f : Cluster → Cluster) (s : State) : State :=
  updMac (fun m => { m with clusters := mupd m.clusters c Cluster.init f }) s
/-- A node's link state. -/
def nodeOf (s : State) (n : Nat) : Node := mgetD s.mac.nodes n Node.init
/-- Change a node. -/
def updNode (n : Nat) (f : Node → Node) (s : State) : State :=
  updMac (fun m => { m with nodes := mupd m.nodes n Node.init f }) s

/-- The rate of an air mode in kbit/s (R125). -/
def modeRate (m : Nat) : Nat :=
  if m = 1 then 50 else if m = 2 then 100 else if m = 3 then 150 else if m = 4 then 200 else if m = 5 then 200
  else if m = 6 then 400 else if m = 7 then 800 else 250
/-- The PHY overhead of an air mode in µs (R125). -/
def modeOver (m : Nat) : Nat :=
  if m = 1 then 1920 else if m = 2 then 960 else if m = 3 then 640 else if m = 4 then 480 else if m = 8 then 192 else 1440
/-- The largest PSDU of a run of `n` positions (R126). -/
def capBytes (m n : Nat) : Nat :=
  if m = 8 then 127 else min 2047 ((5000 * n - 1400 - modeOver m) * modeRate m / 8000)
/-- The on-air time of a PSDU in µs (R125). -/
def airTime (m len : Nat) : Nat := modeOver m + (8000 * len + modeRate m - 1) / modeRate m
/-- Header, MIC and FCS of a secured frame (R126, R154). -/
def macOver (m : Nat) : Nat := if m = 8 then 24 else 26
/-- The length of a broadcast run (R130). -/
def bcastLen (m : Nat) : Nat := if m = 1 then 5 else if m = 2 then 3 else if m = 7 ∨ m = 8 then 1 else 2
/-- The uplink run length (R144). -/
def upLen (m : Nat) : Nat := if m = 1 then 5 else if m = 2 then 3 else if m = 7 ∨ m = 8 then 1 else 2
/-- The largest burst PSDU of an open urgent position (R144). -/
def openCap (m : Nat) : Nat := if m = 8 then 127 else (3000 - modeOver m) * modeRate m / 8000

/-- A staged radio setting in force (R139): as of the last switch, else its default. -/
def radioIn (s : State) (n r : Nat) : Row := (mget s.mac.radio (okey n r)).getD (defRow s n r)
/-- XCVR_HOP in force. -/
def xrow (s : State) (x : Nat) : Row := radioIn s 0x40110 x
/-- A transceiver's broadcast air mode. -/
def xMode (s : State) (x : Nat) : Nat := rNat (xrow s x) 1
/-- A transceiver's band. -/
def xBand (s : State) (x : Nat) : Nat := rNat (xrow s x) 0
/-- Whether a transceiver works in 10 ms positions (R129). -/
def isQ (s : State) (x : Nat) : Bool := xBand s x == 1
/-- Whether a transceiver is in service (4:0111). -/
def inService (s : State) (x : Nat) : Bool := x < 4 && getC s 0x40111 x 0 == 1

/-- The roles of a position (R129, R130). -/
inductive PosRole | broadcast | interior | urgent | join | cluster
  deriving DecidableEq, Repr

/-- The role of a position on a transceiver. -/
def roleAt (s : State) (x a : Nat) : PosRole :=
  let q := isQ s x
  let p := (if q then a - a % 2 else a) % 256
  if p % 16 = 0 then .broadcast
  else if !q && decide (p % 16 < bcastLen (xMode s x)) then .interior
  else if p % 16 = 8 ∨ p % 16 = 10 ∨ p = 60 ∨ p = 140 ∨ p = 220 then .urgent
  else if p = 126 ∨ p = 254 then .join
  else .cluster

/-- Non-urgent cluster positions of a transceiver (R130). -/
def nonUrgent (s : State) (x : Nat) : Nat := if isQ s x then 75 else 203 - 16 * (bcastLen (xMode s x) - 1)
/-- The effective BOOKABLE_SLOTS (R130). -/
def bookable (s : State) (x : Nat) : Nat := min (getN s 0x50100) (nonUrgent s x)
/-- The longest non-urgent run (R131). -/
def maxRun (s : State) (x : Nat) : Nat := if isQ s x then 1 else 8 - bcastLen (xMode s x)

/-- A cluster's row. -/
def crow (s : State) (c : Nat) : Row := getRow s 0x40400 c
/-- A cluster is in use. -/
def inUse (s : State) (c : Nat) : Bool := rNat (crow s c) 0 == 1
/-- A cluster's air mode. -/
def cMode (s : State) (c : Nat) : Nat := rNat (crow s c) 1
/-- The transceiver of a path. -/
def pathX (s : State) (c : Nat) (alt : Bool) : Nat := rNat (crow s c) (if alt then 4 else 2)
/-- The transceiver of the serving path. -/
def serving (s : State) (c : Nat) : Nat := pathX s c (clOf s c).servingAlt

/-- The BLANK set of a band for a superframe (R136): the last three decided are held; empty where none has been. -/
def blankOf (s : State) (band sf : Nat) : BitVec 64 :=
  let b := if band = 0 then s.mac.blank.a else s.mac.blank.b
  if sf + 1 = b.base then b.prev else if sf = b.base then b.cur else if sf = b.base + 1 then b.next else 0
/-- The CLOSED set of a band for a superframe. -/
def closedOf (s : State) (band sf : Nat) : BitVec 64 :=
  let b := if band = 0 then s.mac.blank.a else s.mac.blank.b
  if sf + 1 = b.base then b.closedPrev else if sf = b.base then b.closedCur else if sf = b.base + 1 then b.closedNext else 0

/-- A channel map's bit. -/
def mapBit (hi lo ch : Nat) : Bool := if ch < 32 then bitOf lo ch else bitOf hi (ch - 32)

/-- The channel of a position (R132). -/
def hopChan (perm : Bytes) (offset hi lo : Nat) (blank : BitVec 64) (a : Nat) : Option Nat :=
  ((List.range 64).map (fun i => (perm.getD ((a + offset + i) % 64) 0).toNat)).find?
    (fun ch => decide (ch < 64) && mapBit hi lo ch && !blank.getLsbD ch)

/-- HOP_PERM in force. -/
def permOf (s : State) : Bytes := rOct (radioIn s 0x40103 0) 0

/-- The first position of the run or 10 ms position that holds an ASN. -/
def asnFirst (s : State) (x a : Nat) : Nat := if isQ s x then a - a % 2 else a

/-- The channel of a cluster position on a path, by a given row. -/
def chanRow (s : State) (row : Row) (alt : Bool) (a : Nat) : Option Nat :=
  let x := rNat row (if alt then 4 else 2)
  let a := asnFirst s x a
  hopChan (permOf s) (rNat row (if alt then 5 else 3)) (rNat row 6) (rNat row 7) (blankOf s (xBand s x) (a / 256)) a
/-- The channel of a cluster position on a path. -/
def chanOf (s : State) (c : Nat) (alt : Bool) (a : Nat) : Option Nat := chanRow s (crow s c) alt a
/-- The channel of a broadcast or join position. -/
def chanBcast (s : State) (x a : Nat) : Option Nat :=
  let r := xrow s x
  let a := asnFirst s x a
  hopChan (permOf s) (rNat r 2) (rNat r 3) (rNat r 4) (blankOf s (rNat r 0) (a / 256)) a

/-- The key of a channel's ledger. -/
def gkey (band ch : Nat) : Nat := band * 64 + ch
/-- The time used and reserved in the buckets `w - n + 1` to `w` of a ledger. -/
def ledgerSum (m : NMap Bucket) (n w : Nat) : Nat :=
  ((m.filter (fun p => decide (p.1 ≤ w ∧ w < p.1 + n))).map (fun p => p.2.used + p.2.reserved)).sum
/-- The bucket of a ledger. -/
def bucketOf (m : NMap Bucket) (k : Nat) : Bucket := mgetD m k { used := 0, reserved := 0 }
/-- Whether a frame of `dur` µs in bucket `k` leaves every window of `n` buckets that holds it or a later reservation
within a limit (R107, R133, R134, R135). -/
def ledgerRoom (m : NMap Bucket) (n limit k dur : Nat) : Bool :=
  (List.range n).all (fun i =>
    !(i == 0 || (bucketOf m (k + i)).reserved != 0) || decide (ledgerSum m n (k + i) + dur ≤ limit))

/-- The DUTY_BANDS rows that hold a channel (R134). -/
def dutyRows (s : State) (ch : Nat) : List Nat :=
  (List.range 8).filter (fun r =>
    let v := getRow s 0x40122 r
    rNat v 0 == 1 && decide (rNat v 1 ≤ ch ∧ ch ≤ rNat v 2))
/-- The ledger of a channel. -/
def gateOf (s : State) (band ch : Nat) : NMap Bucket := mgetD s.mac.gate (gkey band ch) []
/-- The ledger of a sub-band row. -/
def dutyOf (s : State) (r : Nat) : NMap Bucket := mgetD s.mac.duty r []
/-- DWELL_LIMIT in µs. -/
def dwellLimit (s : State) : Nat := getN s 0x40120 * 1000
/-- The limit of a sub-band in µs over 3,600 s (R134). -/
def dutyLimit (s : State) (r : Nat) : Nat := rNat (getRow s 0x40122 r) 3 * 360000
/-- PROFILE DUTY. -/
def isDuty (s : State) (x : Nat) : Bool := getC s 0x40111 x 2 == 1

/-- Whether the gate has room for a frame on a channel in a superframe (R133, R134, R135). -/
def gateRoom (s : State) (x ch sf dur : Nat) : Bool :=
  ledgerRoom (gateOf s (xBand s x) ch) 17 (dwellLimit s) sf dur
    && (!isDuty s x || (dutyRows s ch).all (fun r => ledgerRoom (dutyOf s r) 45 (dutyLimit s r) (sf / 64) dur))

/-- Whether a reserved frame stands within the limits as it is keyed. -/
def gateBooked (s : State) (x ch sf : Nat) : Bool :=
  decide (ledgerSum (gateOf s (xBand s x) ch) 17 sf ≤ dwellLimit s)
    && (!isDuty s x || (dutyRows s ch).all (fun r => decide (ledgerSum (dutyOf s r) 45 (sf / 64) ≤ dutyLimit s r)))

/-- Change a bucket of every ledger that holds a channel. -/
def ledgerPut (x ch sf : Nat) (f : Bucket → Bucket) (s : State) : State :=
  let one (k : Nat) (m : NMap Bucket) : NMap Bucket :=
    let b := f (bucketOf m k)
    if b.used = 0 ∧ b.reserved = 0 then mdel m k else mset m k b
  let s1 := updMac (fun m => { m with gate := mupd m.gate (gkey (xBand s x) ch) [] (one sf) }) s
  (dutyRows s ch).foldl (fun s r => updMac (fun m => { m with duty := mupd m.duty r [] (one (sf / 64)) }) s) s1

/-- Reserve on-air time (R135). -/
def gateReserve (x ch sf dur : Nat) (s : State) : State :=
  ledgerPut x ch sf (fun b => { b with reserved := b.reserved + dur }) s
/-- Give a reservation back. -/
def gateRelease (x ch sf dur : Nat) (s : State) : State :=
  ledgerPut x ch sf (fun b => { b with reserved := b.reserved - dur }) s
/-- On-air time is used (R133). -/
def gateUse (x ch sf dur : Nat) (s : State) : State :=
  ledgerPut x ch sf (fun b => { b with used := b.used + dur }) s

/-- A refusal by the gate is counted (R135). -/
def gateRefused (x : Nat) (s : State) : State := cntUpAt 0x400F1 x 3 1 s

/-- Buckets that no window reaches any more go, and reservations of superframes past (R133, R134). -/
def pruneLedgers (s : State) : State :=
  let f := frame s
  let old (n k : Nat) (m : NMap Bucket) : NMap Bucket :=
    ((m.filter (fun p => decide (k < p.1 + n))).map
      (fun p => if p.1 < k then (p.1, { p.2 with reserved := 0 }) else p)).filter
      (fun p => p.2.used != 0 || p.2.reserved != 0)
  updMac (fun m => { m with
    gate := (m.gate.map (fun p => (p.1, old 17 f p.2))).filter (fun p => !p.2.isEmpty)
    duty := (m.duty.map (fun p => (p.1, old 45 (f / 64) p.2))).filter (fun p => !p.2.isEmpty) }) s

/-- Used and reserved time over a window of a superframe, the reservations of one superframe apart (R136). -/
def usedSum (m : NMap Bucket) (lo hi : Nat) : Nat :=
  ((m.filter (fun p => decide (lo ≤ p.1 ∧ p.1 ≤ hi))).map (fun p => p.2.used + p.2.reserved)).sum

/-- The decision of R136 for a channel in superframe `n`: none, BLANK (1) or CLOSED (2). -/
def blankOne (s : State) (band n ch : Nat) : Nat :=
  let g := gateOf s band ch
  let short := decide (dwellLimit s < usedSum g (n - 16) n + getN s 0x40121 * 1000)
  let duty := (List.range 4).any (isDuty s) && (dutyRows s ch).any (fun r =>
    decide (dutyLimit s r < usedSum (dutyOf s r) (n / 64 - 44) (n / 64) + getN s 0x40121 * 1000))
  if short || duty then (if (bucketOf g n).reserved = 0 then 1 else 2) else 0

/-- A 64-bit set. -/
def bits64 (f : Nat → Bool) : BitVec 64 := BitVec.ofNat 64 (packBits ((List.range 64).map f))

/-- The decision of a band, one superframe on (R136). -/
def blankNext (s : State) (band : Nat) : Blank :=
  let n := frame s + 2
  { base := frame s + 1
    prev := blankOf s band (frame s)
    cur := blankOf s band (frame s + 1)
    next := bits64 (fun ch => blankOne s band n ch == 1)
    closedPrev := closedOf s band (frame s)
    closedCur := closedOf s band (frame s + 1)
    closedNext := bits64 (fun ch => blankOne s band n ch == 2) }

/-- A row of NODE_DIRECTORY. -/
def dirRow (s : State) (n : Nat) : Row := getRow s 0x40500 n
/-- The cluster a directory row assigns. -/
def dirCluster (s : State) (n : Nat) : Option Nat :=
  let c := rNat (dirRow s n) 2
  if c < 256 then some c else none
/-- The member number of a directory row. -/
def dirMember (s : State) (n : Nat) : Nat := rNat (dirRow s n) 3
/-- The nodes of the directory that are assigned to a cluster. -/
def assigned (s : State) : List Nat := (storedRows s 0x40500).filter (fun n => (dirCluster s n).isSome)
/-- The nodes of a cluster that have joined. -/
def members (s : State) (c : Nat) : List Nat :=
  (assigned s).filter (fun n => dirCluster s n == some c && (nodeOf s n).joined != 0)
/-- The nodes that the directory makes members of a cluster (R509). -/
def dirMembers (s : State) (c : Nat) : List Nat := (assigned s).filter (fun n => dirCluster s n == some c)
/-- The node behind a member number of a cluster. -/
def memberNode (s : State) (c m : Nat) : Option Nat := (members s c).find? (fun n => dirMember s n == m)

/-- Entries and successes of a node's history (R98). -/
def histCount (x : Node) : Nat × Nat := (x.hist.length, (x.hist.filter id).length)

/-- Whether m ÷ 65,536 is no more than the bound of R98 (z = 2.326), in whole numbers. -/
def lcbOk (n k m : Nat) : Bool :=
  let z : Nat := 2326
  let big := 65536 * (2 * k * 1000000 + z * z)
  let sub := 2 * m * (n * 1000000 + z * z)
  decide (sub ≤ big) && decide ((65536 * z) ^ 2 * (4 * k * (n - k) * 1000000 + n * (z * z)) ≤ (big - sub) ^ 2 * n)

/-- p_lcb × 65,536, truncated (R98). -/
def plcb (x : Node) : Nat :=
  let (n, k) := histCount x
  if n = 0 then 0
  else [15, 14, 13, 12, 11, 10, 9, 8, 7, 6, 5, 4, 3, 2, 1, 0].foldl
    (fun m i => if lcbOk n k (m + 2 ^ i) then m + 2 ^ i else m) 0

/-- The attempt budget of R98 and R99 (none above 8). -/
def budget (p : Nat) : Option Nat :=
  (List.range 9).find? (fun k => 1 ≤ k && decide ((65536 - p) ^ k * 1000000 ≤ 65536 ^ k))

/-- REBUILDING (R508). -/
def rebuilding (x : Node) : Bool := x.hist.length < 26

/-- A zone's row of state; one that nothing has set takes its default class (R222). -/
def zoneOf (s : State) (z : Nat) : Zone :=
  match mget s.trk.zones z with
  | some x => x
  | none => { Zone.init with cls := getC s 0x70120 z 2, adaptive := getC s 0x70120 z 2 }
/-- The zone of a vertex (R224): an unused row takes zone 0. -/
def zoneAt (s : State) (v : Nat) : Nat := if getC s 0x70100 v 0 = 0 then 0 else getC s 0x70100 v 1
/-- A zone's floor for a driver channel 1 to 4 (R224). -/
def zoneFloor (s : State) (z ch : Nat) : Nat :=
  let c := (zoneOf s z).cls
  if c = 31 then 0 else ((rOct (getRow s 0x70122 z) 0).getD (4 * c + ch - 1) 0).toNat
/-- The floor of a node's channel. -/
def floorOf (s : State) (n ch : Nat) : Nat := zoneFloor s (zoneAt s n) ch
/-- The highest floor of some nodes on the channels of a mask (bit ch − 1). -/
def maxFloor (s : State) (nodes : List Nat) (mask : Nat) : Nat :=
  nodes.foldl (fun m n => ((List.range 4).filter (bitOf mask)).foldl (fun m i => max m (floorOf s n (i + 1))) m) 0

/-- The guard (R224): SET_LEVEL's level raised to the highest floor; every raise is counted. -/
def guardArgs (endpoints func : Nat) (args : Bytes) (nodes : List Nat) (s : State) : State × Bytes :=
  let mask := endpoints / 2 % 16
  match args with
  | l :: r =>
    if func = 1 ∧ mask ≠ 0 ∧ l.toNat < maxFloor s nodes mask then
      ({ s with trk := { s.trk with clamps := s.trk.clamps + 1 } }, BitVec.ofNat 8 (maxFloor s nodes mask) :: r)
    else (s, l :: r)
  | [] => (s, [])

/-- Whether a hard uplink run of a cluster covers a position of a transceiver (R142). -/
def hardRun (s : State) (x a c : Nat) : Bool :=
  inUse s c && pathX s c false == x && (rOct (crow s c) 9).any (fun b =>
    let p := b.toNat
    let n := if isQ s x then 2 else upLen (cMode s c)
    p != 255 && decide (p ≤ a % 256 ∧ a % 256 < p + n))

/-- The clusters in use. -/
def clustersIn (s : State) : List Nat := (storedRows s 0x40400).filter (fun c => decide (c < 256) && inUse s c)

/-- Whether some cluster's hard uplink run covers a position. -/
def hardAt (s : State) (x a : Nat) : Bool := (clustersIn s).any (hardRun s x a)

/-- Whether a booking holds a position of a transceiver. -/
def bookedAt (s : State) (x a : Nat) : Bool :=
  s.adm.bookings.any (fun b => b.xcvr == x && decide (b.asn ≤ a ∧ a < b.asn + b.len))

/-- A run of several positions from `a` would contain the first position after an attempt (R131). A frame of a single position, and a 10 ms position, is no such run;
DEDUCED (log entry 41). -/
def runTouches (s : State) (x a n : Nat) : Bool :=
  !isQ s x && decide (2 ≤ n) && s.adm.bookings.any (fun b => b.xcvr == x && decide (a ≤ b.asn + b.len ∧ b.asn + b.len < a + n))
/-- An attempt of `n` positions from `a` would stand right before a booked run of several positions (R131). -/
def beforeRun (s : State) (x a n : Nat) : Bool :=
  !isQ s x && s.adm.bookings.any (fun b => b.xcvr == x && decide (2 ≤ b.len ∧ b.asn = a + n))

/-- Whether the positions from `a` on a transceiver can hold a run of `n` (R131, R142). -/
def runFree (s : State) (x a n : Nat) (urgent : Bool) : Bool :=
  let want : PosRole := if urgent then .urgent else .cluster
  (!isQ s x || a % 2 == 0)
    && (List.range n).all (fun i => decide (roleAt s x (a + i) = want) && !bookedAt s x (a + i) && !hardAt s x (a + i))
    && !runTouches s x a n

/-- Positions of a frame of `len` bytes at an air mode, up to `most` (R126); Q1 has one 10 ms position, charged two. -/
def runLen (m len most : Nat) : Option Nat :=
  if m = 8 then (if len ≤ 127 then some 2 else none)
  else (List.range (most + 1)).find? (fun n => 1 ≤ n && decide (len ≤ capBytes m n))

/-- The module may key its transmitters (R127, R365, R455): owned, a lane active, and the cascade's time reached. -/
def radioUp (s : State) : Bool :=
  (active s).isSome && s.life.state == .owned && (actsMaster s || getN s 0x30105 == 2 || s.time.everLocked)

end Sys2Proof.Machine
end

