-- ==== Sys2Proof/Machine/EpochOps.lean ====
section
/-!
DEFINITION. The epoch package (R167 to R170): its units, their bytes, how they are cut into fragments (R176), and what
each node is known to hold (R178, R181, R194).
-/
namespace Sys2Proof.Machine

/-- Change the epoch machine. -/
def updEp (f : Epoch → Epoch) (s : State) : State := { s with epoch := f s.epoch }

/-- Whether an epoch number names the epoch in force. -/
def isInForce (s : State) (e : Nat) : Bool := e == s.epoch.inForce
/-- The frozen rows of an epoch: of the epoch in force, or of the next. -/
def contentOf (s : State) (e : Nat) : NMap Row := if isInForce s e then s.epoch.content else s.epoch.frozen
/-- A row of an epoch's content. -/
def erow (s : State) (e n r : Nat) : Row := (mget (contentOf s e) (okey n r)).getD (defRow s n r)

/-- The groups of a node in an epoch. -/
def egroups (s : State) (e n : Nat) : List Nat :=
  ((List.range 4).map (fun i => rNat (erow s e 0x60110 n) i)).filter (fun g => decide (g < 4096))
/-- The normal and autonomy schedules of a group in an epoch. -/
def escheds (s : State) (e g : Nat) : List Nat :=
  [rNat (erow s e 0x60100 g) 1, rNat (erow s e 0x60100 g) 2].filter (fun x => decide (x < 1024))
/-- The schedules a node's entry names. -/
def nodeScheds (s : State) (e n : Nat) : List Nat :=
  ((egroups s e n).map (escheds s e)).flatten.foldl (fun l x => insertNat x l) []

/-- A unit's code: epoch, part ID, index. -/
def ucode (e part index : Nat) : Nat := (e * 65536 + part) * 65536 + index
/-- The length of a unit (R167). -/
def unitLen (s : State) (e part index : Nat) : Nat :=
  if part = 0 then 1024 else if part = 1 then 230 else if part = 2 then (if index = 2 then 880 else 1024)
  else 3 + 8 * min (rNat (erow s e 0x60120 (part - 256)) 1) 32
/-- The units a node needs (R181): part ID and index. -/
def nodeUnits (s : State) (e c n : Nat) : List (Nat × Nat) :=
  [(0, c), (1, 0), (2, 0), (2, 1), (2, 2)] ++ (nodeScheds s e n).map (fun x => (256 + x, 0))

/-- The codes of the units a node is known to hold. -/
def heldBy (s : State) (n : Nat) : List Nat := mgetD s.epoch.held n []
/-- Whether a node is known to hold an image block (R194). -/
def holdsBlock (s : State) (n image block : Nat) : Bool :=
  match mget s.epoch.progress n with
  | none => false
  | some p => p.id == image && (decide (block < p.hold) || (decide (block < p.hold + 64) && p.window.getLsbD (block - p.hold)))
/-- Whether a node holds every block of an image. -/
def holdsImage (s : State) (n image blocks : Nat) : Bool :=
  match mget s.epoch.progress n with
  | none => false
  | some p => p.id == image && decide (blocks ≤ p.hold)

/-- The blocks of an image in the store. -/
def imageBlocks (s : State) (id : Nat) : Nat :=
  match s.epoch.store.find? (fun x => x.id == id && x.state == 2) with | some x => x.blocks | none => 0
/-- IMAGE_ID and IMAGE_BLOCKS of a segment part (R170). -/
def segImage (seg : Bytes) : Nat × Nat := (ofBe ((seg.drop 192).take 4).reverse, ofBe ((seg.drop 196).take 2).reverse)
/-- The blocks of an image as the store knows them, or a segment part that names it; 0 where neither does. -/
def knownBlocks (s : State) (id : Nat) : Nat :=
  let seg (b : Bytes) : Nat := if (segImage b).1 = id then (segImage b).2 else 0
  max (imageBlocks s id) (max (seg s.epoch.segNext) (seg s.epoch.segIn))
/-- Whether a node holds every block of an image whose length is known (R194, R195). -/
def imageWhole (s : State) (n id : Nat) : Bool := knownBlocks s id != 0 && holdsImage s n id (knownBlocks s id)

/-- Whether a node is staged for an epoch as far as its answers tell (R181). -/
def isStaged (s : State) (e c n : Nat) : Bool :=
  let need := (nodeUnits s e c n).map (fun u => ucode e u.1 u.2)
  need.all (fun u => (heldBy s n).contains u)
    && (isInForce s e || !s.epoch.image || imageWhole s n s.epoch.imageId)

/-- How a unit of `len` bytes is cut into `f` fragments (R176): offset and length. -/
def cut (len f : Nat) : List (Nat × Nat) :=
  let q := (len + f - 1) / f
  (List.range f).map (fun i => (i * q, min q (len - i * q)))

/-- The positions `f` fragments take at an air mode, none where one does not fit (R126, R131, R176). -/
def cutCost (m most len f : Nat) : Option Nat :=
  (cut len f).foldl (fun a x => match a, runLen m (x.2 + 52) most with | some t, some n => some (t + n) | _, _ => none) (some 0)

/-- The fragment count (R176): the fewest positions, the smaller count on a tie. -/
def fragCount (m most len : Nat) : Option Nat :=
  ((List.range 17).filter (fun f => 1 ≤ f)).foldl (fun best f =>
    match cutCost m most len f, best with
    | none, b => b
    | some _, none => some f
    | some n, some b => match cutCost m most len b with | some k => if n < k then some f else some b | none => some f) none

/-- The fragment frames of a unit (R175, R176). -/
def unitSegs (m most kind objId index len : Nat) : Option (List Seg) :=
  match fragCount m most len with
  | none => none
  | some f => some (((cut len f).zipIdx).map (fun p =>
      { kind, objId, index, frag := p.2 * 16 + (f - 1), off := p.1.1, len := p.1.2 }))

/-- A manifest entry (R169). -/
def manifestEntry (s : State) (e c i : Nat) : Bytes :=
  match (assigned s).find? (fun n => dirCluster s n == some c && dirMember s n == i) with
  | none => List.replicate 32 0
  | some n =>
    let slot (k : Nat) : Bytes :=
      let g := rNat (erow s e 0x60110 n) k
      if g < 4096 then le 2 g ++ le 2 (rNat (erow s e 0x60100 g) 1) ++ le 2 (rNat (erow s e 0x60100 g) 2)
      else le 2 65535 ++ le 2 65535 ++ le 2 65535
    le 2 n ++ le 1 1 ++ le 1 0 ++ slot 0 ++ slot 1 ++ slot 2 ++ slot 3
      ++ (mgetD (if isInForce s e then s.epoch.floorsIn else s.epoch.floorsNext) n [0, 0, 0, 0]).map (BitVec.ofNat 8)

/-- The XCVR_HOP rows of a segment part (R170): the staged settings (R139). -/
def segHop (s : State) (r : Nat) : Bytes :=
  let v := getRow s 0x40110 r
  le 1 (rNat v 0) ++ le 1 (rNat v 1) ++ le 1 (rNat v 2) ++ le 1 0 ++ le 4 (rNat v 4) ++ le 4 (rNat v 3)

/-- The segment part as EPOCH_OPEN compiles it (R170, R180): for epoch `e`, with the zone list `z`. -/
def segmentPart (s : State) (e : Nat) (radio : Bool) (img : Option NodeImage) (z : List (Nat × Int)) : Bytes :=
  let zone (i : Nat) : Bytes := match z[i]? with | some p => le 5 p.1 ++ leI 2 p.2 ++ le 1 0 | none => List.replicate 8 0
  le 1 1 ++ le 1 (packBits [radio, img.isSome]) ++ le 2 e
    ++ le 2 (getN s 0x40100) ++ le 4 (getN s 0x40101) ++ le 2 (getN s 0x40102) ++ fit 64 (rOct (getRow s 0x40103 0) 0)
    ++ segHop s 0 ++ segHop s 1 ++ segHop s 2 ++ segHop s 3
    ++ leI 2 (rInt (zoneRules s) 0) ++ le 1 z.length ++ le 1 0
    ++ ((List.range 8).map zone).flatten
    ++ (match img with
      | some x => le 4 x.id ++ le 2 x.blocks ++ fit 32 x.sha
      | none => List.replicate 38 0)

/-- A sun event of a day (R168, R343): its minute, or FFFFh where it does not occur. -/
def sunEvent (lat lon std : Int) (year day : Nat) (alt : Int) (rising : Bool) : Bytes :=
  let m := Config.sunMinute lat lon std year day alt rising
  le 2 (if m < 1440 then m else 65535)

/-- The sun table (R168, R343): 366 days of sunrise, sunset, civil dawn and civil dusk. -/
def sunTable (lat lon std : Int) (year : Nat) : Bytes :=
  ((List.range 366).map (fun d =>
    sunEvent lat lon std year (d + 1) (-833) true ++ sunEvent lat lon std year (d + 1) (-833) false
      ++ sunEvent lat lon std year (d + 1) (-6000) true ++ sunEvent lat lon std year (d + 1) (-6000) false)).flatten

/-- The sun table of an epoch (R168, R343). -/
def sunOf (s : State) (e : Nat) : Bytes :=
  sunTable (rInt (erow s e 0x20120 0) 0) (rInt (erow s e 0x20121 0) 0) (rInt (erow s e 0x20110 0) 0)
    (if isInForce s e then s.epoch.yearIn else s.epoch.yearNext)

/-- The bytes of a unit (R167). -/
def unitBytes (s : State) (e part index : Nat) : Bytes :=
  if part = 0 then ((List.range 32).map (manifestEntry s e index)).flatten
  else if part = 1 then (if isInForce s e then s.epoch.segIn else s.epoch.segNext)
  else if part = 2 then ((sunOf s e).drop (1024 * index)).take 1024
  else
    let v := erow s e 0x60120 (part - 256)
    le 1 (rNat v 0) ++ le 1 (rNat v 1) ++ le 1 0 ++ (rOct v 2).take (8 * min (rNat v 1) 32)

/-- A byte of chunked data. -/
def chunkByte (m : NMap Bytes) (i : Nat) : Byte :=
  m.foldl (fun b p => if p.1 ≤ i ∧ i < p.1 + p.2.length then p.2.getD (i - p.1) 0 else b) 0

/-- The bytes a fragment frame carries (R175, R192). -/
def segData (s : State) (g : Seg) : Bytes :=
  if g.kind = 2 then ((unitBytes s (g.objId / 65536) (g.objId % 65536) g.index).drop g.off).take g.len
  else
    match s.epoch.store.find? (fun x => x.id == g.objId && x.state == 2) with
    | none => List.replicate g.len 0
    | some x => (List.range g.len).map (fun i => chunkByte x.data (1024 * g.index + g.off + i))

/-- EPOCH_HASH (R180): the first 8 bytes of the SHA-256 of the segment part and the sun table. -/
def epochHash (s : State) (e : Nat) : Bytes :=
  fit 8 (sha256 (unitBytes s e 1 0 ++ sunOf s e))

/-- The bit of a unit's block in a node's progress (R194): beyond the window nothing is recorded. -/
def markBlock (image block : Nat) (p : Progress) : Progress :=
  let p := if p.id = image then p else { id := image, hold := 0, window := 0 }
  if block < p.hold ∨ p.hold + 64 ≤ block then p
  else
    let w := p.window ||| BitVec.twoPow 64 (block - p.hold)
    let k := ((List.range 64).takeWhile (fun i => w.getLsbD i)).length
    { p with hold := p.hold + k, window := w >>> k }

/-- The settings that are staged for the nodes (R139). -/
def stagedObjs : List Nat := [0x40100, 0x40101, 0x40102, 0x40103, 0x40110]
/-- What EPOCH_OPEN freezes (R180): lock group 14, the staged radio settings, the location and the zone rules. -/
def frozenObjs : List Nat := [0x60100, 0x60110, 0x60120, 0x20110, 0x20120, 0x20121] ++ stagedObjs
/-- The stored rows of some objects. -/
def rowsOf (s : State) (objs : List Nat) : NMap Row := s.dict.store.filter (fun p => objs.contains (p.1 / 4294967296))
/-- RADIO_PENDING (R139): some staged value is not in force. -/
def radioPending (s : State) : Bool :=
  (rowsOf s stagedObjs ++ s.mac.radio).any (fun p =>
    getRow s (p.1 / 4294967296) (p.1 % 4294967296) != radioIn s (p.1 / 4294967296) (p.1 % 4294967296))
/-- The number of the next epoch (R180): the abandoned ones are skipped. -/
def nextEpoch (s : State) : Nat :=
  (((List.range (s.epoch.abandoned.length + 1)).map (fun i => (s.epoch.inForce + 1 + i) % 65536)).find?
    (fun e => !s.epoch.abandoned.contains e)).getD ((s.epoch.inForce + 1) % 65536)

/-- EPOCH_OPEN takes effect (R167, R180, R342, R343): the content is frozen and the package compiled. -/
def openEpoch (imageId : Nat) (s : State) : State :=
  let e := nextEpoch s
  let radio := radioPending s
  let img := if imageId = 0 then none else s.epoch.store.find? (fun x => x.id == imageId && x.state == 2)
  let zones := nextTransitions s
  let floors := (assigned s).map (fun n => (n, [1, 2, 3, 4].map (floorOf s n)))
  let seg := segmentPart s e radio img zones
  let s := updEp (fun p => { p with
    state := 1, next := e, switchAsn := 0, openAt := none, radio, image := img.isSome, imageId, staged := [], armed := []
    verified := [], heard := [], resume := 0, frozen := rowsOf s frozenObjs, floorsNext := floors, zoneList := zones
    yearNext := utcYear s (taiSec s), segNext := seg
    held := p.held.map (fun h => (h.1, h.2.filter (fun k => k / 4294967296 == p.inForce))) }) s
  updEp (fun p => { p with hashNext := epochHash s e }) s

end Sys2Proof.Machine
end

