-- ==== Sys2Proof/Machine/LedOps.lean ====
section
/-!
DEFINITION. The shared operations of the anchor drive (chapter 9): the steps of R264, the stage's carry, fault marks, the
Flowstone engines.
-/
namespace Sys2Proof.Machine

/-- Change the LED part of the state. -/
def updLed (f : Led → Led) (s : State) : State := { s with led := f s.led }
/-- A string. -/
def strOf (s : State) (k : Nat) : StringSt := lget s.led.strings k StringSt.init
/-- Change a string. -/
def updStr (k : Nat) (f : StringSt → StringSt) (s : State) : State := updLed (fun d => { d with strings := lmod d.strings k f }) s
/-- A Flowstone engine of a lane. -/
def engOf (l : Lane) (s : State) (e : Nat) : Engine := lget (s.lanes.get l).engines e Engine.init
/-- Change an engine of a lane. -/
def updEng (l : Lane) (e : Nat) (f : Engine → Engine) (s : State) : State :=
  updLane l (fun x => { x with engines := lmod x.engines e f }) s
/-- What the ordered computation does to its engines, each lane that runs it does to its own (R16). -/
def onLanes (f : Lane → State → State) (s : State) : State :=
  let one (l : Lane) (s : State) : State := if consumes l s then f l s else s
  one .B (one .A s)
/-- The engines whose outputs reach the street: the active lane's (R280). -/
def shown (s : State) : List Engine := (s.lanes.get (servedBy s)).engines
/-- STRING_CONFIG of a string (R279). -/
def strCfg (s : State) (k : Nat) : Row := getRow s 0x90100 k

/-- Whether the LED supply is up (R438, R440, R503) and the stage on (R361). -/
def ledUp (s : State) : Bool := s.power.ledOk && !s.power.ledShed && !s.power.hotShed && !s.io.scrap
/-- Whether the lanes deliver sets (R263, R365). -/
def lanesDrive (s : State) : Bool := (active s).isSome && !isTampered s

/-- An engine that runs (R275). -/
def engRuns (e : Engine) : Bool := e.state == 1 || e.state == 2

/-- The running engine that owns a string. -/
def ownerOf (s : State) (k : Nat) : Option Engine := (shown s).find? (fun e => engRuns e && e.own.getLsbD k)

/-- Whether a position lies in an engine's window, which wraps past P23 (R275). -/
def inWindow (e : Engine) (p : Nat) : Bool :=
  if e.first ≤ e.last then decide (e.first ≤ p ∧ p ≤ e.last) else decide (e.first ≤ p ∨ p ≤ e.last)

/-- What an engine gives for a position of a string it owns (R275). -/
def engLevel (e : Engine) (k p : Nat) : Nat :=
  if e.mask.getLsbD k then (if inWindow e p then e.lvl else e.base) else 0

/-- The floor of a string's channel in percent (R264 step 2); 0 without a floor channel. -/
def strFloor (s : State) (k : Nat) : Nat :=
  let c := rNat (strCfg s k) 4
  if c = 0 then 0 else zoneFloor s (getN s 0x90101) c

/-- The source level of a position (R264 step 1, R274). -/
def srcLevel (s : State) (k p : Nat) : Nat :=
  if (strOf s k).retest.isSome then 6554
  else match ownerOf s k with
    | some e => engLevel e k p
    | none => ofBe (((rOct (getRow s 0x90102 k) 0).drop (2 * p)).take 2)

/-- Whether a position is populated and not faulty (R257, R272). -/
def posOk (s : State) (k p : Nat) : Bool := bitOf (rNat (strCfg s k) 2) p && !(strOf s k).faulty.getLsbD p

/-- The duty of a position (R264 steps 1 to 3). -/
def posDuty (s : State) (k p : Nat) : Nat :=
  if posOk s k p then max (srcLevel s k p) ((strFloor s k * 65535 + 99) / 100) else 0

/-- The current code of a string (R264 steps 5 to 7). -/
def codeOf (s : State) (k : Nat) : Nat :=
  let x := strOf s k
  if rNat (strCfg s k) 0 = 0 ∨ x.fault then 0
  else (2 * (x.comp * x.rt * s.led.cap * 1023) + 700000 * 10 ^ 12) / (2 * 700000 * 10 ^ 12)

/-- The complete set a lane computes for the next period (R262, R264). -/
def laneSet (s : State) : LedSet :=
  { duty := ((List.range 4).map (fun k => (List.range 24).map (posDuty s k))).flatten, code := (List.range 4).map (codeOf s) }

/-- A current in mA as a code (R259). -/
def mAcode (mA : Nat) : Nat := (2 * mA * 1023 + 700) / 1400

/-- The safe-light set (R263): one duty for a string's populated positions. -/
def safeSet (s : State) : LedSet :=
  { duty := ((List.range 4).map (fun k => (List.range 24).map (fun p =>
      if posOk s k p then (lget s.led.safe k (0, 0)).2 else 0))).flatten
    code := (List.range 4).map (fun k => (lget s.led.safe k (0, 0)).1) }

/-- The active lane copies SAFE_LIGHT into the stage (R263). -/
def copySafe (s : State) : State :=
  updLed (fun d => { d with safe := (List.range 4).map (fun k =>
    let r := getRow s 0x90112 k
    (mAcode (rNat r 0), rNat r 1)) }) s

/-- The LED cycle of the period at which a position's lit interval starts (R261), position `i` of the 96. -/
def litStart (i : Nat) : Nat := 260 * i % 25000

/-- Whether a position is lit in a cycle of the period: from its start on, modulo the period (R261). -/
def litIn (x : Nat × Nat) (cycle : Nat) : Bool := decide ((cycle + 25000 - x.1) % 25000 < x.2)

/-- The lit cycles of a position in the running period. -/
def litCount (s : State) (k p : Nat) : Nat := (lget s.led.lit (24 * k + p) (0, 0)).2

/-- The lit cycles of a position and the carry after it (R261). -/
def litOf (duty acc : Nat) : Nat × Nat :=
  if duty = 0 then (0, acc)
  else if duty = 65535 then (25000, acc)
  else
    let a := acc + duty * 25000
    let on := a / 65536
    if on < 20 then (0, a) else (on, a % 65536)

/-- The code in effect on a string's regulator: the stage's own cuts act on any set (R268, R440, R503). -/
def stageCode (s : State) (k : Nat) : Nat :=
  if !ledUp s || (strOf s k).hwCut || (strOf s k).fault then 0 else lget s.led.set.code k 0

/-- A string's code and its positions' lit intervals. -/
def stringDrive (s : State) (k : Nat) : Nat × List (Nat × Nat) := ((strOf s k).code, (s.led.lit.drop (24 * k)).take 24)

/-- A string is driven with a code and lit intervals. -/
def driveString (k : Nat) (d : Nat × List (Nat × Nat)) (s : State) : State :=
  updStr k (fun x => { x with code := d.1 })
    (updLed (fun y => { y with lit := y.lit.take (24 * k) ++ d.2 ++ y.lit.drop (24 * k + 24) }) s)

/-- A string that a self-test slice drives keeps that drive; what was written to it goes into the slice's copy (R431). -/
def keepSlice (s0 : State) (s : State) : State :=
  s.test.saved.foldl (fun s p =>
    driveString p.1 (stringDrive s0 p.1) { s with test := { s.test with saved := mset s.test.saved p.1 (stringDrive s p.1) } }) s

/-- The stage drives its set over a period (R261, R262); a switch that its clamp has closed stays closed (R271). -/
def drivePeriod (s : State) : State :=
  let s0 := s
  let r := s.led.set.duty.zipWith litOf s.led.acc
  let on (i n : Nat) : Nat := if (strOf s (i / 24)).clamped.getLsbD (i % 24) then 0 else n
  let s := updLed (fun d => { d with
    lit := r.mapIdx (fun i x => (litStart i, on i x.1)), acc := r.map (fun x => x.2) }) s
  keepSlice s0 ((List.range 4).foldl (fun s k => updStr k (fun x => { x with code := stageCode s k }) s) s)

/-- With the LED supply down the string regulators go to 0 at once (R438, R440, R503). -/
def shedStrings (s : State) : State :=
  if ledUp s then s else (List.range 4).foldl (fun s k => updStr k (fun x => { x with code := 0 }) s) s

/-- D ÷ 65,535 × R(T) × K of a string, in thousandths, over its darkest position in use (R270). -/
def relOutput (s : State) (k : Nat) : Nat :=
  let x := strOf s k
  let ds := ((List.range 24).filter (posOk s k)).map (posDuty s k)
  ds.foldl min 65535 * x.rt * s.led.cap / (65535 * 10 ^ 9)

/-- A LED_FAULT record (R382): string, position, fault by the rows of R272. -/
def ledFault (sev k pos fault : Nat) (s : State) : State :=
  record 0x9010 sev k (be 1 pos ++ be 1 fault ++ be 2 0 ++ beI 2 (strOf s k).pad ++ be 2 (relOutput s k)) s

/-- A position is marked faulty (R272): OPEN or SHORT; it is bypassed from then on. -/
def markPos (isOpen : Bool) (k p : Nat) (s : State) : State :=
  if (strOf s k).faulty.getLsbD p then s
  else
    let b := BitVec.twoPow 24 p
    let s := updStr k (fun x => { x with
      faulty := x.faulty ||| b, opens := if isOpen then x.opens ||| b else x.opens
      shorts := if isOpen then x.shorts else x.shorts ||| b }) s
    ledFault (if isOpen then 5 else 4) k p (if isOpen then 0 else 1) (stickySet 146 (k * 256 + p) s)

/-- A CROSS fault (R273): both strings are switched off and left off. -/
def markCross (pair : Nat) (s : State) : State :=
  let k := pair / 2
  let s := updStr k (fun x => { x with fault := true, code := 0, cross := k + 1 }) s
  let s := updStr (k + 1) (fun x => { x with fault := true, code := 0, cross := k }) s
  ledFault 6 k 255 4 (stickySet 149 pair s)

/-- One string's taps in a period (R272): OPEN after 2, SHORT after 3 consecutive periods on a lit position. -/
def checkTaps (k : Nat) (x : StringSample) (s : State) : State :=
  if x.current < 50000 then updStr k (fun y => { y with openRun := List.replicate 24 0, shortRun := List.replicate 24 0 }) s
  else
    let lit (p : Nat) : Bool := decide (0 < litCount s k p) && posOk s k p
    let v (p : Nat) : Nat := cN x.tap p - cN x.tap (p + 1)
    let s := updStr k (fun y => { y with
      openRun := y.openRun.mapIdx (fun p n => if lit p && decide (14000 < v p) then n + 1 else 0)
      shortRun := y.shortRun.mapIdx (fun p n => if lit p && decide (v p < 1500) then n + 1 else 0) }) s
    (List.range 24).foldl (fun s p =>
      if 2 ≤ cN (strOf s k).openRun p then markPos true k p s
      else if 3 ≤ cN (strOf s k).shortRun p then markPos false k p s
      else s) s

/-- The set current of a string in µA (R259). -/
def setMicro (s : State) (k : Nat) : Nat := (strOf s k).code * 700000 / 1023

/-- A string's samples of a period (R259): current, voltage, and the pad, whose sensor is in fault outside its limits (R267). -/
def sampleString (s : State) (p : StringSample × Nat) : State :=
  let x := p.1
  let out := decide (x.pad < -500 ∨ 1600 < x.pad)
  updStr p.2 (fun y =>
    let moved := y.pad != x.pad || y.code == 0
    { y with
      current := x.current, volts := x.volts, pad := x.pad, padAt := if moved then s.clk.fab else y.padAt
      sensorBad := if y.pad != x.pad then out else y.sensorBad || out }) s

/-- One string's current in a period (R272): since when it is out of range. -/
def checkCurrent (k : Nat) (x : StringSample) (s : State) : State :=
  let set := setMicro s k
  let low := decide (x.current * 100 < set * 95)
  let isOpen := decide (x.current < 5000 ∧ 50000 < set)
  updStr k (fun y => { y with
    complSince := if low then some (y.complSince.getD s.clk.fab) else none, complTold := y.complTold && low
    openSince := if isOpen then some (y.openSince.getD s.clk.fab) else none }) s

/-- The run-time comparison of a cross pair (R273, R492): 64 consecutive periods within 0.5 V while the duty patterns differ
by at least 1,000 lit cycles make it suspect, and ask for its slice. -/
def checkPair (xs : List StringSample) (s : State) (pair : Nat) : State :=
  let k := pair / 2
  let none_ : StringSample := { current := 0, volts := 0, tap := [], pad := 0 }
  let a := cN (lget xs k none_).tap 24
  let b := cN (lget xs (k + 1) none_).tap (pair % 2)
  let la := litCount s k 23
  let lb := litCount s (k + 1) (pair % 2)
  let near := decide (max a b - min a b ≤ 500 ∧ 1000 ≤ max la lb - min la lb)
  let run := if near then mgetD s.led.crossRun pair 0 + 1 else 0
  let s := updLed (fun d => { d with crossRun := mset d.crossRun pair run }) s
  if run = 64 then
    { (updLed (fun d => { d with crossSuspect := true }) s) with
      test := { s.test with requests := insertNat (4 + pair) s.test.requests } }
  else s

/-- A period's samples (R259) and its fault rules (R272, R273), which are suspended while the LED supply is shed (R440). -/
def checkPeriod (xs : List StringSample) (s : State) : State :=
  let s := (xs.zipIdx.take 4).foldl sampleString s
  if !ledUp s then s
  else
    let s := (xs.zipIdx.take 4).foldl (fun s p => checkCurrent p.2 p.1 (checkTaps p.2 p.1 s)) s
    (List.range 6).foldl (checkPair xs) s

/-- Relative flux F at a temperature in 0.1 °C (R265), in 0.01 % × 200. -/
def fluxOf (s : State) (k : Nat) (t : Int) : Nat :=
  let f (i : Nat) : Int := rInt (getRow s 0x90110 k) i
  if t ≤ -400 then (f 0 * 200).toNat
  else if 1200 ≤ t then (f 8 * 200).toNat
  else
    let i := ((t + 400) / 200).toNat
    (f i * 200 + (f (i + 1) - f i) * (t + 400 - 200 * i)).toNat

/-- The temperature a string is taken to have (R267): END_T while its sensor is in fault. -/
def tempOf (s : State) (k : Nat) : Int :=
  if (strOf s k).sensorBad then rInt (getRow s 0x90111 0) 1 else (strOf s k).pad

/-- The compensated current in µA before its limit (R264 step 4). -/
def compOf (s : State) (k : Nat) : Nat :=
  let c := strCfg s k
  rNat c 1 * 1000 * rNat c 5 * fluxOf s k (getI s 0x90113) / (65536 * max 1 (fluxOf s k (tempOf s k)))

/-- R(T) in millionths without the rise limit (R266); END_PCT while the sensor is in fault, dim light over no light (R267). -/
def derate (s : State) (k : Nat) : Nat :=
  let d := getRow s 0x90111 0
  let t := tempOf s k
  let knee := rInt d 0
  let e := rInt d 1
  let low := 100 - rNat d 2
  if (strOf s k).sensorBad then 1000000 - low * 10000
  else if (strOf s k).hotLatch then 0
  else if t < knee then 1000000
  else if t < e then 1000000 - low * 10000 * (t - knee).toNat / max 1 (e - knee).toNat
  else 1000000 - low * 10000

/-- The 100 ms computation of one string (R265 to R267). -/
def tickString (s : State) (p : StringSample × Nat) : State :=
  let k := p.2
  let s := sampleString s p
  let t := tempOf s k
  let s := updStr k (fun y => { y with hotLatch := decide (1250 ≤ t) || (y.hotLatch && decide (1150 ≤ t)) }) s
  let c := compOf s k
  let r := derate s k
  updStr k (fun y => { y with
    comp := min c 700000, limited := decide (700000 ≤ c) && rNat (strCfg s k) 0 == 1
    rt := if r ≤ y.rt then r else min r (y.rt + 1000) }) s

/-- The power cap (R269): the sum is taken as the demand before the cap; K rises by at most 5 % of its value a second. -/
def capPower (s : State) : State :=
  let sum := ((List.range 4).map (fun k => (strOf s k).volts * (strOf s k).current)).sum
  let max_ := getN s 0x90103 * 100000000
  let k := s.led.cap
  let want := if sum * 1000000 ≤ max_ * k then 1000000 else max_ * k / max 1 sum
  let k2 := if want ≤ k then want else min want (k * 10048 / 10000)
  updLed (fun d => { d with cap := k2, capActive := decide (k2 < 1000000), power := sum / 100000000 }) s

/-- Whether a string is under its floor (R270, R503). -/
def underFloor (s : State) (k : Nat) : Bool :=
  rNat (strCfg s k) 0 == 1 && rNat (strCfg s k) 4 != 0
    && ((!ledUp s && 0 < strFloor s k) || decide (relOutput s k < strFloor s k * 10))

/-- FLOOR_UNDER of a string (R270): each onset is counted and recorded; the fault code of that record is not stated. -/
def floorSync (s : State) (k : Nat) : State :=
  let u := underFloor s k
  let was := (strOf s k).under
  let s := updStr k (fun x => { x with under := u }) s
  if u && !was then draw (ledFault 4 k (freeNat s / 256 % 256) (freeNat s % 256) (cntUp 0x90015 s)) else s

/-- The 100 ms computation (R265 to R270). -/
def controlTick (xs : List StringSample) (s : State) : State :=
  let s := (xs.zipIdx.take 4).foldl tickString s
  let bad := (List.range 4).find? (fun k => (strOf s k).sensorBad)
  let s := condSet 144 (bad.getD 0) bad.isSome s
  (List.range 4).foldl floorSync (capPower { s with led := { s.led with ctrlAt := s.clk.fab } })

/-- A field of an engine's word. -/
def wordField (w : Word32) (lo n : Nat) : Nat := (w.extractLsb' lo n).toNat

/-- One word that an engine runs at TAI millisecond `ms` (R276), and whether the engine goes on in this tick. -/
def engWord (ms : Nat) (e : Engine) : Engine × Bool :=
  let w := e.prog[e.pc]?.getD 0
  let op := wordField w 28 4
  let v := wordField w 0 16
  let a := wordField w 0 6
  let c := wordField w 24 2
  let n : Engine := { e with pc := (e.pc + 1) % 64 }
  if op = 0 then ({ e with state := 0 }, false)
  else if op = 1 then ({ n with lvl := v }, true)
  else if op = 2 then ({ n with base := v }, true)
  else if op = 3 then ({ n with first := wordField w 8 5, last := wordField w 0 5 }, true)
  else if op = 4 then
    let d := if wordField w 0 8 < 128 then wordField w 0 8 + 240 else wordField w 0 8 - 16
    ({ n with first := (e.first + d) % 24, last := (e.last + d) % 24 }, true)
  else if op = 5 then
    let t := wordField w 16 12
    if t = 0 then ({ n with lvl := v }, true)
    else ({ n with state := 2, waitKind := 2, ramp := some (e.lvl, v, t), left := t }, false)
  else if op = 6 then
    let t := wordField w 0 20
    if t = 0 then (n, true) else ({ n with state := 2, waitKind := 1, left := t }, false)
  else if op = 7 then
    let p := max 1 (wordField w 0 20)
    if ms % p = 0 then (n, true) else ({ n with state := 2, waitKind := 3, left := p - ms % p }, false)
  else if op = 8 then ({ n with cnt := lset e.cnt c v }, true)
  else if op = 9 then
    let k := cN e.cnt c - 1
    ({ n with cnt := lset e.cnt c k, pc := if k = 0 then n.pc else a }, true)
  else if op = 10 then ({ n with pc := a }, true)
  else if op = 11 then
    let m := w.extractLsb' 0 4
    if e.trig &&& m = 0 then ({ n with state := 2, waitKind := 4, left := m.toNat }, false)
    else ({ n with trig := e.trig &&& ~~~m }, true)
  else if op = 12 then
    let m := w.extractLsb' 8 4
    if e.trig &&& m = 0 then (n, true) else ({ n with trig := e.trig &&& ~~~m, pc := a }, true)
  else if op = 13 then ({ n with sig := wordField w 0 8 }, true)
  else if op = 14 then ({ n with mask := w.extractLsb' 0 4 &&& e.own }, true)
  else ({ e with state := 2, waitKind := 5 }, false)

/-- Up to `n` words in one tick (R277): the engine and the number of SIG words run. -/
def engRun (ms : Nat) : Nat → Engine → Nat → Engine × Nat
  | 0, e, sigs => (e, sigs)
  | n + 1, e, sigs =>
    let isSig := wordField (e.prog[e.pc]?.getD 0) 28 4 = 13
    let r := engWord ms e
    let sigs := if isSig then sigs + 1 else sigs
    if r.2 then engRun ms n r.1 sigs else (r.1, sigs)

/-- One tick of an engine (R276, R277). A waiting SYNC looks at the TAI millisecond of each tick. -/
def engTick (ms : Nat) (e : Engine) : Engine × Nat :=
  let go (e : Engine) : Engine × Nat := engRun ms 16 { e with state := 1, waitKind := 0, ramp := none, left := 0 } 0
  if e.state = 1 then engRun ms 16 e 0
  else if e.state = 2 then
    if e.waitKind = 1 then
      if e.left ≤ 1 then go e else ({ e with left := e.left - 1 }, 0)
    else if e.waitKind = 3 then
      let p := max 1 (wordField (e.prog[(e.pc + 63) % 64]?.getD 0) 0 20)
      if ms % p = 0 then go e else ({ e with left := p - ms % p }, 0)
    else if e.waitKind = 2 then
      match e.ramp with
      | none => go e
      | some (l0, v, t) =>
        let left := e.left - 1
        let l : Int := (l0 : Int) + ((v : Int) - (l0 : Int)) * ((t - left : Nat) : Int) / (max 1 t : Nat)
        let e1 : Engine := { e with left := left, lvl := l.toNat }
        if left = 0 then go e1 else (e1, 0)
    else if e.waitKind = 4 then
      let m := BitVec.ofNat 4 e.left
      if e.trig &&& m = 0 then (e, 0) else go { e with trig := e.trig &&& ~~~m }
    else (e, 0)
  else (e, 0)

/-- Whether an engine cannot start on the strings it owns (R275): none, or one that another running engine owns. -/
def ownBad (l : Lane) (s : State) (e : Nat) (own : BitVec 4) : Bool :=
  own == 0 || ((s.lanes.get l).engines.zipIdx).any (fun p => p.2 != e && engRuns p.1 && (p.1.own &&& own) != 0)

/-- START (R275): all state anew, from word 0; or FAULT code 1. -/
def engStart (l : Lane) (e : Nat) (own : BitVec 4) (s : State) : State :=
  if ownBad l s e own then updEng l e (fun x => { x with own := own, state := 3, fault := 1 }) s
  else updEng l e (fun x => { Engine.init with own := own, mask := own, state := 1, prog := x.prog }) s

/-- STOP, as END (R276). -/
def engStop (l : Lane) (e : Nat) (s : State) : State :=
  updEng l e (fun x => { x with state := 0, waitKind := 0, ramp := none, left := 0 }) s

/-- An engine is loaded from FLOWSTONE_PROG (R278): OWN and the program. -/
def engLoad (l : Lane) (e : Nat) (s : State) : State :=
  let r := getRow s 0x90200 e
  let b := rOct r 2
  updEng l e (fun x => { x with
    own := BitVec.ofNat 4 (rNat r 0), prog := (List.range 64).map (fun i => BitVec.ofNat 32 (ofBe ((b.drop (4 * i)).take 4))) }) s

/-- Trigger bits are set (R278, R279). -/
def engTrig (l : Lane) (e bits : Nat) (s : State) : State :=
  updEng l e (fun x => { x with trig := x.trig ||| BitVec.ofNat 4 bits }) s

/-- The test rows of the cross pairs of a string (R273, R492). -/
def crossRows (k : Nat) : List Nat := ((List.range 6).filter (fun p => p / 2 == k || p / 2 + 1 == k)).map (· + 4)

end Sys2Proof.Machine
end

