-- ==== Sys2Proof/Machine/MetPipe.lean ====
section
/-!
DEFINITION. One lane's metering pipeline (R232, R233, R236, R237, R239): the corrections, the DC blocker and the 90° shift over
samples, the sums over an interval, and what D0 makes of them.
-/
namespace Sys2Proof.Machine

/-- A 24-bit sample (R232); beyond full scale it clips (R230). -/
def clip24 (v : Int) : Int := max (-8388608) (min 8388607 v)

/-- The ratios now in force (R231). -/
def scaleNow (s : State) : Scale :=
  { vt := getN s 0x80100, range := (List.range 4).map (fun c => getC s 0x80101 c 0)
    prim := (List.range 4).map (fun c => getC s 0x80101 c 1), res := getN s 0x80102 }

/-- Full scale of a channel in µV or µA (R230). -/
def fullScale (k : Scale) (c : Nat) : Nat :=
  if c < 3 then 500000000 else if c < 7 then (if cN k.range (c - 3) = 0 then 3200000 else 16000000) else max 1 Config.resScale

/-- The nominal secondary of a current channel's range, µA (R231). -/
def inMicro (k : Scale) (c : Nat) : Nat := if cN k.range c = 0 then 1000000 else 5000000

/-- Offset, then gain (R239), on a channel with full scale `fs`. -/
def gained (fs : Nat) (cal : Row) (x : Int) : Int :=
  clip24 ((x * (fs : Int) - rInt cal 1 * 8388608) * (rNat cal 0 : Int) / ((fs * 1073741824 : Nat) : Int))

/-- The cubic interpolator (R239) over four samples, newest first, `pos` 1/1024 sample behind the first. -/
def interpolate (taps : List Int) (pos : Int) : Int :=
  let weight (j : Nat) : Int := ((List.range 4).map (fun p => Config.farrow j p * pos ^ p * 1024 ^ (3 - p))).sum
  clip24 (((List.range 4).map (fun j => lget taps j 0 * weight j)).sum / 1152921504606846976)

/-- The delay of a channel (R239): DELAY on the base delay of 4 samples; `h` the samples, newest first. -/
def delayed (h : List Int) (delay : Int) : Int :=
  let d := (4096 + delay).toNat
  let k := d / 1024 - 1
  interpolate (h.drop k) ((d - 1024 * k : Nat) : Int)

/-- The Hilbert FIR over the last 63 samples, newest first (R236). -/
def shifted (line : List Int) : Int :=
  clip24 (((List.range 63).map (fun j => Config.hilbert j * lget line j 0)).sum / 1073741824)

/-- One sample through a channel (R232 stages 3 and 4, R236): what leaves 31 samples late, and that shifted by 90°. With no row
the main path does not correct (R240). -/
def chanStep (fs : Nat) (cal : Option Row) (p : ChanPipe) (x : Int) : ChanPipe × Int × Int :=
  let h := (match cal with | some r => gained fs r x | none => x) :: p.past
  let y := match cal with | some r => delayed h (rInt r 2) | none => lget h 4 0
  let line := clip24 (y - p.dc / 1073741824) :: p.line
  ({ past := h.take 10, dc := p.dc + (y * 1073741824 - p.dc) * Config.dcCorner / 1073741824, line := line.take 62 },
   lget line 31 0, shifted line)

/-- Samples through a channel, oldest first. -/
def chanRun (fs : Nat) (cal : Option Row) : List Int → ChanPipe → ChanPipe × List Int × List Int
  | [], p => (p, [], [])
  | x :: r, p =>
    let (q, y, z) := chanStep fs cal p x
    let (p', ys, zs) := chanRun fs cal r q
    (p', y :: ys, z :: zs)

/-- The row of CAL_MAIN that the running period uses (R242). -/
def mainRow (s : State) (r : Nat) : Row :=
  match s.met.inUse with | some (m, _) => lget m r [] | none => getRow s 0x80200 r
/-- The row of CAL_FALLBACK that the running period uses. -/
def fallRow (s : State) (r : Nat) : Row :=
  match s.met.inUse with | some (_, f) => lget f r [] | none => getRow s 0x80201 r
/-- Both tables as they stand. -/
def calTables (s : State) : List Row × List Row :=
  ((List.range 8).map (getRow s 0x80200), (List.range 8).map (getRow s 0x80201))

/-- Whether a CAL_MAIN row is valid. -/
def calOk (s : State) (r : Nat) : Bool := rNat (mainRow s r) 4 == 1
/-- Whether phase 0 to 2 is in fall-back (R240). -/
def phaseFall (s : State) (x : Nat) : Bool := !(calOk s x && calOk s (x + 3))
/-- Whether any phase is in fall-back. -/
def anyFall (s : State) : Bool := (List.range 3).any (phaseFall s)
/-- Whether a channel is in fall-back (R240): a phase's two together, the neutral and the residual alone. -/
def chanFall (s : State) (c : Nat) : Bool := if c < 6 then phaseFall s (c % 3) else !calOk s c

/-- A channel's samples through its pipeline at a scale. -/
def runChannel (s : State) (k : Scale) (c : Nat) (p : ChanPipe) (xs : List Int) : ChanPipe × List Int × List Int :=
  chanRun (fullScale k c) (if chanFall s c then none else some (mainRow s c)) xs p

/-- Sums of an interval in the pipeline (R233, R236): samples, v², i² (L1, L2, L3, N), v·i, v⊥·i, the residual channel's squares,
and the squares of the primary sum of the four currents. -/
structure Sums where
  n : Nat
  vv : List Nat
  ii : List Nat
  vi : List Int
  qi : List Int
  rr : Nat
  ss : Nat
  deriving DecidableEq, Repr

/-- The sum of products of two channels. -/
def dot (a b : List Int) : Int := (a.zipWith (· * ·) b).sum

/-- The sums over what the pipeline delivered (R236). -/
def sumsOf (k : Scale) (w : List (List Int)) : Sums :=
  let ch (c : Nat) : List Int := lget w c []
  let prim (c : Nat) : List Int := (ch (c + 3)).map (fun x => x * (cN k.prim c : Int))
  let total := ((prim 0).zipWith (· + ·) (prim 1)).zipWith (· + ·) ((prim 2).zipWith (· + ·) (prim 3))
  { n := (ch 0).length, vv := (List.range 3).map (fun x => (dot (ch x) (ch x)).toNat)
    ii := (List.range 4).map (fun c => (dot (ch (c + 3)) (ch (c + 3))).toNat)
    vi := (List.range 3).map (fun x => dot (ch x) (ch (x + 3))), qi := (List.range 3).map (fun x => dot (ch (x + 8)) (ch (x + 3)))
    rr := (dot (ch 7) (ch 7)).toNat, ss := (dot total total).toNat }

/-- What D0 makes of the sums (R233, R240), secondary: RMS voltages and currents in 2^-30 µV and µA, P, Q and S in
2^-76 ÷ n pW, the residual current in 2^-30 µA; I_SUM in µA primary. -/
structure Quant where
  n : Nat
  v : List Nat
  i : List Nat
  p : List Int
  q : List Int
  a : List Int
  res : Nat
  sum : Nat
  deriving DecidableEq, Repr

/-- The RMS of a sum of squares of samples with full scale `fs`, in 2^-30 µV or µA. -/
def rootMean (fs n sum : Nat) : Nat := Nat.sqrt (sum * fs ^ 2 * 16384 / max 1 n)

/-- The RMS fall-back of a channel (R240): gain × raw + offset. -/
def fallMean (row : Row) (raw : Nat) : Nat := (((raw * rNat row 0 / 1073741824 : Nat) : Int) + rInt row 1 * 1073741824).toNat

/-- The fall-back of P (column 2) and Q (column 4), over `n` samples (R240). -/
def fallPower (row : Row) (col n : Nat) (raw : Int) : Int :=
  raw * (rNat row col : Int) + rInt row (col + 1) * ((n * 1000000000 * 2 ^ 76 : Nat) : Int)

/-- The results of an interval (R236, R240). -/
def quantOf (s : State) (k : Scale) (w : List (List Int)) : Quant :=
  let m := sumsOf k w
  let mean (c sum : Nat) : Nat :=
    let r := rootMean (fullScale k c) m.n sum
    if chanFall s c then fallMean (fallRow s c) r else r
  let power (col x : Nat) (sum : Int) : Int :=
    let raw := sum * ((fullScale k x * fullScale k (x + 3) : Nat) : Int)
    if phaseFall s x then fallPower (fallRow s (x + 3)) col m.n raw else raw * 1073741824
  let v := (List.range 3).map (fun x => mean x (cN m.vv x))
  let i := (List.range 4).map (fun c => mean (c + 3) (cN m.ii c))
  { n := m.n, v, i
    p := (List.range 3).map (fun x => power 2 x (lget m.vi x 0)), q := (List.range 3).map (fun x => power 4 x (lget m.qi x 0))
    a := (List.range 3).map (fun x => ((cN v x * cN i x * m.n * 65536 : Nat) : Int))
    res := mean 7 m.rr, sum := Nat.sqrt (m.ss * 3200000 ^ 2 / (max 1 m.n * 2 ^ 46)) }

/-- Whether a phase's current is below START_I (R236). -/
def belowStart (s : State) (k : Scale) (m : Quant) (x : Nat) : Bool :=
  decide (cN m.i x * 10000 < getN s 0x80105 * inMicro k x * 1073741824)

/-- A phase's power as primary (R231), in 2^-92 ÷ 5n pW; 0 below START_I (R236). -/
def primary (s : State) (k : Scale) (m : Quant) (x : Nat) (v : Int) : Int :=
  if belowStart s k m x then 0 else v * ((k.vt * cN k.prim x * (if cN k.range x = 0 then 5 else 1) : Nat) : Int)

/-- P, Q and S of a phase, primary. -/
def powP (s : State) (k : Scale) (m : Quant) (x : Nat) : Int := primary s k m x (lget m.p x 0)
def powQ (s : State) (k : Scale) (m : Quant) (x : Nat) : Int := primary s k m x (lget m.q x 0)
def powS (s : State) (k : Scale) (m : Quant) (x : Nat) : Int := primary s k m x (lget m.a x 0)

/-- The denominator of a primary power in mW. -/
def milliUnit (n : Nat) : Nat := n * 5 * 1000000000 * 2 ^ 92

/-- A sum over the three phases. -/
def sum3 (f : Nat → Int) : Int := f 0 + f 1 + f 2

/-- The increments of the seven accumulators for an energy interval of T = N ÷ 8,000 s (R238), in units of 2^-32. -/
def increments (s : State) (k : Scale) (m : Quant) : List Nat :=
  let p := sum3 (powP s k m)
  let q := sum3 (powQ s k m)
  let a := sum3 (powS s k m)
  let e (v : Int) : Nat := v.toNat / (5 * 28800000 * 1000000000 * 2 ^ 60)
  [e p, e (-p), if 0 ≤ p ∧ 0 ≤ q then e q else 0, if p < 0 ∧ 0 ≤ q then e q else 0,
   if p < 0 ∧ q < 0 then e (-q) else 0, if 0 ≤ p ∧ q < 0 then e (-q) else 0, e a]

/-- Watts of a primary power, rounded up. -/
def wattsUp (n : Nat) (v : Int) : Nat := let d := max 1 (milliUnit n * 1000); (v.toNat + d - 1) / d

/-- The phasor's angle of a channel (R237): a single-bin DFT at `freq` over the period. -/
def phasor (freq : Nat) (w : List Int) : Int :=
  let bin (f : Nat → Nat → Int) : Int := ((w.zipIdx).map (fun p => p.1 * f freq p.2)).sum
  Config.angle (bin Config.cosine) (-(bin Config.sine))

/-- ANGLE_VI (R237): how far the current lags its voltage, from -180.00° to 179.99°. -/
def lagAngle (v i : Int) : Int := (v - i + 18000) % 36000 - 18000
/-- ANGLE_V (R237): how far Vx lags V1, from 0 to 359.99°. -/
def rotAngle (v1 vx : Int) : Nat := ((v1 - vx) % 36000).toNat

/-- OVERRANGE of the channels I1, I2, I3, IN, IRES, V1, V2, V3 in that order (R230, R255). -/
def overrange (k : Scale) (m : Quant) : Nat :=
  let out (lo hi x : Nat) : Bool := decide (x < lo * 1073741824 ∨ hi * 1073741824 < x)
  let iOut (c : Nat) : Bool := if cN k.range c = 0 then out 1000 2000000 (cN m.i c) else out 5000 10000000 (cN m.i c)
  packBits ((List.range 4).map iOut ++ [k.res != 0 && out 500 200000 m.res]
    ++ (List.range 3).map (fun x => out 46000000 332000000 (cN m.v x)))

end Sys2Proof.Machine
end

