-- ==== Sys2Proof/Machine/MetOps.lean ====
section
/-!
DEFINITION. The shared operations of feeder metering (chapter 8): energy intervals, live quantities, saves, start-up,
CURRENT_WITHOUT_VOLTAGE events.
-/
namespace Sys2Proof.Machine

/-- The nominal secondary of a current channel's range, mA (R231, R255). -/
def inMa (s : State) (c : Nat) : Nat := if getC s 0x80101 c 0 = 0 then 1000 else 5000
/-- CT primary, A. -/
def ctPrim (s : State) (c : Nat) : Nat := getC s 0x80101 c 1
/-- The RMS fall-back of a channel in the battery domain (R240, R250), mA: gain × raw + offset. -/
def fallRms (s : State) (r raw : Nat) : Nat :=
  let c := getRow s 0x80201 r
  (((raw * 1000 * rNat c 0 / 2 ^ 30 : Nat) : Int) + rInt c 1).toNat / 1000

/-- Add two lists entry by entry. -/
def addList (a b : List Nat) : List Nat := a.zipWith (· + ·) b

/-- A billing value reported of a lane (R244): never below what has been reported. -/
def billOf (s : State) (l : Lane) : List Nat := s.met.top.zipWith max (s.met.lanes.get l).bill

/-- The values now reported become the floor of what will be (R244). -/
def holdTop (s : State) : State := updMet (fun m => { m with top := billOf s (meterSource s) }) s

/-- An energy interval of a lane closes (R238, R243, R244): `w` what the pipeline delivered in it, `k` the ratios. -/
def addInterval (l : Lane) (k : Scale) (w : List (List Int)) (s : State) : State :=
  let m := quantOf s k w
  let inc := increments s k m
  let p := sum3 (powP s k m)
  let raw := sumsOf k w
  let sq := (List.range 4).map (fun c => cN raw.ii c * fullScale k (c + 3) ^ 2)
  updLM l (fun x => { x with
    bill := addList x.bill inc, inc := addList x.inc inc, pmaxImp := max x.pmaxImp (wattsUp m.n p)
    pmaxExp := max x.pmaxExp (wattsUp m.n (-p)), sq := addList x.sq sq, n := x.n + m.n }) s

/-- The samples of one lane through its pipeline at a scale, added to the running period and closed as an energy interval. -/
def feed (l : Lane) (k : Scale) (xs : List (List Int)) (s : State) : State :=
  let runs := ((s.met.lanes.get l).pipes.zipIdx).map (fun p => runChannel s k p.2 p.1 (lget xs p.2 []))
  let w := runs.map (fun r => r.2.1) ++ (runs.take 3).map (fun r => r.2.2)
  addInterval l k w (updLM l (fun x => { x with pipes := runs.map (fun r => r.1), wave := x.wave.zipWith (· ++ ·) w }) s)

/-- The samples since the last close, cut where a ratio changed (R231): what came before is scaled by the ratios before, and the
running period begins anew. -/
def feedCuts (l : Lane) (xs : List (List Int)) (at_ : Nat) : List (Nat × Scale) → State → State
  | [], s => feed l (scaleNow s) xs s
  | (n, k) :: r, s =>
    let s := updLM l (fun x => { x with wave := List.replicate 11 [] }) (feed l k (xs.map (List.take (n - at_))) s)
    feedCuts l (xs.map (List.drop (n - at_))) (max at_ n) r s

/-- An energy interval closes on each running lane (R235, R236, R238). -/
def closeInterval (a b : Samples) (s : State) : State :=
  let one (l : Lane) (m : Samples) (s : State) : State := if (s.lanes.get l).running then feedCuts l m.raw 0 s.met.cuts s else s
  holdTop (updMet (fun m => { m with cuts := [], lastClose := s.clk.fab }) (one .B b (one .A a s)))

/-- Whether no phase is present (R235). -/
def noPhase (s : State) : Bool := s.met.phases.all (fun p => p.absent)
/-- Whether phase 0 to 2 is ABSENT (R234). -/
def phaseAbsent (s : State) (x : Nat) : Bool := (lget s.met.phases x Phase.init).absent

/-- The reference phase (R235): the lowest-numbered one present. -/
def refPhase (s : State) : Option Nat := (List.range 3).find? (fun x => !phaseAbsent s x)

/-- The frequency of the period that ends (R235), mHz: its cycles over the time between its first and last reference crossings;
the last value where it has none. -/
def freqOf (s : State) (old : Nat) : Nat :=
  match s.met.ref with
  | none => old
  | some x =>
    let span := (lget s.met.phases x Phase.init).last - s.met.first
    if s.met.cyc = 0 ∨ span = 0 then old else s.met.cyc * 1000 * Config.secCycles / span

/-- The live quantities of a closed period (R231, R235 to R237), primary. -/
def liveOf (s : State) (w : List (List Int)) (freq : Nat) (hot : Bool) : Live :=
  let k := scaleNow s
  let m := quantOf s k w
  let down (v : Int) : Int := Int.tdiv v (max 1 (milliUnit m.n) : Nat)
  let phase (f : Nat → Int) : List Int := (List.range 3).map f
  let angle (c : Nat) : Int := phasor freq (lget w c [])
  { v := (List.range 3).map (fun x => cN m.v x * k.vt / (65536 * 1000 * 1073741824))
    i := (List.range 4).map (fun c => cN m.i c * cN k.prim c * 1000 / (inMicro k c * 1073741824))
    p := phase (fun x => down (powP s k m x)), q := phase (fun x => down (powQ s k m x))
    sa := (List.range 3).map (fun x => (down (powS s k m x)).toNat)
    pf := phase (fun x => if powS s k m x = 0 then 0 else Int.tdiv (powP s k m x * 10000) (powS s k m x))
    avi := phase (fun x => if phaseAbsent s x || belowStart s k m x then 0 else lagAngle (angle x) (angle (x + 3)))
    av := (List.range 3).map (fun x => if phaseAbsent s x || phaseAbsent s 0 then 0 else rotAngle (angle 0) (angle x))
    freq, ires := m.res * k.res / 1073741824, isum := m.sum, ovr := overrange k m, hot }

/-- A measurement period ends on a lane (R235 to R237): its samples are through the pipeline. -/
def periodEnd (l : Lane) (hot : Bool) (s : State) : State :=
  if (s.lanes.get l).running then
    updLM l (fun x => { x with
      live := if (lget x.wave 0 []).isEmpty then x.live else liveOf s x.wave (freqOf s x.live.freq) hot
      wave := List.replicate 11 [] }) s
  else s

/-- The next measurement period begins (R235, R242): its reference, its first crossing, the calibration it uses. -/
def periodBegin (s : State) : State :=
  let r := refPhase s
  let first := match r with | some x => (lget s.met.phases x Phase.init).last | none => 0
  updMet (fun m => { m with ref := r, first, cyc := 0, due := false, began := s.clk.fab, inUse := some (calTables s) }) s

/-- The lanes' results reach one another over a bridge link (R11). -/
def linksUp (s : State) : Bool := s.lp.links.a || s.lp.links.b

/-- Whether the lanes' increments since the last save differ beyond the tolerance (R18): 0.05 % of the source's plus
2 mWh. Only lanes that have measured since that save are compared, at FINAL saves too (DESIGN CHOICE, log entry 60). -/
def lanesDiffer (s : State) : Bool :=
  let src := (s.met.lanes.get (meterSource s)).inc
  let oth := (s.met.lanes.get (otherLane (meterSource s))).inc
  s.lanes.a.running && s.lanes.b.running && linksUp s && s.met.lanes.a.whole && s.met.lanes.b.whole
    && (src.zip oth).any (fun p => decide (p.1 * 5 / 10000 + 2 * 2 ^ 32 < max p.1 p.2 - min p.1 p.2))

/-- Whether the source lane is the standby (R244). -/
def sourceStandby (s : State) : Bool := meterSource s != servedBy s

/-- A slot is written (R246, R247): slot SEQ mod 16, over what a core wrote there; the next increments count from it. -/
def writeSlot (l : Lane) (g : SaveSlot) (s : State) : State :=
  let lo := 0x20800000 + g.seq % 16 * 4096
  updLane l (fun x => { x with mem := x.mem.filter (fun c => !decide (lo ≤ c.1 ∧ c.1 < lo + 128)),
                               wrote := x.wrote.filter (fun w => !decide (lo < w + 4 ∧ w < lo + 128)) })
    (updLM l (fun x => { x with bill := g.acc, inc := List.replicate 7 0, whole := true, pmaxImp := 0, pmaxExp := 0,
                                ring := mset x.ring (g.seq % 16) g }) s)

/-- A save (R244, R246, R247): the lanes agree on the billing register and write slot SEQ mod 16. A lane that no bridge link
reaches writes its own (R11). -/
def saveSlot (final : Bool) (s : State) : State :=
  let s := if lanesDiffer s then stickySet 128 0 (cntUp 0x80015 s) else s
  let seq := (s.met.saveSeq + 1) % 4294967296
  let from_ (l : Lane) : Lane := if linksUp s then meterSource s else l
  let slot (l : Lane) : SaveSlot :=
    let x := s.met.lanes.get (from_ l)
    { seq := seq, time := time64 s, asn := asn s, final := final
      flags := packBits [final, anyFall s, sourceStandby s], acc := billOf s (from_ l), pmaxImp := x.pmaxImp, pmaxExp := x.pmaxExp }
  let one (l : Lane) (s1 : State) : State := if (s.lanes.get l).running then writeSlot l (slot l) s1 else s1
  cntUp 0x80012 (updMet (fun m => { m with
    saveSeq := seq, lastSave := s.clk.fab, lastFinal := if final then s.clk.fab else m.lastFinal }) (one .B (one .A s)))

/-- The CT primaries in force. -/
def ctNow (s : State) : List Nat := (List.range 4).map (ctPrim s)

/-- A new event after two windows above the threshold (R251). -/
def cwvOpen (source channels start : Nat) (prev rms ct : List Nat) : Cwv :=
  { source, channels, ongoing := false, folded := false, start, secs := 2, amps := addList prev rms
    peak := prev.zipWith max rms, ct, folds := 0, below := 0 }

/-- An event over one more window (R251, R252): `hit` the channels above the threshold. -/
def cwvMore (e : Cwv) (hit : Nat) (rms : List Nat) : Cwv :=
  { e with
    channels := e.channels ||| hit, secs := e.secs + 1, amps := addList e.amps rms, peak := e.peak.zipWith max rms
    below := if hit = 0 then e.below + 1 else 0 }

/-- One channel's window while the lanes run (R251). -/
def cwvLane (rms : List Nat) (s : State) (x : Nat) : State :=
  let only : List Nat := (List.range 4).map (fun c => if c = x then cN rms c else 0)
  let prev : List Nat := (List.range 4).map (fun c => if c = x then cN s.met.prev c else 0)
  let up := decide (getN s 0x80106 < cN rms x)
  match lget s.met.cwv x none with
  | some e =>
    let m := cwvMore e (if up then 2 ^ x else 0) only
    if !phaseAbsent s x || 10 ≤ m.below then
      cwvRecord m (updMet (fun k => { k with cwv := lset k.cwv x none, above := lset k.above x 0 }) s)
    else updMet (fun k => { k with cwv := lset k.cwv x (some m) }) s
  | none =>
    if up && phaseAbsent s x then
      if cN s.met.above x = 0 then updMet (fun k => { k with above := lset k.above x 1 }) s
      else
        let start := timeOf s (s.clk.fab - 2 * Config.secCycles)
        let e := cwvOpen (laneNo (meterSource s) + 1) (2 ^ x) start prev only (ctNow s)
        updMet (fun k => { k with cwv := lset k.cwv x (some e), above := lset k.above x 0 }) s
    else updMet (fun k => { k with above := lset k.above x 0 }) s

/-- The 1 s window of the lanes (R251): the RMS since the last whole second of the source lane's samples. -/
def cwvWindow (s : State) : State :=
  let x := s.met.lanes.get (meterSource s)
  let rms := (List.range 4).map (fun c =>
    let r := Nat.sqrt (cN x.sq c * 16384 / max 1 x.n)
    (if chanFall s (c + 3) then fallMean (fallRow s (c + 3)) r else r) / (1000 * 1073741824))
  let s := (List.range 3).foldl (cwvLane rms) s
  let clear (m : LaneMeter) : LaneMeter := { m with sq := [0, 0, 0, 0], n := 0 }
  updMet (fun k => { k with prev := rms, lanes := { a := clear k.lanes.a, b := clear k.lanes.b } }) s

/-- Two events folded into one entry (R253). -/
def cwvFold (a b : Cwv) : Cwv :=
  { a with
    channels := a.channels ||| b.channels, secs := a.secs + b.secs, amps := addList a.amps b.amps
    peak := a.peak.zipWith max b.peak, folds := a.folds + 1, folded := true, ongoing := a.ongoing || b.ongoing }

/-- An event of the battery domain is stored (R253): the seventeenth and later fold into entry 15. -/
def battStore (e : Cwv) (b : BattMeter) : BattMeter :=
  if b.entries.length < 16 then { b with entries := b.entries ++ [e] }
  else { b with entries := lmod b.entries 15 (fun f => cwvFold f e) }

/-- Battery-mode metering stops (R250, R251): an open event is closed with ONGOING. -/
def battStop (budget : Bool) (s : State) : State :=
  let b := s.met.batt
  if !b.running then s
  else
    let b := match b.event with | some e => battStore { e with ongoing := true } b | none => b
    updMet (fun m => { m with batt := { b with running := false, event := none, above := [0, 0, 0, 0], hit := budget } }) s

/-- An absence of main power begins (R253). -/
def battAway (s : State) : State :=
  updMet (fun m => { m with batt := { BattMeter.init with
    away := true, since := s.clk.fab, start := time64 s, entries := m.batt.entries, intervals := m.batt.intervals } }) s

/-- Main power returns (R251, R253): the absence's interval entry, whether or not the metering ran in it. -/
def battReturn (s : State) : State :=
  let s := battStop false s
  let b := s.met.batt
  if !b.away then s
  else
    updMet (fun m => { m with batt := { b with
      away := false
      intervals := b.intervals ++ [(b.start, (s.clk.fab - b.since) / Config.secCycles, b.amps, b.seen, b.hit)] } }) s

/-- The battery domain's store is copied and cleared (R253): CWV entries to the recorder and CWV_LOG, intervals to BATT_LOG. -/
def battCopy (s : State) : State :=
  let b := s.met.batt
  let s := b.entries.foldl (fun s e => cwvRecord e s) s
  let s := b.intervals.foldl (fun s i =>
    logPush 0x80062 8 ([vN i.1, vN i.2.1] ++ i.2.2.1.map (fun a => vN (a / 3600)) ++ [vN i.2.2.2.1, vB i.2.2.2.2]) s) s
  updMet (fun m => { m with batt := { m.batt with entries := [], intervals := [] } }) s

/-- BATT_MET_SPENT holds while BATT_MET_USED is at the budget (R250). -/
def battSpent (s : State) : Bool := decide (getN s 0x80108 * 3600 ≤ getN s 0x80063)

/-- Milliwatt-hours of W over a gap in 2^-24 s, rounded up (R249). -/
def gapBound (w gap : Nat) : Nat := min 4294967295 ((w * gap * 1000 + 60397977599) / 60397977600)

/-- Both lanes' metering starts (R234, R235, R452): the detectors and the running period anew. -/
def meterBoot (s : State) : State :=
  updMet (fun m => { m with
    phases := List.replicate 3 { Phase.init with last := s.clk.fab }, freqFall := false, refSince := none, ref := none
    first := 0, cyc := 0, due := false, began := s.clk.fab, inUse := some (calTables s), lastClose := s.clk.fab, cuts := []
    top := List.replicate 7 0, lastSave := s.clk.fab, cwv := [none, none, none], above := [0, 0, 0], cal := none }) s

/-- The newer of the two lanes' slots (R249): the FINAL one where the SEQs are equal, lane A's if both or neither is. -/
def newerSlot : Option SaveSlot → Option SaveSlot → Option SaveSlot
  | some a, some b => if a.seq < b.seq then some b else if b.seq < a.seq then some a else if a.final || !b.final then some a else some b
  | some a, none => some a
  | none, b => b

/-- Metering at the lanes' agreement (R249, R253, R453): lane `l` becomes active. The billing register and SEQ from the newest slot
of the lanes that can be reached, with what each has measured since its load; GAP_LOG; periodic saves begin. -/
def meterStart (l : Lane) (s : State) : State :=
  let reach (k : Lane) : Bool := (s.lanes.get k).running && (k == l || linksUp s)
  let slot (k : Lane) : Option SaveSlot := if reach k then newestSlot s k else none
  let best := newerSlot (slot .A) (slot .B)
  let loss := getN s 0x20022
  let next := (s.clk.fab / Config.secCycles + 1) * Config.secCycles
  let set (bill : List Nat) (seq : Nat) (s : State) : State :=
    let load (k : Lane) (s : State) : State := if reach k then updLM k (fun x => { x with bill := addList bill x.inc }) s else s
    holdTop (updMet (fun m => { m with saveSeq := seq, lastSave := s.clk.fab, nextSave := next, top := bill }) (load .B (load .A s)))
  match best with
  | none =>
    let s := set (List.replicate 7 0) 0 s
    let s := logPush 0x80060 8 [vN (time64 s), vN 0, vN loss, vN 0, vB false, vN 0, vN 0] s
    record 0x8013 7 0 (be 8 (time64 s)) (stickySet 129 0 s)
  | some g =>
    let gap := loss - g.time
    let ms := (gap * 1000 + 16777215) / 16777216
    let bound (w : Nat) : Nat :=
      if g.final then (if gap * 1000 ≤ 5 * 16777216 then 0 else (w * 5 + 3599) / 3600) else gapBound w gap
    let imp := bound g.pmaxImp
    let exp := bound g.pmaxExp
    let s := set g.acc g.seq s
    let s := logPush 0x80060 8 [vN (time64 s), vN g.time, vN loss, vN (min ms 4294967295), vB g.final, vN imp, vN exp] s
    if g.final then s
    else record 0x8012 5 0 (be 4 (min ms 4294967295) ++ be 1 0 ++ be 3 0 ++ be 4 imp ++ be 4 exp) s

end Sys2Proof.Machine
end

