-- ==== Sys2Proof/Machine/ObjApp.lean ====
section
/-!
DEFINITION. What the computed read-only objects read, second part: radio, admission, epochs, tracker, metering, anchor
drive (banks 4 to 9).
-/
namespace Sys2Proof.Machine

/-- The residue of a ticket: nodes and reasons, rising (R120). -/
def residue (t : Ticket) : List (Nat × Nat) :=
  (t.targets.filter (fun x => !x.acked)).map (fun x => (x.node, x.out.getD (if x.shocked then 2 else 0)))

/-- The FLAGS of R119. -/
def ticketFlags (t : Ticket) : Nat := packBits [t.fShock, t.fPath, t.fExcl, t.fSwitch, t.fRestart]

/-- The three-consecutive-miss test of a path (R91, R147). -/
def missed (n : Nat) : Bool := decide (3 ≤ n)

/-- The members of a cluster that are LOST. -/
def lostIn (s : State) (c : Nat) : Nat := ((members s c).filter (fun n => (nodeOf s n).joined == 2)).length

/-- A cluster's state (R91): 0 unused, 1 normal, 2 on its alternate transceiver, 3 degraded. -/
def clusterState (s : State) (c : Nat) : Nat :=
  if !inUse s c then 0
  else
    let x := clOf s c
    if (members s c).isEmpty then 1
    else if lostIn s c != 0 || missed (if x.servingAlt then x.missAlt else x.missPri) || (!x.servingAlt && missed x.missAlt) then 3
    else if x.servingAlt then 2 else 1

/-- A row of CLUSTER_STATUS (4:0410). -/
def clusterRow (s : State) (c : Nat) : Row :=
  let x := clOf s c
  [vN (clusterState s c), vN (members s c).length, vN (lostIn s c), vB x.servingAlt, vN x.cevent, vN x.keyGen, vN x.missPri,
   vN x.missAlt, v32 x.swaps, vN x.ctxAnswered.toNat]

/-- A row of NODE_STATUS (4:0510). -/
def nodeRow (s : State) (n : Nat) : Row :=
  match mget s.mac.nodes n with
  | none => List.replicate 8 (vN 0)
  | some x =>
    [vN x.joined, vB x.shock.isSome, vN (histCount x).1, vN (histCount x).2, vN (plcb x), vN x.heard, .num x.rssi, v32 (x.upCounter.getD 0)]

/-- A 64-bit set as two BITS32, high first. -/
def hiLo (b : BitVec 64) : Row := [vN (b.toNat / 4294967296), vN (b.toNat % 4294967296)]

/-- A row of BLANK_STATE (4:00E0). -/
def blankRow (s : State) (band : Nat) : Row :=
  let f := frame s
  hiLo (blankOf s band f) ++ hiLo (blankOf s band (f + 1)) ++ hiLo (closedOf s band f) ++ hiLo (closedOf s band (f + 1))

/-- The used and the reserved time of a ledger over its window, and beyond (R133, R134). -/
def ledgerRow (m : NMap Bucket) (n w unit : Nat) : Row :=
  [v32 (((m.filter (fun p => decide (p.1 ≤ w ∧ w < p.1 + n))).map (fun p => p.2.used)).sum / unit),
   v32 ((m.map (fun p => p.2.reserved)).sum / unit)]

/-- A row of JOIN_PENDING (4:0600). -/
def joinRow (s : State) (r : Nat) : Row :=
  match s.mac.waiting[r]? with
  | some w => [.bytes (fit 8 w.eui), vN w.heard, vN w.xcvr, .num w.rssi]
  | none => [zeros 8, vN 0, vN 0, vN 0]

/-- A row of TICKET_TABLE (5:0300). -/
def ticketTableRow (s : State) (r : Nat) : Row :=
  match mget s.adm.tickets r with
  | none => defRow s 0x50300 r
  | some t =>
    let n := (residue t).length
    [vN t.id, vN t.state, vN t.dclass, vN t.obj, .bytes (fit 16 t.client), vN t.submitter, vN t.admitted, vN t.deadlineTime,
     vN t.targets.length, vN (t.targets.filter (fun x => x.acked)).length, vN (if t.state = 2 then n else 0), v16 t.booked,
     v16 t.sent, vN (ticketFlags t)]

/-- Open tickets. -/
def ticketsOpen (s : State) : Nat := (s.adm.tickets.filter (fun p => p.2.state == 1)).length

/-- Node bitmaps of EPOCH_BITMAPS (6:0018). -/
def nodeBits (l : List Nat) : Bytes :=
  let bytes := l.foldl (fun (m : NMap Nat) n => mupd m (n / 8) 0 (fun b => b ||| 2 ^ (7 - n % 8))) []
  (List.range 1024).map (fun i => BitVec.ofNat 8 (mgetD bytes i 0))

/-- CONTENT_PENDING (6:0020, R343): the content of group 14, or the location, differs from the epoch in force. -/
def contentPending (s : State) : Bool :=
  let objs := [0x60100, 0x60110, 0x60120, 0x20120, 0x20121]
  let cur := rowsOf s objs
  let inf := s.epoch.content.filter (fun p => objs.contains (p.1 / 4294967296))
  (cur ++ inf).any (fun p => getRow s (p.1 / 4294967296) (p.1 % 4294967296) !=
    erow s s.epoch.inForce (p.1 / 4294967296) (p.1 % 4294967296))

/-- A row of NODE_IMAGE_STORE (6:0400). -/
def imageRow (s : State) (r : Nat) : Row :=
  let i := lget s.epoch.store r NodeImage.init
  [vN i.id, vN i.bytes, vN i.blocks, .bytes (fit 32 i.sha), vN i.state, vN i.loaded]

/-- A row of IMAGE_PROGRESS (6:0420). -/
def progressRow (s : State) (n : Nat) : Row :=
  match mget s.epoch.progress n with
  | none => List.replicate 5 (vN 0)
  | some p => [vN p.id, vN p.hold] ++ hiLo p.window ++ [vB (imageWhole s n p.id)]

/-- IMAGE_COMPLETE_NODES (6:0421): nodes holding every block of the newest READY image. -/
def imageComplete (s : State) : Nat :=
  let ready := s.epoch.store.filter (fun i => i.state == 2)
  match ready.foldl (fun (b : Option NodeImage) i => match b with
    | some j => if j.loaded ≤ i.loaded then some i else b
    | none => some i) none with
  | none => 0
  | some i => (s.epoch.progress.filter (fun p => p.2.id == i.id && holdsImage s p.1 i.id i.blocks)).length

/-- A track's state as its register and table show it (R203). -/
def trackCode (k : TrackState) : Nat :=
  match k with
  | .free => 0
  | .tentative => 1
  | .confirmed => 2
  | .coasting => 3
  | .handed => 4
  | .ended => 5

/-- The next lantern on branch 0 (R227); 3FFFh none. -/
def nextLantern (k : Track) : Nat :=
  match (k.branches.headD []).find? (fun h => h.dist != 0) with
  | some h => h.node
  | none => 0x3FFF

/-- A row of TRACK_TABLE (7:0020). -/
def trackRow (s : State) (n : Nat) : Row :=
  match mget s.trk.tracks n with
  | none => defRow s 0x70020 n
  | some k =>
    [vN (trackCode k.state), vN k.cls, vN k.vertex, vN (nextLantern k), v16 k.speed, vN k.branches.length, vN k.tseq,
     vN k.lastTime, v16 k.events, vN k.fromModule, vN k.fromTrack]

/-- TRACKS_ACTIVE (7:0010). -/
def tracksActive (s : State) : Nat :=
  (s.trk.tracks.filter (fun p => p.2.state == .tentative || p.2.state == .confirmed || p.2.state == .coasting)).length

/-- A row of ZONE_STATE (7:0021). -/
def zoneRow (s : State) (z : Nat) : Row :=
  let x := zoneOf s z
  [vN x.cls, vN x.source, v16 x.expected, vN x.since, vN (match x.ovrNow with | some o => o.2 | none => 0),
   vN (match x.policyNow with | some p => p.2.2 | none => 0)]

/-- FLOOR_PENDING (7:001B): nodes that still have to answer. -/
def floorNodes (s : State) : Nat := ((s.trk.floors.map (fun p => p.1 / 4)).foldl (fun l n => insertNat n l) []).length

/-- A row of BOUNDARY_STATUS (7:0110): the boundary rows in the order of their vertices. -/
def boundRow (s : State) (r : Nat) : Row :=
  match s.trk.bounds[r]? with
  | none => List.replicate 6 (vN 0)
  | some (v, b) => [vN v, vN (getC s 0x70100 v 15), vN (getC s 0x70100 v 16), vN b.state, vN b.nVertex, vN b.nLength]

/-- The live quantities reported (R256): the source lane's. -/
def liveNow (s : State) : Live := (s.met.lanes.get (meterSource s)).live

/-- MET_STATE (8:0010). -/
def metState (s : State) : Nat :=
  let x := liveNow s
  packBits ((List.range 3).map (phaseAbsent s) ++ [s.met.freqFall] ++ (List.range 3).map (phaseFall s)
    ++ [x.hot, sourceStandby s, s.met.cwv.any (fun e => e.isSome)]) + 1024 * x.ovr

/-- A number in a form of the range lo to lo + n − 1; one that does not fit reads as a value that the spec does not state. -/
def inForm (lo : Int) (n : Nat) (v : Int) : Val :=
  .num (if lo ≤ v ∧ v < lo + (n : Int) then v else lo + (Config.outOfForm v % n : Nat))
def u32 (n : Nat) : Val := inForm 0 4294967296 n

/-- Thousandths as whole units, S32. -/
def milli (v : Int) : Val := inForm (-2147483648) 4294967296 (Int.tdiv v 1000)

/-- A row of PHASES (8:0020). -/
def phaseRow (s : State) (x : Nat) : Row :=
  let q := liveNow s
  if x = 3 then [vN 0, u32 (cN q.i 3)] ++ List.replicate 6 (vN 0)
  else [u32 (cN q.v x), u32 (cN q.i x), milli (lget q.p x 0), milli (lget q.q x 0), u32 (cN q.sa x / 1000),
        inForm (-32768) 65536 (lget q.pf x 0), .num (lget q.avi x 0), vN (cN q.av x)]

/-- Sums over the three phases. -/
def totalP (s : State) : Int := (liveNow s).p.sum
def totalQ (s : State) : Int := (liveNow s).q.sum
def totalS (s : State) : Nat := (liveNow s).sa.sum

/-- A billing value in whole mWh (R243, R244, R256), modulo 2^64. -/
def energyOf (s : State) (r : Nat) : Nat := cN (billOf s (meterSource s)) r / 4294967296 % 18446744073709551616

/-- LED_STATE (9:0010). -/
def ledState (s : State) : Nat :=
  let x := s.led.strings
  packBits ([s.led.safeOn, x.any (fun y => y.limited), x.any (fun y => y.under), s.led.capActive, s.led.crossSuspect]
    ++ [false, false, false] ++ x.map (fun y => decide (y.rt < 1000000)) ++ x.map (fun y => y.fault))

/-- The number of set bits. -/
def popCount (b : BitVec 24) : Nat := ((List.range 24).filter (fun i => b.getLsbD i)).length

/-- The state of a string (9:0012). -/
def stringCode (x : StringSt) : Nat := if x.fault then 3 else if x.rt < 1000000 then 2 else if x.code = 0 then 0 else 1

/-- A row of STRING_STATUS (9:0012). -/
def stringRow (s : State) (k : Nat) : Row :=
  let x := strOf s k
  [vN (x.code * 700 / 1023), v16 (x.current / 1000), v16 (x.volts / 100), .num x.pad, vN (x.rt * s.led.cap / 10 ^ 10),
   vN (stringCode x), vN (popCount x.faulty)]

/-- The computed objects of banks 4 and 5. -/
def calcRadio (s : State) (n r : Nat) : Option Row :=
  if n = 0x40000 then some [.bytes (fit 8 Config.eui64)]
  else if n = 0x40010 then some [vN (asn s)]
  else if n = 0x40012 then some [vN (s.mac.nodes.filter (fun p => p.2.joined != 0)).length]
  else if n = 0x40013 then some [vN (s.mac.nodes.filter (fun p => p.2.joined == 2)).length]
  else if n = 0x40014 then some [vN (s.mac.clusters.filter (fun p => p.2.servingAlt)).length]
  else if n = 0x400E0 then some (blankRow s r)
  else if n = 0x400E1 then some (ledgerRow (gateOf s (r / 64) (r % 64)) 17 (frame s) 1)
  else if n = 0x400E2 then some (ledgerRow (dutyOf s r) 45 (frame s / 64) 1000)
  else if n = 0x40104 then some [vB (radioPending s)]
  else if n = 0x40410 then some (clusterRow s r)
  else if n = 0x40510 then some (nodeRow s r)
  else if n = 0x40600 then some (joinRow s r)
  else if n = 0x50010 then some [vN (ticketsOpen s)]
  else if n = 0x50300 then some (ticketTableRow s r)
  else none

/-- The computed objects of bank 6. -/
def calcEpoch (s : State) (n r : Nat) : Option Row :=
  let e := s.epoch
  if n = 0x60010 then some [vN e.inForce]
  else if n = 0x60011 then some [vN e.state]
  else if n = 0x60012 then some [vN (if e.state = 0 then 0 else e.next)]
  else if n = 0x60013 then some [vN (if e.state = 2 ∨ e.state = 3 then e.switchAsn else 0)]
  else if n = 0x60014 then some [vN e.staged.length]
  else if n = 0x60015 then some [vN e.armed.length]
  else if n = 0x60016 then some [vN e.verified.length]
  else if n = 0x60017 then some [vN e.mismatched]
  else if n = 0x60018 then some [.bytes (nodeBits (if r = 0 then e.staged else if r = 1 then e.armed else e.verified))]
  else if n = 0x60020 then some [vB (contentPending s)]
  else if n = 0x60021 then some [.bytes (fit 8 e.hashInForce)]
  else if n = 0x60400 then some (imageRow s r)
  else if n = 0x60420 then some (progressRow s r)
  else if n = 0x60421 then some [vN (imageComplete s)]
  else none

/-- The computed objects of bank 7. -/
def calcTraffic (s : State) (n r : Nat) : Option Row :=
  if n = 0x70010 then some [vN (tracksActive s)]
  else if n = 0x7001B then some [vN (floorNodes s)]
  else if n = 0x70020 then some (trackRow s r)
  else if n = 0x70021 then some (zoneRow s r)
  else if n = 0x70110 then some (boundRow s r)
  else none

/-- The computed objects of bank 8. -/
def calcMeter (s : State) (n r : Nat) : Option Row :=
  if n = 0x80010 then some [vN (metState s)]
  else if n = 0x80016 then some [v32 (msBetween s.met.lastSave s.clk.fab)]
  else if n = 0x80020 then some (phaseRow s r)
  else if n = 0x80021 then some [milli (totalP s)]
  else if n = 0x80022 then some [milli (totalQ s)]
  else if n = 0x80023 then some [u32 (totalS s / 1000)]
  else if n = 0x80024 then some [inForm (-32768) 65536 (if totalS s = 0 then 0 else Int.tdiv (totalP s * 10000) (totalS s))]
  else if n = 0x80025 then some [u32 (liveNow s).freq]
  else if n = 0x80026 then some [u32 (liveNow s).ires]
  else if n = 0x80027 then some [u32 (liveNow s).isum]
  else if n = 0x80030 then some [vN (energyOf s r), v32 (energyOf s r), vN (energyOf s r / 4294967296 % 65536)]
  else if 0x80031 ≤ n ∧ n ≤ 0x80037 then some [v32 (energyOf s (n - 0x80031))]
  else if 0x80041 ≤ n ∧ n ≤ 0x80047 then some [vN (energyOf s (n - 0x80041) / 4294967296 % 65536)]
  else if 0x80051 ≤ n ∧ n ≤ 0x80057 then some [vN (energyOf s (n - 0x80051))]
  else none

/-- The computed objects of bank 9. -/
def calcLed (s : State) (n r : Nat) : Option Row :=
  if n = 0x90010 then some [vN (ledState s)]
  else if n = 0x90011 then some [v16 s.led.power]
  else if n = 0x90012 then some (stringRow s r)
  else if n = 0x90013 then
    let x := strOf s r
    some [vN x.faulty.toNat, vN x.opens.toNat, vN x.shorts.toNat, vN x.cross]
  else if n = 0x90016 then
    let e := engOf (servedBy s) s r
    some [vN e.state, vN e.pc, vN e.sig, vN e.own.toNat]
  else none

/-- The computed objects of banks 4 to 9. -/
def calcApp (s : State) (n r : Nat) : Option Row :=
  if n < 0x60000 then calcRadio s n r
  else if n < 0x70000 then calcEpoch s n r
  else if n < 0x80000 then calcTraffic s n r
  else if n < 0x90000 then calcMeter s n r
  else calcLed s n r

end Sys2Proof.Machine
end

