-- ==== Sys2Proof/Machine/TrunkSend.lean ====
section
/-!
DEFINITION. How this node's own frames leave on the trunk (R307, R311, R314, R315), and the datagrams of its Ibier service
(R66, R67, R71).
-/
namespace Sys2Proof.Machine

/-- Change a port. -/
def updPort (p : Nat) (f : Port → Port) (s : State) : State :=
  { s with trunk := { s.trunk with ports := lmod s.trunk.ports p f } }

/-- The node that acts as master, by the TOPO in force (R304, R316). -/
def masterId (s : State) : Nat := match s.trunk.topo with | some m => m.dateline | none => 0

/-- Whether this module is a commissioned node of a cascade (R309). -/
def commissioned (s : State) : Bool := modId s != 255 && getN s 0x30100 != 0

/-- Whether a link is one that BREAK has cut (R317). -/
def isCut (s : State) (a b : Nat) : Bool := s.trunk.cut.contains (a, b) || s.trunk.cut.contains (b, a)

/-- The position of a node among the entries of a TOPO. -/
def nodeIndex (m : TopoMsg) (id : Nat) : Option Nat := m.entries.findIdx? (fun e => e.1 == id)

/-- Whether the link from entry `i` to the next is in state 4 and not cut. -/
def hopUp (s : State) (m : TopoMsg) (i : Nat) : Bool :=
  let n := m.entries.length
  match m.entries[i % n]?, m.entries[(i + 1) % n]? with
  | some a, some b => a.2 && !isCut s a.1 b.1
  | _, _ => false

/-- Whether `k` hops from entry `i` are all up. -/
def pathUp (s : State) (m : TopoMsg) : Nat → Nat → Bool
  | _, 0 => true
  | i, k + 1 => hopUp s m i && pathUp s m (i + 1) k

/-- The egress port toward a node (R314): the shorter way over links in state 4, TB on a tie; none without a route. -/
def route (s : State) (dst : Nat) : Option Nat :=
  match s.trunk.topo with
  | none => none
  | some m =>
    match nodeIndex m (modId s), nodeIndex m dst with
    | some i, some j =>
      let n := m.entries.length
      let fwd := (j + n - i) % n
      let back := (i + n - j) % n
      let f := pathUp s m i fwd
      let b := pathUp s m j back
      if fwd = 0 then none
      else if f && b then (if back < fwd then some 0 else some 1)
      else if f then some 1
      else if b then some 0
      else none
    | _, _ => none

/-- Bytes of header, payload and TAG (R307, R315). -/
def frameBytes (payload : Nat) : Nat := payload + 36
/-- Units of 64 bytes of the whole frame, Ethernet header and FCS among them (R311). -/
def frameUnits (payload : Nat) : Nat := (frameBytes payload + 18 + 63) / 64

/-- Units in use of a class and VC on a port: sent less FREED, modulo 2^16 (R312). -/
def usedUnits (p : Port) (cls vc : Nat) : Nat :=
  (cN p.sent (2 * cls + vc) + 65536 - cN p.freed (2 * cls + vc)) % 65536

/-- Whether a port holds link credit for a frame (R311): VC0 leaves 48 units of the class buffer to VC1. -/
def linkCredit (p : Port) (cls vc units : Nat) : Bool :=
  let total := usedUnits p cls 0 + usedUnits p cls 1 + units
  decide (total ≤ cN p.grant cls) && (vc != 0 || decide (usedUnits p cls 0 + units + 48 ≤ cN p.grant cls))

/-- The index of a class in the destination books: U 0, N 1, S 2 (R315). -/
def dcls (cls : Nat) : Nat := if cls = 1 then 0 else if cls = 2 then 1 else 2

/-- The store bytes of a class (R315). -/
def storeBytes (k : Nat) : Nat := if k = 0 then 262144 else if k = 1 then 524288 else 65536

/-- The share of a source in this module's receive store (R315), by U, N, S. -/
def shareOf (s : State) (src k : Nat) : Nat :=
  let n := match s.trunk.topo with | some m => m.entries.length | none => 1
  let master := src == masterId s
  if k = 2 then (if master then storeBytes 2 else 0)
  else if master then storeBytes k / 4
  else max 2048 (storeBytes k * 3 / 4 / max 1 (n - 1))

/-- The destination credit held toward a node (R315): before any DCREDIT, the share of the smallest grant. -/
def destOf (s : State) (d : Nat) : DestCredit :=
  mgetD s.trunk.dests d { grant := [2048, 2048, 0], sent := [0, 0, 0], freed := [0, 0, 0], notes := [] }

/-- Whether this node holds destination credit for a frame of class U, N or S (R315); class C needs none. -/
def destCredit (s : State) (d cls bytes : Nat) : Bool :=
  if cls = 0 then true
  else
    let c := destOf s d
    let k := dcls cls
    decide (cN c.sent k - cN c.freed k + bytes ≤ cN c.grant k)

/-- Whether a message carries a NOTICE (R388). -/
def isNote (m : TMsg) : Bool :=
  match m with
  | .ibier _ d => match d.msg with | .notice _ _ _ _ _ _ _ _ => true | .reply _ _ _ _ _ _ => false | .completion _ _ _ _ _ _ => false
  | _ => false

/-- The NOTICE bytes of class N outstanding at a destination (R388). -/
def notesOut (c : DestCredit) : Nat := ((c.notes.filter (fun n => decide (cN c.freed 1 < n.1))).map (fun n => n.2)).sum

/-- Whether a NOTICE of class N stays within a quarter of the credit at the master (R388); any other message does. -/
def noteRoom (s : State) (d cls bytes : Nat) (m : TMsg) : Bool :=
  let c := destOf s d
  !(cls == 2 && d == masterId s && isNote m) || decide (4 * (notesOut c + bytes) ≤ cN c.grant 1)

/-- A NOTICE of class N is among the bytes sent (R388). -/
def noteSent (d cls bytes : Nat) (m : TMsg) (s : State) : State :=
  if cls = 2 && isNote m then
    let c := destOf s d
    let old := c.notes.filter (fun n => decide (cN c.freed 1 < n.1))
    { s with trunk := { s.trunk with dests := mset s.trunk.dests d { c with notes := old ++ [(cN c.sent 1, bytes)] } } }
  else s

/-- The header of a frame of this module's own (R307): HOPS 80, the low 8 bits of TGEN; FCNT comes as it leaves. -/
def ownFrame (s : State) (dst cls : Nat) (m : TMsg) : TrunkFrame :=
  { cls := cls, vc := 0, turned := false, mtype := m.mtype, dst := dst, src := modId s, hops := 80,
    tgen := s.trunk.tgen % 256, fcnt := 0, len := tmsgLen m, tagOk := true }

/-- A frame of this module's own that needs no credit (R312) leaves a port. -/
def sendFree (p dst cls : Nat) (m : TMsg) (s : State) : State := emit (.trunk p (ownFrame s dst cls m) m []) s

/-- A frame uses link credit (R311). -/
def useCredit (p cls vc units : Nat) (s : State) : State :=
  updPort p (fun x => { x with sent := lmod x.sent (2 * cls + vc) (fun n => (n + units) % 65536) }) s

/-- This node's message to every node leaves a port whose link is up, or waits there for link credit (R311, R316, R317). -/
def flood (p : Nat) (m : TMsg) (s : State) : State :=
  let q := portOf s p
  let u := frameUnits (tmsgLen m)
  if q.state < 3 then s
  else if q.flood.isEmpty && linkCredit q 0 0 u then sendFree p 255 0 m (useCredit p 0 0 u s)
  else updPort p (fun x => { x with flood := x.flood ++ [m] }) s

/-- Charge a frame to the destination's credit. -/
def chargeDest (d cls bytes : Nat) (s : State) : State :=
  if cls = 0 then s
  else
    let c := destOf s d
    let c := { c with sent := lmod c.sent (dcls cls) (· + bytes) }
    { s with trunk := { s.trunk with dests := mset s.trunk.dests d c } }

/-- Whether this node's own message can leave now, and by which port (R311, R315, R388). -/
def canSend (s : State) (dst cls : Nat) (m : TMsg) : Option Nat :=
  match route s dst with
  | none => none
  | some p =>
    if linkCredit (portOf s p) cls 0 (frameUnits (tmsgLen m)) && destCredit s dst cls (frameBytes (tmsgLen m))
        && noteRoom s dst cls (frameBytes (tmsgLen m)) m then some p
    else none

/-- The reply on the service stream to a message relayed in an IMAGE frame, once the frame has left (R463). NEXT is free:
the member's progress is not known here. -/
def imageLeft (m : TMsg) (s : State) : State :=
  match m with
  | .image styp h _ =>
    if h.assoc = 0 then s
    else emit (.stream h.assoc (streamWire (styp + 128) h 0
      (Config.memberNext h.target h.tid h.offset s.clk.fab % 4294967296))) s
  | _ => s

/-- This node's own message to a node leaves (R311, R315). -/
def sendNow (p dst cls : Nat) (m : TMsg) (s : State) : State :=
  imageLeft m <| sendFree p dst cls m (noteSent dst cls (frameBytes (tmsgLen m)) m
    (chargeDest dst cls (frameBytes (tmsgLen m)) (useCredit p cls 0 (frameUnits (tmsgLen m)) s)))

/-- Send this node's own message to a node (R314, R315): at once with both credits, else it waits in its virtual output
queue, where a waiting NOTICE keeps no other message back (R388); without a route it is dropped and counted. -/
def trunkSend (dst cls : Nat) (m : TMsg) (s : State) : State :=
  match route s dst with
  | none => cntUp 0x30014 s
  | some _ =>
    match canSend s dst cls m with
    | some p =>
      if s.trunk.voq.any (fun q => q.1 == dst && q.2.1 == cls && isNote q.2.2 == isNote m) then
        { s with trunk := { s.trunk with voq := s.trunk.voq ++ [(dst, cls, m)] } }
      else sendNow p dst cls m s
    | none => { s with trunk := { s.trunk with voq := s.trunk.voq ++ [(dst, cls, m)] } }

/-- A datagram of this module's Ibier service leaves on an association by the way its requests came (R66, R67, R71,
R321): by the service port, or in an IBIER frame. With no active lane nothing leaves (R280). -/
def sendIb (aid tclass : Nat) (m : IbMsg) (s : State) : State :=
  match mget s.ib.assocs aid, active s with
  | some a, some _ =>
    let d : Dgram := { module := modId s, tclass := tclass, recNo := a.recNo, msg := m }
    let s := { s with ib := { s.ib with assocs := mset s.ib.assocs aid { a with recNo := a.recNo + 1 } } }
    match a.entry with
    | .service => emit (.ibier aid d) s
    | .trunk => trunkSend a.via (if tclass = 1 then 1 else 2) (.ibier a.peer d) s
  | _, _ => s

/-- A reply leaves, part by part in index order (R75, R77). -/
def sendReply (aid tclass sid seq typ : Nat) (r : Reply) (s : State) : State :=
  r.body.parts.foldl (fun s p =>
    sendIb aid tclass (.reply sid seq typ p.1 r.body.count { r with body := .raw p.2 }) s) s

end Sys2Proof.Machine
end

