-- ==== Sys2Proof/Machine/Objects.lean ====
section
/-!
DEFINITION. Reading an object (R27, R34, R45), and what every step does after its own effect: notices on change (R82,
R83, R385). `done` closes every meaning.
-/
namespace Sys2Proof.Machine

/-- The columns of a row of lane counters (R45). -/
def laneCols (s : State) (n r : Nat) : Nat → List ColKind → Row
  | _, [] => []
  | i, _ :: cs => .num (cntRead s n r i) :: laneCols s n r (i + 1) cs

/-- The value of a row of an object, a scalar being row 0. -/
def readObj (s : State) (n r : Nat) : Row :=
  match calcSys s n r with
  | some x => x
  | none =>
    match calcApp s n r with
    | some x => x
    | none =>
      match findObj n with
      | none => []
      | some d => if d.src = .lane then laneCols s n r 0 d.cols else getRow s n r

/-- FIRST_ROW of a scalar (R72). -/
def noRow : Nat := 4294967295

/-- The row capacity of an object (0 for a scalar). -/
def capOfObj (n : Nat) : Nat := match findObj n with | some d => d.cap | none => 0

/-- The rows a subscription watches: all of a table for FFFF_FFFFh, else the one named; DESIGN CHOICE (log entry 61). -/
def subRows (b : Sub) : List Nat :=
  if b.row = noRow then (if capOfObj b.obj = 0 then [0] else List.range (capOfObj b.obj)) else [b.row]

/-- Whether a watched row changed in the sense of R82; for the sticky summary only a bit going from 0 to 1 (R385). -/
def rowChanged (s s' : State) (n r : Nat) : Bool :=
  if n = 0xB0100 then
    (s'.dict.sticky.extractLsb' (32 * r) 32 &&& ~~~(s.dict.sticky.extractLsb' (32 * r) 32)) != 0
  else readObj s n r != readObj s' n r

/-- The rows of a subscription's object that changed from `s` to `s'`. -/
def subChanged (s s' : State) (b : Sub) : List Nat := (subRows b).filter (rowChanged s s' b.obj)

/-- The lane counters of the Survey that no object shows (R89): notices sent, COMPLETION resends. -/
def kNoticesSent : Nat := 0xF0001
def kCompResends : Nat := 0xF0002

/-- A NOTICE leaves for a subscription (R83): the session's next NOTICE_SEQ. -/
def sendNotice (id : Nat) (b : Sub) (flags changes time obj : Nat) (body : Body) (urgent : Bool) (s : State) : State :=
  match mget s.ib.sessions b.sid with
  | none => s
  | some x =>
    let n := (x.noticeSeq + 1) % 4294967296
    let s := { s with ib := { s.ib with sessions := mset s.ib.sessions b.sid { x with noticeSeq := n } } }
    sendIb x.assoc (b2n urgent) (.notice b.sid n id flags (min changes 65535) time obj body) (cntUp kNoticesSent s)

/-- The columns of an object. -/
def colsOf (n : Nat) : List ColKind := match findObj n with | some d => d.cols | none => []

/-- The body and FLAGS of a NOTICE (R83): the scalar's tagged value, or up to 16 row frames of the rows named; more than 16
rows, or frames that exceed a message of 1,200 bytes (R72, DESIGN CHOICE of log entry 61), are OVERFLOW and carry none. -/
def noticeBody (s : State) (b : Sub) (rows : List Nat) : Body × Nat :=
  let cols := colsOf b.obj
  if capOfObj b.obj = 0 then (.raw (tagged cols (readObj s b.obj 0)), 0)
  else
    let f := rowFrames cols (rows.map (fun r => (r, readObj s b.obj r)))
    if 16 < rows.length ∨ 1168 < f.length then (.empty, 1) else (.raw f, 0)

/-- Send what a MODE 1 subscription has to say, and start its next interval (R82). -/
def flushSub (id : Nat) (s : State) : State :=
  match mget s.ib.subs id with
  | none => s
  | some b =>
    if b.changes = 0 then s
    else
      let (body, flags) := noticeBody s b b.dirty
      let s := sendNotice id b flags b.changes b.changedAt b.obj body false s
      { s with ib := { s.ib with subs := mmod s.ib.subs id (fun b =>
          { b with changes := 0, dirty := [], notBefore := s.clk.fab + b.interval * Config.msCycles }) } }

/-- One MODE 1 subscription after a step from `s` to `s'` (R82): changes are counted, and a NOTICE leaves at once when
its interval has passed. -/
def settleSub (s s' : State) (acc : State) (p : Nat × Sub) : State :=
  if p.2.mode = 1 ∧ (mget s.ib.subs p.1).isSome then
    let ch := subChanged s s' p.2
    if ch.isEmpty then acc
    else
      let acc := { acc with ib := { acc.ib with subs := mmod acc.ib.subs p.1 (fun b =>
        { b with changes := b.changes + 1, changedAt := time64 acc, dirty := ch.foldl (fun l r => insertNat r l) b.dirty }) } }
      match mget acc.ib.subs p.1 with
      | some b => if b.notBefore ≤ acc.clk.fab then flushSub p.1 acc else acc
      | none => acc
  else acc

/-- Notices on change after a step from `s` to `s'`. -/
def settle (s s' : State) : State :=
  if s'.ib.subs.any (fun p => p.2.mode == 1) then s'.ib.subs.foldl (settleSub s s') s' else s'

/-- The end of every meaning: the next state, with the notices it causes, of what the command changed and of what time alone
changed since the command before (R82). The queue and the FAB count stand as the command found them: no command touches
the one, and only its own instant moves the other (log entries 1 and 2). -/
def done (s s' : State) : Host.Outcome State Fault Refusal :=
  let r := settle { s with clk := { s.clk with fab := s.clk.prev } } s'
  .next { r with pending := s.pending, clk := { r.clk with fab := s.clk.fab, prev := s.clk.prev } }

end Sys2Proof.Machine
end

