-- ==== Sys2Proof/Machine/Requests.lean ====
section
/-!
DEFINITION. How a request is taken (R64, R69, R72, R76), checked (R43, R46 to R52, R68, R73, R507) and answered (R74,
R78): what every Ibier command shares.
-/
namespace Sys2Proof.Machine

/-- Status codes (R78). -/
def stDup : Nat := 0x01
def stStale : Nat := 0x10
def stNoObject : Nat := 0x11
def stType : Nat := 0x12
def stRange : Nat := 0x13
def stDenied : Nat := 0x14
def stReadOnly : Nat := 0x15
def stLocked : Nat := 0x20
def stOrder : Nat := 0x21
def stLeaseLost : Nat := 0x22
def stNotInSeq : Nat := 0x23
def stAdmitFull : Nat := 0x30
def stAdmitLink : Nat := 0x31
def stAdmitClass : Nat := 0x32
def stEpochBusy : Nat := 0x33
def stVault : Nat := 0x40
def stLifecycle : Nat := 0x41
def stLaneSync : Nat := 0x50
def stInternal : Nat := 0x7F

/-- An OK reply. -/
def rOk (body : Body) : Reply := { status := 0, first := 0, applyAsn := 0, ticket := 0, obj := 0, body }
/-- A refusal with its body (R78). -/
def rErr (st : Nat) (body : Bytes) : Reply := { status := st, first := st, applyAsn := 0, ticket := 0, obj := 0, body := .raw body }
/-- A TYPE refusal with the expected tag (R35). -/
def rType (tag : Nat) : Reply := rErr stType (be 1 tag)
/-- A RANGE refusal with object and row (R507). -/
def rRange (obj row : Nat) : Reply := rErr stRange (be 4 obj ++ be 4 row)
/-- A LIFECYCLE refusal with the current state. -/
def rLife (s : State) : Reply := rErr stLifecycle (be 1 (lcCode s.life.state))
/-- A VAULT refusal with its cause. -/
def rVault (cause : Nat) : Reply := rErr stVault (be 1 cause)

/-- What executing a request answers: the state after, and the reply, or none where it comes later. -/
abbrev Answer := State × Option Reply

/-- A refusal leaves the state alone (R43). -/
def refuse (r : Reply) (s : State) : Answer := (s, some r)

/-- The ROLE of the lane that is not active (R78, LANE_SYNC body). -/
def otherRole (s : State) : Nat :=
  match active s with
  | some l => roleCode (s.lanes.get (otherLane l)).role
  | none => 0

/-- LANE_SYNC with its body. -/
def rLaneSync (s : State) : Reply := rErr stLaneSync (be 1 (otherRole s))

/-- Whether `a` is higher than `b` in serial arithmetic modulo 2^32 (R76). -/
def seqHigher (a b : Nat) : Bool :=
  let d := (a + 4294967296 - b % 4294967296) % 4294967296
  decide (0 < d ∧ d < 2147483648)

/-- How far `a` lies below `h` modulo 2^32. -/
def seqBelow (h a : Nat) : Nat := (h + 4294967296 - a % 4294967296) % 4294967296

/-- A sequence breaks (R57, R58): shadows and groups gone, sticky, log, count, record; its session remembers the cause. -/
def breakSeq (hd cause : Nat) (s : State) : State :=
  match mget s.ib.seqs hd with
  | none => s
  | some q =>
    if q.commit.isSome then s
    else
      let mask := packBits ((List.range 32).map (fun g => q.groups.contains g))
      let n := q.shadows.length + q.restores.length
      let s := { s with ib := { s.ib with
        seqs := mdel s.ib.seqs hd
        sessions := mmod s.ib.sessions q.sid (fun x => { x with broken := (hd, cause) :: x.broken }) } }
      let s := stickySet 0 (q.groups.headD 0) s
      let s := logPush 0x00230 16 [vN (time64 s), vN mask, vN q.sid, .bytes (fit 16 q.client), vN hd, vN cause, v16 n] s
      let s := ropUp 0x00231 1 s
      record 0x0010 4 (q.groups.headD 0) (be 4 q.sid ++ be 2 hd ++ be 1 cause ++ be 1 q.groups.length) s

/-- Break every open sequence (R354: cause 4). -/
def breakAllSeqs (cause : Nat) (s : State) : State :=
  (s.ib.seqs.map (fun p => p.1)).foldl (fun s h => breakSeq h cause s) s

/-- Every authenticated datagram renews the idle time of its session (R70). -/
def touchSession (sid : Nat) (s : State) : State :=
  { s with ib := { s.ib with sessions := mmod s.ib.sessions sid (fun x =>
      { x with last := time64 s, lastFab := s.clk.fab }) } }

/-- What the HANDLE of a request names (R50, R58): nothing, the session's own open sequence, or an error for step 6. -/
inductive Named
  | plain
  | own (h : Nat) (q : Sequence)
  | bad (r : Reply)

/-- LOCKED with holder and remaining lease (R47, R78). -/
def rLocked (s : State) (q : Sequence) : Reply := rErr stLocked (be 4 q.sid ++ be 2 (leaseLeft s q))

/-- Resolve a HANDLE for a session. -/
def named (sid : Nat) (x : Session) (hd : Nat) (s : State) : Named :=
  if hd = 0 then .plain
  else match mget s.ib.seqs hd with
    | some q =>
      if q.sid != sid then .bad (rErr stNotInSeq [])
      else if q.commit.isSome then .bad (rLocked s q)
      else .own hd q
    | none =>
      match x.broken.find? (fun b => b.1 == hd) with
      | some b => .bad (rErr stLeaseLost (be 1 b.2))
      | none => .bad (rErr stNotInSeq [])

/-- Every request that names the handle renews its lease (R52). -/
def renewLease (sid hd : Nat) (s : State) : State :=
  { s with ib := { s.ib with seqs := mmod s.ib.seqs hd (fun q =>
      if q.sid = sid then { q with leaseEnd := s.clk.fab + q.leaseLen * Config.secCycles } else q) } }

/-- A relay header that is dropped (R66, R67): a bad version, TCLASS or reserved byte, or a MODULE that is not this
module's. -/
def relayBad (s : State) (h : Hdr) : Bool :=
  h.rhVersion != 1 || decide (1 < h.tclass) || h.rhReserved != 0 || h.rhModule != modId s

/-- The header faults of R72 and R73 that are refused with TYPE, for a request of TYPE `typ`: a TYPE not defined, FLAGS, a LENGTH
that is not the message's, DCLASS, DEADLINE, OBJECT, ROW_COUNT and the reserved field. -/
def headerBad (typ : Nat) (nodeBound : Bool) (h : Hdr) : Bool :=
  h.typ != typ || h.flags != 0 || h.reserved != 0 || decide (1048576 ≤ h.obj) || decide (h.length < 32) || h.length != h.size
    || decide (4 < h.dclass) || (h.dclass == 0 && h.deadline != 0) || (h.rowCount != 0 && typ != 1)
    || (!nodeBound && h.dclass != 0)

/-- The 64 replies of the window (R76). -/
def pruneCache (hi : Nat) (c : List (Nat × Option Reply)) : List (Nat × Option Reply) :=
  c.filter (fun p => decide (seqBelow hi p.1 ≤ 63))

/-- The cached reply is sent again (R76, R77): DUPLICATE with the first status; STALE when its snapshot buffer has been
reused; nothing while the reply is still to come. -/
def duplicate (sid lowest : Nat) (h : Hdr) (c : Option Reply) (s : State) : State :=
  match c with
  | none => s
  | some r =>
    match r.body with
    | .survey n _ p =>
      if s.ib.snaps.any (fun b => b.seq == n) then
        sendReply h.assoc h.tclass sid h.seq h.typ { r with status := stDup, first := r.status, body := .survey n h.resend p } s
      else sendReply h.assoc h.tclass sid h.seq h.typ { (rErr stStale (be 4 lowest)) with obj := r.obj } s
    | _ => sendReply h.assoc h.tclass sid h.seq h.typ { r with status := stDup, first := r.status } s

/-- The reply of an executed request enters the cache (R76). -/
def cacheReply (sid seq : Nat) (r : Option Reply) (s : State) : State :=
  { s with ib := { s.ib with sessions := mmod s.ib.sessions sid (fun x => { x with cache := (seq, r) :: x.cache }) } }

/-- Store and send the reply of an executed request; it echoes OBJECT (R74). -/
def answer (sid : Nat) (h : Hdr) (a : Answer) : State :=
  let r := a.2.map (fun r => { r with obj := h.obj })
  let s := cacheReply sid h.seq r a.1
  match r with
  | some r => sendReply h.assoc h.tclass sid h.seq h.typ r s
  | none => s

/-- A reply to an EXEC that was still to come is sent, and kept in the cache (R76). -/
def lateReply (sid seq obj : Nat) (r : Reply) (s : State) : State :=
  let r := { r with obj := obj }
  let s := { s with ib := { s.ib with sessions := mmod s.ib.sessions sid (fun x =>
    { x with cache := x.cache.map (fun p => if p.1 = seq then (seq, some r) else p) }) } }
  match mget s.ib.sessions sid with
  | some x => sendReply x.assoc 0 sid seq 3 r s
  | none => s

/-- A request is executed, unless a module fault strikes (R78, R79): INTERNAL before it took effect; with the outcome uncertain
nothing is replied and the active lane restarts, and the verdict is the standby's. -/
def execute (sid : Nat) (h : Hdr) (op : State → Answer) (s : State) : State :=
  match h.strike, active s with
  | .before code, _ => answer sid h (s, some (rErr stInternal (be 2 code)))
  | .uncertain, some l =>
    if (standby s).isSome then
      let a := op s
      condemn l .lockstep (cacheReply sid h.seq (a.2.map (fun r => { r with obj := h.obj })) a.1)
    else restartLane l s
  | _, _ => answer sid h (op s)

/-- A refusal of a request that belongs to no session of its association (R69, R78). -/
def refusal (h : Hdr) (r : Reply) (s : State) : State :=
  sendReply h.assoc h.tclass h.sid h.seq h.typ { r with obj := h.obj } s

/-- A request on an association (R66, R69, R72, R76): dropped, refused, answered from the cache, or executed by `op`. Every one
that names the session's sequence renews its lease (R52). -/
def request (typ : Nat) (nodeBound : Bool) (h : Hdr) (op : Nat → Session → State → Answer) (s : State) : State :=
  if 1200 < h.size || relayBad s h then cntUp 0x00012 s
  else match mget s.ib.assocs h.assoc with
  | none => cntUp 0x00012 s
  | some a =>
    match a.session with
    | none => refusal h (rErr stDenied (be 1 0)) s
    | some sid =>
      let s := touchSession sid s
      match mget s.ib.sessions sid with
      | none => s
      | some x =>
        if h.sid != sid then refusal h (rErr stDenied (be 1 0)) s
        else
          let s := renewLease sid h.handle s
          let run (hi : Nat) : State :=
            let s := { s with ib := { s.ib with sessions := mmod s.ib.sessions sid (fun x =>
              { x with hi := some hi, cache := pruneCache hi x.cache }) } }
            if headerBad typ nodeBound h then answer sid h (s, some (rType 0)) else execute sid h (op sid x) s
          match x.hi with
          | none => run h.seq
          | some hi =>
            let lowest := (hi + 4294967296 - 63) % 4294967296
            if seqHigher h.seq hi then run h.seq
            else if seqBelow hi h.seq ≤ 63 then
              match x.cache.find? (fun p => p.1 == h.seq) with
              | some p => duplicate sid lowest h p.2 s
              | none => run hi
            else refusal h (rErr stStale (be 4 lowest)) s

/-- The kinds of access of R43 step 2. -/
inductive OpKind | read | write | clear | exec
  deriving DecidableEq, Repr

/-- What the life-cycle state allows (R42, R354, R355). -/
def lifeAllows (st : Lc) (k : OpKind) (obj : Nat) : Bool :=
  match k with
  | .read => st != .blank && st != .scrapped
  | k =>
    match st with
    | .blank => false
    | .scrapped => false
    | .owned => if k = .exec then obj != 0x10300 && obj != 0x10301 else true
    | .stock => if k = .exec then obj == 0x10300 || obj == 0x10160 else obj == 0x10100
    | .tampered =>
      if k = .exec then obj == 0x10301 || obj == 0x10302 || obj == 0x10303 || obj == 0x10160
      else k == .clear || obj == 0x10140
    | .returned => k == .exec && obj == 0x10303

/-- Arguments against their columns (R35): TYPE with the first missing or mismatching tag, 00h for a surplus. -/
def argType : List ColKind → List TVal → Option Reply
  | [], [] => none
  | [], _ :: _ => some (rType 0)
  | c :: _, [] => some (rType c.tag)
  | c :: cs, a :: as => if a.tag = c.tag && c.shapeOk a.val then argType cs as else some (rType c.tag)

/-- The first argument out of range (R507), from position `i`. -/
def argRange (obj : Nat) : Nat → List ColKind → List TVal → Option Reply
  | i, c :: cs, a :: as => if c.inRange a.val then argRange obj (i + 1) cs as else some (rRange obj i)
  | _, _, _ => none

/-- Argument `i` as a number. -/
def argN (args : List TVal) (i : Nat) : Nat := match args[i]? with | some a => a.val.toNat | none => 0
/-- Argument `i` as bytes. -/
def argB (args : List TVal) (i : Nat) : Bytes := match args[i]? with | some a => a.val.toBytes | none => []

/-- Step 6 of R43 for a lock group (R47, R50): `write` where a plain request to the session's own held group is LOCKED. -/
def lockCheck (sid : Nat) (n : Named) (g : Nat) (write : Bool) (s : State) : Option Reply :=
  match n with
  | .bad r => some r
  | .own h _ =>
    match holder s g with
    | some (h', q) => if h' = h then none else some (rLocked s q)
    | none => some (rErr stNotInSeq [])
  | .plain =>
    match holder s g with
    | some (_, q) => if q.sid != sid || write || q.commit.isSome then some (rLocked s q) else none
    | none => none

/-- TCLASS of a request without a deadline class (R68). The body is R122's: detail 3, ticket room 0. -/
def rAdmitClass : Reply := rErr stAdmitClass (be 1 3 ++ be 4 0)

/-- The ladder of R43 down to the access kind for an EXEC that names another object than the command's: where it names an
object that is no command, TYPE (R35, R36). -/
def execOther (h : Hdr) (x : Session) (s : State) : Reply :=
  match findObj h.obj with
  | none => rErr stNoObject []
  | some d =>
    if !(if d.cap = 0 then h.firstRow == noRow else decide (h.firstRow < d.cap)) then rErr stNoObject []
    else if !lifeAllows s.life.state .exec h.obj then rLife s
    else if x.level < d.wlevel then rErr stDenied (be 1 d.wlevel)
    else rType 0

/-- The ladder of R43 for an EXEC of a command object; the first failing check's refusal. -/
def execCheck (obj : Nat) (cols : List ColKind) (nodeBound : Bool) (h : Hdr) (args : List TVal) (sid : Nat) (x : Session)
    (s : State) : Option Reply :=
  if h.obj ≠ obj then some (execOther h x s)
  else match findObj obj with
  | none => some (rErr stNoObject [])
  | some d =>
    if h.firstRow != noRow then some (rErr stNoObject [])
    else if !lifeAllows s.life.state .exec obj then some (rLife s)
    else if x.level < d.wlevel then some (rErr stDenied (be 1 d.wlevel))
    else match argType cols args with
    | some r => some r
    | none =>
      let n := named sid x h.handle s
      let lock := match d.group with
        | some g => lockCheck sid n g false s
        | none => match n with | .bad r => some r | _ => none
      match lock with
      | some r => some r
      | none =>
        match argRange obj 0 cols args with
        | some r => some r
        | none => if !nodeBound && h.tclass != 0 then some rAdmitClass else none

/-- An EXEC of a command object with no deadline class: the checks, then its effect. -/
def execCmd (obj : Nat) (cols : List ColKind) (h : Hdr) (args : List TVal)
    (eff : Nat → Session → State → Answer) (s : State) : State :=
  request 3 false h (fun sid x s =>
    match execCheck obj cols false h args sid x s with
    | some r => refuse r s
    | none => eff sid x s) s

/-- An OK answer with no body. -/
def okEmpty (s : State) : Answer := (s, some (rOk .empty))
/-- An OK answer with tagged values (R30, R35). -/
def okVals (cols : List ColKind) (l : List Val) (s : State) : Answer := (s, some (rOk (.raw (tagged cols l))))
/-- An OK answer that carries an apply ASN (R54). -/
def okAsn (a : Nat) (s : State) : Answer := (s, some { (rOk .empty) with applyAsn := a })

end Sys2Proof.Machine
end

