-- ==== Sys2Proof/Machine/AdmOps.lean ====
section
/-!
DEFINITION. The admission engine's shared operations (chapter 4): target descriptors, classes, the cost of a command,
placement, tickets, the completion notice.
-/
namespace Sys2Proof.Machine

/-- Change admission's state. -/
def updAdm (f : Admission → Admission) (s : State) : State := { s with adm := f s.adm }

/-- A target descriptor (R96). -/
structure Desc where
  kind : Nat
  group : Nat
  nodes : List Nat
  deriving DecidableEq, Repr

/-- The columns of a target descriptor (R96), as KIND and COUNT of the given values make them. -/
def descCols (args : List TVal) : List ColKind :=
  let k := argN args 0
  [.enum [0, 1, 2],
   if k = 1 then .int 3 0 4095 else .int 3 65535 65535,
   if k = 2 then .int 3 1 256 else .int 3 0 0] ++ (if k = 2 then [.octets (2 * argN args 2)] else [])

/-- The numbers of two bytes each that bytes spell. -/
def pairsBe : Bytes → List Nat
  | a :: b :: r => (a.toNat * 256 + b.toNat) :: pairsBe r
  | _ => []

/-- The descriptor that arguments spell. -/
def descOf (args : List TVal) : Desc :=
  { kind := argN args 0, group := argN args 1, nodes := if argN args 0 = 2 then pairsBe (argB args 3) else [] }
/-- The position of the first argument after the descriptor. -/
def descLen (args : List TVal) : Nat := if argN args 0 = 2 then 4 else 3
/-- A node above 8191, or named twice (R96). -/
def nodesBad : List Nat → Bool
  | [] => false
  | n :: r => decide (8191 < n) || r.contains n || nodesBad r

/-- What a node-bound command carries: what its frames hold (R157, R175), and WHICH of an EPOCH_STAGE. -/
structure Load where
  job : Job
  frame : CmdFrame
  deriving DecidableEq, Repr

/-- Who submits (R119): 0 Ibier, 1 policy A2, 2 policy A3; client, session and REQ_SEQ of an Ibier request. -/
structure Submitter where
  who : Nat
  client : Bytes
  sid : Nat
  reqSeq : Nat
  deriving DecidableEq, Repr

/-- The minimum deadline of a class in ms (R94). -/
def classMin (c : Nat) : Nat := if c = 1 then 250 else if c = 2 then 2000 else if c = 3 then 30000 else 600000
/-- The longest deadline (R94). -/
def maxDeadline : Nat := 3600000

/-- ADMIT_CLASS (R97). -/
def classBad (reason limit : Nat) : Option Reply := some (rErr stAdmitClass (be 1 reason ++ be 4 limit))
/-- Step 1 of R108, in the order of R97; `tclass` is the relay class of an Ibier request. -/
def classCheck (c : Nat) (tclass : Option Nat) (deadline : Nat) (job : Job) (d : Desc) : Option Reply :=
  let wrong := match job with
    | .cmd => c == 4
    | .stage _ => c == 1 || c == 4
    | .block _ _ => c != 4
  if c = 0 then classBad 1 0
  else if wrong then classBad 2 0
  else if tclass.isSome && tclass != some (if c = 1 then 1 else 0) then classBad 3 0
  else if deadline < classMin c then classBad 4 (classMin c)
  else if maxDeadline < deadline then classBad 5 maxDeadline
  else if c = 1 ∧ d.kind = 2 ∧ 64 < d.nodes.length then classBad 6 64
  else none

/-- EPOCH_BUSY (R189). -/
def rEpochBusy (reason count : Nat) (s : State) : Reply :=
  rErr stEpochBusy (be 1 reason ++ be 1 s.epoch.state ++ be 2 (if s.epoch.state = 0 then s.epoch.inForce else s.epoch.next)
    ++ be 2 count)
/-- Step 3 of R108 (R181, R189). -/
def epochCheck (s : State) (job : Job) : Option Reply :=
  match job with
  | .stage e => if e != s.epoch.inForce && s.epoch.state != 1 && s.epoch.state != 2 then some (rEpochBusy 3 0 s) else none
  | _ => none

/-- A node stands in the module's directory. -/
def inDirectory (s : State) (n : Nat) : Bool := (mget s.dict.store (okey 0x40500 n)).isSome && dirRow s n != defRow s 0x40500 n
/-- The groups of a node. -/
def groupsOf (s : State) (n : Nat) : List Nat := (List.range 4).map (fun i => getC s 0x60110 n i)
/-- The resolved targets of a descriptor, rising (R96). -/
def resolve (s : State) (d : Desc) : List Nat :=
  if d.kind = 0 then (storedRows s 0x40500).filter (inDirectory s)
  else if d.kind = 1 then (storedRows s 0x60110).filter (fun n => (groupsOf s n).contains d.group)
  else d.nodes.foldl (fun l n => insertNat n l) []

/-- Why a node is unplaceable (R100), as the residue of R120 names it: 1 LOST, 2 SHOCKED, 5 not in the directory,
6 REBUILDING. -/
def unplaceable (s : State) (n : Nat) : Option Nat :=
  let x := nodeOf s n
  if !inDirectory s n then some 5
  else if x.joined = 2 then some 1
  else if x.shock.isSome then some 2
  else if rebuilding x then some 6
  else none
/-- The ADMIT_LINK reason of R109 for an unplaceable node. -/
def linkReason (r : Nat) : Nat := if r = 1 then 1 else if r = 2 then 2 else if r = 5 then 3 else 0

/-- Whether a target holds all that a command brings when it is admitted (R178). -/
def alreadyHolds (s : State) (job : Job) (c n : Nat) : Bool :=
  match job with
  | .cmd => false
  | .stage e => (nodeUnits s e c n).all (fun u => (heldBy s n).contains (ucode e u.1 u.2))
  | .block image index => holdsBlock s n image index

/-- A target as the decision finds it (R98 to R100). A node of the directory with no cluster has no link, and p_lcb 0 (DESIGN
CHOICE, log entry 61). -/
def targetOf (s : State) (job : Job) (n : Nat) : Target :=
  let p := if (dirCluster s n).isNone then 0 else plcb (nodeOf s n)
  let c := (dirCluster s n).getD 0
  let out := unplaceable s n
  { node := n, cluster := c, member := dirMember s n, k := (budget p).getD 0, plcb := p,
    acked := out.isNone && alreadyHolds s job c n, run := 0, shocked := false, excluded := out.isSome, out := out, got := [], hit := 0 }

/-- Step 4 of R108: the targets that fail, with reason and p_lcb (R109). -/
def linkFails (d : Desc) (ts : List Target) : List (Nat × Nat × Nat) :=
  ts.filterMap (fun t =>
    match t.out with
    | some r => if d.kind = 2 then some (t.node, linkReason r, if r = 1 ∨ r = 5 then 0 else t.plcb) else none
    | none => if t.k = 0 then some (t.node, 0, t.plcb) else none)
/-- ADMIT_LINK with its body (R109). -/
def rAdmitLink (f : List (Nat × Nat × Nat)) : Reply :=
  let l := f.take 256
  rErr stAdmitLink (be 2 f.length ++ be 2 l.length ++ (l.map (fun x => be 2 (x.1 + 8192 * x.2.1) ++ be 2 x.2.2)).flatten)

/-- The longest run that both paths of a cluster can place (R126, R131). -/
def pathRun (s : State) (c : Nat) : Nat := min (maxRun s (pathX s c false)) (maxRun s (pathX s c true))

/-- The clusters of the targets that are placeable and still lack what the command brings, rising. -/
def touched (ts : List Target) : List Nat :=
  (ts.filter (fun t => t.out.isNone && !t.acked)).foldl (fun l t => insertNat t.cluster l) []

/-- The units that a cluster's targets lack (R178, R181), as codes, rising. -/
def lackedUnits (s : State) (e c : Nat) (ts : List Target) : List Nat :=
  (ts.filter (fun t => t.cluster == c && t.out.isNone && !t.acked)).foldl (fun l t =>
    (nodeUnits s e c t.node).foldl (fun l u =>
      let k := ucode e u.1 u.2
      if (heldBy s t.node).contains k then l else insertNat k l) l) []

/-- The frames of one attempt on a cluster: lengths and fragments; none where a frame fits no run (R126, R176). -/
def attemptFrames (s : State) (ld : Load) (c : Nat) (ts : List Target) : Option (List (Nat × Option Seg)) :=
  let m := cMode s c
  match ld.job with
  | .cmd =>
    let len := macOver m + 22 + ld.frame.args.length
    (runLen m len (pathRun s c)).map (fun _ => [(len, none)])
  | .stage e =>
    (lackedUnits s e c ts).foldl (fun a k =>
      match a, unitSegs m (pathRun s c) 2 (k / 65536) (k % 65536) (unitLen s e (k / 65536 % 65536) (k % 65536)) with
      | some l, some g => some (l ++ g.map (fun x => (x.len + 52, some x)))
      | _, _ => none) (some [])
  | .block image index => (unitSegs m (pathRun s c) 1 image index 1024).map (fun g => g.map (fun x => (x.len + 52, some x)))

/-- The value check of R126: the lowest target cluster whose runs cannot hold a frame of the command. It comes before
placeability (R108), so a cluster counts whose targets are all unplaceable. -/
def tooLong (s : State) (ld : Load) (ts : List Target) : Option Nat :=
  let ts := (ts.filter (fun t => (dirCluster s t.node).isSome)).map (fun t => { t with out := none })
  (touched ts).find? (fun c => (attemptFrames s ld c ts).isNone)

/-- The attempts a cluster needs (R101). -/
def clusterK (c : Nat) (ts : List Target) : Nat :=
  (ts.filter (fun t => t.cluster == c && t.out.isNone && !t.acked)).foldl (fun m t => max m t.k) 0
/-- All attempts of a command. -/
def neededAll (ts : List Target) : Nat := ((touched ts).map (fun c => clusterK c ts)).sum

/-- The transceiver side of attempt `j`, 0 the first (R102): primary and alternate in turn; all on the primary where the
alternate is out of service. Where the primary is out, all on the alternate (DESIGN CHOICE, log entry 61: the rule speaks of the
alternate only). -/
def attemptAlt (s : State) (c j : Nat) : Bool :=
  if !inService s (pathX s c true) then false
  else if !inService s (pathX s c false) then true
  else j % 2 == 1

/-- Positions of a transceiver that bookings of some kind hold in a superframe (R103, R104, R106). -/
def bookedIn (s : State) (x sf : Nat) (p : Booking → Bool) : Nat :=
  ((s.adm.bookings.filter (fun b => b.xcvr == x && b.asn / 256 == sf && p b)).map (fun b => b.len)).sum

/-- The caps of R103 to R106 for one more run of `n` positions; `share` says whether POLICY_SHARE counts. -/
def capsOk (s : State) (x sf n cls : Nat) (policy urgent share : Bool) : Bool :=
  if urgent then
    let most := if policy then getN s 0x50111 else 35 - getN s 0x50111
    decide (bookedIn s x sf (fun b => b.urgent && b.policy == policy) + n ≤ most)
  else if cls = 1 then true
  else
    let nbi (b : Booking) : Bool := b.dclass != 1
    decide (bookedIn s x sf nbi + n ≤ bookable s x)
      && (cls == 2 || decide (bookedIn s x sf (fun b => b.dclass == 3 || b.dclass == 4) + n ≤ min (getN s 0x50101) (nonUrgent s x)))
      && (cls != 4 || decide (bookedIn s x sf (fun b => b.dclass == 4) + n ≤ min (getN s 0x50102) (nonUrgent s x)))
      && (!policy || !share
        || decide (bookedIn s x sf (fun b => nbi b && b.policy) + n ≤ getN s 0x50112 * bookable s x / 100))

/-- What an attempt's frame asks of a position: class, submitter, cluster, path, length in positions, on-air time, the
deadline instant. -/
structure Ask where
  cls : Nat
  policy : Bool
  share : Bool
  cluster : Nat
  alt : Bool
  len : Nat
  dur : Nat
  deadline : Nat
  deriving DecidableEq, Repr

/-- Whether the positions from `a` on can hold a frame, and as what (R107). -/
def eligible (s : State) (q : Ask) (a : Nat) (urgent : Bool) : Option Nat :=
  let x := pathX s q.cluster q.alt
  if !inService s x then none
  else if !runFree s x a q.len urgent || beforeRun s x a q.len then none
  else if !capsOk s x (a / 256) q.len q.cls q.policy urgent q.share then none
  else
    match chanOf s q.cluster q.alt a with
    | none => none
    | some ch => if gateRoom s x ch (a / 256) q.dur then some ch else none

/-- The earliest eligible position from `a` on, within `fuel` positions and the deadline (R107): position, channel, urgent. A class U frame of one position takes an urgent
position; from Ibier it takes a non-urgent run as well (R106). -/
def placeFrom (s : State) (q : Ask) : Nat → Nat → Option (Nat × Nat × Bool)
  | 0, _ => none
  | fuel + 1, a =>
    if q.deadline < fabOfAsn s (a + q.len + 4) then none
    else
      let u := if q.cls = 1 ∧ (q.len = 1 ∨ isQ s (pathX s q.cluster q.alt)) then eligible s q a true else none
      match u with
      | some ch => some (a, ch, true)
      | none =>
        let n := if q.cls = 1 ∧ q.policy then none else eligible s q a false
        match n with
        | some ch => some (a, ch, false)
        | none => placeFrom s q fuel (a + 1)

/-- Positions in the admission horizon (R94). -/
def horizon : Nat := 720008

/-- Book a frame. -/
def book (b : Booking) (s : State) : State :=
  gateReserve b.xcvr b.chan (b.asn / 256) b.dur (updAdm (fun m => { m with bookings := m.bookings ++ [b] }) s)

/-- Place the frames of one attempt from `a` on; the end of the last. -/
def placeFrames (tk cls deadline : Nat) (policy share : Bool) (c j a : Nat) (alt : Bool) :
    List (Nat × Option Seg) → Nat → Option Nat → State → Option (State × Nat × Nat)
  | [], last, first, s => some (s, first.getD a, last)
  | (len, seg) :: r, last, first, s =>
    let x := pathX s c alt
    match runLen (cMode s c) len (pathRun s c) with
    | none => none
    | some n =>
      let q : Ask := { cls, policy, share, cluster := c, alt, len := n, dur := airTime (cMode s c) len, deadline }
      match placeFrom s q horizon a with
      | none => none
      | some (p, ch, u) =>
        let b : Booking := { ticket := tk, cluster := c, attempt := j, xcvr := x, asn := p, len := n, chan := ch,
                             dur := q.dur, dclass := cls, policy, urgent := u, seg,
                             sent := false }
        placeFrames tk cls deadline policy share c j a alt r (max last (p + n))
          (some (min p (first.getD p))) (book b s)

/-- Place `k` attempts of a cluster from attempt `j` on (R102); those placed, and whether all were. -/
def placeAttempts (tk cls deadline : Nat) (policy share : Bool) (c : Nat) (fr : List (Nat × Option Seg)) :
    Nat → Nat → Nat → Nat → State → State × Nat × Nat × Bool
  | 0, _, _, e, s => (s, 0, e, true)
  | k + 1, j, a, e, s =>
    match placeFrames tk cls deadline policy share c j a (attemptAlt s c j) fr 0 none s with
    | none => (s, 0, e, false)
    | some (s', st, en) =>
      let (s2, n, e2, ok) := placeAttempts tk cls deadline policy share c fr k (j + 1) (max (st + 4) (en + 1)) (max e en) s'
      (s2, n + 1, e2, ok)

/-- The first position whose start is at least 2 ms after now (R107). -/
def firstPlace (s : State) : Nat :=
  (slotAt s.clk s.clk.fab + 2 * Config.msCycles + Config.slotCycles - 1) / Config.slotCycles

/-- Place a command (R101, R107): the state with its bookings, attempts placed, the end of the last, all placed. -/
def placeAll (tk cls deadline : Nat) (policy share : Bool) (ld : Load) (ts : List Target) (s0 : State) :
    State × Nat × Nat × Bool :=
  (touched ts).foldl (fun acc c =>
    let (s, n, e, ok) := acc
    let fr := (attemptFrames s0 ld c ts).getD []
    let (s2, m, e2, ok2) := placeAttempts tk cls deadline policy share c fr (clusterK c ts) 0 (firstPlace s0) e s
    (s2, n + m, e2, ok && ok2)) (s0, 0, 0, true)

/-- The first free row of the ticket table, else the oldest completed row past its 7,200 s (R113). -/
def freeRow : Nat → NMap Ticket → Nat
  | i, [] => i
  | i, (k, _) :: r => if k = i then freeRow (i + 1) r else i
/-- The row a new ticket takes. -/
def ticketRow (s : State) : Option Nat :=
  let openN := (s.adm.tickets.filter (fun p => p.2.state == 1)).length
  if 4096 ≤ openN then none
  else
    let i := freeRow 0 s.adm.tickets
    if i < 65536 then some i
    else
      let old := s.adm.tickets.filter (fun p => p.2.state == 2 && decide (p.2.deadline + 7200 * Config.secCycles ≤ s.clk.fab))
      match old with
      | [] => none
      | p :: r => some (r.foldl (fun b x => if x.2.deadline < b.2.deadline then x else b) p).1

/-- A refusal of admission is counted (R122), by class and reason for the Survey (R90). -/
def kRefused : Nat := 0xF0010
def countRefusal (n cls : Nat) (s : State) : State := cntUp n (cntUpAt kRefused cls 0 1 s)

/-- ADMIT_FULL with its body (R110). -/
def rAdmitFull (reason earliest needed placed : Nat) : Reply :=
  rErr stAdmitFull (be 1 reason ++ be 4 earliest ++ be 4 needed ++ be 4 placed)

/-- The smallest DEADLINE at which a placement would have been admitted (R110). -/
def earliestMs (s : State) (cls : Nat) (policy : Bool) (ld : Load) (ts : List Target) : Nat :=
  let (_, _, e, ok) := placeAll 0 cls (s.clk.fab + maxDeadline * Config.msCycles) policy true ld ts s
  if !ok then 4294967295
  else max (classMin cls) ((fabOfAsn s (e + 4) - s.clk.fab + Config.msCycles - 1) / Config.msCycles)

/-- The promise ticket of a count of ADMIT_COUNT (R111). -/
def ticketNo (count : Nat) : Nat := 1 + (Config.ticketPerm (Fin.ofNat 4294967295 (count - 1))).val

/-- The copies of a group command (R105): one for each touched cluster's primary transceiver. -/
def copiesOf (s : State) (cls admSeq tk deadline : Nat) (d : Desc) (ld : Load) (ts : List Target) : List GroupCopy :=
  if getB s 0x50120 && d.kind != 2 && (cls == 1 || cls == 2) && ld.job == .cmd && decide (ld.frame.args.length ≤ 47) then
    ((touched ts).foldl (fun l c => insertNat (pathX s c false) l) []).map
      (fun x => { xcvr := x, ticket := tk, dclass := cls, admSeq, deadline })
  else []

/-- Give each touched cluster its cluster frame sequence (R157). -/
def takeCfs : List Nat → State → State × List (Nat × Nat)
  | [], s => (s, [])
  | c :: r, s =>
    let n := ((clOf s c).cfs + 1) % 65536
    let (s2, l) := takeCfs r (updCl c (fun x => { x with cfs := n }) s)
    (s2, (c, n) :: l)

/-- The admission decision (R108, after the checks of R43): the ticket, or the refusal. -/
def decideAdmission (obj cls : Nat) (tclass : Option Nat) (deadline : Nat) (who : Submitter) (d : Desc) (ld : Load)
    (s : State) : State × (Reply ⊕ Nat) :=
  let policy := who.who != 0
  match classCheck cls tclass deadline ld.job d with
  | some r => (countRefusal 0x50014 cls s, .inl r)
  | none =>
    if (active s).isNone then (s, .inl (rLaneSync s))
    else match epochCheck s ld.job with
    | some r => (s, .inl r)
    | none =>
      let ts := (resolve s d).map (targetOf s ld.job)
      let fails := linkFails d ts
      if !fails.isEmpty then (countRefusal 0x50013 cls s, .inl (rAdmitLink fails))
      else match ticketRow s with
      | none =>
        let dl := s.clk.fab + deadline * Config.msCycles
        let n := (placeAll 0 cls dl policy true ld ts s).2.1
        (countRefusal 0x50012 cls s, .inl (rAdmitFull 2 4294967295 (neededAll ts) n))
      | some row =>
        let count := getN s 0x50020 + 1
        let tk := ticketNo count
        let dl := s.clk.fab + deadline * Config.msCycles
        let (s2, n, _, ok) := placeAll tk cls dl policy true ld ts s
        if !ok then
          let only := policy && (cls == 1 || (placeAll tk cls dl policy false ld ts s).2.2.2)
          (countRefusal 0x50012 cls s,
            .inl (rAdmitFull (if only then 3 else 1) (earliestMs s cls policy ld ts) (neededAll ts) n))
        else
          let (s3, cfs) := takeCfs (touched ts) s2
          let admSeq := count % 4294967296
          let t : Ticket :=
            { id := tk, state := 1, dclass := cls, obj := obj, client := who.client, sid := who.sid, reqSeq := who.reqSeq,
              submitter := who.who, kind := d.kind, group := d.group, admitted := time64 s, deadlineTime := timeOf s dl,
              deadline := dl, deadlineAsn := (slotAt s.clk dl + Config.slotCycles - 1) / Config.slotCycles,
              admSeq := admSeq, frame := ld.frame, job := ld.job, begun := [], targets := ts, booked := n, sent := 0,
              released := 0, shockedN := 0, fShock := false, fPath := false, fExcl := ts.any (fun x => x.excluded),
              fSwitch := false, fRestart := false, cfs := cfs }
          let s4 := updAdm (fun m => { m with tickets := mset m.tickets row t }) (ropUp 0x50020 1 (cntUp 0x50011 s3))
          let cp := copiesOf s cls admSeq tk dl d ld ts
          (journal (.ticket tk) (updMac (fun m => { m with copies := m.copies ++ cp }) s4), .inr tk)

/-- The completion notice (R119, R120), as it stands. -/
def noticeOf (t : Ticket) : Bytes :=
  let r := residue t
  let n := r.length
  let body : Bytes :=
    if n = 0 then []
    else if n ≤ 512 then (r.map (fun x => be 2 (x.1 + 8192 * x.2))).flatten
    else (List.range 1024).map (fun i => BitVec.ofNat 8 (packBits ((List.range 8).map (fun k =>
      r.any (fun x => x.1 == 8 * i + (7 - k))))))
  be 4 t.id ++ be 1 t.dclass ++ be 1 (if n = 0 then 0 else 1) ++ be 1 (if n = 0 then 0 else if n ≤ 512 then 1 else 2)
    ++ be 1 (ticketFlags t) ++ be 4 t.obj ++ be 1 t.kind ++ be 1 t.submitter ++ be 2 t.group ++ be 2 t.targets.length
    ++ be 2 (t.targets.length - n) ++ be 2 n ++ be 2 (t.targets.filter (fun x => x.excluded)).length ++ be 8 t.admitted
    ++ be 8 t.deadlineTime ++ be 8 t.deadlineAsn ++ be 2 t.booked ++ be 2 t.sent ++ be 2 t.released ++ be 2 t.shockedN
    ++ be 8 0 ++ body

/-- The session that holds a client ID. -/
def clientSession (s : State) (client : Bytes) : Option Nat := (s.ib.sessions.find? (fun p => p.2.client == client)).map (fun p => p.1)

/-- A pending COMPLETION is sent to the session that holds its client ID (R84, R85). -/
def sendComp (key : Nat) (s : State) : State :=
  match mget s.ib.comps key with
  | none => s
  | some c =>
    match clientSession s c.client with
    | none => s
    | some sid =>
      let c2 : Completion := { c with firstSent := some (c.firstSent.getD s.clk.fab) }
      let s := { s with ib := { s.ib with comps := mset s.ib.comps key c2 } }
      match mget s.ib.sessions sid with
      | some x => sendIb x.assoc (if c.urgent then 1 else 0) (.completion sid c.compSeq c.ticket c.reqSeq c.origSid c.notice) s
      | none => s

/-- COMP_SEQ of the next COMPLETION of a client ID, from 1 (R84). -/
def nextCompSeq (client : Bytes) (s : State) : State × Nat :=
  match s.ib.compSeqs.find? (fun p => p.1 == client) with
  | some p =>
    let n := (p.2 + 1) % 4294967296
    ({ s with ib := { s.ib with compSeqs := s.ib.compSeqs.map (fun q => if q.1 == client then (q.1, n) else q) } }, n)
  | none => ({ s with ib := { s.ib with compSeqs := s.ib.compSeqs ++ [(client, 1)] } }, 1)

/-- The completion notice goes to the submitting client (R84). -/
def complete (t : Ticket) (s : State) : State :=
  let (s, n) := nextCompSeq t.client s
  let key := s.ib.compNext
  let c : Completion :=
    { client := t.client, compSeq := n, ticket := t.id, reqSeq := t.reqSeq, origSid := t.sid, urgent := t.dclass == 1,
      notice := noticeOf t, created := s.clk.fab, firstSent := none, resends := 0 }
  sendComp key { s with ib := { s.ib with comps := mset s.ib.comps key c, compNext := key + 1 } }

/-- Change the ticket of an ID. -/
def updTicket (tk : Nat) (f : Ticket → Ticket) (s : State) : State :=
  updAdm (fun m => { m with tickets := m.tickets.map (fun p => if p.2.id = tk then (p.1, f p.2) else p) }) s

/-- The ticket of an ID. -/
def ticketOf (s : State) (tk : Nat) : Option Ticket := (s.adm.tickets.find? (fun p => p.2.id == tk)).map (fun p => p.2)

/-- The Survey's counts of completions (R90): clean, with residue. -/
def kDoneClean : Nat := 0xF0003
def kDoneResidue : Nat := 0xF0004

/-- A ticket completes (R105, R118): notice, totals, copies still unsent. -/
def completeTicket (tk : Nat) (s : State) : State :=
  match ticketOf s tk with
  | none => s
  | some t =>
    if t.state ≠ 1 then s
    else
      let n := (residue t).length
      let s := updTicket tk (fun x => { x with state := 2 }) s
      let s := ropUp 0x50022 n (ropUp 0x50021 (t.targets.length - n) s)
      let s := cntUp (if n = 0 then kDoneClean else kDoneResidue) s
      let lost := (s.mac.copies.filter (fun c => c.ticket == tk)).length
      let s := cntUpAt 0x50018 0 0 lost (updMac (fun m => { m with copies := m.copies.filter (fun c => c.ticket != tk) }) s)
      let s := journalErase (fun e => e == .ticket tk) s
      if t.submitter = 0 then complete t s
      else
        let put (l : Lane) (s : State) : State :=
          if consumes l s then
            updHalf l (if t.submitter = 2 then .A3 else .A2) (fun h => { h with pending := h.pending ++ [noticeOf t] }) s
          else s
        put .B (put .A s)

/-- The reply of an admitted command. -/
def rTicket (tk : Nat) : Reply := { (rOk .empty) with ticket := tk }

/-- A node-bound EXEC from Ibier (R96, R108): the checks of R43, those of the descriptor and the command's own values
(`vals`), the frame capacity of R126, then admission. -/
def execNode (obj : Nat) (extra : List ColKind) (h : Hdr) (args : List TVal) (vals : State → Nat → Option Reply)
    (load : State → Load) (s : State) : State :=
  request 3 true h (fun sid x s =>
    match execCheck obj (descCols args ++ extra) true h args sid x s with
    | some r => refuse r s
    | none =>
      let d := descOf args
      if nodesBad d.nodes then refuse (rRange obj 3) s
      else match vals s (descLen args) with
      | some r => refuse r s
      | none =>
        let ld := load s
        match tooLong s ld ((resolve s d).map (targetOf s ld.job)) with
        | some c => refuse (rRange obj c) s
        | none =>
          let s := icuRaise 73 s
          match decideAdmission obj h.dclass (some h.tclass) h.deadline { who := 0, client := x.client, sid, reqSeq := h.seq } d ld s with
          | (s, .inl r) => refuse r (icuRaise 86 s)
          | (s, .inr tk) => (icuRaise 86 s, some (rTicket tk))) s

end Sys2Proof.Machine
end

