-- ==== Sys2Proof/Machine/Admission.lean ====
section
/-!
DEFINITION. The commands of admission (chapter 4): completion, the policy port and its functions (R118, R121, R226), and
the node-bound commands LIGHT_SET, LIGHT_RESUME and NODE_FUNC (R196).
-/
namespace Sys2Proof.Machine

/-- DEADLINE_INSTANT (R118): at the ticket's deadline instant its completion notice is formed and leaves. -/
def execDeadlineInstant (t ticket : Nat) (s : State) : Host.Outcome State Fault Refusal :=
  let s := tick t s
  done s (match ticketOf s ticket with
    | some k => if k.deadline ≤ s.clk.fab ∧ (active s).isSome then completeTicket ticket s else s
    | none => s)

/-- A node-bound command: its arguments after the descriptor, its own value checks, what it carries. -/
structure NodeCmd where
  extra : List ColKind
  vals : List TVal → State → Nat → Option Reply
  load : List TVal → State → Load

/-- A COMMAND frame's load. -/
def cmdLoad (endpoints func : Nat) (args : Bytes) : Load := { job := .cmd, frame := { endpoints, func, args } }
/-- A load of SEGMENT frames. -/
def segLoad (j : Job) : Load := { job := j, frame := { endpoints := 0, func := 0, args := [] } }

/-- LIGHT_SET (R195, R173): channels 1 to 15, else RANGE; SET_LEVEL on the endpoints of those channels. -/
def cmdLightSet : NodeCmd :=
  { extra := [cU8, .int 2 0 100, cU8, cU16]
    vals := fun a _ i => if argN a i = 0 ∨ 15 < argN a i then some (rRange 0x60200 i) else none
    load := fun a _ =>
      let i := descLen a
      cmdLoad (2 * argN a i) 1 (le 1 (argN a (i + 1)) ++ le 1 (argN a (i + 2)) ++ le 2 (argN a (i + 3))) }

/-- LIGHT_RESUME (R195, R173). -/
def cmdLightResume : NodeCmd :=
  { extra := [cU8]
    vals := fun a _ i => if argN a i = 0 ∨ 15 < argN a i then some (rRange 0x60201 i) else none
    load := fun a _ => cmdLoad (2 * argN a (descLen a)) 2 [] }

/-- The four functions that only the module sends, and the reserved bit 7 (R173, R174). -/
def funcBarred (endpoints func : Nat) : Bool :=
  decide (128 ≤ func) || (bitOf endpoints 0 && (func == 0x21 || func == 0x22 || func == 0x23))
    || (decide (endpoints / 2 % 16 ≠ 0) && func == 3)

/-- NODE_FUNC (R195, R174). -/
def cmdNodeFunc : NodeCmd :=
  { extra := [cU16, cU8, .octetsVar 0 233]
    vals := fun a _ i => if funcBarred (argN a i) (argN a (i + 1)) then some (rRange 0x60202 (i + 1)) else none
    load := fun a _ => let i := descLen a; cmdLoad (argN a i) (argN a (i + 1)) (argB a (i + 2)) }

/-- EPOCH_STAGE (R181): WHICH 0 names the open epoch, 1 the one in force. -/
def cmdEpochStage : NodeCmd :=
  { extra := [cU8]
    vals := fun a _ i => if 1 < argN a i then some (rRange 0x60301 i) else none
    load := fun a s => segLoad (.stage (
      if argN a (descLen a) = 1 then s.epoch.inForce
      else if s.epoch.state = 1 ∨ s.epoch.state = 2 then s.epoch.next
      else (s.epoch.inForce + 1) % 65536)) }

/-- IMAGE_BLOCK (R193): the image must be READY and the block within it. -/
def cmdImageBlock : NodeCmd :=
  { extra := [cU32, cU16]
    vals := fun a s i =>
      if !s.epoch.store.any (fun x => x.id == argN a i && x.state == 2) then some (rRange 0x60410 i)
      else if imageBlocks s (argN a i) ≤ argN a (i + 1) then some (rRange 0x60410 (i + 1))
      else none
    load := fun a _ => let i := descLen a; segLoad (.block (argN a i) (argN a (i + 1))) }

/-- The node-bound commands (R96, R196). -/
def nodeCmd (obj : Nat) : Option NodeCmd :=
  if obj = 0x60200 then some cmdLightSet
  else if obj = 0x60201 then some cmdLightResume
  else if obj = 0x60202 then some cmdNodeFunc
  else if obj = 0x60301 then some cmdEpochStage
  else if obj = 0x60410 then some cmdImageBlock
  else none

/-- A node-bound EXEC of one of them. -/
def execNodeCmd (obj : Nat) (c : NodeCmd) (h : Hdr) (args : List TVal) (s : State) : State :=
  execNode obj c.extra h args (c.vals args) (c.load args) s

/-- LIGHT_SET (R196). -/
def execLightSet (t : Nat) (h : Hdr) (args : List TVal) (s : State) : Host.Outcome State Fault Refusal :=
  let s := tick t s
  done s (execNodeCmd 0x60200 cmdLightSet h args s)

/-- LIGHT_RESUME (R196). -/
def execLightResume (t : Nat) (h : Hdr) (args : List TVal) (s : State) : Host.Outcome State Fault Refusal :=
  let s := tick t s
  done s (execNodeCmd 0x60201 cmdLightResume h args s)

/-- NODE_FUNC (R196). -/
def execNodeFunc (t : Nat) (h : Hdr) (args : List TVal) (s : State) : Host.Outcome State Fault Refusal :=
  let s := tick t s
  done s (execNodeCmd 0x60202 cmdNodeFunc h args s)

/-- A value of a type tag from its bytes (R30). -/
def valOf (c : ColKind) (b : Bytes) : Val :=
  match c with
  | .octets _ => .bytes b
  | .octetsVar _ _ => .bytes (b.drop 2)
  | .text _ => .bytes (b.drop 1)
  | c =>
    let n := ofBe b
    let signed := c.tag == 6 || c.tag == 7 || c.tag == 8 || c.tag == 9
    if signed && decide (2 ^ (8 * b.length) ≤ 2 * n) then .num ((n : Int) - (2 : Int) ^ (8 * b.length)) else .num n

/-- The bytes a column's value takes in an argument block (R30). -/
def valSize (c : ColKind) (b : Bytes) : Nat :=
  match c with
  | .octets n => n
  | .octetsVar _ _ => 2 + ofBe (b.take 2)
  | .text _ => 1 + ofBe (b.take 1)
  | c => tagSize c.tag

/-- The tagged values of an argument block (R35), read against the columns a command expects: a value with another tag,
or one left over, stands as it is for the TYPE check. -/
def decodeArgs : List ColKind → Bytes → List TVal
  | _, [] => []
  | [], g :: _ => [{ tag := g.toNat, val := .num 0 }]
  | c :: cs, g :: r =>
    if g.toNat = c.tag then
      let n := valSize c r
      if r.length < n then [] else { tag := c.tag, val := valOf c (r.take n) } :: decodeArgs cs (r.drop n)
    else [{ tag := g.toNat, val := .num 0 }]

/-- The result of a submission (R121): SUB_RESULT, SUB_TICKET, SUB_EARLIEST, SUB_FAILING, and the refusal body in ARG. -/
def portResult (r : Reply ⊕ Nat) (h : PortHalf) : PortHalf :=
  match r with
  | .inr tk => { h with busy := false, done := true, detail := 0, status := 0, ticket := tk }
  | .inl r =>
    let b := match r.body with | .raw b => b | _ => []
    let adm := r.status == stAdmitClass || r.status == stAdmitFull
    { h with
      busy := false, done := true, ticket := 0, status := r.status
      detail := if adm then ofBe (b.take 1) else 0
      earliest := if r.status = stAdmitFull then ofBe ((b.drop 1).take 4) else h.earliest
      failing := if r.status = stAdmitLink then ofBe (b.take 2) else h.failing
      arg := if adm || r.status == stAdmitLink then fit 1024 (b ++ h.arg.drop b.length) else h.arg }

/-- SELECT_CLASS (R222, R226): DENIED where the zone does not let policy choose, RANGE outside ALLOWED; the selection
applies at the first superframe boundary at least 20 ms on. -/
def selectClass (zone cls hold : Nat) (s : State) : State × (Reply ⊕ Nat) :=
  let cfg := getRow s 0x70120 zone
  if rNat cfg 6 = 0 then (s, .inl (rErr stDenied []))
  else if !(classVals.contains cls || cls == 255) || hold = 0 || decide (86400 < hold) then (s, .inl (rRange 0x70380 1))
  else if cls ≠ 255 ∧ !bitOf (rNat cfg 1) cls then (s, .inl (rRange 0x70380 1))
  else
    let until_ := s.clk.fab + hold * Config.secCycles
    let z := zoneOf s zone
    let z := { z with policy := if cls = 255 then none else some (cls, until_, timeOf s until_)
                      policyChange := some (boundaryAfter s (20 * Config.msCycles)) }
    ({ s with trk := { s.trk with zones := mset s.trk.zones zone z } }, .inr 0)

/-- HIST_COPY (R226): RANGE, or the copy that begins. -/
def histBad (kind first rows dest : Nat) : Bool :=
  let cap := if kind = 0 then 57344 else 16384
  let size := rows * (if kind = 0 then 192 else 128)
  decide (1 < kind ∨ rows = 0 ∨ 512 < rows ∨ cap < first + rows ∨ dest % 64 ≠ 0 ∨ dest < 0xA0000000 ∨ 0xB0000000 < dest + size)

/-- A lane's copy of a policy core begins or ends. -/
def setCopy (l : Lane) (c : Core) (j : Option HistJob) (s : State) : State :=
  updLane l (fun x => { x with copies := if c = .A3 then { x.copies with b := j } else { x.copies with a := j } }) s

/-- The copy under way for a policy core of a lane. -/
def copyOf (l : Lane) (s : State) (c : Core) : Option HistJob :=
  if c = .A3 then (s.lanes.get l).copies.b else (s.lanes.get l).copies.a

/-- A submission of a lane's policy core: what the module decides, and the copy that the lane itself begins when it is OK. -/
structure Submission where
  decide : State → State × (Reply ⊕ Nat)
  copy : Option HistJob

/-- The submission SELECT_CLASS (R226). -/
def subSelect (zone cls hold : Nat) : Submission := { decide := selectClass zone cls hold, copy := none }

/-- The submission HIST_COPY (R226). -/
def subCopy (kind first rows dest : Nat) : Submission :=
  { decide := fun s => (s, if histBad kind first rows dest then .inl (rRange 0x70381 0) else .inr 0)
    copy := some { kind, first, rows, dest } }

/-- A submission that is refused. -/
def subRefuse (r : Reply) : Submission := { decide := fun s => (s, .inl r), copy := none }

/-- A submission with DCLASS 0 names a policy function (R226). -/
def policyFunction (h : PortHalf) : Submission :=
  let b := h.arg.take (min h.len 1024)
  if h.obj = 0x70380 then
    let cols : List ColKind := [cU8, .enum (classVals ++ [255]), .int 4 1 86400]
    let a := decodeArgs cols b
    match argType cols a with
    | some r => subRefuse r
    | none => subSelect (argN a 0) (argN a 1) (argN a 2)
  else if h.obj = 0x70381 then
    let cols : List ColKind := [cU8, cU32, cU16, cU32]
    let a := decodeArgs cols b
    match argType cols a with
    | some r => subRefuse r
    | none => subCopy (argN a 0) (argN a 1) (argN a 2) (argN a 3)
  else subRefuse (rType 0)

/-- A node-bound submission of policy (R106, R108, R121). A DCLASS above 4 is no class of R94: TYPE, as in a request's header
(R72; DESIGN CHOICE, log entry 61). -/
def nodeSubmission (c : Core) (h : PortHalf) (s : State) : State × (Reply ⊕ Nat) :=
  if 4 < h.dclass then (s, .inl (rType 0))
  else match nodeCmd h.obj with
    | none => (s, .inl (if (findObj h.obj).isSome then rType 0 else rErr stNoObject []))
    | some k =>
      if !lifeAllows s.life.state .exec h.obj then (s, .inl (rLife s))
      else
        let b := h.arg.take (min h.len 1024)
        let cols := descCols (decodeArgs [.enum [0, 1, 2], cU16, cU16] b) ++ k.extra
        let a := decodeArgs cols b
        let d := descOf a
        match argType cols a with
        | some r => (s, .inl r)
        | none =>
          match argRange h.obj 0 cols a with
          | some r => (s, .inl r)
          | none =>
            if nodesBad d.nodes then (s, .inl (rRange h.obj 3))
            else match k.vals a s (descLen a) with
            | some r => (s, .inl r)
            | none =>
              let ld := k.load a s
              match tooLong s ld ((resolve s d).map (targetOf s ld.job)) with
              | some x => (s, .inl (rRange h.obj x))
              | none =>
                decideAdmission h.obj h.dclass none h.deadline
                  { who := if c = .A3 then 2 else 1, client := noClient, sid := 0, reqSeq := 0 } d ld (icuRaise 73 s)

/-- A policy core's submission: what its half of the port holds (R121), or a policy function of its own (R226). -/
def submissionOf (c : Core) (h : PortHalf) (q : PolicyAsk) : Submission :=
  match q with
  | .port => if h.dclass = 0 then policyFunction h else { decide := nodeSubmission c h, copy := none }
  | .select z k hold => if 255 < z then subRefuse (rRange 0x70380 0) else subSelect z k hold
  | .copy k f n d => subCopy k f n d

/-- A verdict is written into a half (R121, R226); a copy that has begun stays BUSY. -/
def takeVerdict (l : Lane) (c : Core) (copy : Option HistJob) (r : Reply ⊕ Nat) (s : State) : State :=
  match r, copy with
  | .inr _, some j => updHalf l c (fun h => { h with busy := true }) (setCopy l c (some j) s)
  | r, _ => updHalf l c (portResult r) s

/-- The oldest verdict kept for a policy core of a lane, and the rest. -/
def owedTo (c : Core) : List (Core × (Reply ⊕ Nat)) → Option ((Reply ⊕ Nat) × List (Core × (Reply ⊕ Nat)))
  | [] => none
  | p :: r => if p.1 = c then some (p.2, r) else (owedTo c r).map (fun x => (x.1, p :: x.2))

/-- The standby's half of a decision of the active lane (R16): its waiting submission takes the verdict, or the verdict is kept
until its core makes the same submission. -/
def mirrorVerdict (l : Lane) (c : Core) (r : Reply ⊕ Nat) (s : State) : State :=
  let h := halfOf l s c
  match h.want with
  | some q => takeVerdict l c (submissionOf c h q).copy r (updHalf l c (fun h => { h with want := none }) s)
  | none => updLane l (fun x => { x with owed := x.owed ++ [(c, r)] }) s

/-- A lane's submission is decided (R26, R108), unless the half is BUSY. The active lane's is, for both lanes; the standby makes
the same submission in the same order, so its half takes the active lane's verdict and waits BUSY where that has still to come
(DEDUCED from R16, log entry 61); a lane in another role is refused with LANE_SYNC. -/
def submit (l : Lane) (c : Core) (q : PolicyAsk) (s : State) : State :=
  let x := s.lanes.get l
  let h := halfOf l s c
  let b := submissionOf c h q
  if !isPolicy c || h.busy then s
  else if x.role = .active then
    let a := b.decide s
    let s := takeVerdict l c b.copy a.2 a.1
    match standby s with
    | some o => mirrorVerdict o c a.2 s
    | none => s
  else if x.role = .standby then
    match owedTo c x.owed with
    | some (r, rest) => takeVerdict l c b.copy r (updLane l (fun x => { x with owed := rest }) s)
    | none => updHalf l c (fun h => { h with busy := true, want := some q }) s
  else updHalf l c (portResult (.inl (rLaneSync s))) s

/-- A lane that has become active decides the submissions its cores had made before the former active lane (R16). -/
def resumeGo (l : Lane) (c : Core) (s : State) : State :=
  match (halfOf l s c).want with
  | some q => submit l c q (updHalf l c (fun h => { h with busy := false, want := none }) s)
  | none => s

/-- Both policy cores' waiting submissions of a lane that has become active. -/
def resumeGoes (l : Lane) (s : State) : State :=
  resumeGo l .A3 (resumeGo l .A2 (updLane l (fun x => { x with owed := [] }) s))

/-- SUB_GO (R121). -/
def execSubGo (t : Nat) (p : LaneCore) (s : State) : Host.Outcome State Fault Refusal :=
  let s := tick t s
  done s (submit p.lane p.core .port s)

/-- Write bytes into a lane's memory. -/
def putMem (l : Lane) (addr : Nat) (b : Bytes) (s : State) : State :=
  let w (m : List Host.Cell) : List Host.Cell := (b.zipIdx).foldl (fun m p => memWrite m (addr + p.2) p.1) m
  updLane l (fun x => { x with mem := w x.mem }) s

/-- A write of POP (R121): the oldest pending notice is written to COMP_BUF, or BADBUF is set. -/
def compPop (l : Lane) (core : Core) (s : State) : State :=
  let h := halfOf l s core
  let n := (h.pending.headD []).length
  if !isPolicy core then s
  else if h.compBuf % 64 ≠ 0 ∨ h.compBuf < 0xA0000000 ∨ 0xB0000000 < h.compBuf + max n 1 then
    updHalf l core (fun h => { h with badbuf := true }) s
  else
    match h.pending with
    | [] => updHalf l core (fun h => { h with badbuf := false }) s
    | b :: r =>
      updHalf l core (fun h => { h with badbuf := false, ready := true, compLen := b.length, pending := r })
        (putMem l h.compBuf b s)

/-- COMP_POP (R121). -/
def execCompPop (t : Nat) (p : LaneCore) (s : State) : Host.Outcome State Fault Refusal :=
  let s := tick t s
  done s (compPop p.lane p.core s)

/-- SELECT_CLASS (R226), as a submission of its own. -/
def execSelectClass (t : Nat) (p : LaneCore) (zone cls hold : Nat) (s : State) : Host.Outcome State Fault Refusal :=
  let s := tick t s
  done s (submit p.lane p.core (.select zone cls hold) s)

/-- HIST_COPY (R226), as a submission of its own. -/
def execHistCopy (t : Nat) (p : LaneCore) (kind first rows dest : Nat) (s : State) : Host.Outcome State Fault Refusal :=
  let s := tick t s
  done s (submit p.lane p.core (.copy kind first rows dest) s)

/-- HIST_COPY_DONE (R226): the rows stand at the destination, DONE is set. -/
def execHistCopyDone (t : Nat) (p : LaneCore) (s : State) : Host.Outcome State Fault Refusal :=
  let s := tick t s
  done s (match copyOf p.lane s p.core with
    | some j =>
      if !isPolicy p.core then s
      else
        let n := if j.kind = 0 then 192 else 128
        let obj := if j.kind = 0 then 0x70200 else 0x70202
        let b := ((List.range j.rows).map (fun i => fit n (rOct (getRow s obj (j.first + i)) 0))).flatten
        updHalf p.lane p.core (portResult (.inr 0)) (setCopy p.lane p.core none (putMem p.lane j.dest b s))
    | none => s)

end Sys2Proof.Machine
end

