-- ==== Sys2Proof/Machine/AirWire.lean ====
section
/-!
DEFINITION. The bytes of what goes on the air (R140, R149, R152 to R157, R175, R186, R211): payloads, sealed frames, answer
codes. Fields are little-endian (R9). What IEEE 802.15.4 fixes (the places of the frame control bits, the nonce, the FCS) is
PRESUMED (log entry 62).
-/
namespace Sys2Proof.Machine

/-- A trajectory payload (R211). -/
def trajBytes (f : TrajFrame) (base : Int) : Bytes :=
  le 2 (f.track % 4096 + f.cls % 4 * 4096 + b2n f.ending * 16384) ++ le 1 f.tseq
    ++ le 1 (f.entries.length + 32 * f.branch) ++ leI 2 base ++ le 2 f.speed ++ le 1 f.dunit ++ le 1 f.level ++ le 1 f.lead
    ++ le 1 f.trail ++ le 1 f.rampch ++ (f.entries.map (fun e => le 2 (e.1 + 8192 * e.2))).flatten

/-- A broadcast payload (R155, R186, R211); the layout of a join part is a free value (log entry 63). -/
def Payload.bytes : Payload → Bytes
  | .none => []
  | .traj f base => trajBytes f base
  | .copy admSeq kind group expiry endpoints func args =>
    le 4 admSeq ++ le 1 kind ++ le 2 group ++ le 3 expiry ++ le 2 endpoints ++ le 1 func ++ le 1 args.length ++ args
  | .epoch state next switchAsn hash flags imageId =>
    le 1 state ++ le 2 next ++ le 5 switchAsn ++ fit 8 hash ++ le 1 flags ++ le 4 imageId
  | .join ptype part key content => fit 61 (Config.joinPart ptype part key content)

/-- PTYPE (R155). -/
def Payload.ptype : Payload → Nat
  | .none => 0
  | .traj _ _ => 1
  | .copy _ _ _ _ _ _ _ => 2
  | .epoch _ _ _ _ _ _ => 3
  | .join p _ _ _ => p

/-- What a CONTEXT holds of a cluster's row (R157): AIR_MODE to UP_POS. -/
def contextRow (row : Row) : Bytes :=
  le 1 (rNat row 1) ++ le 1 (rNat row 2) ++ le 1 (rNat row 3) ++ le 1 (rNat row 4) ++ le 1 (rNat row 5)
    ++ le 4 (rNat row 7) ++ le 4 (rNat row 6) ++ le 2 (rNat row 8) ++ fit 4 (rOct row 9)

/-- The Cydel payload of a frame (R155, R157, R175); an answer code has none. -/
def Air.bytes : Air → Bytes
  | .beacon flags asn module xcvr taiS subsec utc epoch blankCur blankNext urgOwn p =>
    le 1 1 ++ le 1 flags ++ le 5 asn ++ le 1 module ++ le 1 xcvr ++ le 5 taiS ++ le 2 subsec ++ leI 2 utc ++ le 2 epoch
      ++ le 8 blankCur.toNat ++ le 8 blankNext.toNat ++ (urgOwn.map (le 1)).flatten ++ le 1 p.ptype ++ p.bytes
  | .command cluster cevent cfs expiry admSeq targets endpoints func args alt =>
    le 1 2 ++ le 1 (b2n alt) ++ le 1 cluster ++ le 2 cevent ++ le 2 cfs ++ le 3 expiry ++ le 4 admSeq ++ le 4 targets
      ++ le 2 endpoints ++ le 1 func ++ le 1 args.length ++ args
  | .segment cluster cevent cfs expiry admSeq targets kind objId index frag data alt =>
    le 1 6 ++ le 1 (b2n alt) ++ le 1 cluster ++ le 2 cevent ++ le 2 cfs ++ le 3 expiry ++ le 4 admSeq ++ le 4 targets
      ++ le 1 kind ++ le 4 objId ++ le 2 index ++ le 1 frag ++ data
  | .echo cluster cevent seq alt => le 1 3 ++ le 1 (b2n alt) ++ le 1 cluster ++ le 2 cevent ++ le 1 seq
  | .context cluster cevent row alt => le 1 5 ++ le 1 (b2n alt) ++ le 1 cluster ++ le 4 cevent ++ contextRow row
  | .answer _ _ _ => []

/-- Frame Control of every secured frame (R154): data, security, PAN ID compression, no sequence number, short addresses,
version 2. -/
def frameControl : Nat := 1 + 8 + 64 + 256 + 2 * 1024 + 2 * 4096 + 2 * 16384

/-- The key index of a generation (R152). -/
def keyIndex (g : Nat) : Nat := g % 255 + 1

/-- The MAC header (R154): to `dst`, from this module. -/
def macHeader (s : State) (dst g counter : Nat) : Bytes :=
  le 2 frameControl ++ le 2 (rNat (radioIn s 0x40100 0) 0) ++ le 2 dst ++ le 2 (0xFF00 + modId s) ++ le 1 0x0E ++ le 4 counter
    ++ le 1 (keyIndex g)

/-- The nonce of a frame (R152): the sender's EUI-64, the frame counter, the security level. -/
def macNonce (counter : Nat) : Bytes := fit 8 Config.eui64 ++ be 4 counter ++ be 1 6

/-- The FCS of an air mode (R154): 32 bits in the SUN modes, 16 in Q1. -/
def fcs (mode : Nat) (b : Bytes) : Bytes := if mode = 8 then le 2 (crc16 b) else le 4 (crc32 b).toNat

/-- The PSDU of a secured frame (R152, R154): header, sealed payload with its MIC, FCS. -/
def sealFrame (s : State) (mode : Nat) (key : Bytes) (dst g counter : Nat) (payload : Bytes) : Bytes :=
  let h := macHeader s dst g counter
  let b := h ++ ccm key (macNonce counter) h payload
  b ++ fcs mode b

/-- Chip `i` of Walsh–Hadamard code `n` (R140), in the order of Hadamard's matrix; PRESUMED (log entry 62). -/
def walsh (n i : Nat) : Bool := ((List.range 6).filter (fun k => bitOf n k && bitOf i k)).length % 2 == 1

/-- The scrambling sequence of an acknowledgement field (R140): 256 bits. -/
def scramble (key : Bytes) (cluster asn dir : Nat) : Bytes :=
  aesCtr key 2 2 (ascii "CYA" ++ le 1 cluster ++ le 5 asn ++ le 1 dir ++ List.replicate 6 0)

/-- The 256 chips of an answer code (R140), the code four times over, scrambled; the first chip in the highest bit. -/
def answerChips (key : Bytes) (cluster code asn dir : Nat) : Bytes :=
  let one := (List.range 8).map (fun j =>
    BitVec.ofNat 8 (packBits ((List.range 8).map (fun i => walsh code (8 * j + 7 - i)))))
  xorBytes (one ++ one ++ one ++ one) (scramble key cluster asn dir)

/-- The address of a downlink cluster frame (R154, R157): a frame that names one member goes to its node. -/
def clusterDst (s : State) (c : Nat) (targets : BitVec 32) : Nat :=
  match (List.range 32).filter (fun i => targets.getLsbD i) with
  | [m] => (memberNode s c m).getD (0x8000 + c)
  | _ => 0x8000 + c

/-- A downlink frame to a cluster as it goes on the air (R152, R154): under the cluster's key and next counter. -/
def clusterPsdu (s : State) (c : Nat) (targets : BitVec 32) (f : Air) : Bytes :=
  let k := clOf s c
  sealFrame s (cMode s c) (clusterKey s c k.keyGen) (clusterDst s c targets) k.keyGen k.counter f.bytes

/-- A broadcast frame as it goes on the air (R152, R154): under the transceiver's broadcast key and next counter. -/
def bcastPsdu (s : State) (x : Nat) (f : Air) : Bytes :=
  let k := xOf s x
  sealFrame s (xMode s x) (bcastKey s x k.bcastGen) 0xFFFF k.bcastGen k.bcastCounter f.bytes

/-- The module's answer to an uplink frame (R140, R143): the chips of code `code` under the cluster's key. -/
def answerPsdu (s : State) (c code asn : Nat) : Bytes :=
  answerChips (clusterKey s c (clOf s c).keyGen) c code asn 1

/-- The beacon of a broadcast position (R155): the time is that of the position's start, 0 while TIME_QUALITY is UNSET
(R337). -/
def beaconAt (s : State) (x a flags : Nat) (urgOwn : List Nat) (p : Payload) : Air :=
  let t := if timeQuality s = 4 then 0 else taiAt s.clk (fabOfAsn s a)
  .beacon flags a (modId s) x (t / Config.secCycles) (t % Config.secCycles * 65536 / Config.secCycles) (getI s 0x20100)
    s.epoch.inForce (blankOf s (xBand s x) (a / 256)) (blankOf s (xBand s x) (a / 256 + 1)) urgOwn p

/-- BASE_ETA (R211, R212): the traveller's time at entry 0 in ms from the start of the broadcast position, clamped. -/
def baseEta (s : State) (f : TrajFrame) (a : Nat) : Int :=
  max (-32767) (min 32767 (((f.eta0 : Int) - fabOfAsn s a) / (Config.msCycles : Int)))

/-- The join key of a node (R149): the KDF over the ECDH secret, both nonces and both EUI-64s, the node's first. -/
def joinKey (j : Join) : Bytes :=
  kdf (ecdh j.eph (pointOf j.key)) "CYDEL-JOIN" (fit 8 j.nonce ++ fit 8 j.own ++ fit 8 j.eui ++ fit 8 Config.eui64) 128

/-- What JOIN_RESP holds (R149): the module's ephemeral key and its signature; with them the module's nonce. -/
def joinResp (j : Join) : Bytes := pointShort (pubOf j.eph) ++ fit 96 j.sig ++ fit 8 j.own

/-- What JOIN_ASSIGN holds (R149): node number, cluster, member, the cluster's context, its key and the broadcast keys. -/
def joinAssign (s : State) (n : Nat) : Bytes :=
  let c := (dirCluster s n).getD 0
  le 2 n ++ le 1 c ++ le 1 (dirMember s n) ++ le 4 (clOf s c).cevent ++ contextRow (crow s c)
    ++ clusterKey s c (clOf s c).keyGen ++ ((List.range 4).map (fun x => bcastKey s x (xOf s x).bcastGen)).flatten

end Sys2Proof.Machine
end

