-- ==== Sys2Proof/Machine/Icu.lean ====
section
/-!
DEFINITION. Interrupt controller commands (chapter 15), hardware semaphores (R25) and the time window's latch (R329).
-/
namespace Sys2Proof.Machine

/-- The address of a per-target ICU register (R404). -/
def icuTargetAddr (t off : Nat) : Nat := 0x40101000 + t * 256 + off

/-- Regions a policy core reaches (R23). -/
def policyReaches (c : Core) (addr : Nat) (write : Bool) : Bool :=
  (decide (0x10300000 ≤ addr ∧ addr ≤ 0x103FFFFF)) || (decide (0xA0000000 ≤ addr ∧ addr ≤ 0xAFFFFFFF))
    || (!write && decide (addr ≤ 0x0003FFFF)) || (!write && decide (0x40000000 ≤ addr ∧ addr ≤ 0x40000FFF))
    || decide (0x40280000 ≤ addr ∧ addr ≤ 0x40280FFF) || (!write && decide (0x40480000 ≤ addr ∧ addr ≤ 0x404FFFFF))
    || (addr == icuTargetAddr (coreNo c) 0 || addr == icuTargetAddr (coreNo c) 4 || addr == icuTargetAddr (coreNo c) 8)
    || decide (0x40D00180 ≤ addr ∧ addr ≤ 0x40D001FF)

/-- Change an ICU target. -/
def modTarget (t : Nat) (f : IcuTarget → IcuTarget) (u : Icu) : Icu := { u with targets := lmod u.targets t f }

/-- The value a claim read returns (R404): NONE, or LATE, priority and source. -/
def claimWord (w : Option (Nat × Nat × Bool)) : Word32 :=
  match w with
  | none => 0x80000000
  | some (p, n, late) => BitVec.ofNat 32 (n + p * 65536 + (if late then 1073741824 else 0))

/-- The claim of a winner (R393): active, an edge source no longer pending, the running level its priority. -/
def claimTake (now tn : Nat) (w : Nat × Nat × Bool) (u : Icu) : Icu :=
  let u := icuMod w.2.1 (fun x => { x with active := some tn, pending := false, unread := icuLevel w.2.1, cleared := none }) u
  modTarget tn (fun t => { t with since := if t.stack.isEmpty then now else t.since,
                                  stack := (w.2.1, w.1) :: t.stack,
                                  late := if w.2.2 then sat16 (t.late + 1) else t.late }) u

/-- ICU_SOURCE_EVENT (R391, R398, R399): an edge source's event, or a level source's line. -/
def execIcuSourceEvent (t : Nat) (l : Lane) (n : Fin 512) (level : Bool) (s : State) : Host.Outcome State Fault Refusal :=
  let s := tick t s
  done s (updIcu l (if icuLevel n.val then icuSetLine s.clk.fab n.val level else icuEdge s.clk.fab n.val) s)

/-- Whether core `c` is the core of target `tn` (R390, R395). -/
def ownsTarget (c : Core) (tn : Nat) : Bool := coreNo c == tn

/-- A read of CLAIM by its core (R393, R400, R401). Whether a source disabled within the last 8 cycles is still returned
is a free value (R400 says it can be). -/
def claimRead (l : Lane) (c : Core) (tn : Nat) (s : State) : State :=
  let addr := icuTargetAddr tn 4
  let u := (s.lanes.get l).icu
  let late := freeNat s % 2 == 1
  let w := icuBest (icuPresented s.clk.fab late u tn (lget u.targets tn IcuTarget.init))
  let s := draw s
  match w with
  | none => emit (.regData l c addr (claimWord none)) (updIcu l (modTarget tn (fun x => { x with none_ := x.none_ + 1 })) s)
  | some w => emit (.regData l c addr (claimWord (some w))) (updIcu l (claimTake s.clk.fab tn w) s)

/-- ICU_CLAIM (R393, R395, R400, R401). -/
def execIcuClaim (t : Nat) (l : Lane) (c : Core) (tn : Fin 7) (s : State) : Host.Outcome State Fault Refusal :=
  let s := tick t s
  if ownsTarget c tn.val then done s (claimRead l c tn.val s)
  else done s (busErr l c (icuTargetAddr tn.val 4) true s)

/-- A completion (R394): the claim of `n` at target `tn` ends; one that is not active there is stray. -/
def completeEff (l : Lane) (tn n : Nat) (s : State) : State :=
  let u := (s.lanes.get l).icu
  if (icuSrc u n).active = some tn then
    let s := updIcu l (fun u => modTarget tn (fun x => { x with
        stack := x.stack.filter (fun e => e.1 != n), stuck := if (x.stack.filter (fun e => e.1 != n)).isEmpty then false else x.stuck })
      (icuMod n (fun x => { x with active := none, unread := false,
                                   since := if icuLevel n then s.clk.fab else x.since }) u)) s
    icuStuckSync (laneNo l * 7 + tn) s
  else
    stickySet 224 (laneNo l * 7 + tn) (updIcu l (modTarget tn (fun x => { x with stray := sat16 (x.stray + 1) })) s)

/-- ICU_COMPLETE (R394, R395). -/
def execIcuComplete (t : Nat) (l : Lane) (c : Core) (tn : Fin 7) (n : Nat) (s : State) : Host.Outcome State Fault Refusal :=
  let s := tick t s
  if ownsTarget c tn.val then done s (completeEff l tn.val (n % 512) s)
  else done s (busErr l c (icuTargetAddr tn.val 8) true s)

/-- Enable or disable the sources of a word whose bits are set (R402). -/
def enableBits (now w : Nat) (bits : Nat) (on : Bool) : Nat → Icu → Icu
  | 0, u => u
  | k + 1, u =>
    let u := if bitOf bits k then
        icuMod (32 * w + k) (fun x => { x with enabled := on, cleared := if on then none else if x.enabled then some now else x.cleared }) u
      else u
    enableBits now w bits on k u

/-- An ICU access of a runtime core; a policy core gets a bus error (R23, R395). -/
def icuAccess (l : Lane) (c : Core) (addr : Nat) (f : State → State) (s : State) : State :=
  if isPolicy c then busErr l c addr true s else f s

/-- ENABLE_SET (R402). -/
def execEnableSet (t : Nat) (l : Lane) (c : Core) (w : Fin 16) (bits : Word32) (s : State) : Host.Outcome State Fault Refusal :=
  let s := tick t s
  done s (icuAccess l c (0x40100900 + 4 * w.val) (updIcu l (enableBits s.clk.fab w.val bits.toNat true 32)) s)

/-- ENABLE_CLR (R400, R402). -/
def execEnableClr (t : Nat) (l : Lane) (c : Core) (w : Fin 16) (bits : Word32) (s : State) : Host.Outcome State Fault Refusal :=
  let s := tick t s
  done s (icuAccess l c (0x40100980 + 4 * w.val) (updIcu l (enableBits s.clk.fab w.val bits.toNat false 32)) s)

/-- SGI_SET (R404): source 320 + SGI becomes pending. -/
def execSgiSet (t : Nat) (l : Lane) (c : Core) (v : Word32) (s : State) : Host.Outcome State Fault Refusal :=
  let s := tick t s
  done s (icuAccess l c 0x40100A80 (updIcu l (icuEdge s.clk.fab (320 + v.toNat % 64))) s)

/-- ICU_STUCK_TIMEOUT (R394): the running level has stayed above 0 for 100 ms. -/
def execIcuStuckTimeout (t : Nat) (l : Lane) (tn : Fin 7) (s : State) : Host.Outcome State Fault Refusal :=
  let s := tick t s
  let x := lget (s.lanes.get l).icu.targets tn.val IcuTarget.init
  if !x.stack.isEmpty && decide (x.since + 100 * Config.msCycles ≤ s.clk.fab) then
    done s (icuStuckSync (laneNo l * 7 + tn.val) (updIcu l (modTarget tn.val (fun x => { x with stuck := true })) s))
  else done s s

/-- Drop every claim of a target (R396). -/
def dropClaims (now tn : Nat) (u : Icu) : Icu :=
  let u := (lget u.targets tn IcuTarget.init).stack.foldl (fun u e =>
    icuMod e.1 (fun x => { x with active := none, unread := false, since := if icuLevel e.1 then now else x.since }) u) u
  modTarget tn (fun x => { x with stack := [], stuck := false, resetDrop := true }) u

/-- CORE_RESET (R25, R396): the core's claims are dropped, its semaphores released, its stalled access ends. Its bit of E:0032
is set only if it held a semaphore (DESIGN CHOICE, log entry 60). -/
def execCoreReset (t : Nat) (l : Lane) (c : Core) (s : State) : Host.Outcome State Fault Refusal :=
  let s := tick t s
  let k := coreNo c
  let held := (s.lanes.get l).sems.contains (k + 1)
  let s1 := updIcu l (dropClaims s.clk.fab k) s
  let s1 := updLane l (fun x => { x with sems := x.sems.map (fun h => if h = k + 1 then 0 else h), stalls := lset x.stalls k none }) s1
  let s1 := if held then { s1 with dict := { s1.dict with semReset := s1.dict.semReset ||| BitVec.twoPow 12 (laneNo l * 6 + k) } }
    else s1
  done s (icuStuckSync (laneNo l * 7 + k) s1)

/-- LANE_RESET (R10, R44, R396, R461, R466): the lane restarts and its boot ROM chooses a bank. -/
def execLaneReset (t : Nat) (l : Lane) (s : State) : Host.Outcome State Fault Refusal :=
  let s := tick t s
  done s (icuStuckSync (laneNo l * 7) (restartLane l s))

/-- Sources 0 to 63 that are wake-enabled and pending or latched (R403). -/
def wakeWaiting (u : Icu) : Bool :=
  (List.range 64).any (fun i => u.wakeEn.getLsbD i && (u.wakeLatch.getLsbD i || icuPending i (icuSrc u i)))

/-- STOP_ENTRY (R403): refused, with the cores going on, while a wake-enabled source is pending or latched. -/
def execStopEntry (t : Nat) (l : Lane) (s : State) : Host.Outcome State Fault Refusal :=
  let s := tick t s
  if wakeWaiting (s.lanes.get l).icu then done s s
  else done s (updIcu l (fun u => { u with stopped := true }) s)

/-- Whether an edge is caught by the wake latches: in stop, or within 16 FAB cycles of the restart (R403). -/
def wakeArmed (now : Nat) (u : Icu) : Bool :=
  u.stopped || (match u.wokeAt with | some w => decide (now ≤ w + 16) | none => false)

/-- WAKE_EDGE (R403): an edge of at least 50 ns on a wake-enabled source sets its latch, restarts the clocks and makes
the source pending once; further edges are merged; without WAKE_EN it is lost. -/
def execWakeEdge (t : Nat) (l : Lane) (n : Fin 64) (width : Nat) (s : State) : Host.Outcome State Fault Refusal :=
  let s := tick t s
  let u := (s.lanes.get l).icu
  if wakeArmed s.clk.fab u && decide (20 ≤ width) && u.wakeEn.getLsbD n.val then
    done s (updIcu l (fun u =>
      let woke := if u.stopped then some s.clk.fab else u.wokeAt
      icuEdge s.clk.fab n.val { u with stopped := false, wokeAt := woke, wakeLatch := u.wakeLatch ||| BitVec.twoPow 64 n.val }) s)
  else done s s

/-- The address of a semaphore (R22). -/
def semAddr (n : Nat) : Nat := 0x40D00000 + 8 * n

/-- A read of a semaphore (R25): 0 takes it, otherwise the holder's number plus 1 is returned. -/
def semTake (l : Lane) (c : Core) (n : Nat) (s : State) : State :=
  let h := lget (s.lanes.get l).sems n 0
  let s1 := if h = 0 then updLane l (fun x => { x with sems := lset x.sems n (coreNo c + 1) }) s else s
  emit (.regData l c (semAddr n) (BitVec.ofNat 32 h)) s1

/-- A write of 0 to a semaphore (R25): only the holder's releases, any other core's is counted in E:0031. -/
def semFree (l : Lane) (c : Core) (n : Nat) (s : State) : State :=
  if lget (s.lanes.get l).sems n 0 = coreNo c + 1 then updLane l (fun x => { x with sems := lset x.sems n 0 }) s
  else addC 0xE0031 (laneNo l * 6 + coreNo c) 0 1 s

/-- SEMAPHORE_ACQUIRE (R25). -/
def execSemaphoreAcquire (t : Nat) (l : Lane) (c : Core) (n : Fin 64) (s : State) : Host.Outcome State Fault Refusal :=
  let s := tick t s
  if isPolicy c && !policyReaches c (semAddr n.val) false then done s (busErr l c (semAddr n.val) true s)
  else done s (semTake l c n.val s)

/-- SEMAPHORE_RELEASE (R25). -/
def execSemaphoreRelease (t : Nat) (l : Lane) (c : Core) (n : Fin 64) (s : State) : Host.Outcome State Fault Refusal :=
  let s := tick t s
  if isPolicy c && !policyReaches c (semAddr n.val) true then done s (busErr l c (semAddr n.val) true s)
  else done s (semFree l c n.val s)

/-- TSTAT as a latch takes it (R329). -/
def tstat (s : State) : Nat := timeQuality s + 16 * b2n s.time.oscStopped + 32 * b2n (slewing s)

/-- The read of TIME_LO (R329): it returns TIME64 bits 31..0 and latches the other words for the reading core. -/
def latchTime (l : Lane) (c : Core) (s : State) : State :=
  let time := time64 s
  let latch : TimeLatch :=
    { hi := BitVec.ofNat 32 (time / 4294967296), asnLo := BitVec.ofNat 32 (asn s),
      asnHi := BitVec.ofNat 32 (asn s / 4294967296 % 256), tstat := BitVec.ofNat 32 (tstat s) }
  emit (.regData l c 0x40000100 (BitVec.ofNat 32 time))
    (updLane l (fun x => { x with latches := lset x.latches (coreNo c) latch }) s)

/-- TIME_LO_READ (R329). -/
def execTimeLoRead (t : Nat) (l : Lane) (c : Core) (s : State) : Host.Outcome State Fault Refusal :=
  let s := tick t s
  done s (latchTime l c s)

/-- A PENDING word as read (R391, R401, R404): a level source that is claimed shows its line (log entry 19). -/
def pendingWord (u : Icu) (w : Nat) : Nat :=
  packBits ((List.range 32).map (fun b =>
    let n := 32 * w + b
    let x := icuSrc u n
    if icuLevel n then x.line else x.pending))

/-- The empty claims a read of a PENDING word finds (R401): the claiming core's first read with the bit at 0. -/
def countEmpty (tn w : Nat) : Nat → Icu → Icu
  | 0, u => u
  | k + 1, u =>
    let n := 32 * w + k
    let x := icuSrc u n
    countEmpty tn w k (if x.unread && x.active == some tn then
      icuMod n (fun x => { x with unread := false, empties := if x.line then x.empties else sat16 (x.empties + 1) }) u else u)

/-- A read of a PENDING word (R391, R401). -/
def pendRead (l : Lane) (c : Core) (w : Nat) (s : State) : State :=
  emit (.regData l c (0x40100800 + 4 * w) (BitVec.ofNat 32 (pendingWord (s.lanes.get l).icu w)))
    (updIcu l (countEmpty (coreNo c) w 32) s)

/-- PENDING_READ (R401). -/
def execPendingRead (t : Nat) (l : Lane) (c : Core) (w : Fin 16) (s : State) : Host.Outcome State Fault Refusal :=
  let s := tick t s
  if isPolicy c then done s (busErr l c (0x40100800 + 4 * w.val) true s) else done s (pendRead l c w.val s)

end Sys2Proof.Machine
end

