-- ==== Sys2Proof/Machine/Gour.lean ====
section
/-!
DEFINITION. Gour arbiter and Sump queue commands (chapter 16).
-/
namespace Sys2Proof.Machine

/-- What a grant does to the lane beside the arbiter (R411, R416, R424, R425): alarm and pending-full faults. -/
def gourFaults (l : Lane) (a r : Nat) (before : Arb) (s : State) : State :=
  let b := arbOf (s.lanes.get l) a
  let s := if b.alarm && !before.alarm then stickySet 227 (gourDetail l (a * 16 + r)) s else s
  let s := if before.pendFullN < b.pendFullN then stickySet 226 (gourDetail l (a * 16 + r)) s else s
  gourAlarmLine l s

/-- GOUR_WINDOW_START (R408, R413, R416). -/
def execGourWindowStart (t : Nat) (l : Lane) (a : Fin 23) (s : State) : Host.Outcome State Fault Refusal :=
  let s := tick t s
  let b := arbOf (s.lanes.get l) a.val
  done s (gourFaults l a.val 0 b (updArb l a.val (fun b =>
    waitAlarmed a.val s.clk.fab (if arbKind a.val = 2 then windowPairs a.val 8 b else windowAll a.val (arbReqs a.val) b)) s))

/-- GOUR_GRANT (R407 to R413, R415): the arbitration, the grant, and the losers' round. Whether trunk class S is within
its reserve is a free value (log entry 20). -/
def execGourGrant (t : Nat) (l : Lane) (a : Fin 23) (s : State) : Host.Outcome State Fault Refusal :=
  let s := tick t s
  let b := arbOf (s.lanes.get l) a.val
  let sFirst := freeNat s % 2 == 1
  match gourWinner a.val sFirst b with
  | none => done s (draw s)
  | some w =>
    let s1 := updArb l a.val (fun b =>
      waitAlarmed a.val s.clk.fab (loseRound a.val w.2 16 (gourTake a.val w.2 s.clk.fab b))) (draw s)
    done s (gourFaults l a.val w.2 b s1)

/-- GOUR_REQUEST (R411): the request joins its requester's; a requester with a request held at the door cannot issue
another. -/
def execGourRequest (t : Nat) (l : Lane) (a : Fin 23) (r : Fin 16) (cost : Nat) (s : State) : Host.Outcome State Fault Refusal :=
  let s := tick t s
  let b := arbOf (s.lanes.get l) a.val
  let q := reqOf a.val b r.val
  if r.val < arbReqs a.val ∧ (q.waiting.all (fun e => e.2.2)) = true then
    let c := if arbKind a.val = 1 then max 1 cost else 1
    done s (updArb l a.val (modReq a.val r.val (fun q => { q with waiting := q.waiting ++ [(s.clk.fab, c, false)] })) s)
  else done s s

/-- A granted request is withdrawn (R414): counted, its credit not charged; `dead` says that it costs the dead unit. -/
def withdrawGrant (a r cost credit : Nat) (dead : Bool) (b : Arb) : Arb :=
  { modReq a r (fun q => { q with withdrawn := sat32 (q.withdrawn + 1), credit := credit, used := q.used - cost }) b with
    holding := none, dead := if dead then sat32 (b.dead + 1) else b.dead }

/-- GOUR_WITHDRAW (R414): after its grant; the credit is not charged. On a memory arbiter, and on an air arbiter once
the slot command is queued, it costs one dead unit. -/
def execGourWithdraw (t : Nat) (l : Lane) (a : Fin 23) (r : Fin 16) (slotQueued : Bool) (s : State) :
    Host.Outcome State Fault Refusal :=
  let s := tick t s
  let b := arbOf (s.lanes.get l) a.val
  match b.holding with
  | none => done s s
  | some (r', cost, credit) =>
    if r' = r.val then
      let dead := arbKind a.val == 0 || (arbKind a.val == 1 && slotQueued)
      done s (updArb l a.val (withdrawGrant a.val r.val cost credit dead) s)
    else done s s

/-- Change an arbiter on every lane that runs the ordered computation, with the faults that follow (R411, R424). -/
def airLanes (a r : Nat) (f : Arb → Arb) (s : State) : State :=
  [Lane.A, .B].foldl (fun s l =>
    if consumes l s then
      let b := arbOf (s.lanes.get l) a
      gourFaults l a r b (updArb l a f s)
    else s) s

/-- M0 asks air arbiter `17 + x` for positions (R415): a requester with none waiting raises a request. -/
def airAsk (x r : Nat) (s : State) : State :=
  airLanes (17 + x) r (fun b =>
    if (reqOf (17 + x) b r).waiting.isEmpty then modReq (17 + x) r (fun q => { q with waiting := [(s.clk.fab, 1, false)] }) b
    else b) s

/-- The requester that wins positions of a transceiver among some (R408, R415). -/
def airWinner (x : Nat) (rs : List Nat) (s : State) : Option Nat :=
  let b := arbOf (s.lanes.get (servedBy s)) (17 + x)
  (gourBest (rs.map (fun r => ((reqOf (17 + x) b r).credit, r)))).map (fun w => w.2)

/-- A grant of `n` positions on air arbiter `17 + x` (R408, R411). -/
def airGrant (x r n : Nat) (s : State) : State :=
  airLanes (17 + x) r (fun b =>
    let b := modReq (17 + x) r (fun q => { q with waiting := match q.waiting with | [] => [] | e :: l => (e.1, n, e.2.2) :: l }) b
    loseRound (17 + x) r 3 (gourTake (17 + x) r s.clk.fab b)) s

/-- The granted frame fails the check of the gate budget and is withdrawn (R414, R415): its positions return. -/
def airReturn (x r : Nat) (s : State) : State :=
  airLanes (17 + x) r (fun b =>
    match b.holding with
    | some (r', cost, credit) => if r' = r then withdrawGrant (17 + x) r cost credit false b else b
    | none => b) s

/-- A waiting request of an air arbiter is withdrawn before any grant (R116, R414). -/
def airDrop (x r : Nat) (s : State) : State :=
  airLanes (17 + x) r (fun b =>
    if (reqOf (17 + x) b r).waiting.isEmpty then b
    else modReq (17 + x) r (fun q => { q with waiting := [], withdrawn := sat32 (q.withdrawn + 1) }) b) s

/-- The sum of the REFILL values with one replaced (R410). -/
def refillSum (a r v : Nat) (b : Arb) : Nat :=
  ((List.range (arbReqs a)).map (fun k => if k = r then v else (reqOf a b k).next)).sum

/-- The address of a requester's RCFG (R416). -/
def rcfgAddr (a r : Nat) : Nat := 0x40110000 + a * 2048 + 256 + r * 32

/-- A REFILL write (R410, R416): a bus error where the sum would exceed a memory arbiter's window, or where the
requester does not exist; in force from the next window. -/
def refillWrite (l : Lane) (c : Core) (a r v : Nat) (s : State) : State :=
  let b := arbOf (s.lanes.get l) a
  if isPolicy c then busErr l c (rcfgAddr a r) true s
  else if arbReqs a ≤ r then busErr l c (rcfgAddr a r) false s
  else if arbKind a = 0 ∧ arbCapacity a < refillSum a r (v % 256) b then busErr l c (rcfgAddr a r) false s
  else updArb l a (modReq a r (fun q => { q with next := v % 256 })) s

/-- GOUR_REFILL_WRITE (R410, R416). -/
def execGourRefillWrite (t : Nat) (l : Lane) (c : Core) (a : Fin 23) (r : Fin 16) (v : Word32) (s : State) :
    Host.Outcome State Fault Refusal :=
  let s := tick t s
  done s (refillWrite l c a.val r.val v.toNat s)

/-- A flush (R419): whole packets and a partial one are counted, the producer's packet in progress is discarded. -/
def flushQ (now : Nat) (k : SumpQ) : SumpQ :=
  { k with words := [], flushAt := some now, flushed := sat16 (k.flushed + (k.words.filter (fun w => w.last)).length),
           flushedPartial := if hasPartial k.words || (k.mid && k.words.isEmpty) then sat16 (k.flushedPartial + 1) else k.flushedPartial,
           dropping := k.mid }

/-- The service port's receive line follows its queue (R405). -/
def serviceRxLine (l : Lane) (s : State) : State :=
  updIcu l (icuSetLine s.clk.fab 268 ((sumpOf (s.lanes.get l) 20).words.any (fun w => w.last))) s

/-- A flush of a lane's queue (R419): on a trunk stream in the middle of a frame the egress ends it with an inverted FCS. -/
def flushAt (l : Lane) (q : Nat) (s : State) : State :=
  let cut := (q == 13 || q == 14) && (sumpOf (s.lanes.get l) q).mid && active s == some l
  let s := serviceRxLine l (updSump l q (flushQ s.clk.fab) s)
  if cut then emit (.streamCut (if q = 13 then 1 else 0)) s else s

/-- SUMP_FLUSH (R419). -/
def execSumpFlush (t : Nat) (l : Lane) (c : Core) (q : Fin 22) (s : State) : Host.Outcome State Fault Refusal :=
  let s := tick t s
  if isPolicy c then done s (busErr l c (sumpAddr q.val 0x0C) true s)
  else done s (flushAt l q.val s)

/-- The word a read finds (R420): packets with a double-bit error are discarded first; answers the word, the words left
and how many packets were discarded. -/
def sumpHead : Nat → List SumpWord → Option SumpWord × List SumpWord × Nat
  | 0, ws => (none, ws, 0)
  | _ + 1, [] => (none, [], 0)
  | n + 1, w :: r =>
    if w.bad = 2 then
      let x := sumpHead n (dropPacket (w :: r))
      (x.1, x.2.1, x.2.2 + 1)
    else (some w, r, 0)

/-- The packets a read discarded for double-bit errors: counted, reported, and the lane condemned (R287, R420). -/
def sumpPoison (l : Lane) (q n : Nat) (s : State) : State :=
  if n = 0 then s
  else
    let s := updSump l q (fun k => { k with uncorr := sat16 (k.uncorr + n) }) s
    eccUncorrectable l (stickySet 228 (gourDetail l q) (icuRaiseAt l 154 s))

/-- A read of DATA on a queue whose words were checked: the word is popped, or the core stalls (R420, R421); `pair` where
the read of 10h before the one of 14h is part of it. -/
def sumpRead (l : Lane) (c : Core) (q : Nat) (pair : Bool) (s : State) : State :=
  let k := sumpOf (s.lanes.get l) q
  let x := sumpHead (k.words.length + 1) k.words
  let s := updSump l q (fun k => { k with words := x.2.1 }) s
  let s :=
    match x.1 with
    | none =>
      updSump l q (fun k => { k with stalls := sat32 (k.stalls + 1) })
        (updLane l (fun y => { y with stalls := lset y.stalls (coreNo c) (some (q, s.clk.fab)) }) s)
    | some w =>
      let s := if pair then emit (.regData l c (sumpAddr q 0x10) (w.data.extractLsb' 0 32)) s else s
      let s := emit (.regData l c (sumpAddr q 0x14) (w.data.extractLsb' 32 32)) s
      if w.bad = 1 then
        eccCorrected l (icuRaiseAt l 153 (updSump l q (fun k => { k with corr := sat16 (k.corr + 1) }) s))
      else s
  sumpPoison l q x.2.2 (serviceRxLine l s)

/-- SUMP_DATA_READ (R420 to R422): the two reads at 10h and 14h, the second popping the word. -/
def execSumpDataRead (t : Nat) (l : Lane) (c : Core) (q : Fin 22) (s : State) : Host.Outcome State Fault Refusal :=
  let s := tick t s
  if isPolicy c then done s (busErr l c (sumpAddr q.val 0x10) true s)
  else if !sumpCoreReads q.val then done s (busErr l c (sumpAddr q.val 0x10) false s)
  else done s (sumpRead l c q.val true s)

/-- A word pushed by the producer (R417, R419): the rest of a flushed packet is discarded on arrival, a word of the flush's own cycle
with it. -/
def sumpPush (now : Nat) (w : SumpWord) (k : SumpQ) : SumpQ :=
  if k.dropping then { k with dropping := !w.last, mid := !w.last }
  else if k.flushAt = some now then
    { k with dropping := !w.last, mid := !w.last, flushed := if w.last then sat16 (k.flushed + 1) else k.flushed,
             flushedPartial := if w.last then k.flushedPartial else sat16 (k.flushedPartial + 1) }
  else { k with words := k.words ++ [w], mid := !w.last }

/-- The engine that consumes a queue takes what has come (R417, R420): a packet when it is complete, a STREAM's words at once. Each
word is checked; a double-bit error discards the packet. DESIGN CHOICE (log entry 67): an engine takes it at once. -/
def engineTake (l : Lane) (q : Nat) (s : State) : State :=
  let k := sumpOf (s.lanes.get l) q
  if sumpCoreReads q || k.words.isEmpty || (k.mid && (sumpFacts q).2.2) then s
  else
    let good := k.words.takeWhile (fun w => w.bad != 2)
    let fixed := (good.filter (fun w => w.bad == 1)).length
    let poison := decide (good.length < k.words.length)
    let s := updSump l q (fun k => { k with words := [], corr := sat16 (k.corr + fixed), dropping := k.dropping || (poison && k.mid) }) s
    let s := (List.range fixed).foldl (fun s _ => eccCorrected l (icuRaiseAt l 153 s)) s
    if poison then sumpPoison l q 1 s else s

/-- What a complete packet announces (R405, R417). -/
def sumpNotice (l : Lane) (q : Nat) (s : State) : State := if q ≤ 3 then icuRaiseAt l (22 + q) s else serviceRxLine l s

/-- Whether a word of a core's packet is its last: the packet's first word carries its length in bits 15..0, taken in
words (R422, log entry 21). Answers last and the words to come. -/
def coreLast (k : SumpQ) (v : BitVec 64) : Bool × Nat :=
  if k.mid then (k.remain ≤ 1, k.remain - 1)
  else
    let n := v.toNat % 65536
    (n ≤ 1, n - 1)

/-- SUMP_WDATA_WRITE (R418, R422): the write at 1Ch, which pushes the word with the low half written at 18h. -/
def wdataWrite (l : Lane) (c : Core) (q : Nat) (v : Word32) (s : State) : State :=
  if isPolicy c then busErr l c (sumpAddr q 0x1C) true s
  else if !sumpCoreWrites q then busErr l c (sumpAddr q 0x1C) false s
  else
    let k := sumpOf (s.lanes.get l) q
    if sumpCredit q k = 0 && !k.dropping then
      busErr l c (sumpAddr q 0x1C) false
        (icuRaiseAt l 155 (stickySet 229 (gourDetail l q) (updSump l q (fun k => { k with overrun := sat32 (k.overrun + 1) }) s)))
    else
      let d : BitVec 64 := v ++ k.low
      let e := coreLast k d
      let s := updSump l q (fun k => { sumpPush s.clk.fab { data := d, last := e.1, bad := 0 } k with remain := e.2 }) s
      engineTake l q (if e.1 then sumpNotice l q s else s)

/-- SUMP_WDATA_WRITE (R418, R422). -/
def execSumpWdataWrite (t : Nat) (l : Lane) (c : Core) (q : Fin 22) (v : Word32) (s : State) : Host.Outcome State Fault Refusal :=
  let s := tick t s
  done s (wdataWrite l c q.val v s)

/-- A core stalled on a queue whose read a new word completes (R421). -/
def unstall (l : Lane) (q : Nat) (s : State) : State :=
  match [Core.A0, .A1, .M0, .D0].find? (fun c =>
    match lget (s.lanes.get l).stalls (coreNo c) none with | some e => e.1 == q | none => false) with
  | none => s
  | some c => sumpRead l c q true (updLane l (fun y => { y with stalls := lset y.stalls (coreNo c) none }) s)

/-- SUMP_WORD_ARRIVAL (R417, R419, R421): an engine's word; engines write only with credit. -/
def execSumpWordArrival (t : Nat) (l : Lane) (q : Fin 22) (w : BitVec 64) (last : Bool) (bad : Fin 3) (s : State) :
    Host.Outcome State Fault Refusal :=
  let s := tick t s
  let k := sumpOf (s.lanes.get l) q.val
  if k.dropping = true ∨ 0 < sumpCredit q.val k then
    let s1 := updSump l q.val (sumpPush s.clk.fab { data := w, last := last, bad := bad.val }) s
    let s1 := if last && !k.dropping && (sumpFacts q.val).2.2 then sumpNotice l q.val s1 else s1
    done s (unstall l q.val (engineTake l q.val s1))
  else done s s

/-- BUS_WATCHDOG_ABORT (R288, R421): an access that has not completed within BUS_WD_LIMIT ends with a bus error. -/
def execBusWatchdogAbort (t : Nat) (l : Lane) (c : Core) (s : State) : Host.Outcome State Fault Refusal :=
  let s := tick t s
  let k := coreNo c
  match lget (s.lanes.get l).stalls k none with
  | none => done s s
  | some e =>
    if e.2 + lget (s.lanes.get l).busWd k 400000 ≤ s.clk.fab then
      let s1 := updLane l (fun x => { x with stalls := lset x.stalls k none }) s
      let s1 := addC 0xE0033 (laneNo l * 6 + k) 0 1 s1
      let s1 := stickySet 230 (gourDetail l k) (icuRaiseAt l (156 + k) s1)
      let s1 := if isPolicy c then s1 else healthEvent l .busWd s1
      done s (emit (.busError l c (sumpAddr e.1 0x10)) s1)
    else done s s

end Sys2Proof.Machine
end

