-- ==== Sys2Proof/Machine/MacFrames.lean ====
section
/-!
DEFINITION. Frames on the air (chapter 5): keying and what a cluster frame asks, releases (R114), the answers in the acknowledgement field (R141, R177,
R178), members that leave (R151).
-/
namespace Sys2Proof.Machine

/-- Drop bookings that satisfy `p` and give their gate reservations back (R114). -/
def dropBookings (p : Booking → Bool) (s : State) : State :=
  let gone := s.adm.bookings.filter p
  let s := updAdm (fun m => { m with bookings := m.bookings.filter (fun b => !p b) }) s
  gone.foldl (fun s b => if b.sent then s else gateRelease b.xcvr b.chan (b.asn / 256) b.dur s) s

/-- The targets of a ticket in a cluster that still lack the command. -/
def missing (k : Ticket) (c : Nat) : List Target := k.targets.filter (fun x => x.cluster == c && !x.acked && x.out.isNone)

/-- Whether a missing target still lacks a fragment (R178). -/
def lacks (s : State) (k : Ticket) (c : Nat) (g : Seg) (x : Target) : Bool :=
  let code := if g.kind = 2 then g.objId * 65536 + g.index else g.index
  let unit := match k.job with
    | .cmd => true
    | .stage e => (nodeUnits s e c x.node).any (fun u => ucode e u.1 u.2 == code) && !(heldBy s x.node).contains code
    | .block image index => !holdsBlock s x.node image index
  unit && !x.got.contains (code * 16 + g.frag / 16)

/-- A booking that its ticket needs no more (R114, R178). -/
def needless (s : State) (k : Ticket) (b : Booking) : Bool :=
  b.ticket == k.id && !b.sent &&
    (match b.seg with
    | none => (missing k b.cluster).isEmpty
    | some g => !(missing k b.cluster).any (lacks s k b.cluster g))

/-- The attempts of a ticket that have begun or still hold a position. -/
def attemptsLeft (s : State) (k : Ticket) : List (Nat × Nat) :=
  (s.adm.bookings.filter (fun b => b.ticket == k.id)).foldl
    (fun l b => if l.contains (b.cluster, b.attempt) then l else (b.cluster, b.attempt) :: l) k.begun

/-- What a ticket needs no more is released (R114); an attempt that loses its last position unbegun counts as released. -/
def release (tk : Nat) (s : State) : State :=
  match ticketOf s tk with
  | none => s
  | some k =>
    let n := (attemptsLeft s k).length
    let s := dropBookings (needless s k) s
    let m := (attemptsLeft s k).length
    if m < n then updTicket tk (fun k => { k with released := k.released + (n - m) }) s else s

/-- A booked attempt that is not sent is counted (R115); its booking goes. -/
def loseBooking (b : Booking) (s : State) : State :=
  cntUp 0x50016 (dropBookings (fun x => x == b) s)

/-- The node's state is recorded (R146, R382: NODE_STATE) and counted. -/
def lostRecord (n st : Nat) (s : State) : State :=
  let c := (dirCluster s n).getD 0
  cntUp 0x40019 (record 0x4010 3 n (be 1 c ++ be 1 (dirMember s n) ++ be 1 st ++ be 1 0 ++ be 8 (nodeOf s n).heard) s)

/-- A code or a frame has been received from a node (R146): it stops being LOST. -/
def heardFrom (n : Nat) (s : State) : State :=
  let was := (nodeOf s n).joined
  let s := updNode n (fun x => { x with heardFab := s.clk.fab, heard := time64 s, joined := if x.joined = 2 then 1 else x.joined }) s
  if was = 2 then lostRecord n 1 s else s

/-- An entry of a node's history (R98): newest first, at most 256. -/
def pushHist (n : Nat) (ok : Bool) (s : State) : State := updNode n (fun x => { x with hist := (ok :: x.hist).take 256 }) s

/-- Whether a transceiver is on a path of the cluster of a node that waits for probes. -/
def probesOn (s : State) (x : Nat) : Bool :=
  s.mac.probes.any (fun n => match dirCluster s n with
    | some c => pathX s c false == x || pathX s c true == x
    | none => false)

/-- SHOCKED clears (R116): probes still unsent are withdrawn, with the PROBE request of a transceiver that has no other. -/
def clearShock (n : Nat) (s : State) : State :=
  let was := s.mac.probes.contains n
  let s := updMac (fun m => { m with probes := m.probes.filter (fun k => k != n) }) (updNode n (fun x => { x with shock := none }) s)
  let c := (dirCluster s n).getD 256
  if !was then s
  else [false, true].foldl (fun s alt => if probesOn s (pathX s c alt) then s else airDrop (pathX s c alt) 1 s) s

/-- LINK_SHOCK (R116): counted, recorded, the node SHOCKED and probed. -/
def linkShock (tk : Nat) (x : Target) (run : Nat) (s : State) : State :=
  let s := cntUp 0x50015 s
  let s := record 0x5010 4 x.node (be 4 tk ++ be 2 x.plcb ++ be 1 x.cluster ++ be 1 run) s
  let s := updNode x.node (fun k => { k with shock := some (s.clk.fab, 16) }) s
  updMac (fun m => { m with probes := m.probes.filter (fun k => k != x.node) ++ [x.node] }) s

/-- A node whose answers show it staged for the open or armed epoch enters STAGED (R181): by its last unit or its image's last
block. -/
def markStaged (c n : Nat) (s : State) : State :=
  if (s.epoch.state = 1 ∨ s.epoch.state = 2) ∧ isStaged s s.epoch.next c n then
    updEp (fun p => { p with staged := insertNat n p.staged }) s
  else s

/-- The channels of a node whose floor in force is not that of its manifest entry are sent SET_FLOOR (R166, R225). -/
def floorsOwed (n : Nat) (s : State) : State :=
  [1, 2, 3, 4].foldl (fun s ch =>
    if lget (mgetD s.epoch.floorsIn n [0, 0, 0, 0]) (ch - 1) 0 = floorOf s n ch then s
    else { s with trk := { s.trk with floors := mset s.trk.floors (n * 4 + ch - 1) (floorOf s n ch) } }) s

/-- A target's answer to an attempt's frame (R116, R118, R177, R178): `hit` any code, `ack` the ACK; `lastOf` says that no
further frame of the attempt follows. -/
def targetAnswer (k : Ticket) (e : Expect) (hit ack lastOf : Bool) (x : Target) (s : State) : State :=
  let put (f : Target → Target) (s : State) : State :=
    updTicket k.id (fun k => { k with targets := k.targets.map (fun y => if y.node = x.node then f y else y) }) s
  if hit then
    let s := put (fun y => { y with run := 0, hit := e.arg + 1 }) s
    match e.seg with
    | none => if ack then put (fun y => { y with acked := true }) s else s
    | some g =>
      let code := if g.kind = 2 then g.objId * 65536 + g.index else g.index
      let s := put (fun y => { y with got := insertNat (code * 16 + g.frag / 16) y.got }) s
      if !ack then s
      else if g.kind = 2 then
        let ep := g.objId / 65536
        let s := updEp (fun p => { p with held := mset p.held x.node (insertNat code (heldBy s x.node)) }) s
        let s := markStaged x.cluster x.node s
        if (nodeUnits s ep x.cluster x.node).all (fun u => (heldBy s x.node).contains (ucode ep u.1 u.2))
        then put (fun y => { y with acked := true }) (if isInForce s ep then floorsOwed x.node s else s) else s
      else
        let p := mgetD s.epoch.progress x.node { id := g.objId, hold := 0, window := 0 }
        put (fun y => { y with acked := true })
          (markStaged x.cluster x.node (updEp (fun q => { q with progress := mset q.progress x.node (markBlock g.objId g.index p) }) s))
  else if !lastOf || x.hit == e.arg + 1 then s
  else
    let run := x.run + 1
    let s := put (fun y => { y with run := run }) s
    if (x.k + 1) / 2 ≤ run ∧ !x.shocked then
      let s := put (fun y => { y with shocked := true }) s
      linkShock k.id x run (updTicket k.id (fun k => { k with shockedN := k.shockedN + 1, fShock := true }) s)
    else s

/-- The answers of an attempt's frame enter its ticket (R114, R118). -/
def ticketAnswers (e : Expect) (det : List (Nat × Bool)) (s : State) : State :=
  match ticketOf s e.ticket with
  | none => s
  | some k =>
    if k.state = 1 ∧ s.clk.fab ≤ k.deadline then
      let lastOf := !s.adm.bookings.any (fun b => b.ticket == k.id && b.cluster == e.cluster && b.attempt == e.arg && !b.sent)
      let s := (k.targets.filter (fun x => x.cluster == e.cluster && !x.acked && e.targets.getLsbD x.member)).foldl
        (fun s x => targetAnswer k e (det.any (fun d => d.1 == x.member)) (det.contains (x.member, true)) lastOf x s) s
      release k.id s
    else
      let late := (det.filter (fun d => d.2 && e.targets.getLsbD d.1)).length
      cntUpAt 0x50017 0 0 late s

/-- Nodes of a cluster whose CONTEXT answer is still to come (R138). -/
def ctxPending (s : State) (c : Nat) : Bool :=
  (clOf s c).ctxOld.isSome && (members s c).any (fun n => !(clOf s c).ctxAnswered.getLsbD (dirMember s n))
/-- The state of a changeover ends its verification (R188): IDLE, EPOCH_MISMATCH for those that did not confirm. -/
def endVerify (s : State) : State :=
  let bad := ((assigned s).filter (fun n => !s.epoch.verified.contains n)).length
  let sw := s.epoch.switchAsn
  let s := updEp (fun p => { p with state := 0, mismatched := bad }) s
  if bad = 0 then s
  else record 0x6010 4 s.epoch.inForce (be 1 1 ++ be 1 0 ++ be 2 bad ++ be 4 sw) (stickySet 98 s.epoch.inForce s)

/-- Verification ends when every node assigned to a cluster has answered (R188). -/
def verifyDone (s : State) : State :=
  if s.epoch.state = 3 ∧ (assigned s).all (fun n => s.epoch.verified.contains n || s.epoch.heard.contains n) then endVerify s
  else s

/-- What a member's answer to one of the module's own control frames does (R138, R174, R183, R184, R188, R225). -/
def controlAnswer (e : Expect) (ack : Bool) (n : Nat) (s : State) : State :=
  if e.kind = .context then
    updCl e.cluster (fun x => { x with ctxAnswered := x.ctxAnswered ||| BitVec.twoPow 32 (dirMember s n) }) s
  else if e.func = 0x21 then
    if s.epoch.state ≠ 2 ∨ s.epoch.next ≠ e.arg then s
    else if ack then updEp (fun p => { p with armed := insertNat n p.armed }) s
    else updEp (fun p => { p with heard := insertNat n p.heard }) s
  else if e.func = 0x22 then
    if s.epoch.state ≠ 3 ∨ s.epoch.inForce ≠ e.arg then s
    else if ack then updEp (fun p => { p with verified := insertNat n p.verified }) s
    else updEp (fun p => { p with heard := insertNat n p.heard }) s
  else if e.func = 0x23 then updEp (fun p => { p with disarm := p.disarm.filter (fun k => !(k.1 == n && k.2 == e.arg)) }) s
  else if e.func = 3 ∧ ack then
    { s with trk := { s.trk with floors := s.trk.floors.filter (fun p =>
        !(p.1 / 4 == n && bitOf e.mask (p.1 % 4) && p.2 == e.arg)) } }
  else s

/-- A join in progress for a node ends (R151). -/
def dropJoins (n : Nat) (s : State) : State := updMac (fun m => { m with joins := m.joins.filter (fun j => j.node != some n) }) s

/-- A node leaves its cluster or the directory (R114, R151): its link state and a join in progress go, its targets enter the
residue as LEFT. -/
def leaveCluster (n : Nat) (s : State) : State :=
  let s := dropJoins n (clearShock n s)
  let s := updMac (fun m => { m with nodes := mdel m.nodes n }) s
  let s := { s with trk := { s.trk with floors := s.trk.floors.filter (fun p => p.1 / 4 != n) } }
  let s := updEp (fun p => { p with disarm := p.disarm.filter (fun k => k.1 != n) }) s
  let hit (k : Ticket) : Bool := k.state == 1 && k.targets.any (fun x => x.node == n && !x.acked && x.out.isNone)
  ((s.adm.tickets.filter (fun p => hit p.2)).map (fun p => p.2.id)).foldl (fun s tk =>
    release tk (updTicket tk (fun k => { k with
      targets := k.targets.map (fun x => if x.node = n ∧ !x.acked ∧ x.out.isNone then { x with out := some 3 } else x) }) s)) s

/-- The air time of a broadcast frame as M0 reserves it (R130, R135): 127 bytes. -/
def bcastDur (s : State) (x : Nat) : Nat := airTime (xMode s x) 127
/-- The broadcast positions of a superframe. -/
def bcastAsns (sf : Nat) : List Nat := (List.range 16).map (fun i => sf * 256 + 16 * i)
/-- Reserve, or give back, the broadcast frames of a superframe on a transceiver (R135). -/
def bcastEach (f : Nat → Nat → Nat → Nat → State → State) (sf x : Nat) (s : State) : State :=
  (bcastAsns sf).foldl (fun s a =>
    match chanBcast s x a with
    | some ch => f x ch sf (bcastDur s x) s
    | none => s) s
/-- Reserve the broadcast frames of a superframe on every transceiver in service. -/
def bcastReserve (sf : Nat) (s : State) : State :=
  (List.range 4).foldl (fun s x =>
    if inService s x && radioUp s && !(xOf s x).bres.contains sf then
      updX x (fun k => { k with bres := k.bres ++ [sf] }) (bcastEach gateReserve sf x s)
    else s) s
/-- Give them back. -/
def bcastUnreserve (sf : Nat) (s : State) : State :=
  (List.range 4).foldl (fun s x =>
    if (xOf s x).bres.contains sf then
      updX x (fun k => { k with bres := k.bres.filter (fun f => f != sf) }) (bcastEach gateRelease sf x s)
    else s) s

/-- A refusal of a reserved frame by the gate (R135). -/
def gateFault (x ch a : Nat) (s : State) : State :=
  let s := gateRefused x (stickySet 64 x s)
  record 0x4013 6 x (be 1 ch ++ be 3 0 ++ be 4 a) s

/-- A cluster's key moves to the next generation (R153): its counters start again from 0, and so do those of its members. -/
def moveKey (c : Nat) (s : State) : State :=
  (members s c).foldl (fun s n => updNode n (fun x => { x with upCounter := none }) s)
    (updCl c (fun x => { x with counter := 0, keyGen := x.keyGen + 1 }) s)

/-- The next frame counter of a cluster; the key moves before it reaches 2^31 (R153). -/
def nextCounter (c : Nat) (s : State) : State :=
  if (clOf s c).counter + 1 < 2147483648 then updCl c (fun x => { x with counter := x.counter + 1 }) s else moveKey c s

/-- A cluster frame is keyed (R133, R141, R145): counted, its air time used, the path asked, its answers expected. -/
def keyCluster (x a n ch dur : Nat) (e : Expect) (f : Air) (s : State) : State :=
  let psdu := clusterPsdu s e.cluster e.targets f
  let s := gateUse x ch (a / 256) dur (cntUpAt 0x400F1 x 0 1 s)
  let s := nextCounter e.cluster s
  let s := updX x (fun k => { k with busy := a + n, expect := ({ e with last := a + n - 1 } :: k.expect).take 2 }) s
  let s := if e.kind = .probe then s
    else updCl e.cluster (fun k =>
      if e.alt then { k with askedAlt := true, lastEchoAlt := a + 1, dueAlt := false }
      else { k with askedPri := true, lastEchoPri := a + 1, duePri := false }) s
  emit (.radio x a ch f psdu) s

/-- Bookings not sent yet follow the hop function as it now stands (R132, R137); one left without a channel is lost. -/
def rechannel (s : State) : State :=
  (s.adm.bookings.filter (fun b => !b.sent)).foldl (fun s b =>
    let alt := pathX s b.cluster false != b.xcvr
    match chanOf s b.cluster alt b.asn with
    | some ch =>
      if ch = b.chan then s
      else
        let s := gateReserve b.xcvr ch (b.asn / 256) b.dur (gateRelease b.xcvr b.chan (b.asn / 256) b.dur s)
        updAdm (fun m => { m with bookings := m.bookings.map (fun y => if y == b then { y with chan := ch } else y) }) s
    | none => loseBooking b s) s

/-- The floors to send after a switch (R225): those in force that differ from the manifests'. -/
def floorsAfter (s : State) : NMap Nat :=
  ((assigned s).map (fun n => ([1, 2, 3, 4].filter (fun ch =>
    lget (mgetD s.epoch.floorsIn n [0, 0, 0, 0]) (ch - 1) 0 != floorOf s n ch)).map (fun ch => (n * 4 + ch - 1, floorOf s n ch)))).flatten

/-- The module changes epoch (R139, R187): the compiled content and the staged radio settings come into force. -/
def switchEpoch (s : State) : State :=
  let s := bcastUnreserve (frame s + 1) (bcastUnreserve (frame s) s)
  let s := updMac (fun m => { m with radio := s.epoch.frozen.filter (fun p => stagedObjs.contains (p.1 / 4294967296)) }) s
  let s := updEp (fun p => { p with
    state := 3, inForce := p.next, hashInForce := p.hashNext, content := p.frozen, floorsIn := p.floorsNext
    zoneInForce := p.zoneList, yearIn := p.yearNext, segIn := p.segNext, verified := [], heard := [], resume := 0
    disarm := p.disarm.filter (fun k => k.2 != p.next)
    cancel := p.cancel.filter (fun c => c.epoch != p.next) }) s
  let s := ropUp 0x60019 1 (bcastReserve (frame s + 1) (bcastReserve (frame s) (rechannel s)))
  let left := s.trk.floors.filter (fun p => !s.epoch.staged.contains (p.1 / 4))
  let s := { s with trk := { s.trk with floors := left.foldl (fun m p => mset m p.1 p.2) (floorsAfter s) } }
  condSet 96 0 (zoneStale s) s

end Sys2Proof.Machine
end

