-- ==== Sys2Proof/Machine/Cydel.lean ====
section
/-!
DEFINITION. What a position carries (R103, R123, R142, R156): a broadcast frame, a booked attempt, or one of M0's own unbooked frames; and
the commands SLOT_COMMAND_LATE, SLOT_POSITION and ACK_FIELD.
-/
namespace Sys2Proof.Machine

/-- SLOT_COMMAND_LATE (R21): the transmitter stays off for the slot that starts in 1 ms; counted and recorded. -/
def execSlotCommandLate (t : Nat) (x : Fin 4) (s : State) : Host.Outcome State Fault Refusal :=
  let s := tick t s
  done s (if !inService s x.val then s
    else
      let a := asn s + 1
      let s := updX x.val (fun k => { k with lateAsn := some a }) s
      icuRaise (68 + x.val) (record 0x4012 3 x.val (be 8 a) (cntUpAt 0x400F0 x.val 0 1 s)))

/-- The positions of a superframe's 16 broadcast frames that the tracker's standing self-admission holds (R105), spread
evenly (log). -/
def trackerHolds (s : State) (i : Nat) : Bool :=
  let n := getN s 0x50110
  decide (i * n / 16 < (i + 1) * n / 16)

/-- A cluster that can own an open urgent position of a transceiver (R143, R144). -/
def canOwn (s : State) (x c : Nat) : Bool :=
  inUse s c && serving s c == x && decide (32 ≤ openCap (cMode s c)) && !(members s c).isEmpty
/-- The owner of the next open urgent position (R143): round-robin among clusters whose last burst set MORE, else among
all. -/
def nextOwner (s : State) (x after : Nat) : Option Nat :=
  let all := (clustersIn s).filter (canOwn s x)
  let more := all.filter (fun c => (clOf s c).more)
  let l := if more.isEmpty then all else more
  match l.find? (fun c => decide (after ≤ c)) with
  | some c => some c
  | none => l.head?
/-- URG_OWN (R155): the urgent positions among the next 15, whether each is open, its owner. -/
def urgOwners (x : Nat) : List Nat → State → State × List (Option Nat)
  | [], s => (s, [])
  | a :: r, s =>
    let o := if bookedAt s x a then none else nextOwner s x (xOf s x).urgNext
    let s := match o with | some c => updX x (fun k => { k with urgNext := c + 1 }) s | none => s
    let (s, l) := urgOwners x r s
    (s, o :: l)
/-- The urgent positions among the next 15. -/
def urgentAhead (s : State) (x a : Nat) : List Nat :=
  ((List.range 15).map (fun i => a + 1 + i)).filter (fun p => roleAt s x p == .urgent && (!isQ s x || p % 2 == 0))

/-- The epoch payload is due (R156, R183, R184): ARMED, or CANCELLED payloads. -/
def epochDue (s : State) (a : Nat) : Bool :=
  s.epoch.state == 2 || (match s.epoch.cancel with | some c => decide (a ≤ c.until_) | none => false)
/-- The epoch payload (R186): of the armed epoch, else of the cancelled one. -/
def epochPayload (s : State) : Payload :=
  match s.epoch.state == 2, s.epoch.cancel with
  | false, some c => .epoch 3 c.epoch c.switchAsn c.hash c.flags c.imageId
  | _, _ => .epoch 2 s.epoch.next s.epoch.switchAsn s.epoch.hashNext (packBits [s.epoch.radio, s.epoch.image]) s.epoch.imageId

/-- Beacons resume after a restart in ARMED (R191): a switch less than one superframe ahead, or passed, is adopted; where the
check of R184 was due before, it is not made. -/
def beaconsResume (a : Nat) (s : State) : State :=
  if s.epoch.resume ≠ 1 ∨ s.epoch.state ≠ 2 then s
  else if s.epoch.switchAsn < a + 256 then verifyDone (switchEpoch s)
  else updEp (fun p => { p with resume := if p.switchAsn ≤ a + 512 then 2 else 0 }) s

/-- The oldest join with a part due on a transceiver (R149). -/
def joinDue (s : State) (x : Nat) : Option Join := s.mac.joins.find? (fun j => j.xcvr == x && !j.parts.isEmpty)
/-- The floors of a node that joins after EPOCH_OPEN (R166): its manifest entries take the floors in force; until it holds one it is
sent them. -/
def joinFloors (n : Nat) (s : State) : State :=
  let v := [1, 2, 3, 4].map (floorOf s n)
  let put (m : NMap (List Nat)) : NMap (List Nat) := if (mget m n).isSome then m else mset m n v
  let s := floorsOwed n s
  updEp (fun p => { p with floorsIn := put p.floorsIn, floorsNext := if p.state = 0 then p.floorsNext else put p.floorsNext }) s
/-- The node is told its membership (R149): it has joined, its history begins, a CONTEXT follows. -/
def joined (n : Nat) (s : State) : State :=
  let c := (dirCluster s n).getD 0
  let k : Node := { Node.init with joined := 1, heardFab := s.clk.fab, heard := time64 s }
  let s := joinFloors n (updMac (fun m => { m with nodes := mset m.nodes n k }) s)
  let s := updCl c (fun k => { k with
    ctxOld := some (k.ctxOld.getD (crow s c))
    ctxAnswered := (if k.ctxOld.isSome then k.ctxAnswered else BitVec.allOnes 32) &&& ~~~(BitVec.twoPow 32 (dirMember s n)) }) s
  cntUp 0x40015 s
/-- What a part of a join holds (R149): JOIN_RESP in the clear, JOIN_ASSIGN under the join key. -/
def joinContent (s : State) (j : Join) (ptype part : Nat) : Payload :=
  if ptype = 4 then .join 4 part [] (joinResp j) else .join ptype part (joinKey j) (joinAssign s (j.node.getD 0))
/-- A join part is sent (R149): after the last the node has joined, where the directory still holds it. -/
def joinPart (j : Join) (s : State) : State × Payload :=
  match j.parts with
  | [] => (s, .none)
  | (p, i) :: r =>
    let put (f : List Join) : State := updMac (fun m => { m with joins := f }) s
    let others := s.mac.joins.filter (fun k => k != j)
    let body := joinContent s j p i
    if r.isEmpty then
      (match j.node with
        | some n => if (dirCluster s n).isSome && rOct (dirRow s n) 0 == j.eui then joined n (put others) else put others
        | none => put others, body)
    else (put (s.mac.joins.map (fun k => if k == j then { k with parts := r, waited := 0 } else k)), body)

/-- The group command copy to send next on a transceiver (R156): class U before N, then in order of admission. -/
def copyDue (s : State) (x : Nat) : Option GroupCopy :=
  (s.mac.copies.filter (fun c => c.xcvr == x && decide (s.clk.fab < c.deadline))).foldl (fun b c =>
    match b with
    | none => some c
    | some d => if c.dclass < d.dclass ∨ (c.dclass = d.dclass ∧ c.admSeq < d.admSeq) then some c else some d) none
/-- A group copy's payload, passed by the floor guard (R155, R224). -/
def copyPayload (c : GroupCopy) (s : State) : State × Payload :=
  let s := updMac (fun m => { m with copies := m.copies.filter (fun k => k != c) }) s
  match ticketOf s c.ticket with
  | none => (s, .none)
  | some k =>
    let (s, args) := guardArgs k.frame.endpoints k.frame.func k.frame.args (k.targets.map (fun x => x.node)) s
    (s, .copy k.admSeq k.kind k.group (k.deadlineAsn % 16777216) k.frame.endpoints k.frame.func args)

/-- The first frame of a queue that was there 1 ms before the position's start, and the others in order (R21, R210). -/
def firstInTime (start : Nat) : List TrajFrame → Option (TrajFrame × List TrajFrame)
  | [] => none
  | f :: r =>
    if f.queued + Config.msCycles ≤ start then some (f, r)
    else (firstInTime start r).map (fun p => (p.1, f :: p.2))

/-- The trajectory frame for the position `a` (R210): stale frames are discarded; one queued in the last 1 ms waits. -/
def trajDue (x a : Nat) (s : State) : State × Payload :=
  let q := lget s.trk.queues x []
  let live := q.filter (fun f => f.entries.isEmpty || decide (s.clk.fab ≤ f.lastEta))
  let s := cntUpAt 0x70016 0 0 (q.length - live.length) s
  let put (l : List TrajFrame) (s : State) : State := { s with trk := { s.trk with queues := lset s.trk.queues x l } }
  match firstInTime (fabOfAsn s a) live with
  | none => (put live s, .none)
  | some (f, r) =>
    let s := if f.need < s.clk.fab then cntUp 0x70015 s else s
    (cntUp 0x70014 (put r s), .traj f (baseEta s f a))

/-- The payload of a broadcast frame (R105, R156). -/
def bcastPayload (x a : Nat) (s : State) : State × Payload :=
  let i := a % 256 / 16
  let epochFirst := epochDue s a && (xOf s x).epochSent != a / 256 + 1
  let sent (s : State) : State := updX x (fun k => { k with epochSent := a / 256 + 1 }) s
  let wait (s : State) : State := updMac (fun m => { m with joins := m.joins.map (fun j =>
    if j.xcvr = x ∧ !j.parts.isEmpty then { j with waited := j.waited + 1 } else j) }) s
  if trackerHolds s i then
    match joinDue s x with
    | some j => if 4 ≤ j.waited then joinPart j s else let (s, p) := trajDue x a s; (wait s, p)
    | none => trajDue x a s
  else if epochFirst then (wait (sent s), epochPayload s)
  else
    match joinDue s x with
    | some j => joinPart j s
    | none =>
      match copyDue s x with
      | some c => copyPayload c s
      | none => if epochDue s a then (sent s, epochPayload s) else (s, .none)

/-- The bytes of a payload (R155, R186, R211). -/
def payloadLen (p : Payload) : Nat := p.bytes.length

/-- A broadcast frame is keyed (R130, R155, R156). One that the gate refuses leaves its payload where it was; the refusal of
a reserved frame is a fault (R135). -/
def keyBroadcast (x a : Nat) (s : State) : State :=
  let s := beaconsResume a s
  match chanBcast s x a with
  | none => s
  | some ch =>
    let held := (xOf s x).bres.contains (a / 256)
    let s := if held then gateRelease x ch (a / 256) (bcastDur s x) s else s
    let sp := bcastPayload x a s
    let so := urgOwners x (urgentAhead s x a) sp.1
    let dur := airTime (xMode s x) (macOver (xMode s x) + 40 + payloadLen sp.2)
    if !gateRoom s x ch (a / 256) dur then (if held then gateFault x ch a s else gateRefused x s)
    else
      let s := so.1
      let k := xOf s x
      let flags := packBits ([sp.2 != .none, s.time.holdover, decide (2147483648 ≤ k.bcastCounter + 65536)]
        ++ so.2.map (fun o => o.isSome))
      let f := beaconAt s x a flags ((so.2.map (fun o => o.getD 255)) ++ List.replicate (3 - so.2.length) 255) sp.2
      let psdu := bcastPsdu s x f
      let s := updX x (fun k => { k with bcastCounter := k.bcastCounter + 1, busy := a + (if isQ s x then 2 else bcastLen (xMode s x)) }) s
      emit (.radio x a ch f psdu) (startupMark 6 (gateUse x ch (a / 256) dur (cntUpAt 0x400F1 x 0 1 s)))

/-- The bit set of some members. -/
def memberBits (l : List Nat) : BitVec 32 := l.foldl (fun b i => b ||| BitVec.twoPow 32 i) 0

/-- A frame that expects answers. -/
def expectOf (kind : FrameKind) (a c : Nat) (alt : Bool) (targets : BitVec 32) : Expect :=
  { kind, asn := a, cluster := c, alt, targets, ticket := 0, last := a, seg := none, func := 0, arg := 0, mask := 0 }

/-- A booked attempt is keyed (R101, R107, R157, R175, R224): to the targets that still lack it. -/
def keyBooked (b : Booking) (s : State) : State :=
  match ticketOf s b.ticket with
  | none => dropBookings (fun x => x == b) s
  | some k =>
    let c := b.cluster
    let alt := pathX s c false != b.xcvr
    let ts := match b.seg with
      | none => missing k c
      | some g => (missing k c).filter (lacks s k c g)
    if ts.isEmpty then release b.ticket s
    else if !gateBooked s b.xcvr b.chan (b.asn / 256) then loseBooking b (gateFault b.xcvr b.chan b.asn s)
    else
      let bits := memberBits (ts.map (fun x => x.member))
      let ev := (clOf s c).cevent % 65536
      let cfs := match k.cfs.find? (fun p => p.1 == c) with | some p => p.2 | none => 0
      let ex := k.deadlineAsn % 16777216
      let e := { expectOf .command b.asn c alt bits with ticket := k.id, seg := b.seg, arg := b.attempt }
      let (s, f) : State × Air := match b.seg with
        | none =>
          let (s, args) := guardArgs k.frame.endpoints k.frame.func k.frame.args (ts.map (fun x => x.node)) s
          (s, .command c ev cfs ex k.admSeq bits.toNat k.frame.endpoints k.frame.func args (clOf s c).servingAlt)
        | some g => (s, .segment c ev cfs ex k.admSeq bits.toNat g.kind g.objId g.index g.frag (segData s g) (clOf s c).servingAlt)
      let s := gateRelease b.xcvr b.chan (b.asn / 256) b.dur s
      let s := updAdm (fun m => { m with bookings := m.bookings.map (fun y => if y == b then { y with sent := true } else y) }) s
      let s := updTicket k.id (fun k =>
        if k.begun.contains (c, b.attempt) then k else { k with sent := k.sent + 1, begun := (c, b.attempt) :: k.begun }) s
      keyCluster b.xcvr b.asn b.len b.chan b.dur e f s

/-- The positions that the uplink runs of a cluster take on a transceiver in a superframe (R142). -/
def runSlots (s : State) (x c : Nat) : List Nat :=
  ((rOct (crow s c) 9).map (fun b =>
    if b.toNat = 255 then [] else (List.range (if isQ s x then 2 else upLen (cMode s c))).map (fun i => b.toNat + i))).flatten

/-- Whether the runs of two clusters share a position of a transceiver. -/
def runsMeet (s : State) (x c d : Nat) : Bool := (runSlots s x c).any (fun p => (runSlots s x d).contains p)

/-- A swapped cluster uses its shadow runs on its serving transceiver (R142): where they meet no hard run and no shadow run
that a swapped cluster of a lower number uses there. Answers the clusters of `l` (rising) that do. -/
def shadowUsers (s : State) (x : Nat) : List Nat → List Nat → List Nat
  | [], acc => acc
  | c :: r, acc =>
    if (clOf s c).servingAlt && serving s c == x && !(runSlots s x c).any (fun p => hardAt s x p)
        && !acc.any (runsMeet s x c)
    then shadowUsers s x r (c :: acc) else shadowUsers s x r acc

/-- An uplink run in use covers a position (R142): a hard run of a cluster that its primary path serves, or a shadow run
after a swap. -/
def uplinkAt (s : State) (x a : Nat) : Bool :=
  let cs := (clustersIn s).foldl (fun l c => insertNat c l) []
  cs.any (fun c => !(clOf s c).servingAlt && serving s c == x && (runSlots s x c).contains (a % 256))
    || (shadowUsers s x cs []).any (fun c => (runSlots s x c).contains (a % 256))

/-- One of M0's own frames: what it expects, the frame, its bytes. -/
structure Own where
  e : Expect
  f : Air
  len : Nat
  deriving DecidableEq, Repr

/-- The members of a cluster whose nodes satisfy `p`. -/
def who (s : State) (c : Nat) (p : Nat → Bool) : BitVec 32 := memberBits (((members s c).filter p).map (dirMember s))

/-- A COMMAND of the module's own (R157, R174): ADM_SEQ 0, its own CFS. -/
def ownCommand (s : State) (c a : Nat) (alt : Bool) (bits : BitVec 32) (endpoints func : Nat) (args : Bytes) (arg mask : Nat) : Own :=
  { e := { expectOf .control a c alt bits with func, arg, mask }
    f := .command c ((clOf s c).cevent % 65536) ((clOf s c).cfs + 1) ((a + 256) % 16777216) 0 bits.toNat endpoints func args
      (clOf s c).servingAlt
    len := macOver (cMode s c) + 22 + args.length }

/-- The floors still to be sent to a cluster (R225): one channel and value, with the nodes that wait for it. -/
def floorDue (s : State) (c : Nat) : Option (Nat × Nat × List Nat) :=
  match s.trk.floors.find? (fun p => dirCluster s (p.1 / 4) == some c && (nodeOf s (p.1 / 4)).joined == 1) with
  | none => none
  | some p => some (p.1 % 4, p.2, (members s c).filter (fun n => mget s.trk.floors (n * 4 + p.1 % 4) == some p.2))

/-- Whether a CONTEXT can go in this position on this path (R138): a path the change left alone, on a channel that is the
same under both contexts. -/
def ctxHere (s : State) (c : Nat) (alt : Bool) (a : Nat) : Bool :=
  match (clOf s c).ctxOld with
  | none => false
  | some o =>
    let i := if alt then 4 else 2
    rNat o i == rNat (crow s c) i && rNat o (i + 1) == rNat (crow s c) (i + 1) && rNat o 1 == cMode s c
      && chanRow s o alt a == chanOf s c alt a

/-- The control frame a cluster waits for on its serving path (R138, R183, R184, R188, R225). -/
def controlDue (s : State) (c a : Nat) (alt : Bool) : Option Own :=
  let arm := who s c (fun n => s.epoch.staged.contains n && !s.epoch.armed.contains n && !s.epoch.heard.contains n)
  let chk := who s c (fun n => !s.epoch.verified.contains n && !s.epoch.heard.contains n)
  let old := ((members s c).filterMap (fun n => mget s.epoch.disarm n)).head?.getD 0
  let dis := who s c (fun n => mget s.epoch.disarm n == some old)
  if ctxPending s c && ctxHere s c alt a then
    some { e := expectOf .context a c alt 0, f := .context c (clOf s c).cevent (crow s c) (clOf s c).servingAlt,
           len := macOver (cMode s c) + 26 }
  else if (clOf s c).servingAlt != alt then none
  else if s.epoch.state = 2 ∧ arm ≠ 0 then
    some (ownCommand s c a alt arm 1 0x21 (le 2 s.epoch.next ++ le 5 s.epoch.switchAsn ++ s.epoch.hashNext) s.epoch.next 0)
  else if s.epoch.state = 3 ∧ chk ≠ 0 then some (ownCommand s c a alt chk 1 0x22 (le 2 s.epoch.inForce) s.epoch.inForce 0)
  else if dis ≠ 0 then some (ownCommand s c a alt dis 1 0x23 (le 2 old) old 0)
  else match floorDue s c with
    | none => none
    | some (ch, v, ns) =>
      some (ownCommand s c a alt (memberBits (ns.map (dirMember s))) (2 ^ (ch + 1)) 3 (le 1 v) v (2 ^ ch))

/-- The paths of a cluster on a transceiver, serving first. -/
def pathsOn (s : State) (x c : Nat) : List Bool :=
  let v := (clOf s c).servingAlt
  [v, !v].filter (fun alt => pathX s c alt == x)

/-- The ECHO a cluster waits for on a transceiver (R145). -/
def echoDue (s : State) (x c a : Nat) : Option Own :=
  match (pathsOn s x c).find? (fun alt => if alt then (clOf s c).dueAlt else (clOf s c).duePri) with
  | none => none
  | some alt =>
    some { e := expectOf .echo a c alt 0
           f := .echo c ((clOf s c).cevent % 65536) (((clOf s c).echoSeq + 1) % 256) (clOf s c).servingAlt
           len := macOver (cMode s c) + 6 }

/-- The probe of a SHOCKED node that a transceiver of its cluster can send (R116). -/
def probeDue (s : State) (x a : Nat) : Option (Nat × Own) :=
  match s.mac.probes.find? (fun n => match dirCluster s n with | some c => inUse s c && !(pathsOn s x c).isEmpty | none => false) with
  | none => none
  | some n =>
    let c := (dirCluster s n).getD 0
    let alt := (pathsOn s x c).headD false
    some (n, { e := expectOf .probe a c alt (BitVec.twoPow 32 (dirMember s n))
               f := .echo c ((clOf s c).cevent % 65536) (clOf s c).echoSeq (clOf s c).servingAlt
               len := macOver (cMode s c) + 6 })

/-- Where an unbooked frame could go from this position (R107, R136): its positions are free, and its channel is open. Answers the
positions and the channel. -/
def ownPlace (s : State) (x a : Nat) (o : Own) : Option (Nat × Nat) :=
  match runLen (cMode s o.e.cluster) o.len (maxRun s x) with
  | none => none
  | some n =>
    if !runFree s x a n (roleAt s x a == .urgent) || (List.range n).any (fun i => uplinkAt s x (a + i)) then none
    else match chanOf s o.e.cluster o.e.alt a with
    | none => none
    | some ch => if (closedOf s (xBand s x) (a / 256)).getLsbD ch then none else some (n, ch)

/-- A frame that M0 would send: its requester on the air arbiter (R415: 0 ECHO, 1 PROBE, 2 CONTROL), the frame, what else its
keying changes. -/
abbrev Cand := Nat × Own × (State → State)

/-- Clusters of a transceiver in turn, from the one after the last served. -/
def inTurn (s : State) (x : Nat) : List Nat :=
  let l := (clustersIn s).filter (fun c => !(pathsOn s x c).isEmpty && !(members s c).isEmpty)
  l.filter (fun c => decide ((xOf s x).rr ≤ c)) ++ l.filter (fun c => decide (c < (xOf s x).rr))

/-- The air arbiter grants the position among the candidates (R408, R415): the requester with the fullest counter, its first
frame that fits. M0 checks the gate budget (R107, R135) and withdraws a frame that fails, whose positions return (R414);
withholding it is no refusal by the gate. -/
def airRounds (x a : Nat) : Nat → List Cand → State → State
  | 0, _, s => s
  | fuel + 1, cs, s =>
    match airWinner x (cs.map (fun c => c.1)) s with
    | none => s
    | some r =>
      match cs.find? (fun c => c.1 == r) with
      | none => s
      | some (_, o, f) =>
        match ownPlace s x a o with
        | none => s
        | some (n, ch) =>
          let dur := airTime (cMode s o.e.cluster) o.len
          let s := airGrant x r n s
          if gateRoom s x ch (a / 256) dur then f (keyCluster x a n ch dur o.e o.f s)
          else airRounds x a fuel (cs.eraseP (fun c => c.1 == r)) (airReturn x r s)

/-- An unbooked frame (R103, R116, R138, R145, R415): what is due asks the air arbiter, which grants what fits here. -/
def keyUnbooked (x a : Nat) (s : State) : State :=
  let turn := inTurn s x
  let echoes := turn.filterMap (fun c => (echoDue s x c a).map (fun o =>
    ((0, o, updCl c (fun k => { k with echoSeq := (k.echoSeq + 1) % 256 })) : Cand)))
  let probes := match probeDue s x a with
    | none => []
    | some (n, o) => [((1, o, fun s : State =>
        let r := match (nodeOf s n).shock with | some (_, r) => r - 1 | none => 0
        let s := updNode n (fun k => { k with shock := k.shock.map (fun p => (p.1, r)) }) s
        updMac (fun m => { m with probes := (m.probes.filter (fun k => k != n)) ++ (if r = 0 then [] else [n]) }) s) : Cand)]
  let controls := (turn.map (fun c => (pathsOn s x c).filterMap (fun alt => (controlDue s c a alt).map (fun o =>
    ((2, o, fun s : State =>
      let s := updX x (fun k => { k with rr := c + 1 }) s
      if o.e.kind = .control then updCl c (fun k => { k with cfs := (k.cfs + 1) % 65536 }) s else s) : Cand))))).flatten
  let all := echoes ++ probes ++ controls
  let s := ([0, 1, 2].filter (fun r => all.any (fun c => c.1 == r))).foldl (fun s r => airAsk x r s) s
  airRounds x a all.length (all.filter (fun c => (ownPlace s x a c.2.1).isSome)) s

/-- SLOT_POSITION (R123): what the position that starts now carries. -/
def execSlotPosition (t : Nat) (x : Fin 4) (s : State) : Host.Outcome State Fault Refusal :=
  let s := tick t s
  let x := x.val
  let a := asn s
  let mine := s.adm.bookings.find? (fun b => b.xcvr == x && b.asn == a && !b.sent)
  let lose (s : State) : State := match mine with | some b => loseBooking b s | none => s
  done s (if isQ s x && a % 2 == 1 then s
    else
      let s := icuRaise (64 + x) s
      if !radioUp s || !inService s x then lose s
      else if (xOf s x).lateAsn = some a then updX x (fun k => { k with lateAsn := none }) (lose s)
      else if a < (xOf s x).busy then s
      else
        match roleAt s x a with
        | .broadcast => keyBroadcast x a s
        | .interior => s
        | .join => s
        | .urgent => match mine with | some b => keyBooked b s | none => keyUnbooked x a s
        | .cluster => match mine with | some b => keyBooked b s | none => keyUnbooked x a s)

/-- The codes that stand out of an acknowledgement field (R141): member and whether ACK. -/
def detected (codes : List CodeObs) : List (Nat × Bool) :=
  (codes.filter (fun k => decide (600 ≤ k.energy ∧ 900 ≤ k.overDecoy))).map (fun k => (k.member, k.ack))

/-- One member's entry (R98, R141, R146): history, last heard, and its answer to a control frame. -/
def memberEntry (e : Expect) (det : List (Nat × Bool)) (s : State) (n : Nat) : State :=
  let m := dirMember s n
  let hit := det.any (fun d => d.1 == m)
  let s := pushHist n hit s
  if !hit then s
  else
    let s := heardFrom n s
    if e.kind = .context ∨ (e.kind = .control ∧ e.targets.getLsbD m) then controlAnswer e (det.contains (m, true)) n s else s

/-- A probe's entry (R116): the last of 16 clears SHOCKED. -/
def probeEntry (e : Expect) (det : List (Nat × Bool)) (s : State) : State :=
  match (members s e.cluster).find? (fun n => e.targets.getLsbD (dirMember s n)) with
  | none => s
  | some n =>
    let s := memberEntry e det s n
    match (nodeOf s n).shock with
    | some (_, 0) => clearShock n s
    | _ => s

/-- ACK_FIELD (R141): the answers to the frame that ended in the position before. -/
def execAckField (t : Nat) (x : Fin 4) (codes : List CodeObs) (s : State) : Host.Outcome State Fault Refusal :=
  let s := tick t s
  let x := x.val
  done s (match (xOf s x).expect.find? (fun e => e.last + 1 == asn s) with
    | none => s
    | some e =>
      let det := detected codes
      let s := updX x (fun k => { k with expect := k.expect.filter (fun y => y != e) }) s
      let s := cntUpAt 0x400F1 x 4 det.length s
      if e.kind = .probe then probeEntry e det s
      else
        let s := (members s e.cluster).foldl (memberEntry e det) s
        let s := if det.isEmpty then s
          else updCl e.cluster (fun k => if e.alt then { k with hitAlt := true } else { k with hitPri := true }) s
        let s := if e.kind = .context ∧ !ctxPending s e.cluster then updCl e.cluster (fun k => { k with ctxOld := none }) s else s
        let s := if e.kind = .command then ticketAnswers e det s else s
        if e.func = 0x22 then verifyDone s else s)

end Sys2Proof.Machine
end

