-- ==== Sys2Proof/Machine/RecOps.lean ====
section
/-!
DEFINITION. The recorder's record bytes (R374), its token buckets (R388) and the samples of its summary rows (R383).
-/
namespace Sys2Proof.Machine

/-- Header bytes 0 to 15 of a record (R374). -/
def recHead (r : Record) : Bytes :=
  be 2 r.typ ++ be 1 (r.sev * 32 + b2n r.summary * 16 + r.origin * 4 + b2n r.late * 2) ++ be 1 (r.payload.length / 4)
    ++ be 4 r.rseq ++ be 8 r.time

/-- A record's bytes: header, CHECK over bytes 0 to 15, 18, 19 and the payload, and payload (R374). -/
def recBytes (r : Record) : Bytes :=
  recHead r ++ be 2 r.rep ++ be 2 r.source ++ be 4 r.lastMs
    ++ be 4 (crc32 (recHead r ++ be 2 r.source ++ r.payload)).toNat ++ be 4 0 ++ r.payload

/-- A page's bytes as far as it is written: its header (R379) and its records. -/
def recPage (g : RecPage) : Bytes :=
  be 4 0x44525047 ++ be 4 g.pageSeq ++ be 4 g.firstRseq ++ be 1 g.maxSev ++ be 1 g.records.length ++ be 2 (min g.drain 65535)
    ++ (g.records.map recBytes).flatten

/-- The units of one notice token (R388). -/
def tokenUnits : Int := 400000000

/-- Refill both buckets to this instant (R388): a rate each second, to a depth of two seconds. -/
def refillTokens (s : State) : State :=
  let dt : Int := (s.clk.fab - s.recd.refilled : Nat)
  let n : Int := getN s 0xB0111
  let u : Int := getN s 0xB0112
  { s with recd := { s.recd with
      normal := min (2 * n * tokenUnits) (s.recd.normal + n * dt)
      reserved := min (2 * u * tokenUnits) (s.recd.reserved + u * dt)
      refilled := s.clk.fab } }

/-- Whether a token for a severity is to be had (R388): RESERVED never refuses. -/
def tokenFor (sev : Nat) (s : State) : Bool := decide (6 ≤ sev ∨ tokenUnits ≤ s.recd.normal)

/-- Pay one token for a severity. -/
def payToken (sev : Nat) (s : State) : State :=
  if 6 ≤ sev then { s with recd := { s.recd with reserved := s.recd.reserved - tokenUnits } }
  else { s with recd := { s.recd with normal := s.recd.normal - tokenUnits } }

/-- Seconds of a SUMMARY_CONFIG interval (R383). -/
def sumSecs (i : Nat) : Nat := if i = 0 then 900 else if i = 1 then 3600 else 86400

/-- A summary row with no sample yet, in the interval that runs. -/
def sumStart (s : State) (interval : Nat) (part : Bool) : Summary :=
  let len := sumSecs interval
  { start := taiSec s / len * len * 16777216, samples := 0, lo := 0, loTime := 0, hi := 0, hiTime := 0, sum := 0,
    under := 0, ovr := 0, bins := List.replicate 16 0, partialFlag := part }

/-- One sample into a summary row (R383). -/
def sumTake (t : Nat) (low width v : Int) (x : Summary) : Summary :=
  let first := x.samples = 0
  let x := { x with
    lo := if first ∨ v < x.lo then v else x.lo
    loTime := if first ∨ v < x.lo then t else x.loTime
    hi := if first ∨ x.hi < v then v else x.hi
    hiTime := if first ∨ x.hi < v then t else x.hiTime
    sum := x.sum + v
    samples := x.samples + 1 }
  if v < low then { x with under := x.under + 1 }
  else
    let k := ((v - low) / width).toNat
    if width ≤ 0 ∨ 16 ≤ k then { x with ovr := x.ovr + 1 } else { x with bins := lmod x.bins k (· + 1) }

/-- A sample of a quantity reaches row `r` of SUMMARY_CONFIG when the row names it. -/
def sumRow (q : Nat) (v : Int) (s : State) (r : Nat) : State :=
  let c := getRow s 0xB0120 r
  if rNat c 0 = q ∧ rNat c 1 ≠ 0 then
    let m := mupd s.recd.sums r (sumStart s (rNat c 2) true) (sumTake (time64 s) (rInt c 3) (rInt c 4) v)
    { s with recd := { s.recd with sums := m } }
  else s

/-- A sample of a quantity of R383. -/
def sumSample (q : Nat) (v : Int) (s : State) : State := (List.range 16).foldl (sumRow q v) s

/-- Samples of consecutive quantities. -/
def sumSamples : Nat → List Int → State → State
  | _, [], s => s
  | q, v :: r, s => sumSamples (q + 1) r (sumSample q v s)

/-- The record of a summary row at its interval's end (R383, R382). -/
def sumRecord (s : State) (r : Nat) (x : Summary) : Record :=
  let c := getRow s 0xB0120 r
  let head := be 1 (rNat c 0) ++ be 1 (rNat c 1) ++ be 1 (rNat c 2) ++ be 1 (b2n x.partialFlag) ++ be 8 x.start
    ++ be 4 x.samples
  let body := if rNat c 1 = 1 then
      beI 4 x.lo ++ be 8 x.loTime ++ beI 4 x.hi ++ be 8 x.hiTime ++ beI 8 x.sum
    else
      beI 4 (rInt c 3) ++ beI 4 (rInt c 4) ++ be 4 x.under ++ be 4 x.ovr ++ (x.bins.map (be 4)).flatten
  { typ := if rNat c 1 = 1 then 0xB003 else 0xB004, sev := 1, summary := true, origin := 0, late := false, rseq := 0,
    time := time64 s, rep := 0, source := r, lastMs := 0, payload := padRec (head ++ body) }

/-- The end of an interval at one row: one record where it has samples; the next interval begins. -/
def sumEnd (interval : Nat) (s : State) (r : Nat) : State :=
  let c := getRow s 0xB0120 r
  if rNat c 1 ≠ 0 ∧ rNat c 2 = interval then
    match mget s.recd.sums r with
    | none => s
    | some x =>
      if (sumStart s interval false).start = x.start then s else
      let s := if x.samples = 0 then s else submitRec (sumRecord s r x) s
      let m := mset s.recd.sums r (sumStart s interval (x.partialFlag && x.samples == 0))
      { s with recd := { s.recd with sums := m } }
  else s

end Sys2Proof.Machine
end

