-- ==== Sys2Proof/Machine/CydelCmds.lean ====
section
/-!
DEFINITION. The other commands of Cydel (chapter 5): superframes and paths, supervision, uplink bursts, joining and the
directory.
-/
namespace Sys2Proof.Machine

/-- SHOCK_TIMEOUT (R116): SHOCKED clears 8 superframes after the declaration. -/
def execShockTimeout (t node : Nat) (s : State) : Host.Outcome State Fault Refusal :=
  let s := tick t s
  done s (match (nodeOf s node).shock with
    | some (f, _) => if f + 8 * Config.frameCycles ≤ s.clk.fab then clearShock node s else s
    | none => s)

/-- BLANK_DECISION (R136): the BLANK and CLOSED sets of the superframe after next, once; then its broadcast frames are
reserved on the channels those sets leave (R135). -/
def execBlankDecision (t : Nat) (s : State) : Host.Outcome State Fault Refusal :=
  let s := tick t s
  let b := s.mac.blank
  done s (if b.a.base = frame s + 1 ∧ b.b.base = frame s + 1 then s
    else
      let s := updMac (fun m => { m with blank := { a := blankNext s 0, b := blankNext s 1 } }) s
      bcastReserve (frame s + 2) s)

/-- SUPERVISION of a cluster in FAB cycles. -/
def supervision (s : State) (c : Nat) : Nat := rNat (crow s c) 8 * 100 * Config.msCycles

/-- The echo interval of a path in slots (R145): a superframe on the serving path, ALT_ECHO on the other, or SUPERVISION ÷ 3
where that is less than a superframe. -/
def echoInterval (s : State) (c : Nat) (alt : Bool) : Nat :=
  let short := rNat (crow s c) 8 * 20 / 3
  if short < 256 then short
  else if (clOf s c).servingAlt = alt then 256 else 256 * rNat (crow s c) 10

/-- Whether a path of a cluster wants an echo now (R145): from slot 192 of the last superframe of its interval, or in the last
quarter of a shortened interval, where nothing has asked its members in that interval. -/
def wantsEcho (s : State) (c : Nat) (alt : Bool) : Bool :=
  let n := echoInterval s c alt
  let a := asn s
  let last := if alt then (clOf s c).lastEchoAlt else (clOf s c).lastEchoPri
  if n < 256 then decide (last + (n - n / 4) ≤ a + 1)
  else decide (a % n ≥ n - 64) && decide (last < a / n * n + 1)

/-- ECHO_INSERT (R145): the paths of a cluster not echoed yet get an ECHO frame as unbooked traffic. -/
def execEchoInsert (t : Nat) (c : Fin 256) (s : State) : Host.Outcome State Fault Refusal :=
  let s := tick t s
  let c := c.val
  done s (if !inUse s c || (members s c).isEmpty then s
    else updCl c (fun k => { k with duePri := k.duePri || wantsEcho s c false, dueAlt := k.dueAlt || wantsEcho s c true }) s)

/-- A run of echo misses after a superframe (R147). -/
def missRun (asked hit : Bool) (n : Nat) : Nat := if !asked then n else if hit then 0 else n + 1

/-- A cluster at the end of a superframe (R147). -/
def classPaths (s : State) (c : Nat) : State :=
  updCl c (fun k =>
    let mp := missRun k.askedPri k.hitPri k.missPri
    let ma := missRun k.askedAlt k.hitAlt k.missAlt
    let former := if k.servingAlt then (k.askedPri, mp) else (k.askedAlt, ma)
    let run := if !k.servingAlt then 0
      else if former.1 && former.2 != 0 then 0 else if former.2 = 0 then k.restoreRun + 1 else k.restoreRun
    let serve := if k.servingAlt then ma else mp
    let other := if k.servingAlt then mp else ma
    { k with
      missPri := mp, missAlt := ma, askedPri := false, askedAlt := false, hitPri := false, hitAlt := false
      restoreRun := run
      swapDue := decide (3 ≤ serve ∧ other < 3)
      backDue := k.servingAlt && decide (rNat (crow s c) 11 ≤ run) }) s

/-- The fraction of a class's own capacity that is booked over the next 60 s (R90, R122): booked positions, and the
capacity of those 12,000 slots × 256. -/
def bookedPart (s : State) (cls : Nat) : Nat × Nat :=
  let a := asn s
  let n := ((s.adm.bookings.filter (fun b => b.dclass == cls && decide (a ≤ b.asn ∧ b.asn < a + 12000))).map (fun b => b.len)).sum
  let per (x : Nat) : Nat :=
    if cls = 1 then 35 else if cls = 2 then bookable s x else if cls = 3 then getN s 0x50101 else getN s 0x50102
  (n * 256, ((List.range 4).map per).sum * 12000)

/-- Summary samples of a superframe (R383). -/
def sampleBooked (s : State) : State :=
  [1, 2, 3, 4].foldl (fun s c =>
    let p := bookedPart s c
    sumSample (0x1F + c) (if p.2 = 0 then 0 else (p.1 * 1000 / p.2 : Nat)) s) s

/-- The broadcast key of a transceiver moves when its counter nears 2^31, as the last beacon before the boundary said (R153, R155). -/
def bcastRatchet (s : State) : State :=
  updMac (fun m => { m with xcvrs := m.xcvrs.map (fun k =>
    if 2147483648 ≤ k.bcastCounter + 65535 then { k with bcastCounter := 0, bcastGen := k.bcastGen + 1 } else k) }) s

/-- SUPERFRAME_BOUNDARY (R147): echoes are classed; past bookings and ledgers go; an EPOCH_OPEN that waited takes effect
(R180); the bitmaps are journalled (R190). -/
def execSuperframeBoundary (t : Nat) (s : State) : Host.Outcome State Fault Refusal :=
  let s := tick t s
  done s (if frame s ≤ s.mac.lastFrame then s
    else
      let s := icuRaise 72 (sampleBooked (updMac (fun m => { m with lastFrame := frame s }) s))
      let s := (clustersIn s).foldl classPaths s
      let past := s.adm.bookings.filter (fun b => decide (b.asn + b.len ≤ asn s))
      let s := cntUpAt 0x50016 0 0 (past.filter (fun b => !b.sent)).length s
      let s := updAdm (fun m => { m with bookings := m.bookings.filter (fun b => !decide (b.asn / 256 < frame s)) }) s
      let s := pruneLedgers (bcastRatchet s)
      let s := updMac (fun m => { m with xcvrs := m.xcvrs.map (fun k => { k with bres := k.bres.filter (fun f => decide (frame s ≤ f)) }) }) s
      let s := match s.epoch.openAt with
        | some (a, img) => if a ≤ asn s then openEpoch img s else s
        | none => s
      let s := updEp (fun p => { p with kept := (p.staged, p.armed, p.verified) }) s
      condSet 96 0 (zoneStale s) s)

/-- A cluster's serving path changes (R147): logged and recorded. -/
def swapPath (c dir : Nat) (s : State) : State :=
  let k := clOf s c
  let misses := if k.servingAlt then k.missAlt else k.missPri
  let s := updCl c (fun k => { k with servingAlt := !k.servingAlt, swaps := k.swaps + 1, swapDue := false, backDue := false,
                                      restoreRun := 0 }) s
  let s := logPush 0x40420 16 [vN (time64 s), vN c, vN dir] s
  record 0x4011 4 c (be 1 dir ++ be 1 (serving s c) ++ be 1 misses ++ be 1 0 ++ be 4 (asn s)) s

/-- PATH_SWAP (R147): the other path becomes serving. -/
def execPathSwap (t : Nat) (c : Fin 256) (s : State) : Host.Outcome State Fault Refusal :=
  let s := tick t s
  done s (if (clOf s c.val).swapDue && inUse s c.val then stickySet 65 c.val (swapPath c.val 0 s) else s)

/-- PATH_SWAP_BACK (R147): the former serving path serves again. -/
def execPathSwapBack (t : Nat) (c : Fin 256) (s : State) : Host.Outcome State Fault Refusal :=
  let s := tick t s
  done s (if (clOf s c.val).backDue && inUse s c.val then swapPath c.val 1 s else s)

/-- SUPERVISION_EXPIRY (R146): a member not heard for its cluster's SUPERVISION becomes LOST. -/
def execSupervisionExpiry (t node : Nat) (s : State) : Host.Outcome State Fault Refusal :=
  let s := tick t s
  let k := nodeOf s node
  done s (match dirCluster s node with
    | some c =>
      if k.joined = 1 ∧ max k.heardFab s.mac.restartAt + supervision s c ≤ s.clk.fab then
        lostRecord node 2 (updNode node (fun k => { k with joined := 2 }) s)
      else s
    | none => s)

/-- An event of a burst goes to the tracker's ingest queue (R200, R202): endpoint 5 only; a full queue discards. -/
def ingest (node start : Nat) (s : State) (e : BurstEvent) : State :=
  if e.endpoint ≠ 5 then s
  else if 1024 ≤ s.trk.ingest.length then stickySet 112 0 (cntUp 0x70012 s)
  else
    let p : Presence := { vertex := node, kind := e.kind, data := e.data, at_ := start - e.age * Config.msCycles, arrived := s.clk.fab }
    cntUp 0x70011 { s with trk := { s.trk with ingest := s.trk.ingest ++ [p] } }

/-- The channel of the answer to a burst, where it can go out (R133, R143). -/
def answerChan (b : Burst) (s : State) : Option Nat :=
  if radioUp s then chanOf s b.cluster (pathX s b.cluster false != b.xcvr) b.asn else none

/-- The answer to a burst (R133, R140, R143): the member's code 2i in the field of the position after it, on the burst's
channel. -/
def answerBurst (b : Burst) (ch : Nat) (s : State) : State :=
  emit (.radio b.xcvr (asn s) ch (.answer b.cluster (2 * b.member) b.asn) (answerPsdu s b.cluster (2 * b.member) b.asn))
    (gateUse b.xcvr ch (frame s) 640 s)

/-- A burst that is authentic (R153, R158, R159): the node is heard; a new burst's events are passed on, one like the last
four answered is dropped and counted; it is answered, and only an answered burst enters the last four. A node whose counter
nears 2^31 has its cluster's key moved. -/
def takeBurst (b : Burst) (n : Nat) (s : State) : State :=
  let s := heardFrom n s
  let dup := (nodeOf s n).bursts.contains b.seq
  let s := updNode n (fun k => { k with upCounter := some b.counter, rssi := b.rssi }) s
  let s := if dup then cntUp 0x40017 s
    else b.events.foldl (ingest n b.start) (updCl b.cluster (fun k => { k with more := bitOf b.flags 0 }) s)
  let s := match answerChan b s with
    | none => s
    | some ch =>
      if !gateRoom s b.xcvr ch (frame s) 640 then gateRefused b.xcvr s
      else updNode n (fun k => { k with bursts := if dup then k.bursts else (b.seq :: k.bursts).take 4 }) (answerBurst b ch s)
  if 2147483648 ≤ b.counter + 65536 then moveKey b.cluster s else s

/-- EVENT_BURST (R143, R153, R158, R159): a frame with a wrong FCS is counted and goes (R160); the others are authenticated,
deduplicated, passed on and answered. -/
def execEventBurst (t : Nat) (b : Burst) (s : State) : Host.Outcome State Fault Refusal :=
  let s := tick t s
  done s (if !inService s b.xcvr || (active s).isNone then s
    else if !b.fcsOk then cntUpAt 0x400F1 b.xcvr 2 1 s
    else
      let s := icuRaise (22 + b.xcvr) (cntUpAt 0x400F1 b.xcvr 1 1 s)
      match if b.cluster < 256 ∧ inUse s b.cluster then memberNode s b.cluster b.member else none with
      | none => cntUp 0x40018 s
      | some n =>
        if !b.micOk || (match (nodeOf s n).upCounter with | some k => decide (b.counter ≤ k) | none => false) then cntUp 0x40018 s
        else takeBurst b n s)

/-- The slot of a superframe. -/
def slotOf (a : Nat) : Nat := a % 256

/-- JOIN_KEY (R149): a join request's nonce and key are held. Only O3 and Q1 broadcast modes take joins. -/
def execJoinKey (t : Nat) (x : Fin 4) (eui nonce key : Bytes) (a : Nat) (rssi : Int) (s : State) : Host.Outcome State Fault Refusal :=
  let s := tick t s
  done s (if !radioUp s || !inService s x.val || !(xMode s x.val == 7 || xMode s x.val == 8) || slotOf a != 126 then s
    else
      let j : Join := { xcvr := x.val, eui := fit 8 eui, nonce, key, asn := a, node := none, eph := 0, own := [], sig := [], parts := [],
                        waited := 0, rssi }
      icuRaise (22 + x.val) (cntUpAt 0x400F1 x.val 1 1
        (updMac (fun m => { m with
          joins := (m.joins.filter (fun k => !(k.eui == fit 8 eui && k.parts.isEmpty))) ++ [j] }) s)))

/-- The directory row of an EUI-64. -/
def euiRow (s : State) (eui : Bytes) : Option Nat := (storedRows s 0x40500).find? (fun n => rOct (dirRow s n) 0 == eui)

/-- A request without an approved row is held in JOIN_PENDING for 600 s (R150), which has 64 rows. -/
def holdJoin (j : Join) (s : State) : State :=
  if s.mac.waiting.any (fun w => w.eui == j.eui) || decide (64 ≤ s.mac.waiting.length) then s
  else
    let w : JoinWait := { eui := j.eui, heard := time64 s, fab := s.clk.fab, xcvr := j.xcvr, rssi := j.rssi }
    updMac (fun m => { m with waiting := m.waiting ++ [w] }) s

/-- JOIN_SIG (R149, R150): against the approved directory row; the join proceeds, with the module's ephemeral key, nonce and
signature as free values (log entry 63), or the request is held. -/
def execJoinSig (t : Nat) (x : Fin 4) (eui nonce : Bytes) (a : Nat) (sigOk : Bool) (s : State) : Host.Outcome State Fault Refusal :=
  let s := tick t s
  done s (match s.mac.joins.find? (fun j =>
      j.eui == fit 8 eui && j.nonce == nonce && j.xcvr == x.val && j.parts.isEmpty && j.asn / 256 == a / 256) with
    | none => s
    | some j =>
      if !radioUp s || slotOf a != 254 then s
      else
        let s := icuRaise (22 + x.val) (cntUpAt 0x400F1 x.val 1 1 s)
        let drop (s : State) : State := updMac (fun m => { m with joins := m.joins.filter (fun k => k != j) }) s
        match euiRow s j.eui with
        | none => holdJoin j (cntUp 0x40016 (drop s))
        | some n =>
          if rNat (dirRow s n) 4 = 0 then holdJoin j (cntUp 0x40016 (drop s))
          else if !sigOk || (dirCluster s n).isNone then cntUp 0x40016 (drop s)
          else
            let eph := freeNat s
            let s := draw s
            let own := fit 8 (freeBytes s)
            let s := draw s
            let j2 : Join := { j with node := some n, eph, own, sig := fit 96 (freeBytes s),
                                      parts := [(4, 0), (4, 1), (4, 2), (5, 0), (5, 1)] }
            draw (updMac (fun m => { m with joins := m.joins.map (fun k => if k == j then j2 else k) }) s))

/-- JOIN_PENDING_EXPIRY (R150): after 600 s the request goes. -/
def execJoinPendingExpiry (t : Nat) (eui : Bytes) (s : State) : Host.Outcome State Fault Refusal :=
  let s := tick t s
  done s (updMac (fun m => { m with waiting := m.waiting.filter (fun w =>
    !(w.eui == fit 8 eui && decide (w.fab + 600 * Config.secCycles ≤ s.clk.fab))) }) s)

/-- What a directory row breaks (R161): shared EUI-64, shared cluster and member, a cluster not in use. -/
def dirBad (s : State) (n : Nat) (row : Row) : Bool :=
  let others := (storedRows s 0x40500).filter (fun k => k != n && inDirectory s k)
  let c := rNat row 2
  others.any (fun k => rOct (dirRow s k) 0 == rOct row 0)
    || (decide (c < 256) && (others.any (fun k => dirCluster s k == some c && dirMember s k == rNat row 3) || !inUse s c))

/-- A radio epoch is OPEN or ARMED (R189 reason 5). -/
def radioEpochOpen (s : State) : Bool := s.epoch.radio && (s.epoch.state == 1 || s.epoch.state == 2)

/-- APPROVE_JOIN (R150, R160, R161): fills the row and approves it; the argument named is that of the rule broken. -/
def execApproveJoin (t : Nat) (h : Hdr) (args : List TVal) (s : State) : Host.Outcome State Fault Refusal :=
  let s := tick t s
  done s (execCmd 0x40610 [.octets 8, .octets 49, .int 3 0 8191, cU8, .int 2 0 31] h args (fun _ _ s =>
    let n := argN args 2
    let row : Row := [.bytes (argB args 0), .bytes (argB args 1), vN (argN args 3), vN (argN args 4), vN 1]
    if dirBad s n row then
      refuse (rRange 0x40610 (if (storedRows s 0x40500).any (fun k => k != n && rOct (dirRow s k) 0 == argB args 0) then 0
        else if !inUse s (argN args 3) then 3 else 4)) s
    else if radioEpochOpen s then refuse (rEpochBusy 5 0 s) s
    else
      let moved := (nodeOf s n).joined != 0 && (dirCluster s n != some (argN args 3) || dirMember s n != argN args 4
        || rOct (dirRow s n) 0 != argB args 0)
      let s := if moved then leaveCluster n s else if dirRow s n = row then s else dropJoins n s
      okEmpty (updMac (fun m => { m with waiting := m.waiting.filter (fun w => w.eui != argB args 0) })
        (putRow 0x40500 n row s))) s)

/-- A directory row goes (R151); verification may end with it (R188). -/
def removeRow (n : Nat) (s : State) : State :=
  let s := leaveCluster n s
  let s := { s with dict := { s.dict with store := mdel s.dict.store (okey 0x40500 n) } }
  verifyDone (updEp (fun p => { p with
    held := mdel p.held n, progress := mdel p.progress n, staged := p.staged.filter (fun k => k != n)
    armed := p.armed.filter (fun k => k != n), verified := p.verified.filter (fun k => k != n) }) s)

/-- REMOVE_NODE (R151): never refused for an epoch (R189). -/
def execRemoveNode (t : Nat) (h : Hdr) (args : List TVal) (s : State) : Host.Outcome State Fault Refusal :=
  let s := tick t s
  done s (execCmd 0x40611 [.int 3 0 8191] h args (fun _ _ s => okEmpty (removeRow (argN args 0) s)) s)

end Sys2Proof.Machine
end

