-- ==== Sys2Proof/Machine/Epochs.lean ====
section
/-!
DEFINITION. The commands of the epoch changeover and of node images (chapter 6).
-/
namespace Sys2Proof.Machine

/-- EPOCH_OPEN (R180): accepted in IDLE; it takes effect at the boundary of a commit. -/
def execEpochOpen (t : Nat) (h : Hdr) (args : List TVal) (s : State) : Host.Outcome State Fault Refusal :=
  let s := tick t s
  done s (execCmd 0x60300 [cU32] h args (fun _ x s =>
    let img := argN args 0
    if img ≠ 0 ∧ !s.epoch.store.any (fun k => k.id == img && k.state == 2) then refuse (rRange 0x60300 0) s
    else if timeQuality s = 4 then refuse (rRange 0x20011 0) s
    else if s.epoch.state ≠ 0 ∨ s.epoch.openAt.isSome then refuse (rEpochBusy 1 0 s) s
    else
      let a := applyAsn s
      okAsn a (updEp (fun p => { p with openAt := some (a, img), opener := x.client }) s)) s)

/-- EPOCH_STAGE (R181). -/
def execEpochStage (t : Nat) (h : Hdr) (args : List TVal) (s : State) : Host.Outcome State Fault Refusal :=
  let s := tick t s
  done s (execNodeCmd 0x60301 cmdEpochStage h args s)

/-- The earliest and the latest switch ASN (R182). -/
def armLimits (s : State) : Nat × Nat :=
  ((frame s + (if s.epoch.radio then 8 else 4)) * 256, (frame s + 2048) * 256)

/-- EPOCH_ARM (R182, R183). -/
def execEpochArm (t : Nat) (h : Hdr) (args : List TVal) (s : State) : Host.Outcome State Fault Refusal :=
  let s := tick t s
  done s (execCmd 0x60302 [cU64, .bool] h args (fun _ _ s =>
    let (lo, hi) := armLimits s
    let v := argN args 0
    let sw := if v = 0 then lo else v
    let lack := ((assigned s).filter (fun n => !s.epoch.staged.contains n)).length
    if sw % 256 ≠ 0 ∨ sw < lo ∨ hi < sw then refuse (rRange 0x60302 0) s
    else if s.epoch.state ≠ 1 then refuse (rEpochBusy 3 0 s) s
    else if lack ≠ 0 ∧ (s.epoch.radio ∨ argN args 1 = 0) then refuse (rEpochBusy 4 (min lack 65535) s) s
    else okEmpty (updEp (fun p => { p with state := 2, switchAsn := sw, armed := [], heard := [], verified := [], resume := 0
                                           disarm := p.disarm.filter (fun k => k.2 != p.next)
                                           cancel := p.cancel.filter (fun c => c.epoch != p.next) }) s)) s)

/-- A cancellation (R184): back to OPEN, CANCELLED payloads and DISARM frames begin. -/
def cancelEpoch (s : State) : State :=
  let lack := ((assigned s).filter (fun n => !s.epoch.armed.contains n)).length
  let sw := s.epoch.switchAsn
  let s := updEp (fun p => { p with
    state := 1, resume := 0, armed := [], heard := [], disarm := p.armed.foldl (fun m n => mset m n p.next) p.disarm
    cancel := some { until_ := sw + 1024, epoch := p.next, switchAsn := sw, hash := p.hashNext
                     flags := packBits [p.radio, p.image], imageId := p.imageId } }) s
  record 0x6010 4 s.epoch.next (be 1 0 ++ be 1 0 ++ be 2 lack ++ be 4 sw) (stickySet 97 s.epoch.next s)

/-- EPOCH_ABANDON (R184): OPEN to IDLE; an ARMED epoch is cancelled until two superframes before its switch. -/
def execEpochAbandon (t : Nat) (h : Hdr) (args : List TVal) (s : State) : Host.Outcome State Fault Refusal :=
  let s := tick t s
  done s (execCmd 0x60303 [] h args (fun _ _ s =>
    if s.epoch.state = 1 then
      okEmpty (updEp (fun p => { p with state := 0, abandoned := insertNat p.next p.abandoned, staged := [], frozen := [] }) s)
    else if s.epoch.state = 2 then
      if asn s + 512 < s.epoch.switchAsn then okEmpty (cancelEpoch s) else refuse (rEpochBusy 7 0 s) s
    else refuse (rEpochBusy 3 0 s) s) s)

/-- EPOCH_PRESWITCH_CHECK (R184): a radio epoch with a node not armed is cancelled; after a restart only where beacons had resumed
before it was due (R191). -/
def execEpochPreswitchCheck (t : Nat) (s : State) : Host.Outcome State Fault Refusal :=
  let s := tick t s
  done s (if s.epoch.state = 2 ∧ s.epoch.radio ∧ s.epoch.resume = 0 ∧ s.epoch.switchAsn ≤ asn s + 512 ∧ asn s < s.epoch.switchAsn
      ∧ !(assigned s).all (fun n => s.epoch.armed.contains n)
    then cancelEpoch s else s)

/-- CANCELLED_PAYLOAD_END (R184). -/
def execCancelledPayloadEnd (t : Nat) (s : State) : Host.Outcome State Fault Refusal :=
  let s := tick t s
  done s (match s.epoch.cancel with
    | some c => if c.until_ ≤ asn s then updEp (fun p => { p with cancel := none }) s else s
    | none => s)

/-- EPOCH_SWITCH (R187): at the switch ASN; with no node to verify, verification ends at once. -/
def execEpochSwitch (t : Nat) (s : State) : Host.Outcome State Fault Refusal :=
  let s := tick t s
  done s (if s.epoch.state = 2 ∧ s.epoch.switchAsn ≤ asn s then
      let s := switchEpoch s
      if (assigned s).isEmpty then endVerify s else s
    else s)

/-- EPOCH_VERIFY_TIMEOUT (R188): 64 superframes after the switch. -/
def execEpochVerifyTimeout (t : Nat) (s : State) : Host.Outcome State Fault Refusal :=
  let s := tick t s
  done s (if s.epoch.state = 3 ∧ s.epoch.switchAsn + 64 * 256 ≤ asn s then endVerify s else s)

/-- Whether an open or armed epoch names an image (R189 reason 6). -/
def imageNamed (s : State) (id : Nat) : Bool :=
  id != 0 && (((s.epoch.state == 1 || s.epoch.state == 2) && s.epoch.imageId == id)
    || (match s.epoch.openAt with | some p => p.2 == id | none => false))

/-- IMAGE_DISCARD (R195). -/
def execImageDiscard (t : Nat) (h : Hdr) (args : List TVal) (s : State) : Host.Outcome State Fault Refusal :=
  let s := tick t s
  done s (execCmd 0x60401 [.int 2 0 1] h args (fun _ _ s =>
    let i := argN args 0
    if imageNamed s (lget s.epoch.store i NodeImage.init).id then refuse (rEpochBusy 6 0 s) s
    else okEmpty (updEp (fun p => { p with store := lset p.store i NodeImage.init }) s)) s)

/-- IMAGE_BLOCK (R193). -/
def execImageBlock (t : Nat) (h : Hdr) (args : List TVal) (s : State) : Host.Outcome State Fault Refusal :=
  let s := tick t s
  done s (execNodeCmd 0x60410 cmdImageBlock h args s)

end Sys2Proof.Machine
end

