-- ==== Sys2Proof/Machine/Lanes.lean ====
section
/-!
DEFINITION. The commands of the two lanes: input order (R16, R17), comparison (R282 to R290), resynchronisation (R295,
R296), continuous self-test (R299). The commands that start the module or move its ownership are in Startup.lean.
-/
namespace Sys2Proof.Machine

/-- Whether any bridge link works (R11). -/
def bridgeUp (s : State) : Bool := s.lp.links.a || s.lp.links.b

/-- The lane that consumes in tag order (R16): the standby, or the lane that is compared in step 6 of R295. -/
def follower (s : State) : Option Lane :=
  match active s with
  | none => none
  | some l =>
    let x := s.lanes.get (otherLane l)
    if x.role = .standby ∨ (x.role = .lagging ∧ x.resync = .compare) then some (otherLane l) else none

/-- A known-answer test of a lane's vault has run (R299, R348, R353). -/
def katRun (l : Lane) (bad : Bool) (s : State) : State :=
  updLane l (fun x => { x with vault := { x.vault with katAt := time64 s, katFab := some s.clk.fab, katBad := bad } }) s

/-- Whether a held input answers a new tag (R16, R17): one that no earlier tag still waiting is owed. -/
def heldHas (hash source : Nat) (s : State) : Bool :=
  decide ((s.lp.tags.filter (fun g => g.2.2 == hash && g.2.1 == source)).length
    < (s.lp.held.filter (fun x => x.hash == hash && x.source == source)).length)

/-- Remove the first held input of a hash and source. -/
def takeHeld (hash source : Nat) : List HeldInput → List HeldInput
  | [] => []
  | x :: r => if x.hash = hash ∧ x.source = source then r else x :: takeHeld hash source r

/-- INPUT_ARRIVAL (R16): the active lane stamps the input and sends its order tag; the follower holds it. -/
def execInputArrival (t source hash : Nat) (atActive atStandby : Bool) (s : State) : Host.Outcome State Fault Refusal :=
  let s0 := tick t s
  let f := follower s0
  let s := if atStandby && f.isSome then
      { s0 with lp := { s0.lp with held := s0.lp.held ++ [{ hash, source, since := s0.clk.fab }] } }
    else s0
  if atActive && (active s).isSome then
    let n := (s.lp.inputSeq + 1) % 4294967296
    let s := { s with lp := { s.lp with inputSeq := n } }
    done s0 (if f.isSome && bridgeUp s then emit (.orderTag n source hash) s else s)
  else done s0 s

/-- Consume the waiting tags whose inputs are held, in tag order (R16). -/
def drainTags (held : List HeldInput) : List (Nat × Nat × Nat) → List HeldInput × List (Nat × Nat × Nat)
  | [] => (held, [])
  | (n, src, h) :: r =>
    if held.any (fun x => x.hash == h && x.source == src) then drainTags (takeHeld h src held) r
    else (held, (n, src, h) :: r)

/-- ORDER_TAG (R16, R17): the follower consumes the held input in tag order, or has the whole input sent over. -/
def execOrderTag (t seq source hash : Nat) (s : State) : Host.Outcome State Fault Refusal :=
  let s0 := tick t s
  match follower s0 with
  | none => done s0 s0
  | some l =>
    if !bridgeUp s0 then done s0 s0
    else
      let s := if heldHas hash source s0 then s0
        else emit (.forward seq source hash) (cntLane l 0xA0120 0 0 1 s0)
      let d := drainTags s.lp.held (s.lp.tags ++ [(seq, source, hash)])
      done s0 { s with lp := { s.lp with held := d.1, tags := d.2 } }

/-- FORWARDED_INPUT (R17): the whole input arrives and is consumed at its tag's turn. -/
def execForwardedInput (t seq source hash : Nat) (s : State) : Host.Outcome State Fault Refusal :=
  let s := tick t s
  if bridgeUp s && s.lp.tags.contains (seq, source, hash) then
    let d := drainTags (s.lp.held ++ [{ hash, source, since := s.clk.fab }]) s.lp.tags
    done s { s with lp := { s.lp with held := d.1, tags := d.2 } }
  else done s s

/-- ORPHAN_TIMEOUT (R17): an input held for 20 ms with no tag is discarded and counted. -/
def execOrphanTimeout (t hash : Nat) (s : State) : Host.Outcome State Fault Refusal :=
  let s := tick t s
  match follower s, s.lp.held.find? (fun x => x.hash == hash) with
  | some l, some x =>
    if x.since + 20 * Config.msCycles ≤ s.clk.fab && !s.lp.tags.any (fun g => g.2.2 == hash) then
      let s1 := cntLane l 0xA0121 0 0 1 s
      let recent := s.lp.orphans.filter (fun f => decide (s.clk.fab < f + Config.secCycles))
      done s { s1 with lp := { s1.lp with held := takeHeld hash x.source s.lp.held, orphans := s.clk.fab :: recent } }
    else done s s
  | _, _ => done s s

/-- Release the waiting output of a sequence number (R283). -/
def releaseOne (seq : Nat) (s : State) : State :=
  match s.lp.waiting.find? (fun w => w.1 == seq) with
  | none => s
  | some w =>
    leave w.2.2 { s with lp := { s.lp with
      waiting := s.lp.waiting.filter (fun w => w.1 != seq), released := max s.lp.released seq } }

/-- Whether the records of both lanes for a sequence number stand and differ: the output waits for the decision. -/
def differs (seq : Nat) (s : State) : Bool :=
  s.lp.records.a.any (fun r => r.1 == seq) && s.lp.records.b.any (fun r => r.1 == seq)

/-- A mismatch is raised (R286): counted, logged, and a self-check begun unless one runs. -/
def mismatch (seq kind hashA hashB : Nat) (s : State) : State :=
  let s := cntUp 0xA0013 s
  let s := logPush 0xA0030 16 [vN (time64 s), vN seq, vN (min kind 4), v32 hashA, v32 hashB, vN 0, vN 0, vN 0] s
  let s := icuRaise 258 s
  if s.lp.checking.isSome then s
  else { s with lp := { s.lp with checking := some (seq, min kind 4, hashA, hashB, (standby s).isSome) } }

/-- The content of a comparison record (R282): kind and hash. -/
def sameContent (a : Nat × Nat × Nat × Nat) (kind hash : Nat) : Bool := a.2.1 == kind && a.2.2.1 == hash

/-- COMPARISON_RECORD (R282, R283, R286): matched with its partner by sequence number. -/
def execComparisonRecord (t : Nat) (l : Lane) (seq kind hash : Nat) (s : State) : Host.Outcome State Fault Refusal :=
  let s := tick t s
  if (standby s).isNone || (active s).isNone || !bridgeUp s || (s.lp.records.get l).any (fun r => r.1 == seq) then done s s
  else match (s.lp.records.get (otherLane l)).find? (fun r => r.1 == seq) with
    | none => done s { s with lp := { s.lp with records := s.lp.records.upd l (fun r => r ++ [(seq, kind, hash, s.clk.fab)]) } }
    | some o =>
      if sameContent o kind hash then
        done s (releaseOne seq { s with lp := { s.lp with
          records := s.lp.records.upd (otherLane l) (fun r => r.filter (fun r => r.1 != seq))
          matched := max s.lp.matched seq } })
      else
        let s1 := { s with lp := { s.lp with records := s.lp.records.upd l (fun r => r ++ [(seq, kind, hash, s.clk.fab)]) } }
        done s (match l with
          | .A => mismatch seq kind hash o.2.2.1 s1
          | .B => mismatch seq kind o.2.2.1 hash s1)

/-- OUTPUT_RELEASE_TIMEOUT (R283): an output held 2 ms with no record is released unchecked. -/
def execOutputReleaseTimeout (t seq : Nat) (s : State) : Host.Outcome State Fault Refusal :=
  let s := tick t s
  match s.lp.waiting.find? (fun w => w.1 == seq) with
  | none => done s s
  | some w =>
    if w.2.1 + 2 * Config.msCycles ≤ s.clk.fab && !differs seq s then done s (cntUp 0xA0016 (releaseOne seq s))
    else done s s

/-- LAG_DETECT (R284): the standby is marked LAGGING when E exceeds 256 or T exceeds 20 ms. -/
def execLagDetect (t : Nat) (s : State) : Host.Outcome State Fault Refusal :=
  let s := tick t s
  match standby s with
  | none => done s s
  | some l =>
    if 256 < lagE s ∨ 20 * Config.msCycles < lagT s then done s (markLagging l s) else done s s

/-- What a self-check's verdict of condemnation rests on (R287): what the lane's state shows, else the vault's test. -/
def selfCause (now : Nat) (x : LaneSt) : Condemn :=
  if x.uncorrAt.any (fun f => now < f + 10 * Config.secCycles) then .uncorrectable
  else if 64 < (x.ecc.filter (fun f => decide (now < f + Config.secCycles))).length then .correctedRate
  else if x.checker then .lockstep
  else if x.wdExpired then .watchdog
  else if (List.range 5).any (fun u => unitCondemns u && (x.units[u]?).any (fun y => y.state == 2)) then .unitFail
  else .vault

/-- The verdict of a lane: condemned already, or by its self-check. -/
def verdict (l : Lane) (by_ : Bool) (s : State) : State :=
  updLane l (fun x => { x with checker := false
                               cause := if by_ && !condemned x then selfCause s.clk.fab x else x.cause }) s

/-- Write the verdicts and the outcome into the rows of MISMATCH_LOG of this self-check (R286, R301): the newest down to
the one that began it. -/
def logVerdict (seq : Nat) (va vb : Bool) (outcome : Nat) : List Row → List Row
  | [] => []
  | r :: rest =>
    let r' := r.take 5 ++ [vB va, vB vb, vN outcome]
    if rNat r 1 = seq then r' :: rest else r' :: logVerdict seq va vb outcome rest

/-- Unexplained mismatches within FLAP_WINDOW, this one among them (R290); whether FLAP_LIMIT is reached. -/
def countFlap (s : State) : State × Bool :=
  let w := getN s 0xA0102 * Config.secCycles
  let f := s.clk.fab :: s.lp.flaps.filter (fun x => decide (s.clk.fab < x + w))
  ({ s with lp := { s.lp with flaps := f } }, decide (getN s 0xA0101 ≤ f.length))

/-- FLAP_HOLD (R290): the lane stays LAGGING and is not resynchronised. -/
def flapHold (l : Lane) (s : State) : State :=
  let s := dropGoes l (voidPlanned (releaseAll s))
  let s := updLane l (fun x => { x with role := .lagging, roleSince := s.clk.fab, resync := .idle }) s
  let s := { s with lp := { s.lp with records := both [] } }
  laneStateRec l 2 0 (condSet 163 (laneNo l) true s)

/-- Release the outputs that waited for a decision: the version of the lane that is active (R283). -/
def releaseDiffering (s : State) : State :=
  let qs := (s.lp.waiting.map (fun w => w.1)).filter (fun q => differs q s)
  let drop (r : List (Nat × Nat × Nat × Nat)) :=
    r.filter (fun x => !(s.lp.records.a.any (fun y => y.1 == x.1) && s.lp.records.b.any (fun y => y.1 == x.1)))
  let s1 := qs.foldl (fun s q => releaseOne q s) s
  { s1 with lp := { s1.lp with records := { a := drop s.lp.records.a, b := drop s.lp.records.b } } }

/-- The outcome of R289 and R290 for active lane `l`: the state, and the outcome code of MISMATCH_LOG. -/
def decide289 (l : Lane) (s : State) : State × Nat :=
  let o := otherLane l
  let ca := condemned (s.lanes.get l)
  let cs := condemned (s.lanes.get o)
  if ca && !cs then (decideSwitch o 2 s, 0)
  else if !ca && !cs then
    let (s, hit) := countFlap s
    if healthOf s l < healthOf s o then (decideSwitch o 3 s, 0)
    else
      let s := releaseDiffering s
      if hit then (flapHold o s, 3) else (setResync o s, 1)
  else
    let s := restartLane o (releaseDiffering s)
    (if ca then laneStateRec l 1 0 (degradedSync s) else s, 2)

/-- A SWITCHOVER request evaluated (R298): the apply ASN, or LANE_SYNC with the other lane's ROLE. -/
def evalSwitchover (s : State) : Answer :=
  match active s with
  | none => refuse (rLaneSync s) s
  | some l =>
    if (s.lanes.get (otherLane l)).role != .standby || s.lp.planned.isSome then refuse (rLaneSync s) s
    else
      let a := applyAsn s
      okAsn a { s with lp := { s.lp with planned := some { target := otherLane l, cause := 1, applyAsn := a } } }

/-- The object of SWITCHOVER. -/
def oSwitchover : Nat := 0xA0300

/-- A SWITCHOVER request that arrived during the self-check is evaluated after its decision (R298). -/
def answerAsked (s : State) (q : Nat × Nat) : State :=
  let a := evalSwitchover s
  match a.2 with
  | some r => lateReply q.1 q.2 oSwitchover r a.1
  | none => a.1

/-- SELF_CHECK_DONE (R286 to R290): the verdicts decide. -/
def execSelfCheckDone (t : Nat) (condemnA condemnB : Bool) (s : State) : Host.Outcome State Fault Refusal :=
  let s := tick t s
  match s.lp.checking, active s with
  | some c, some l =>
    let s1 := verdict .B condemnB (verdict .A condemnA s)
    let s1 := katRun .A (s1.lanes.a.cause = .vault) (katRun .B (s1.lanes.b.cause = .vault) s1)
    let va := condemned s1.lanes.a
    let vb := condemned s1.lanes.b
    let (s1, outcome) := decide289 l { s1 with lp := { s1.lp with checking := none } }
    let lg := logVerdict c.1 va vb outcome (mgetD s1.dict.logs 0xA0030 [])
    let s1 := { s1 with dict := { s1.dict with logs := mset s1.dict.logs 0xA0030 lg } }
    done s (s1.lp.asked.foldl answerAsked { s1 with lp := { s1.lp with asked := [] } })
  | some _, none => done s { s with lp := { s.lp with checking := none } }
  | none, _ => done s s

/-- ECC_ERROR (R287, R288, R405). -/
def execEccError (t : Nat) (l : Lane) (corrected : Bool) (s : State) : Host.Outcome State Fault Refusal :=
  let s := tick t s
  if corrected then done s (eccCorrected l (icuRaiseAt l 256 s))
  else done s (eccUncorrectable l (icuRaiseAt l 257 s))

/-- LANE_WATCHDOG_EXPIRY (R12, R285, R287): A0, A1, M0 and D0 must write within every 10 ms. -/
def execLaneWatchdogExpiry (t : Nat) (l : Lane) (c : Core) (s : State) : Host.Outcome State Fault Refusal :=
  let s := tick t s
  if isPolicy c || !(s.lanes.get l).running then done s s
  else done s (condemn l .watchdog (updLane l (fun x => { x with wdExpired := true }) s))

/-- CORE_CHECKER_FIRE (R287). -/
def execCoreCheckerFire (t : Nat) (l : Lane) (_c : Core) (s : State) : Host.Outcome State Fault Refusal :=
  let s := tick t s
  if !(s.lanes.get l).running then done s s
  else done s (condemn l .lockstep (updLane l (fun x => { x with checker := true }) s))

/-- SWITCHOVER (R298): during a self-check it waits for the decision. -/
def execSwitchover (t : Nat) (h : Hdr) (args : List TVal) (s : State) : Host.Outcome State Fault Refusal :=
  let s := tick t s
  done s (execCmd oSwitchover [] h args (fun sid _ s =>
    if s.lp.checking.isSome then ({ s with lp := { s.lp with asked := s.lp.asked ++ [(sid, h.seq)] } }, none)
    else evalSwitchover s) s)

/-- RESTART_STANDBY (R301). -/
def execRestartStandby (t : Nat) (h : Hdr) (args : List TVal) (s : State) : Host.Outcome State Fault Refusal :=
  let s := tick t s
  done s (execCmd 0xA0301 [] h args (fun _ _ s =>
    match active s with
    | none => refuse (rLaneSync s) s
    | some l => okEmpty (restartLane (otherLane l) s)) s)

/-- RESYNC (R290, R296, R301): a LAGGING lane begins step 2 of R295. -/
def execResync (t : Nat) (h : Hdr) (args : List TVal) (s : State) : Host.Outcome State Fault Refusal :=
  let s := tick t s
  done s (execCmd 0xA0302 [] h args (fun _ _ s =>
    match active s with
    | none => refuse (rLaneSync s) s
    | some l =>
      if (s.lanes.get (otherLane l)).role != .lagging || !bridgeUp s then refuse (rLaneSync s) s
      else okEmpty (condSet 163 0 false (updLane (otherLane l) (fun x =>
        { x with resync := if x.resync = .idle then .waiting else x.resync }) s))) s)

/-- Whether a unit whose failure condemns reads FAIL in a lane (R296, R299). -/
def unitFailed (x : LaneSt) : Bool :=
  (List.range 5).any (fun u => unitCondemns u && (x.units[u]?).any (fun y => y.state == 2))

/-- Whether the two images run side by side (R469). -/
def imagesFit (s : State) : Bool :=
  let a := runningImg s .A
  let b := runningImg s .B
  a.stateLayout == b.stateLayout && decide (a.minPeer ≤ b.feature) && decide (b.minPeer ≤ a.feature)

/-- A runtime meets its lane's live settings copy (R471): an older layout is migrated, a newer one gives way to the
pre-migration copy; none of the two leaves the lane without a copy it can read. -/
def settleLayout (l : Lane) (s : State) : State × Bool :=
  let i := runningImg s l
  let have_ := s.fw.live.get l
  if have_ = i.settingsLayout then (s, true)
  else if have_ < i.settingsLayout ∧ i.migrateFrom ≤ have_ then
    (condSet 211 (laneNo l * 65536) true { s with fw := { s.fw with live := s.fw.live.put l i.settingsLayout,
                                                                      pre := s.fw.pre.put l (some have_), uncommitted := true } }, true)
  else if s.fw.pre.get l = some i.settingsLayout then
    ({ s with fw := { s.fw with live := s.fw.live.put l i.settingsLayout, pre := s.fw.pre.put l none } }, true)
  else (s, false)

/-- A lane stays LAGGING and waits. -/
def stayLagging (l : Lane) (c : Condemn) (s : State) : State :=
  updLane l (fun x => { x with role := .lagging, resync := .idle, cause := c,
                               roleSince := if x.role = .lagging then x.roleSince else s.clk.fab }) s

/-- RESYNC_REQUEST (R295 steps 2 and 3, R296): the lane asks for state, or stays LAGGING where R296 or RESYNC_AUTO says
so. -/
def execResyncRequest (t : Nat) (l : Lane) (s : State) : Host.Outcome State Fault Refusal :=
  let s := tick t s
  let x := s.lanes.get l
  if active s != some (otherLane l) || !x.running then done s s
  else
    let asked := x.role = .lagging ∧ x.resync = .waiting
    if x.role = .undecided ∨ asked then
      if !bridgeUp s then done s (stayLagging l x.cause s)
      else if x.role = .undecided ∧ unitFailed x then done s (stayLagging l .unitFail s)
      else if x.role = .undecided ∧ !getB s 0xA0100 then done s (stayLagging l x.cause s)
      else if !imagesFit s then done s (stayLagging l .layout s)
      else done s (updLane l (fun x => { x with role := .lagging, resync := .transfer, cause := .none,
                                                roleSince := if x.role = .lagging then x.roleSince else s.clk.fab }) s)
    else done s s

/-- The memory a lane holds after the copy (R295 steps 3 and 4): the active lane's, but its own energy ring. -/
def copyMem (own src : List Host.Cell) : List Host.Cell :=
  src.filter (fun c => decide (c.1 < 0x20800000)) ++ own.filter (fun c => decide (0x20800000 ≤ c.1 ∧ c.1 < 0x20810000))
    ++ src.filter (fun c => decide (0x20810000 ≤ c.1))

/-- The words a core wrote, as the copy leaves them. -/
def copyWrote (own src : List Nat) : List Nat :=
  let ring (a : Nat) : Bool := decide (0x20800000 ≤ a ∧ a < 0x20810000)
  (own.filter ring).foldl (fun l a => insertNat a l) (src.filter (fun a => !ring a))

/-- STATE_TRANSFER_DONE (R295 steps 3 to 5, R380): the copy is in, order tags resume, held records are submitted LATE. -/
def execStateTransferDone (t : Nat) (l : Lane) (s : State) : Host.Outcome State Fault Refusal :=
  let s := tick t s
  let x := s.lanes.get l
  if active s == some (otherLane l) && x.role == .lagging && x.resync == .transfer && bridgeUp s then
    let src := s.lanes.get (otherLane l)
    let s1 := updLane l (fun x => { x with resync := .compare, mem := copyMem x.mem src.mem
                                           wrote := copyWrote x.wrote src.wrote, ports := src.ports
                                           copies := src.copies, engines := src.engines }) s
    let o := otherLane l
    let s1 := { s1 with fw := { s1.fw with live := s1.fw.live.put l (s1.fw.live.get o), pre := s1.fw.pre.put l (s1.fw.pre.get o) } }
    let (s1, ok) := settleLayout l s1
    if !ok then done s (stayLagging l .layout s1)
    else
      let held := s1.recd.held.get l
      let s1 := { s1 with recd := { s1.recd with held := s1.recd.held.put l [] }, lp := { s1.lp with held := [], tags := [] } }
      done s (held.foldl (fun s r => submitRec { r with late := true } s) s1)
  else done s s

/-- RESYNC_COMPARE_END (R295 step 6, R296). -/
def execResyncCompareEnd (t : Nat) (l : Lane) (allMatch : Bool) (s : State) : Host.Outcome State Fault Refusal :=
  let s := tick t s
  let x := s.lanes.get l
  if active s == some (otherLane l) && x.role == .lagging && x.resync == .compare && bridgeUp s then
    if allMatch then
      let s1 := updLane l (fun x => { x with role := .standby, resync := .idle, roleSince := s.clk.fab }) s
      let s1 := { s1 with lp := { s1.lp with records := both [], matched := activeSeq s1 } }
      done s (cntUp 0xA0015 s1)
    else
      let (s1, hit) := countFlap s
      if hit then done s (flapHold l s1)
      else done s (updLane l (fun x => { x with resync := .waiting }) s1)
  else done s s

/-- Replace a bridge link's state. -/
def setLink (k : Fin 2) (up : Bool) (s : State) : State :=
  { s with lp := { s.lp with links := if k.val = 0 then { s.lp.links with a := up } else { s.lp.links with b := up } } }

/-- A bridge link fails (R11, R296): with both links down the standby goes LAGGING and nothing resynchronises. -/
def bridgeFails (k : Fin 2) (s : State) : State :=
  let s1 := setLink k false s
  if bridgeUp s1 then s1
  else
    let stop (x : LaneSt) : LaneSt := if x.role = .lagging then { x with resync := .idle } else x
    let s1 := { s1 with lanes := { a := stop s1.lanes.a, b := stop s1.lanes.b } }
    match standby s1 with
    | some l => markLagging l s1
    | none => s1

/-- A bridge link works (R11): a LAGGING lane that no hold of R290 or R296 keeps can resynchronise again. -/
def bridgeWorks (k : Fin 2) (s : State) : State :=
  let s1 := setLink k true s
  let go (x : LaneSt) : LaneSt :=
    if x.role = .lagging ∧ x.resync = .idle ∧ x.cause = .none ∧ getB s 0xA0100 ∧ !s.dict.live.getLsbD 163 then
      { x with resync := .waiting }
    else x
  { s1 with lanes := { a := go s1.lanes.a, b := go s1.lanes.b } }

/-- LANE_BRIDGE_LINK_FAIL (R11). -/
def execLaneBridgeLinkFail (t : Nat) (k : Fin 2) (s : State) : Host.Outcome State Fault Refusal :=
  let s := tick t s
  done s (bridgeFails k s)

/-- LANE_BRIDGE_LINK_UP (R11): not while its self-test slice reads FAIL (R434). -/
def execLaneBridgeLinkUp (t : Nat) (k : Fin 2) (s : State) : Host.Outcome State Fault Refusal :=
  let s := tick t s
  if getC s 0xC0020 (19 + k.val) 0 = 3 then done s s else done s (bridgeWorks k s)

/-- LANE_START_REPORT (R281, R288, R452): the lane's boot is complete; its start score, less 400 for each repair, and the role
last held. -/
def execLaneStartReport (t : Nat) (l : Lane) (repairs : Nat) (s : State) : Host.Outcome State Fault Refusal :=
  let s := tick t s
  let x := s.lanes.get l
  if x.role = .undecided ∧ x.running then
    let (s1, ok) := if (active s).isNone then settleLayout l s else (s, true)
    if ok then done s (startupMark 2 (updLane l (fun x => { x with report := some (1000 - 400 * repairs, x.wasActive), bootAt := some s.clk.fab }) s1))
    else if (s.fw.boots.get l).trial then done s (restartLane l s1)
    else done s (updLane l (fun x => { x with cause := .layout }) s1)
  else done s s

/-- Whether any unit of either lane is in a state. -/
def anyUnit (n : Nat) (s : State) : Bool :=
  s.lanes.a.units.any (fun u => u.state == n) || s.lanes.b.units.any (fun u => u.state == n)

/-- A unit's report (R299): its state, its counters, the faults and records of a change. -/
def unitReport (l : Lane) (u r : Nat) (s : State) : State :=
  let old := match (s.lanes.get l).units[u]? with | some x => x.state | none => 0
  let s := updLane l (fun x => { x with units := lmod x.units u (fun y =>
    { y with state := r, tested := time64 s, failures := if r = 2 then y.failures + 1 else y.failures }) }) s
  let s := if u = 0 then katRun l (r = 2) s else s
  let detail := laneNo l * 5 + u
  let s := if r != old then
      (if r = 1 then laneStateRec l 3 u (stickySet 164 detail s)
       else if r = 2 then laneStateRec l 4 u (stickySet 165 detail s) else s)
    else s
  let keep (bit : Nat) (on : Bool) (s : State) : State :=
    { s with dict := { s.dict with live :=
        if on then s.dict.live ||| BitVec.twoPow 256 bit else s.dict.live &&& ~~~(BitVec.twoPow 256 bit) } }
  keep 164 (anyUnit 1 s) (keep 165 (anyUnit 2 s) s)

/-- UNIT_TEST (R287, R288, R296, R299). -/
def execUnitTest (t : Nat) (l : Lane) (u : Fin 5) (r : Fin 3) (s : State) : Host.Outcome State Fault Refusal :=
  let s := tick t s
  if !(s.lanes.get l).running then done s s
  else
    let s1 := unitReport l u.val r.val s
    let x := s1.lanes.get l
    if r.val = 2 ∧ unitCondemns u.val then
      if x.role = .lagging ∧ x.cause = .unitFail then done s s1 else done s (condemn l .unitFail s1)
    else if x.role = .lagging ∧ x.cause = .unitFail ∧ !unitFailed x ∧ getB s 0xA0100 then
      done s (updLane l (fun x => { x with resync := .waiting }) s1)
    else done s s1

end Sys2Proof.Machine
end

