-- ==== Sys2Proof/Machine/TimeOps.lean ====
section
/-!
DEFINITION. The shared operations on the module's time: slews and steps (R333, R334), ASN_ANCHOR, the correction log
(2:0018) and the alarms (R340).
-/
namespace Sys2Proof.Machine

/-- 128 ms in FAB cycles: a larger correction is stepped (R333). -/
def stepLimit : Int := 51200000

/-- Fold what a slew of TAI has done so far into the offsets; drop the rest (R333, replacement). -/
def foldSlew (s : State) : State :=
  let d := slewDone s.clk.fab s.clk.slew
  { s with clk := { s.clk with taiOff := s.clk.taiOff + d, asnOff := s.clk.asnOff + d, slew := none } }

/-- Fold what a slew of the slot timer alone has done so far (R335). -/
def foldAslew (s : State) : State :=
  { s with clk := { s.clk with asnOff := s.clk.asnOff + slewDone s.clk.fab s.clk.aslew, aslew := none } }

/-- A correction of at most 128 ms is slewed, TAI and slot timer together (R333). -/
def startSlew (corr : Int) (s : State) : State :=
  let s := foldSlew s
  if corr = 0 then s else { s with clk := { s.clk with slew := some { amt := corr, start := s.clk.fab } } }

/-- ASN_ANCHOR (R316): the TAI of ASN 0 in FAB cycles, as TAI and the slot timer stand. -/
def anchorOf (s : State) : Int :=
  s.clk.taiOff - s.clk.asnOff - slewDone s.clk.fab s.clk.aslew

/-- A row of TIME_SET_LOG (2:0018); the correction in cycles of 2.5 ns. -/
def timeLog (source : Nat) (corr : Int) (stepped : Bool) (client : Bytes) (s : State) : State :=
  logPush 0x20018 8 [vN (time64 s), vN source, .num (corr * 5 / 2), vB stepped, .bytes (fit 16 client)] s

/-- The first instance of an alarm later than an instant, 0 for none (R340). -/
def alarmNext (cfg : Row) (after : Nat) : Nat :=
  let at_ := rNat cfg 1
  let p := rNat cfg 2 * 16777216
  if rNat cfg 0 = 0 then 0
  else if after < at_ then at_
  else if p = 0 then 0
  else at_ + ((after - at_) / p + 1) * p

/-- An alarm fires (R340, R405): its row of ALARM_STATUS, and TIME_ALARM for A0 and A1. -/
def alarmFireRow (r : Nat) (last next : Nat) (stepped : Bool) (skipped : Nat) (s : State) : State :=
  let st := getRow s 0x20131 r
  let s := putRow 0x20131 r
    [vN next, vN last, v32 (rNat st 2 + 1), vB stepped, vN (min skipped 4294967295)] s
  icuRaise 121 (icuRaise 120 s)

/-- Whether TIME_QUALITY reads UNSET (R330). -/
def timeUnset (s : State) : Bool := timeQuality s == 4

/-- One alarm row after a step, a restart or the TIME_SET that sets time (R340): passed instances fire once, with
STEPPED and SKIPPED; the next is later than the new time and the last fired. -/
def alarmMoved (s : State) (r : Nat) : State :=
  let cfg := getRow s 0x20130 r
  let st := getRow s 0x20131 r
  if rNat cfg 0 = 0 then s
  else
    let t := time64 s
    let nx := rNat st 0
    let p := rNat cfg 2 * 16777216
    if nx ≠ 0 ∧ nx ≤ t then
      let n := if p = 0 then 0 else (t - nx) / p
      let last := nx + n * p
      alarmFireRow r last (alarmNext cfg (max t last)) true n s
    else if p = 0 then s
    else putC 0x20131 r 0 (vN (alarmNext cfg (if rNat st 2 = 0 then t else max t (rNat st 1)))) s

/-- The alarms after a step, a restart or the TIME_SET that sets time; none while UNSET (R340). -/
def alarmsMoved (s : State) : State := if timeUnset s then s else (List.range 32).foldl alarmMoved s

/-- A row of ALARMS is written (R340): its next instance from the time of the write; a past first instance fires once. -/
def alarmWritten (r : Nat) (s : State) : State :=
  let cfg := getRow s 0x20130 r
  let t := time64 s
  let at_ := rNat cfg 1
  let p := rNat cfg 2 * 16777216
  if rNat cfg 0 = 0 then putC 0x20131 r 0 (vN 0) s
  else if timeUnset s then putC 0x20131 r 0 (vN at_) s
  else if at_ ≤ t then
    let n := if p = 0 then 0 else (t - at_) / p
    alarmFireRow r (at_ + n * p) (alarmNext cfg t) false n s
  else putC 0x20131 r 0 (vN at_) s

/-- TAI is stepped (R333, R334): the ASN continues; STEPS, the log and the alarms follow. -/
def stepTai (corr : Int) (source : Nat) (client : Bytes) (s : State) : State :=
  let s := foldSlew s
  let s := { s with clk := { s.clk with taiOff := s.clk.taiOff + corr } }
  alarmsMoved (timeLog source corr true client (ropUp 0x20019 1 s))

/-- What waits for an ASN after the module's own count changed (R127, R128): accepted changes apply at the first superframe
boundary of the new count, as after a restart; the MAC, which has keyed nothing yet, begins its superframes, bookings and
ledgers anew. DESIGN CHOICE (log entry 63). -/
def asnMoved (s : State) : State :=
  let a := applyAsn s
  let due (e : JEntry) : JEntry :=
    match e with
    | .commit h _ => .commit h a
    | .fwCommit _ => .fwCommit a
    | e => e
  let late (w : Switch) : Switch := { w with applyAsn := asn s + 1 }
  let lost := (s.adm.bookings.filter (fun b => !b.sent)).length
  cntUpAt 0x50016 0 0 lost { s with
    dict := { s.dict with journal := s.dict.journal.map due }
    ib := { s.ib with seqs := s.ib.seqs.map (fun p => (p.1, { p.2 with commit := p.2.commit.map (fun c : Nat × Nat => (a, c.2)) })) }
    trunk := { s.trunk with hand := s.trunk.hand.map (fun h : Bool × Nat => (h.1, a)) }
    fw := { s.fw with commitAt := s.fw.commitAt.map (fun _ => a) }
    epoch := { s.epoch with openAt := s.epoch.openAt.map (fun o : Nat × Nat => (a, o.2)) }
    time := { s.time with pendingStep := s.time.pendingStep.map (fun e : Int × Nat × Nat × Bytes => (e.1, a, e.2.2.1, e.2.2.2)) }
    lp := { s.lp with planned := s.lp.planned.map late, switch := s.lp.switch.map late }
    adm := { s.adm with bookings := [] }
    mac := { s.mac with
      lastFrame := frame s, gate := [], duty := [], blank := both Blank.init
      clusters := s.mac.clusters.map (fun p => (p.1, { p.2 with lastEchoPri := 0, lastEchoAlt := 0 }))
      xcvrs := s.mac.xcvrs.map (fun x => { x with lateAsn := none, expect := [], bres := [], epochSent := 0, busy := 0 }) } }

/-- The module's own count begins at 0 (R128). -/
def asnFromZero (s : State) : State :=
  asnMoved { s with clk := { s.clk with asnOff := s.clk.asnOff - (slotAt s.clk s.clk.fab : Nat) } }

/-- The slot timer is set from TAI and an anchor (R127, R309). -/
def adoptAsn (anchor : Int) (s : State) : State :=
  let s := foldAslew (foldSlew s)
  asnMoved { s with clk := { s.clk with asnOff := s.clk.taiOff - anchor } }

end Sys2Proof.Machine
end

