-- ==== Sys2Proof/Machine/TrunkOps.lean ====
section
/-!
DEFINITION. The shared operations of the trunk (chapter 11): frames passed through, the master's TOPO, adoption of a TOPO,
a link's start and end.
-/
namespace Sys2Proof.Machine

/-- Link credit freed at the ingress of a port (R311, R312). -/
def freeIngress (p cls vc units : Nat) (s : State) : State :=
  updPort p (fun x => { x with inFreed := lmod x.inFreed (2 * cls + vc) (fun n => (n + units) % 65536),
                               firstFree := some (x.firstFree.getD s.clk.fab) }) s

/-- A frame leaves a port by pass-through, out of the ingress buffer of the other (R311, R314). -/
def passOn (p : Nat) (f : TrunkFrame) (s : State) : State :=
  let s := freeIngress (1 - p) f.cls f.vc (frameUnits f.len) (useCredit p f.cls f.vc (frameUnits f.len) s)
  emit (.trunk p { f with hops := f.hops - 1 } .passed []) s

/-- Remove the first entry that satisfies a test. -/
def dropFirst {α : Type} (f : α → Bool) : List α → List α
  | [] => []
  | x :: r => if f x then r else x :: dropFirst f r

/-- The virtual output queue of a class served next on a port (R315): round-robin among the destinations for which this node holds
credit, from the one after the last served. -/
def nextQueue (s : State) (p cls : Nat) : Option (Nat × Nat × TMsg) :=
  let heads := ((List.range 66).map (fun d => [false, true].filterMap (fun k =>
    s.trunk.voq.find? (fun q => q.1 == d && q.2.1 == cls && isNote q.2.2 == k)))).flatten
  let ready := heads.filter (fun q => canSend s q.1 cls q.2.2 == some p)
  match ready.find? (fun q => decide (cN s.trunk.turn cls < q.1)) with
  | some q => some q
  | none => ready.head?

/-- A message of this node's own is served from its queue. -/
def serveQueue (p : Nat) (q : Nat × Nat × TMsg) (s : State) : State :=
  sendNow p q.1 q.2.1 q.2.2 { s with trunk := { s.trunk with
    voq := dropFirst (fun x => x.1 == q.1 && x.2.1 == q.2.1 && isNote x.2.2 == isNote q.2.2) s.trunk.voq, turn := lset s.trunk.turn q.2.1 q.1 } }

/-- What a port serves next of a class (R310, R311): a frame that passes through and this node's own alternate. -/
def serveClass (p cls : Nat) (s : State) : Option State :=
  let q := portOf s p
  let pass := q.wait.find? (fun f => f.cls == cls && linkCredit q f.cls f.vc (frameUnits f.len))
  let own : Option (State → State) :=
    match (if cls = 0 then q.flood.head? else none) with
    | some m =>
      if linkCredit q 0 0 (frameUnits (tmsgLen m)) then
        some (fun s => sendFree p 255 0 m (useCredit p 0 0 (frameUnits (tmsgLen m)) (updPort p (fun x => { x with flood := x.flood.drop 1 }) s)))
      else none
    | none => (nextQueue s p cls).map (serveQueue p)
  let mark (b : Bool) (s : State) : State := updPort p (fun x => { x with lastOwn := lset x.lastOwn cls b }) s
  let goPass (f : TrunkFrame) : State := mark false (passOn p f (updPort p (fun x => { x with wait := dropFirst (· == f) x.wait }) s))
  match pass, own with
  | none, none => none
  | some f, none => some (goPass f)
  | none, some g => some (mark true (g s))
  | some f, some g => some (if lget q.lastOwn cls false then goPass f else mark true (g s))

/-- A port serves its traffic in the order of R310 (log entry 20: class S after class N) while there is credit. -/
def serveEgress (p : Nat) : Nat → State → State
  | 0, s => s
  | k + 1, s =>
    match [0, 1, 2, 3].findSome? (fun c => serveClass p c s) with
    | some s => serveEgress p k s
    | none => s

/-- Serve a port. -/
def retryPort (p : Nat) (s : State) : State :=
  let q := portOf s p
  let s := serveEgress p (q.wait.length + q.flood.length + s.trunk.voq.length) s
  updPort p (fun x => { x with waitSince := if x.wait.isEmpty then none else x.waitSince }) s

/-- Messages of this node's own whose destination has no route any more are dropped and counted (R314). -/
def dropLost (s : State) : State :=
  let lost := s.trunk.voq.filter (fun q => (route s q.1).isNone)
  lost.foldl (fun s _ => cntUp 0x30014 s)
    { s with trunk := { s.trunk with voq := s.trunk.voq.filter (fun q => (route s q.1).isSome) } }

/-- Serve both ports after credit or a route has come. -/
def retryVoq (s : State) : State := retryPort 1 (retryPort 0 (dropLost s))

/-- Whether a port leads anywhere: handshake done, wired as R302 asks, no duplicate ID (R303). -/
def portUsable (p : Port) : Bool := decide (3 ≤ p.state) && !p.miswired && !p.dup

/-- What this node's LINK_REPORT holds of its ports (R316). -/
def ownReport (s : State) : Nat × Nat × Nat × Nat :=
  let st (p : Port) : Nat := if p.state < 3 then p.state else if portUsable p then p.state else 2
  (st (portOf s 0), neighbour (portOf s 0), st (portOf s 1), neighbour (portOf s 1))

/-- The report the master holds of a node, its own among them. -/
def reportOf (s : State) (id : Nat) : Option (Nat × Nat × Nat × Nat) :=
  if id = modId s then some (ownReport s) else mget s.trunk.reports id

/-- The node that a node's TB joins, when both ends report the link (R302, R316). -/
def nextNode (s : State) (id : Nat) : Option Nat :=
  match reportOf s id with
  | none => none
  | some r =>
    if r.2.2.1 < 3 then none
    else match reportOf s r.2.2.2 with
      | some q => if 3 ≤ q.1 ∧ q.2.1 = id ∧ r.2.2.2 ≠ id then some r.2.2.2 else none
      | none => none

/-- The node that a node's TA joins. -/
def prevNode (s : State) (id : Nat) : Option Nat :=
  match reportOf s id with
  | none => none
  | some r =>
    if r.1 < 3 then none
    else match reportOf s r.2.1 with
      | some q => if 3 ≤ q.2.2.1 ∧ q.2.2.2 = id ∧ r.2.1 ≠ id then some r.2.1 else none
      | none => none

/-- Follow the ring from a node by `next`, not back to `home`: the nodes reached, and whether it closed. -/
def followRing (next : Nat → Option Nat) (home : Nat) : Nat → Nat → List Nat → List Nat × Bool
  | 0, _, acc => (acc.reverse, false)
  | k + 1, id, acc =>
    match next id with
    | none => (acc.reverse, false)
    | some n => if n = home then (acc.reverse, true)
                else if acc.contains n then (acc.reverse, false)
                else followRing next home k n (n :: acc)

/-- The entries of TOPO as the reports stand (R316): ring order from the master by its TB, then what its TA reaches. -/
def ringEntries (s : State) : List (Nat × Bool) × Bool :=
  let me := modId s
  let (fwd, closed) := followRing (nextNode s) me 66 me []
  if closed then ((me :: fwd).map (fun n => (n, true)), true)
  else
    let (back, _) := followRing (prevNode s) me 66 me []
    let back := back.filter (fun n => !fwd.contains n)
    let first := me :: fwd
    (first.mapIdx (fun i n => (n, decide (i + 1 < first.length))) ++ back.reverse.map (fun n => (n, true)), false)

/-- Whether a TOPO lists a link from `a` to `b`. -/
def listsLink (m : TopoMsg) (a b : Nat) : Bool :=
  let n := m.entries.length
  (List.range n).any (fun i => match m.entries[i]?, m.entries[(i + 1) % n]? with
    | some x, some y => x.2 && x.1 == a && y.1 == b
    | _, _ => false)

/-- Whether a TOPO removes a link that another lists (R316). -/
def removesLink (old m : TopoMsg) : Bool :=
  let n := old.entries.length
  (List.range n).any (fun i => match old.entries[i]?, old.entries[(i + 1) % n]? with
    | some x, some y => x.2 && !listsLink m x.1 y.1
    | _, _ => false)

/-- Whether this node's link on a port is listed as in state 4 (R305, R316). -/
def portListed (s : State) (m : TopoMsg) (p : Nat) : Bool :=
  let q := portOf s p
  portUsable q && (if p = 1 then listsLink m (modId s) (neighbour q) else listsLink m (neighbour q) (modId s))

/-- A port's state as a TOPO leaves it. -/
def listPort (m : TopoMsg) (p : Nat) (s : State) : State :=
  let on := portListed s m p
  let s := if on then startupMark 4 s else s
  updPort p (fun x => if x.state < 3 then x else { x with state := if on then 4 else 3 }) s

/-- The receive share of a source as kept. -/
def srcOf (s : State) (n : Nat) : SrcShare :=
  mgetD s.trunk.srcs n { held := [0, 0, 0], freed := [0, 0, 0], reported := [0, 0, 0], sentAt := 0 }

/-- DCREDIT for a source (R315): what it holds is read out of the store by then. -/
def sendDcredit (reset : Bool) (s : State) (n : Nat) : State :=
  let x := srcOf s n
  let grant := [shareOf s n 0 / 64, shareOf s n 1 / 64, shareOf s n 2 / 64]
  let s := { s with trunk := { s.trunk with srcs := mset s.trunk.srcs n { x with reported := x.freed, sentAt := s.clk.fab } } }
  trunkSend n 0 (.dcredit reset x.freed x.held grant) s

/-- At every change of topology generation each destination sends DCREDIT with RESET (R315). -/
def resetDcredits (m : TopoMsg) (s : State) : State :=
  ((m.entries.map (fun e => e.1)).filter (fun n => n != modId s)).foldl (sendDcredit true) s

/-- RING_OPEN is set (R317). -/
def ringOpens (s : State) : State := stickySet 52 (s.trunk.tgen % 4294967296) s

/-- The boundary vertices of the street graph (R197). -/
def boundRows (s : State) : List Nat := (storedRows s 0x70100).filter (fun v => getC s 0x70100 v 0 == 3)

/-- The modules that boundary rows name (R217). -/
def boundModules (s : State) : List Nat := (boundRows s).foldl (fun l v => insertNat (getC s 0x70100 v 15) l) []

/-- What BOUNDARY_LIST says of a boundary row (R217): BKEY, the lantern vertex on the other end of its edge, the length. -/
def boundEntry (s : State) (v : Nat) : Nat × Nat × Nat :=
  let r := getRow s 0x70100 v
  match (List.range 4).find? (fun i => rNat r (3 + 3 * i) != 65535) with
  | some i => (rNat r 16, rNat r (3 + 3 * i), rNat r (4 + 3 * i))
  | none => (rNat r 16, 65535, 0)

/-- BOUNDARY_LIST to a module (R217): one part of at most 243 entries, or two. -/
def sendList (s : State) (m : Nat) : State :=
  let e := ((boundRows s).filter (fun v => getC s 0x70100 v 15 == m)).map (boundEntry s)
  if (route s m).isNone then s
  else if e.length ≤ 243 then trunkSend m 2 (.boundaryList (modId s) 0 1 e) s
  else trunkSend m 2 (.boundaryList (modId s) 1 2 (e.drop 243)) (trunkSend m 2 (.boundaryList (modId s) 0 2 (e.take 243)) s)

/-- Handshakes brought a module into reach (R217): its list leaves, and 10 s run for the module's own. -/
def moduleReached (s : State) (m : Nat) : State :=
  let s := { s with trk := { s.trk with bounds := s.trk.bounds.map (fun p =>
    if getC s 0x70100 p.1 15 = m then (p.1, { p.2 with since := some s.clk.fab }) else p) } }
  sendList s m

/-- A TOPO comes into force (R316, R317, R334): routes, port states, credits; a moved ASN_ANCHOR steps a member's TAI. -/
def adoptTopo (m : TopoMsg) (s0 : State) : State :=
  let s := s0
  let old := s.trunk.topo
  let opened := m.kind == 1 && s.trunk.cut.isEmpty && (match old with | some o => o.kind == 0 | none => false)
  let d : Int := match old with | some o => m.anchor - o.anchor | none => 0
  let s := { s with trunk := { s.trunk with topo := some m, tgen := m.tgen, later := none, cut := [],
                                            moved := if modId s = 0 then m.dateline != 0 else s.trunk.moved } }
  let s := listPort m 1 (listPort m 0 s)
  let s := if opened then ringOpens s else s
  let s := if d != 0 && !actsMaster s && s.time.everLocked then
      let s := stepTai d 5 noClient s
      { s with time := { s.time with unexplained := none, held := false } }
    else s
  let s := retryVoq (resetDcredits m s)
  ((boundModules s).filter (fun n => (route s0 n).isNone && (route s n).isSome)).foldl moduleReached s

/-- Flood a TOPO both ways (R316). -/
def floodTopo (m : TopoMsg) (s : State) : State :=
  flood 1 (.topo m) (flood 0 (.topo m) s)

/-- Issue a TOPO at the master (R316): a removal is in force at once, anything else at the next superframe boundary. -/
def issueTopo (m : TopoMsg) (atOnce : Bool) (s : State) : State :=
  let s := if atOnce then adoptTopo m s
    else { s with trunk := { s.trunk with later := some (m, boundaryAfter s 1) } }
  floodTopo m s

/-- The next topology generation (R316). -/
def nextTgen (s : State) : Nat :=
  ((match s.trunk.later with | some q => max q.1.tgen s.trunk.tgen | none => s.trunk.tgen) + 1) % 4294967296

/-- A step of TAI that waits for its boundary (R334). -/
def stepAhead (s : State) : Int := match s.time.pendingStep with | some p => p.1 | none => 0

/-- The TOPO the master would issue now. -/
def buildTopo (s : State) : TopoMsg :=
  let (e, closed) := ringEntries s
  { tgen := nextTgen s, anchor := anchorOf s + stepAhead s,
    kind := if getN s 0x30105 = 1 then 2 else if closed then 0 else 1,
    deputy := getN s 0x30110, dateline := modId s, entries := e }

/-- The master re-reads the reports: a change of the ring makes a new TOPO (R316), a link gone is a healed ring (R317). -/
def masterTopo (s : State) : State :=
  if !actsMaster s || !commissioned s || getN s 0x30105 = 2 then s
  else
    let m := buildTopo s
    let last := match s.trunk.later with | some q => some q.1 | none => s.trunk.topo
    match last with
    | some o =>
      if o.entries = m.entries ∧ o.kind = m.kind then s
      else
        let gone := removesLink o m
        let s := if gone then putN 0x30013 (time64 s) (cntUp 0x30012 s) else s
        issueTopo m gone s
    | none => issueTopo m true s

/-- A change of a port's state reaches the master (R316). -/
def reportLinks (s : State) : State :=
  if actsMaster s then masterTopo s
  else
    let r := ownReport s
    trunkSend (masterId s) 0 (.linkReport (modId s) r.1 r.2.1 r.2.2.1 r.2.2.2) s

/-- The role this node gives in HELLO (R309). -/
def helloRole (s : State) : Nat :=
  if !commissioned s then 4 else if modId s = 0 then (if s.trunk.moved then 1 else 0) else if actsMaster s then 2 else 1

/-- The tamper notice (R366). -/
def tamperNotice (s : State) : Bytes :=
  be 1 1 ++ be 1 3 ++ be 1 s.life.cause ++ be 1 0 ++ be 2 s.life.seen.toNat ++ be 8 s.life.firstTrip
    ++ be 2 (mgetD s.dict.logs 0x10020 []).length

/-- This node's HELLO on a port (R309, R366): CAPS cut-through, boundary clock, may act as master. -/
def ownHello (p : Nat) (s : State) : HelloMsg :=
  { role := helloRole s, node := modId s, port := p, part := Config.partCode, cascade := getN s 0x30100,
    serial := fit 16 Config.serial, nonce := (portOf s p).nonce, proto := 1, caps := 7,
    notice := if isTampered s then some (tamperNotice s) else none }

/-- HELLO leaves a port (R309, R366). -/
def sendHello (p : Nat) (s : State) : State :=
  sendFree p 254 0 (.hello (ownHello p s)) s

/-- This node's grants by class C, U, N, S (R311). -/
def ownGrant : List Nat := [256, 1024, 2048, 1024]

/-- This node's OFFER or ACCEPT on a port to a neighbour (R309). -/
def ownProof (p : Nat) (h : HelloMsg) (s : State) : ProofMsg :=
  let m : ProofMsg :=
    { nonce := h.nonce, time := time64 s, anchor := anchorOf s, quality := timeQuality s, master := masterId s,
      grant := ownGrant, proof := [] }
  { m with proof := linkProof s (ownHello p s) h m }

/-- OFFER or ACCEPT leaves a port (R309). -/
def sendProof (isAccept : Bool) (p : Nat) (h : HelloMsg) (s : State) : State :=
  let m := ownProof p h s
  sendFree p 254 0 (if isAccept then TMsg.accept m else TMsg.offer m) s

/-- A link starts: key, counters and credit anew (R309, R312, R318); its port reaches state 3 and counts the link-up
(R306). A module that was never locked takes its first estimate of the slot timer (R309). -/
def linkStart (p : Nat) (m : OfferMsg) (s : State) : State :=
  let s := updPort p (fun x => { x with
    state := 3, started := s.clk.fab, wasUp := true, grant := m.grant, sent := List.replicate 8 0,
    freed := List.replicate 8 0, inFreed := List.replicate 8 0, reported := List.replicate 8 0, firstFree := none,
    lastCredit := s.clk.fab, announced := none, exchanges := 0, fcntTx := 0, fcntRx := 0 }) s
  let s := cntUpAt 0x30020 p 3 1 s
  let s := if !s.time.everLocked && !actsMaster s && m.anchor != 0 then
      let s1 := foldAslew (foldSlew s)
      asnMoved { s1 with clk := { s1.clk with asnOff := (ofTime64 m.time : Int) - m.anchor - s1.clk.fab } }
    else s
  reportLinks s

/-- Keep the conditions TRUNK_WIRING, TRUNK_DUP_ID, SFP_UNSUPPORTED and LINK_LONG (R302, R303, R305, R313). -/
def portConds (p : Nat) (s : State) : State :=
  let a := portOf s 0
  let b := portOf s 1
  let s := condSet 48 p (a.miswired || b.miswired) s
  let s := condSet 49 p (a.dup || b.dup) s
  condSet 51 p (a.long || b.long) s

/-- A frame of a dead port (R318): a VC0 frame is turned to the other port, any other is lost. -/
def turnFrame (p : Nat) (s : State) (f : TrunkFrame) : State :=
  if f.vc = 0 ∧ !f.turned then
    let s := updPort (1 - p) (fun x => { x with wait := x.wait ++ [{ f with turned := true }],
                                                waitSince := some (x.waitSince.getD s.clk.fab) }) s
    retryPort (1 - p) s
  else cntUp 0x30014 s

/-- A RING_BREAK record (R382). -/
def ringBreakRec (a b port : Nat) (s : State) : State :=
  record 0x3010 5 (s.trunk.tgen % 65536) (be 1 a ++ be 1 b ++ be 1 port ++ be 1 0 ++ be 4 s.trunk.tgen) s

/-- A link is down or restarts (R305, R306, R317, R318): from step 1 again; a link with its handshake done sends BREAK,
is routed around, and turns its frames. -/
def linkEnds (p : Nat) (s : State) : State :=
  let q := portOf s p
  let s := updPort p (fun x => { x with
    state := if x.present then 1 else 0, negotiated := false, miswired := false, dup := false, peer := none, long := false,
    wait := [], waitSince := none, flood := [] }) s
  let s := portConds p (if q.state < 2 then s else emit (.remoteFault p) s)
  if q.state < 3 then s
  else
    let a := modId s
    let b := neighbour q
    let s := { s with trunk := { s.trunk with cut := (a, b) :: s.trunk.cut } }
    let s := flood (1 - p) (.breakMsg a b s.trunk.tgen) s
    let s := ringBreakRec a b p (ringOpens s)
    let s := if actsMaster s then s else putN 0x30013 (time64 s) (cntUp 0x30012 s)
    let s := q.wait.foldl (turnFrame p) s
    reportLinks s

end Sys2Proof.Machine
end

