-- ==== Sys2Proof/Machine/IoOps.lean ====
section
/-!
DEFINITION. The contactor outputs K0 to K3 (R443, R496): what they shall show, and how a change reaches them.
-/
namespace Sys2Proof.Machine

/-- Output `k`. -/
def outOf (s : State) (k : Nat) : Output := lget s.io.outs k Output.init

/-- Change output `k`. -/
def updOut (k : Nat) (f : Output → Output) (s : State) : State := { s with io := { s.io with outs := lmod s.io.outs k f } }

/-- The output stage switches an output (OUTPUT_STATUS counts the change). -/
def switchPin (k : Nat) (v : Bool) (s : State) : State :=
  if (outOf s k).pin = v then updOut k (fun o => { o with pend := none }) s
  else cntUpAt 0x00501 k 3 1 (updOut k (fun o => { o with pin := v, pend := none, changed := some s.clk.fab }) s)

/-- Whether the self-test slice in progress touches an item (R431). -/
def inSlice (s : State) (row : Nat) : Bool := match s.test.slice with | some x => x.row == row | none => false

/-- The lane's write reaches an output; during a slice on it, it goes into the copy and takes effect at restore (R431). -/
def setPin (k : Nat) (v : Bool) (s : State) : State :=
  if inSlice s (10 + k) then
    updOut k (fun o => { o with pend := none }) { s with test := { s.test with copy := mset s.test.copy k v } }
  else switchPin k v s

/-- An edge of a debounced pin, inverted as INPUT_CONFIG says, reaches the ICU (R405, R497). -/
def diEdge (n : Nat) (on : Bool) (s : State) : State :=
  let v : BitVec 8 := BitVec.twoPow 8 n
  let s1 := { s with io := { s.io with inputs := if on then s.io.inputs ||| v else s.io.inputs &&& ~~~v } }
  let rising := on != (getC s 0x00511 n 1 == 1)
  icuRaise (2 + n) (putC 0x00512 n 2 (vN (time64 s)) (cntUpAt 0x00512 n (if rising then 0 else 1) 1 s1))

/-- Whether an output's last driven change lies less than OUTPUT_MIN_GAP back (R496). -/
def inGap (s : State) (k : Nat) : Bool :=
  (outOf s k).changed.any (fun f => decide (s.clk.fab < f + getN s 0x00502 * Config.msCycles))

/-- A state is driven on an output (R496): pending while the gap lasts; the driven state cancels a pending change. -/
def driveOut (k : Nat) (v : Bool) (s : State) : State :=
  if (outOf s k).pin = v then setPin k v s
  else if inGap s k then updOut k (fun o => { o with pend := some v }) s
  else setPin k v s

/-- What an output shall show (R361, R365, R443, R496). -/
def outWanted (s : State) (k : Nat) : Bool :=
  let o := outOf s k
  if s.io.scrap then false
  else if o.tripped then false
  else if isTampered s then
    (match getC s 0x10101 k 0 with
    | 1 => true
    | 2 => false
    | _ => o.pend.getD o.pin)
  else o.cmd

/-- The active lane's word reaches the outputs (R443); with no lane active, or no coil supply, they hold. -/
def outSync (s : State) : State :=
  if s.io.scrap then (List.range 4).foldl (fun s k => setPin k false s) s
  else if (active s).isNone || !s.power.coil then s
  else (List.range 4).foldl (fun s k => driveOut k (outWanted s k) s) s

end Sys2Proof.Machine
end

