-- ==== Sys2Proof/Machine/LifeOps.lean ====
section
/-!
DEFINITION. The shared operations of the vault, the life cycle and tamper (chapter 13).
-/
namespace Sys2Proof.Machine

/-- Change the life cycle. -/
def updLife (f : Life → Life) (s : State) : State := { s with life := f s.life }
/-- Whether the life-cycle state answers a handshake on this entry (R355). -/
def entryOpen (s : State) (e : Entry) : Bool :=
  match s.life.state with
  | .blank => false
  | .scrapped => false
  | .owned => true
  | .stock => e == .service
  | .tampered => e == .service
  | .returned => e == .service

/-- Whether R356 refuses a certificate at set-up: on the deny list, or outside its dates while time is set. -/
def certDenied (s : State) (c : Cert) : Bool :=
  (s.life.state == .owned || s.life.state == .tampered)
    && ((storedRows s 0x10121).any (fun r => let b := rOct (getRow s 0x10121 r) 0
          b == fit 16 c.hash && b.any (fun x => x != 0))
      || (getB s 0x10102 && timeQuality s != 4 && !c.inDates))

/-- Change a lane's vault. -/
def updVault (l : Lane) (f : Vault → Vault) (s : State) : State := updLane l (fun x => { x with vault := f x.vault }) s
/-- A lane's vault. -/
def vaultOf (s : State) (l : Lane) : Vault := (s.lanes.get l).vault

/-- A row of LC_LOG (1:0030). -/
def lcLog (a b : Lc) (client : Bytes) (cause : Nat) (s : State) : State :=
  logPush 0x10030 16 [vN (time64 s), vN (lcCode a), vN (lcCode b), .bytes (fit 16 client), vN cause] s

/-- A transition of the life cycle (R354): journalled, every sequence broken, logged, recorded. -/
def lcMove (b : Lc) (client : Bytes) (cause : Nat) (s : State) : State :=
  let a := s.life.state
  let s := journal (.life (lcCode b)) s
  let s := breakAllSeqs 4 (updLife (fun x => { x with state := b }) s)
  record 0x1011 6 0 (be 1 (lcCode a) ++ be 1 (lcCode b) ++ be 1 cause ++ be 1 0 ++ fit 16 client) (lcLog a b client cause s)

/-- The bytes of a tamper record (R370). -/
def tamperBytes (r : TamperRec) : Bytes :=
  be 1 r.moment ++ be 1 r.lcBefore ++ be 2 r.sources.toNat ++ be 8 r.time ++ be 4 (min r.tripped 4294967295)
    ++ be 2 (min r.folds 65535) ++ be 1 r.zeroised ++ be 1 r.flags ++ List.replicate 12 0

/-- A tamper record or suspension entry reaches TAMPER_LOG and the recorder (R363, R370). -/
def tamperLog (r : TamperRec) (s : State) : State :=
  let b := tamperBytes r
  record 0x1010 (if bitOf r.flags 1 then 2 else 7) 0 b (logPush 0x10020 16 [.bytes b] s)

/-- An ENC suspension in force (R363). -/
def suspended (s : State) : Bool := s.life.suspend.any (fun x => decide (s.clk.fab < x.1))

/-- Whether a tamper source is enabled and not suspended (R363). -/
def sourceLive (s : State) (n : Nat) : Bool :=
  if n = 0 ∨ n = 1 then bitOf (getN s 0x10100) n && !suspended s
  else if n = 2 ∨ n = 9 then bitOf (getN s 0x10100) n
  else true

/-- What the tamper inputs read now: a source marked tripped can have left its tripped state since; which have is a free
value. -/
def sampleInputs (s : State) : State :=
  let f := BitVec.ofNat 16 (freeNat s)
  draw (updLife (fun x => { x with inputs := x.inputs &&& f }) s)

/-- Whether an enabled, unsuspended source reads tripped (R368). -/
def anyTripped (s : State) : Bool :=
  (List.range 11).any (fun n => s.life.inputs.getLsbD n && sourceLive s n)

/-- ZEROISED of a record: what the vaults held (R370). -/
def zeroMask (s : State) (a b : Bool) : Nat :=
  packBits [a && s.lanes.a.vault.root.isSome, b && s.lanes.b.vault.root.isSome, a && s.lanes.a.vault.keys, b && s.lanes.b.vault.keys]

/-- A vault's key operation stops (R353, R364): no partial result, DATA cleared, cause 1. -/
def abortOp (v : Vault) : Vault :=
  match v.busy with
  | none => v
  | some _ => { v with busy := none, err := true, cause := 1, data := [], outLen := 0 }

/-- A vault is zeroised of its owner root, working keys and handles (R364, R367). -/
def zeroVault (v : Vault) : Vault :=
  { abortOp v with root := none, unsealed := false, handles := [], keys := false }

/-- The VAULT_DONE source of a core (R405). -/
def vaultDoneSrc (c : Core) : Nat := if c = .A0 then 144 else if c = .A1 then 145 else 146

/-- A lane's vault loses what `f` takes (R364, R367): an operation it stops ends with its cause for the core that wrote GO. -/
def zeroLane (l : Lane) (f : Vault → Vault) (s : State) : State :=
  let b := (vaultOf s l).busy
  let s := updVault l f s
  match b with
  | some x => icuRaiseAt l (vaultDoneSrc x.2) s
  | none => s

/-- Working keys and handles go; an owner root, where there is one, stays (R364, RETURN). -/
def zeroKeys (v : Vault) : Vault := { abortOp v with handles := [], keys := false }

/-- Every session ends without reply, with its association (R364); completions stay. -/
def dropSessions (s : State) : State :=
  { s with ib := { s.ib with sessions := [], subs := [], assocs := [], handshakes := [] } }

/-- The MOMENT of a trip while main power is on (R364, R370). -/
def tripMoment (s : State) : Nat :=
  if s.lanes.a.vault.busy.isSome || s.lanes.b.vault.busy.isSome then 2
  else if s.lanes.a.vault.unsealed || s.lanes.b.vault.unsealed || (active s).isSome then 1
  else 0

/-- Fold a trip into the newest record that is no suspension entry (R368). -/
def foldTrip (n : Nat) : List Row → List Row
  | [] => []
  | r :: rest =>
    let b := rOct r 0
    if bitOf (ofBe ((b.drop 19).take 1)) 1 then r :: foldTrip n rest
    else
      let src := ofBe ((b.drop 2).take 2) ||| 2 ^ n
      let folds := min (ofBe ((b.drop 16).take 2) + 1) 65535
      [Val.bytes (b.take 2 ++ be 2 src ++ (b.drop 4).take 12 ++ be 2 folds ++ b.drop 18)] :: rest

/-- A trip is counted and recorded (R364, R368, R370); how long the source stayed tripped is a free value. -/
def tripRecord (n zeroised : Nat) (s : State) : State :=
  let s := ropUp 0x10016 1 s
  let recent := s.life.lastTrip.any (fun f => decide (s.clk.fab < f + Config.secCycles))
  if recent then
    { s with dict := { s.dict with logs := mset s.dict.logs 0x10020 (foldTrip n (mgetD s.dict.logs 0x10020 [])) } }
  else
    let r : TamperRec := { moment := tripMoment s, lcBefore := lcCode s.life.state, sources := BitVec.twoPow 16 n,
                           time := time64 s, tripped := freeNat s % 4294967296, folds := 0, zeroised := zeroised,
                           flags := b2n (suspended s) }
    tamperLog r (draw (updLife (fun x => { x with lastTrip := some s.clk.fab }) s))

/-- The module falls into TAMPERED (R364, R365, R366): roots and keys gone, sessions closed without reply, links not
admitted, the outputs as OUT_TAMPER says. -/
def enterTampered (cause : Nat) (s : State) : State :=
  let s := zeroLane .B zeroVault (zeroLane .A zeroVault s)
  let s := updLife (fun x => { x with cause := cause }) (lcMove .tampered noClient (if cause = 1 then 1 else 2) s)
  let s := stickySet 16 cause (dropSessions s)
  let s := updLife (fun x => { x with firstTrip := time64 s }) s
  outSync (linkEnds 1 (linkEnds 0 s))

/-- A module-wide trip with main power on (R364). -/
def moduleTrip (n : Nat) (s : State) : State :=
  match s.life.state with
  | .blank => s
  | .scrapped => s
  | .owned =>
    let s := tripRecord n (zeroMask s true true) s
    enterTampered 1 (updLife (fun x => { x with seen := BitVec.twoPow 16 n }) s)
  | .tampered => tripRecord n 0 (updLife (fun x => { x with seen := x.seen ||| BitVec.twoPow 16 n }) s)
  | .stock => tripRecord n 0 s
  | .returned => dropSessions (zeroLane .B zeroKeys (zeroLane .A zeroKeys (tripRecord n (zeroMask s true true) s)))

/-- A lane-local trip (R367): its vault zeroised and counted, its lane condemned; the third in 30 days, or no root left,
acts module-wide. In RETURN its vault's working keys go, with the sessions where it serves them. -/
def localTrip (l : Lane) (n : Nat) (s : State) : State :=
  match s.life.state with
  | .blank => s
  | .scrapped => s
  | .owned =>
    let s := tripRecord n (zeroMask s (l == .A) (l == .B)) s
    let s := zeroLane l (fun v => { zeroVault v with zeroised := v.zeroised + 1, zeroTimes := s.clk.fab :: v.zeroTimes }) s
    let s := condemn l .vault (stickySet 16 (laneNo l) s)
    let recent := (s.lanes.a.vault.zeroTimes ++ s.lanes.b.vault.zeroTimes).filter
      (fun f => decide (s.clk.fab < f + 30 * dayCycles))
    if 3 ≤ recent.length then moduleTrip 10 s
    else if s.lanes.a.vault.root.isNone && s.lanes.b.vault.root.isNone then
      enterTampered 1 (updLife (fun x => { x with seen := BitVec.twoPow 16 n }) s)
    else s
  | .stock => tripRecord n 0 s
  | .tampered => tripRecord n 0 s
  | .returned =>
    let s := zeroLane l zeroKeys (tripRecord n (zeroMask s (l == .A) (l == .B)) s)
    if servedBy s = l then dropSessions s else s

/-- A record of a sleep trip into the battery domain's store of 8 (R368, R370). -/
def storeTrip (r : TamperRec) (fold : Bool) (st : List TamperRec) : List TamperRec :=
  if fold || 8 ≤ st.length then
    match st.getLast? with
    | some x => st.dropLast ++ [{ x with sources := x.sources ||| r.sources, folds := x.folds + 1 }]
    | none => [r]
  else st ++ [r]

/-- The battery domain's monitor acts with main power off (R364, R369, R370): both owner roots go, and a record with
MOMENT 3 waits in its store. -/
def sleepRecord (src : BitVec 16) (time : Nat) (s : State) : State :=
  let z := zeroMask s true true
  let recent := s.life.lastTrip.any (fun f => decide (s.clk.fab < f + Config.secCycles))
  let r : TamperRec := { moment := 3, lcBefore := lcCode s.life.state, sources := src, time := time, tripped := 0,
                         folds := 0, zeroised := z, flags := b2n (suspended s) }
  let s := updVault .B zeroVault (updVault .A zeroVault s)
  updLife (fun x => { x with
    store := storeTrip r recent x.store, lastTrip := if recent then x.lastTrip else some s.clk.fab }) s

/-- A suspension entry (R363). -/
def suspendEntry (time tripped : Nat) (inForce : Bool) (s : State) : State :=
  tamperLog { moment := 1, lcBefore := lcCode s.life.state, sources := 0, time := time, tripped := tripped, folds := 0,
              zeroised := 0, flags := 2 + b2n inForce } s

/-- A suspension ends (R363): its entry; an enclosure switch still open trips. -/
def endSuspend (s : State) : State :=
  match s.life.suspend with
  | none => s
  | some _ =>
    let s := suspendEntry (time64 s) 0 false (updLife (fun x => { x with suspend := none }) s)
    let s := sampleInputs s
    let s := if s.life.inputs.getLsbD 0 && sourceLive s 0 then moduleTrip 0 s else s
    if s.life.inputs.getLsbD 1 && sourceLive s 1 then moduleTrip 1 s else s

/-- The DATA bytes of a mailbox: word by word, lowest address first (R9, R352). -/
def mailBytes (v : Vault) (n : Nat) : Bytes :=
  (List.range n).map (fun i => (mgetD v.data (i / 4) 0).extractLsb' (8 * (i % 4)) 8)

/-- Result bytes in DATA. -/
def mailWords (b : Bytes) : NMap Word32 :=
  (List.range ((b.length + 3) / 4)).map (fun i =>
    (i, b.getD (4 * i + 3) 0 ++ b.getD (4 * i + 2) 0 ++ b.getD (4 * i + 1) 0 ++ b.getD (4 * i) 0))

/-- The rows of R350: label, root it hangs from (0 factory, 1 return, 2 owner), whether it takes a context, output bits. -/
def treeRows : List (String × Nat × Bool × Nat) :=
  [("ATTEST-FAC", 0, false, 448), ("CLAIM", 0, false, 40), ("LANE-PAIR", 0, false, 256), ("ESCROW-IN", 0, false, 448),
   ("ANCHOR-MAC", 0, false, 256), ("ATTEST-RET", 1, false, 448), ("ROOT-ID", 2, false, 64), ("ATTEST-OWN", 2, false, 448),
   ("KEY-STORE", 2, false, 256), ("TRUNK-KEK", 2, false, 256), ("IBIER-TICKET", 2, false, 256),
   ("CYDEL-CLUSTER", 2, true, 128), ("CYDEL-BCAST", 2, true, 128)]

/-- The row of a label. -/
def treeRow (b : Bytes) : Option (String × Nat × Bool × Nat) := treeRows.find? (fun r => ascii r.1 == b)

/-- The label at the start of DATA, up to a zero byte or the input's end. -/
def mailLabel (b : Bytes) : Bytes := b.takeWhile (fun x => x != 0)

/-- Whether a root is live for derivation (R346, R347). -/
def rootLive (s : State) (v : Vault) (r : Nat) : Bool :=
  if r = 0 then v.roots && s.life.state != .scrapped
  else if r = 1 then v.roots && s.life.state == .returned
  else v.root.isSome && v.unsealed

/-- A root's bytes (R346). -/
def rootBytes (v : Vault) (r : Nat) : Bytes :=
  if r = 0 then Config.factoryRoot else if r = 1 then Config.returnRoot else v.root.getD []

/-- The context behind a label in DATA: the byte after the zero byte that ends the label (R350, R353). -/
def mailContext (b : Bytes) : Bytes := ((b.dropWhile (fun x => x != 0)).drop 1).take 1

/-- The code of an operation in CMD.OP (R353). -/
def vaultCode (op : VaultOp) : Nat :=
  match op with
  | .derive => 1
  | .loadSlot => 2
  | .sign => 3
  | .verify => 4
  | .ecdh => 5
  | .aeadSeal => 6
  | .aeadOpen => 7
  | .hmac => 8
  | .wrapExport => 9
  | .unwrapImport => 10

/-- The operation of a code (R353). -/
def vaultOpOf (n : Nat) : Option VaultOp :=
  [VaultOp.derive, .loadSlot, .sign, .verify, .ecdh, .aeadSeal, .aeadOpen, .hmac, .wrapExport, .unwrapImport].find?
    (fun o => vaultCode o == n)

/-- GO in the mailbox (R352): ignored and counted while BUSY; else VAULT_GO tells V0 (R405). -/
def vaultGo (l : Lane) (c : Core) (op : VaultOp) (s : State) : State :=
  match (vaultOf s l).busy with
  | some _ => updVault l (fun v => { v with ignored := v.ignored + 1 }) s
  | none => icuRaiseAt l 147 (updVault l (fun v => { v with op := vaultCode op, busy := some (op, c) }) s)

/-- An operation fails (R353): ERR, CAUSE, DATA cleared. -/
def opFail (cause : Nat) (v : Vault) : Vault :=
  { v with busy := none, err := true, cause := cause, data := [], outLen := 0 }

/-- An operation ends with a new handle, a free value, for a key (R353). -/
def opHandle (f : Nat) (key : Bytes) (v : Vault) : Vault :=
  let h := 1 + f % 65535
  { v with busy := none, handle := h, outLen := 0, handles := mset v.handles h key, keys := true }

/-- An operation ends with result bytes, free values (R353). -/
def opData (n : Nat) (f : Bytes) (v : Vault) : Vault :=
  { v with busy := none, outLen := n, data := mailWords (fit n f) }

/-- ESCROW_KEY is not installed (R359). -/
def noEscrowKey (s : State) : Bool := (rOct (getRow s 0x10140 0) 0).all (fun x => x == 0)

/-- What an operation leaves (R353); `ok` is its cryptographic verdict. -/
def opEnd (op : VaultOp) (ok : Bool) (s : State) (v : Vault) : Vault :=
  let f := freeNat s
  let b := freeBytes s
  let key := mget v.handles v.handle
  let has := key.isSome
  let dataIn := mailBytes v (min v.inLen 2048)
  if v.katBad then opFail 3 v
  else match op with
    | .derive =>
      match treeRow (mailLabel dataIn) with
      | none => opFail 2 v
      | some r =>
        if rootLive s v r.2.1 then
          opHandle f (kdf (rootBytes v r.2.1) r.1 (if r.2.2.1 then fit 1 (mailContext dataIn) else []) r.2.2.2) v
        else opFail 2 v
    | .loadSlot => if has then { v with busy := none, outLen := 0, keys := true } else opFail 2 v
    | .sign => if has then opData 96 b v else opFail 2 v
    | .verify => if ok then { v with busy := none, outLen := 0 } else opFail 4 v
    | .ecdh => if has then opHandle f b v else opFail 2 v
    | .aeadSeal => if has then opData (min (v.inLen + 16) 2048) b v else opFail 2 v
    | .aeadOpen => if !has then opFail 2 v else if ok then opData (v.inLen - 16) b v else opFail 4 v
    | .hmac => match key with | some k => opData 32 (hmac k dataIn) v | none => opFail 2 v
    | .wrapExport =>
      if !has then opFail 2 v else if noEscrowKey s then opFail 8 v else opData 173 b v
    | .unwrapImport => if ok then opHandle f b v else opFail 4 v

end Sys2Proof.Machine
end

