-- ==== Sys2Proof/Machine/LifeCmds.lean ====
section
/-!
DEFINITION. The commands of the key vault, life cycle and tamper (chapter 13) that do not restart the module.
-/
namespace Sys2Proof.Machine

/-- The vault mailbox (R352). -/
def vaultBase : Nat := 0x40C00000

/-- Whether a core reaches the mailbox (R352). -/
def reachesVault (c : Core) : Bool := c == .A0 || c == .A1 || c == .M0

/-- A write of GO with an operation: a core that does not reach the mailbox gets a bus error (R22, R23, R352). -/
def vaultCmd (op : VaultOp) (t : Nat) (l : Lane) (c : Core) (s : State) : Host.Outcome State Fault Refusal :=
  let s := tick t s
  if reachesVault c then done s (vaultGo l c op s) else done s (busErr l c vaultBase (isPolicy c) s)

/-- DERIVE (R353). -/
def execDerive (t : Nat) (l : Lane) (c : Core) (s : State) : Host.Outcome State Fault Refusal := vaultCmd .derive t l c s
/-- LOAD_SLOT (R353). -/
def execLoadSlot (t : Nat) (l : Lane) (c : Core) (s : State) : Host.Outcome State Fault Refusal := vaultCmd .loadSlot t l c s
/-- SIGN (R353). -/
def execSign (t : Nat) (l : Lane) (c : Core) (s : State) : Host.Outcome State Fault Refusal := vaultCmd .sign t l c s
/-- VERIFY (R353). -/
def execVerify (t : Nat) (l : Lane) (c : Core) (s : State) : Host.Outcome State Fault Refusal := vaultCmd .verify t l c s
/-- ECDH (R353). -/
def execEcdh (t : Nat) (l : Lane) (c : Core) (s : State) : Host.Outcome State Fault Refusal := vaultCmd .ecdh t l c s
/-- AEAD_SEAL (R353). -/
def execAeadSeal (t : Nat) (l : Lane) (c : Core) (s : State) : Host.Outcome State Fault Refusal := vaultCmd .aeadSeal t l c s
/-- AEAD_OPEN (R353). -/
def execAeadOpen (t : Nat) (l : Lane) (c : Core) (s : State) : Host.Outcome State Fault Refusal := vaultCmd .aeadOpen t l c s
/-- HMAC (R353). -/
def execHmac (t : Nat) (l : Lane) (c : Core) (s : State) : Host.Outcome State Fault Refusal := vaultCmd .hmac t l c s
/-- WRAP_EXPORT (R353). -/
def execWrapExport (t : Nat) (l : Lane) (c : Core) (s : State) : Host.Outcome State Fault Refusal := vaultCmd .wrapExport t l c s
/-- UNWRAP_IMPORT (R353). -/
def execUnwrapImport (t : Nat) (l : Lane) (c : Core) (s : State) : Host.Outcome State Fault Refusal := vaultCmd .unwrapImport t l c s

/-- VAULT_OP_DONE (R353, R405): the result or the cause; V0 has taken VAULT_GO where it is enabled; VAULT_DONE for the core that
wrote GO. -/
def execVaultOpDone (t : Nat) (l : Lane) (checkOk : Bool) (s : State) : Host.Outcome State Fault Refusal :=
  let s := tick t s
  match (vaultOf s l).busy with
  | none => done s s
  | some (op, c) =>
    let s1 := updIcu l (icuMod 147 (fun x => { x with pending := x.pending && !x.enabled })) (draw (updVault l (opEnd op checkOk s) s))
    done s (icuRaiseAt l (vaultDoneSrc c) s1)

/-- ROOT_COPY (R348): the vault without the owner root takes a sealed copy, at step 3 of R295 or at once at the active
lane, from a vault whose known-answer test passed within 10 s, and checks its ROOT_ID. -/
def execRootCopy (t : Nat) (target : Lane) (s : State) : Host.Outcome State Fault Refusal :=
  let s := tick t s
  let x := s.lanes.get target
  let o := (s.lanes.get (otherLane target)).vault
  let fresh := o.katFab.any (fun f => decide (s.clk.fab ≤ f + 10 * Config.secCycles)) && !o.katBad
  let known := o.root.any (fun r => rootIdOf r == s.life.rootId)
  if s.life.state = .owned ∧ x.vault.root.isNone ∧ known ∧ fresh ∧ bridgeUp s
      ∧ (active s = some target ∨ (x.role = .lagging ∧ x.resync = .transfer)) then
    done s (updVault target (fun v => { v with root := o.root, unsealed := true, keys := true }) s)
  else done s s

/-- A source reads tripped. -/
def markInput (n : Nat) (s : State) : State := updLife (fun x => { x with inputs := x.inputs ||| BitVec.twoPow 16 n }) s

/-- TAMPER_TRIP (R362, R363, R364, R368): a module-wide source with main power on. -/
def execTamperTrip (t : Nat) (n : Fin 11) (s : State) : Host.Outcome State Fault Refusal :=
  let s := tick t s
  if !s.power.mainOn || (3 ≤ n.val && n.val ≤ 8) then done s s
  else
    let s1 := markInput n.val s
    done s (if sourceLive s n.val then moduleTrip n.val s1 else s1)

/-- LANE_LOCAL_TRIP (R362, R367). -/
def execLaneLocalTrip (t : Nat) (l : Lane) (n : Fin 11) (s : State) : Host.Outcome State Fault Refusal :=
  let s := tick t s
  if 3 ≤ n.val ∧ n.val ≤ 8 ∧ (n.val + 1) % 2 = laneNo l ∧ s.power.mainOn then
    done s (localTrip l n.val (markInput n.val s))
  else done s s

/-- A source the battery domain watches trips (R364, R369, R370, R451): the monitor zeroises both owner roots and writes a
record; during a dip of VBD the latch holds the tamper instead. -/
def sleepTrip (n : Nat) (s : State) : State :=
  if s.life.state == .blank || s.life.state == .scrapped || !sourceLive s n then s
  else
    let s := ropUp 0x10016 1 s
    match s.power.dip with
    | some _ =>
      let old := match s.power.tamperPending with | some p => p.1 | none => 0
      { s with power := { s.power with tamperPending := some (old ||| BitVec.twoPow 16 n, time64 s) } }
    | none => sleepRecord (BitVec.twoPow 16 n) (time64 s) s

/-- SLEEP_TRIP (R362, R364): a source watched in sleep, with main power off. -/
def execSleepTrip (t : Nat) (n : Fin 11) (s : State) : Host.Outcome State Fault Refusal :=
  let s := tick t s
  if s.power.mainOn || !(n.val ≤ 2 || n.val == 9) then done s s
  else done s (sleepTrip n.val (markInput n.val s))

/-- ENC_SUSPEND (R363, R371). -/
def execEncSuspend (t : Nat) (h : Hdr) (args : List TVal) (s : State) : Host.Outcome State Fault Refusal :=
  let s := tick t s
  done s (execCmd 0x10160 [.sparse 3 [(0, 0), (60, 14400)]] h args (fun _ _ s =>
    let n := argN args 0
    if getB s 0x10110 && decide (3600 < n) then refuse (rRange 0x10160 0) s
    else if n = 0 then okEmpty (endSuspend s)
    else
      let s := match s.life.suspend with
        | some _ => suspendEntry (time64 s) 0 false s
        | none => s
      let s := updLife (fun x => { x with suspend := some (s.clk.fab + n * Config.secCycles, n * 1000) }) s
      okEmpty (suspendEntry (time64 s) (n * 1000) true s)) s)

/-- An enclosure switch still open as a suspension ends in sleep (R363, R364). -/
def sleepOpen (n : Nat) (s : State) : State := if s.life.inputs.getLsbD n then sleepTrip n s else s

/-- ENC_SUSPEND_EXPIRY (R363): with the lanes stopped the battery domain watches on; the entry waits for the start-up. -/
def execEncSuspendExpiry (t : Nat) (s : State) : Host.Outcome State Fault Refusal :=
  let s := tick t s
  match s.life.suspend with
  | none => done s s
  | some x =>
    if s.clk.fab < x.1 then done s s
    else if s.lanes.a.running ∨ s.lanes.b.running then done s (endSuspend s)
    else if s.power.mainOn then done s s
    else done s (sleepOpen 1 (sleepOpen 0 (sampleInputs s)))

/-- A wrong claim code (R357): the fifth in a row locks COMMISSION out for 600 s. -/
def wrongClaim (s : State) : State :=
  updLife (fun x => { x with claimBad := x.claimBad + 1,
                             lockout := if 5 ≤ x.claimBad + 1 then some (s.clk.fab + 600 * Config.secCycles) else x.lockout }) s

/-- The owner root exists (R347, R350, R357): unwrapped from the blob, or from the vault's random generator, which is a free
value; both vaults hold it, and what it derives is public: ROOT_ID and the attestation key. -/
def newOwnerRoot (imported : Bool) (blob : Bytes) (s : State) : State :=
  let root := if imported then blobKey blob else fit 32 (freeBytes s)
  let s := draw s
  let have_ (v : Vault) : Vault := { v with root := some root, unsealed := true, keys := true }
  updVault .B have_ (updVault .A have_ (updLife (fun x => { x with
    rootId := rootIdOf root, attestPub := attestPub root "ATTEST-OWN" }) s))

/-- The escrow blob of the owner root (R357, R358, R359): kind 0, sealed to ESCROW_KEY under a free ephemeral key. -/
def escrowBlob (s : State) : Bytes :=
  sealBlob 0 Config.serial s.life.rootId (liveRoot s) (privOf (fit 56 (freeBytes s))) (pointIn (rOct (getRow s 0x10140 0) 0))

/-- COMMISSION (R357, R368): a tamper trip during it leaves no root and no change of state. -/
def execCommission (t : Nat) (h : Hdr) (args : List TVal) (claimOk blobOk : Bool) (s : State) :
    Host.Outcome State Fault Refusal :=
  let s := tick t s
  done s (execCmd 0x10300 [.text 8, .int 2 0 1, .octets 97, .int 2 0 3, .octets 173] h args (fun _ x s =>
    if s.life.lockout.any (fun f => decide (s.clk.fab < f)) then refuse (rVault 6) s
    else
      let s := sampleInputs s
      if anyTripped s then refuse (rVault 7) s
      else if s.lanes.a.vault.katBad && s.lanes.b.vault.katBad then refuse (rVault 3) s
      else if !claimOk then refuse (rVault 6) (wrongClaim s)
      else if argN args 1 = 1 ∧ !blobOk then refuse (rVault 4) (updLife (fun x => { x with claimBad := 0 }) s)
      else if h.strike = .tamper then refuse (rVault 1) (updLife (fun x => { x with claimBad := 0 }) s)
      else
        let s := newOwnerRoot (argN args 1 == 1) (argB args 4) (updLife (fun x => { x with claimBad := 0, lockout := none }) s)
        let s := putRow 0x10120 0 [vB true, .bytes (argB args 2), vN (argN args 3), .bytes []] s
        let s := lcMove .owned x.client 0 (if s.life.everOwned then s else updLife (fun x => { x with everOwned := true }) (asnFromZero s))
        let base : List Val := [.bytes (fit 8 s.life.rootId), .bytes (fit 97 s.life.attestPub)]
        if noEscrowKey s then okVals [.octets 8, .octets 97] base s
        else okVals [.octets 8, .octets 97, .octets 173] (base ++ [.bytes (escrowBlob s)]) (draw s)) s)

/-- CLAIM_LOCKOUT_EXPIRY (R357). -/
def execClaimLockoutExpiry (t : Nat) (s : State) : Host.Outcome State Fault Refusal :=
  let s := tick t s
  match s.life.lockout with
  | none => done s s
  | some f => if f ≤ s.clk.fab then done s (updLife (fun x => { x with lockout := none }) s) else done s s

/-- Whether the vault of the serving lane holds the owner root unsealed. -/
def ownerRoot (s : State) : Bool := let v := vaultOf s (servedBy s); v.root.isSome && v.unsealed

/-- ESCROW_EXPORT (R359, R368). -/
def execEscrowExport (t : Nat) (h : Hdr) (args : List TVal) (s : State) : Host.Outcome State Fault Refusal :=
  let s := tick t s
  done s (execCmd 0x10141 [] h args (fun _ _ s =>
    if noEscrowKey s then refuse (rVault 8) s
    else if !ownerRoot s then refuse (rVault 2) s
    else if (vaultOf s (servedBy s)).katBad then refuse (rVault 3) s
    else if h.strike = .tamper then refuse (rVault 1) s
    else okVals [.octets 173] [.bytes (escrowBlob s)] (draw s)) s)

/-- TRUNK_KEY_INSTALL (R359, R368). -/
def execTrunkKeyInstall (t : Nat) (h : Hdr) (args : List TVal) (blobOk : Bool) (s : State) : Host.Outcome State Fault Refusal :=
  let s := tick t s
  done s (execCmd 0x10150 [.octets 173] h args (fun _ _ s =>
    if !ownerRoot s then refuse (rVault 2) s
    else if (vaultOf s (servedBy s)).katBad then refuse (rVault 3) s
    else if !blobOk then refuse (rVault 4) s
    else if h.strike = .tamper then refuse (rVault 1) s
    else
      let s := updLife (fun x => { x with
        trunkKeyId := ((argB args 0).drop 20).take 8, trunkKey := blobKey (argB args 0) }) s
      okEmpty (linkEnds 1 (linkEnds 0 s))) s)

/-- RETURN_TO_STOCK (R354, R355): the vendor command of bank F, at level 4 in RETURN; its object number is the request's. -/
def execReturnToStock (t : Nat) (h : Hdr) (_args : List TVal) (s : State) : Host.Outcome State Fault Refusal :=
  let s := tick t s
  done s (request 3 false h (fun _ x s =>
    if h.obj / 65536 ≠ 15 then refuse (rErr stNoObject []) s
    else if s.life.state ≠ .returned then refuse (rLife s) s
    else if x.level < 4 then refuse (rErr stDenied (be 1 4)) s
    else okEmpty (lcMove .stock x.client 0 s)) s)

/-- FACTORY_ROOTS_INSTALL (R346, R354): the factory test station, in BLANK. -/
def execFactoryRootsInstall (t : Nat) (s : State) : Host.Outcome State Fault Refusal :=
  let s := tick t s
  if s.life.state = .blank then
    let r (v : Vault) : Vault := { v with roots := true }
    done s (lcMove .stock noClient 0 (updVault .B r (updVault .A r s)))
  else done s s

end Sys2Proof.Machine
end

