-- ==== Sys2Proof/Machine/Power.lean ====
section
/-!
DEFINITION. The commands of the backup cells, the battery domain's supply, the converters, and of J8's outputs and
inputs (chapters 18 and 20). The power-fail warning, V_STOP and POR stand in Machine/Startup.lean.
-/
namespace Sys2Proof.Machine

/-- Change the power path's state. -/
def updPower (f : Power → Power) (s : State) : State := { s with power := f s.power }

/-- A recorder event whose TYPE, SOURCE and payload the spec does not state (R442, R446): free values. -/
def recordOpen (sev : Nat) (s : State) : State :=
  draw (record (freeNat s % 65536) sev (freeNat s / 65536 % 65536) ((freeBytes s).take 96) s)

/-- The state of a cell (R446) from its loaded voltage and the charge drawn (µAh). -/
def cellState (mv charge : Nat) : Nat :=
  if mv < 1000 then 3 else if mv < 2900 then 2 else if mv < 3100 ∨ 7000000 ≤ charge then 1 else 0

/-- A cell bit (R384, R446): it holds while either cell is in the state; a further cell sets it again. -/
def cellBit (k old st : Nat) (s : State) (b : Nat) : State :=
  let any := getC s 0x00410 0 0 = b ∨ getC s 0x00410 1 0 = b
  if st = b ∧ old ≠ b ∧ s.dict.live.getLsbD (240 + b) then stickySet (240 + b) k s
  else condSet (240 + b) k any s

/-- A cell's row changes (R446, R447): its CELL_LOW line, the sticky bits, NO_BACKUP, and the event when it leaves OK. -/
def cellPut (k : Nat) (row : Row) (s : State) : State :=
  let old := getC s 0x00410 k 0
  let st := rNat row 0
  let s := putRow 0x00410 k row s
  let s := [1, 2, 3].foldl (cellBit k old st) s
  let s := condSet 244 0 (2 ≤ getC s 0x00410 0 0 ∧ 2 ≤ getC s 0x00410 1 0) s
  let s := icuLine (20 + k) (st != 0) s
  if old = 0 ∧ st ≠ 0 then recordOpen (if st = 1 then 4 else 6) s else s

/-- The load test of a cell (R446): its state, loaded voltage and time. What it has drawn since the last test is a free
value. -/
def loadTest (k mv : Nat) (s : State) : State :=
  let r := getRow s 0x00410 k
  let charge := min (rNat r 3 + freeNat s) 4294967295
  cellPut k [vN (cellState mv charge), v16 mv, vN (time64 s), vN charge, lget r 4 (vN 0)] (draw s)

/-- CELL_LOAD_TEST (R446): only while main power is present. -/
def execCellLoadTest (t : Nat) (k : Fin 2) (mv : Nat) (s : State) : Host.Outcome State Fault Refusal :=
  let s := tick t s
  if s.power.mainOn then done s (loadTest k.val mv s) else done s s

/-- CELL_REMOVAL (R446): the contact sense is watched always, also in sleep. -/
def execCellRemoval (t : Nat) (k : Fin 2) (s : State) : Host.Outcome State Fault Refusal :=
  let s := tick t s
  done s (cellPut k.val (lset (getRow s 0x00410 k.val) 0 (vN 3)) s)

/-- CELL_REPLACED (R448): the charge to 0, inserted now, then the load test. -/
def execCellReplaced (t : Nat) (h : Hdr) (args : List TVal) (mv : Nat) (s : State) : Host.Outcome State Fault Refusal :=
  let s := tick t s
  done s (execCmd 0x00430 [.int 2 0 1] h args (fun _ _ s =>
    let k := argN args 0
    if getC s 0x00410 k 0 = 3 then refuse (rRange 0x00430 0) s
    else
      let st := cellState mv 0
      okEmpty (cellPut k [vN st, v16 mv, vN (time64 s), vN 0, vN (time64 s)] s)) s)

/-- CELL_TEST (R446, R459). -/
def execCellTest (t : Nat) (h : Hdr) (args : List TVal) (mvA mvB : Nat) (s : State) : Host.Outcome State Fault Refusal :=
  let s := tick t s
  done s (execCmd 0x00431 [] h args (fun _ _ s =>
    if !s.power.mainOn || s.power.warning then refuse (rRange 0x00431 0) s
    else okEmpty (loadTest 1 mvB (loadTest 0 mvA s))) s)

/-- VBD_DIP (R449): the latch's timer starts. -/
def execVbdDip (t : Nat) (s : State) : Host.Outcome State Fault Refusal :=
  let s := tick t s
  match s.power.dip with
  | none => done s (updPower (fun p => { p with dip := some (s.clk.fab, false) }) s)
  | some _ => done s s

/-- The latch sets RETENTION_LOST (R449). -/
def latchLost (s : State) : State :=
  addC 0x00411 0 4 1 (updPower (fun p => { p with dip := none, lost := true }) s)

/-- VBD is back (R449, R451): before the keep time, 2.2 ms at most, the latch stays clear and KEEP_DIPS counts; a tamper held by the
latch is acted on at the first sample. -/
def dipEnd (s : State) : State :=
  match s.power.dip with
  | none => s
  | some d =>
    if d.1 + 880000 ≤ s.clk.fab then latchLost s
    else
      let s := stickySet 246 0 (addC 0x00411 0 3 1 (updPower (fun p => { p with dip := none }) s))
      match s.power.tamperPending with
      | none => s
      | some p => sleepRecord p.1 p.2 (updPower (fun p => { p with tamperPending := none }) s)

/-- VBD_RECOVERY (R449, R451). -/
def execVbdRecovery (t : Nat) (s : State) : Host.Outcome State Fault Refusal :=
  let s := tick t s
  done s (dipEnd s)

/-- KEEP_TIME_EXPIRY (R449): the keep time, 1.8 ms at least, ran out below V_keep, or VBD fell below 1.6 V. -/
def execKeepTimeExpiry (t : Nat) (below16 : Bool) (s : State) : Host.Outcome State Fault Refusal :=
  let s := tick t s
  match s.power.dip with
  | none => done s s
  | some d => if below16 || decide (d.1 + 720000 ≤ s.clk.fab) then done s (latchLost s) else done s s

/-- COIL_SUPPLY_LOSS (R443, R496): VCOIL below 16 V for 50 ms. -/
def execCoilSupplyLoss (t dv : Nat) (s : State) : Host.Outcome State Fault Refusal :=
  let s := tick t s
  if s.power.coil ∧ dv < 160 then
    done s (condSet 2 dv true (updPower (fun p => { p with coil := false, coilDv := dv, coilLost := s.clk.fab }) s))
  else done s s

/-- What an output takes when its supply returns (R361, R443): the active lane's word at once, or OUT_POWERON. -/
def outReturn (s : State) (k : Nat) : State :=
  if (active s).isSome || s.io.scrap then setPin k (outWanted s k) s
  else setPin k ((outOf s k).powerOn && !(outOf s k).tripped) s

/-- COIL_SUPPLY_RETURN (R443). -/
def execCoilSupplyReturn (t dv : Nat) (s : State) : Host.Outcome State Fault Refusal :=
  let s := tick t s
  if s.power.coil ∨ dv < 160 then done s s
  else done s ((List.range 4).foldl outReturn (condSet 2 dv false (updPower (fun p => { p with coil := true, coilDv := dv }) s)))

/-- LED_SUPPLY_FAIL (R438). -/
def execLedSupplyFail (t : Nat) (s : State) : Host.Outcome State Fault Refusal :=
  let s := tick t s
  done s (shedStrings (condSet 249 0 true (updPower (fun p => { p with ledOk := false }) s)))

/-- The battery domain switches over to the cells (R339): the first is latched, later ones count. -/
def backupSwitch (s : State) : State :=
  if getN s 0x20020 = 0 then putN 0x20020 (time64 s) s else ropUp 0x20021 1 s

/-- KEEPALIVE_FAIL (R438, R458). -/
def execKeepaliveFail (t : Nat) (s : State) : Host.Outcome State Fault Refusal :=
  let s := tick t s
  if s.power.keepaliveOk ∧ s.power.mainOn then
    done s (backupSwitch (condSet 245 0 true (updPower (fun p => { p with keepaliveOk := false }) s)))
  else done s s

/-- INPUT_RANGE (R458): the input has been at this voltage for more than 1 s. -/
def execInputRange (t dv : Nat) (s : State) : Host.Outcome State Fault Refusal :=
  let s := tick t s
  let bad : Bool := decide (dv < 900 ∨ 3050 < dv)
  done s (condSet 250 0 bad (updPower (fun p => { p with inputBad := bad }) s))

/-- BASEPLATE_HOT (R503): above 140 °C the LED supply is shed. -/
def execBaseplateHot (t : Nat) (temp : Int) (s : State) : Host.Outcome State Fault Refusal :=
  let s := tick t s
  if 1400 < temp ∧ !s.power.hotShed then
    done s (shedStrings (condSet 3 temp.toNat true (cntUpAt 0x00520 0 4 1 (updPower (fun p => { p with hotShed := true }) s))))
  else done s s

/-- BASEPLATE_COOL (R503): below 130 °C it restarts. -/
def execBaseplateCool (t : Nat) (temp : Int) (s : State) : Host.Outcome State Fault Refusal :=
  let s := tick t s
  if temp < 1300 ∧ s.power.hotShed then done s (condSet 3 0 false (updPower (fun p => { p with hotShed := false }) s))
  else done s s

/-- OUTPUT_SET on one output (R496): the commanded state; on re-arms a tripped output. -/
def setCommand (value : Nat) (s : State) (k : Nat) : State :=
  updOut k (fun o => { o with cmd := bitOf value k, tripped := o.tripped && !bitOf value k }) s

/-- OUTPUT_SET (R496). -/
def execOutputSet (t : Nat) (h : Hdr) (args : List TVal) (s : State) : Host.Outcome State Fault Refusal :=
  let s := tick t s
  done s (execCmd 0x00500 [.int 2 1 15, .int 2 0 15] h args (fun _ _ s =>
    okEmpty (outSync (((List.range 4).filter (bitOf (argN args 0))).foldl (setCommand (argN args 1)) s))) s)

/-- OUTPUT_GAP_END (R496): the pending state is driven. -/
def execOutputGapEnd (t : Nat) (k : Fin 4) (s : State) : Host.Outcome State Fault Refusal :=
  let s := tick t s
  match (outOf s k.val).pend with
  | some v => if !inGap s k.val && (active s).isSome && s.power.coil then done s (setPin k.val v s) else done s s
  | none => done s s

/-- OUTPUT_TRIP (R496): the driven output goes off and stays off. -/
def execOutputTrip (t : Nat) (k : Fin 4) (ma dv : Nat) (s : State) : Host.Outcome State Fault Refusal :=
  let s := tick t s
  let o := outOf s k.val
  if o.pin && s.power.coil then
    let s1 := updOut k.val (fun o => { o with tripped := true }) (switchPin k.val false s)
    let s2 := stickySet 1 k.val (cntUpAt 0x00501 k.val 4 1 s1)
    done s (record 0x0011 5 k.val (be 2 (min ma 65535) ++ be 2 (min dv 65535) ++ be 1 (b2n o.cmd) ++ be 3 0) s2)
  else done s s

/-- DI_EDGE (R497): a debounced pin; during an INPUT slice the event path is gated (R433). -/
def execDiEdge (t : Nat) (n : Fin 8) (on : Bool) (s : State) : Host.Outcome State Fault Refusal :=
  let s := tick t s
  if inSlice s 14 then done s { s with test := { s.test with edges := mset s.test.edges n.val on } }
  else if s.io.inputs.getLsbD n.val = on then done s s
  else done s (diEdge n.val on s)

end Sys2Proof.Machine
end

