-- ==== Sys2Proof/Machine/Firmware.lean ====
section
/-!
DEFINITION. The commands of firmware images, boot and recovery (chapter 19), but for FW_RESTART_ALL, which restarts the
module (Machine/Startup.lean).
-/
namespace Sys2Proof.Machine

/-- Change the firmware state. -/
def updFw (f : Firmware → Firmware) (s : State) : State := { s with fw := f s.fw }

/-- A bank of a lane. -/
def bankOf (s : State) (l : Lane) (b : Nat) : Bank := lget s.fw.banks (laneNo l * 2 + b) Bank.init

/-- The bank a lane does not run (R464); a lane in ROM recovery writes bank 0 (R475). -/
def otherBank (s : State) (l : Lane) : Nat :=
  let b := s.fw.boots.get l
  if b.recovery then 0 else 1 - b.running

/-- The lane in ROM recovery that takes J5 while no lane is active, lane A first (R475). -/
def recoverer (s : State) : Option Lane :=
  if (active s).isSome then none
  else if s.fw.boots.a.recovery then some .A
  else if s.fw.boots.b.recovery then some .B
  else none

/-- What leaves by J5: of the active lane, or of a recovering lane that holds it (R475). -/
def emitAs (rom : Bool) (o : Out) (s : State) : State := if rom then { s with out := o :: s.out } else emit o s

/-- A reply on the service stream (R463). -/
def streamReply (h : StreamHdr) (styp status next : Nat) (s : State) : State :=
  if h.assoc = 0 then s
  else emitAs (recoverer s).isSome (.stream h.assoc (streamWire (styp + 128) h status next)) s

/-- Add a range of received bytes; ranges stay rising and apart (R465). -/
def addRange (a b : Nat) : List (Nat × Nat) → List (Nat × Nat)
  | [] => [(a, b)]
  | (x, y) :: r =>
    if b < x then (a, b) :: (x, y) :: r
    else if y < a then (x, y) :: addRange a b r
    else addRange (min a x) (max b y) r

/-- The bytes of a DATA message take their place over what stood there (R465): ranges stay rising and apart. -/
def putBytes (o : Nat) (d : Bytes) (l : NMap Bytes) : NMap Bytes :=
  let z := o + d.length
  l.filterMap (fun p => if p.1 < o then some (p.1, p.2.take (o - p.1)) else none) ++ (o, d)
    :: l.filterMap (fun p => if z < p.1 + p.2.length then some (max p.1 z, p.2.drop (z - p.1)) else none)

/-- A part of an image's bytes. -/
def part (b : Bytes) (o n : Nat) : Bytes := (b.drop o).take n

/-- A field of an image header (R460). -/
def hdrField (b : Bytes) (o n : Nat) : Nat := ofBe (part b o n)

/-- The image that received bytes make (R460): what its hashes are held to is computed, its signatures' verdicts come with
the END. A policy section begins at the first multiple of 4,096 at or after the runtime's end. -/
def readImage (b : Bytes) (sigOk : Bool) (policyKey : Bytes) : ImageHdr :=
  let n := hdrField b 24 4
  let k := hdrField b 192 4
  let p := (4096 + n + 4095) / 4096 * 4096
  let sectionOk (o len h : Nat) : Bool := decide (o + len ≤ b.length) && sha384 (part b o len) == part b h 48
  { magicOk := hdrField b 0 4 == 0x53504C58 && hdrField b 4 2 == 1, partMask := hdrField b 6 1, version := hdrField b 8 4,
    rollback := hdrField b 12 2, stateLayout := hdrField b 14 2, settingsLayout := hdrField b 16 2,
    migrateFrom := hdrField b 18 2, feature := hdrField b 20 2, minPeer := hdrField b 22 2,
    runtimeOk := sectionOk 4096 n 48 && decide (hdrField b 7 1 ≤ 1) && sigOk, policyLen := k, policyVersion := hdrField b 196 4,
    policyOk := sectionOk p k 208, policyKey := policyKey }

/-- The image a transfer has received. -/
def imageBytes (x : Transfer) : Bytes := (x.data.map (·.2)).flatten

/-- NEXT (R463): the lowest offset not yet received. -/
def nextOffset (x : Transfer) : Nat :=
  match x.got with
  | (0, b) :: _ => b
  | _ => 0

/-- The rows of TRANSFERS that a message names (D:0020). -/
def streamRows (h : StreamHdr) : List Nat :=
  if h.kind = 1 then [2] else (List.range 2).filter (bitOf h.lanes)

/-- The open transfer of a row with a message's TRANSFER_ID. -/
def openTransfer (s : State) (tid r : Nat) : Option Transfer :=
  match mget s.fw.transfers r with
  | some x => if x.tid = tid ∧ !x.closed then some x else none
  | none => none

/-- The rows of a message that hold its open transfer. -/
def liveRows (h : StreamHdr) (s : State) : List Nat :=
  (List.range 3).filter (fun r => (openTransfer s h.tid r).isSome && (streamRows h).contains r)

/-- The lane of a TRANSFERS row. -/
def rowLane (r : Nat) : Lane := if r = 0 then .A else .B

/-- The node image slot that is loading (R192). -/
def loadingSlot (s : State) : Option Nat := s.epoch.store.findIdx? (fun x => x.state == 1)

/-- Change a slot of the node image store. -/
def updSlot (i : Nat) (f : NodeImage → NodeImage) (s : State) : State :=
  { s with epoch := { s.epoch with store := lmod s.epoch.store i f } }

/-- A transfer row is discarded (R465, R468): its record; a slot that was loading is empty again. -/
def discardRow (sticky : Bool) (s : State) (r : Nat) : State :=
  let s := updFw (fun f => { f with transfers := mdel f.transfers r }) s
  if r = 2 then
    let s := match loadingSlot s with | some i => updSlot i (fun _ => NodeImage.init) s | none => s
    let s := if sticky then stickySet 213 0 s else s
    record 0xD010 4 65535 (be 1 4 ++ be 11 0) s
  else
    let l := rowLane r
    let b := otherBank s l
    let s := if sticky then stickySet 213 (laneNo l * 65536 + b) s else s
    fwEvent 4 4 0 l b s

/-- How a stream message reaches this module (R462, R463): dropped and counted, refused, relayed to a member, or its
own. Association 0 stands for an IMAGE frame of the trunk. -/
def streamTake (styp : Nat) (h : StreamHdr) (body : Bytes) (eff : State → State) (s : State) : State :=
  if h.assoc = 0 then
    if !actsMaster s && h.target == modId s then eff s else cntUp 0x00012 s
  else
    match mget s.ib.assocs h.assoc with
    | none => cntUp 0x00012 s
    | some a =>
      if a.entry != .service then cntUp 0x00012 s
      else if !entryOpen s a.entry || (s.life.state == .returned) != a.cert.returnAnchor then streamReply h styp stLifecycle 0 s
      else if certDenied s a.cert || decide (a.level < 2) then streamReply h styp stDenied 0 s
      else if (recoverer s).isSome then
        if h.target = modId s ∧ h.kind = 0 ∧ some h.lanes = (recoverer s).map (fun l => 2 ^ laneNo l) then eff s else s
      else if h.target = modId s then eff s
      else if actsMaster s && decide (h.target ≤ 63) then trunkSend h.target 3 (.image styp h body) s
      else cntUp 0x00012 s

/-- The status that refuses OPEN, 0 for none (R464). -/
def openStatus (h : StreamHdr) (s : State) : Nat :=
  let rows := streamRows h
  if rows.any (fun r => match mget s.fw.transfers r with | some x => !x.closed | none => false) then stLocked
  else if h.kind = 0 ∧ (s.fw.boots.a.trial && bitOf h.lanes 0 || s.fw.boots.b.trial && bitOf h.lanes 1) then stLocked
  else if h.kind = 0 ∧ 4 ≤ h.lanes then stNoObject
  else if h.tid = 0 ∨ 1 < h.kind ∨ (h.kind = 0 ∧ h.lanes = 0) then stRange
  else if (if h.kind = 0 then 31457280 else 2097152) < h.length then stRange
  else if h.kind = 1 ∧ s.epoch.store.all (fun x => x.state != 0) then stRange
  else 0

/-- An accepted OPEN on a row (R192, R464). -/
def openRow (h : StreamHdr) (sha : Bytes) (s : State) (r : Nat) : State :=
  let x : Transfer := { tid := h.tid, kind := h.kind, lanes := h.lanes, total := h.length, sha := fit 32 sha, got := [],
                        opened := s.clk.fab, last := s.clk.fab, programming := none, closed := false, data := [] }
  let s := updFw (fun f => { f with transfers := mset f.transfers r x }) s
  if r = 2 then
    match s.epoch.store.findIdx? (fun i => i.state == 0) with
    | some i => updSlot i (fun _ => { id := ofBe (sha.take 4), bytes := h.length, blocks := (h.length + 1023) / 1024,
                                      sha := fit 32 sha, state := 1, loaded := 0, data := [] }) s
    | none => s
  else updBank (rowLane r) (otherBank s (rowLane r)) (fun _ => Bank.init) s

/-- STREAM_OPEN (R464). -/
def execStreamOpen (t : Nat) (h : StreamHdr) (sha : Bytes) (s : State) : Host.Outcome State Fault Refusal :=
  let s := tick t s
  done s (streamTake 1 h sha (fun s =>
    let st := openStatus h s
    if st ≠ 0 then streamReply h 1 st 0 s
    else streamReply h 1 0 0 ((streamRows h).foldl (openRow h sha) s)) s)

/-- NEXT of the first of some rows. -/
def rowsNext (rows : List Nat) (s : State) : Nat :=
  match rows with
  | r :: _ => match mget s.fw.transfers r with | some x => nextOffset x | none => 0
  | [] => 0

/-- A message that names no open transfer: the spec gives it no status, which is a free value. -/
def noTransfer (styp : Nat) (h : StreamHdr) (s : State) : State := draw (streamReply h styp (freeNat s % 256) 0 s)

/-- STREAM_DATA (R465): idempotent by OFFSET. -/
def execStreamData (t : Nat) (h : StreamHdr) (data : Bytes) (s : State) : Host.Outcome State Fault Refusal :=
  let s := tick t s
  done s (streamTake 2 h data (fun s =>
    match liveRows h s with
    | [] => noTransfer 2 h s
    | r :: rs =>
      let total := match mget s.fw.transfers r with | some x => x.total | none => 0
      if h.length = 0 ∨ 1024 < h.length ∨ data.length ≠ h.length ∨ total < h.offset + h.length then
        streamReply h 2 stRange (rowsNext (r :: rs) s) s
      else
        let put (s : State) (r : Nat) : State :=
          let m := mmod s.fw.transfers r (fun x =>
            { x with got := addRange h.offset (h.offset + h.length) x.got, last := s.clk.fab,
                     data := putBytes h.offset data x.data })
          updFw (fun f => { f with transfers := m }) s
        let s := (r :: rs).foldl put s
        streamReply h 2 0 (rowsNext (r :: rs) s) s) s)

/-- The rows end well (R192, R465): a node image is READY, a lane's bank is programmed. -/
def endRow (img : ImageHdr) (s : State) (r : Nat) : State :=
  match mget s.fw.transfers r with
  | none => s
  | some x =>
    if r = 2 then
      let s := match loadingSlot s with
        | some i => updSlot i (fun n => { n with state := 2, loaded := time64 s, data := x.data }) s
        | none => s
      updFw (fun f => { f with transfers := mset f.transfers r { x with closed := true, last := s.clk.fab } }) s
    else updFw (fun f => { f with transfers := mset f.transfers r { x with programming := some img, last := s.clk.fab } }) s

/-- A recovering lane's image that fails a check of R466 (R475). -/
def recoveryBad (img : ImageHdr) (rows : List Nat) (s : State) : Bool :=
  rows.any (fun r => r != 2 && (s.fw.boots.get (rowLane r)).recovery
    && bootCheck s (s.fw.boots.get (rowLane r)) { Bank.init with img := some img } != 0)

/-- Bank 0 of a recovering lane written with an image that fails (R475). -/
def recoveryFail (img : ImageHdr) (s : State) (r : Nat) : State :=
  let l := rowLane r
  if r = 2 then s
  else
    let s := updFw (fun f => { f with transfers := mdel f.transfers r }) s
    let s := updBank l 0 (fun g => { g with img := some img, staged := time64 s }) s
    bankFail l 0 (bootCheck s (s.fw.boots.get l) (bankOf s l 0)) s

/-- STREAM_END (R465, R475). -/
def execStreamEnd (t : Nat) (h : StreamHdr) (sigOk : Bool) (policyKey : Bytes) (s : State) : Host.Outcome State Fault Refusal :=
  let s := tick t s
  done s (streamTake 3 h [] (fun s =>
    match liveRows h s with
    | [] => noTransfer 3 h s
    | r :: rs =>
      let rows := r :: rs
      let full := rows.all (fun r => match mget s.fw.transfers r with | some x => nextOffset x == x.total | none => false)
      let hashOk := rows.all (fun r => match mget s.fw.transfers r with | some x => sha256 (imageBytes x) == x.sha | none => false)
      let img := readImage (match mget s.fw.transfers r with | some x => imageBytes x | none => []) sigOk policyKey
      if !full then
        let touch (s : State) (r : Nat) : State :=
          updFw (fun f => { f with transfers := mmod f.transfers r (fun x => { x with last := s.clk.fab }) }) s
        streamReply h 3 stRange (rowsNext rows s) (rows.foldl touch s)
      else if !hashOk then streamReply h 3 stRange (rowsNext rows s) (rows.foldl (discardRow false) s)
      else if recoveryBad img rows s then streamReply h 3 stRange (rowsNext rows s) (rows.foldl (recoveryFail img) s)
      else streamReply h 3 0 (rowsNext rows s) (rows.foldl (endRow img) s)) s)

/-- STREAM_ABORT (R465). -/
def execStreamAbort (t : Nat) (h : StreamHdr) (s : State) : Host.Outcome State Fault Refusal :=
  let s := tick t s
  done s (streamTake 4 h [] (fun s =>
    match liveRows h s with
    | [] => noTransfer 4 h s
    | r :: rs => streamReply h 4 0 0 ((r :: rs).foldl (discardRow true) s)) s)

/-- STREAM_TIMEOUT (R465): 600 s with no message. -/
def execStreamTimeout (t : Nat) (row : Fin 3) (s : State) : Host.Outcome State Fault Refusal :=
  let s := tick t s
  match mget s.fw.transfers row.val with
  | none => done s s
  | some x =>
    if !x.closed && x.programming.isNone && decide (x.last + 600 * Config.secCycles ≤ s.clk.fab) then
      done s (discardRow true s row.val)
    else done s s

/-- BANK_PROGRAM_DONE (R465, R475): the bank reads staged; a lane in ROM recovery starts it. -/
def execBankProgramDone (t : Nat) (l : Lane) (s : State) : Host.Outcome State Fault Refusal :=
  let s := tick t s
  match mget s.fw.transfers (laneNo l) with
  | none => done s s
  | some x =>
    match x.programming with
    | none => done s s
    | some img =>
      let b := otherBank s l
      let s1 := updFw (fun f => { f with transfers := mset f.transfers (laneNo l) { x with programming := none, closed := true } }) s
      let s1 := updBank l b (fun _ => { state := 2, img := some img, staged := time64 s, failStep := 0, data := x.data }) s1
      let s1 := ropUp 0xD0022 1 s1
      if (s.fw.boots.get l).recovery then
        let s2 := updLane l (resetLaneSt s1.clk.fab (time64 s1)) s1
        done s (fwMixedSync (bootStart l 0 false 0 s2))
      else done s s1

/-- TRIAL_CONFIRM (R467); a trial that may not join (R469) reverts after the same time. -/
def execTrialConfirm (t : Nat) (l : Lane) (s : State) : Host.Outcome State Fault Refusal :=
  let s := tick t s
  let b := s.fw.boots.get l
  let x := s.lanes.get l
  let held := (x.role == .standby || x.role == .active)
    && decide (x.roleSince + getN s 0xD0100 * Config.secCycles ≤ s.clk.fab)
  if b.trial && held && !condemned x then
    let s1 := updBoot l (fun b => { b with trial := false, retries := 0, confirmed := b.running, next := none }) s
    let s1 := updBank l b.running (fun g => { g with state := 1 }) s1
    done s (fwEvent 1 2 0 l b.running s1)
  else if b.trial && x.role == .lagging && x.cause == .layout
      && decide (x.roleSince + getN s 0xD0100 * Config.secCycles ≤ s.clk.fab) then done s (restartLane l s)
  else done s s

/-- The lane that is not active, and its ROLE 01b (R472, R473). -/
def standbyReady (s : State) : Bool := (standby s).isSome

/-- FW_ACTIVATE (R473). -/
def execFwActivate (t : Nat) (h : Hdr) (args : List TVal) (s : State) : Host.Outcome State Fault Refusal :=
  let s := tick t s
  done s (execCmd 0xD0300 [.int 2 0 1, .int 2 0 1] h args (fun _ _ s =>
    let l : Lane := if argN args 0 = 0 then .A else .B
    let k := argN args 1
    let st := rNat (fwBankRow s (laneNo l * 2 + k)) 0
    if !(st == 1 || st == 2) || decide ((bankImg (bankOf s l k)).rollback < (s.fw.boots.get l).floor) then
      refuse (rRange 0xD0300 1) s
    else if active s = some l ∨ !standbyReady s then refuse (rLaneSync s) s
    else okEmpty (restartLane l (updBoot l (fun b => { b with next := some k }) s))) s)

/-- FW_COMMIT (R472). -/
def execFwCommit (t : Nat) (h : Hdr) (args : List TVal) (s : State) : Host.Outcome State Fault Refusal :=
  let s := tick t s
  done s (execCmd 0xD0301 [] h args (fun _ _ s =>
    if !standbyReady s then refuse (rLaneSync s) s
    else if runningImg s .A ≠ runningImg s .B then refuse (rRange 0xD0010 1) s
    else if s.fw.boots.a.trial then refuse (rRange 0xD0010 0) s
    else if s.fw.boots.b.trial then refuse (rRange 0xD0010 1) s
    else
      let a := applyAsn s
      okAsn a (journal (.fwCommit a) (updFw (fun f => { f with commitAt := some a }) s))) s)

/-- A bank below the floor or the committed layout is marked failed (R472). -/
def commitBank (l : Lane) (s : State) (k : Nat) : State :=
  let g := bankOf s l k
  let b := s.fw.boots.get l
  match g.img with
  | none => s
  | some i =>
    if g.state = 3 then s
    else if i.rollback < b.floor then bankFail l k 3 s
    else if i.settingsLayout < b.layout then bankFail l k 4 s
    else s

/-- FW_COMMIT applies on one lane (R472). -/
def commitLane (s : State) (l : Lane) : State :=
  let i := runningImg s l
  let s := updBoot l (fun b => { b with floor := i.rollback, layout := i.settingsLayout }) s
  let s := [0, 1].foldl (commitBank l) s
  fwEvent 5 2 0 l (s.fw.boots.get l).running s

/-- FW_COMMIT_APPLY (R472). -/
def execFwCommitApply (t : Nat) (s : State) : Host.Outcome State Fault Refusal :=
  let s := tick t s
  match s.fw.commitAt with
  | none => done s s
  | some a =>
    if asn s < a then done s s
    else
      let s1 := updFw (fun f => { f with commitAt := none, uncommitted := false, pre := both none,
                                         activeLevel := (runningImg s (servedBy s)).feature }) s
      let s1 := journalErase (fun e => match e with | .fwCommit _ => true | _ => false) (condSet 211 0 false s1)
      done s (commitLane (commitLane s1 .A) .B)

/-- BANK_ERASE (R477): neither the running bank, nor the previous bank while the lane runs a trial. -/
def execBankErase (t : Nat) (h : Hdr) (args : List TVal) (s : State) : Host.Outcome State Fault Refusal :=
  let s := tick t s
  done s (execCmd 0xD0303 [.int 2 0 1, .int 2 0 1] h args (fun _ _ s =>
    let l : Lane := if argN args 0 = 0 then .A else .B
    let b := s.fw.boots.get l
    if b.trial || (argN args 1 == b.running && !b.recovery) then refuse (rRange 0xD0303 1) s
    else okEmpty (updBank l (argN args 1) (fun _ => Bank.init) s)) s)

end Sys2Proof.Machine
end

