-- ==== Sys2Proof/Machine/Led.lean ====
section
/-!
DEFINITION. The meanings of the commands of the anchor drive (chapter 9).
-/
namespace Sys2Proof.Machine

/-- TAI now in units of 500 µs (R260). -/
def halfMs (s : State) : Nat := tai s / 200000
/-- PERIOD of the period that runs now (R260). -/
def periodNow (s : State) : Nat := halfMs s % 4294967296

/-- LED_PERIOD_BOUNDARY (R260 to R263, R272): the taps of the period that ends; the set of the next, or the last one again; the
lanes' sets compared. -/
def execLedPeriodBoundary (t : Nat) (complete : Bool) (hashA hashB : Nat) (samples : List StringSample) (s : State) :
    Host.Outcome State Fault Refusal :=
  let s := tick t s
  if periodNow s = s.led.period then done s s
  else
    let s1 := checkPeriod samples s
    let s1 := updLed (fun d => { d with period := periodNow s, second := taiSec s, index := halfMs s % 2000 }) s1
    let s1 :=
      if lanesDrive s1 && complete then
        updLed (fun d => { d with set := laneSet s1, lastSet := s1.clk.fab, safeOn := false }) s1
      else if isTampered s1 then updLed (fun d => { d with set := safeSet s1, safeOn := true }) s1
      else if s1.led.safeOn then updLed (fun d => { d with set := safeSet s1 }) s1
      else icuRaise 112 (cntUp 0x90014 s1)
    let s1 := if complete && (standby s1).isSome && hashA != hashB then
        mismatch s1.lp.outSeq 2 (hashA % 4294967296) (hashB % 4294967296) s1
      else s1
    done s (drivePeriod s1)

/-- SAFE_LIGHT_TIMEOUT (R263): 20 ms with no set; the safe-light set is driven from the next period boundary on. -/
def execSafeLightTimeout (t : Nat) (s : State) : Host.Outcome State Fault Refusal :=
  let s := tick t s
  if !s.led.safeOn && decide (s.led.lastSet + 20 * Config.msCycles ≤ s.clk.fab) then
    done s (updLed (fun d => { d with set := safeSet s, safeOn := true }) s)
  else done s s

/-- LED_CONTROL_TICK (R265, R266, R269): every 100 ms. -/
def execLedControlTick (t : Nat) (samples : List StringSample) (s : State) : Host.Outcome State Fault Refusal :=
  let s := tick t s
  if s.led.ctrlAt + 100 * Config.msCycles ≤ s.clk.fab then done s (controlTick samples s) else done s s

/-- PAD_SENSOR_STUCK (R267): no change for 60 s while the string is lit. -/
def execPadSensorStuck (t : Nat) (k : Fin 4) (s : State) : Host.Outcome State Fault Refusal :=
  let s := tick t s
  let x := strOf s k.val
  if x.code ≠ 0 ∧ x.padAt + 60 * Config.secCycles ≤ s.clk.fab ∧ !x.sensorBad then
    done s (condSet 144 k.val true (updStr k.val (fun x => { x with sensorBad := true }) s))
  else done s s

/-- HW_OVERTEMP_CUT (R268): at 127 °C the stage switches the regulator off. -/
def execHwOvertempCut (t : Nat) (k : Fin 4) (pad : Int) (s : State) : Host.Outcome State Fault Refusal :=
  let s := tick t s
  if 1270 ≤ pad ∧ !(strOf s k.val).hwCut then
    let s1 := updStr k.val (fun x => { x with hwCut := true, code := 0 }) s
    let s1 := stickySet 145 k.val s1
    done s (draw (record 0x9010 6 k.val
      (be 1 (freeNat s / 256 % 256) ++ be 1 (freeNat s % 256) ++ be 2 0 ++ beI 2 pad ++ be 2 (relOutput s1 k.val)) s1))
  else done s s

/-- HW_OVERTEMP_RELEASE (R268): below 115 °C it switches the regulator back on. -/
def execHwOvertempRelease (t : Nat) (k : Fin 4) (pad : Int) (s : State) : Host.Outcome State Fault Refusal :=
  let s := tick t s
  if pad < 1150 ∧ (strOf s k.val).hwCut then
    let s1 := updStr k.val (fun x => { x with hwCut := false }) s
    done s (updStr k.val (fun x => { x with code := stageCode s1 k.val }) s1)
  else done s s

/-- BYPASS_CLAMP (R271, R272): above 16 V the switch closes, at once and until LED_RETEST releases it; the position is OPEN. -/
def execBypassClamp (t : Nat) (k : Fin 4) (p : Fin 24) (volts : Nat) (s : State) : Host.Outcome State Fault Refusal :=
  let s := tick t s
  if 16000 < volts ∧ ledUp s then
    let s1 := updStr k.val (fun x => { x with clamped := x.clamped ||| BitVec.twoPow 24 p.val }) s
    let s1 := updLed (fun d => { d with lit := d.lit.mapIdx (fun i x => if i = 24 * k.val + p.val then (x.1, 0) else x) }) s1
    done s (markPos true k.val p.val s1)
  else done s s

/-- STRING_CURRENT_FAULT (R272): out of range for 10 ms, STRING_OPEN or COMPLIANCE. -/
def execStringCurrentFault (t : Nat) (k : Fin 4) (s : State) : Host.Outcome State Fault Refusal :=
  let s := tick t s
  let x := strOf s k.val
  let since (o : Option Nat) : Bool := match o with | some f => decide (f + 10 * Config.msCycles ≤ s.clk.fab) | none => false
  if !ledUp s || x.fault then done s s
  else if since x.openSince then
    let s1 := updStr k.val (fun x => { x with fault := true, code := 0, openSince := none, complSince := none }) s
    done s (ledFault 5 k.val 255 3 (stickySet 148 k.val s1))
  else if since x.complSince && !x.complTold then
    done s (ledFault 4 k.val 255 2 (stickySet 147 k.val (updStr k.val (fun x => { x with complTold := true }) s)))
  else done s s

/-- FLOWSTONE_TICK (R276, R277): the 1 ms tick, taken from every second period. -/
def execFlowstoneTick (t : Nat) (s : State) : Host.Outcome State Fault Refusal :=
  let s := tick t s
  let ms := s.led.second * 1000 + s.led.index / 2
  if s.led.index % 2 = 0 ∧ ms ≠ s.led.tickAt ∧ (active s).isSome then
    let one (l : Lane) (s : State) (e : Nat) : State :=
      let r := engTick ms (engOf l s e)
      let s := updEng l e (fun _ => r.1) s
      (List.range r.2).foldl (fun s _ => icuRaiseAt l (104 + e) s) s
    done s (updLed (fun d => { d with tickAt := ms }) (onLanes (fun l s => (List.range 8).foldl (one l) s) s))
  else done s s

/-- FLS_START (R275): loads and starts an engine, or RANGE for OWN. -/
def execFlsStart (t : Nat) (h : Hdr) (args : List TVal) (s : State) : Host.Outcome State Fault Refusal :=
  let s := tick t s
  done s (execCmd 0x90210 [.int 2 0 7] h args (fun _ _ s =>
    let e := argN args 0
    let own := BitVec.ofNat 4 (getC s 0x90200 e 0)
    if ownBad (servedBy s) s e own then refuse (rRange 0x90210 0) s
    else okEmpty (onLanes (fun l s => engStart l e own (engLoad l e s)) s)) s)

/-- FLS_STOP (R279). -/
def execFlsStop (t : Nat) (h : Hdr) (args : List TVal) (s : State) : Host.Outcome State Fault Refusal :=
  let s := tick t s
  done s (execCmd 0x90211 [.int 2 0 7] h args (fun _ _ s => okEmpty (onLanes (fun l => engStop l (argN args 0)) s)) s)

/-- FLS_TRIGGER (R279). -/
def execFlsTrigger (t : Nat) (h : Hdr) (args : List TVal) (s : State) : Host.Outcome State Fault Refusal :=
  let s := tick t s
  done s (execCmd 0x90212 [.int 2 0 7, .int 2 0 15] h args (fun _ _ s =>
    okEmpty (onLanes (fun l => engTrig l (argN args 0) (argN args 1)) s)) s)

/-- The base address of an engine's registers (R278). -/
def engBase (e : Nat) : Nat := 0x40600000 + e * 4096

/-- A register write of a lane's engine: policy firmware has no path to it (R23, R278). -/
def engWrite (l : Lane) (c : Core) (addr : Nat) (eff : State → State) (s : State) : State :=
  if isPolicy c then busErr l c addr true s else eff s

/-- FLS_CTRL_START (R278): OWN is writable only while STATE is 00b or 11b. -/
def execFlsCtrlStart (t : Nat) (l : Lane) (c : Core) (e : Fin 8) (own : Nat) (s : State) : Host.Outcome State Fault Refusal :=
  let s := tick t s
  done s (engWrite l c (engBase e.val) (fun s =>
    let x := engOf l s e.val
    engStart l e.val (if engRuns x then x.own else BitVec.ofNat 4 own) s) s)

/-- FLS_CTRL_STOP (R278). -/
def execFlsCtrlStop (t : Nat) (l : Lane) (c : Core) (e : Fin 8) (s : State) : Host.Outcome State Fault Refusal :=
  let s := tick t s
  done s (engWrite l c (engBase e.val) (engStop l e.val) s)

/-- FLS_TRIG_SET (R278). -/
def execFlsTrigSet (t : Nat) (l : Lane) (c : Core) (e : Fin 8) (bits : Nat) (s : State) : Host.Outcome State Fault Refusal :=
  let s := tick t s
  done s (engWrite l c (engBase e.val + 0x1C) (engTrig l e.val bits) s)

/-- FLS_PROG_WRITE (R278): while STATE is not 00b a bus error. -/
def execFlsProgWrite (t : Nat) (l : Lane) (c : Core) (e : Fin 8) (i : Fin 64) (w : Word32) (s : State) :
    Host.Outcome State Fault Refusal :=
  let s := tick t s
  let addr := engBase e.val + 0x100 + 4 * i.val
  done s (engWrite l c addr (fun s =>
    if (engOf l s e.val).state = 0 then updEng l e.val (fun x => { x with prog := lset x.prog i.val w }) s
    else busErr l c addr false s) s)

/-- LED_RETEST (R274): a string's faults are released; it is lit at 10 % for 2 s, and its cross pairs are tested afresh. -/
def execLedRetest (t : Nat) (h : Hdr) (args : List TVal) (s : State) : Host.Outcome State Fault Refusal :=
  let s := tick t s
  done s (execCmd 0x90220 [.int 2 0 3] h args (fun _ _ s =>
    let k := argN args 0
    let s := updStr k (fun x => { x with
      fault := false, faulty := 0, opens := 0, shorts := 0, clamped := 0, cross := 255, openRun := List.replicate 24 0
      shortRun := List.replicate 24 0, complSince := none, complTold := false, openSince := none
      retest := some (s.clk.fab + 2 * Config.secCycles) }) s
    okEmpty { s with test := { s.test with requests := (crossRows k).foldl (fun l r => insertNat r l) s.test.requests } }) s)

/-- LED_RETEST_END (R274): after 2 s the string returns to its levels; what persists has been marked again. -/
def execLedRetestEnd (t : Nat) (k : Fin 4) (s : State) : Host.Outcome State Fault Refusal :=
  let s := tick t s
  match (strOf s k.val).retest with
  | none => done s s
  | some f => if f ≤ s.clk.fab then done s (updStr k.val (fun x => { x with retest := none }) s) else done s s

end Sys2Proof.Machine
end

