-- ==== Sys2Proof/Machine/Metering.lean ====
section
/-!
DEFINITION. The meanings of the commands of feeder metering (chapter 8).
-/
namespace Sys2Proof.Machine

/-- The frequency fall-back and the time since which a reference phase has been present (R235, R332). -/
def refSync (s : State) : State :=
  if noPhase s then updMet (fun m => { m with freqFall := true, refSince := none }) s
  else updMet (fun m => { m with freqFall := false, refSince := some (m.refSince.getD s.clk.fab) }) s

/-- A phase changes state (R234): a PHASE_STATE record, and MET_PHASE for D0. -/
def phaseRec (x : Nat) (absent : Bool) (s : State) : State :=
  icuRaise 98 (record 0x8011 3 (x + 1) (be 1 (b2n absent) ++ be 3 0 ++ be 8 (lget s.met.phases x Phase.init).lastTime) s)

/-- 15.38 ms and 22.22 ms in FAB cycles (R234). -/
def zcLow : Nat := 6152000
def zcHigh : Nat := 8888000

/-- The FAB instant of a rising crossing that the last sample completes (R234): `low` the filtered voltage since the last crossing,
oldest first; the detector is armed once it was below −10 V, and the crossing lies between the last two samples, to 0.1 µs. -/
def crossAt (now : Nat) (low : List Int) : Option Nat :=
  match low.reverse with
  | z :: y :: r =>
    if y < 0 ∧ 0 ≤ z ∧ (y :: r).any (fun v => decide (v * 500 < -83886080)) then
      let span := (z - y).toNat
      some (now - 40 * ((2500 * z.toNat + span) / (2 * span)))
    else none
  | _ => none

/-- Whether `c` cycles of length `d` are the number nearest 200 ms (R235): one more would miss it by no less. -/
def nearest (d c : Nat) : Bool := decide (400 * Config.msCycles * c ≤ d * (2 * c + 1))

/-- A valid crossing in the running measurement period (R235): a cycle of its reference; the period is due at its whole number, or
at the first crossing of a new reference. -/
def countCycle (x : Nat) (s : State) : State :=
  let m := s.met
  let d := (lget m.phases x Phase.init).last - m.first
  let s := if m.ref = some x then updMet (fun k => { k with cyc := k.cyc + 1 }) s else s
  if refPhase s = some x ∧ (m.ref ≠ some x ∨ nearest d (m.cyc + 1) = true) then updMet (fun k => { k with due := true }) s else s

/-- ZERO_CROSSING (R234): a crossing is valid by its interval from the last valid one; an ABSENT phase returns after three valid
ones. Where none valid can follow the last, the interval counts from this crossing on (log entry 65). -/
def execZeroCrossing (t : Nat) (c : Crossing) (s : State) : Host.Outcome State Fault Refusal :=
  let s := tick t s
  let x := c.phase
  match crossAt s.clk.fab c.low with
  | none => done s s
  | some at_ =>
    let p := lget s.met.phases x.val Phase.init
    let d := match p.base with | some b => at_ - b | none => zcHigh + 1
    let set (q : Phase) (s : State) : State := updMet (fun m => { m with phases := lset m.phases x.val q }) s
    if !(s.lanes.a.running || s.lanes.b.running) then done s s
    else if zcLow ≤ d ∧ d ≤ zcHigh then
      let run := if p.absent then p.run + 1 else 0
      let back := decide (3 ≤ run)
      let s1 := set { absent := p.absent && !back, last := at_, lastTime := timeOf s at_, run := if back then 0 else run
                      base := some at_ } s
      done s (countCycle x.val (if back then refSync (phaseRec x.val false s1) else s1))
    else done s (set { p with run := 0, base := if d < zcLow then p.base else some at_ } s)

/-- ZC_TIMEOUT (R234): the last valid crossing is older than ZC_TIMEOUT. -/
def execZcTimeout (t : Nat) (x : Fin 3) (s : State) : Host.Outcome State Fault Refusal :=
  let s := tick t s
  let p := lget s.met.phases x.val Phase.init
  if !p.absent ∧ p.last + getN s 0x80104 * Config.msCycles < s.clk.fab then
    let s1 := updMet (fun m => { m with phases := lset m.phases x.val { p with absent := true, run := 0 } }) s
    done s (refSync (phaseRec x.val true s1))
  else done s s

/-- Whether the running measurement period is to close (R235): at its reference's crossing, or after 1,600 samples with no phase. -/
def periodDue (s : State) : Bool := s.met.due || (noPhase s && decide (s.met.began + 200 * Config.msCycles ≤ s.clk.fab))

/-- MEASUREMENT_PERIOD_END (R235 to R238): each running lane's live quantities, and its energy interval. -/
def execMeasurementPeriodEnd (t : Nat) (a b : Samples) (s : State) : Host.Outcome State Fault Refusal :=
  let s := tick t s
  if (s.lanes.a.running || s.lanes.b.running) && periodDue s then
    done s (cntUp 0x80011 (icuRaise 96 (periodBegin (periodEnd .B b.hot (periodEnd .A a.hot (closeInterval a b s))))))
  else done s s

/-- PERIODIC_SAVE (R247, R253): at each whole second of FAB time once the lanes have agreed; a save still due when the next is
counts in SAVE_LATE. -/
def execPeriodicSave (t : Nat) (a b : Samples) (s : State) : Host.Outcome State Fault Refusal :=
  let s := tick t s
  if (active s).isSome && decide (s.met.nextSave ≤ s.clk.fab) then
    let late := decide (s.met.nextSave + Config.secCycles ≤ s.clk.fab)
    let s1 := icuRaise 97 (cwvWindow (saveSlot false (closeInterval a b s)))
    let s1 := updMet (fun m => { m with nextSave := m.nextSave + Config.secCycles }) s1
    done s (if late then cntUp 0x80013 s1 else s1)
  else done s s

/-- A lane's FINAL slot before the lanes agree (R454): from its own register and its own ring (R453). -/
def bootSave (l : Lane) (s : State) : State :=
  if !(s.lanes.get l).running then s
  else
    let seq := ((match newestSlot s l with | some x => x.seq | none => 0) + 1) % 4294967296
    let x := s.met.lanes.get l
    writeSlot l { seq, time := time64 s, asn := asn s, final := true, flags := packBits [true, anyFall s], acc := x.bill
                  pmaxImp := x.pmaxImp, pmaxExp := x.pmaxExp } s

/-- A FINAL slot (R248, R454): the lanes' agreed register, or each lane's own before they agree. -/
def finalSave (a b : Samples) (s : State) : State :=
  let s := closeInterval a b s
  if (active s).isSome then saveSlot true s
  else updMet (fun m => { m with lastFinal := s.clk.fab }) (bootSave .B (bootSave .A s))

/-- FINAL_SAVE_REPEAT (R248): every 5 ms until the lanes stop. -/
def execFinalSaveRepeat (t : Nat) (a b : Samples) (s : State) : Host.Outcome State Fault Refusal :=
  let s := tick t s
  if s.power.warning && (s.lanes.a.running || s.lanes.b.running)
      && decide (s.met.lastFinal + 5 * Config.msCycles ≤ s.clk.fab) then done s (finalSave a b s)
  else done s s

/-- The argument columns of CAL_MEASURE (R255): shapes, and ranges. -/
def calShape : List ColKind := [cU8, .enum [0, 1, 2], cU32, cU32, cS16, cU8]
def calRange : List ColKind := [.int 2 1 3, .enum [0, 1, 2], cU32, cU32, cS16, .int 2 5 60]

/-- The refusals of CAL_MEASURE before it measures (R242); step 0 has no reference and no voltage. -/
def calBad (s : State) (args : List TVal) : Option Reply :=
  let c := argN args 0 - 1
  let top := 2 * inMa s c
  let angle := match args[4]? with | some a => a.val.toInt | none => 0
  if s.met.cal.isSome then some (rRange 0x80210 0)
  else if argN args 1 = 0 then none
  else if phaseAbsent s c then some (rRange 0x80210 0)
  else if argN args 2 < 46000 ∨ 332000 < argN args 2 then some (rRange 0x80210 2)
  else if argN args 3 * 20 < top ∨ top < argN args 3 then some (rRange 0x80210 3)
  else if argN args 1 = 2 ∧ (angle < 3000 ∨ 8000 < angle) then some (rRange 0x80210 4)
  else none

/-- CAL_MEASURE (R242): only in a sequence that holds lock group 19; the reply comes when the measurement ends, and the
lease does not run until then. -/
def execCalMeasure (t : Nat) (h : Hdr) (args : List TVal) (s : State) : Host.Outcome State Fault Refusal :=
  let s := tick t s
  done s (request 3 false h (fun sid x s =>
    match execCheck 0x80210 calShape false { h with tclass := 0 } args sid x s with
    | some r => refuse r s
    | none =>
      match named sid x h.handle s with
      | .own hd q =>
        if !q.groups.contains 19 then refuse (rErr stNotInSeq []) s
        else match argRange 0x80210 0 calRange args with
        | some r => refuse r s
        | none =>
          if h.tclass ≠ 0 then refuse rAdmitClass s
          else match calBad s args with
          | some r => refuse r s
          | none =>
            let job : CalJob :=
              { sid := sid, reqSeq := h.seq, handle := hd, phase := argN args 0 - 1, step := argN args 1
                vref := argN args 2, iref := argN args 3
                angle := (match args[4]? with | some a => a.val.toInt | none => 0)
                ends := s.clk.fab + argN args 5 * Config.secCycles, leaseLeft := q.leaseEnd - s.clk.fab }
            (updMet (fun m => { m with cal := some job }) s, none)
      | _ => refuse (rErr stNotInSeq []) s) s)

/-- A row as a sequence sees it (R50, R61): its shadow, else its default where the bank is restored, else the live row. -/
def shadowRow (q : Sequence) (s : State) (n r : Nat) : Row :=
  (mget q.shadows (okey n r)).getD (if q.restores.contains (n / 65536) then defRow s n r else getRow s n r)

/-- Change the shadow of a row. -/
def shadowPut (hd n r : Nat) (f : Row → Row) (s : State) : State :=
  { s with ib := { s.ib with seqs := mmod s.ib.seqs hd (fun q =>
      { q with shadows := mset q.shadows (okey n r) (f (shadowRow q s n r)) }) } }

/-- A CAL_MAIN row that a step fills (R242): valid, source FIELD, the time, the range in force. -/
def calRow (s : State) (x col : Nat) (v : Val) (r : Row) : Row :=
  let r := lset (lset (lset (lset r col v) 4 (vN 1)) 5 (vN 1)) 6 (vN (time64 s))
  if x < 3 then r else lset r 3 (vN (getC s 0x80101 (x - 3) 0))

/-- A gain in units of 2^-30: reference ÷ measured (R242). -/
def calGain (ref meas : Nat) : Nat := ref * 2 ^ 30 / max 1 meas

/-- The proposed DELAY (R242): the old one less δ × 1,024 × 8,000 ÷ (360 × f), rounded; δ in 0.01°, f in mHz. -/
def calDelay (old δ : Int) (f : Nat) : Int := old - (2 * δ * 81920000 + 360 * f) / (2 * 360 * f)

/-- The refusals of a gain or phase step once it has measured (R242), as the argument's position in the block (R507): the
voltage or the current differs from its reference by more than 5 %, the angle by more than 2°. Step 0 has no reference. -/
def calFar (j : CalJob) (v i : Nat) (angle : Int) : Option Nat :=
  let off (ref m : Nat) : Bool := decide (5 * ref < (max ref m - min ref m) * 100)
  if j.step = 0 then none
  else if off j.vref v then some 2
  else if off j.iref i then some 3
  else if 200 < (angle - j.angle).natAbs then some 4
  else none

/-- The column of an object's value (R255), for the result block. -/
def colOf (obj c : Nat) : ColKind := match findObj obj with | some d => d.cols.getD c cU32 | none => cU32

/-- The shadows a step fills, as (object, row, column, value), in the order of the result block (R242). -/
def calFills (s : State) (q : Sequence) (j : CalJob) (v i : Nat) (angle : Int) (f : Nat) (voff ioff : Int) :
    List (Nat × Nat × Nat × Int) :=
  let vx := j.phase
  let ix := j.phase + 3
  if j.step = 0 then
    [(0x80200, vx, 1, voff), (0x80200, ix, 1, ioff), (0x80201, vx, 1, -voff), (0x80201, ix, 1, -ioff)]
  else if j.step = 1 then
    [(0x80200, vx, 0, calGain j.vref v), (0x80200, ix, 0, calGain j.iref i), (0x80201, vx, 0, calGain j.vref v),
     (0x80201, ix, 0, calGain j.iref i), (0x80201, ix, 2, calGain (j.vref * j.iref) (v * i))]
  else
    [(0x80200, ix, 2, calDelay (rInt (shadowRow q s 0x80200 ix) 2) (angle - j.angle) (max 1 f)),
     (0x80201, ix, 4, Config.qGain j.angle angle)]

/-- CAL_MEASURE_DONE (R242): the shadows and the reply; a refused step fills none. -/
def execCalMeasureDone (t v i : Nat) (angle : Int) (freq : Nat) (voff ioff : Int) (s : State) :
    Host.Outcome State Fault Refusal :=
  let s := tick t s
  match s.met.cal with
  | none => done s s
  | some j =>
    if s.clk.fab < j.ends then done s s
    else
      let s0 := updMet (fun m => { m with cal := none }) s
      match mget s0.ib.seqs j.handle with
      | none => done s (lateReply j.sid j.reqSeq 0x80210 (rErr stNotInSeq []) s0)
      | some q =>
        let s1 := { s0 with ib := { s0.ib with seqs := mset s0.ib.seqs j.handle { q with leaseEnd := s0.clk.fab + j.leaseLeft } } }
        match calFar j v i angle with
        | some p => done s (lateReply j.sid j.reqSeq 0x80210 (rRange 0x80210 p) s1)
        | none =>
          let fills := calFills s1 q j v i angle freq voff ioff
          let s2 := fills.foldl (fun s p =>
            shadowPut j.handle p.1 p.2.1 (fun r =>
              if p.1 = 0x80200 then calRow s p.2.1 p.2.2.1 (.num p.2.2.2) r else lset r p.2.2.1 (.num p.2.2.2)) s) s1
          let cols := [cU32, cU32, cS16, cU32] ++ fills.map (fun p => colOf p.1 p.2.2.1)
          let vals := [vN v, vN i, .num angle, vN freq] ++ fills.map (fun p => Val.num p.2.2.2)
          done s (lateReply j.sid j.reqSeq 0x80210 (rOk (.raw (tagged cols vals))) s2)

/-- BATT_MET_START (R250): the lanes stopped, main power absent, enabled, the cells present, budget left. -/
def execBattMetStart (t : Nat) (s : State) : Host.Outcome State Fault Refusal :=
  let s := tick t s
  if !s.lanes.a.running && !s.lanes.b.running && !s.power.mainOn && getB s 0x80107 && getC s 0x00410 0 0 != 3
      && getC s 0x00410 1 0 != 3 && !battSpent s && !s.met.batt.running then
    done s (updMet (fun m => { m with batt := { m.batt with running := true } }) s)
  else done s s

/-- BATT_WINDOW (R250 to R253): a 1 s window of the battery domain; its RMS values corrected by the fall-back. -/
def execBattWindow (t : Nat) (rms : List Nat) (volts : List Bool) (s : State) : Host.Outcome State Fault Refusal :=
  let s := tick t s
  let b := s.met.batt
  if !b.running then done s s
  else
    let v := volts.any id
    let i := (List.range 4).map (fun x => fallRms s (x + 3) (cN rms x))
    let hit := packBits (i.map (fun x => decide (getN s 0x80106 < x)))
    let b1 : BattMeter := { b with amps := addList b.amps i, seen := b.seen ||| packBits volts, prev := i }
    let runs := (List.range 4).map (fun x => if bitOf hit x && !v then cN b.above x + 1 else 0)
    let b2 := match b.event with
      | some e =>
        let m := cwvMore e hit i
        if v || 10 ≤ m.below then battStore m { b1 with event := none, above := [0, 0, 0, 0] }
        else { b1 with event := some m, above := runs }
      | none =>
        if runs.any (fun r => decide (2 ≤ r)) then
          let mask := hit ||| packBits (b.above.map (fun r => decide (1 ≤ r)))
          { b1 with event := some (cwvOpen 0 mask (timeOf s (s.clk.fab - 2 * Config.secCycles)) b.prev i (ctNow s)), above := runs }
        else { b1 with above := runs }
    done s (ropUp 0x80064 1 (putN 0x80063 (getN s 0x80063 + 1 : Nat) (updMet (fun m => { m with batt := b2 }) s)))

/-- BATT_BUDGET_SPENT (R250). -/
def execBattBudgetSpent (t : Nat) (s : State) : Host.Outcome State Fault Refusal :=
  let s := tick t s
  if s.met.batt.running && battSpent s then done s (condSet 130 0 true (battStop true s)) else done s s

/-- BATT_MET_RENEW (R250): BATT_MET_USED to 0. -/
def execBattMetRenew (t : Nat) (h : Hdr) (args : List TVal) (s : State) : Host.Outcome State Fault Refusal :=
  let s := tick t s
  done s (execCmd 0x80220 [] h args (fun _ _ s =>
    let s := putN 0x80063 0 s
    okEmpty (condSet 130 0 (battSpent s && s.dict.live.getLsbD 130) s)) s)

end Sys2Proof.Machine
end

