-- ==== Sys2Proof/Machine/Recorder.lean ====
section
/-!
DEFINITION. The commands of the Dripstone recorder (chapter 14).
-/
namespace Sys2Proof.Machine

/-- The address of the Dripstone submission port (R376). -/
def dripstonePort : Nat := 0x40700000

/-- A record a core submits: its lane is the ORIGIN (R380). -/
def submitted (l : Lane) (r : RecIn) (s : State) : Record :=
  { typ := r.typ % 65536, sev := min r.sev 7, summary := false, origin := laneNo l + 1, late := false, rseq := 0,
    time := time64 s, rep := 0, source := r.source % 65536, lastMs := 0, payload := padRec (r.payload.take 256) }

/-- RECORD_SUBMIT (R23, R375, R376, R380). -/
def execRecordSubmit (t : Nat) (l : Lane) (c : Core) (r : RecIn) (s : State) : Host.Outcome State Fault Refusal :=
  let s := tick t s
  if isPolicy c then done s (busErr l c dripstonePort true s)
  else if !(s.lanes.get l).running then done s s
  else if (s.lanes.get l).role = .lagging then done s (holdRecord l (submitted l r s) s)
  else done s (submitRec (submitted l r s) s)

/-- Whether a record repeats another (R377). -/
def sameRecord (a b : Record) : Bool :=
  a.typ == b.typ && a.sev == b.sev && a.source == b.source && a.payload == b.payload && !b.summary && !a.summary
    && decide (b.rep < 65535)

/-- The record written last, if the open page still ends with it (R377). -/
def lastRec (s : State) : Option Record :=
  match s.recd.openPage with
  | none => none
  | some p =>
    match mget s.recd.pages p with
    | none => none
    | some g => g.records.getLast?

/-- The page a record of `size` bytes and severity `sev` is claimed on when the open page has no room (R378): the first
page never written, else the lowest PAGE_SEQ with MAXSEV at or below, never the open page. -/
def claimPage (sev : Nat) (s : State) : Option Nat :=
  if s.recd.pages.length < 1024 then some s.recd.pages.length
  else
    let ok := s.recd.pages.filter (fun p => decide (p.2.maxSev ≤ sev) && some p.1 != s.recd.openPage)
    (ok.foldl (fun b p => match b with
      | none => some p
      | some y => if p.2.pageSeq < y.2.pageSeq then some p else b) (none : Option (Nat × RecPage))).map (fun p => p.1)

/-- Every record of a page that is claimed again is lost and counted for its severity (R378). -/
def loseRecords (rs : List Record) (s : State) : State := rs.foldl (fun s r => addC 0xB0012 r.sev 0 1 s) s

/-- Put a record at the end of the open page: bytes 8 to 15 of its header follow (R379). -/
def putRecord (r : Record) (s : State) : State :=
  match s.recd.openPage with
  | none => s
  | some p =>
    { s with recd := { s.recd with pages := mmod s.recd.pages p (fun g =>
        { g with records := g.records ++ [r], maxSev := max g.maxSev r.sev,
                 firstRseq := if g.records.isEmpty then r.rseq else g.firstRseq }) } }

/-- Open a page (R378, R379). -/
def openPageAt (p : Nat) (s : State) : State :=
  let s := match mget s.recd.pages p with
    | some g => loseRecords g.records s
    | none => s
  let q := (s.recd.pageSeq + 1) % 4294967296
  let g : RecPage := { pageSeq := q, firstRseq := 0, maxSev := 0, drain := 0, records := [] }
  { s with recd := { s.recd with pages := mset s.recd.pages p g, openPage := some p, pageSeq := q } }

/-- Whether a record fits in the open page (R378, R379). -/
def fitsOpen (r : Record) (s : State) : Bool :=
  match s.recd.openPage with
  | none => false
  | some p => match mget s.recd.pages p with
    | none => false
    | some g => decide (pageBytes g + recSize r ≤ 4080)

/-- Where a new record goes (R378); `false` where it is dropped and counted. -/
def placeRecord (r : Record) (s : State) : State × Bool :=
  if fitsOpen r s then (putRecord r s, true)
  else match claimPage r.sev s with
    | some p => (putRecord r (openPageAt p s), true)
    | none => (stickySet 176 0 (addC 0xB0011 r.sev 0 1 s), false)

/-- The notice window of a subscription and type, empty where none stands (R387). -/
def winOf (s : State) (sub typ : Nat) : NoticeWin :=
  (s.recd.wins.find? (fun w => w.sub == sub && w.typ == typ)).getD
    { sub, typ, sent := 0, folded := 0, loSev := 0, hiSev := 0, firstRseq := 0, lastRseq := 0, firstTime := 0,
      lastTime := 0, firstSrc := 0, lastSrc := 0, noticed := [] }

/-- Store a notice window. -/
def setWin (w : NoticeWin) (s : State) : State :=
  let rest := s.recd.wins.filter (fun x => !(x.sub == w.sub && x.typ == w.typ))
  { s with recd := { s.recd with wins := rest ++ [w] } }

/-- Fold `k` occurrences of a record (R387). -/
def foldRec (r : Record) (k : Nat) (w : NoticeWin) : NoticeWin :=
  if w.folded = 0 then
    { w with folded := k, loSev := r.sev, hiSev := r.sev, firstRseq := r.rseq, lastRseq := r.rseq, firstTime := r.time,
             lastTime := r.time, firstSrc := r.source, lastSrc := r.source }
  else
    { w with folded := w.folded + k, loSev := min w.loSev r.sev, hiSev := max w.hiSev r.sev, lastRseq := r.rseq,
             lastTime := r.time, lastSrc := r.source }

/-- TIME of a record's last occurrence (R374). -/
def recLast (r : Record) : Nat := r.time + r.lastMs * 16777216 / 1000

/-- A new record at one MODE 3 subscription (R387, R388): its own NOTICE, or folded. -/
def noticeRec (r : Record) (s : State) (p : Nat × Sub) : State :=
  if p.2.mode = 3 ∧ p.2.minSev ≤ r.sev then
    let w := winOf s p.1 r.typ
    if w.sent < getN s 0xB0113 ∧ (if 6 ≤ r.sev then 0 ≤ s.recd.reserved else tokenUnits ≤ s.recd.normal) then
      let s := setWin { w with sent := w.sent + 1, noticed := r.rseq :: w.noticed } (payToken r.sev s)
      sendNotice p.1 p.2 0 1 (recLast r) 0 (.raw (recBytes r)) (decide (6 ≤ r.sev)) s
    else cntUp 0xB0013 (setWin (foldRec r 1 w) s)
  else s

/-- The next RSEQ, never 0 (R374). -/
def nextRseq (s : State) : Nat :=
  let n := (s.recd.rseq + 1) % 4294967296
  if n = 0 then 1 else n

/-- A submission is written (R376 to R379): as a repeat of the last record, or as a new one. -/
def writeRecord (r : Record) (s : State) : State :=
  match lastRec s with
  | some b =>
    if sameRecord r b then
      let ms := min ((r.time - b.time) * 1000 / 16777216) 4294967295
      let p := s.recd.openPage.getD 0
      { s with recd := { s.recd with
          grown := mupd s.recd.grown b.rseq 0 (· + 1)
          pages := mmod s.recd.pages p (fun g =>
            { g with records := g.records.dropLast ++ [{ b with rep := b.rep + 1, lastMs := ms }] }) } }
    else newRecord r s
  | none => newRecord r s
where
  /-- A new record takes the next RSEQ (R374), and its notices leave (R387). -/
  newRecord (r : Record) (s : State) : State :=
    let n := nextRseq s
    let r := { r with rseq := n }
    let s := { s with recd := { s.recd with rseq := n, written := min (s.recd.written + 1) 4294967295 } }
    let (s, ok) := placeRecord r s
    if ok then s.ib.subs.foldl (noticeRec r) (refillTokens s) else s

/-- RECORD_WRITE (R376 to R381, R387, R388): the engine writes the oldest submission of its queue. -/
def execRecordWrite (t : Nat) (s : State) : Host.Outcome State Fault Refusal :=
  let s := tick t s
  match s.recd.queue with
  | [] => done s s
  | r :: q => done s (syncDrain (writeRecord r { s with recd := { s.recd with queue := q } }))

/-- A power loss stops the engine (R381): a record it is writing is torn, its RSEQ given, its page claimed. Whether it is writing one is
a free value. -/
def tearRec (s : State) : State :=
  match s.recd.queue with
  | [] => s
  | r :: _ =>
    let busy := freeNat s % 2 == 1 && !(lastRec s).any (sameRecord r)
    let s := draw s
    let torn (s : State) : State := { s with recd := { s.recd with rseq := nextRseq s, torn := true } }
    if !busy then s
    else if fitsOpen r s then torn s
    else match claimPage r.sev s with
      | some p => torn (openPageAt p s)
      | none => s

/-- A fold or repeat notice (R388): with the NORMAL bucket empty it is counted and leaves a gap in NOTICE_SEQ. -/
def sendOrDrop (id : Nat) (b : Sub) (sev flags changes time : Nat) (body : Bytes) (s : State) : State :=
  if tokenFor sev s then sendNotice id b flags changes time 0 (.raw body) (decide (6 ≤ sev)) (payToken sev s)
  else
    let s := stickySet 177 0 (addC 0xB0016 sev 0 1 s)
    { s with ib := { s.ib with sessions := mmod s.ib.sessions b.sid (fun x =>
        { x with noticeSeq := (x.noticeSeq + 1) % 4294967296 }) } }

/-- All records held. -/
def heldRecords (s : State) : List Record := (s.recd.pages.map (fun p => p.2.records)).flatten

/-- A record that grew repeats in the window and was not sent in it, at one subscription (R387). -/
def repeatNotice (id : Nat) (b : Sub) (s : State) (g : Nat × Nat) : State :=
  match (heldRecords s).find? (fun r => r.rseq == g.1) with
  | none => s
  | some r =>
    let w := winOf s id r.typ
    if r.sev < b.minSev || w.noticed.contains r.rseq then s
    else if w.sent < getN s 0xB0113 then
      sendOrDrop id b r.sev 0 g.2 (recLast r) (recBytes r)
        (setWin { w with sent := w.sent + 1, noticed := r.rseq :: w.noticed } s)
    else cntUpAt 0xB0013 0 0 g.2 (setWin (foldRec r g.2 w) s)

/-- The FOLD record of a window (R387). -/
def foldRecord (s : State) (w : NoticeWin) : Record :=
  { typ := 0xB001, sev := w.hiSev, summary := false, origin := 0, late := false, rseq := 0, time := time64 s, rep := 0,
    source := w.typ, lastMs := 0,
    payload := be 2 w.typ ++ be 1 w.loSev ++ be 1 w.hiSev ++ be 4 w.folded ++ be 4 w.firstRseq ++ be 4 w.lastRseq
      ++ be 8 w.firstTime ++ be 8 w.lastTime ++ be 2 w.firstSrc ++ be 2 w.lastSrc }

/-- The FOLD notice of a window that folded something. -/
def foldNotice (s : State) (w : NoticeWin) : State :=
  match mget s.ib.subs w.sub with
  | none => s
  | some b =>
    if w.folded = 0 then s
    else sendOrDrop w.sub b w.hiSev 2 w.folded (time64 s) (recBytes (foldRecord s w)) s

/-- The repeats of the window at one subscription. -/
def repeatNotices (s : State) (p : Nat × Sub) : State :=
  if p.2.mode = 3 then s.recd.grown.foldl (repeatNotice p.1 p.2) s else s

/-- RECORDER_NOTICE_WINDOW_END (R387, R388): repeats, then folds, then every window starts again. -/
def execRecorderNoticeWindowEnd (t : Nat) (s : State) : Host.Outcome State Fault Refusal :=
  let s0 := tick t s
  let s := refillTokens s0
  let s := s.ib.subs.foldl repeatNotices s
  let s := s.recd.wins.foldl foldNotice s
  done s0 { s with recd := { s.recd with wins := [], grown := [] } }

/-- SUMMARY_INTERVAL_END (R383): 0 the quarter hour, 1 the hour, 2 the day of TAI. -/
def execSummaryIntervalEnd (t : Nat) (i : Fin 3) (s : State) : Host.Outcome State Fault Refusal :=
  let s := tick t s
  done s ((List.range 16).foldl (sumEnd i.val) s)

/-- Insert a record by RSEQ. -/
def insertRec (r : Record) : List Record → List Record
  | [] => [r]
  | x :: xs => if r.rseq ≤ x.rseq then r :: x :: xs else x :: insertRec r xs

/-- The batch of REC_READ (R386) from records in ascending RSEQ: records taken, and the RSEQ after the last scanned. -/
def recBatch (minSev maxN newest : Nat) : List Record → List Record → Nat → List Record × Nat
  | [], got, _ => (got.reverse, newest + 1)
  | r :: rest, got, used =>
    if r.sev < minSev then recBatch minSev maxN newest rest got used
    else if 1024 < used + recSize r then (got.reverse, r.rseq)
    else if got.length + 1 = maxN then ((r :: got).reverse, r.rseq + 1)
    else recBatch minSev maxN newest rest (r :: got) (used + recSize r)

/-- The result of REC_READ (R386). -/
def recReadResult (first minSev maxN : Nat) (s : State) : List Val :=
  let newest := s.recd.rseq
  let all := (heldRecords s).foldr insertRec []
  let start := if first = 0 then (match all with | r :: _ => r.rseq | [] => newest + 1) else first
  if newest < first then [vN first, vN 0, vN 0, zeros 1024]
  else
    let cand := all.filter (fun r => decide (start ≤ r.rseq))
    let (got, next) := recBatch minSev maxN newest cand [] 0
    let upTo := match got with | r :: _ => r.rseq | [] => newest + 1
    let skipped := (upTo - start) - (cand.filter (fun r => decide (r.rseq < upTo))).length
    [v32 next, v32 skipped, vN got.length, .bytes (fit 1024 (got.map recBytes).flatten)]

/-- REC_READ (R386). -/
def execRecRead (t : Nat) (h : Hdr) (args : List TVal) (s : State) : Host.Outcome State Fault Refusal :=
  let s := tick t s
  done s (execCmd 0xB0300 [cU32, cU8, .int 2 1 32] h args
    (fun _ _ s => okVals [cU32, cU32, .int 2 0 32, .octets 1024] (recReadResult (argN args 0) (argN args 1) (argN args 2) s) s) s)

end Sys2Proof.Machine
end

