-- ==== Sys2Proof/Machine/TrackOps.lean ====
section
/-!
DEFINITION. The shared operations of the tracker (chapter 7): edges, paths and branches, trajectory frames and their
queues, merges, hand-offs, boundary rows.
-/
namespace Sys2Proof.Machine

/-- Change the traffic part of the state. -/
def updTrk (f : Traffic → Traffic) (s : State) : State := { s with trk := f s.trk }
/-- A track row. -/
def trackOf (s : State) (n : Nat) : Track := mgetD s.trk.tracks n Track.init
/-- Change a track row; VERSION counts before and after (R227). -/
def updTrack (n : Nat) (f : Track → Track) (s : State) : State :=
  updTrk (fun t => { t with tracks := mupd t.tracks n Track.init (fun k =>
    { f k with version := (k.version + 2) % 4294967296 }) }) s

/-- Whether a track is one that takes events (R204). -/
def isLive (k : Track) : Bool := k.state == .tentative || k.state == .confirmed || k.state == .coasting

/-- A batch of updates of the track table: TRK_GEN, TRK_TICK on A2 and A3 (R227). -/
def trkBatch (s0 s : State) : State :=
  if s.trk.tracks = s0.trk.tracks then s
  else icuRaise 85 (icuRaise 84 (updTrk (fun t => { t with gen := (t.gen + 1) % 4294967296, trkAsn := asn s % 4294967296 }) s))

/-- The edges of a vertex (R197): index, target, length, flags. -/
def edgesOf (s : State) (v : Nat) : List (Nat × Nat × Nat × Nat) :=
  let r := getRow s 0x70100 v
  (List.range 4).filterMap (fun i => if rNat r (3 + 3 * i) = 65535 then none
    else some (i, rNat r (3 + 3 * i), rNat r (4 + 3 * i), rNat r (5 + 3 * i)))

/-- Whether a class may leave by an edge (R197): its class bit, and for all but pedestrians the direction; an unknown class
may use any edge. -/
def mayLeave (cls flags : Nat) : Bool :=
  cls == 3 || (bitOf flags (2 + cls) && (cls == 2 || flags % 4 != 2))

/-- The edges by which a class may leave a vertex. -/
def wayEdges (s : State) (cls v : Nat) : List (Nat × Nat × Nat × Nat) :=
  (edgesOf s v).filter (fun e => mayLeave cls e.2.2.2)

/-- The reverse of an edge of `v`: the index on its target (255 none). -/
def backEdge (s : State) (v : Nat) (e : Nat × Nat × Nat × Nat) : Nat :=
  match (edgesOf s e.2.1).find? (fun b => b.2.1 == v && b.2.2.1 == e.2.2.1) with
  | some b => b.1
  | none => 255

/-- A turn count (R221, 7:0202). -/
def turnCount (s : State) (v cls a l : Nat) : Nat :=
  if a = 255 then 0 else ofBe (((rOct (getRow s 0x70202 v) 0).drop (32 * cls + 8 * a + 2 * l)).take 2)

/-- Insert in descending order of share, after its equals. -/
def insertShare (x : Nat × (Nat × Nat × Nat × Nat)) : List (Nat × (Nat × Nat × Nat × Nat)) → List (Nat × (Nat × Nat × Nat × Nat))
  | [] => [x]
  | y :: r => if y.1 < x.1 then x :: y :: r else y :: insertShare x r

/-- The ways on from a vertex (R207, R208). A track that has divided goes on only where one edge holds 70 %. -/
def waysOn (s : State) (cls v arr : Nat) (divided : Bool) : List (Nat × Nat × Nat × Nat) :=
  let es := (wayEdges s cls v).filter (fun e => e.1 != arr)
  if es.length ≤ 1 then es
  else
    let cs := es.map (fun e => (turnCount s v cls arr e.1, e))
    let total := (cs.map (fun c => c.1)).sum
    if 32 ≤ total then
      match cs.find? (fun c => decide (total * 7 ≤ c.1 * 10)) with
      | some c => [c.2]
      | none =>
        if divided then []
        else (((cs.filter (fun c => decide (total ≤ c.1 * 5))).foldl (fun l c => insertShare c l) []).map (fun c => c.2)).take 4
    else if divided then [] else es.take 4

/-- The light profile of a class in a zone (R207, R229). -/
def profileOf (s : State) (zone cls : Nat) : Row :=
  getRow s 0x70121 ((rOct (getRow s 0x70120 zone) 5).getD cls 0).toNat

/-- The default speed of a class at a vertex, cm/s. -/
def defaultSpeed (s : State) (v cls : Nat) : Nat := rNat (profileOf s (zoneAt s v) cls) 5

/-- The FAB cycles that a distance in 0.1 m takes at a speed in cm/s. -/
def travelAt (speed dist : Nat) : Nat := dist * 10 * Config.secCycles / max 1 speed

/-- The predicted travel of a track over a distance: a track that stands still by its profile's default speed. -/
def travel (s : State) (k : Track) (dist : Nat) : Nat :=
  travelAt (if k.speed = 0 then defaultSpeed s k.vertex k.cls else k.speed) dist

/-- Follow the ways on from a vertex (R207, R208): for each branch the lanterns listed and the boundary vertex reached with
its distance. The first argument bounds the vertices followed. -/
def walk (s : State) (k : Track) : Nat → Nat → Nat → Nat → List (Nat × Nat × Nat) → Nat → Bool → Option Nat →
    List (List Hop × Option (Nat × Nat))
  | 0, _, _, _, _, _, _, _ => [([], none)]
  | f + 1, v, arr, dist, via, n, divided, head =>
    let es : List (Nat × Nat × Nat × Nat) := match head with
      | some i => (wayEdges s k.cls v).filter (fun e => e.1 == i)
      | none => waysOn s k.cls v arr divided
    if es.isEmpty then [([], none)]
    else (es.map (fun e =>
      let w := e.2.1
      let d := dist + e.2.2.1
      let a := backEdge s v e
      let via := via ++ [(v, arr, e.1)]
      let div := divided || decide (1 < es.length)
      let ty := getC s 0x70100 w 0
      if ty = 1 then
        if 24 ≤ n ∨ getN s 0x70130 * Config.secCycles < travel s k d then [([], none)]
        else (walk s k f w a d [] (n + 1) div none).map (fun r => ({ node := w, dist := d, arr := a, via := via } :: r.1, r.2))
      else if ty = 2 then walk s k f w a d via n div none
      else if ty = 3 then [([], some (w, d))]
      else [([], none)])).flatten

/-- The most vertices a path follows. -/
def walkFuel : Nat := 256

/-- The first entry of a path: the last vertex where it is a lantern (R207). -/
def pathHead (s : State) (k : Track) : List Hop :=
  if getC s 0x70100 k.vertex 0 = 1 then [{ node := k.vertex, dist := 0, arr := k.arrived.getD 255, via := [] }] else []

/-- The branches of a track and the boundary its path reaches (R207, R208, R209): a track that stands lists its vertex and the
neighbouring lanterns. -/
def pathsOf (s : State) (k : Track) : List (List Hop) × Option (Nat × Nat) :=
  let h := pathHead s k
  if k.speed = 0 then
    let es := (wayEdges s k.cls k.vertex).take 4
    (if es.isEmpty then [h]
     else es.map (fun e => h ++ (((walk s k walkFuel k.vertex 255 0 [] h.length true (some e.1)).headD ([], none)).1.take 1)), none)
  else
    let w := walk s k walkFuel k.vertex (k.arrived.getD 255) 0 [] h.length false k.heading
    (w.map (fun r => h ++ r.1), w.findSome? (fun r => r.2))

/-- A track with its path built anew. -/
def rebuilt (s : State) (k : Track) : Track :=
  let p := pathsOf s k
  { k with branches := p.1.take 4, boundary := p.2 }

/-- Step codes by carried rounding (R212) of distances in 0.1 m from entry 0, for a unit of `u` × 0.1 m. -/
def stepCodes (u : Nat) : Nat → List Nat → List Nat
  | _, [] => []
  | c, d :: r =>
    let q := (2 * d + u) / (2 * u)
    (q - c) :: stepCodes u (max c q) r

/-- The smallest DUNIT whose codes do not exceed 7 (R212). -/
def dunitFor (ds : List Nat) : Option Nat :=
  (List.range 256).find? (fun n => 1 ≤ n && (stepCodes (5 * n) 0 ds).all (fun c => decide (c ≤ 7)))

/-- The most lanterns of a path, up to `n`, for which some DUNIT fits (R212). -/
def fitLen (ds : List Nat) : Nat → Nat
  | 0 => 0
  | n + 1 => if (dunitFor (ds.take (n + 1))).isSome then n + 1 else fitLen ds n

/-- Distances cut before the lantern that does not fit, where no DUNIT fits them all (R212). -/
def cutPath (ds : List Nat) : List Nat := ds.take (fitLen ds ds.length)

/-- The coded distances of codes, in 0.1 m. -/
def codedDist (u : Nat) : Nat → List Nat → List Nat
  | _, [] => []
  | c, x :: r => (c + x) * u :: codedDist u (c + x) r

/-- The clusters' transceivers of some lanterns: primary and alternate (R210). -/
def frameXcvrs (s : State) (nodes : List Nat) : List Nat :=
  nodes.foldl (fun l n => match dirCluster s n with
    | some c => insertNat (pathX s c true) (insertNat (pathX s c false) l)
    | none => l) []

/-- Insert by need time, after its equals (R210). -/
def insertNeed (f : TrajFrame) : List TrajFrame → List TrajFrame
  | [] => [f]
  | x :: r => if f.need < x.need then f :: x :: r else x :: insertNeed f r

/-- A frame enters a transceiver's queue (R210): supersession, need-time order, 64 entries. -/
def enqueue (f : TrajFrame) (s : State) (x : Nat) : State :=
  let q := lget s.trk.queues x []
  let same (g : TrajFrame) : Bool := g.track == f.track && g.branch == f.branch
  let q2 := match q.find? same with
    | some g =>
      if g.need ≤ f.need then q.map (fun h => if same h then { f with need := g.need } else h)
      else insertNeed f (q.filter (fun h => !same h))
    | none => insertNeed f q
  let s := if 64 < q2.length then cntUp 0x70016 s else s
  updTrk (fun t => { t with queues := lset t.queues x (q2.take 64) }) s

/-- Build the frame of a branch (R209 to R212): the lanterns whose times lie within 32,767 ms; of a standing track all of them and pass it through the floor guard (R224); it is queued on the
transceivers of the lanterns it lists. -/
def sendBranch (n b : Nat) (hops : List Hop) (s : State) : State :=
  let k := trackOf s n
  let eta (d : Nat) : Nat := k.lastAt + travel s k d
  let span := 32767 * Config.msCycles
  let near (d : Nat) : Bool := k.speed == 0 || decide (eta d ≤ s.clk.fab + span ∧ s.clk.fab ≤ eta d + span)
  match hops.filter (fun h => near h.dist) with
  | [] => s
  | h0 :: rest =>
    let hops := h0 :: rest
    let ds := cutPath (hops.map (fun h => h.dist - h0.dist))
    let hops := hops.take ds.length
    if hops.isEmpty then s
    else
      let du := (dunitFor ds).getD 255
      let codes := stepCodes (5 * du) 0 ds
      let ahead := match hops.find? (fun h => h.node != k.vertex) with | some h => h.node | none => h0.node
      let pr := profileOf s (zoneAt s ahead) k.cls
      let nodes := hops.map (fun h => h.node)
      let floor := maxFloor s nodes (rNat pr 4)
      let raised := decide (rNat pr 0 < floor)
      let tseq := (k.tseq + 1) % 256
      let ons := (ds.map (fun d => eta (h0.dist + d) - rNat pr 1 * (Config.secCycles / 10))).filter (fun o => decide (s.clk.fab < o))
      let lastD := h0.dist + ds.getLastD 0
      let f : TrajFrame :=
        { track := n, cls := k.cls, ending := false, tseq := tseq, branch := b, eta0 := eta h0.dist, speed := k.speed
          dunit := du, level := max (rNat pr 0) floor, lead := rNat pr 1, trail := rNat pr 2
          rampch := rNat pr 3 * 16 + rNat pr 4, entries := nodes.zip codes
          need := ons.foldl min (ons.headD s.clk.fab), lastEta := eta lastD, queued := s.clk.fab }
      let g : LastFrame :=
        { eta0 := eta h0.dist, built := s.clk.fab, speed := k.speed, entries := nodes.zip (codedDist (5 * du) 0 codes) }
      let s := updTrk (fun t => { t with clamps := t.clamps + b2n raised }) s
      let s := updTrack n (fun k => { k with tseq := tseq, frames := k.frames ++ [g] }) s
      (frameXcvrs s nodes).foldl (enqueue f) s

/-- A track issues a new frame for each of its branches (R209). -/
def issue (n : Nat) (s : State) : State :=
  let s := updTrack n (fun k => { k with frames := [] }) s
  ((trackOf s n).branches.zipIdx).foldl (fun s p => sendBranch n p.2 p.1 s) s

/-- The END frame of a branch (R206, R211): no entries. -/
def sendEnd (n b : Nat) (hops : List Hop) (s : State) : State :=
  let k := trackOf s n
  let pr := profileOf s (zoneAt s k.vertex) k.cls
  let tseq := (k.tseq + 1) % 256
  let f : TrajFrame :=
    { track := n, cls := k.cls, ending := true, tseq := tseq, branch := b, eta0 := s.clk.fab, speed := k.speed, dunit := 1
      level := rNat pr 0, lead := rNat pr 1, trail := rNat pr 2, rampch := rNat pr 3 * 16 + rNat pr 4, entries := []
      need := s.clk.fab, lastEta := s.clk.fab, queued := s.clk.fab }
  (frameXcvrs s (hops.map (fun h => h.node))).foldl (enqueue f) (updTrack n (fun k => { k with tseq := tseq }) s)

/-- A track ends without END frames (R203). -/
def endTrack (n : Nat) (s : State) : State :=
  updTrack n (fun k => { k with state := .ended, endedAt := s.clk.fab, handoff := none, frames := [], branches := [],
                                boundary := none }) s

/-- A track that merged ends with its END frames (R203, R206). -/
def endMerged (n : Nat) (s : State) : State :=
  endTrack n (((trackOf s n).branches.zipIdx).foldl (fun s p => sendEnd n p.2 p.1 s) s)

/-- Every live track ends without END frames: TRACKER_ENABLE set to false (R203, R229). -/
def endAllTracks (s : State) : State :=
  (s.trk.tracks.filter (fun p => isLive p.2 || p.2.state == .handed)).foldl (fun s p => endTrack p.1 s) s

/-- The state of a boundary row (R217). -/
def boundState (s : State) (v : Nat) : Nat := match mget s.trk.bounds v with | some b => b.state | none => 0

/-- A HANDOFF leaves (R218, R219). -/
def sendHandoff (n hseq v dist : Nat) (s : State) : State :=
  let k := trackOf s n
  let m : HandoffMsg :=
    { source := modId s, track := n, bkey := getC s 0x70100 v 16, cls := k.cls, flags := b2n (k.state == .confirmed)
      speed := k.speed, eta := timeOf s (k.lastAt + travel s k dist), hseq := hseq }
  trunkSend (getC s 0x70100 v 15) 1 (.handoff m) s

/-- A track whose path reaches a MATCHED boundary vertex sends HANDOFF at once (R219). -/
def tryHandoff (n : Nat) (s : State) : State :=
  let k := trackOf s n
  match k.boundary with
  | none => s
  | some (v, d) =>
    if !isLive k || k.dead.contains v || k.handoff.isSome || boundState s v != 2 then s
    else
      let q := (s.trk.hseq + 1) % 65536
      let s := updTrk (fun t => { t with hseq := q }) s
      sendHandoff n q v d (updTrack n (fun k => { k with handoff := some { hseq := q, tries := 0, at_ := s.clk.fab, vertex := v, dist := d } }) s)

/-- Tracks whose paths already reach a boundary row that has become MATCHED (R219). -/
def tryHandoffs (s : State) : State := s.trk.tracks.foldl (fun s p => tryHandoff p.1 s) s

/-- Whether two tracks merge (R206). -/
def merges (a b : Track) : Bool :=
  isLive a && isLive b && a.cls == b.cls && a.vertex == b.vertex
    && decide (a.lastAt ≤ b.lastAt + Config.secCycles) && decide (b.lastAt ≤ a.lastAt + Config.secCycles)
    && decide ((max a.speed b.speed - min a.speed b.speed) * 5 ≤ max a.speed b.speed)

/-- TRACK_MERGE (R206): the lower track survives with the later event; the other ends with its END frames; the survivor issues
a fresh frame. Answers the survivor where the track merged. -/
def mergeTrack (n : Nat) (s : State) : State × Option Nat :=
  match s.trk.tracks.find? (fun p => p.1 != n && merges p.2 (trackOf s n)) with
  | none => (s, none)
  | some p =>
    let lo := min n p.1
    let hi := max n p.1
    let a := trackOf s lo
    let b := trackOf s hi
    let later := if a.lastAt < b.lastAt then b else a
    let sure := a.state == .confirmed || b.state == .confirmed
    let s := endMerged hi s
    let s := updTrack lo (fun k => { k with
      state := if sure then .confirmed else k.state, lastAt := later.lastAt, lastTime := later.lastTime
      lastAsn := later.lastAsn, speed := later.speed, measured := later.measured, arrived := later.arrived
      heading := later.heading }) s
    let s := updTrack lo (rebuilt s) s
    (cntUp 0x7001A (tryHandoff lo (issue lo s)), some lo)

/-- The lowest FREE row of the track table (R203). -/
def freeTrack (s : State) : Option Nat := (List.range 4096).find? (fun n => (trackOf s n).state == .free)

/-- The COASTING track with the oldest last event (R204). -/
def oldestCoasting (s : State) : Option Nat :=
  ((s.trk.tracks.filter (fun p => p.2.state == .coasting)).foldl (fun b p =>
    match b with
    | none => some p
    | some q => if p.2.lastAt < q.2.lastAt then some p else some q) none).map (fun p => p.1)

/-- A row for a new track (R204): a FREE one, else the oldest COASTING track's. -/
def newRow (s : State) : Option Nat :=
  match freeTrack s with
  | some n => some n
  | none => oldestCoasting s

/-- The FAB instant of a TIME64, as TAI stands now. -/
def fabOfTime (s : State) (t : Nat) : Nat := ((ofTime64 t : Int) - (tai s : Int) + (s.clk.fab : Int)).toNat

/-- A boundary row as the neighbour's latest complete list leaves it (R217). -/
def boundMatch (s : State) (v : Nat) (b : Boundary) : Boundary :=
  match mget s.trk.lists (getC s 0x70100 v 15) with
  | none => b
  | some l =>
    match l.find? (fun e => e.1 == getC s 0x70100 v 16) with
    | some e => { state := 2, nVertex := e.2.1, nLength := e.2.2, since := none }
    | none => { state := 3, nVertex := 0, nLength := 0, since := none }

/-- BOUNDARY_UNMATCHED holds while a boundary row is UNMATCHED (R217). -/
def boundSync (detail : Nat) (s : State) : State := condSet 113 detail (s.trk.bounds.any (fun p => p.2.state == 3)) s

/-- The boundary rows after a commit of the street graph (R199, R217), with the graph as it was: each is evaluated again; one
that names another neighbour or key waits anew; the lists leave. -/
def boundCommit (s0 s : State) : State :=
  let rows := boundRows s
  let fresh : Boundary := { state := 1, nVertex := 0, nLength := 0, since := some s.clk.fab }
  let same (v : Nat) : Bool := getC s0 0x70100 v 0 == 3 && getC s0 0x70100 v 15 == getC s 0x70100 v 15
    && getC s0 0x70100 v 16 == getC s 0x70100 v 16
  let s := updTrk (fun t => { t with bounds := rows.map (fun v =>
    (v, boundMatch s v (if same v then mgetD t.bounds v fresh else fresh))) }) s
  (boundModules s).foldl sendList (tryHandoffs (boundSync (rows.headD 0) s))

/-- Whether a track's last vertex or listed path touches some rows (R199). -/
def touches (k : Track) (rows : List Nat) : Bool :=
  rows.contains k.vertex || k.branches.any (fun b => b.any (fun h => rows.contains h.node || h.via.any (fun v => rows.contains v.1)))
    || (match k.boundary with | some p => rows.contains p.1 | none => false)

/-- A vertex's history is cleared (R199): its days (7:0200), its turns (7:0202), and what the hour and week that run have counted. -/
def clearHistory (s : State) (v : Nat) : State :=
  let gone (k : Nat) : Bool := (List.range 7).any (fun d => k == okey 0x70200 (v * 7 + d)) || k == okey 0x70202 v
  updTrk (fun t => { t with
    passages := t.passages.filter (fun p => p.1 / 4 != v), nowCount := t.nowCount.filter (fun p => p.1 / 4 != v)
    turnsNow := t.turnsNow.filter (fun p => p.1 / 64 != v) })
    { s with dict := { s.dict with store := s.dict.store.filter (fun p => !gone p.1) } }

/-- A commit of STREET_GRAPH takes effect (R199) on some rows, stored by now; `s0` holds the graph as it was. -/
def graphCommit (rows : List Nat) (s0 s : State) : State :=
  let changed := rows.filter (fun v => getRow s0 0x70100 v != getRow s 0x70100 v)
  let s1 := (s.trk.tracks.filter (fun p => (isLive p.2 || p.2.state == .handed) && touches p.2 changed)).foldl (fun s p => endTrack p.1 s) s
  let s1 := (changed.filter (fun v => getC s 0x70100 v 0 == 0)).foldl clearHistory s1
  trkBatch s (boundCommit s0 s1)

end Sys2Proof.Machine
end

