-- ==== Sys2Proof/Machine/Regs.lean ====
section
/-!
DEFINITION. The lane-local address map (R22, R23): what a read of each register or memory word answers. The writes are in
Machine/RegWrite.lean.
-/
namespace Sys2Proof.Machine

/-- A word from 32 bits, bit 0 first. -/
def packWord (f : Nat → Bool) : Nat := packBits ((List.range 32).map f)

/-- The listed ICU registers that a read leaves alone (R404); none where the offset is not listed. -/
def icuReg (u : Icu) (off : Nat) : Option Nat :=
  if off % 4 ≠ 0 then none
  else if off < 0x800 then
    let n := off / 4
    let x := icuSrc u n
    some (if icuAssigned n then x.prio + 256 * x.target + 2048 * b2n (icuLevel n) + 4096 * b2n (decide (n < 64)) else 0)
  else if 0x880 ≤ off ∧ off < 0x8C0 then some (packWord (fun b => (icuSrc u (32 * ((off - 0x880) / 4) + b)).enabled))
  else if (0x900 ≤ off ∧ off < 0x940) ∨ (0x980 ≤ off ∧ off < 0x9C0) ∨ off = 0xA80 then some 0
  else if 0xA00 ≤ off ∧ off < 0xA40 then some (packWord (fun b => (icuSrc u (32 * ((off - 0xA00) / 4) + b)).active.isSome))
  else if off = 0xC00 then some (u.wakeEn.toNat % 4294967296)
  else if off = 0xC04 then some (u.wakeEn.toNat / 4294967296)
  else if off = 0xC10 then some (u.wakeLatch.toNat % 4294967296)
  else if off = 0xC14 then some (u.wakeLatch.toNat / 4294967296)
  else if 0x2000 ≤ off ∧ off < 0x2800 then
    let x := icuSrc u ((off - 0x2000) / 4)
    some (x.empties + 65536 * x.merged)
  else if 0x1000 ≤ off ∧ off < 0x1700 then
    let x := lget u.targets ((off - 0x1000) / 256) IcuTarget.init
    let r := off % 256
    if r = 0 then some x.threshold
    else if r = 8 then some 0
    else if r = 0xC then some (icuRun x + 65536 * (x.stack.length % 16))
    else if r = 0x10 then some (x.stray + 65536 * x.late)
    else if r = 0x14 then some x.none_
    else if r = 0x18 then some (b2n x.resetDrop)
    else none
  else none

/-- The Gour registers of a lane (R416). -/
def gourReg (x : LaneSt) (off : Nat) : Option Nat :=
  let a := off / 0x800
  let o := off % 0x800
  let b := arbOf x a
  if 23 ≤ a ∨ off % 4 ≠ 0 then none
  else if o = 0 then some (arbReqs a + 16777216 * arbKind a)
  else if o = 4 then some (b2n b.pendFull + 2 * b2n b.alarm + 256 * parkedAll b)
  else if o = 8 then some b.waitAlarm
  else if o = 0xC then some b.dead
  else if 0x100 ≤ o ∧ (o - 0x100) / 32 < arbReqs a then
    let q := reqOf a b ((o - 0x100) / 32)
    let r := o % 32
    if r = 0 then some (q.next + 256 * capShown a q.next + 131072 * b2n (arbCapped a ((o - 0x100) / 32)))
    else if r = 4 then some (q.credit % 512)
    else if r = 8 then some q.grants
    else if r = 0xC then some q.waits
    else if r = 0x10 then some q.longest
    else if r = 0x14 then some (parkedOf q)
    else if r = 0x18 then some q.withdrawn
    else none
  else none

/-- The Sump registers that a read leaves alone, and the watchdog limits (R422). -/
def sumpReg (x : LaneSt) (off : Nat) : Option Nat :=
  let q := off / 256
  let r := off % 256
  let k := sumpOf x q
  if off % 4 ≠ 0 then none
  else if 0xF000 ≤ off ∧ off < 0xF018 then some (lget x.busWd ((off - 0xF000) / 4) 400000)
  else if 22 ≤ q then none
  else if r = 0 then
    let f := sumpFacts q
    some (f.1 + 65536 * f.2.1 + 2147483648 * b2n f.2.2)
  else if r = 4 then some (k.words.length + 65536 * (k.words.filter (fun w => w.last)).length)
  else if r = 8 then some (sumpCredit q k)
  else if r = 0xC then some 0
  else if r = 0x18 ∨ r = 0x1C then if sumpCoreWrites q then some 0 else none
  else if r = 0x20 then some (k.corr + 65536 * k.uncorr)
  else if r = 0x24 then some (k.flushed + 65536 * k.flushedPartial)
  else if r = 0x28 then some (min k.overrun 4294967295)
  else if r = 0x2C then some (min k.stalls 4294967295)
  else none

/-- A word of a half of the admission port (R121); ARG holds bytes, lowest address first. -/
def portReg (h : PortHalf) (off : Nat) : Option Nat :=
  let byte (i : Nat) : Nat := (h.arg.getD (off + i) 0).toNat
  if off % 4 ≠ 0 then none
  else if off < 0x400 then some (byte 0 + 256 * byte 1 + 65536 * byte 2 + 16777216 * byte 3)
  else if off = 0x400 then some (h.obj % 1048576 + 16777216 * (h.dclass % 8))
  else if off = 0x404 then some h.deadline
  else if off = 0x408 then some h.len
  else if off = 0x40C then some (2 * b2n h.busy)
  else if off = 0x410 then some (h.status + 256 * b2n h.done + 65536 * h.detail)
  else if off = 0x414 then some h.ticket
  else if off = 0x418 then some h.earliest
  else if off = 0x41C then some h.failing
  else if off = 0x420 then some (h.pending.length + 65536 * b2n h.ready + 131072 * b2n h.badbuf)
  else if off = 0x424 then some h.compBuf
  else if off = 0x428 then some 0
  else if off = 0x42C then some h.compLen
  else none

/-- A register of a Flowstone engine (R278). -/
def engReg (e : Engine) (off : Nat) : Option Nat :=
  if off % 4 ≠ 0 then none
  else if off = 0 then some (256 * e.own.toNat)
  else if off = 4 then some (e.state + 4 * e.fault + 256 * (e.pc % 64) + 65536 * e.sig)
  else if off = 8 then some (e.lvl + 65536 * e.base)
  else if off = 0xC then some (e.last + 256 * e.first + 16777216 * e.mask.toNat)
  else if off = 0x10 then some (cN e.cnt 0 + 65536 * cN e.cnt 1)
  else if off = 0x14 then some (cN e.cnt 2 + 65536 * cN e.cnt 3)
  else if off = 0x18 then some e.trig.toNat
  else if off = 0x1C then some 0
  else if off = 0x20 then some (if e.waitKind = 1 ∨ e.waitKind = 2 ∨ e.waitKind = 3 then e.left else 0)
  else if 0x100 ≤ off ∧ off < 0x200 then some (lget e.prog ((off - 0x100) / 4) 0).toNat
  else none

/-- A register of the vault mailbox (R352). -/
def vaultReg (v : Vault) (off : Nat) : Option Nat :=
  if off % 4 ≠ 0 then none
  else if off = 0 then some (256 * v.op)
  else if off = 4 then
    some (b2n v.busy.isSome + 2 * b2n v.err + 4 * b2n v.root.isNone + 8 * b2n v.unsealed + 256 * v.cause)
  else if off = 8 then some v.handle
  else if off = 0xC then some v.inLen
  else if off = 0x10 then some v.outLen
  else if 0x800 ≤ off ∧ off < 0x1000 then some (mgetD v.data ((off - 0x800) / 4) 0).toNat
  else none

/-- ETA_NEXT of a track (R227): ms from the start of LAST_ASN to the predicted time at NEXT. -/
def etaNext (s : State) (k : Track) : Nat :=
  match (k.branches.headD []).find? (fun h => h.dist != 0) with
  | some h => msBetween (fabOfAsn s k.lastAsn) (k.lastAt + travel s k h.dist)
  | none => 0

/-- Word `w` of a TRACK entry (R227). -/
def trackWord (s : State) (n w : Nat) : Nat :=
  let k := trackOf s n
  if w = 0 then k.version
  else if w = 1 then k.vertex % 16384 + 65536 * trackCode k.state + 16777216 * (k.branches.length - 1) + 67108864 * (k.cls % 4)
  else if w = 2 then min k.speed 65535 + 65536 * nextLantern k
  else if w = 3 then k.lastAsn % 4294967296
  else if w = 4 then 256 * k.tseq + 65536 * k.events
  else if w = 5 then k.fromTrack + 16777216 * k.fromModule
  else if w = 6 then etaNext s k % 4294967296
  else 0

/-- Word `w` of a ZONE entry (R227). -/
def zoneWord (s : State) (z w : Nat) : Nat :=
  let x := zoneOf s z
  if w = 0 then x.cls + 256 * x.source + 65536 * min x.expected 65535
  else if w = 1 then
    match x.policyNow with
    | some p => (p.2.1 - s.clk.fab) / Config.secCycles
    | none => 0
  else 0

/-- The tracker read window (R227); `off` from 4048_0000h. -/
def trackerReg (s : State) (off : Nat) : Option Nat :=
  if off % 4 ≠ 0 then none
  else if off < 0x20000 then some (trackWord s (off / 32) (off % 32 / 4))
  else if off < 0x21000 then some (zoneWord s ((off - 0x20000) / 16) (off % 16 / 4))
  else if off = 0x30000 then some s.trk.gen
  else if off = 0x30004 then some (tracksActive s)
  else if off = 0x30008 then some s.trk.trkAsn
  else if off = 0x3000C then some (getN s 0x70201)
  else if 0x40000 ≤ off ∧ off < 0x50000 then
    let v := (off - 0x40000) / 4
    let n (c : Nat) : Nat := min 255 (mgetD s.trk.nowCount (4 * v + c) 0)
    some (n 0 + 256 * n 1 + 65536 * n 2 + 16777216 * n 3)
  else none

/-- Four bytes at an offset as a word, lowest address first. -/
def wordAt (b : Bytes) (off : Nat) : Nat := ofBe ((fit 4 (b.drop off)).reverse)

/-- Whether cores wrote all four bytes of a word of MRAM. -/
def wordKnown (x : LaneSt) (a : Nat) : Bool :=
  (List.range 4).all (fun i => x.wrote.any (fun w => decide (w ≤ a + i ∧ a + i < w + 4)))

/-- Whether a core wrote some byte of a word of MRAM. -/
def wordTouched (x : LaneSt) (a : Nat) : Bool := x.wrote.any (fun w => decide (w < a + 4 ∧ a < w + 4))

/-- The owner of an MRAM address (R13): the cores that have areas of their own. -/
def mramOwner (a : Nat) : Option Core :=
  if a < 0x20800000 then some .A1
  else if a < 0x20810000 then some .D0
  else if a < 0x20A10000 then some .A1
  else none

/-- Whether a core's access to one byte of MRAM crosses from its own area into another's (R13). A core with no area of its own
(A0, M0, A2, A3) may read every area and write none (DESIGN CHOICE, log entry 60: the rule speaks of an area's owner). -/
def mramByteBarred (c : Core) (write : Bool) (a : Nat) : Bool :=
  if 0x20E10000 ≤ a then false
  else if write then mramOwner a != some c
  else (c == .A1 || c == .D0) && mramOwner a != some c

/-- Whether some byte of a word of MRAM is barred to a core: then none of the word is accessed (R13). -/
def mramBarred (c : Core) (a : Nat) (write : Bool) : Bool :=
  mramByteBarred c write a || mramByteBarred c write (a + 1) || mramByteBarred c write (a + 2)
    || mramByteBarred c write (a + 3)

/-- The answer to a read with a value. -/
def giveReg (l : Lane) (c : Core) (a v : Nat) (s : State) : State := emit (.regData l c a (BitVec.ofNat 32 v)) s

/-- The answer to a read of a listed register, or a bus error for one that is not listed (R22). -/
def giveOr (l : Lane) (c : Core) (a : Nat) (v : Option Nat) (s : State) : State :=
  match v with
  | some n => giveReg l c a n s
  | none => busErr l c a false s

/-- A read whose value the spec does not give: a free value. -/
def giveFree (l : Lane) (c : Core) (a : Nat) (s : State) : State := giveReg l c a (freeNat s) (draw s)

/-- A read of MRAM (R13): what a core wrote, a save slot, the recorder's pages (R373), or bytes whose layout the spec does not
give. -/
def mramRead (l : Lane) (c : Core) (a : Nat) (s : State) : State :=
  let x := s.lanes.get l
  if mramBarred c a false then busErr l c a false s
  else if 0x20E10000 ≤ a then giveReg l c a 0 s
  else if wordKnown x a then giveReg l c a (memRead32 x.mem a).toNat s
  else if wordTouched x a then giveFree l c a s
  else if 0x20A10000 ≤ a then
    match mget s.recd.pages ((a - 0x20A10000) / 4096) with
    | some g =>
      let b := recPage g
      if x.role != .lagging && decide (a % 4096 + 4 ≤ b.length) then giveReg l c a (wordAt b (a % 4096)) s else giveFree l c a s
    | none => giveFree l c a s
  else if mramOwner a = some .D0 then
    match mget (s.met.lanes.get l).ring ((a - 0x20800000) / 4096) with
    | some g => if a % 4096 < 128 then giveReg l c a (wordAt (slotBytes g) (a % 4096)) s else giveFree l c a s
    | none => giveFree l c a s
  else giveFree l c a s

/-- A byte of a bank that was staged since reset. -/
def bankByte (g : Bank) (o : Nat) : Option Byte :=
  match g.data.find? (fun p => decide (p.1 ≤ o ∧ o < p.1 + p.2.length)) with
  | some p => p.2[o - p.1]?
  | none => none

/-- A read of code flash (R12, R22). -/
def flashRead (l : Lane) (c : Core) (a : Nat) (s : State) : State :=
  if 0x33C00000 ≤ a then giveFree l c a s
  else
    let k := (a - 0x30000000) / 0x1E00000
    let o := (a - 0x30000000) % 0x1E00000
    let g := lget s.fw.banks (laneNo l * 2 + k) Bank.init
    match bankByte g o, bankByte g (o + 1), bankByte g (o + 2), bankByte g (o + 3) with
    | some w, some x, some y, some z => giveReg l c a (w.toNat + 256 * x.toNat + 65536 * y.toNat + 16777216 * z.toNat) s
    | _, _, _, _ => giveFree l c a s

/-- A read in the lane control block (R26, R329). -/
def lcbRead (l : Lane) (c : Core) (off : Nat) (s : State) : State :=
  let a := 0x40000000 + off
  let x := s.lanes.get l
  let t := lget x.latches (coreNo c) TimeLatch.init
  if off = 0 then
    giveReg l c a (roleCode x.role + 16 * coreNo c + 256 * laneNo l + 65536 * Config.silRev + 16777216 * Config.partCode) s
  else if off = 0x100 then latchTime l c s
  else if off = 0x104 then giveReg l c a t.hi.toNat s
  else if off = 0x108 then giveReg l c a t.asnLo.toNat s
  else if off = 0x10C then giveReg l c a t.asnHi.toNat s
  else if off = 0x110 then giveReg l c a t.tstat.toNat s
  else busErr l c a false s

/-- A read of an ICU register (R395, R404). -/
def icuRead (l : Lane) (c : Core) (off : Nat) (s : State) : State :=
  let a := 0x40100000 + off
  if 0x800 ≤ off ∧ off < 0x840 ∧ off % 4 = 0 then pendRead l c ((off - 0x800) / 4) s
  else if 0x1000 ≤ off ∧ off < 0x1700 ∧ off % 256 = 4 then
    let tn := (off - 0x1000) / 256
    if ownsTarget c tn then claimRead l c tn s else busErr l c a true s
  else giveOr l c a (icuReg (s.lanes.get l).icu off) s

/-- A read of DATA at 10h (R420 to R422): it leaves the word in its queue. -/
def sumpPeek (l : Lane) (c : Core) (q : Nat) (s : State) : State :=
  let k := sumpOf (s.lanes.get l) q
  let x := sumpHead (k.words.length + 1) k.words
  match x.1 with
  | none => sumpRead l c q true s
  | some w =>
    sumpPoison l q x.2.2 (emit (.regData l c (sumpAddr q 0x10) (w.data.extractLsb' 0 32))
      (updSump l q (fun k => { k with words := w :: x.2.1 }) s))

/-- A read of a Sump register (R422). -/
def sumpRegRead (l : Lane) (c : Core) (off : Nat) (s : State) : State :=
  let a := 0x40120000 + off
  let q := off / 256
  if q < 22 ∧ (off % 256 = 0x10 ∨ off % 256 = 0x14) then
    if !sumpCoreReads q then busErr l c a false s
    else if off % 256 = 0x10 then sumpPeek l c q s
    else sumpRead l c q false s
  else giveOr l c a (sumpReg (s.lanes.get l) off) s

/-- The core a half of the admission port belongs to (R121). -/
def portCore (a : Nat) : Core := if a < 0x40280800 then .A2 else .A3

/-- Whether an access to the admission port comes from the other policy core. -/
def portBarred (c : Core) (a : Nat) : Bool := isPolicy c && c != portCore a

/-- On-chip SRAM and LPDDR4X (R22): the whole word lies in the region. -/
def inRam (a : Nat) : Bool := decide (0x10000000 ≤ a ∧ a + 3 ≤ 0x103FFFFF) || decide (0x80000000 ≤ a ∧ a + 3 ≤ 0xBFFFFFFF)

/-- A core's read of a word (R22, R23): the state after it with the answer among what left. An address for which no chapter
gives a register, in the upper word of a semaphore too, is a hole of its block and answers with a bus error (DEDUCED, log
entries 13, 60). -/
def regRead (l : Lane) (c : Core) (a : Nat) (s : State) : State :=
  let bad : State := busErr l c a false s
  if isPolicy c && !(policyReaches c a false && (a % 4 == 0 || policyReaches c (a + 3) false)) then busErr l c a true s
  else if inRam a then giveReg l c a (memRead32 (s.lanes.get l).mem a).toNat s
  else if 0x20000000 ≤ a ∧ a + 3 ≤ 0x20FFFFFF then mramRead l c a s
  else if 0x30000000 ≤ a ∧ a + 3 ≤ 0x33FFFFFF then flashRead l c a s
  else if 0x40000000 ≤ a ∧ a < 0x40001000 then lcbRead l c (a - 0x40000000) s
  else if 0x40100000 ≤ a ∧ a < 0x40110000 then icuRead l c (a - 0x40100000) s
  else if 0x40110000 ≤ a ∧ a < 0x40120000 then giveOr l c a (gourReg (s.lanes.get l) (a - 0x40110000)) s
  else if 0x40120000 ≤ a ∧ a < 0x40130000 then sumpRegRead l c (a - 0x40120000) s
  else if 0x40280000 ≤ a ∧ a < 0x40281000 then
    if portBarred c a then busErr l c a true s
    else giveOr l c a (portReg (halfOf l s (portCore a)) ((a - 0x40280000) % 0x800)) s
  else if 0x40480000 ≤ a ∧ a < 0x40500000 then giveOr l c a (trackerReg s (a - 0x40480000)) s
  else if 0x40600000 ≤ a ∧ a < 0x40608000 then
    giveOr l c a (engReg (engOf l s ((a - 0x40600000) / 4096)) (a % 4096)) s
  else if 0x40C00000 ≤ a ∧ a < 0x40C01000 then
    if reachesVault c then giveOr l c a (vaultReg (vaultOf s l) (a % 4096)) s else bad
  else if 0x40D00000 ≤ a ∧ a < 0x40D00200 then
    if a % 8 = 0 then semTake l c ((a - 0x40D00000) / 8) s else bad
  else bad

/-- BUS_ERROR_READ (R22, R23, R121, R227, R404, R416, R422, R278, R352): a core's read; one that no region answers gets a
bus error. -/
def execBusErrorRead (t : Nat) (l : Lane) (c : Core) (addr : Nat) (s : State) : Host.Outcome State Fault Refusal :=
  let s := tick t s
  if 4294967296 ≤ addr then .fault .noSuchAddress
  else done s (regRead l c addr s)

end Sys2Proof.Machine
end

