-- ==== Sys2Proof/Machine/RegWrite.lean ====
section
/-!
DEFINITION. A core's write of a word in the lane-local address map (R10, R22, R23). A write to a register that only reads
is ignored, as are the reserved bits of one that can be written.
-/
namespace Sys2Proof.Machine

/-- One half of a 64-bit register replaced. -/
def put64 (w : Nat) (v : Nat) (b : BitVec 64) : BitVec 64 :=
  BitVec.ofNat 64 (if w = 0 then b.toNat / 4294967296 * 4294967296 + v else b.toNat % 4294967296 + v * 4294967296)

/-- A write of ENABLE (R404): every source of the word takes its bit. -/
def enableWrite (now w v : Nat) (u : Icu) : Icu :=
  enableBits now w (4294967295 - v % 4294967296) false 32 (enableBits now w v true 32 u)

/-- A write of SRC_CFG (R397, R404): TARGET 7 is refused with no effect; a reserved source ignores it. -/
def srcCfgWrite (n v : Nat) (u : Icu) : Icu :=
  let tgt := v / 256 % 8
  if !icuAssigned n || tgt = 7 then u else icuMod n (fun x => { x with target := tgt, prio := v % 16 }) u

/-- A write of an ICU register (R402 to R404); none where the offset is not listed. -/
def icuWriteEff (l : Lane) (off v : Nat) (s : State) : Option State :=
  let now := s.clk.fab
  let set (f : Icu → Icu) : Option State := some (updIcu l f s)
  if off % 4 ≠ 0 then none
  else if off < 0x800 then set (srcCfgWrite (off / 4) v)
  else if off < 0x840 then some s
  else if 0x880 ≤ off ∧ off < 0x8C0 then set (enableWrite now ((off - 0x880) / 4) v)
  else if 0x900 ≤ off ∧ off < 0x940 then set (enableBits now ((off - 0x900) / 4) v true 32)
  else if 0x980 ≤ off ∧ off < 0x9C0 then set (enableBits now ((off - 0x980) / 4) v false 32)
  else if 0xA00 ≤ off ∧ off < 0xA40 then some s
  else if off = 0xA80 then set (icuEdge now (320 + v % 64))
  else if off = 0xC00 ∨ off = 0xC04 then set (fun u => { u with wakeEn := put64 ((off - 0xC00) / 4) v u.wakeEn })
  else if off = 0xC10 ∨ off = 0xC14 then
    set (fun u => { u with wakeLatch := u.wakeLatch &&& ~~~(put64 ((off - 0xC10) / 4) v 0) })
  else if 0x1000 ≤ off ∧ off < 0x1700 then
    let tn := (off - 0x1000) / 256
    let r := off % 256
    if r = 0 then (if tn = 6 then some s else set (modTarget tn (fun x => { x with threshold := v % 16 })))
    else if r = 4 ∨ r = 0xC ∨ r = 0x10 ∨ r = 0x14 then some s
    else if r = 0x18 then
      (if tn = 6 then some s else set (modTarget tn (fun x => { x with resetDrop := x.resetDrop && !bitOf v 0 })))
    else none
  else if 0x2000 ≤ off ∧ off < 0x2800 then some s
  else none

/-- A write of an ICU register by a core (R23, R395). -/
def icuWrite (l : Lane) (c : Core) (off v : Nat) (s : State) : State :=
  let a := 0x40100000 + off
  if 0x1000 ≤ off ∧ off < 0x1700 ∧ (off % 256 = 8 ∨ off % 256 = 4) then
    let tn := (off - 0x1000) / 256
    if !ownsTarget c tn then busErr l c a true s
    else if off % 256 = 8 then completeEff l tn (v % 512) s else s
  else match icuWriteEff l off v s with
    | some s' => s'
    | none => busErr l c a false s

/-- A write of a Gour register (R410, R416): ALARM and PEND_FULL are W1C. -/
def gourWrite (l : Lane) (c : Core) (off v : Nat) (s : State) : State :=
  let a := off / 0x800
  let o := off % 0x800
  match gourReg (s.lanes.get l) off with
  | none => busErr l c (0x40110000 + off) false s
  | some _ =>
    if o = 4 then
      gourAlarmLine l (updArb l a (fun b => { b with alarm := b.alarm && !bitOf v 1, pendFull := b.pendFull && !bitOf v 0 }) s)
    else if o = 8 then updArb l a (fun b => { b with waitAlarm := v % 65536 }) s
    else if 0x100 ≤ o ∧ o % 32 = 0 then refillWrite l c a ((o - 0x100) / 32) v s
    else s

/-- A write of a watchdog limit (R422); beyond its range the limit is a free value. -/
def busWdWrite (l : Lane) (k v : Nat) (s : State) : State :=
  let n := v % 67108864
  if 4000 ≤ n ∧ n ≤ 40000000 then updLane l (fun x => { x with busWd := lset x.busWd k n }) s
  else updLane l (fun x => { x with busWd := lset x.busWd k (freeNat s) }) (draw s)

/-- A write of a Sump register (R418, R419, R422). -/
def sumpRegWrite (l : Lane) (c : Core) (off v : Nat) (s : State) : State :=
  let q := off / 256
  let r := off % 256
  if 0xF000 ≤ off ∧ off < 0xF018 ∧ off % 4 = 0 then busWdWrite l ((off - 0xF000) / 4) v s
  else if q < 22 ∧ r = 0x1C then wdataWrite l c q (BitVec.ofNat 32 v) s
  else if q < 22 ∧ (r = 0x10 ∨ r = 0x14) ∧ sumpCoreReads q then s
  else match sumpReg (s.lanes.get l) off with
    | none => busErr l c (0x40120000 + off) false s
    | some _ =>
      if r = 0xC ∧ bitOf v 0 then flushAt l q s
      else if r = 0x18 then updSump l q (fun k => { k with low := BitVec.ofNat 32 v }) s
      else s

/-- Replace the four bytes at an offset of ARG. -/
def argPut (h : PortHalf) (off v : Nat) : PortHalf := { h with arg := h.arg.take off ++ le 4 v ++ h.arg.drop (off + 4) }

/-- A write of a half of the admission port (R121). -/
def portWrite (l : Lane) (c : Core) (off v : Nat) (s : State) : State :=
  let set (f : PortHalf → PortHalf) : State := updHalf l c f s
  if off < 0x400 then set (fun h => argPut h off v)
  else if off = 0x400 then set (fun h => { h with dclass := v / 16777216 % 8, obj := v % 1048576 })
  else if off = 0x404 then set (fun h => { h with deadline := v })
  else if off = 0x408 then set (fun h => { h with len := v % 2048 })
  else if off = 0x40C then if bitOf v 0 then submit l c .port s else s
  else if off = 0x410 then set (fun h => { h with done := h.done && !bitOf v 8 })
  else if off = 0x420 then set (fun h => { h with ready := h.ready && !bitOf v 16 })
  else if off = 0x424 then set (fun h => { h with compBuf := v })
  else if off = 0x428 then if bitOf v 0 then compPop l c s else s
  else s

/-- A write of CTRL (R278): OWN while STATE is 00b or 11b, STOP, START. -/
def engCtrl (l : Lane) (e v : Nat) (s : State) : State :=
  let x := engOf l s e
  let own := if engRuns x then x.own else BitVec.ofNat 4 (v / 256)
  let s := updEng l e (fun x => { x with own := own }) s
  let s := if bitOf v 1 then engStop l e s else s
  if bitOf v 0 then engStart l e own s else s

/-- A write of a Flowstone engine's register (R278). -/
def engRegWrite (l : Lane) (c : Core) (a v : Nat) (s : State) : State :=
  let e := (a - 0x40600000) / 4096
  let off := a % 4096
  match engReg (engOf l s e) off with
  | none => busErr l c a false s
  | some _ =>
    engWrite l c a (fun s =>
      if off = 0 then engCtrl l e v s
      else if off = 0x1C then engTrig l e v s
      else if 0x100 ≤ off then
        if (engOf l s e).state = 0 then
          updEng l e (fun x => { x with prog := lset x.prog ((off - 0x100) / 4) (BitVec.ofNat 32 v) }) s
        else busErr l c a false s
      else s) s

/-- A write of a mailbox register (R352). An operation code that R353 does not list starts nothing. -/
def vaultWrite (l : Lane) (c : Core) (off v : Nat) (s : State) : State :=
  if off = 0 then
    let op := v / 256 % 256
    let s := updVault l (fun x => { x with op := op }) s
    if bitOf v 0 then
      match vaultOpOf op with
      | some o => vaultGo l c o s
      | none => updVault l (fun x => if x.busy.isSome then { x with ignored := x.ignored + 1 } else x) s
    else s
  else if off = 4 then updVault l (fun x => { x with err := x.err && !bitOf v 1 }) s
  else if off = 8 then updVault l (fun x => { x with handle := v % 65536 }) s
  else if off = 0xC then updVault l (fun x => { x with inLen := v % 4096 }) s
  else if 0x800 ≤ off then updVault l (fun x => { x with data := mset x.data ((off - 0x800) / 4) (BitVec.ofNat 32 v) }) s
  else s

/-- A core's write of a word (R10, R13, R22, R23). Code flash is read-only: a write there answers with a bus error, as does
one to an address for which no chapter gives a register, the upper word of a semaphore among them (log entries 13, 60). -/
def regWrite (l : Lane) (c : Core) (a : Nat) (w : Word32) (s : State) : State :=
  let v := w.toNat
  let bad : State := busErr l c a false s
  if isPolicy c && !(policyReaches c a true && (a % 4 == 0 || policyReaches c (a + 3) true)) then busErr l c a true s
  else if inRam a then updLane l (fun x => { x with mem := memWrite32 x.mem a w }) s
  else if 0x20000000 ≤ a ∧ a + 3 ≤ 0x20FFFFFF then
    if mramBarred c a true then bad
    else if 0x20E10000 ≤ a then s
    else updLane l (fun x => { x with mem := memWrite32 x.mem a w, wrote := insertNat a x.wrote }) s
  else if 0x40000000 ≤ a ∧ a < 0x40001000 then
    if a = 0x40000000 ∨ (0x40000100 ≤ a ∧ a ≤ 0x40000110 ∧ a % 4 = 0) then s else bad
  else if 0x40100000 ≤ a ∧ a < 0x40110000 then icuWrite l c (a - 0x40100000) v s
  else if 0x40110000 ≤ a ∧ a < 0x40120000 then gourWrite l c (a - 0x40110000) v s
  else if 0x40120000 ≤ a ∧ a < 0x40130000 then sumpRegWrite l c (a - 0x40120000) v s
  else if 0x40280000 ≤ a ∧ a < 0x40281000 then
    if portBarred c a then busErr l c a true s
    else match portReg (halfOf l s (portCore a)) ((a - 0x40280000) % 0x800) with
      | none => bad
      | some _ => portWrite l (portCore a) ((a - 0x40280000) % 0x800) v s
  else if 0x40480000 ≤ a ∧ a < 0x40500000 then
    match trackerReg s (a - 0x40480000) with
    | none => bad
    | some _ => s
  else if 0x40600000 ≤ a ∧ a < 0x40608000 then engRegWrite l c a v s
  else if 0x40C00000 ≤ a ∧ a < 0x40C01000 then
    match vaultReg (vaultOf s l) (a % 4096) with
    | none => bad
    | some _ => if reachesVault c then vaultWrite l c (a % 4096) v s else bad
  else if 0x40D00000 ≤ a ∧ a < 0x40D00200 then
    if a % 8 ≠ 0 then bad
    else if v = 0 then semFree l c ((a - 0x40D00000) / 8) s else s
  else bad

/-- Whether an address holds a plain value, which a write replaces: there the last write of a FAB cycle wins (R24). -/
def holdsValue (a : Nat) : Bool :=
  let icu := a - 0x40100000
  let arb := (a - 0x40110000) % 0x800
  inRam a || (decide (0x40100000 ≤ a ∧ a < 0x40110000) &&
      (decide (icu < 0x800) || decide (0x880 ≤ icu ∧ icu < 0x8C0) || icu == 0xC00 || icu == 0xC04
        || (decide (0x1000 ≤ icu ∧ icu < 0x1700) && icu % 256 == 0)))
    || (decide (0x40110000 ≤ a ∧ a < 0x40120000) && (arb == 8 || (decide (0x100 ≤ arb) && arb % 32 == 0)))
    || decide (0x4012F000 ≤ a ∧ a < 0x4012F018)

/-- The core with a number (R26). -/
def coreOfNo (n : Nat) : Core :=
  if n = 0 then .A0 else if n = 1 then .A1 else if n = 2 then .A2 else if n = 3 then .A3 else if n = 4 then .M0 else .D0

/-- A core's write in the order of R24: writes of one FAB cycle to one register are carried out in the order A0, A1, A2, A3,
M0, D0, in whatever order they stand in the queue, so those of later cores stand over this one. -/
def coreWrite (l : Lane) (c : Core) (a : Nat) (w : Word32) (s : State) : State :=
  let same := (s.lanes.get l).writes.filter (fun p => p.1 == s.clk.fab)
  let again (n : Nat) (s : State) : State :=
    match same.find? (fun p => p.2.1 == n && p.2.2.1 == a) with
    | some p => if coreNo c < n then regWrite l (coreOfNo n) a p.2.2.2 s else s
    | none => s
  let s := regWrite l c a w s
  if holdsValue a then
    let s := again 5 (again 4 (again 3 (again 2 (again 1 s))))
    if isPolicy c && !policyReaches c a true then s
    else updLane l (fun x => { x with writes := (s.clk.fab, coreNo c, a, w) :: same }) s
  else s

/-- REGISTER_WRITE (R10, R13, R22, R23, R24, R121, R278, R352, R404, R416, R422): performed, ignored, or a bus error. -/
def execRegisterWrite (t : Nat) (l : Lane) (c : Core) (addr : Nat) (value : Word32) (s : State) :
    Host.Outcome State Fault Refusal :=
  let s := tick t s
  if 4294967296 ≤ addr then .fault .noSuchAddress
  else done s (coreWrite l c addr value s)

end Sys2Proof.Machine
end

