-- ==== Sys2Proof/Machine/SelfTest.lean ====
section
/-!
DEFINITION. The pin and interconnect self-test (chapter 17): which item is next, what a slice finds, what follows from it.
-/
namespace Sys2Proof.Machine

/-- Change the self-test's state. -/
def updTest (f : SelfTest → SelfTest) (s : State) : State := { s with test := f s.test }

/-- The class of an item (R427). -/
def rowClass (r : Nat) : Nat :=
  if r < 4 then 0 else if r < 10 then 1 else if r < 14 then 2 else if r < 15 then 3 else if r < 19 then 4
  else if r < 21 then 5 else if r < 37 then 6 else 7

/-- The lane whose item it is (R427, R430); none for the shared front-ends and the bridge. -/
def itemLane (r : Nat) : Option Lane :=
  if r = 15 ∨ r = 16 ∨ (21 ≤ r ∧ r < 29) then some .A
  else if r = 17 ∨ r = 18 ∨ (29 ≤ r ∧ r < 37) then some .B
  else none

/-- Whether a lane runs slices (R430): it is active or in sync. -/
def laneSlices (s : State) (l : Lane) : Bool :=
  let x := s.lanes.get l
  x.running && (x.role == .active || x.role == .standby)

/-- Whether an item takes slices now (R430): not those of a lane that runs none. -/
def rowRuns (s : State) (r : Nat) : Bool := match itemLane r with | some l => laneSlices s l | none => true

/-- Whether a transceiver is inside a run at a position (R428): its turnaround is not free. -/
def insideRun (s : State) (x a : Nat) : Bool :=
  decide (a + 1 < (xOf s x).busy) || roleAt s x (a + 1) == .interior
    || s.adm.bookings.any (fun b => b.xcvr == x && decide (b.asn ≤ a ∧ a + 1 < b.asn + b.len))

/-- Whether the slice of an item may start at a position (R428): an ANTENNA slice waits for a free turnaround; of a
transceiver in air mode Q1 it lies in the position after the tick. -/
def sliceFree (s : State) (r a : Nat) : Bool :=
  if r < 37 then true
  else
    let x := r - 37
    if isQ s x then a % 2 == 1 && !insideRun s x (a - 1) else !insideRun s x a

/-- The next item (R428, R436): a retest, a requested slice, the sweep's next row, or the rotation's. -/
def nextItem (s : State) : Option (Nat × Bool) :=
  let t := s.test
  match t.retests with
  | r :: _ => some (r, true)
  | [] =>
    match t.requests with
    | r :: _ => some (r, false)
    | [] =>
      match t.sweep with
      | some w => (w.rows.find? (rowRuns s)).map (fun r => (r, false))
      | none =>
        if getB s 0xC0100 then
          (((List.range 41).map (fun i => (t.next + i) % 41)).find?
            (fun r => bitOf (getN s 0xC0101) (rowClass r) && rowRuns s r)).map (fun r => (r, false))
        else none

/-- The item leaves the list it came from (R428, R436). -/
def takeItem (r : Nat) (retest : Bool) (t : SelfTest) : SelfTest :=
  if retest then { t with retests := t.retests.filter (· != r) }
  else if t.requests.contains r then { t with requests := t.requests.filter (· != r) }
  else match t.sweep with
    | some w => { t with sweep := some { w with rows := (w.rows.dropWhile (· != r)).drop 1 } }
    | none => { t with next := (r + 1) % 41 }

/-- Whether a tick falls here (R428, R436): in a sweep every position, otherwise every 50th, which an ANTENNA slice that
waits holds for up to 7 positions more. -/
def tickDue (s : State) (r : Nat) : Bool :=
  let a := asn s
  if s.test.sweep.isSome then s.test.lastAsn != some a
  else s.test.lastTick != a / 50 + 1 && (a % 50 == 0 || (decide (37 ≤ r ∧ a % 50 ≤ 8)))

/-- A port is live (R432): state 2 or more of R90. -/
def portLive (s : State) (r : Nat) : Bool := decide (2 ≤ (portOf s ((r + 1) % 2)).state)

/-- What a slice charges, and whether it records SKIPPED without a test (R432): a PCS item of the active lane on a live
port, an ANTENNA tone that the gate refuses. -/
def sliceCharge (r : Nat) (s : State) : State × Bool :=
  if 15 ≤ r ∧ r < 19 then (s, active s == itemLane r && portLive s r)
  else if 37 ≤ r then
    let x := r - 37
    match chanBcast s x (asn s) with
    | none => (s, true)
    | some ch =>
      if gateRoom s x ch (frame s) 40 then (gateUse x ch (frame s) 40 s, false) else (gateRefused x s, true)
  else (s, false)

/-- A string goes into the copy and is driven by the slice: 10 mA with every position lit, or off with every switch closed. -/
def sliceString (on : Bool) (k : Nat) (s : State) : State :=
  let s := updTest (fun t => { t with saved := mset t.saved k (stringDrive s k) }) s
  driveString k (if on then (mAcode 10, List.replicate 24 (0, 25000)) else (0, List.replicate 24 (0, 0))) s

/-- What a slice drives on the strings (R273, R432): a dark string with populated positions; of a cross pair, string A closed and
string B lit. -/
def sliceDrive (r : Nat) (s : State) : State :=
  let c := rowClass r
  if !ledUp s then s
  else if c = 0 then (if (strOf s r).code = 0 ∧ (List.range 24).any (posOk s r) = true then sliceString true r s else s)
  else if c = 1 then sliceString true ((r - 4) / 2 + 1) (sliceString false ((r - 4) / 2) s)
  else s

/-- SLICE_TICK (R428 to R431): 4,600 µs into the position the next item's slice starts. -/
def execSliceTick (t : Nat) (s : State) : Host.Outcome State Fault Refusal :=
  let s := tick t s
  if (active s).isNone || s.test.slice.isSome || s.test.stopped || s.test.barred || s.power.warning
      || decide (slotAt s.clk s.clk.fab % Config.slotCycles < 1840000)
      || decide (1872000 < slotAt s.clk s.clk.fab % Config.slotCycles) then done s s
  else match nextItem s with
    | none => done s s
    | some (r, retest) =>
      if tickDue s r && sliceFree s r (asn s) then
        let (s1, skip) := sliceCharge r s
        done s (cntUp 0xC0011 (updTest (fun t =>
          { takeItem r retest t with
            slice := some { row := r, retest, started := s.clk.fab, skip }, lastAsn := some (asn s)
            lastTick := if s.test.sweep.isSome then t.lastTick else asn s / 50 + 1 }) (if skip then s1 else sliceDrive r s1)))
      else done s s

/-- Whether a voltage of a position stands above 1.5 V with its switch closed (R432). -/
def stuckOpen (o : SliceObs) (p : Nat) : Bool := decide (1500 < cN o.closed p)
/-- OPEN of a dark string's position (R432): above 14 V. -/
def darkOpen (o : SliceObs) (p : Nat) : Bool := decide (14000 < cN o.volts p)
/-- SHORT of a dark string's position (R432): below 1.5 V while open. -/
def darkShort (o : SliceObs) (p : Nat) : Bool := decide (cN o.volts p < 1500)

/-- The positions of a string that a LED slice tests. -/
def ledTested (s : State) (k : Nat) : List Nat := (List.range 24).filter (posOk s k)

/-- Whether a string was dark when its slice began: the copy holds its code. -/
def sliceDark (s : State) (k : Nat) : Bool :=
  (match mget s.test.saved k with | some d => d.1 | none => (strOf s k).code) == 0

/-- What a slice finds (R432): 1 PASS, 2 WARN, 3 FAIL. -/
def sliceResult (s : State) (r : Nat) (o : SliceObs) : Nat :=
  let m := o.measured
  let c := rowClass r
  let pass (ok : Bool) : Nat := if ok then 1 else 3
  if c = 0 then
    let bad (p : Nat) : Bool := stuckOpen o p || (sliceDark s r && (darkOpen o p || darkShort o p))
    pass (!(ledTested s r).any bad)
  else if c = 1 then pass (decide (m ≤ 2000))
  else if c = 2 then
    if (outOf s (r - 10)).pin then pass (decide (5 ≤ m ∧ m ≤ 1500)) else pass (decide (1 ≤ m ∧ m ≤ 400))
  else if c = 3 ∨ c = 4 then pass o.seen
  else if c = 5 then if !o.seen || 16 < o.errors then 3 else if o.errors = 0 then 1 else 2
  else if c = 6 then if !o.seen || 300 < m.natAbs then 3 else if m.natAbs ≤ 100 then 1 else 2
  else if (getN s 0xC0102 : Int) * 100 ≤ m then 1 else if 100 ≤ m then 2 else 3

/-- The positions a LED slice that fails marks (R272, R432). -/
def markSlice (k : Nat) (o : SliceObs) (s : State) : State :=
  let dark := sliceDark s k
  (ledTested s k).foldl (fun s p =>
    if stuckOpen o p ∨ (dark ∧ darkOpen o p) then markPos true k p s
    else if dark ∧ darkShort o p then markPos false k p s
    else s) s

/-- The effects of a FAIL that stands (R434). -/
def failEffect (r : Nat) (o : SliceObs) (s : State) : State :=
  let c := rowClass r
  if c = 0 then markSlice r o s
  else if c = 1 then markCross (r - 4) s
  else if c = 5 then bridgeFails (if r = 19 then 0 else 1) s
  else if c = 6 then (match itemLane r with | some l => unitReport l 2 2 s | none => s)
  else s

/-- A bridge link that a slice has passed works again (R434). -/
def passEffect (r : Nat) (s : State) : State :=
  if r = 19 ∧ !s.lp.links.a then bridgeWorks 0 s else if r = 20 ∧ !s.lp.links.b then bridgeWorks 1 s else s

/-- The lane byte of a SELFTEST record (R435). -/
def itemLaneByte (r : Nat) : Nat := match itemLane r with | some l => laneNo l | none => 255

/-- The limits of an item's PASS (R432), in the unit of its test, where the spec gives them. -/
def limitsOf (s : State) (r : Nat) : Option Int × Option Int :=
  let c := rowClass r
  if c = 0 then (if sliceDark s r then (some 1500, some 14000) else (none, some 1500))
  else if c = 1 then (none, some 2000)
  else if c = 2 then (if (outOf s (r - 10)).pin then (some 5, some 1500) else (some 1, some 400))
  else if c = 6 then (some (-100), some 100)
  else if c = 7 then (some (getN s 0xC0102 * 100 : Nat), none)
  else (none, none)

/-- The SELFTEST record of a changed result (R435); a limit that R432 does not give, and the severity of SKIPPED, are free values. -/
def selfTestRec (r res : Nat) (m : Int) (s : State) : State :=
  let sev := if res = 3 then 5 else if res = 2 then 3 else if res = 1 then 2 else freeNat s % 8
  let limit (x : Option Int) (o : Nat) : Bytes := match x with | some v => beI 4 v | none => fit 4 ((freeBytes s).drop o)
  let l := limitsOf s r
  draw (record 0xC010 sev r
    (be 1 (rowClass r) ++ be 1 res ++ be 1 (itemLaneByte r) ++ be 1 0 ++ beI 4 m ++ limit l.1 0 ++ limit l.2 4) s)

/-- A C bit of R435 holds while any item of its class reads FAIL. -/
def classBit (c row : Nat) (s : State) : State :=
  condSet (192 + c) row ((List.range 41).any (fun r => rowClass r == c && getC s 0xC0020 r 0 == 3)) s

/-- A result enters ST_RESULTS (R434, R435, R437). -/
def stResult (r res : Nat) (m : Int) (transient : Bool) (s : State) : State :=
  let row := getRow s 0xC0020 r
  let s1 := putRow 0xC0020 r [vN res, .num m, vN (time64 s), v32 (rNat row 3 + b2n transient),
    v32 (rNat row 4 + b2n (decide (res = 3)))] s
  let s1 := if res = 4 then cntUp 0xC0012 s1 else s1
  let s1 := classBit (rowClass r) r s1
  let s1 := if rNat row 0 = res then s1 else selfTestRec r res m s1
  updTest (fun t => { t with sweep := t.sweep.map (fun w => { w with counts := lmod w.counts (res - 1) (· + 1) }) }) s1

/-- CROSS_SUSPECT ends when no requested slice of a pair remains (R273). -/
def suspectSync (s : State) : State :=
  if (s.test.requests ++ s.test.retests).any (fun r => rowClass r == 1) then s
  else updLed (fun d => { d with crossSuspect := false }) s

/-- What a row shows as measured when its slice is SKIPPED: a free value (R437 gives none). -/
def noMeasure (s : State) : Int := (BitVec.ofNat 32 (freeNat s)).toInt

/-- A slice's finding (R434): a first FAIL is retested; one that stands has its effect. -/
def sliceFound (x : Slice) (o : SliceObs) (s : State) : State :=
  let res := if x.skip then 4 else sliceResult s x.row o
  let m : Int := if x.skip then noMeasure s else o.measured
  let s := if x.skip then draw s else s
  if res = 3 ∧ !x.retest then updTest (fun t => { t with retests := t.retests ++ [x.row] }) s
  else
    let s := stResult x.row res m (x.retest && (res == 1 || res == 2)) s
    let s := if res = 3 then failEffect x.row o s else if res = 1 then passEffect x.row s else s
    suspectSync s

/-- The pins get back what the copy holds (R431), and the real edges of the slice reach the ICU (R433). -/
def sliceReturn (s : State) : State :=
  let t := s.test
  let s := updTest (fun t => { t with slice := none, copy := [], edges := [], saved := [] }) s
  let cut (k : Nat) : Bool := !ledUp s || (strOf s k).hwCut || (strOf s k).fault
  let s := t.saved.foldl (fun s p => driveString p.1 (if cut p.1 then 0 else p.2.1, p.2.2) s) s
  let s := t.copy.foldl (fun s p => switchPin p.1 p.2 s) s
  t.edges.foldl (fun s p => if s.io.inputs.getLsbD p.1 = p.2 then s else diEdge p.1 p.2 s) s

/-- Whether a real edge came during the slice (R433). -/
def realEdge (s : State) : Bool := s.test.edges.any (fun p => s.io.inputs.getLsbD p.1 != p.2)

/-- SLICE_RESTORE (R431 to R435): at most 80 µs after the start; a readback that differs twice stops all slices. -/
def execSliceRestore (t : Nat) (obs : SliceObs) (readback1 readback2 : Bool) (s : State) :
    Host.Outcome State Fault Refusal :=
  let s := tick t s
  match s.test.slice with
  | none => done s s
  | some x =>
    let s1 := sliceReturn (sliceFound { x with skip := x.skip || realEdge s } obs s)
    if readback1 || readback2 then done s s1
    else done s (recordOpen 6 (stickySet 200 x.row
      (updTest (fun t => { t with stopped := true, sweepState := 3 }) s1)))

/-- A power-fail warning aborts the slice (R431): SKIPPED, and no further slice before restart. -/
def sliceAbort (s : State) : State :=
  let s := updTest (fun t => { t with barred := true }) s
  match s.test.slice with
  | none => s
  | some x => stResult x.row 4 (noMeasure s) false (draw (sliceReturn s))

/-- ST_SWEEP (R436): RANGE while a sweep runs. -/
def execStSweep (t : Nat) (h : Hdr) (args : List TVal) (s : State) : Host.Outcome State Fault Refusal :=
  let s := tick t s
  done s (execCmd 0xC0300 [.bits 0xFF] h args (fun _ _ s =>
    if s.test.sweep.isSome then refuse (rRange 0xC0300 0) s
    else
      let mask := argN args 0
      okEmpty (updTest (fun t => { t with
        sweep := some { mask, rows := (List.range 41).filter (fun r => bitOf mask (rowClass r)), counts := [0, 0, 0, 0] }
        sweepState := if t.stopped then 3 else 1 }) s)) s)

/-- SWEEP_END (R436): nothing of the sweep is left to run. -/
def execSweepEnd (t : Nat) (s : State) : Host.Outcome State Fault Refusal :=
  let s := tick t s
  match s.test.sweep with
  | none => done s s
  | some w =>
    if w.rows.any (rowRuns s) || !s.test.retests.isEmpty || s.test.slice.isSome || s.test.stopped then done s s
    else
      let s1 := cntUp 0xC0013 (updTest (fun t => { t with sweep := none, sweepState := 2 }) s)
      done s (record 0xC011 2 0 (be 4 w.mask ++ (w.counts.map (be 2)).flatten) (icuRaise 136 s1))

/-- ST_ENABLE is written (R431): the slices that a failed restore stopped run again. -/
def testEnabled (s : State) : State :=
  if s.test.stopped then
    updTest (fun t => { t with stopped := false, sweepState := if t.sweep.isSome then 1 else 0 }) s
  else s

end Sys2Proof.Machine
end

