-- ==== Sys2Proof/Machine/Tracker.lean ====
section
/-!
DEFINITION. The meanings of the tracker's commands (chapter 7, R197 to R221): presence events, the life of a track,
hand-offs and boundary lists.
-/
namespace Sys2Proof.Machine

/-- The class, heading and speed fields of a presence event (R200). -/
def evClass (p : Presence) : Nat := p.data / 64 % 4
def evHeading (p : Presence) : Nat := p.data / 16 % 4
def evSpeed (p : Presence) : Nat := p.data % 16 * 200

/-- Where a candidate would take an event at a vertex (R204): the distance from its last vertex, the turns on the way, the
arriving edge there. -/
def meets (s : State) (k : Track) (v cls : Nat) : Option (Nat × List (Nat × Nat × Nat) × Nat) :=
  let onBranch (b : List Hop) : Option (Nat × List (Nat × Nat × Nat) × Nat) :=
    match b.findIdx? (fun h => h.node == v) with
    | none => none
    | some i => (b[i]?).map (fun h => (h.dist, (((b.take (i + 1)).map (fun g => g.via)).flatten), h.arr))
  if v = k.vertex then some (0, [], k.arrived.getD 255)
  else match k.branches.findSome? onBranch with
    | some r => some r
    | none =>
      match (wayEdges s (if k.cls = 3 then cls else k.cls) k.vertex).find? (fun e => e.2.1 == v) with
      | some e => some (e.2.2.1, [(k.vertex, k.arrived.getD 255, e.1)], backEdge s k.vertex e)
      | none => none

/-- The error of a candidate for an event, where the event lies inside its gate (R204): the larger of 2 s and 0.4 of the
predicted travel time; a TENTATIVE track with no heading needs an implied speed of 0.5 to 40 m/s. -/
def candidate (s : State) (p : Presence) (k : Track) : Option Nat :=
  if !isLive k || !(k.cls == evClass p || k.cls == 3 || evClass p == 3) then none
  else match meets s k p.vertex (evClass p) with
    | none => none
    | some (d, _, _) =>
      let tr := travel s k d
      let pred := k.lastAt + tr
      let err := max p.at_ pred - min p.at_ pred
      let dt := p.at_ - k.lastAt
      let cms := d * 10 * Config.secCycles / max 1 dt
      if k.state = .tentative ∧ k.heading = none ∧ k.arrived = none ∧ !(decide (0 < dt ∧ 50 ≤ cms ∧ cms ≤ 4000)) then none
      else if err ≤ max (2 * Config.secCycles) (tr * 2 / 5) then some err
      else none

/-- The candidate that takes an event (R204): the smallest error, the lower track number on a tie. -/
def taker (s : State) (p : Presence) : Option Nat :=
  (s.trk.tracks.foldl (fun b q =>
    match candidate s p q.2 with
    | none => b
    | some e =>
      match b with
      | none => some (q.1, e)
      | some y => if e < y.2 then some (q.1, e) else b) (none : Option (Nat × Nat))).map (fun y => y.1)

/-- The class that most events of a track have reported; a tie keeps the earlier class (R205). -/
def voteClass (votes : List Nat) (cls : Nat) : Nat :=
  (List.range 4).foldl (fun b c => if cN votes b < cN votes c then c else b) cls

/-- The time that the last frame gave for a lantern (R209). -/
def frameGave (k : Track) (v : Nat) : Option Nat :=
  k.frames.findSome? (fun f => (f.entries.find? (fun e => e.1 == v)).map (fun e =>
    f.eta0 + (if f.speed = 0 then 0 else travelAt f.speed e.2)))

/-- A passage for the history (R220). -/
def passage (v cls : Nat) (s : State) : State := updTrk (fun t => { t with passages := mupd t.passages (v * 4 + cls) 0 (· + 1) }) s

/-- A turn is counted (R221). -/
def countTurn (cls : Nat) (s : State) (x : Nat × Nat × Nat) : State :=
  if x.2.1 = 255 then s
  else updTrk (fun t => { t with turnsNow := mupd t.turnsNow (x.1 * 64 + cls * 16 + x.2.1 * 4 + x.2.2) 0 (· + 1) }) s

/-- The speed after an event (R205). -/
def newSpeed (k : Track) (p : Presence) (d : Nat) : Nat × Bool :=
  if p.kind = 3 then (0, false)
  else if d = 0 ∨ p.at_ ≤ k.lastAt then (k.speed, k.measured)
  else
    let m := min 65535 (d * 10 * Config.secCycles / (p.at_ - k.lastAt))
    (if k.measured then (k.speed + m) / 2 else m, true)

/-- Whether a track that took an event issues a new frame (R209): `k` as it was, `speed` as it is. -/
def mustIssue (s : State) (k : Track) (p : Presence) (speed : Nat) : Bool :=
  if speed = 0 then k.speed != 0
  else if k.state != .confirmed then true
  else
    let late := match frameGave k p.vertex with
      | none => true
      | some g => decide (getN s 0x70133 * Config.msCycles < max p.at_ g - min p.at_ g)
    let fs := match k.frames with | f :: _ => f.speed | [] => 0
    late || decide (getN s 0x70134 * fs < (max speed fs - min speed fs) * 100)

/-- After an event or a hand-in: a merge, else a frame where R209 asks for one; then a hand-off. -/
def settleTrack (n : Nat) (send : Bool) (s : State) : State :=
  match mergeTrack n s with
  | (s, some _) => s
  | (s, none) => tryHandoff n (if send then issue n s else s)

/-- A track takes an event (R205, R221). -/
def takeEvent (n : Nat) (p : Presence) (s : State) : State :=
  let k := trackOf s n
  let (d, via, arr) := (meets s k p.vertex (evClass p)).getD (0, [], 255)
  let (speed, measured) := newSpeed k p d
  let votes := lmod k.votes (evClass p) (· + 1)
  let cls := voteClass votes k.cls
  let moved := p.vertex != k.vertex
  let s := updTrack n (fun k => { k with
    state := .confirmed, cls := cls, votes := votes, vertex := p.vertex, speed := speed, measured := measured
    arrived := if moved then (if arr = 255 then none else some arr) else k.arrived
    heading := if moved then none else k.heading, lastAt := p.at_, lastTime := timeOf s p.at_, lastAsn := asnOf s p.at_
    events := min 65535 (k.events + 1) }) s
  let s := updTrack n (rebuilt s) s
  let s := via.foldl (countTurn cls) s
  let s := if p.kind = 1 then passage p.vertex (evClass p) s else s
  settleTrack n (mustIssue s k p speed) s

/-- The heading of a new track from the sensor (R205): A is the edge SENSOR_A, B the other edge of a two-edge lantern. -/
def sensorHeading (s : State) (p : Presence) : Option Nat :=
  let a := getC s 0x70100 p.vertex 2
  let es := edgesOf s p.vertex
  if a = 255 then none
  else if evHeading p = 1 then some a
  else if evHeading p = 2 ∧ es.length = 2 then (es.find? (fun e => e.1 != a)).map (fun e => e.1)
  else none

/-- An event starts a new TENTATIVE track (R204, R205), which issues where its heading is known or it has branches (R209). -/
def startTrack (p : Presence) (s : State) : State :=
  match newRow s with
  | none => cntUp 0x7001C (if p.kind = 1 then passage p.vertex (evClass p) s else s)
  | some n =>
    let cls := evClass p
    let speed := if p.kind = 3 then 0 else if evSpeed p = 0 then defaultSpeed s p.vertex cls else evSpeed p
    let s := updTrack n (fun k => { Track.init with
      state := .tentative, cls := cls, votes := lset [0, 0, 0, 0] cls 1, vertex := p.vertex
      heading := sensorHeading s p, speed := speed, lastAt := p.at_, lastTime := timeOf s p.at_
      lastAsn := asnOf s p.at_, events := 1, tseq := k.tseq, version := k.version }) s
    let s := updTrack n (rebuilt s) s
    let s := if p.kind = 1 then passage p.vertex cls s else s
    settleTrack n (speed == 0 || (sensorHeading s p).isSome || !(wayEdges s cls p.vertex).isEmpty) s

/-- PRESENCE_EVENT_INGEST (R201, R202, R204): the oldest event of the ingest queue. -/
def execPresenceEventIngest (t : Nat) (s : State) : Host.Outcome State Fault Refusal :=
  let s := tick t s
  match s.trk.ingest with
  | [] => done s s
  | p :: r =>
    let s1 := updTrk (fun t => { t with ingest := r, secEvents := t.secEvents + 1 }) s
    if getC s1 0x70100 p.vertex 0 ≠ 1 ∨ 8192 ≤ p.vertex then done s (cntUp 0x70013 s1)
    else if p.kind = 15 then
      let s2 := if p.at_ + getN s1 0x70132 * Config.msCycles < p.arrived then cntUp 0x70013 s1 else s1
      done s (record 0x7010 3 p.vertex (be 1 5 ++ be 1 p.data ++ be 6 0) s2)
    else if p.kind = 1 ∨ p.kind = 2 ∨ p.kind = 3 then
      let s2 := if p.kind = 3 then s1
        else updTrk (fun t => { t with nowCount := mupd t.nowCount (p.vertex * 4 + evClass p) 0 (· + 1) }) s1
      if p.kind = 2 then done s s2
      else if p.at_ + getN s2 0x70132 * Config.msCycles < p.arrived then
        done s (cntUp 0x70013 (if p.kind = 1 then passage p.vertex (evClass p) s2 else s2))
      else if !getB s2 0x70135 then done s (if p.kind = 1 then passage p.vertex (evClass p) s2 else s2)
      else
        done s (trkBatch s2 (match taker s2 p with
          | some n => takeEvent n p s2
          | none => startTrack p s2))
    else done s s1

/-- TENTATIVE_TIMEOUT (R203): 10 s with no second event. -/
def execTentativeTimeout (t track : Nat) (s : State) : Host.Outcome State Fault Refusal :=
  let s := tick t s
  let k := trackOf s track
  done s (if k.state = .tentative ∧ k.lastAt + 10 * Config.secCycles ≤ s.clk.fab then trkBatch s (endTrack track s) else s)

/-- The lanterns ahead on branch 0 whose predicted time has passed by the gate (R203). -/
def missedOf (s : State) (k : Track) : Nat :=
  (((k.branches.headD []).filter (fun h => h.node != k.vertex)).filter (fun h =>
    let tr := travel s k h.dist
    decide (k.lastAt + tr + max (2 * Config.secCycles) (tr * 2 / 5) < s.clk.fab))).length

/-- COAST_START (R203). -/
def execCoastStart (t track : Nat) (s : State) : Host.Outcome State Fault Refusal :=
  let s := tick t s
  let k := trackOf s track
  done s (if k.state = .confirmed ∧ 1 ≤ missedOf s k then
      trkBatch s (updTrack track (fun k => { k with state := .coasting }) s)
    else s)

/-- COAST_LIMIT_EXPIRY (R203). -/
def execCoastLimitExpiry (t track : Nat) (s : State) : Host.Outcome State Fault Refusal :=
  let s := tick t s
  let k := trackOf s track
  done s (if k.state = .coasting ∧
      (k.lastAt + getN s 0x70131 * Config.secCycles ≤ s.clk.fab ∨ 3 ≤ missedOf s k) then trkBatch s (endTrack track s)
    else s)

/-- HANDED_END (R203): 5 s after the predicted time at the boundary. -/
def execHandedEnd (t track : Nat) (s : State) : Host.Outcome State Fault Refusal :=
  let s := tick t s
  let k := trackOf s track
  let d := match k.boundary with | some p => p.2 | none => 0
  done s (if k.state = .handed ∧ k.lastAt + travel s k d + 5 * Config.secCycles ≤ s.clk.fab then trkBatch s (endTrack track s)
    else s)

/-- ENDED_RELEASE (R203): after 120 s the row is FREE; its TSEQ stays. -/
def execEndedRelease (t track : Nat) (s : State) : Host.Outcome State Fault Refusal :=
  let s := tick t s
  let k := trackOf s track
  done s (if k.state = .ended ∧ k.endedAt + 120 * Config.secCycles ≤ s.clk.fab then
      trkBatch s (updTrack track (fun k => { Track.init with tseq := k.tseq, version := k.version }) s)
    else s)

/-- MIDPOINT_REFRESH (R209): the midpoint between the times at entry 0 and at the last entry of a frame has passed since
it was built. -/
def execMidpointRefresh (t track : Nat) (s : State) : Host.Outcome State Fault Refusal :=
  let s := tick t s
  let k := trackOf s track
  let passed (f : LastFrame) : Bool :=
    match f.entries.getLast? with
    | none => false
    | some e =>
      let m := f.eta0 + travelAt f.speed e.2 / 2
      f.speed != 0 && decide (f.built < m ∧ m ≤ s.clk.fab)
  done s (if isLive k && k.speed != 0 && k.frames.any passed then trkBatch s (issue track s) else s)

/-- A hand-off is lost (R219): counted; its boundary is a dead end for the track, which may hand off elsewhere. -/
def handoffLost (n : Nat) (h : Handing) (s : State) : State :=
  tryHandoff n (cntUp 0x70019 (updTrack n (fun k => { k with handoff := none, dead := insertNat h.vertex k.dead }) s))

/-- HANDOFF_RETRY (R219): the same HSEQ again, up to 3 times; then the hand-off is lost and the boundary a dead end. -/
def execHandoffRetry (t hseq : Nat) (s : State) : Host.Outcome State Fault Refusal :=
  let s := tick t s
  match s.trk.tracks.find? (fun p => match p.2.handoff with | some h => h.hseq == hseq | none => false) with
  | none => done s s
  | some p =>
    match p.2.handoff with
    | none => done s s
    | some h =>
      if s.clk.fab < h.at_ + 100 * Config.msCycles then done s s
      else if h.tries < 3 then
        done s (trkBatch s (sendHandoff p.1 h.hseq h.vertex h.dist
          (updTrack p.1 (fun k => { k with handoff := some { h with tries := h.tries + 1, at_ := s.clk.fab } }) s)))
      else done s (trkBatch s (handoffLost p.1 h s))

/-- The answer to a hand-off leaves and is kept for a repeat (R219). -/
def answerHandoff (m : HandoffMsg) (track status : Nat) (s : State) : State :=
  trunkSend m.source 1 (.handoffAck (modId s) m.hseq track status)
    (updTrk (fun t => { t with answered := ((m.source, m.hseq, track, status) :: t.answered).take 256 }) s)

/-- HANDOFF (R218, R219). -/
def execHandoff (t : Nat) (m : HandoffMsg) (s : State) : Host.Outcome State Fault Refusal :=
  let s := tick t s
  match s.trk.answered.find? (fun a => a.1 == m.source && a.2.1 == m.hseq) with
  | some a => done s (trunkSend m.source 1 (.handoffAck (modId s) m.hseq a.2.2.1 a.2.2.2) s)
  | none =>
    match (boundRows s).find? (fun v => getC s 0x70100 v 15 == m.source && getC s 0x70100 v 16 == m.bkey && boundState s v == 2) with
    | none => done s (answerHandoff m 0 2 s)
    | some v =>
      match (if getB s 0x70135 then freeTrack s else none) with
      | none => done s (answerHandoff m 0 3 s)
      | some n =>
        let at_ := fabOfTime s m.eta
        let s1 := updTrack n (fun k => { Track.init with
          state := .confirmed, cls := m.cls % 4, vertex := v, heading := ((edgesOf s v).head?).map (fun e => e.1)
          speed := m.speed, measured := true, lastAt := at_, lastTime := m.eta, lastAsn := asnOf s at_
          tseq := k.tseq, fromModule := m.source, fromTrack := m.track, version := k.version }) s
        let s1 := cntUp 0x70018 (updTrack n (rebuilt s1) s1)
        match mergeTrack n s1 with
        | (s2, some lo) => done s (answerHandoff m lo 1 (trkBatch s s2))
        | (s2, none) => done s (answerHandoff m n 0 (trkBatch s (tryHandoff n (issue n s2))))

/-- HANDOFF_ACK (R219). -/
def execHandoffAck (t source hseq _track status : Nat) (s : State) : Host.Outcome State Fault Refusal :=
  let s := tick t s
  match s.trk.tracks.find? (fun p => match p.2.handoff with
      | some h => h.hseq == hseq && getC s 0x70100 h.vertex 15 == source
      | none => false) with
  | none => done s s
  | some p =>
    match p.2.handoff with
    | none => done s s
    | some h =>
      let at_ : Nat × Nat := match p.2.boundary with
        | some b => if b.1 = h.vertex then b else (h.vertex, h.dist)
        | none => (h.vertex, h.dist)
      done s (trkBatch s (if status ≤ 1 then
          cntUp 0x70017 (updTrack p.1 (fun k => { k with state := .handed, handoff := none, frames := [], boundary := some at_ }) s)
        else handoffLost p.1 h s))

/-- BOUNDARY_LIST (R217): a part is assembled; a complete list decides the rows that name its sender. -/
def execBoundaryList (t source part parts : Nat) (entries : List (Nat × Nat × Nat)) (s : State) : Host.Outcome State Fault Refusal :=
  let s := tick t s
  let old := mget s.trk.buffers source
  let buf : Option BoundaryBuf :=
    if part = 0 then some { parts := parts, got := 1, entries := entries }
    else match old with
      | some b => if b.got = part then some { b with got := part + 1, entries := b.entries ++ entries } else some b
      | none => none
  match buf with
  | none => done s s
  | some b =>
    if b.parts ≤ b.got then
      let s1 := updTrk (fun t => { t with buffers := mdel t.buffers source, lists := mset t.lists source b.entries }) s
      let s1 := updTrk (fun t => { t with bounds := t.bounds.map (fun p =>
        if getC s1 0x70100 p.1 15 = source then (p.1, boundMatch s1 p.1 p.2) else p) }) s1
      let bad := match s1.trk.bounds.find? (fun p => p.2.state == 3) with | some p => p.1 | none => 0
      done s (trkBatch s (tryHandoffs (boundSync bad s1)))
    else done s (updTrk (fun t => { t with buffers := mset t.buffers source b }) s)

/-- BOUNDARY_UNMATCHED_TIMEOUT (R217): no complete list within 10 s of the handshake. -/
def execBoundaryUnmatchedTimeout (t vertex : Nat) (s : State) : Host.Outcome State Fault Refusal :=
  let s := tick t s
  match mget s.trk.bounds vertex with
  | none => done s s
  | some b =>
    match b.since with
    | none => done s s
    | some f =>
      if f + 10 * Config.secCycles ≤ s.clk.fab then
        done s (boundSync vertex (updTrk (fun t => { t with
          bounds := mset t.bounds vertex { state := 3, nVertex := 0, nLength := 0, since := none } }) s))
      else done s s

end Sys2Proof.Machine
end

