-- ==== Sys2Proof/Machine/Zones.lean ====
section
/-!
DEFINITION. The meanings of the commands on traffic history and lighting classes (chapter 7, R220 to R229).
-/
namespace Sys2Proof.Machine

/-- Two bytes of a string replaced at an offset. -/
def putU16 (b : Bytes) (o v : Nat) : Bytes := b.take o ++ be 2 v ++ b.drop (o + 2)

/-- The rule of R220 for one U16. -/
def aged (bin n : Nat) : Nat := min 65535 (bin - bin / 8 + 2 * n)

/-- The hour's bins of a vertex are aged and updated (R220). -/
def ageHour (day hour : Nat) (s : State) (v : Nat) : State :=
  let row := v * 7 + day
  let b := rOct (getRow s 0x70200 row) 0
  putRow 0x70200 row [.bytes ((List.range 4).foldl (fun b c =>
    let o := 8 * hour + 2 * c
    putU16 b o (aged (ofBe ((b.drop o).take 2)) (mgetD s.trk.passages (v * 4 + c) 0))) b)] s

/-- The civil hour that runs: twice the hour since 2000, plus 1 in daylight-saving time, so that a repeated hour is two. -/
def civilHour (s : State) : Nat :=
  2 * (civilSec s (taiSec s) / 3600) + b2n (dstOn (zoneRules s) (stdSec s (taiSec s)))
/-- The hour of the week of such an hour, 0 to 167. -/
def weekHour (h : Nat) : Nat := weekday (h / 2 / 24) * 24 + h / 2 % 24
/-- The civil week from Monday. -/
def civilWeek (s : State) : Nat := (civilSec s (taiSec s) / 86400 + 5) / 7

/-- HISTORY_HOUR_END (R220): the bins of the hour that ended, for each vertex that holds history or had passages. -/
def execHistoryHourEnd (t : Nat) (s : State) : Host.Outcome State Fault Refusal :=
  let s := tick t s
  if civilHour s = s.trk.hour then done s s
  else
    let h := weekHour s.trk.hour
    let held := ((storedRows s 0x70200).filter (fun r => r % 7 == h / 24)).map (fun r => r / 7)
    let vs := (s.trk.passages.map (fun p => p.1 / 4)).foldl (fun l v => insertNat v l) (held.foldl (fun l v => insertNat v l) [])
    let s1 := vs.foldl (ageHour (h / 24) (h % 24)) s
    done s (updTrk (fun t => { t with passages := [], nowCount := [], hour := civilHour s }) s1)

/-- The turn counts of a vertex are aged (R221). -/
def ageTurns (s : State) (v : Nat) : State :=
  let b := rOct (getRow s 0x70202 v) 0
  putRow 0x70202 v [.bytes ((List.range 64).foldl (fun b i =>
    putU16 b (2 * i) (aged (ofBe ((b.drop (2 * i)).take 2)) (mgetD s.trk.turnsNow (v * 64 + i) 0))) b)] s

/-- TURNS_WEEK_END (R221): the turn counts are aged, and one more week of history is held (R220). -/
def execTurnsWeekEnd (t : Nat) (s : State) : Host.Outcome State Fault Refusal :=
  let s := tick t s
  if civilWeek s = s.trk.week then done s s
  else
    let vs := (s.trk.turnsNow.map (fun p => p.1 / 64)).foldl (fun l v => insertNat v l) (storedRows s 0x70202)
    let s1 := vs.foldl ageTurns s
    done s (updTrk (fun t => { t with turnsNow := [], week := civilWeek s })
      (putN 0x70201 (min 65535 (getN s 0x70201 + 1) : Nat) s1))

/-- The used steps of a zone's ladder (R229): class and threshold, dimmest first. -/
def ladder (s : State) (z : Nat) : List (Nat × Nat) :=
  let b := rOct (getRow s 0x70120 z) 4
  ((List.range 4).map (fun i => ((b.getD (3 * i) 255).toNat, ofBe ((b.drop (3 * i + 1)).take 2)))).filter (fun p => p.1 != 255)

/-- The class in force by the order of R222, with its source (R227). -/
def chooseClass (s : State) (z : Nat) : Nat × Nat :=
  let cfg := getRow s 0x70120 z
  let x := zoneOf s z
  let plain := (rNat cfg 2, 0)
  let adaptive := if rNat cfg 3 = 1 then
      match (ladder s z).getLast? with
      | none => plain
      | some top => if 4 ≤ getN s 0x70201 then (x.adaptive, 1) else (top.1, 4)
    else plain
  let policy := match x.policyNow with
    | some p => if s.clk.fab < p.2.1 then (p.1, 2) else adaptive
    | none => adaptive
  match x.ovrNow with
  | some o => if o.2 = 0 ∨ time64 s < o.2 then (o.1, 3) else policy
  | none => policy

/-- The override that ZONE_OVERRIDE holds for a zone. -/
def overrideOf (s : State) (z : Nat) : Option (Nat × Nat) :=
  if getC s 0x70140 z 0 = 255 then none else some (getC s 0x70140 z 0, getC s 0x70140 z 1)

/-- Change a zone. -/
def updZone (z : Nat) (f : Zone → Zone) (s : State) : State :=
  updTrk (fun t => { t with zones := mset t.zones z (f (zoneOf s z)) }) s

/-- A zone's class comes into force (R222); where a node's floor changes, SET_FLOOR starts (R225). -/
def applyClass (z : Nat) (s : State) : State :=
  let x := zoneOf s z
  let (c, src) := chooseClass s z
  let y : Zone := { x with cls := c, source := src, since := if c = x.cls then x.since else time64 s }
  let s1 := updTrk (fun t => { t with zones := mset t.zones z y }) s
  let nodes := (assigned s).filter (fun n => zoneAt s n == z)
  ([1, 2, 3, 4].filter (fun ch => zoneFloor s z ch != zoneFloor s1 z ch)).foldl (fun s2 ch =>
    nodes.foldl (fun s2 n => updTrk (fun t => { t with floors := mset t.floors (n * 4 + ch - 1) (zoneFloor s1 z ch) }) s2) s2) s1

/-- The override of a zone comes into force (R222). -/
def applyOverride (z : Nat) (s : State) : State :=
  applyClass z (updZone z (fun x => { x with ovrNow := overrideOf s z, change := none }) s)

/-- CLASS_APPLY (R222): an override or a policy selection at its boundary. -/
def execClassApply (t : Nat) (zone : Fin 256) (s : State) : Host.Outcome State Fault Refusal :=
  let s := tick t s
  let x := zoneOf s zone.val
  let due (c : Option Nat) : Bool := match c with | some a => decide (a ≤ asn s) | none => false
  done s (if !due x.change && !due x.policyChange then s
    else
      let s1 := if due x.policyChange then updZone zone.val (fun x => { x with policyNow := x.policy, policyChange := none }) s else s
      if due x.change then applyOverride zone.val s1 else applyClass zone.val s1)

/-- CLASS_HOLD_EXPIRY (R222): an override or a selection has expired; the class falls back. -/
def execClassHoldExpiry (t : Nat) (zone : Fin 256) (s : State) : Host.Outcome State Fault Refusal :=
  let s := tick t s
  let x := zoneOf s zone.val
  let gone (p : Option (Nat × Nat × Nat)) : Bool := match p with | some p => decide (p.2.1 ≤ s.clk.fab) | none => false
  let past := match x.ovrNow with | some o => decide (o.2 ≠ 0 ∧ o.2 ≤ time64 s) | none => false
  let left (p : Option (Nat × Nat × Nat)) : Option (Nat × Nat × Nat) := if gone p then none else p
  if gone x.policy || gone x.policyNow || past then
    done s (applyClass zone.val (updZone zone.val (fun x => { x with
      policy := left x.policy, policyNow := left x.policyNow, ovrNow := if past then none else x.ovrNow }) s))
  else done s s

/-- The expected traffic of a zone in an hour of the week (R223). -/
def expectedOf (s : State) (z h : Nat) : Nat :=
  let vs := ((storedRows s 0x70200).filter (fun r => r % 7 == h / 24 && getC s 0x70100 (r / 7) 0 == 1 && zoneAt s (r / 7) == z))
  min 65535 ((vs.map (fun r =>
    let b := (rOct (getRow s 0x70200 r) 0).drop (8 * (h % 24))
    ((List.range 4).map (fun c => ofBe ((b.drop (2 * c)).take 2))).sum / 16)).foldl max 0)

/-- The adaptive choice (R223): the brightest step that the traffic reaches, at most one step down. -/
def adaptiveChoice (l : List (Nat × Nat)) (now_ expected : Nat) : Nat :=
  let want := (l.filter (fun p => decide (p.2 ≤ expected))).length - 1
  let cur := match l.findIdx? (fun p => p.1 == now_) with | some i => i | none => l.length - 1
  match l[max want (cur - 1)]? with
  | some p => p.1
  | none => now_

/-- A zone at the first superframe boundary of a local hour (R222, R223). -/
def adaptZone (s : State) (z : Nat) : State :=
  let e := expectedOf s z (hourOfWeek s (taiSec s))
  let l := ladder s z
  let x := zoneOf s z
  let a := if 4 ≤ getN s 0x70201 then adaptiveChoice l x.adaptive e
    else match l.getLast? with | some p => p.1 | none => x.adaptive
  let s := updTrk (fun t => { t with zones := mset t.zones z { x with adaptive := a, expected := e } }) s
  if getC s 0x70120 z 3 = 1 then applyClass z s else s

/-- A row of ZONES is written (R222, R223): where ADAPT or the ladder changes, the adaptive choice starts from the class in force. -/
def zonesChanged (s0 s : State) (z : Nat) : State :=
  let a := getRow s0 0x70120 z
  let b := getRow s 0x70120 z
  if rNat a 3 = rNat b 3 ∧ rOct a 4 = rOct b 4 then applyClass z s
  else
    let s := adaptZone (updZone z (fun x => { x with adaptive := x.cls }) s) z
    if rNat b 3 = 1 then s else applyClass z s

/-- ADAPTIVE_CLASS_CHANGE (R222, R223). -/
def execAdaptiveClassChange (t : Nat) (s : State) : Host.Outcome State Fault Refusal :=
  let s := tick t s
  if civilHour s = s.trk.adaptHour then done s s
  else done s (updTrk (fun t => { t with adaptHour := civilHour s }) ((List.range 256).foldl adaptZone s))

/-- HIST_CLEAR (R229): HISTOGRAM and TURNS of a zone's vertices, or of all (FFh), and HIST_WEEKS. -/
def execHistClear (t : Nat) (h : Hdr) (args : List TVal) (s : State) : Host.Outcome State Fault Refusal :=
  let s := tick t s
  done s (execCmd 0x70210 [cU8] h args (fun _ _ s =>
    let z := argN args 0
    let gone (k : Nat) : Bool :=
      let n := k / 4294967296
      let r := k % 4294967296
      let v := if n = 0x70200 then r / 7 else r
      (n == 0x70200 || n == 0x70202) && (z == 255 || zoneAt s v == z)
    okEmpty (putN 0x70201 0 { s with dict := { s.dict with store := s.dict.store.filter (fun p => !gone p.1) } })) s)

end Sys2Proof.Machine
end

