-- ==== Sys2Proof/Machine/SetRules.lean ====
section
/-!
DEFINITION. The rules that tie settings to one another (R53): what a plain write or a commit is refused for, over the
values the objects will hold after it, and which object and row the refusal names (R507).
-/
namespace Sys2Proof.Machine

/-- Whether an object is a setting (R36: RW or RWS). -/
def isSetting (n : Nat) : Bool := match findObj n with | some d => d.acc == .rw || d.acc == .rws | none => false

/-- The store with some rows in it. -/
def withRows (m : NMap Row) (s : State) : State :=
  { s with dict := { s.dict with store := m.foldl (fun st p => mset st p.1 p.2) s.dict.store } }

/-- The stored rows of a bank's settings. -/
def bankKeys (b : Nat) (s : State) : List Nat :=
  (s.dict.store.filter (fun p => p.1 / 4294967296 / 65536 == b && isSetting (p.1 / 4294967296))).map (fun p => p.1)

/-- A bank's settings at their defaults (R61). -/
def restoreBank (b : Nat) (s : State) : State :=
  let gone := bankKeys b s
  { s with dict := { s.dict with store := s.dict.store.filter (fun p => !gone.contains p.1) } }

/-- What the objects hold once a sequence has applied (R54, R61): bank restores, then shadows. -/
def overlay (q : Sequence) (s : State) : State := withRows q.shadows (q.restores.foldl (fun s b => restoreBank b s) s)

/-- The order of acceptance. -/
def insertAccepted (p : Nat × Sequence) : List (Nat × Sequence) → List (Nat × Sequence)
  | [] => [p]
  | x :: r =>
    if ((p.2.commit.getD (0, 0)).2) < ((x.2.commit.getD (0, 0)).2) then p :: x :: r else x :: insertAccepted p r
/-- The accepted commits, in order of acceptance (R54). -/
def accepted (s : State) : List (Nat × Sequence) :=
  (s.ib.seqs.filter (fun p => p.2.commit.isSome)).foldl (fun l p => insertAccepted p l) []

/-- The rows a sequence changes. -/
def seqKeys (q : Sequence) (s : State) : List Nat :=
  ((q.restores.map (fun b => bankKeys b s)).flatten).foldl (fun l k => insertNat k l) (q.shadows.map (fun p => p.1))

/-- Whether a change touches an object. -/
def hit (ks : List Nat) (n : Nat) : Bool := ks.any (fun k => k / 4294967296 == n)
/-- The rows of an object that a change touches, rising. -/
def hitRows (ks : List Nat) (n : Nat) : List Nat :=
  ks.foldl (fun l k => if k / 4294967296 = n then insertNat (k % 4294967296) l else l) []

/-- The first row of an object, among those touched, that is bad. -/
def firstRow (ks : List Nat) (n : Nat) (bad : Nat → Bool) : Option (Nat × Nat) :=
  ((hitRows ks n).find? bad).map (fun r => (n, r))
/-- The first of some scalars, with whether it is touched and bad. -/
def firstScalar (ks : List Nat) (l : List (Nat × Bool)) : Option (Nat × Nat) :=
  (l.find? (fun p => hit ks p.1 && p.2)).map (fun p => (p.1, noRow))

/-- The first answer of a list. -/
def firstSome {α : Type} : List (Option α) → Option α
  | [] => none
  | some x :: _ => some x
  | none :: r => firstSome r

/-- Edge `e` of a graph row: target, length, flags (R197). -/
def graphEdge (row : Row) (e : Nat) : Nat × Nat × Nat := (rNat row (3 + 3 * e), rNat row (4 + 3 * e), rNat row (5 + 3 * e))

/-- What a row breaks of its own Range/Unit column beyond the ranges of its columns (R31): the
device certificate's key, groups named twice, graph columns that another type needs, floors, CT primaries, RANGE_AT_CAL. -/
def rowBad (s : State) (n r : Nat) (row : Row) : Bool :=
  if n = 0x10130 then
    let l := rNat row 0
    ((rOct row 1).drop l).any (fun b => b != 0) || (l != 0 && Config.certKey ((rOct row 1).take l) != s.life.attestPub)
  else if n = 0x60110 then
    let g := ((List.range 4).map (rNat row)).filter (fun x => x != 65535)
    g.any (fun x => 4096 ≤ x || 1 < (g.filter (fun y => y == x)).length)
  else if n = 0x60120 then ((rOct row 2).drop (8 * rNat row 1)).any (fun b => b != 0)
  else if n = 0x70100 then
    (rNat row 0 != 3 && (rNat row 15 != 255 || rNat row 16 != 0))
      || (List.range 4).any (fun e => let x := graphEdge row e; x.1 != 65535 && (x.2.1 < 1 || 10000 < x.2.1))
  else if n = 0x70122 then (rOct row 0).any (fun b => 100 < b.toNat)
  else if n = 0x80101 then rNat row 1 < (if rNat row 0 = 0 then 1 else 5)
  else if n = 0x80200 then !(decide (3 ≤ r ∧ r ≤ 6)) && rNat row 3 != 255
  else false

/-- DEFAULT_LEASE above MAX_LEASE (R63): the one written is named. -/
def ruleLease (v : State) (ks : List Nat) : Option (Nat × Nat) :=
  let bad := getN v 0x00251 < getN v 0x00250
  firstScalar ks [(0x00250, bad), (0x00251, bad)]

/-- CERTIFIED while a condition of it fails (R371). -/
def ruleCertified (v : State) (ks : List Nat) : Option (Nat × Nat) :=
  if !getB v 0x10110 then none
  else
    let idle := 3600 < getN v 0x00110
    let mask := getN v 0x10100 != 0x7FF
    let time := !getB v 0x10102
    let susp := v.life.suspend.any (fun x => decide (v.clk.fab < x.1 ∧ 3600000 < x.2))
    firstScalar ks [(0x00110, idle), (0x10100, mask), (0x10102, time), (0x10110, idle || mask || time || susp)]

/-- LEAP_NEXT in the past (R341), and DST rules that share their week (R342). -/
def ruleTime (v : State) (ks : List Nat) : Option (Nat × Nat) :=
  firstSome [
    firstRow ks 0x20101 (fun r => getC v 0x20101 r 0 != 0 && decide (getC v 0x20101 r 0 ≤ time64 v)),
    firstRow ks 0x20110 (fun r => getC v 0x20110 r 2 == getC v 0x20110 r 6 && getC v 0x20110 r 3 == getC v 0x20110 r 7)]

/-- STREAM_PORT equal to IBIER_PORT (R477). -/
def rulePorts (v : State) (ks : List Nat) : Option (Nat × Nat) :=
  let bad := getN v 0x30102 == getN v 0xD0111
  firstScalar ks [(0x30102, bad), (0xD0111, bad)]

/-- HOP_PERM that is no permutation of 0 to 63 (R132). -/
def rulePerm (v : State) (ks : List Nat) : Option (Nat × Nat) :=
  let p := (rOct (getRow v 0x40103 0) 0).map (fun b => b.toNat)
  firstScalar ks [(0x40103, !(List.range 64).all (fun i => p.contains i))]

/-- The staged radio settings as if they were in force: what the objects hold (R53, R139). -/
def stagedView (v : State) : State := { v with mac := { v.mac with radio := rowsOf v stagedObjs } }

/-- A cluster whose transceivers, band or air mode break R137. -/
def clusterPlaced (v : State) (c : Nat) : Bool :=
  let x := pathX v c false
  let y := pathX v c true
  x != y && xBand v x == xBand v y && (cMode v c == 8) == (xBand v x == 1)

/-- A map with enough channels (R137). -/
def mapEnough (v : State) (c : Nat) : Bool :=
  let r := crow v c
  let l := (List.range 64).filter (mapBit (rNat r 6) (rNat r 7))
  if xBand v (pathX v c false) = 1 then decide (4 ≤ (l.foldl (fun a ch => insertNat (ch % 16) a) []).length)
  else decide (8 ≤ l.length)

/-- Both paths of a cluster with members change (R137). -/
def bothPaths (s v : State) (c : Nat) : Bool :=
  let a := crow s c
  let b := crow v c
  let mode := rNat a 1 != rNat b 1
  let differ (i : Nat) : Bool := rNat a i != rNat b i
  inUse s c && (mode || differ 2 || differ 3) && (mode || differ 4 || differ 5)
    && (dirMembers v c).any (fun n => dirCluster s n == some c)

/-- A hard uplink run outside non-urgent cluster positions, or over another cluster's (R142). -/
def runsPlaced (v : State) (c : Nat) : Bool :=
  let x := pathX v c false
  (List.range 256).all (fun p => !hardRun v x p c || (decide (roleAt v x p = .cluster)
      && !(clustersIn v).any (fun d => d != c && hardRun v x p d)))
    && (rOct (crow v c) 9).all (fun b => b.toNat == 255 || ((!isQ v x || b.toNat % 2 == 0)
      && b.toNat + (if isQ v x then 2 else upLen (cMode v c)) ≤ 256))

/-- The hard runs of a transceiver leave room for BOOKABLE_SLOTS (R142). -/
def runsFit (v : State) (x : Nat) : Bool :=
  let n := ((List.range 256).filter (fun p => (!isQ v x || p % 2 == 0) && hardAt v x p)).length
  n + bookable v x ≤ nonUrgent v x

/-- The bookings that a change of some clusters' rows moves to another channel, with that channel (R137). -/
def movingBookings (s v : State) (cs : List Nat) : List (Booking × Nat) :=
  s.adm.bookings.filterMap (fun b =>
    if cs.contains b.cluster && !b.sent && decide (applyAsn s ≤ b.asn) then
      match chanRow v (crow v b.cluster) (pathX s b.cluster false != b.xcvr) b.asn with
      | some ch => if ch = b.chan then none else some (b, ch)
      | none => none
    else none)

/-- The clusters of which the change would move a booked attempt onto a channel without gate budget (R137): the moved
bookings leave their old channels together and take the new ones one after another. -/
def movesBooked (s v : State) (cs : List Nat) : List Nat :=
  let m := movingBookings s v cs
  let w := m.foldl (fun w p => gateRelease p.1.xcvr p.1.chan (p.1.asn / 256) p.1.dur w) v
  (m.foldl (fun a p =>
    if gateRoom a.1 p.1.xcvr p.2 (p.1.asn / 256) p.1.dur then
      (gateReserve p.1.xcvr p.2 (p.1.asn / 256) p.1.dur a.1, a.2)
    else (a.1, insertNat p.1.cluster a.2)) (w, [])).2

/-- A cluster row in use that breaks R137 or R142. -/
def clusterBad (s v : State) (c : Nat) : Bool :=
  let w := stagedView v
  !clusterPlaced w c || !mapEnough w c || bothPaths s v c || !runsPlaced w c || !runsFit w (pathX w c false)

/-- CLUSTER_CONTEXT rows (R137, R142), a cluster taken out of use while a directory row names it (R509); and the
transceivers and BOOKABLE_SLOTS that rows in use depend on. -/
def ruleClusters (s v : State) (ks : List Nat) : Option (Nat × Nat) :=
  let w := stagedView v
  let moved := movesBooked s v (hitRows ks 0x40400)
  firstSome [
    firstRow ks 0x40110 (fun x => (clustersIn v).any (fun c =>
      (pathX v c false == x || pathX v c true == x) && !((hitRows ks 0x40400).contains c)
        && !(clusterPlaced w c && mapEnough w c && runsPlaced w c && runsFit w x))),
    firstRow ks 0x40400 (fun c =>
      if inUse v c then clusterBad s v c || moved.contains c
      else inUse s c && (assigned v).any (fun n => dirCluster v n == some c)),
    firstScalar ks [(0x50100, (List.range 4).any (fun x => !runsFit w x))]]

/-- NODE_DIRECTORY rows (R161). -/
def ruleDirectory (v : State) (ks : List Nat) : Option (Nat × Nat) :=
  firstRow ks 0x40500 (fun n => inDirectory v n && dirBad v n (dirRow v n))

/-- The admission caps (R104). -/
def ruleCaps (v : State) (ks : List Nat) : Option (Nat × Nat) :=
  let a := getN v 0x50100 < getN v 0x50101
  let b := getN v 0x50101 < getN v 0x50102
  firstScalar ks [(0x50100, a), (0x50101, a || b), (0x50102, b)]

/-- A schedule reference beyond the table (R196). -/
def schedOut (g : Nat) : Bool := 1023 < g && g != 65535

/-- A schedule with no steps and a default level of 0 (R163). -/
def schedEmpty (v : State) (r : Nat) : Bool := r < 1024 && getC v 0x60120 r 1 == 0 && getC v 0x60120 r 0 == 0

/-- The groups that some node belongs to. -/
def usedGroups (v : State) : List Nat :=
  (storedRows v 0x60110).foldl (fun l n => (List.range 4).foldl (fun l i =>
    let g := getC v 0x60110 n i
    if g < 4096 then insertNat g l else l) l) []

/-- A group with members that names an empty schedule (R163). -/
def groupDark (v : State) (g : Nat) : Bool := schedEmpty v (getC v 0x60100 g 1) || schedEmpty v (getC v 0x60100 g 2)

/-- A step of a schedule (R163). -/
def stepBad (b : Bytes) : Bool :=
  let at_ (i : Nat) : Nat := (b.getD i 0).toNat
  let raw := at_ 2 + 256 * at_ 3
  let t : Int := if raw < 32768 then raw else (raw : Int) - 65536
  at_ 0 == 0 || 128 ≤ at_ 0 || 4 < at_ 1 || at_ 4 == 0 || 16 ≤ at_ 4 || 100 < at_ 5 || at_ 7 != 0
    || (if at_ 1 = 0 then decide (t < 0 ∨ 1439 < t) else decide (t < -720 ∨ 720 < t))

/-- Lock group 14 (R163, R196). -/
def ruleGroups (v : State) (ks : List Nat) : Option (Nat × Nat) :=
  if !(hit ks 0x60100 || hit ks 0x60110 || hit ks 0x60120) then none
  else
    let dark := (usedGroups v).filter (groupDark v)
    firstSome [
      firstRow ks 0x60100 (fun g => schedOut (getC v 0x60100 g 1) || schedOut (getC v 0x60100 g 2) || dark.contains g),
      firstRow ks 0x60110 (fun n => (List.range 4).any (fun i =>
        let g := getC v 0x60110 n i
        g != 65535 && (getC v 0x60100 g 1 == 65535
          || (dark.contains g && !hit ks 0x60120)))),
      firstRow ks 0x60120 (fun r =>
        (List.range (getC v 0x60120 r 1)).any (fun i => stepBad (((rOct (getRow v 0x60120 r) 2).drop (8 * i)).take 8))
          || dark.any (fun g => getC v 0x60100 g 1 == r || getC v 0x60100 g 2 == r)),
      (dark.head?).map (fun g => (0x60100, g))]

/-- Whether two ends of an edge match (R198): the class bits alike, the direction mirrored. -/
def flagsMatch (a b : Nat) : Bool :=
  a / 4 % 8 == b / 4 % 8 && (if a % 4 = 0 then b % 4 == 0 else if a % 4 = 1 then b % 4 == 2 else a % 4 == 2 && b % 4 == 1)

/-- An edge that its target does not match (R198). -/
def edgeBad (v : State) (r e : Nat) : Bool :=
  let x := graphEdge (getRow v 0x70100 r) e
  if x.1 = 65535 then false
  else
    let back := getRow v 0x70100 x.1
    x.1 == r || decide (16384 ≤ x.1) || rNat back 0 == 0
      || !(List.range 4).any (fun k =>
        let y := graphEdge back k
        y.1 == r && y.2.1 == x.2.1 && flagsMatch x.2.2 y.2.2)

/-- The boundary rows of the graph. -/
def boundKeys (v : State) (r : Nat) : List Nat :=
  (boundRows v).filter (fun k => k != r && getC v 0x70100 k 16 == getC v 0x70100 r 16)

/-- A graph row that breaks R198. -/
def graphBad (v : State) (r : Nat) : Bool :=
  let row := getRow v 0x70100 r
  let ty := rNat row 0
  let edges := ((List.range 4).filter (fun e => (graphEdge row e).1 != 65535)).length
  (if r < 8192 then ty == 2 || ty == 3 else ty == 1)
    || (List.range 4).any (edgeBad v r)
    || (ty == 3 && (edges != 1 || rNat row 15 == 255 || rNat row 16 == 0 || !(boundKeys v r).isEmpty
      || decide (256 ≤ ((boundRows v).filter (fun k => k < r)).length)))
    || (rNat row 2 != 255 && (graphEdge row (rNat row 2)).1 == 65535)

/-- STREET_GRAPH (R198): the first offending row of the table as it would stand. -/
def ruleGraph (v : State) (ks : List Nat) : Option (Nat × Nat) :=
  if hit ks 0x70100 then
    (((storedRows v 0x70100).foldl (fun l r => insertNat r l) []).find? (graphBad v)).map (fun r => (0x70100, r))
  else none

/-- Whether a class is in a zone's ALLOWED set (R229). -/
def allowedIn (v : State) (z c : Nat) : Bool := c < 32 && bitOf (getC v 0x70120 z 1) c

/-- Thresholds that rise strictly. -/
def rising : List Nat → Bool
  | a :: b :: r => decide (a < b) && rising (b :: r)
  | _ => true

/-- ZONES and ZONE_OVERRIDE (R229). -/
def ruleZones (v : State) (ks : List Nat) : Option (Nat × Nat) :=
  let forced (z : Nat) : Bool := getC v 0x70140 z 0 != 255 && !allowedIn v z (getC v 0x70140 z 0)
  firstSome [
    firstRow ks 0x70120 (fun z =>
      let l := ladder v z
      !allowedIn v z (getC v 0x70120 z 2) || l.any (fun p => !allowedIn v z p.1) || !rising (l.map (fun p => p.2))
        || decide ((l.headD (0, 0)).2 ≠ 0) || (rOct (getRow v 0x70120 z) 5).any (fun b => 15 < b.toNat)
        || (forced z && !(hitRows ks 0x70140).contains z)),
    firstRow ks 0x70140 forced]

/-- Full-scale primary power above 84 GW with the CT of a row (R243). -/
def powerTooBig (v : State) (r : Nat) : Bool :=
  decide (84000000000 * 65536 * inMa v r < 3 * 332 * getN v 0x80100 * (2 * inMa v r) * ctPrim v r)

/-- VT_RATIO, CT (R243) and CAL_MAIN (R241). -/
def ruleMetering (v : State) (ks : List Nat) : Option (Nat × Nat) :=
  firstSome [
    firstScalar ks [(0x80100, (List.range 3).any (powerTooBig v))],
    firstRow ks 0x80101 (fun r => r < 3 && powerTooBig v r),
    if hit ks 0x80101 || hit ks 0x80200 then
      ([3, 4, 5, 6].find? (fun r =>
        getC v 0x80200 r 4 == 1 && getC v 0x80200 r 5 == 1 && getC v 0x80200 r 3 != getC v 0x80101 (r - 3) 0)).map
        (fun r => (0x80200, r))
    else none]

/-- A Flowstone program word that R276 refuses. -/
def wordBad (w : Nat) : Bool :=
  let op := w / 268435456
  let unused (used : Nat) : Bool := (w % 268435456) &&& (268435455 - used) != 0
  if op = 0 then unused 0
  else if op = 1 ∨ op = 2 then unused 0xFFFF
  else if op = 3 then unused 0x1F1F || 23 < w / 256 % 32 || 23 < w % 32
  else if op = 4 then unused 0xFF
  else if op = 5 then false
  else if op = 6 then unused 0xFFFFF
  else if op = 7 then unused 0xFFFFF || w % 1048576 == 0
  else if op = 8 then unused 0x300FFFF
  else if op = 9 then unused 0x300003F
  else if op = 10 then unused 0x3F
  else if op = 11 then unused 0xF
  else if op = 12 then unused 0xF3F
  else if op = 13 then unused 0xFF
  else if op = 14 then unused 0xF
  else true

/-- Bank 9 (R266, R276, R279). -/
def ruleLed (v : State) (ks : List Nat) : Option (Nat × Nat) :=
  firstSome [
    firstRow ks 0x90100 (fun r => getC v 0x90100 r 4 != 0
      && (List.range 4).any (fun k => k != r && getC v 0x90100 k 4 == getC v 0x90100 r 4)),
    firstRow ks 0x90111 (fun r => decide (rInt (getRow v 0x90111 r) 1 ≤ rInt (getRow v 0x90111 r) 0)),
    firstRow ks 0x90200 (fun r =>
      let b := rOct (getRow v 0x90200 r) 2
      (List.range 64).any (fun i => wordBad (ofBe ((b.drop (4 * i)).take 4))))]

/-- A histogram with no width (R383). -/
def ruleSummary (v : State) (ks : List Nat) : Option (Nat × Nat) :=
  firstRow ks 0xB0120 (fun r => getC v 0xB0120 r 1 == 2 && decide (rInt (getRow v 0xB0120 r) 4 ≤ 0))

/-- The first object and row that breaks a rule (R53), in the order of the object numbers. -/
def ruleBroken (s v : State) (ks : List Nat) : Option (Nat × Nat) :=
  firstSome [ruleLease v ks, ruleCertified v ks, ruleTime v ks, rulePorts v ks, rulePerm v ks, ruleClusters s v ks,
    ruleDirectory v ks, ruleCaps v ks, ruleGroups v ks, ruleGraph v ks, ruleZones v ks, ruleMetering v ks, ruleLed v ks,
    ruleSummary v ks]

/-- EPOCH_BUSY for a change of settings (R189 reasons 2 and 5). -/
def changeBusy (s v : State) (ks banks : List Nat) : Option Reply :=
  let froz := [0x60100, 0x60110, 0x60120] ++ stagedObjs
  if (s.epoch.state = 1 ∨ s.epoch.state = 2) ∧ (froz.any (hit ks) ∨ banks.contains 4 ∨ banks.contains 6) then some (rEpochBusy 2 0 s)
  else if radioEpochOpen s && (hitRows ks 0x40500).any (fun n => inDirectory v n && (!inDirectory s n
      || dirCluster v n != dirCluster s n || dirMember v n != dirMember s n || rOct (dirRow v n) 0 != rOct (dirRow s n) 0)) then
    some (rEpochBusy 5 0 s)
  else none

/-- Everything a change of settings is refused for after the checks of its values: rules (R53), then the bank's own. -/
def changeRefused (s v : State) (ks banks : List Nat) : Option Reply :=
  match ruleBroken s v ks with
  | some p => some (rRange p.1 p.2)
  | none => changeBusy s v ks banks

end Sys2Proof.Machine
end

