-- ==== Sys2Proof/Machine/SetEffects.lean ====
section
/-!
DEFINITION. What settings do when they come into force (R39, R54): stored, worn, and told to the units that keep copies of
them or act on a change.
-/
namespace Sys2Proof.Machine

/-- The range in force of a calibration channel: 0 where it has one input range only. -/
def calRangeOf (s : State) (r : Nat) : Nat := if 3 ≤ r ∧ r ≤ 6 then getC s 0x80101 (r - 3) 0 else 1

/-- One CAL_MAIN row whose source is factory takes the factory values of the range in force (R510). -/
def calSource (s : State) (r : Nat) : State :=
  if getC s 0x80200 r 5 = 0 then putRow 0x80200 r (factoryMain r (calRangeOf s r)) s else s

/-- Where the range of a CT changes under a factory row, its CAL_FALLBACK row takes the factory values too (R510). -/
def recalRange (s0 s : State) (c : Nat) : State :=
  if getC s0 0x80101 c 0 ≠ getC s 0x80101 c 0 ∧ getC s 0x80200 (c + 3) 5 = 0 then
    let k := calRangeOf s (c + 3)
    putRow 0x80201 (c + 3) (factoryFall (c + 3) k) (putRow 0x80200 (c + 3) (factoryMain (c + 3) k) s)
  else s

/-- The columns of CAL_FALLBACK that are not used read 2^30 and 0 (R255). -/
def calUnused (s : State) (r : Nat) : State :=
  if 3 ≤ r ∧ r ≤ 5 then s
  else
    let v := getRow s 0x80201 r
    putRow 0x80201 r (v.take 2 ++ [vN 1073741824, vN 0, vN 1073741824, vN 0]) s

/-- A ratio changes (R231): the samples since the last close that came before are scaled by the ratios before. -/
def ratioCut (s0 : State) (ks : List Nat) (s : State) : State :=
  if hit ks 0x80100 || hit ks 0x80101 || hit ks 0x80102 then
    updMet (fun m => { m with cuts := m.cuts ++ [((s.clk.fab - m.lastClose) / 50000, scaleNow s0)] }) s
  else s

/-- Calibration rows after a change (R255, R510). The running period goes on with those it began with (R242). -/
def calSettle (s0 : State) (ks : List Nat) (s : State) : State :=
  let s := updMet (fun m => { m with inUse := some (m.inUse.getD (calTables s0)) }) (ratioCut s0 ks s)
  let s := (hitRows ks 0x80200).foldl calSource s
  let s := (hitRows ks 0x80201).foldl calUnused s
  if hit ks 0x80101 then (List.range 4).foldl (recalRange s0) s else s

/-- One write to a settings word (R39): past 5 × 10^8 it is recorded as SETTINGS_WEAR (R382). -/
def wearWord (s : State) (k : Nat) : State :=
  let n := mgetD s.dict.wear k 0 + 1
  let s := { s with dict := { s.dict with wear := mset s.dict.wear k n } }
  if n = 500000001 then record 0xB010 4 0 (be 4 (Config.settingsWord k) ++ be 4 n) s else s

/-- Whether two bookings of one cluster stand as far apart as R102 and R131 ask. -/
def apart (p len : Nat) (b : Booking) : Bool :=
  if p < b.asn then decide (max (p + 4) (p + len + 1) ≤ b.asn) else decide (max (b.asn + 4) (b.asn + b.len + 1) ≤ p)

/-- The earliest place from `a` on that also keeps its distance from the other attempts. -/
def placeApart (s : State) (q : Ask) (others : List Booking) : Nat → Nat → Option (Nat × Nat × Bool)
  | 0, _ => none
  | fuel + 1, a =>
    match placeFrom s q horizon a with
    | none => none
    | some (p, ch, u) => if others.all (apart p q.len) then some (p, ch, u) else placeApart s q others fuel (p + 1)

/-- An attempt on a transceiver that goes out of service is rebooked on the cluster's other one, or not sent (R115). -/
def rebook (s : State) (b : Booking) : State :=
  let alt := !(pathX s b.cluster false != b.xcvr)
  let x := pathX s b.cluster alt
  let s1 := dropBookings (fun y => y == b) s
  let found := match ticketOf s b.ticket with
    | none => none
    | some k =>
      let q : Ask := { cls := b.dclass, policy := b.policy, share := true, cluster := b.cluster, alt, len := b.len, dur := b.dur,
                       deadline := k.deadline }
      let others := s1.adm.bookings.filter (fun y => y.ticket == b.ticket && y.cluster == b.cluster && y.attempt != b.attempt)
      if inService s1 x && x != b.xcvr then placeApart s1 q others 4096 (firstPlace s1) else none
  match found with
  | some (p, ch, u) => book { b with xcvr := x, asn := p, chan := ch, urgent := u } s1
  | none => updTicket b.ticket (fun k => { k with fPath := true }) (cntUp 0x50016 s1)

/-- XCVR_RF takes a transceiver out of service (R115). -/
def xcvrChanged (s0 s : State) (x : Nat) : State :=
  if inService s0 x && !inService s x then (s.adm.bookings.filter (fun b => b.xcvr == x && !b.sent)).foldl rebook s else s

/-- A row of CLUSTER_CONTEXT changes (R138): CEVENT, and the CONTEXT frame until every member has answered. -/
def clusterChanged (s0 s : State) (c : Nat) : State :=
  if crow s0 c = crow s c then s
  else updCl c (fun k => { k with
    cevent := (k.cevent + 1) % 4294967296
    ctxOld := if inUse s0 c && !(members s c).isEmpty then some (crow s0 c) else none
    ctxAnswered := 0 }) s

/-- Attempts on a transceiver that is on neither path of their cluster any more are not sent. -/
def strayBookings (s : State) : State :=
  (s.adm.bookings.filter (fun b => !b.sent && pathX s b.cluster false != b.xcvr && pathX s b.cluster true != b.xcvr)).foldl
    (fun s b => loseBooking b s) s

/-- A directory row changes (R114, R151): a joined node that changes its place leaves its cluster; an emptied row is
removed. -/
def directoryChanged (s0 s : State) (n : Nat) : State :=
  if inDirectory s0 n && !inDirectory s n then removeRow n s
  else if (nodeOf s n).joined ≠ 0 ∧ (dirCluster s n ≠ dirCluster s0 n ∨ dirMember s n ≠ dirMember s0 n
      ∨ rOct (dirRow s n) 0 ≠ rOct (dirRow s0 n) 0) then leaveCluster n s
  else if dirRow s0 n = dirRow s n then s
  else dropJoins n s

/-- Floors that a change of zones, classes, floors or the graph alters are sent to their nodes (R225). -/
def floorsChanged (s0 s : State) : State :=
  (assigned s).foldl (fun s n => [1, 2, 3, 4].foldl (fun s ch =>
    if floorOf s0 n ch = floorOf s n ch then s
    else { s with trk := { s.trk with floors := mset s.trk.floors (n * 4 + ch - 1) (floorOf s n ch) } }) s) s

/-- An override written outside a sequence waits for its boundary (R222). -/
def overrideWaits (s : State) (z : Nat) : State :=
  let a := applyAsn s
  { s with trk := { s.trk with zones := mset s.trk.zones z { (zoneOf s z) with change := some a } } }

/-- A Flowstone program is loaded; its engine, if it runs, stops first (R278, R279). -/
def engineChanged (s : State) (e : Nat) : State :=
  onLanes (fun l s => engLoad l e (if engRuns (engOf l s e) then engStop l e s else s)) s

/-- The units that keep the bus watchdog limit and WAIT_ALARM (R426). -/
def busChanged (s : State) (k : Nat) : State :=
  let v := getC s 0xE0200 k 0 * 400
  let put (x : LaneSt) : LaneSt := { x with busWd := lset x.busWd k v }
  updLane .B put (updLane .A put s)
def alarmChanged (s : State) (a : Nat) : State :=
  let v := getC s 0xE0201 a 0
  updArb .B a (fun b => { b with waitAlarm := v }) (updArb .A a (fun b => { b with waitAlarm := v }) s)

/-- Banks 0 to 3: alarms, links, topology, CERTIFIED, the output stage's copy. -/
def effectsSys (s0 : State) (ks : List Nat) (client : Bytes) (s : State) : State :=
  let s := (hitRows ks 0x20130).foldl (fun s r => alarmWritten r s) s
  let s := (hitRows ks 0x00420).foldl (fun s k => updOut k (fun o => { o with powerOn := getC s 0x00420 k 0 == 1 }) s) s
  let s := if hit ks 0x10110 && getB s0 0x10110 && !getB s 0x10110 then lcLog s.life.state s.life.state client 3 s else s
  let s := if getN s0 0x30100 ≠ getN s 0x30100 ∨ modId s0 ≠ modId s then linkEnds 1 (linkEnds 0 s) else s
  let s := if getN s0 0x30110 ≠ getN s 0x30110 ∧ actsMaster s then
      { s with trunk := { s.trunk with topo := s.trunk.topo.map (fun m => { m with deputy := getN s 0x30110 }) } }
    else s
  let s := if getN s0 0x30105 ≠ getN s 0x30105 then masterTopo s else s
  if hit ks 0x20110 || hit ks 0x20100 then condSet 96 0 (zoneStale s) s else s

/-- Banks 4 to 7: clusters, directory, graph, zones. -/
def effectsStreet (s0 : State) (ks : List Nat) (plain : Bool) (s : State) : State :=
  let s := (hitRows ks 0x40111).foldl (xcvrChanged s0) s
  let s := (hitRows ks 0x40400).foldl (clusterChanged s0) s
  let s := if hit ks 0x40400 then rechannel (strayBookings s) else s
  let s := (hitRows ks 0x40500).foldl (directoryChanged s0) s
  let s := if hit ks 0x40500 then verifyDone s else s
  let s := if hit ks 0x70100 then graphCommit (hitRows ks 0x70100) s0 s else s
  let s := if hit ks 0x70135 && getB s0 0x70135 && !getB s 0x70135 then trkBatch s (endAllTracks s) else s
  let s := (hitRows ks 0x70120).foldl (zonesChanged s0) s
  let s := (hitRows ks 0x70140).foldl (fun s z => if plain then overrideWaits s z else applyOverride z s) s
  if [0x70100, 0x70120, 0x70122, 0x70140].any (hit ks) then floorsChanged s0 s else s

/-- Banks 8 to E: metering budget, anchor drive, summaries, self-test, processor complex. -/
def effectsUnits (s0 : State) (ks : List Nat) (s : State) : State :=
  let s := if hit ks 0x80108 then condSet 130 0 (battSpent s && s.dict.live.getLsbD 130) s else s
  let s := if ks.any (fun k => k / 4294967296 / 256 == 0x901) then copySafe s else s
  let s := (hitRows ks 0x90200).foldl engineChanged s
  let s := (hitRows ks 0xB0120).foldl (fun s r =>
    if getRow s0 0xB0120 r = getRow s 0xB0120 r then s
    else { s with recd := { s.recd with sums := mdel s.recd.sums r } }) s
  let s := if hit ks 0xC0100 then testEnabled s else s
  (hitRows ks 0xE0201).foldl alarmChanged ((hitRows ks 0xE0200).foldl busChanged s)

/-- A change of settings comes into force: `f` stores the rows `ks` (R39, R54, R61); `plain` says that no sequence does it. -/
def changeSettings (f : State → State) (ks : List Nat) (client : Bytes) (plain : Bool) (s0 : State) : State :=
  let s := calSettle s0 ks (f s0)
  let s := ks.foldl wearWord s
  effectsUnits s0 ks (effectsStreet s0 ks plain (effectsSys s0 ks client s))

/-- An accepted commit applies (R54): values into force, groups released, journal record erased. -/
def applyCommit (hd : Nat) (s : State) : State :=
  match mget s.ib.seqs hd with
  | none => s
  | some q =>
    let s := changeSettings (overlay q) (seqKeys q s) q.client false s
    let s := { s with ib := { s.ib with seqs := mdel s.ib.seqs hd } }
    let s := journalErase (fun e => match e with | .commit h _ => h == hd | _ => false) s
    ropUp 0x00232 1 s

end Sys2Proof.Machine
end

