-- ==== Sys2Proof/Machine/Return.lean ====
section
/-!
DEFINITION. RETURN_MODULE (R361): the module gives up its owner.
-/
namespace Sys2Proof.Machine

/-- Every stored row of a setting. -/
def settingKeys (s : State) : List Nat :=
  (s.dict.store.filter (fun p => isSetting (p.1 / 4294967296))).map (fun p => p.1)

/-- Every setting at its default (R44, R361). -/
def settingsGone (s : State) : State :=
  { s with dict := { s.dict with store := s.dict.store.filter (fun p => !isSetting (p.1 / 4294967296)) } }

/-- The owner's keys are destroyed (R361): both owner roots, the key store, the wrapped trunk key, what was derived. -/
def ownerGone (s : State) : State :=
  let s := if s.lanes.a.vault.root.isSome || s.lanes.b.vault.root.isSome then stickySet 16 0 s else s
  let s := updVault .B zeroVault (updVault .A zeroVault s)
  let z := List.replicate 8 0
  updLife (fun x => { x with rootId := z, attestPub := List.replicate 97 0, trunkKeyId := z, trunkKey := [] }) s

/-- RETURN_MODULE (R354, R361). -/
def execReturnModule (t : Nat) (h : Hdr) (args : List TVal) (s : State) : Host.Outcome State Fault Refusal :=
  let s := tick t s
  done s (execCmd 0x10302 [.octets 16] h args (fun _ x s =>
    if argB args 0 ≠ fit 16 Config.serial then refuse (rRange 0x10302 0) s
    else
      let s := ownerGone s
      let s := changeSettings settingsGone (settingKeys s) x.client false s
      okEmpty (lcMove .returned x.client 0 s)) s)

end Sys2Proof.Machine
end

