-- ==== Sys2Proof/Machine/Sessions.lean ====
section
/-!
DEFINITION. Ibier's associations, sessions, subscriptions and COMPLETIONs (R64 to R71, R80 to R85, R92, R93, R356), and
the commands that only read the dictionary (R60, R122).
-/
namespace Sys2Proof.Machine

/-- The first of the values `1 + p (n + i)` that is not in use, for `i` below `fuel` (R48, R69, R82). -/
def nextName (p : Nat → Nat) (used : Nat → Bool) : Nat → Nat → Nat
  | 0, n => 1 + p n
  | fuel + 1, n => if used (1 + p n) then nextName p used fuel (n + 1) else 1 + p n

/-- A new session ID (R69). -/
def newSid (s : State) : Nat :=
  nextName (fun n => (Config.sidPerm (Fin.ofNat 4294967295 n)).val) (fun i => (mget s.ib.sessions i).isSome) 513 s.ib.names
/-- A new subscription ID (R82). -/
def newSub (s : State) : Nat :=
  nextName (fun n => (Config.handlePerm (Fin.ofNat 65535 n)).val) (fun i => (mget s.ib.subs i).isSome) 4097 s.ib.names
/-- A new sequence handle (R48). -/
def newHandle (s : State) : Nat :=
  nextName (fun n => (Config.handlePerm (Fin.ofNat 65535 n)).val) (fun i => (mget s.ib.seqs i).isSome) 65535 s.ib.names

/-- A session closes (R70): its subscriptions end; its sequence and the COMPLETIONs of its client stay. -/
def endSession (sid : Nat) (s : State) : State :=
  { s with ib := { s.ib with
    sessions := mdel s.ib.sessions sid
    subs := s.ib.subs.filter (fun p => p.2.sid != sid)
    assocs := s.ib.assocs.map (fun p => (p.1, if p.2.session = some sid then { p.2 with session := none } else p.2))
    heldFor := s.ib.heldFor.filter (fun p => p.1 != sid) } }

/-- The anchor row that a certificate chains to, while it is in use (R356, R372). -/
def certAnchor (s : State) (c : Cert) : Option Nat := c.anchor.filter (fun r => getC s 0x10120 r 0 == 1)

/-- The level a certificate gives (R355, R356). -/
def certLevel (s : State) (c : Cert) : Nat :=
  if s.life.state = .stock then 3
  else if s.life.state = .returned then 4
  else match certAnchor s c with
    | some r => min (min (c.ouLevel.getD 0) 3) (getC s 0x10120 r 2)
    | none => 0

/-- Whether the handshake accepts a certificate (R64, R355, R356). -/
def certTaken (s : State) (c : Cert) : Bool :=
  c.wellFormed && (s.life.state == .stock || s.life.state == .returned || (certAnchor s c).isSome || c.returnAnchor)

/-- An association ends, and its session with it (R57, R70). -/
def dropAssoc (a : Nat) (s : State) : State :=
  match mget s.ib.assocs a with
  | none => s
  | some x =>
    let s := match x.session with
      | some sid => endSession sid s
      | none => s
    { s with ib := { s.ib with assocs := mdel s.ib.assocs a } }

/-- Whether a ClientHello offers what R64 accepts. -/
def offerTaken (o : Offer13) : Bool := o.version && o.suite && o.group && o.sig

/-- DTLS_HANDSHAKE (R64, R65, R71, R355): a ClientHello beyond 16 handshakes in progress is dropped; one that offers another version,
suite, group or signature, or whose certificate fails, comes to nothing. Early data is refused whatever it holds; how long a
handshake is in progress is a free value. -/
def execDtlsHandshake (t a : Nat) (entry : Entry) (way : Way) (hello : ClientHello) (s : State) :
    Host.Outcome State Fault Refusal :=
  let s := tick t s
  let rom := (recoverer s).isSome && entry == .service
  if (active s).isNone && !rom then done s s
  else if !entryOpen s entry then done s (cntUp 0x00012 s)
  else
    let running := s.ib.handshakes.filter (fun e => decide (s.clk.fab < e))
    if 16 ≤ running.length then done s (cntUp 0x00012 s)
    else
      let s1 := draw { s with ib := { s.ib with handshakes := (s.clk.fab + freeNat s) :: running } }
      if !offerTaken hello.offered || !certTaken s hello.cert then done s s1
      else
        let s2 := dropAssoc a s1
        let x : Assoc := { entry := entry, via := way.via, peer := way.peer, recNo := 0, cert := hello.cert,
                           level := certLevel s hello.cert, session := none }
        done s (emitAs rom (.handshake a) { s2 with ib := { s2.ib with assocs := mset s2.ib.assocs a x } })

/-- Whether a module can be reached on a port (R67, R321): itself; through the master, one that TOPO lists. -/
def reachable (s : State) (m : Nat) : Bool :=
  m == modId s || (actsMaster s && decide (m < 64) && (route s m).isSome)

/-- DATAGRAM_DROP (R64, R66, R67, R72): a bad relay header, or a datagram for this module that fails authentication or is too long,
is dropped and counted. -/
def execDatagramDrop (t : Nat) (rh : RelayHdr) (auth : Bool) (size : Nat) (s : State) : Host.Outcome State Fault Refusal :=
  let s := tick t s
  let header := rh.version != 1 || decide (1 < rh.tclass) || rh.reserved != 0 || !reachable s rh.module
  let own := rh.module == modId s && (!auth || decide (1200 < size))
  if header || own then done s (cntUp 0x00012 s) else done s s

/-- DTLS_TEARDOWN (R57, R70). -/
def execDtlsTeardown (t a : Nat) (s : State) : Host.Outcome State Fault Refusal :=
  let s := tick t s
  done s (dropAssoc a s)

/-- The COMPLETIONs pending for a client (R69, R84). -/
def pendingFor (s : State) (client : Bytes) : List (Nat × Completion) := s.ib.comps.filter (fun p => p.2.client == client)

/-- Held COMPLETIONs (R85): never sent, or past the last resend. -/
def heldComp (c : Completion) : Bool := c.firstSent.isNone || decide (5 ≤ c.resends)

/-- What SETUP is refused for (R42, R65, R69, R72, R355, R356, R507). -/
def setupRefused (a : Assoc) (h : Hdr) (client : Bytes) (idle : Nat) (s : State) : Option Reply :=
  let others := s.ib.sessions.filter (fun p => p.2.client != client && p.2.entry == a.entry && a.session != some p.1)
  if headerBad 8 false h || h.sid != 0 || h.seq != 0 || client.length != 16 || decide (4294967295 < idle) then some (rType 0)
  else if h.tclass != 0 then some rAdmitClass
  else if !entryOpen s a.entry || (s.life.state == .returned) != a.cert.returnAnchor then some (rLife s)
  else if certDenied s a.cert then some (rErr stDenied (be 1 0))
  else if client.all (fun b => b == 0) then some (rRange 0 0)
  else if idle != 0 && (decide (idle < 30) || decide (86400 < idle)) then some (rRange 0 16)
  else if (match a.entry with | .trunk => 504 | .service => 8) ≤ others.length then some (rRange 0x00010 noRow)
  else none

/-- Whether a refusal of SETUP is for lack of a session (R65). -/
def lacksSession (r : Reply) : Bool := r.body == .raw (be 4 0x00010 ++ be 4 noRow)

/-- SETUP succeeds (R69): RECONNECT breaks, older sessions of the client close, the session opens. PENDING_COMPLETIONS counts
every COMPLETION of the client that is not acknowledged, DESIGN CHOICE of log entry 61. -/
def openSession (h : Hdr) (a : Assoc) (client : Bytes) (idle : Nat) (s : State) : State :=
  let s := (s.ib.seqs.filter (fun p => p.2.client == client)).foldl (fun s p => breakSeq p.1 2 s) s
  let old := s.ib.sessions.filter (fun p => p.2.client == client || a.session == some p.1)
  let s := old.foldl (fun s p => endSession p.1 s) s
  let sid := newSid s
  let level := certLevel s a.cert
  let x : Session := { client := client, level := level, assoc := h.assoc, entry := a.entry, opened := time64 s, last := time64 s,
                       lastFab := s.clk.fab, idle := if idle = 0 then getN s 0x00110 else idle, hi := none, cache := [],
                       noticeSeq := 0, broken := [] }
  let pend := pendingFor s client
  let wait := if pend.any (fun p => heldComp p.2) then [(sid, s.clk.fab + 10 * Config.msCycles)] else []
  let s := { s with ib := { s.ib with
    names := s.ib.names + 1
    sessions := mset s.ib.sessions sid x
    assocs := mset s.ib.assocs h.assoc { a with session := some sid, level := level }
    heldFor := s.ib.heldFor ++ wait } }
  refusal h (rOk (.raw (be 4 sid ++ be 1 level ++ be 1 (modId s) ++ be 2 1200 ++ be 4 pend.length))) s

/-- SETUP (R69), unless a module fault strikes first (R78, R79). -/
def execSetup (t : Nat) (h : Hdr) (client : Bytes) (idle : Nat) (s : State) : Host.Outcome State Fault Refusal :=
  let s := tick t s
  if 1200 < h.size || relayBad s h then done s (cntUp 0x00012 s)
  else match mget s.ib.assocs h.assoc with
    | none => done s (cntUp 0x00012 s)
    | some a =>
      let s := match a.session with
        | some sid => touchSession sid s
        | none => s
      match setupRefused a h client idle s with
      | some r => done s (refusal h r (if lacksSession r then cntUp 0x00011 s else s))
      | none =>
        match h.strike, active s with
        | .before code, _ => done s (refusal h (rErr stInternal (be 2 code)) s)
        | .uncertain, some l => done s (if (standby s).isSome then condemn l .lockstep s else restartLane l s)
        | _, _ => done s (openSession h a client idle s)

/-- A header with no deadline class (R68) and a HANDLE that names nothing of the session's (R50). -/
def plainRefused (h : Hdr) (sid : Nat) (x : Session) (s : State) : Option Reply :=
  match named sid x h.handle s with
  | .bad r => some r
  | .plain => if h.tclass != 0 then some rAdmitClass else none
  | .own _ _ => if h.tclass != 0 then some rAdmitClass else none

/-- CLOSE (R70). -/
def execClose (t : Nat) (h : Hdr) (s : State) : Host.Outcome State Fault Refusal :=
  let s := tick t s
  done s (request 9 false h (fun sid x s =>
    match plainRefused h sid x s with
    | some r => refuse r s
    | none => okEmpty (endSession sid s)) s)

/-- CLOSE_SESSION (R93). -/
def execCloseSession (t : Nat) (h : Hdr) (args : List TVal) (s : State) : Host.Outcome State Fault Refusal :=
  let s := tick t s
  done s (execCmd 0x00130 [cU32] h args (fun _ x s =>
    match mget s.ib.sessions (argN args 0) with
    | none => refuse (rRange 0x00130 0) s
    | some y => if x.level < y.level then refuse (rErr stDenied (be 1 y.level)) s else okEmpty (endSession (argN args 0) s)) s)

/-- SESSION_IDLE_TIMEOUT (R70). -/
def execSessionIdleTimeout (t sid : Nat) (s : State) : Host.Outcome State Fault Refusal :=
  let s := tick t s
  match mget s.ib.sessions sid with
  | none => done s s
  | some x => if x.lastFab + x.idle * Config.secCycles ≤ s.clk.fab then done s (endSession sid s) else done s s

/-- An object that exists (R43 step 1); DEPUTY exists at the master only (R327). -/
def objNow (s : State) (n : Nat) : Option ObjDesc := if n = 0x30110 ∧ !actsMaster s then none else findObj n

/-- An object that exists, and any row index inside its capacity (R43 step 1). -/
def objAt (s : State) (n row : Nat) : Option ObjDesc :=
  match objNow s n with
  | none => none
  | some d =>
    if d.cap = 0 then (if row = noRow then some d else none)
    else if row < d.cap then some d
    else none

/-- What SUBSCRIBE is refused for (R80, R82). -/
def subRefused (sid : Nat) (h : Hdr) (subId mode minSev interval : Nat) (s : State) : Option Reply :=
  let bad := 3 < mode || (subId != 0 && !((mget s.ib.subs subId).any (fun b => b.sid == sid))) || (mode == 0 && subId == 0)
    || (mode == 3 && 7 < minSev)
    || (mode == 1 && (interval < 100 || 3600000 < interval)) || (mode == 2 && (interval < 1000 || 3600000 < interval))
  let full := subId = 0 ∧ (32 ≤ (s.ib.subs.filter (fun p => p.2.sid == sid)).length ∨ 4096 ≤ s.ib.subs.length)
  let last : Option Reply :=
    if bad then some (rRange 0 noRow) else if full then some (rRange 0x00111 noRow) else none
  if mode = 3 then (if h.obj ≠ 0 then some (rType 0) else last)
  else
    match objNow s h.obj with
    | none => some (rErr stNoObject [])
    | some d =>
      if h.firstRow ≠ noRow ∧ (objAt s h.obj h.firstRow).isNone then some (rErr stNoObject [])
      else if !lifeAllows s.life.state .read h.obj then some (rLife s)
      else if d.acc = .x then some (rType 0)
      else last

/-- A subscription is set up, changed or cancelled (R82). -/
def putSub (sid : Nat) (h : Hdr) (subId mode minSev interval : Nat) (s : State) : Answer :=
  if mode = 0 then okVals [cU16] [vN subId] { s with ib := { s.ib with subs := mdel s.ib.subs subId } }
  else
    let id := if subId = 0 then newSub s else subId
    let b : Sub := { sid := sid, mode := mode, minSev := minSev, interval := interval, obj := h.obj,
                     row := if mode = 3 then noRow else h.firstRow, changes := 0, changedAt := 0, dirty := [],
                     notBefore := s.clk.fab + if mode = 2 then interval * Config.msCycles else 0 }
    okVals [cU16] [vN id] { s with ib := { s.ib with
      subs := mset s.ib.subs id b, names := if subId = 0 then s.ib.names + 1 else s.ib.names } }

/-- SUBSCRIBE (R82). -/
def execSubscribe (t : Nat) (h : Hdr) (subId mode minSev interval : Nat) (s : State) : Host.Outcome State Fault Refusal :=
  let s := tick t s
  done s (request 7 false h (fun sid x s =>
    match plainRefused h sid x s with
    | some r => refuse r s
    | none =>
      match subRefused sid h subId mode minSev interval s with
      | some r => refuse r s
      | none => putSub sid h subId mode minSev interval s) s)

/-- SUB_INTERVAL_EXPIRY (R82): what was coalesced leaves as one NOTICE. -/
def execSubIntervalExpiry (t sub : Nat) (s : State) : Host.Outcome State Fault Refusal :=
  let s := tick t s
  match mget s.ib.subs sub with
  | none => done s s
  | some b => if b.mode = 1 ∧ b.notBefore ≤ s.clk.fab then done s (flushSub sub s) else done s s

/-- SUB_PERIOD_EXPIRY (R82): CHANGES 0; a TABLE with more rows than a NOTICE holds is OVERFLOW, DESIGN CHOICE of log entry
61. -/
def execSubPeriodExpiry (t sub : Nat) (s : State) : Host.Outcome State Fault Refusal :=
  let s := tick t s
  match mget s.ib.subs sub with
  | none => done s s
  | some b =>
    if b.mode = 2 ∧ b.notBefore ≤ s.clk.fab then
      let (body, flags) := noticeBody s b (subRows b)
      let s1 := sendNotice sub b flags 0 (time64 s) b.obj body false s
      done s { s1 with ib := { s1.ib with subs := mmod s1.ib.subs sub (fun b =>
        { b with notBefore := b.notBefore + b.interval * Config.msCycles }) } }
    else done s s

/-- An ACK takes effect (R85). -/
def takeAck (sid compSeq : Nat) (h : Hdr) (s : State) : State :=
  match mget s.ib.sessions sid with
  | none => s
  | some x =>
    if h.sid != sid || headerBad 10 false h || h.seq != 0 || h.obj != 0 then s
    else
      let s := renewLease sid h.handle s
      { s with ib := { s.ib with comps := s.ib.comps.filter (fun p => !(p.2.client == x.client && p.2.compSeq == compSeq)) } }

/-- ACK (R85): no reply, no part in the window. -/
def execAck (t : Nat) (h : Hdr) (compSeq : Nat) (s : State) : Host.Outcome State Fault Refusal :=
  let s := tick t s
  if 1200 < h.size || relayBad s h then done s (cntUp 0x00012 s)
  else match mget s.ib.assocs h.assoc with
    | none => done s (cntUp 0x00012 s)
    | some a =>
      match a.session with
      | none => done s s
      | some sid => done s (takeAck sid compSeq h (touchSession sid s))

/-- The resends of R85, in ms after the first send. -/
def resendAt (i : Nat) : Nat := [500, 1000, 2000, 4000, 8000].getD i 8000

/-- COMPLETION_RESEND (R85). -/
def execCompletionResend (t comp : Nat) (s : State) : Host.Outcome State Fault Refusal :=
  let s := tick t s
  match mget s.ib.comps comp with
  | none => done s s
  | some c =>
    match c.firstSent with
    | none => done s s
    | some f =>
      if c.resends < 5 ∧ f + resendAt c.resends * Config.msCycles ≤ s.clk.fab then
        let s1 := { s with ib := { s.ib with comps := mmod s.ib.comps comp (fun c => { c with resends := c.resends + 1 }) } }
        match clientSession s1 c.client with
        | some _ => done s (sendComp comp (cntUp kCompResends s1))
        | none => done s s1
      else done s s

/-- COMPLETIONs in COMP_SEQ order. -/
def insertComp (p : Nat × Completion) : List (Nat × Completion) → List (Nat × Completion)
  | [] => [p]
  | x :: r => if p.2.compSeq < x.2.compSeq then p :: x :: r else x :: insertComp p r

/-- Send one held COMPLETION; one that was sent before counts as resent. -/
def sendHeld (s : State) (p : Nat × Completion) : State :=
  sendComp p.1 (if p.2.firstSent.isSome then cntUp kCompResends s else s)

/-- HELD_COMPLETION_SEND (R85). -/
def execHeldCompletionSend (t sid : Nat) (s : State) : Host.Outcome State Fault Refusal :=
  let s := tick t s
  match s.ib.heldFor.find? (fun p => p.1 == sid), mget s.ib.sessions sid with
  | some p, some x =>
    if p.2 ≤ s.clk.fab then
      let s1 := { s with ib := { s.ib with heldFor := s.ib.heldFor.filter (fun q => q.1 != sid) } }
      let l := ((pendingFor s1 x.client).filter (fun q => heldComp q.2)).foldl (fun l q => insertComp q l) []
      done s (l.foldl sendHeld s1)
    else done s s
  | _, _ => done s s

/-- COMPLETION_HOLD_EXPIRY (R85). -/
def execCompletionHoldExpiry (t comp : Nat) (s : State) : Host.Outcome State Fault Refusal :=
  let s := tick t s
  match mget s.ib.comps comp with
  | none => done s s
  | some c =>
    if c.created + 3600 * Config.secCycles ≤ s.clk.fab then
      done s (cntUp 0x00013 { s with ib := { s.ib with comps := mdel s.ib.comps comp } })
    else done s s

/-- TICKET_RESULT (R122). -/
def execTicketResult (t : Nat) (h : Hdr) (args : List TVal) (s : State) : Host.Outcome State Fault Refusal :=
  let s := tick t s
  done s (execCmd 0x50310 [cU32] h args (fun _ _ s =>
    match ticketOf s (argN args 0) with
    | none => refuse (rRange 0x50310 0) s
    | some k => okVals [.enum [0, 1, 2], .octets 1088] [vN k.state, .bytes (fit 1088 (noticeOf k))] s) s)

/-- The code of an access kind in DESCRIBE (R60). -/
def accessCode (a : Access) : Nat :=
  match a with
  | .ro => 1
  | .rw => 2
  | .rws => 3
  | .w1c => 4
  | .x => 5
  | .rop => 6

/-- The type tag of an object (R30). -/
def objTag (d : ObjDesc) : Nat :=
  if d.acc = .x then 16 else if d.cap ≠ 0 then 15 else match d.cols with | c :: _ => c.tag | [] => 0

/-- The limits of a numeric column (R60). -/
def colLimits (c : ColKind) : List Val :=
  match c with
  | .int _ lo hi => [.num lo, .num hi]
  | .sparse _ l => [.num ((l.headD (0, 0)).1), .num ((l.getLastD (0, 0)).2)]
  | .bool => []
  | .enum _ => []
  | .bits _ => []
  | .octets _ => []
  | .octetsVar _ _ => []
  | .text _ => []

/-- The default and the limits of a scalar, as tagged values (R60); a CMD and a TABLE have none. -/
def describeMid (s : State) (d : ObjDesc) : Bytes :=
  match d.cols with
  | c :: _ =>
    if d.acc = .x ∨ d.cap ≠ 0 then [] else tagged [c] (defRow s d.num 0) ++ tagged [c, c] (colLimits c)
  | [] => []

/-- The result block of DESCRIBE (R60). The rows of 4:0400 lie in lock groups 5 to 12 (R46); it reports 5, DESIGN CHOICE of log
entry 61. -/
def describeRow (s : State) (d : ObjDesc) : Bytes :=
  tagged [cU8, .enum [1, 2, 3, 4, 5, 6], cU8, cU8, cU8, cU32]
      [vN (objTag d), vN (accessCode d.acc), vN d.wlevel, vN 0, vN (d.group.getD 255), vN d.cap]
    ++ describeMid s d ++ tagged [.text 16] [.bytes d.unit]

/-- DESCRIBE (R60). -/
def execDescribe (t : Nat) (h : Hdr) (args : List TVal) (s : State) : Host.Outcome State Fault Refusal :=
  let s := tick t s
  done s (execCmd 0x00200 [cU32] h args (fun _ _ s =>
    match objNow s (argN args 0) with
    | none => refuse (rErr stNoObject []) s
    | some d => (s, some (rOk (.raw (describeRow s d))))) s)

end Sys2Proof.Machine
end

