-- ==== Sys2Proof/Machine/Sequences.lean ====
section
/-!
DEFINITION. READ and WRITE (R34 to R37, R43, R50, R51), exclusive sequences and their commits (R48 to R58), and the
commands that act on them (R61, R62).
-/
namespace Sys2Proof.Machine

/-- The lock group of a row (R46): cluster contexts lie in blocks of 32. -/
def groupOf (d : ObjDesc) (r : Nat) : Option Nat := if d.num = 0x40400 then some (5 + r / 32) else d.group

/-- The rows a READ returns (R34), as many frames as fit in one reply of 1,200 bytes. -/
def readRows (view : Nat → Row) (cols : List ColKind) : Nat → Nat → Nat → List (Nat × Row)
  | 0, _, _ => []
  | fuel + 1, r, room =>
    let v := view r
    let size := 6 + rowSize cols v
    if room < size then [] else (r, v) :: readRows view cols fuel (r + 1) (room - size)

/-- A row as a request sees it (R47, R50, R61). -/
def viewRow (n : Named) (d : ObjDesc) (s : State) (r : Nat) : Row :=
  match n with
  | .own _ q =>
    match groupOf d r with
    | some g => if isSetting d.num && q.groups.contains g then shadowRow q s d.num r else readObj s d.num r
    | none => readObj s d.num r
  | .plain => readObj s d.num r
  | .bad _ => readObj s d.num r

/-- READ after the checks of Ibier (R34, R43, R50). -/
def readOp (h : Hdr) (sid : Nat) (x : Session) (s : State) : Answer :=
  match objAt s h.obj h.firstRow with
  | none => refuse (rErr stNoObject []) s
  | some d =>
    if !lifeAllows s.life.state .read h.obj then refuse (rLife s) s
    else if d.acc = .x then refuse (rType 0) s
    else match plainRefused h sid x s with
      | some r => refuse r s
      | none =>
        let view := viewRow (named sid x h.handle s) d s
        if d.cap = 0 then okVals d.cols (view 0) s
        else
          let l := readRows view d.cols (min h.rowCount (d.cap - h.firstRow)) h.firstRow 1167
          (s, some (rOk (.raw (be 1 15 ++ rowFrames d.cols l))))

/-- READ (R34, R43). -/
def execRead (t : Nat) (h : Hdr) (s : State) : Host.Outcome State Fault Refusal :=
  let s := tick t s
  done s (request 1 false h (readOp h) s)

/-- The sticky bits that are allocated (R384, R425, R435, R505 and the tables of chapters 15, 18 and 19). -/
def stickyAllocated (b : Nat) : Bool :=
  b ≤ 3 || b == 16 || b == 17 || (32 ≤ b && b ≤ 34) || (48 ≤ b && b ≤ 53) || b == 64 || b == 65 || (96 ≤ b && b ≤ 98)
    || (112 ≤ b && b ≤ 114) || (128 ≤ b && b ≤ 130) || (144 ≤ b && b ≤ 149) || (160 ≤ b && b ≤ 165) || (176 ≤ b && b ≤ 178)
    || (192 ≤ b && b ≤ 200) || (208 ≤ b && b ≤ 213) || (224 ≤ b && b ≤ 230) || (240 ≤ b && b ≤ 250)

/-- Whether a value fits the encoding of its column (R30), whatever the column's range. -/
def ColKind.fits (c : ColKind) (v : Val) : Bool :=
  match c, v with
  | .bool, .num n => n == 0 || n == 1
  | c, .num n => decide (0 ≤ n ∧ n < (2 : Int) ^ (8 * tagSize c.tag))
  | _, .bytes _ => true

/-- The columns of a cluster context that is not in use: the transceivers are checked, the rest only for the encoding of
its column, none of which is signed (R30, R137, R161). -/
def idleCluster (cols : List ColKind) (row : Row) : Bool :=
  rNat row 2 ≤ 3 && rNat row 4 ≤ 3 && (cols.zip row).all (fun p => p.1.fits p.2)

/-- A written row out of range (R31, R384). -/
def writeRange (s : State) (d : ObjDesc) (r : Nat) (row : Row) : Bool :=
  if d.num = 0x40400 ∧ rNat row 0 = 0 then !idleCluster d.cols row
  else if d.num = 0xB0100 then
    !rowRange d.cols row || (List.range 32).any (fun i => bitOf (rNat row 0) i && !stickyAllocated (32 * r + i))
  else !rowRange d.cols row || rowBad s d.num r row

/-- The row index in a RANGE body (R507). -/
def rangeRow (d : ObjDesc) (r : Nat) : Nat := if d.cap = 0 then noRow else r

/-- Step 4 of R43 for a WRITE (R36). -/
def writeAccess (n : Named) (d : ObjDesc) (rows : List (Nat × Row)) : Option Reply :=
  match d.acc with
  | .ro => some (rErr stReadOnly [])
  | .rop => some (rErr stReadOnly [])
  | .x => some (rType 0)
  | .rw => none
  | .w1c => none
  | .rws =>
    match n with
    | .bad _ => none
    | .plain => some (rErr stNotInSeq [])
    | .own _ q =>
      if rows.all (fun p => match groupOf d p.1 with | some g => q.groups.contains g | none => true) then none
      else some (rErr stNotInSeq [])

/-- Step 6 of R43 for a WRITE (R37, R47, R50). -/
def writeLock (sid : Nat) (n : Named) (d : ObjDesc) (rows : List (Nat × Row)) (s : State) : Option Reply :=
  match n with
  | .bad r => some r
  | n =>
    if d.acc = .w1c then none
    else firstSome (rows.map (fun p => match groupOf d p.1 with | some g => lockCheck sid n g true s | none => none))

/-- The ladder of R43 for a WRITE. -/
def writeRefused (h : Hdr) (tag : Nat) (rows : List (Nat × Row)) (sid : Nat) (x : Session) (d : ObjDesc) (s : State) :
    Option Reply :=
  let n := named sid x h.handle s
  if rows.any (fun p => decide (d.cap ≠ 0 ∧ d.cap ≤ p.1)) then some (rErr stNoObject [])
  else if !lifeAllows s.life.state (if d.acc = .w1c then .clear else .write) h.obj then some (rLife s)
  else if x.level < d.wlevel then some (rErr stDenied (be 1 d.wlevel))
  else match writeAccess n d rows with
    | some r => some r
    | none =>
      if tag ≠ objTag d ∨ rows = [] ∨ (d.cap = 0 ∧ rows.length ≠ 1) ∨ !rows.all (fun p => rowShape d.cols p.2) then
        some (rType (objTag d))
      else match writeLock sid n d rows s with
        | some r => some r
        | none =>
          match rows.find? (fun p => writeRange s d p.1 p.2) with
          | some p => some (rRange h.obj (rangeRow d p.1))
          | none => if h.tclass != 0 then some rAdmitClass else none

/-- Whether a sequence with these shadows stays inside the limits of R51. -/
def shadowsFit (h : Nat) (q : Sequence) (s : State) : Bool :=
  let others := (s.ib.seqs.filter (fun p => p.1 != h && p.2.commit.isNone)).map (fun p => shadowBytes p.2)
  q.shadows.length + q.restores.length ≤ 4096 && shadowBytes q ≤ 262144 && others.sum + shadowBytes q ≤ 1048576

/-- Sticky bits are cleared (R37, R384, R385): a condition that still holds, or that occurred in this FAB cycle, keeps its bit;
counts stay, times go. -/
def clearSticky (rows : List (Nat × Row)) (s : State) : State :=
  let mask : BitVec 256 := rows.foldl (fun m p => m ||| BitVec.ofNat 256 (rNat p.2 0 * 2 ^ (32 * p.1))) 0
  let gone := mask &&& s.dict.sticky &&& ~~~s.dict.live
  let bits := (List.range 256).filter (fun b => gone.getLsbD b && mget s.dict.stuckAt b != some s.clk.fab)
  let gone := bits.foldl (fun m b => m ||| BitVec.twoPow 256 b) 0
  let s := bits.foldl (fun s b => putRow 0xB0101 b (lset (lset (getRow s 0xB0101 b) 0 (vN 0)) 1 (vN 0)) s) s
  { s with dict := { s.dict with sticky := s.dict.sticky &&& ~~~gone } }

/-- A W1C write (R37). -/
def clearBits (n : Nat) (rows : List (Nat × Row)) (s : State) : State :=
  if n = 0xB0100 then clearSticky rows s
  else
    let m := match rows with | p :: _ => rNat p.2 0 | [] => 0
    { s with dict := { s.dict with semReset := s.dict.semReset &&& ~~~(BitVec.ofNat 12 m) } }

/-- A row as it is stored: bits 3 to 8 and 10 of TAMPER_MASK read 1, whatever is written (R363, R372). -/
def storedRow (n : Nat) (row : Row) : Row := if n = 0x10100 then [vN (rNat row 0 ||| 0x5F8)] else row

/-- The rows of a WRITE by object and row; a row named twice takes its last value. -/
def writeMap (d : ObjDesc) (rows : List (Nat × Row)) : NMap Row :=
  rows.foldl (fun m p => mset m (okey d.num (if d.cap = 0 then 0 else p.1)) (storedRow d.num p.2)) []

/-- A WRITE takes effect (R37, R39, R50, R51, R53, R63). -/
def writeOp (h : Hdr) (rows : List (Nat × Row)) (sid : Nat) (x : Session) (d : ObjDesc) (s : State) : Answer :=
  let m := writeMap d rows
  let ks := m.map (fun p => p.1)
  if d.acc = .w1c then okEmpty (clearBits d.num rows s)
  else match named sid x h.handle s with
    | .bad r => refuse r s
    | .own hd q =>
      let q' := { q with shadows := m.foldl (fun st p => mset st p.1 p.2) q.shadows }
      if shadowsFit hd q' s then okEmpty { s with ib := { s.ib with seqs := mset s.ib.seqs hd q' } }
      else refuse (rRange 0x00211 noRow) s
    | .plain =>
      match changeRefused s (withRows m s) ks [] with
      | some r => refuse r s
      | none =>
        let s1 := changeSettings (withRows m) ks x.client true s
        if d.num = 0x70140 then okAsn (applyAsn s) s1 else okEmpty s1

/-- The row a WRITE names in its header (R72): a table's rows travel in the body, so FFFF_FFFFh stands for row 0 there;
DEDUCED (log entry 22). -/
def writeRow (h : Hdr) : Nat := if h.firstRow = noRow ∧ capOfObj h.obj ≠ 0 then 0 else h.firstRow

/-- WRITE (R34, R36, R39, R43). -/
def execWrite (t : Nat) (h : Hdr) (tag : Nat) (rows : List (Nat × Row)) (s : State) : Host.Outcome State Fault Refusal :=
  let s := tick t s
  done s (request 2 false h (fun sid x s =>
    match objAt s h.obj (writeRow h) with
    | none => refuse (rErr stNoObject []) s
    | some d =>
      match writeRefused h tag rows sid x d s with
      | some r => refuse r s
      | none => writeOp h rows sid x d s) s)

/-- The groups of a mask, rising. -/
def maskGroups (m : Nat) : List Nat := (List.range 32).filter (bitOf m)

/-- The highest group a sequence holds. -/
def highest (q : Sequence) : Nat := q.groups.foldl max 0

/-- The first group of those named that is held by another session, or by this session's own accepted commit (R48, R49). -/
def takenBy (sid : Nat) (gs : List Nat) (s : State) : Option Sequence :=
  firstSome (gs.map (fun g => match holder s g with
    | some (_, q) => if q.sid = sid && q.commit.isNone then none else some q
    | none => none))

/-- What SEQ-OPEN is refused for (R42, R46, R48, R49); where more than one holds, ORDER, then LOCKED, then RANGE, DESIGN CHOICE of
log entry 61. -/
def openRefused (mask lease sid : Nat) (x : Session) (n : Named) (s : State) : Option Reply :=
  let gs := maskGroups mask
  let named_ : Option Reply := match n with
    | .bad r => some r
    | .own _ q => if gs.any (fun g => g ≤ highest q) then some (rErr stOrder (be 1 (highest q))) else none
    | .plain => none
  let second : Bool := match n with
    | .plain => s.ib.seqs.any (fun p => p.2.sid == sid && p.2.commit.isNone)
    | _ => false
  if gs.contains 31 ∧ s.life.state ≠ .returned then some (rLife s)
  else if gs.contains 31 ∧ x.level < 4 then some (rErr stDenied (be 1 4))
  else match named_ with
    | some r => some r
    | none =>
      match takenBy sid gs s with
      | some q => some (rLocked s q)
      | none =>
        if second || gs.isEmpty || gs.any (fun g => 28 ≤ g && g ≤ 30) then some (rRange 0x00210 noRow)
        else if lease ≠ 0 ∧ lease < 5 then some (rRange 0x00250 noRow)
        else if getN s 0x00251 < lease then some (rRange 0x00251 noRow)
        else none

/-- SEQ-OPEN takes effect (R48). -/
def openSeq (mask lease sid : Nat) (x : Session) (n : Named) (s : State) : Answer :=
  let gs := maskGroups mask
  match n with
  | .bad r => refuse r s
  | .own h q =>
    let len := if lease = 0 then q.leaseLen else lease
    let q' := { q with groups := q.groups ++ gs, leaseLen := len, leaseEnd := s.clk.fab + len * Config.secCycles }
    okVals [cU16] [vN h] { s with ib := { s.ib with seqs := mset s.ib.seqs h q' } }
  | .plain =>
    let h := newHandle s
    let len := if lease = 0 then getN s 0x00250 else lease
    let q : Sequence := { sid := sid, client := x.client, groups := gs, leaseLen := len,
                          leaseEnd := s.clk.fab + len * Config.secCycles, shadows := [], restores := [], commit := none }
    okVals [cU16] [vN h] { s with ib := { s.ib with seqs := mset s.ib.seqs h q, names := s.ib.names + 1 } }

/-- SEQ-OPEN (R48, R49). -/
def execSeqOpen (t : Nat) (h : Hdr) (mask lease : Nat) (s : State) : Host.Outcome State Fault Refusal :=
  let s := tick t s
  done s (request 4 false h (fun sid x s =>
    let n := named sid x h.handle s
    match openRefused mask lease sid x n s with
    | some r => refuse r s
    | none => if h.tclass != 0 then refuse rAdmitClass s else openSeq mask lease sid x n s) s)

/-- A commit is refused, or accepted with its apply ASN and journalled (R53, R54). -/
def commitOp (hd : Nat) (q : Sequence) (s : State) : Answer :=
  let before := (accepted s).foldl (fun v p => overlay p.2 v) s
  match changeRefused before (overlay q before) (seqKeys q before) q.restores with
  | some r => refuse r s
  | none =>
    let a := applyAsn s
    let s := { s with ib := { s.ib with
      seqs := mset s.ib.seqs hd { q with commit := some (a, s.ib.orderNext) }, orderNext := s.ib.orderNext + 1 } }
    okAsn a (journal (.commit hd a) s)

/-- SEQ-COMMIT (R53, R54). -/
def execSeqCommit (t : Nat) (h : Hdr) (s : State) : Host.Outcome State Fault Refusal :=
  let s := tick t s
  done s (request 5 false h (fun sid x s =>
    match named sid x h.handle s with
    | .plain => refuse (rErr stNotInSeq []) s
    | .bad r => refuse r s
    | .own hd q => if h.tclass != 0 then refuse rAdmitClass s else commitOp hd q s) s)

/-- SEQ-ABORT (R56). -/
def execSeqAbort (t : Nat) (h : Hdr) (s : State) : Host.Outcome State Fault Refusal :=
  let s := tick t s
  done s (request 6 false h (fun sid x s =>
    match named sid x h.handle s with
    | .plain => refuse (rErr stNotInSeq []) s
    | .bad r => refuse r s
    | .own hd _ =>
      if h.tclass != 0 then refuse rAdmitClass s
      else okEmpty { s with ib := { s.ib with seqs := mdel s.ib.seqs hd } }) s)

/-- LEASE_EXPIRY (R52, R57): a sequence that a calibration in progress names keeps its lease (R242). -/
def execLeaseExpiry (t hd : Nat) (s : State) : Host.Outcome State Fault Refusal :=
  let s := tick t s
  match mget s.ib.seqs hd with
  | none => done s s
  | some q =>
    if q.commit.isNone ∧ q.leaseEnd ≤ s.clk.fab ∧ !(s.met.cal.any (fun j => j.handle == hd)) then done s (breakSeq hd 1 s)
    else done s s

/-- The accepted commits whose apply ASN has come apply, in order of acceptance (R54). -/
def applyDue (s : State) : State :=
  ((accepted s).filter (fun p => decide ((p.2.commit.getD (0, 0)).1 ≤ asn s))).foldl (fun s p => applyCommit p.1 s) s

/-- COMMIT_APPLY (R54). -/
def execCommitApply (t : Nat) (s : State) : Host.Outcome State Fault Refusal :=
  let s := tick t s
  done s (applyDue s)

/-- BREAK_LOCK (R57, R62). -/
def execBreakLock (t : Nat) (h : Hdr) (args : List TVal) (s : State) : Host.Outcome State Fault Refusal :=
  let s := tick t s
  done s (execCmd 0x00220 [cU8] h args (fun _ _ s =>
    let g := argN args 0
    if 31 < g ∨ (28 ≤ g ∧ g ≤ 30) then refuse (rRange 0x00220 0) s
    else match holder s g with
      | none => okEmpty s
      | some (hd, q) => if q.commit.isSome then refuse (rLocked s q) s else okEmpty (breakSeq hd 3 s)) s)

/-- The lock groups of a bank (R46). -/
def bankGroups (b : Nat) : List Nat :=
  if b = 0 then [0] else if b = 2 then [2] else if b = 3 then [3]
  else if b = 4 then [4, 5, 6, 7, 8, 9, 10, 11, 12, 27]
  else if b = 5 then [13] else if b = 6 then [14, 15] else if b = 7 then [16, 17] else if b = 8 then [18, 19]
  else if b = 9 then [20, 21] else if b = 10 then [22] else if b = 11 then [23] else if b = 12 then [24]
  else if b = 13 then [25] else if b = 14 then [26] else []

/-- A bank restore enters a sequence's shadows (R61). -/
def restoreShadow (b : Nat) (q : Sequence) : Sequence :=
  { q with shadows := q.shadows.filter (fun p => p.1 / 4294967296 / 65536 != b), restores := insertNat b q.restores }

/-- RESTORE_DEFAULTS (R61). -/
def execRestoreDefaults (t : Nat) (h : Hdr) (args : List TVal) (s : State) : Host.Outcome State Fault Refusal :=
  let s := tick t s
  done s (execCmd 0x00240 [cU8] h args (fun sid x s =>
    let b := argN args 0
    match named sid x h.handle s with
    | .plain => refuse (rErr stNotInSeq []) s
    | .bad r => refuse r s
    | .own hd q =>
      if b = 1 ∨ 14 < b then refuse (rRange 0x00240 0) s
      else if !(bankGroups b).all (fun g => q.groups.contains g) then refuse (rErr stNotInSeq []) s
      else if !shadowsFit hd (restoreShadow b q) s then refuse (rRange 0x00211 noRow) s
      else okEmpty { s with ib := { s.ib with seqs := mset s.ib.seqs hd (restoreShadow b q) } }) s)

end Sys2Proof.Machine
end

