-- ==== Sys2Proof/Machine/TimeCmds.lean ====
section
/-!
DEFINITION. The commands of the time base, calendar and alarms (chapter 12), and PTP (R320).
-/
namespace Sys2Proof.Machine

/-- Whether a port is the slave port (R320): toward the node that acts as master, at any other node. -/
def isSlavePort (s : State) (p : Nat) : Bool := !actsMaster s && route s (masterId s) == some p

/-- Change the time base. -/
def updTime (f : TimeBase → TimeBase) (s : State) : State := { s with time := f s.time }

/-- The module enters HOLDOVER (R331): its sticky fault and record. -/
def enterHoldover (s : State) : State :=
  let s := updTime (fun x => { x with holdover := true, holdoverAt := s.clk.fab, locked := false, offsetRun := 0, goodRun := 0 }) s
  record 0x2010 4 0 (beI 4 (getI s 0x20013) ++ be 4 s.trunk.tgen) (stickySet 33 0 s)

/-- HOLDOVER ends (R331): its seconds stay readable. -/
def endHoldover (s : State) : State :=
  let sec := (s.clk.fab - s.time.holdoverAt) / Config.secCycles
  putN 0x20014 (sec % 4294967296 : Nat) (updTime (fun x => { x with holdover := false }) s)

/-- A member's correction on relock or first acquisition (R331, R333, R335): TAI slewed or stepped; past a step the slot
timer is slewed alone. -/
def relock (corr : Int) (slewAsn : Bool) (s : State) : State :=
  let s := updTime (fun x => { x with asnSlewing := slewAsn && decide (4000 ≤ corr.natAbs) }) s
  if (corr.natAbs : Int) ≤ stepLimit then timeLog 4 corr false noClient (startSlew corr s)
  else
    let s := stepTai corr 4 noClient s
    if slewAsn then
      let s := foldAslew s
      { s with clk := { s.clk with aslew := some { amt := corr, start := s.clk.fab } } }
    else s

/-- Whether the offset has stayed within ±10 µs (R330); at the first lock the cascade's ASN is adopted (R127). -/
def lockCheckPtp (offset : Int) (s : State) : State :=
  let run := if offset.natAbs ≤ 10000 then s.time.offsetRun + 1 else 0
  let s := updTime (fun x => { x with offsetRun := min run 8, locked := decide (8 ≤ run) }) s
  if 8 ≤ run ∧ !s.time.everLocked then
    let s := match s.trunk.topo with | some m => adoptAsn m.anchor s | none => s
    startupMark 5 (updTime (fun x => { x with everLocked := true }) s)
  else s

/-- A valid Sync on the slave port (R320, R330, R331, R333, R334). -/
def syncHeard (offset : Int) (s : State) : State :=
  let corr : Int := -(offset * 2 / 5)
  let big := decide (stepLimit < corr.natAbs)
  let s := putN 0x20013 (max (-2147483648) (min 2147483647 offset)) s
  let good := s.time.goodRun + 1
  let s := updTime (fun x => { x with lastSync := s.clk.fab, misses := 0, goodRun := good }) s
  if s.time.conflict && big then s
  else
    let s := if s.time.conflict then
        condSet 34 0 false (updTime (fun x => { x with conflict := false, unexplained := none, held := false }) s)
      else s
    if !s.time.everLocked then lockCheckPtp offset (if s.time.offsetRun = 0 || big then relock corr false s else startSlew corr s)
    else if s.time.holdover then
      if good < 2 then s else lockCheckPtp offset (relock corr true (endHoldover s))
    else if big then
      updTime (fun x => { x with unexplained := some (x.unexplained.getD s.clk.fab), held := true, locked := false, offsetRun := 0 })
        { foldSlew s with clk := { (foldSlew s).clk with slew := none } }
    else
      lockCheckPtp offset (startSlew corr (updTime (fun x => { x with unexplained := none, held := false }) s))

/-- PTP_SYNC (R320): a message without a valid TLV is discarded and counted. -/
def execPtpSync (t : Nat) (p : Fin 2) (offset : Int) (tlvOk : Bool) (s : State) : Host.Outcome State Fault Refusal :=
  let s := tick t s
  if (portOf s p.val).state < 3 then done s s
  else if !tlvOk then done s (cntUp 0x30015 s)
  else if isSlavePort s p.val then done s (icuRaise 122 (syncHeard offset s))
  else done s s

/-- PTP_SYNC_SEND (R320): a Sync on a master port, with an Announce once a second. -/
def execPtpSyncSend (t : Nat) (p : Fin 2) (s : State) : Host.Outcome State Fault Refusal :=
  let s := tick t s
  if (portOf s p.val).state < 3 ∨ isSlavePort s p.val then done s s
  else
    let dom := getN s 0x30120
    let s1 := emit (.ptpSync p.val dom (time64 s)) s
    if ((portOf s1 p.val).announced).any (fun a => decide (s.clk.fab < a + Config.secCycles)) then done s s1
    else done s (emit (.ptpAnnounce p.val dom) (updPort p.val (fun x => { x with announced := some s.clk.fab }) s1))

/-- PDELAY_EXCHANGE (R313, R320): the measured round trip, and LINK_LONG above 220 µs. -/
def execPdelayExchange (t : Nat) (p : Fin 2) (roundTrip : Nat) (s : State) : Host.Outcome State Fault Refusal :=
  let s := tick t s
  if (portOf s p.val).state < 3 then done s s
  else done s (portConds p.val (updPort p.val (fun x => { x with
    rtt := min roundTrip 4294967295, long := decide (220000 < roundTrip), exchanges := x.exchanges + 1 }) s))

/-- How long after the last good Sync its n-th miss counts (R331): 150 ms the first, 375 ms the third; the second between them at the
Sync interval. DESIGN CHOICE for the second (log entry 67). -/
def missAfter (n : Nat) : Nat := max 150 (125 * n) * Config.msCycles

/-- SYNC_MISS (R331): the third miss enters HOLDOVER. -/
def execSyncMiss (t : Nat) (s : State) : Host.Outcome State Fault Refusal :=
  let s := tick t s
  if actsMaster s ∨ (s.trunk.topo).isNone ∨ s.clk.fab < s.time.lastSync + missAfter (min 3 (s.time.misses + 1)) then done s s
  else
    let s1 := cntUp 0x2001A (updTime (fun x => { x with misses := x.misses + 1, goodRun := 0 }) s)
    if s1.time.misses = 3 ∧ s1.time.everLocked ∧ !s1.time.holdover then done s (enterHoldover s1) else done s s1

/-- ASN_CONFLICT_TIMEOUT (R334): an offset unexplained for 3 s. -/
def execAsnConflictTimeout (t : Nat) (s : State) : Host.Outcome State Fault Refusal :=
  let s := tick t s
  match s.time.unexplained with
  | none => done s s
  | some u =>
    if u + 3 * Config.secCycles ≤ s.clk.fab ∧ !s.time.conflict then
      let s1 := condSet 34 0 true (updTime (fun x => { x with conflict := true }) s)
      done s (if s1.time.holdover then s1 else enterHoldover s1)
    else done s s

/-- ASN_SLEW_DONE (R335): the difference is below 10 µs. -/
def execAsnSlewDone (t diff : Nat) (s : State) : Host.Outcome State Fault Refusal :=
  let s := tick t s
  if s.time.asnSlewing ∧ diff < 10000 then done s (updTime (fun x => { x with asnSlewing := false }) (foldAslew s)) else done s s

/-- A lane's RTC realigned to the FAB counter (R328); its second reaches A1 (R405). -/
def realign (l : Lane) (s : State) : State :=
  if (s.lanes.get l).running && !(s.time.rtcs.get l).stopped then
    icuRaiseAt l 11 (updTime (fun x => { x with rtcs := x.rtcs.upd l (fun r => { r with realigned := s.clk.fab }) }) s)
  else s

/-- Whether the RTCs disagree by more than 1 s (R328): one stands still while the other runs. -/
def rtcDisagree (s : State) : Bool :=
  let a := s.time.rtcs.a
  let b := s.time.rtcs.b
  (a.stopped && !b.stopped && decide (a.realigned + Config.secCycles < b.realigned))
    || (b.stopped && !a.stopped && decide (b.realigned + Config.secCycles < a.realigned))

/-- What a correction in the journal has reached in the RTC at a realignment (R333). -/
def journalReached (d : Int) (e : JEntry) : JEntry :=
  match e with
  | .timeSet c _ => .timeSet c d
  | .commit a b => .commit a b
  | .ticket a => .ticket a
  | .powerFail a => .powerFail a
  | .fwCommit a => .fwCommit a
  | .life a => .life a

/-- The samples of summary quantities taken each second (R383). -/
def secondSamples (s : State) : State :=
  let s := match active s with | some l => sumSample 0x18 (healthOf s l) s | none => s
  let s := match standby s with | some l => sumSample 0x19 (healthOf s l) s | none => s
  let s := sumSample 0x25 (rNat (readObj s 0x70010 0) 0) (sumSample 0x24 s.trk.secEvents s)
  let s := { s with trk := { s.trk with secEvents := 0 } }
  let s := if 3 ≤ (portOf s 0).state then sumSample 0x28 (portOf s 0).rtt s else s
  if 3 ≤ (portOf s 1).state then sumSample 0x29 (portOf s 1).rtt s else s

/-- RTC_REALIGN (R328, R333, R383): each second. -/
def execRtcRealign (t : Nat) (s : State) : Host.Outcome State Fault Refusal :=
  let s := tick t s
  let s1 := realign .B (realign .A s)
  let s1 := condSet 32 0 (rtcDisagree s1) s1
  let d := slewDone s1.clk.fab s1.clk.slew
  let s1 := { s1 with dict := { s1.dict with journal := s1.dict.journal.map (journalReached d) } }
  done s (secondSamples s1)

/-- RTC_COMPENSATION (R328, R383): every 60 s from the battery-domain temperature. -/
def execRtcCompensation (t : Nat) (temp : Int) (s : State) : Host.Outcome State Fault Refusal :=
  let s := tick t s
  let v := max (-32768) (min 32767 temp)
  let s1 := updTime (fun x => { x with rtcs := { a := { x.rtcs.a with temp := v }, b := { x.rtcs.b with temp := v } } }) s
  done s (sumSample 0x14 v (putC 0x00411 0 2 (.num v) s1))

/-- RATE_TRIM within its range (R332, 2:0015). -/
def clampTrim (v : Int) : Int := max (-5000) (min 5000 v)

/-- A trim is computed (R330, R332). -/
def setTrim (source : Nat) (v : Int) (s : State) : State :=
  updTime (fun x => { x with trimmed := true }) (putN 0x20016 source (putN 0x20015 (clampTrim v) s))

/-- PTP_TRIM_UPDATE (R332): every 64 s while PTP_LOCKED. -/
def execPtpTrimUpdate (t : Nat) (rate : Int) (s : State) : Host.Outcome State Fault Refusal :=
  let s := tick t s
  if s.time.locked then
    let s1 := updTime (fun x => { x with rtcs := { a := { x.rtcs.a with rate := clampTrim rate }, b := { x.rtcs.b with rate := clampTrim rate } } }) s
    done s (setTrim 1 rate s1)
  else done s s

/-- MAINS_TRIM_WINDOW (R332): a 1,000 s window, in 0.1 ppm against NOMINAL_F; more than 200 ppm is discarded; the trim
moves at most 1.0 ppm toward the mean of the last 64. -/
def execMainsTrimWindow (t cycles : Nat) (s : State) : Host.Outcome State Fault Refusal :=
  let s := tick t s
  if s.time.locked || !mainsTrim s then done s s
  else
    let want : Int := if getN s 0x80103 = 0 then 50000 else 60000
    let dev : Int := ((cycles : Int) - want) * 10000000 / want
    if 2000 < dev.natAbs then done s s
    else
      let w := (dev :: s.time.windows).take 64
      let mean : Int := w.sum / w.length
      let old := getI s 0x20015
      let step := max (-10) (min 10 (mean - old))
      done s (setTrim 2 (old + step) (updTime (fun x => { x with windows := w }) s))

/-- OSC_STOP_DETECT (R337): no edge for 4 ms; at the active lane's RTC it sets OSC_STOPPED. -/
def execOscStopDetect (t : Nat) (l : Lane) (s : State) : Host.Outcome State Fault Refusal :=
  let s := tick t s
  done s (updTime (fun x => { x with
    oscStopped := x.oscStopped || active s == some l
    rtcs := x.rtcs.upd l (fun r => { r with stopped := true, stops := r.stops + 1 }) }) s)

/-- The correction of a TIME_SET in cycles (R336): what PTP last showed for TRUNK, else to the given time. -/
def timeSetCorr (src time : Nat) (s : State) : Int :=
  if src = 0 then -(getI s 0x20013 * 2 / 5) else (ofTime64 time : Int) - tai s

/-- Whether a TIME_SET source is accepted here (R336). -/
def timeSourceOk (src : Nat) (s : State) : Bool :=
  if src = 0 then !actsMaster s && getN s 0x30105 != 2 && timeQuality s == 0
  else actsMaster s || getN s 0x30105 == 2

/-- The correction of an accepted TIME_SET begins (R333, R334): a step waits for the first superframe boundary at least
40 ms ahead, and the master floods TOPO with the moved ASN_ANCHOR. -/
def beginCorrection (corr : Int) (src : Nat) (client : Bytes) (s : State) : State :=
  let had := s.time.pendingStep.isSome
  let stepped := decide (stepLimit < corr.natAbs)
  let s := journalErase (fun e => match e with | .timeSet _ _ => true | _ => false) s
  let s := if corr = 0 then s else journal (.timeSet corr 0) s
  let s := if stepped then
      let s := foldSlew s
      updTime (fun x => { x with pendingStep := some (corr, boundaryAfter s (40 * Config.msCycles), src, client) }) s
    else timeLog src corr false client (startSlew corr (updTime (fun x => { x with pendingStep := none }) s))
  if (stepped || had) && actsMaster s && commissioned s && s.trunk.topo.isSome then issueTopo (buildTopo s) false s else s

/-- TIME_SET (R336). -/
def execTimeSet (t : Nat) (h : Hdr) (args : List TVal) (s : State) : Host.Outcome State Fault Refusal :=
  let s := tick t s
  done s (execCmd 0x20300 [.enum [0, 1, 2, 3], cTime] h args (fun _ x s =>
    let src := argN args 0
    let time := argN args 1
    if !timeSourceOk src s then refuse (rRange 0x20300 0) s
    else if (tai s : Int) + timeSetCorr src time s < (Config.secCycles : Int) then refuse (rRange 0x20300 1) s
    else
      let unset := timeUnset s
      let s := foldSlew s
      let corr := timeSetCorr src time s
      let stepped := decide (stepLimit < corr.natAbs)
      let s := beginCorrection corr src x.client s
      let s := putN 0x20017 (if src = 0 then time64 s else time : Nat) (putN 0x2001B src s)
      let s := updTime (fun x => { x with
        oscStopped := false, trimmed := x.trimmed && !x.oscStopped,
        rtcs := { a := { x.rtcs.a with stopped := false }, b := { x.rtcs.b with stopped := false } } }) s
      let s := if unset && !stepped then alarmsMoved s else s
      okVals [cS64, .bool] [.num (corr * 5 / 2), vB stepped] s) s)

/-- TIME_STEP (R334): at the boundary TAI is stepped; the ASN continues. -/
def execTimeStep (t : Nat) (s : State) : Host.Outcome State Fault Refusal :=
  let s := tick t s
  match s.time.pendingStep with
  | none => done s s
  | some (corr, a, src, client) =>
    if asn s < a then done s s
    else
      let s1 := journalErase (fun e => match e with | .timeSet _ _ => true | _ => false) s
      done s (stepTai corr src client (updTime (fun x => { x with pendingStep := none }) s1))

/-- SLEW_COMPLETE (R333). -/
def execSlewComplete (t : Nat) (s : State) : Host.Outcome State Fault Refusal :=
  let s := tick t s
  match s.clk.slew with
  | none => done s s
  | some w =>
    if slewDone s.clk.fab (some w) = w.amt then
      done s (journalErase (fun e => match e with | .timeSet _ _ => true | _ => false) (foldSlew s))
    else done s s

/-- LEAP_INSTANT (R341): UTC_OFFSET takes the new value and LEAP_NEXT clears; the counter does not move. -/
def execLeapInstant (t : Nat) (s : State) : Host.Outcome State Fault Refusal :=
  let s := tick t s
  let r := getRow s 0x20101 0
  if rNat r 0 ≠ 0 ∧ rNat r 0 ≤ time64 s then
    done s (putRow 0x20101 0 [.num 0, .num 0] (putN 0x20100 (rInt r 1) s))
  else done s s

/-- ALARM_FIRE (R340): an instance is reached; STEPPED clear. -/
def execAlarmFire (t : Nat) (row : Fin 32) (s : State) : Host.Outcome State Fault Refusal :=
  let s := tick t s
  let cfg := getRow s 0x20130 row.val
  let nx := rNat (getRow s 0x20131 row.val) 0
  if rNat cfg 0 = 1 ∧ nx ≠ 0 ∧ nx ≤ time64 s ∧ !timeUnset s then
    done s (alarmFireRow row.val nx (alarmNext cfg nx) false 0 s)
  else done s s

end Sys2Proof.Machine
end

