-- ==== Sys2Proof/Machine/Trunk.lean ====
section
/-!
DEFINITION. The commands of the trunk (chapter 11).
-/
namespace Sys2Proof.Machine

/-- SFP_INSERT (R305, R486): an SFP that is no 1000BASE-X one, or that draws too much, stays in state 1. -/
def execSfpInsert (t : Nat) (p : Fin 2) (is1000X overCurrent : Bool) (s : State) : Host.Outcome State Fault Refusal :=
  let s0 := tick t s
  let s := linkEnds p.val s0
  let ok := is1000X && !overCurrent
  let s := updPort p.val (fun x => { x with present := true, state := 1, negotiated := false, started := s.clk.fab,
                                            unsuit := !ok }) s
  done s0 (icuRaise (14 + p.val) (condSet 50 p.val ((portOf s 0).unsuit || (portOf s 1).unsuit) s))

/-- AUTONEG_DONE (R305, R309): the port goes to the handshake with a fresh nonce, and HELLO leaves. -/
def execAutonegDone (t : Nat) (p : Fin 2) (s : State) : Host.Outcome State Fault Refusal :=
  let s0 := tick t s
  let q := portOf s0 p.val
  if q.state = 1 ∧ q.present ∧ !q.unsuit then
    done s0 (sendHello p.val (updPort p.val (fun x => { x with
      state := 2, negotiated := true, started := s0.clk.fab, nonce := freeNat s0 % 2 ^ 64 }) (draw s0)))
  else done s0 s0

/-- AUTONEG_TIMEOUT (R305): no base page within 2 s restarts the link start. -/
def execAutonegTimeout (t : Nat) (p : Fin 2) (s : State) : Host.Outcome State Fault Refusal :=
  let s := tick t s
  let q := portOf s p.val
  if q.state = 1 ∧ q.present ∧ q.started + 2 * Config.secCycles ≤ s.clk.fab then
    done s (updPort p.val (fun x => { x with started := s.clk.fab, negotiated := false }) s)
  else done s s

/-- A tamper notice in a HELLO (R366): the row of NEIGHBOUR_TAMPER, its sticky bit, and a record when its content
changes. -/
def noticeHeard (p node : Nat) (n : Bytes) (s : State) : State :=
  let n := fit 16 n
  let row := getRow s 0x10040 p
  let new := !(rOct row 1 == n && rNat row 0 == node && rNat row 3 != 0)
  let s := putRow 0x10040 p [vN node, .bytes n, vN (if new then time64 s else rNat row 2), vN (time64 s)] s
  let s := stickySet 17 p s
  if new then record 0x1012 7 p (be 1 node ++ be 3 0 ++ n) s else s

/-- Whether the ID a neighbour presents already stands elsewhere in the ring (R303). -/
def dupId (s : State) (p : Nat) (id : Nat) : Bool :=
  id == modId s || (match s.trunk.topo with
    | none => false
    | some m =>
      match nodeIndex m id, nodeIndex m (modId s) with
      | some j, some i =>
        let n := m.entries.length
        let beside := if p = 1 then (i + 1) % n else (i + n - 1) % n
        j != beside && (hopUp s m j || hopUp s m (j + n - 1))
      | _, _ => false)

/-- HELLO (R302, R303, R309, R366). -/
def execHello (t : Nat) (p : Fin 2) (m : HelloMsg) (s : State) : Host.Outcome State Fault Refusal :=
  let s0 := tick t s
  let q := portOf s0 p.val
  if q.state < 2 then done s0 s0
  else match m.notice with
    | some n =>
      let s := if 3 ≤ q.state then updPort p.val (fun x => { x with state := 2, negotiated := true }) (linkEnds p.val s0) else s0
      done s0 (noticeHeard p.val m.node n s)
    | none =>
      let s := if 3 ≤ q.state then updPort p.val (fun x => { x with state := 2, negotiated := true }) (linkEnds p.val s0) else s0
      if m.role = 4 ∨ m.node = 255 ∨ (m.part = 1 ∧ m.role = 0) then done s0 s
      else if m.cascade != getN s 0x30100 || !commissioned s then done s0 (cntUp 0x30015 s)
      else
        let s := updPort p.val (fun x => { x with
          peer := some m, miswired := m.port == p.val, dup := dupId s p.val m.node }) s
        let s := portConds p.val s
        let s := if 3 ≤ q.state then sendHello p.val s else s
        if modId s < m.node ∧ !isTampered s then done s0 (sendProof false p.val m s) else done s0 s

/-- HELLO_RETRY (R305): with no valid answer within 100 ms HELLO is repeated. -/
def execHelloRetry (t : Nat) (p : Fin 2) (s : State) : Host.Outcome State Fault Refusal :=
  let s := tick t s
  if (portOf s p.val).state = 2 ∧ (portOf s p.val).started + 100 * Config.msCycles ≤ s.clk.fab then
    done s (sendHello p.val (updPort p.val (fun x => { x with started := s.clk.fab }) s))
  else done s s

/-- TAMPER_HELLO (R366): every 100 ms on both ports while TAMPERED. -/
def execTamperHello (t : Nat) (s : State) : Host.Outcome State Fault Refusal :=
  let s := tick t s
  if isTampered s then done s (sendHello 1 (sendHello 0 s)) else done s s

/-- A handshake answer (R303, R309): a bad proof or nonce leaves the port in state 2 and is counted. -/
def handshake (isOffer : Bool) (p : Nat) (m : OfferMsg) (s : State) : State :=
  let q := portOf s p
  match q.peer with
  | none => s
  | some h =>
    if q.state != 2 || (if isOffer then decide (modId s ≤ h.node) else decide (h.node < modId s)) || isTampered s then s
    else if !m.proofOk || !m.nonceOk then cntUp 0x30015 s
    else linkStart p m (if isOffer then sendProof true p h s else s)

/-- OFFER (R309): received at the end with the higher node ID, which answers with ACCEPT. -/
def execOffer (t : Nat) (p : Fin 2) (m : OfferMsg) (s : State) : Host.Outcome State Fault Refusal :=
  let s := tick t s
  done s (handshake true p.val m s)

/-- ACCEPT (R309): completes the handshake at the end with the lower node ID. -/
def execAccept (t : Nat) (p : Fin 2) (m : OfferMsg) (s : State) : Host.Outcome State Fault Refusal :=
  let s := tick t s
  done s (handshake false p.val m s)

/-- LINK_DOWN (R306, R317, R318). -/
def execLinkDown (t : Nat) (p : Fin 2) (s : State) : Host.Outcome State Fault Refusal :=
  let s := tick t s
  if (portOf s p.val).state < 2 then done s s else done s (linkEnds p.val s)

/-- The trunk class a message type travels in (R308): classes allowed. -/
def mtypeClasses (m : Nat) : List Nat :=
  if [0x01, 0x02, 0x03, 0x04, 0x05, 0x06, 0x07, 0x08, 0x11].contains m then [0]
  else if m = 0x10 then [1, 2]
  else if [0x12, 0x13, 0x33].contains m then [2]
  else if m = 0x20 then [3]
  else if m = 0x31 ∨ m = 0x32 then [1]
  else []

/-- A frame for this node goes into its receive store (R311, R315): the link buffer is free at once; a full share drops
it. -/
def storeFrame (p : Nat) (f : TrunkFrame) (s : State) : State :=
  let s := freeIngress p f.cls f.vc (frameUnits f.len) s
  if f.cls = 0 then s
  else
    let k := dcls f.cls
    let x := srcOf s f.src
    if shareOf s f.src k < cN x.held k + frameBytes f.len then cntUp 0x30016 s
    else { s with trunk := { s.trunk with srcs := mset s.trunk.srcs f.src { x with held := lmod x.held k (· + frameBytes f.len) } } }

/-- A frame whose TAG fails (R307): one that cut through has its outgoing frame ended with an inverted FCS; one that waits in the
ingress buffer goes no further. -/
def spoilFrame (p : Nat) (f : TrunkFrame) (s : State) : State :=
  match (if f.dst = modId s ∨ f.dst = 254 ∨ f.hops ≤ 1 then none else if f.dst = 255 then some (1 - p) else route s f.dst) with
  | none => s
  | some e =>
    let q := portOf s e
    let u := frameUnits f.len
    if 3 ≤ q.state ∧ q.wait.isEmpty ∧ linkCredit q f.cls f.vc u = true then
      emit (.trunk e { f with hops := f.hops - 1, tagOk := false } .spoiled []) (useCredit e f.cls f.vc u s)
    else s

/-- A frame goes on out of port `e` (R304, R311, R314): over the dateline from VC0 to VC1; without link credit it waits. -/
def forwardFrame (p e : Nat) (f : TrunkFrame) (s : State) : State :=
  let atDate := masterId s == modId s && e != p
  if (portOf s e).state < 3 then freeIngress p f.cls f.vc (frameUnits f.len) s
  else if atDate && f.vc != 0 then cntUp 0x30014 (freeIngress p f.cls f.vc (frameUnits f.len) s)
  else
    let f := if atDate then { f with vc := 1 } else f
    let s := updPort e (fun x => { x with wait := x.wait ++ [f], waitSince := some (x.waitSince.getD s.clk.fab) }) s
    retryPort e s

/-- PASS_THROUGH (R304, R307, R308, R311, R314, R315, R323). -/
def execPassThrough (t : Nat) (p : Fin 2) (f : TrunkFrame) (s : State) : Host.Outcome State Fault Refusal :=
  let s0 := tick t s
  let q := portOf s0 p.val
  if q.state < 3 then done s0 s0
  else
    let s := cntUpAt 0x30020 p.val 7 1 s0
    if f.fcnt ≤ q.fcntRx then done s0 (cntUp 0x30015 s)
    else if !f.tagOk then done s0 (cntUp 0x30015 (spoilFrame p.val f s))
    else
      let s := updPort p.val (fun x => { x with fcntRx := f.fcnt }) s
      if !(mtypeClasses f.mtype).contains f.cls || (f.cls == 3 && f.src != masterId s) then
        done s0 (cntUp 0x30015 (freeIngress p.val f.cls f.vc (frameUnits f.len) s))
      else if f.dst = modId s ∨ f.dst = 254 then done s0 (storeFrame p.val f s)
      else if f.hops ≤ 1 then done s0 (freeIngress p.val f.cls f.vc (frameUnits f.len) s)
      else if f.dst = 255 then
        if f.src = modId s then done s0 (freeIngress p.val f.cls f.vc (frameUnits f.len) s)
        else done s0 (forwardFrame p.val (1 - p.val) f s)
      else match route s f.dst with
        | none => done s0 (cntUp 0x30014 (freeIngress p.val f.cls f.vc (frameUnits f.len) s))
        | some e => done s0 (forwardFrame p.val e f s)

/-- CREDIT (R311, R312): cumulative counters of freed units; waiting frames go as credit allows. -/
def execCredit (t : Nat) (p : Fin 2) (freed : List Nat) (s : State) : Host.Outcome State Fault Refusal :=
  let s := tick t s
  if (portOf s p.val).state < 3 then done s s
  else
    let f := (List.range 8).map (fun i => cN freed i % 65536)
    done s (retryVoq (retryPort p.val (updPort p.val (fun x => { x with freed := f }) s)))

/-- CREDIT_SEND (R312): 16 units freed on a counter, 2 µs after the first unreported free, or 1 ms after the last; a
1 ms interval with frames waiting for more than half of it is credit-starved. -/
def execCreditSend (t : Nat) (p : Fin 2) (s : State) : Host.Outcome State Fault Refusal :=
  let s := tick t s
  let q := portOf s p.val
  let due := (List.range 8).any (fun i => decide (16 ≤ (cN q.inFreed i + 65536 - cN q.reported i) % 65536))
    || q.firstFree.any (fun f => decide (f + 800 ≤ s.clk.fab))
    || decide (q.lastCredit + Config.msCycles ≤ s.clk.fab)
  if q.state < 3 ∨ !due then done s s
  else
    let starved := decide (q.lastCredit + Config.msCycles ≤ s.clk.fab)
      && q.waitSince.any (fun f => decide (f + Config.msCycles / 2 < s.clk.fab))
    let s1 := if starved then cntUpAt 0x30020 p.val 4 1 s else s
    let s1 := updPort p.val (fun x => { x with reported := x.inFreed, firstFree := none, lastCredit := s.clk.fab }) s1
    done s (sendFree p.val 254 0 (.credit q.inFreed) s1)

/-- DCREDIT (R315): FREED and GRANT of U, N and S; with RESET the outstanding amount is HELD. -/
def execDcredit (t source : Nat) (reset : Bool) (freed held grant : List Nat) (s : State) : Host.Outcome State Fault Refusal :=
  let s := tick t s
  let c := destOf s source
  let fr := (List.range 3).map (fun i => cN freed i)
  let c' : DestCredit := { c with
    freed := fr
    sent := if reset then (List.range 3).map (fun i => cN freed i + cN held i) else c.sent
    grant := (List.range 3).map (fun i => 64 * cN grant i)
    notes := if reset then [] else c.notes }
  done s (retryVoq { s with trunk := { s.trunk with dests := mset s.trunk.dests source c' } })

/-- DCREDIT_SEND (R315): after 1 KiB freed or 10 ms; what the store held of the source has been read by then. -/
def execDcreditSend (t dest : Nat) (s : State) : Host.Outcome State Fault Refusal :=
  let s := tick t s
  let x := srcOf s dest
  let total := cN x.held 0 + cN x.held 1 + cN x.held 2
  if 1024 ≤ total ∨ x.sentAt + 10 * Config.msCycles ≤ s.clk.fab then
    let x' : SrcShare := { x with held := [0, 0, 0], freed := (List.range 3).map (fun i => (cN x.freed i + cN x.held i) % 4294967296) }
    done s (sendDcredit false { s with trunk := { s.trunk with srcs := mset s.trunk.srcs dest x' } } dest)
  else done s s

/-- TOPO (R316, R334): a higher TGEN is adopted; a removal at once, an addition or a moved ASN_ANCHOR at the next superframe
boundary. The frame itself, to every node, goes on by PASS_THROUGH (R314). -/
def execTopo (t : Nat) (p : Fin 2) (m : TopoMsg) (s : State) : Host.Outcome State Fault Refusal :=
  let s := tick t s
  let held := match s.trunk.later with | some q => max q.1.tgen s.trunk.tgen | none => s.trunk.tgen
  if (portOf s p.val).state < 3 ∨ !seqHigher m.tgen held then done s s
  else
    let s1 := s
    match s.trunk.topo with
    | some o =>
      if removesLink o m then
        if m.anchor = o.anchor then done s (adoptTopo m s1)
        else
          let s2 := adoptTopo { m with anchor := o.anchor } s1
          done s { s2 with trunk := { s2.trunk with later := some (m, boundaryAfter s2 1) } }
      else done s { s1 with trunk := { s1.trunk with later := some (m, boundaryAfter s1 1) } }
    | none => done s { s1 with trunk := { s1.trunk with later := some (m, boundaryAfter s1 1) } }

/-- TOPO_DEFERRED_ADOPT (R316, R334): at the superframe boundary. -/
def execTopoDeferredAdopt (t : Nat) (s : State) : Host.Outcome State Fault Refusal :=
  let s := tick t s
  match s.trunk.later with
  | none => done s s
  | some q => if q.2 ≤ asn s then done s (adoptTopo q.1 s) else done s s

/-- TOPO_FLOOD (R316): the master, every 1 s. -/
def execTopoFlood (t : Nat) (s : State) : Host.Outcome State Fault Refusal :=
  let s := tick t s
  match s.trunk.topo with
  | some m => if actsMaster s then done s (floodTopo m s) else done s s
  | none => done s (masterTopo s)

/-- LINK_REPORT (R316): at the master. -/
def execLinkReport (t node stateTA neighTA stateTB neighTB : Nat) (s : State) : Host.Outcome State Fault Refusal :=
  let s := tick t s
  if actsMaster s ∧ node ≠ modId s ∧ node ≤ 65 then
    done s (masterTopo { s with trunk := { s.trunk with
      reports := mset s.trunk.reports node (stateTA, neighTA, stateTB, neighTB) } })
  else done s s

/-- LINK_REPORT_PERIODIC (R316): a member, every 1 s. -/
def execLinkReportPeriodic (t : Nat) (s : State) : Host.Outcome State Fault Refusal :=
  let s := tick t s
  if actsMaster s ∨ !commissioned s then done s s else done s (reportLinks s)

/-- BREAK (R317): routes leave the link out, and the master issues TOPO. The frame itself goes on by PASS_THROUGH (R314). -/
def execBreakMsg (t : Nat) (p : Fin 2) (nodeA nodeB tgen : Nat) (s : State) : Host.Outcome State Fault Refusal :=
  let s := tick t s
  if (portOf s p.val).state < 3 ∨ isCut s nodeA nodeB ∨ seqHigher s.trunk.tgen tgen then done s s
  else
    let s1 := ringOpens { s with trunk := { s.trunk with cut := (nodeA, nodeB) :: s.trunk.cut } }
    if actsMaster s1 then
      let drop (r : Nat × Nat × Nat × Nat) (other : Nat) : Nat × Nat × Nat × Nat :=
        (if r.2.1 = other then 1 else r.1, r.2.1, if r.2.2.2 = other then 1 else r.2.2.1, r.2.2.2)
      let rs := mmod (mmod s1.trunk.reports nodeA (fun r => drop r nodeB)) nodeB (fun r => drop r nodeA)
      done s (masterTopo { s1 with trunk := { s1.trunk with reports := rs } })
    else done s (retryVoq s1)

/-- Where the head-ends behind gateway `src` are reached (R321). -/
def noteHead (peer : Peer) (src : Nat) (s : State) : State :=
  { s with trunk := { s.trunk with heads := (peer, src) :: s.trunk.heads.filter (fun p => p.1 != peer) } }

/-- A relayed datagram goes on in the class that TCLASS names (R67, R321). -/
def relayTo (dst : Nat) (peer : Peer) (module tclass size : Nat) (s : State) : State :=
  trunkSend dst (if tclass = 1 then 1 else 2) (.relay peer module tclass size) s

/-- IBIER_FRAME (R66, R67, R321): a datagram in an IBIER frame by its way (the node it came from, or the own service port). The
master relays a request by MODULE and a member's datagram by the way the request came; a bad relay header, or a MODULE that
cannot be reached on the port, is dropped and counted. A datagram for this module is taken by its Ibier service as a
command of its own. -/
def execIbierFrame (t : Nat) (way : Way) (rhVersion module tclass reserved size : Nat) (s : State) :
    Host.Outcome State Fault Refusal :=
  let s := tick t s
  let src := way.via
  let peer := way.peer
  if rhVersion ≠ 1 ∨ 1 < tclass ∨ reserved ≠ 0 then done s (cntUp 0x00012 s)
  else if actsMaster s ∧ src < 64 then
    if peer.service then done s (emit (.relayed peer module tclass size) s)
    else match s.trunk.heads.find? (fun p => p.1 == peer) with
      | some (_, gw) => done s (relayTo gw peer module tclass size s)
      | none => done s (cntUp 0x00012 s)
  else
    let s := if actsMaster s && src != 255 then noteHead peer src s else s
    if module = modId s then done s s
    else if !actsMaster s ∨ 63 < module then done s (cntUp 0x00012 s)
    else match route s module with
      | none => done s (cntUp 0x00012 s)
      | some _ => done s (relayTo module peer module tclass size s)

/-- Keep MEMBER_SILENT (R323). -/
def silentSync (detail : Nat) (s : State) : State := condSet 53 detail (s.trunk.members.any (fun p => p.2.silent)) s

/-- STATUS (R323): the master keeps it in CASCADE_MEMBERS. -/
def execStatus (t : Nat) (m : StatusMsg) (s : State) : Host.Outcome State Fault Refusal :=
  let s := tick t s
  if actsMaster s ∧ m.module < 64 then
    done s (silentSync m.module { s with trunk := { s.trunk with
      members := mset s.trunk.members m.module { status := m, at_ := s.clk.fab, silent := false } } })
  else done s s

/-- This module's STATUS (R323). -/
def ownStatus (s : State) : StatusMsg :=
  let one := s.lanes.b.running && s.lanes.a.running
  { module := modId s, sticky := ofBe ((List.range 32).map (fun i => (s.dict.sticky.extractLsb' (8 * i) 8))),
    activeLane := activeCode s, roleA := roleCode s.lanes.a.role, roleB := roleCode s.lanes.b.role,
    health := if one then min (healthOf s .A) (healthOf s .B) else healthOf s (servedBy s),
    quality := timeQuality s, ring := ringState s,
    ticketsOpen := (s.adm.tickets.filter (fun p => p.2.state == 1)).length, time := time64 s }

/-- STATUS_SEND (R323): a member, every 1 s. -/
def execStatusSend (t : Nat) (s : State) : Host.Outcome State Fault Refusal :=
  let s := tick t s
  if actsMaster s ∨ !commissioned s then done s s else done s (trunkSend (masterId s) 2 (.status (ownStatus s)) s)

/-- MEMBER_SILENT_TIMEOUT (R323): STATUS more than 3 s old. -/
def execMemberSilentTimeout (t module : Nat) (s : State) : Host.Outcome State Fault Refusal :=
  let s := tick t s
  match mget s.trunk.members module with
  | none => done s s
  | some m =>
    if actsMaster s ∧ m.at_ + 3 * Config.secCycles < s.clk.fab then
      done s (silentSync module { s with trunk := { s.trunk with
        members := mset s.trunk.members module { m with silent := true } } })
    else done s s

/-- PAUSE_FRAME (R305): discarded and counted. -/
def execPauseFrame (t : Nat) (_p : Fin 2) (s : State) : Host.Outcome State Fault Refusal :=
  let s := tick t s
  done s (cntUp 0x30018 s)

/-- Whether a member may take the duties (R324): heard in STATUS within 3 s, PTP_LOCKED. -/
def memberLocked (s : State) (id : Nat) : Bool :=
  match mget s.trunk.members id with
  | none => false
  | some m => decide (s.clk.fab ≤ m.at_ + 3 * Config.secCycles) && m.status.quality == 0

/-- MASTER_HANDOVER (R324). -/
def execMasterHandover (t : Nat) (h : Hdr) (args : List TVal) (s : State) : Host.Outcome State Fault Refusal :=
  let s := tick t s
  done s (execCmd 0x30300 [.enum [0, 1]] h args (fun _ _ s =>
    let back := argN args 0 == 1
    if !actsMaster s || (modId s == 0) == back then refuse (rRange 0x30300 0) s
    else
      let heir := if back then 0 else getN s 0x30110
      let up := match mget s.trunk.reports 0 with | some r => r.1 == 4 && r.2.2.1 == 4 | none => false
      if !memberLocked s heir || (back && !up) then refuse (rLaneSync s) s
      else
        let a := applyAsn s
        okAsn a { s with trunk := { s.trunk with hand := some (back, a) } }) s)

/-- HANDOVER_APPLY (R324): the last TOPO names the node that takes the duties. -/
def execHandoverApply (t : Nat) (s : State) : Host.Outcome State Fault Refusal :=
  let s := tick t s
  match s.trunk.hand with
  | none => done s s
  | some (back, a) =>
    if asn s < a then done s s
    else
      let heir := if back then 0 else getN s 0x30110
      let s1 := { s with trunk := { s.trunk with hand := none } }
      let m := { buildTopo s1 with dateline := heir }
      done s (floodTopo m (adoptTopo m s1))

/-- PORT_RESTART (R327). -/
def execPortRestart (t : Nat) (h : Hdr) (args : List TVal) (s : State) : Host.Outcome State Fault Refusal :=
  let s := tick t s
  done s (execCmd 0x30310 [.int 2 0 1] h args (fun _ _ s => okEmpty (linkEnds (argN args 0) s)) s)

end Sys2Proof.Machine
end

