-- ==== Sys2Proof/Machine/Restart.lean ====
section
/-!
DEFINITION. What a whole-module restart loses and keeps, and what happens once the lanes agree: the shared operations of
start-up (R13, R44, R55, R117, R153, R191, R249, R253, R281, R333, R340, R370, R442, R452).
-/
namespace Sys2Proof.Machine

/-- Ibier after a whole-module restart: sessions and shadows are gone, accepted commits (R55) and pending COMPLETIONs (R280)
stand. -/
def wipeIb (b : Ibier) : Ibier :=
  { b with
    handshakes := [], assocs := [], sessions := [], subs := [], seqs := b.seqs.filter (fun p => p.2.commit.isSome)
    heldFor := [], snaps := [], snapPending := [], surveys := [] }

/-- An open ticket after a whole-module restart (R117): the acknowledgements are not kept; what stands in no residue yet
enters it as UNCONFIRMED. -/
def wipeTicket (t : Ticket) : Ticket :=
  if t.state ≠ 1 then t
  else
    let lose (x : Target) : Target := { x with acked := false, got := [], out := if x.excluded then x.out else some 4 }
    { t with targets := t.targets.map lose, fRestart := true }

/-- Admission after a whole-module restart (R113, R117): the journalled records stand, no attempt is booked. -/
def wipeAdm (a : Admission) : Admission :=
  { tickets := a.tickets.map (fun p => (p.1, wipeTicket p.2)), bookings := [] }

/-- The MAC after a whole-module restart (R138, R139, R153, R508). -/
def wipeMac (m : Mac) : Mac :=
  { clusters := m.clusters.map (fun p => (p.1, { Cluster.init with cevent := p.2.cevent, keyGen := p.2.keyGen, ctxOld := p.2.ctxOld }))
    nodes := (m.nodes.filter (fun p => p.2.joined != 0)).map (fun p => (p.1, { Node.init with joined := 1 }))
    gate := [], duty := [], blank := both Blank.init
    xcvrs := m.xcvrs.map (fun x => { Xcvr.init with bcastGen := x.bcastGen })
    joins := [], waiting := [], copies := [], radio := m.radio, lastFrame := 0, restartAt := m.restartAt, probes := [] }

/-- A bitmap as the journal held it at the last superframe boundary (R190). -/
def keptMap (kept now_ : List Nat) : List Nat := kept.filter (fun n => now_.contains n)

/-- The changeover after a whole-module restart (R190 to R192): as the journal holds it; the image store is lost. -/
def wipeEpoch (p : Epoch) : Epoch :=
  let staged := keptMap p.kept.1 p.staged
  { p with
    staged := staged, armed := keptMap p.kept.2.1 p.armed, verified := keptMap p.kept.2.2 p.verified, heard := []
    held := p.held.filter (fun h => staged.contains h.1), store := [NodeImage.init, NodeImage.init] }

/-- The tracker after a whole-module restart: no track, no queue, no selection of policy. -/
def wipeTrk (t : Traffic) : Traffic :=
  { t with
    tracks := [], ingest := [], queues := [[], [], [], []], bounds := [], buffers := [], lists := [], answered := []
    turnsNow := [], nowCount := [], passages := [], zones := [], floors := [], clamps := 0, secEvents := 0 }

/-- A string of the LED stage after a whole-module restart: faults stay (R274), the lanes' own runs start anew. -/
def wipeString (x : StringSt) : StringSt :=
  { StringSt.init with
    code := x.code, current := x.current, volts := x.volts, pad := x.pad, padAt := x.padAt, hotLatch := x.hotLatch
    hwCut := x.hwCut, fault := x.fault, faulty := x.faulty, opens := x.opens, shorts := x.shorts, clamped := x.clamped
    cross := x.cross }

/-- The anchor drive after a whole-module restart (R274, R278): every engine idle. -/
def wipeLed (d : Led) : Led :=
  { d with
    strings := d.strings.map wipeString, cap := 1000000, capActive := false, crossRun := [], crossSuspect := false }

/-- The pair after a whole-module restart. -/
def wipePair (p : LanePair) : LanePair :=
  { links := p.links, owner := none, inputSeq := 0, held := [], tags := [], orphans := [], outSeq := p.outSeq, waiting := []
    released := p.released, records := both [], matched := p.outSeq, checking := none, flaps := [], planned := none
    switch := none, agreedAt := none, asked := [], ownerReq := none, refusedB := false, retryB := none }

/-- The time base after a whole-module restart (R127, R333): the RTCs run on. -/
def wipeTime (x : TimeBase) : TimeBase :=
  { x with
    locked := false, everLocked := false, offsetRun := 0, lastSync := 0, misses := 0, goodRun := 0, holdover := false
    holdoverAt := 0, asnSlewing := false, conflict := false, unexplained := none, held := false, trimmed := false
    windows := [], pendingStep := none }

/-- The recorder after a whole-module restart (R381): what is in MRAM stays; the submissions still queued are lost. -/
def wipeRec (r : Recorder) : Recorder :=
  { r with
    queue := [], grown := [], wins := [], normal := 160000000000, reserved := 40000000000, sums := [], held := both []
    draining := false }

/-- A trunk port after a whole-module restart (R452): dark until the lanes agree. -/
def wipePort (p : Port) : Port := { Port.init with present := p.present, unsuit := p.unsuit }

/-- The trunk after a whole-module restart; the topology generation and a handover of duties stand. -/
def wipeTrunk (x : Trunk) : Trunk :=
  { x with
    ports := x.ports.map wipePort, topo := none, later := none, cut := [], reports := [], members := [], dests := []
    srcs := [], voq := [] }

/-- The condition bits whose condition does not rest on the lanes' memory (R384): supplies, cells, units, images. -/
def lastingConds : List Nat := [2, 3, 32, 130, 164, 165, 210, 211, 241, 242, 243, 244, 245, 249, 250]

/-- Whether an object's rows are kept at a restart (R44). -/
def keptObj (n : Nat) : Bool :=
  match findObj n with
  | some d => d.acc != .ro || d.keep
  | none => true

/-- The dictionary after a whole-module restart (R44): RO values and logs not marked as kept are at their defaults. -/
def wipeDict (d : Dict) : Dict :=
  { d with
    store := d.store.filter (fun p => keptObj (p.1 / 4294967296)), logs := d.logs.filter (fun p => keptObj p.1)
    live := d.live &&& lastingConds.foldl (fun b k => b ||| BitVec.twoPow 256 k) 0 }

/-- The memory of both lanes is lost; what stands in MRAM and in the battery domain stays. -/
def wipe (s : State) : State :=
  { s with
    ib := wipeIb s.ib, adm := wipeAdm s.adm, mac := wipeMac s.mac, epoch := wipeEpoch s.epoch, trk := wipeTrk s.trk
    led := wipeLed s.led, lp := wipePair s.lp, time := wipeTime s.time, recd := wipeRec s.recd, trunk := wipeTrunk s.trunk
    dict := wipeDict s.dict, met := { s.met with cal := none }, fw := { s.fw with transfers := [] }
    test := { next := 0, requests := [], retests := [], slice := none, sweepState := 0, sweep := none, stopped := false
              barred := false, lastTick := 0, lastAsn := none, edges := [], copy := [], saved := [] } }

/-- Both lanes are held in reset (R442): no role, nothing runs. -/
def stopLanes (s : State) : State :=
  let stop (x : LaneSt) : LaneSt :=
    { x with role := .undecided, running := false, report := none, wasActive := x.role == .active || (x.role == .undecided && x.wasActive) }
  { s with lanes := { a := stop s.lanes.a, b := stop s.lanes.b } }

/-- A slew is folded only as far as the RTC had it at its last realignment (R328, R333). -/
def foldRealigned (s : State) : State :=
  let d := slewDone (s.time.rtcs.get (servedBy s)).realigned s.clk.slew
  let s := foldAslew s
  { s with clk := { s.clk with taiOff := s.clk.taiOff + d, asnOff := s.clk.asnOff + d, slew := none } }

/-- A lane boots (R466); SCRAPPED runs no runtime (R361). -/
def bootLane (s : State) (l : Lane) : State :=
  let rel := semHeld l (s.lanes.get l).sems
  let s := laneRowsGone l { s with dict := { s.dict with semReset := s.dict.semReset ||| BitVec.ofNat 12 rel } }
  let s := bootSelect l (updLane l (resetLaneSt s.clk.fab (time64 s)) s)
  if s.life.state = .scrapped then updLane l (fun x => { x with running := false }) s else s

/-- The recorder's scan (R381): a torn record is discarded and counted, and the DRAIN of the newest page is counted as lost. -/
def scanRec (s : State) : State :=
  let s := if s.recd.torn then stickySet 178 0 (ropUp 0xB0015 1 { s with recd := { s.recd with torn := false } }) else s
  let s := { s with recd := { s.recd with
    normal := 2 * (getN s 0xB0111 : Int) * tokenUnits, reserved := 2 * (getN s 0xB0112 : Int) * tokenUnits, refilled := s.clk.fab } }
  match s.recd.openPage with
  | none => s
  | some p =>
    let n := match mget s.recd.pages p with | some g => g.drain | none => 0
    if n = 0 then s
    else
      let s := { s with recd := { s.recd with pages := mmod s.recd.pages p (fun g => { g with drain := 0 }) } }
      stickySet 176 0 (cntUpAt 0xB0014 0 0 n s)

/-- The code of a start-up's cause (0:0440). -/
def startCode : StartCause → Nat
  | .cold => 0
  | .vStop => 1
  | .laneRestart => 2
  | .recommission => 3

/-- A vault unseals (R347): its owner root is there with the ROOT_ID of the copy in MRAM, and the module is in OWNED. -/
def unsealVault (s : State) (l : Lane) : State :=
  updVault l (fun v =>
    let ok := v.root.any (fun r => rootIdOf r == s.life.rootId) && s.life.state == .owned
    { v with unsealed := ok, keys := ok }) s

/-- Both lanes start (R452): the row of STARTUP_LOG, the boots, the recorder's scan. -/
def bootModule (cause : StartCause) (s : State) : State :=
  let s := updPower (fun p => { p with cause := cause, porFab := s.clk.fab, restart := none }) s
  let s := logPush 0x00440 8 [vN (time64 s), vN (startCode cause), vN 0, vN 0, vN 0, vN 0, vN 0] s
  scanRec (meterLoad .B (meterLoad .A (meterBoot (bootLane (bootLane s .A) .B))))

/-- A whole-module restart with main power on (R291, R360, R474). -/
def restartModule (cause : StartCause) (s : State) : State :=
  let s := bootModule cause (wipe (stopLanes (foldRealigned (cwvStop s))))
  unsealVault (unsealVault s .A) .B

/-- The restart that a command's reply goes before (R360, R474): an output still held back leaves first. -/
def afterReply (s : State) : State :=
  match s.power.restart with
  | none => s
  | some c => restartModule c (releaseAll (updPower (fun p => { p with restart := none }) s))

/-- An epoch ARMED across a restart (R191): it switches now when its switch ASN is less than one superframe ahead. -/
def resumeEpoch (s : State) : State :=
  let s := match s.epoch.openAt with
    | some (_, img) => updEp (fun p => { p with openAt := some (boundaryAfter s 1, img) }) s
    | none => s
  if s.epoch.state = 2 ∧ s.epoch.switchAsn < asn s + 256 then
    verifyDone (switchEpoch s)
  else if s.epoch.state = 2 then updEp (fun p => { p with resume := 1 }) s
  else s

/-- An entry of the journal is read once the lanes agree (R55, R333, R442, R472). -/
def readEntry (s : State) (e : JEntry) : State :=
  match e with
  | .commit _ _ => s
  | .ticket tk =>
    match ticketOf s tk with
    | some t => if t.state = 1 ∧ t.deadline ≤ s.clk.fab then completeTicket tk s else s
    | none => s
  | .timeSet c d =>
    let r := c - d
    let s := journalErase (fun e => match e with | .timeSet _ _ => true | _ => false) s
    if r = 0 then s
    else
      let s := journal (.timeSet r 0) s
      if stepLimit < r.natAbs then
        updTime (fun x => { x with pendingStep := some (r, boundaryAfter s (40 * Config.msCycles), getN s 0x2001B, noClient) }) s
      else startSlew r s
  | .powerFail w =>
    let s := journalErase (fun e => match e with | .powerFail _ => true | _ => false) s
    let ms := (getN s 0x20022 - w) * 1000 / 16777216
    let s := putN 0x00406 (min ms 65535 : Nat) s
    if ms < 20 then recordOpen 5 (stickySet 248 ms s) else s
  | .fwCommit _ =>
    let a := boundaryAfter s 1
    let s := journalErase (fun e => match e with | .fwCommit _ => true | _ => false) s
    journal (.fwCommit a) (updFw (fun f => { f with commitAt := some a }) s)
  | .life _ => journalErase (fun e => match e with | .life _ => true | _ => false) s

/-- The journal is read (R13): accepted commits are due at the first superframe boundary after agreement (R55). -/
def readJournal (s : State) : State :=
  let a := boundaryAfter s 1
  let due (p : Nat × Sequence) : Nat × Sequence := (p.1, { p.2 with commit := p.2.commit.map (fun c : Nat × Nat => (a, c.2)) })
  let late (h : Bool × Nat) : Bool × Nat := (h.1, a)
  let s := { s with ib := { s.ib with seqs := s.ib.seqs.map due }, trunk := { s.trunk with hand := s.trunk.hand.map late } }
  resumeEpoch (s.dict.journal.foldl readEntry s)

/-- A suspension that expired while the lanes were stopped is written with TIME its expiry (R363). -/
def lateSuspend (s : State) : State :=
  match s.life.suspend with
  | some x =>
    if x.1 ≤ s.clk.fab then suspendEntry (timeOf s x.1) 0 false (updLife (fun y => { y with suspend := none }) s) else s
  | none => s

/-- The battery domain's stores are copied and cleared by the lane that becomes active (R253, R370). -/
def copyStores (s : State) : State :=
  let s := s.life.store.foldl (fun s r => tamperLog r s) s
  condSet 130 0 (battSpent s) (battCopy (lateSuspend (updLife (fun x => { x with store := [] }) s)))

/-- The keys of every cluster and transceiver move to generation g + 1 at every whole-module restart (R153); a new root begins at generation 0 (R360). -/
def ratchet (s : State) : State :=
  if s.life.state ≠ .owned then s
  else
    let g (n : Nat) : Nat := if s.life.newRoot then 0 else n + 1
    let s := updMac (fun m => { m with
      clusters := (List.range 256).map (fun c =>
        let k := mgetD m.clusters c Cluster.init
        (c, { k with keyGen := g k.keyGen, counter := 0 }))
      xcvrs := m.xcvrs.map (fun x => { x with bcastGen := g x.bcastGen, bcastCounter := 0 }) }) s
    updLife (fun x => { x with newRoot := false }) s

/-- A zone's class after a restart, by the order of R222 with no policy selection. -/
def zoneAnew (s : State) (z : Nat) : State :=
  let s := updTrk (fun t => { t with zones := mset t.zones z { Zone.init with since := time64 s, ovrNow := overrideOf s z } }) s
  applyClass z (adaptZone s z)

/-- The tracker once the lanes agree: zones, boundaries, the hour and week that run, the floors to send. -/
def startTraffic (s : State) : State :=
  let zs := (storedRows s 0x70120 ++ storedRows s 0x70140).foldl (fun l z => insertNat z l) []
  let s := updTrk (fun t => { t with
    hour := civilHour s, week := civilWeek s, adaptHour := civilHour s
    bounds := (boundRows s).map (fun v => (v, { state := 1, nVertex := 0, nLength := 0, since := none })) }) s
  let s := zs.foldl zoneAnew s
  updTrk (fun t => { t with floors := floorsAfter s }) s

/-- The anchor drive once the lanes agree (R263, R278): SAFE_LIGHT copied, programs loaded, RUN_AT_START engines started. -/
def startLed (s : State) : State :=
  (List.range 8).foldl (fun s e =>
    onLanes (fun l s =>
      let s := engLoad l e s
      if getC s 0x90200 e 1 = 1 then engStart l e (BitVec.ofNat 4 (getC s 0x90200 e 0)) s else s) s) (copySafe s)

/-- Link start begins on both ports (R305, R452). -/
def startPorts (s : State) : State :=
  { s with trunk := { s.trunk with ports := s.trunk.ports.map (fun p => { p with state := if p.present then 1 else 0 }) } }

/-- Start-up goes on once lane `l` is active (R281, R452). -/
def startService (l : Lane) (s : State) : State :=
  let s := { s with lp := { s.lp with owner := some l, agreedAt := some s.clk.fab, matched := s.lp.outSeq } }
  let s := startupMark 3 (updMac (fun m => { m with restartAt := s.clk.fab }) s)
  let s := meterStart l (copyStores (startPorts s))
  let s := startTraffic (readJournal (ratchet s))
  let s := alarmsMoved (startLed s)
  degradedSync (outSync s)

/-- A lane takes the role it starts with. -/
def startRole (l : Lane) (r : Role) (s : State) : State :=
  updLane l (fun x => { x with role := r, roleSince := s.clk.fab, report := none, resync := .idle, wasActive := r == .active }) s

/-- The lane that does not become active (R281, R296, R469): standby, or LAGGING where it may not be compared. -/
def startOther (o : Lane) (s : State) : State :=
  if unitFailed (s.lanes.get o) then stayLagging o .unitFail s
  else if !bridgeUp s then stayLagging o (s.lanes.get o).cause s
  else if !imagesFit s then stayLagging o .layout s
  else startRole o .standby s

/-- The start score of a lane that has reported (R281, R288). -/
def startScore (x : LaneSt) : Nat := if condemned x then 0 else match x.report with | some r => r.1 | none => 0

/-- The choice of R281: the higher score, then the lane that was active last, then lane A; with no bridge lane A. -/
def chooseLane (s : State) : Lane :=
  let a := s.lanes.a
  let b := s.lanes.b
  let last (x : LaneSt) : Bool := match x.report with | some r => r.2 | none => false
  if !bridgeUp s then .A
  else if startScore a < startScore b then .B
  else if startScore b < startScore a then .A
  else if last b && !last a then .B
  else .A

end Sys2Proof.Machine
end

