-- ==== Sys2Proof/Machine/Startup.lean ====
section
/-!
DEFINITION. The commands that start the module, stop it, or move its ownership: ALIVE loss and switchover (R285, R291 to
R293, R298), agreement (R281), the power path (R440 to R442, R449 to R454), and the commands that restart both lanes
(R360, R361, R474).
-/
namespace Sys2Proof.Machine

/-- The active lane is lost (R285, R291): a standby in sync takes over, else both lanes restart. -/
def activeLost (l : Lane) (s : State) : State :=
  if standby s = some (otherLane l) then
    (match s.lp.switch with
    | some _ => s
    | none => decideSwitch (otherLane l) 5 s)
  else restartModule .laneRestart s

/-- ALIVE_LOSS (R285, R291): no toggle for 200 µs marks the lane DEAD. A lane that has no role, beside a standby and no
active lane, is the former active lane in reset. -/
def execAliveLoss (t : Nat) (l : Lane) (s : State) : Host.Outcome State Fault Refusal :=
  let s := tick t s
  let x := s.lanes.get l
  if !s.power.mainOn || s.life.state == .scrapped then done s s
  else
    let s0 := icuRaiseAt (otherLane l) 18 s
    if active s = some l ∨ ((active s).isNone ∧ x.role = .undecided ∧ (s.lanes.get (otherLane l)).role ≠ .undecided) then
      done s (activeLost l (updLane l (fun x => { x with alive := false }) s0))
    else if x.running && (active s).isSome then done s (restartLane l s0)
    else done s s

/-- An open ticket sees a switchover (R115). -/
def markSwitch (s : State) : State :=
  updAdm (fun m => { m with tickets := m.tickets.map (fun p => if p.2.state = 1 then (p.1, { p.2 with fSwitch := true }) else p) }) s

/-- The former active lane after a switchover (R289, R291, R298): standby, resynchronised, or restarted. -/
def oldActive (old : Lane) (cause : Nat) (s : State) : State :=
  if cause = 1 then updLane old (fun x => { x with role := .standby, resync := .idle }) s
  else if cause = 3 then setResync old (updLane old (fun x => { x with role := .lagging }) s)
  else if (s.lanes.get old).role = .active then restartLane old s
  else s

/-- Lane `n` takes over (R292, R293): outputs not yet released are its own, inputs it holds without a tag are adopted. -/
def takeOver (n : Lane) (cause : Nat) (s : State) : State :=
  let old := otherLane n
  let hf := healthOf s old
  let ht := healthOf s n
  let s := if cause = 1 then { s with lp := { s.lp with planned := none } } else voidPlanned s
  let s := releaseDiffering s
  let s := if cause = 1 then s else releaseAll s
  let s := updLane n (fun x => { x with role := .active }) s
  let s := { s with lp := { s.lp with
    switch := none, owner := some n, ownerReq := some (n, s.clk.fab), held := [], tags := [], records := both []
    checking := none } }
  let s := oldActive old cause s
  let s := { s with lp := { s.lp with matched := activeSeq s } }
  let s := putN 0xA0018 cause (putN 0xA0017 (time64 s) (ropUp 0xA0012 1 s))
  let s := stickySet 160 cause (switchLog 5 old cause 0 hf ht s)
  let s := if (s.time.rtcs.get n).stopped then updTime (fun x => { x with oscStopped := true }) s else s
  let s := degradedSync (outSync (markSwitch s))
  s.lp.asked.foldl answerAsked (resumeGoes n { s with lp := { s.lp with asked := [] } })

/-- A switchover whose standby no longer reads ROLE 01b (R292, R298): void; for a DEAD active lane both lanes restart, a
condemned one stays active. -/
def voidSwitch (w : Switch) (s : State) : State :=
  let old := otherLane w.target
  let s := { s with lp := { s.lp with switch := none } }
  let s := switchLog 4 old w.cause 1 (healthOf s old) (healthOf s w.target) s
  if w.cause = 5 then restartModule .laneRestart s
  else if condemned (s.lanes.get old) then laneStateRec old 1 0 (degradedSync s)
  else s

/-- A switchover comes into effect. -/
def effectSwitch (w : Switch) (s : State) : State :=
  if (s.lanes.get w.target).role = .standby then takeOver w.target w.cause s else voidSwitch w s

/-- Lane B's request for the ownership flip-flop is refused (R15): its comparator status shows it, and it asks again at the next
slot boundary. -/
def refuseB (s : State) : State := { s with lp := { s.lp with refusedB := true, retryB := some (asn s + 1) } }

/-- Whether the flip-flop was written for a lane in this FAB cycle (R15). -/
def wroteNow (l : Lane) (s : State) : Bool := s.lp.ownerReq == some (l, s.clk.fab)

/-- A lane starts alone (R281) by writing the ownership flip-flop. -/
def startAlone (l : Lane) (s : State) : State :=
  startService l (startRole l .active { s with lp := { s.lp with ownerReq := some (l, s.clk.fab) } })

/-- Lane A's request of the same FAB cycle as lane B's is the one taken (R15): lane B's start is undone to a refusal. -/
def yieldToA (s : State) : State :=
  let s := updLane .B (fun x => { x with role := .undecided, roleSince := s.clk.fab, wasActive := false }) s
  refuseB (startRole .A .active { s with lp := { s.lp with owner := some .A, ownerReq := some (.A, s.clk.fab) } })

/-- Lane B asks again at the slot boundary after a refusal (R15): the flip-flop takes it where no lane is active. -/
def retryOwner (s : State) : State :=
  match s.lp.retryB with
  | none => s
  | some a =>
    if asn s < a then s
    else
      let s := { s with lp := { s.lp with retryB := none } }
      if (active s).isNone && s.lanes.b.running && s.lanes.b.role == .undecided then
        startAlone .B { s with lp := { s.lp with refusedB := false } }
      else s

/-- SWITCHOVER_TAKE_EFFECT (R292, R293, R298): at the slot boundary after the decision, or at the apply ASN. -/
def execSwitchoverTakeEffect (t : Nat) (s : State) : Host.Outcome State Fault Refusal :=
  let s := tick t s
  match s.lp.switch with
  | some w => if w.applyAsn ≤ asn s then done s (effectSwitch w s) else done s s
  | none =>
    match s.lp.planned with
    | some w =>
      if asn s < w.applyAsn then done s s
      else if (s.lanes.get w.target).role = .standby then done s (takeOver w.target 1 s)
      else done s (voidPlanned s)
    | none => done s (retryOwner s)

/-- LANES_AGREE (R281, R452): both lanes have reported. -/
def execLanesAgree (t : Nat) (s : State) : Host.Outcome State Fault Refusal :=
  let s := tick t s
  if (active s).isNone && s.lanes.a.report.isSome && s.lanes.b.report.isSome && s.lanes.a.running && s.lanes.b.running
      && s.lanes.a.role == .undecided && s.lanes.b.role == .undecided then
    let l := chooseLane s
    done s (startService l (startOther (otherLane l) (startRole l .active s)))
  else done s s

/-- AGREEMENT_TIMEOUT (R281, R15): 1 s after its own boot a lane that alone has reported becomes active alone. Where both lanes
ask in one FAB cycle, lane A's request is taken and lane B's refused. -/
def execAgreementTimeout (t : Nat) (l : Lane) (s : State) : Host.Outcome State Fault Refusal :=
  let s := tick t s
  let x := s.lanes.get l
  let due : Bool := match x.bootAt with | some f => decide (f + Config.secCycles ≤ s.clk.fab) | none => false
  if x.report.isSome && x.running && x.role == .undecided && due && (standby s).isNone then
    if (active s).isNone && (s.lanes.get (otherLane l)).report.isNone then done s (startAlone l s)
    else if l = .A ∧ active s = some .B ∧ wroteNow .B s then done s (yieldToA s)
    else if l = .B ∧ active s = some .A ∧ wroteNow .A s then done s (refuseB s)
    else done s s
  else done s s

/-- RECOMMISSION (R360, R368): the owner root restored or made anew; both lanes restart into OWNED after the reply.
A tamper trip during it leaves nothing behind. -/
def execRecommission (t : Nat) (h : Hdr) (args : List TVal) (blobOk tamper : Bool) (s : State) :
    Host.Outcome State Fault Refusal :=
  let s := tick t s
  done s (afterReply (execCmd 0x10301 [.int 2 0 1, .octets 173] h args (fun _ x s =>
    let s := sampleInputs s
    let imported := argN args 0 = 1
    if anyTripped s then refuse (rVault 7) s
    else if s.lanes.a.vault.katBad && s.lanes.b.vault.katBad then refuse (rVault 3) s
    else if imported ∧ !blobOk then refuse (rVault 4) s
    else if imported ∧ ((argB args 1).drop 20).take 8 ≠ s.life.rootId then refuse (rVault 5) s
    else if tamper then refuse (rVault 1) s
    else
      let s := newOwnerRoot (decide imported) (argB args 1) s
      let s := updLife (fun y => { y with newRoot := !decide imported
                                          trunkKeyId := if imported then y.trunkKeyId else List.replicate 8 0
                                          trunkKey := if imported then y.trunkKey else [] }) s
      okEmpty (updPower (fun p => { p with restart := some .recommission }) (lcMove .owned x.client 0 s))) s))

/-- The boot ROM runs alone (R361): no lane, no session. -/
def scrapStop (s : State) : State :=
  if s.life.state = .scrapped then stopLanes (dropSessions s) else s

/-- Every root of a vault goes (R346, R361). -/
def scrapVault (v : Vault) : Vault := { zeroVault v with roots := false }

/-- SCRAP (R361): every root zeroised, the outputs de-energised for good; after the reply the boot ROM runs alone. -/
def execScrap (t : Nat) (h : Hdr) (args : List TVal) (s : State) : Host.Outcome State Fault Refusal :=
  let s := tick t s
  let r := execCmd 0x10303 [.octets 16] h args (fun _ x s =>
    if argB args 0 ≠ fit 16 Config.serial then refuse (rRange 0x10303 0) s
    else
      let s := if s.lanes.a.vault.root.isSome || s.lanes.b.vault.root.isSome then stickySet 16 0 s else s
      let s := lcMove .scrapped x.client 0 (updVault .B scrapVault (updVault .A scrapVault s))
      let off (o : Output) : Output := { o with powerOn := false }
      okEmpty (outSync { s with io := { s.io with scrap := true, outs := s.io.outs.map off } })) s
  if s.life.state = .scrapped then done s r
  else done s (scrapStop (if r.life.state = .scrapped then releaseAll r else r))

/-- POWER_FAIL_WARNING (R248, R381, R431, R440, R454). -/
def execPowerFailWarning (t : Nat) (a b : Samples) (s : State) : Host.Outcome State Fault Refusal :=
  let s := tick t s
  if !s.power.mainOn || s.power.warning then done s s
  else
    let s1 := icuRaise 1 (icuRaise 0 (updPower (fun p => { p with
      warning := true, warnTime := some (time64 s), warnFab := s.clk.fab, ledShed := true }) s))
    let s1 := shedStrings s1
    if (active s1).isSome then
      let s1 := finalSave a b (sliceAbort s1)
      let s1 := journal (.powerFail (time64 s1)) s1
      done s (syncDrain { s1 with recd := { s1.recd with draining := true } })
    else done s (finalSave a b s1)

/-- DRAIN reads 0 once no warning is in force (R379). -/
def endDrain (s : State) : State :=
  let s := { s with recd := { s.recd with draining := false } }
  match s.recd.openPage with
  | some p => { s with recd := { s.recd with pages := mmod s.recd.pages p (fun g => { g with drain := 0 }) } }
  | none => s

/-- BROWNOUT_RECOVERY (R441): the input has been present for 40 ms before V_STOP. -/
def execBrownoutRecovery (t : Nat) (s : State) : Host.Outcome State Fault Refusal :=
  let s := tick t s
  if s.power.mainOn && s.power.warning && decide (s.power.warnFab + 40 * Config.msCycles ≤ s.clk.fab) then
    let s1 := updPower (fun p => { p with warning := false, warnTime := none, ledShed := false }) s
    let s1 := journalErase (fun e => match e with | .powerFail _ => true | _ => false) (endDrain s1)
    done s (stickySet 240 0 (cntUp 0x00404 s1))
  else done s s

/-- V_STOP (R251, R339, R442): both lanes stop; the battery domain takes the cells, time-stamps and counts the loss. -/
def execVStop (t : Nat) (s : State) : Host.Outcome State Fault Refusal :=
  let s := tick t s
  if !s.power.mainOn then done s s
  else
    let cause : StartCause := if (active s).isSome then .vStop else .cold
    let s1 := battAway (wipe (stopLanes (foldRealigned (tearRec (cwvStop s)))))
    let s1 := updPower (fun p => { p with mainOn := false, keepaliveOk := false, cause := cause }) s1
    done s (ropUp 0x00405 1 (backupSwitch (putN 0x20022 (time64 s1) s1)))

/-- What a retention loss takes (R337, R369, R450): the owner roots, the RTCs' time, the records held in the battery domain.
Cause 1 wins where a tamper record survives or the latch holds a tamper. -/
def retentionLoss (canaryOk : Bool) (s : State) : State :=
  let tampered := s.power.tamperPending.isSome || (canaryOk && !s.life.store.isEmpty)
  let s := updVault .B zeroVault (updVault .A zeroVault s)
  let s := updTime (fun x => { x with
    oscStopped := true, rtcs := { a := { x.rtcs.a with stopped := true }, b := { x.rtcs.b with stopped := true } } }) s
  let d : Int := (freeNat s : Int) - s.clk.taiOff
  let s := draw { s with clk := { s.clk with taiOff := s.clk.taiOff + d, asnOff := s.clk.asnOff + d } }
  let s := putN 0x2001B 255 (putN 0x20017 0 s)
  let s := updMet (fun m => { m with batt := { m.batt with entries := [], intervals := [] } }) s
  let s := updLife (fun x => { x with store := if canaryOk then x.store else [] }) s
  let s := stickySet 247 0 (updPower (fun p => { p with lost := false, tamperPending := none }) s)
  if s.life.state = .owned then enterTampered (if tampered then 1 else 2) s else s

/-- What the latch, the canary and the battery domain's records decide (R347, R364, R449, R450, R451). -/
def settleRetention (canaryOk : Bool) (s : State) : State :=
  let s := dipEnd s
  if s.power.lost || !canaryOk then retentionLoss canaryOk (if s.power.lost then s else addC 0x00411 0 4 1 s)
  else
    if s.life.state = .owned ∧ !s.life.store.isEmpty then enterTampered 1 s else s

/-- A vault's parity scan at start-up (R347): one that fails stays sealed and condemns its lane. -/
def parityScan (l : Lane) (ok : Bool) (s : State) : State := if ok then unsealVault s l else condemn l .vault s

/-- POR (R263, R347, R381, R450, R452, R453): main power is back; the converters run, both lanes boot, the vaults unseal or
refuse. -/
def execPor (t : Nat) (canaryOk parityA parityB : Bool) (s : State) : Host.Outcome State Fault Refusal :=
  let s := tick t s
  if s.power.mainOn then done s s
  else
    let s1 := updPower (fun p => { p with
      mainOn := true, warning := false, warnTime := none, ledOk := true, ledShed := false, keepaliveOk := true, canary := canaryOk }) s
    let s1 := condSet 245 0 false (condSet 249 0 false (battReturn s1))
    let s1 := updLed (fun d => { d with safe := State.reset.led.safe, safeOn := true, acc := List.replicate 96 0 }) s1
    let s1 := settleRetention canaryOk (bootModule s1.power.cause (wipe s1))
    let s1 := { s1 with trunk := { s1.trunk with ports := s1.trunk.ports.map wipePort } }
    done s (parityScan .B parityB (parityScan .A parityA s1))

/-- Whether a lane's other bank reads staged (R474). -/
def stagedOther (s : State) (l : Lane) : Bool := (bankOf s l (otherBank s l)).state == 2

/-- FW_RESTART_ALL (R474): a layout release; both lanes restart on their staged banks after the reply. -/
def execFwRestartAll (t : Nat) (h : Hdr) (args : List TVal) (s : State) : Host.Outcome State Fault Refusal :=
  let s := tick t s
  done s (afterReply (execCmd 0xD0302 [.octets 16] h args (fun _ _ s =>
    if argB args 0 ≠ fit 16 Config.serial then refuse (rRange 0xD0302 0) s
    else if !stagedOther s .A then refuse (rRange 0xD0011 (otherBank s .A)) s
    else if !stagedOther s .B then refuse (rRange 0xD0011 (2 + otherBank s .B)) s
    else if (bankOf s .A (otherBank s .A)).img ≠ (bankOf s .B (otherBank s .B)).img then refuse (rRange 0xD0011 (2 + otherBank s .B)) s
    else
      let nx (l : Lane) (s : State) : State := let k := otherBank s l; updBoot l (fun b => { b with next := some k }) s
      okEmpty (updPower (fun p => { p with restart := some .laneRestart }) (nx .B (nx .A s)))) s))

end Sys2Proof.Machine
end

