-- ==== Sys2Proof/Machine/Survey.lean ====
section
/-!
DEFINITION. The Survey (R77, R86 to R91): snapshots of this module and of the cascade, and the 3,072-byte record.
-/
namespace Sys2Proof.Machine

/-- Fields at rising offsets, the gaps filled with zeros, up to a length (R89). -/
def layOut : Nat → Nat → List (Nat × Bytes) → Bytes
  | pos, len, [] => List.replicate (len - pos) 0
  | pos, len, (o, b) :: r => List.replicate (o - pos) 0 ++ b ++ layOut (max pos o + b.length) len r

/-- An unsigned number in `n` bytes, the greatest value where it is too large. -/
def sat (n v : Nat) : Bytes := be n (min v (256 ^ n - 1))

/-- Column `c` of a row of an object. -/
def objN (s : State) (n r c : Nat) : Nat := rNat (readObj s n r) c
/-- Column `c` of a row of an object, signed. -/
def objI (s : State) (n r c : Nat) : Int := rInt (readObj s n r) c

/-- FW_A, FW_B (R90, R470, R471). -/
def fwBlock (s : State) (l : Lane) : Bytes :=
  let k := laneNo l
  let bank (b : Nat) : Row := fwBankRow s (k * 2 + b)
  layOut 0 48 [
    (0, be 1 (s.fw.boots.get l).running), (1, be 1 (b2n s.fw.uncommitted)), (2, be 2 (s.fw.live.get l)),
    (4, be 4 (rNat (bank 0) 1)), (8, be 2 (rNat (bank 0) 2)), (10, be 1 (rNat (bank 0) 0)),
    (12, be 4 (rNat (bank 1) 1)), (16, be 2 (rNat (bank 1) 2)), (18, be 1 (rNat (bank 1) 0)),
    (20, be 4 (runningImg s l).policyVersion)]

/-- ADMIT of a deadline class (R90, R122). -/
def admitBlock (s : State) (cls : Nat) : Bytes :=
  let p := bookedPart s cls
  let a := asn s
  let slots := ((s.adm.bookings.filter (fun b => b.dclass == cls && decide (a ≤ b.asn))).map (fun b => b.len)).sum
  sat 4 (s.adm.tickets.filter (fun k => k.2.state == 1 && k.2.dclass == cls)).length ++ sat 4 slots
    ++ sat 4 (if p.2 = 0 then 0 else p.1 * 65536 / p.2) ++ be 4 (cntRead s kRefused cls 0)

/-- LOCKS of a lock group (R90). -/
def lockBlock (s : State) (g : Nat) : Bytes :=
  let r := lockRow s g
  layOut 0 40 [(0, be 1 (rNat r 0)), (2, be 2 (rNat r 3)), (4, be 4 (rNat r 1)), (8, fit 16 (rOct r 2)), (24, be 2 (rNat r 4)),
    (32, be 8 (rNat r 5))]

/-- PORT_TA, PORT_TB (R90). -/
def portBlock (s : State) (p : Nat) : Bytes :=
  let r := portRow s p
  layOut 0 32 [(0, be 1 (rNat r 0)), (1, be 1 (rNat r 1)), (4, be 4 (rNat r 3)), (8, be 4 (rNat r 4))]

/-- STRING of a string (R90). -/
def stringBlock (s : State) (k : Nat) : Bytes :=
  let r := stringRow s k
  layOut 0 12 [(0, be 2 (rNat r 0)), (2, be 2 (rNat r 1)), (4, be 2 (rNat r 2)), (6, beI 2 (rInt r 3)), (8, be 1 (rNat r 4)),
    (9, be 1 (rNat r 5)), (10, be 1 (rNat r 6))]

/-- CLUSTERS: 2 bits a cluster, cluster 0 in the top bits (R91). -/
def clusterBytes (s : State) : Bytes :=
  (List.range 64).map (fun i => be 1 (clusterState s (4 * i) * 64 + clusterState s (4 * i + 1) * 16
    + clusterState s (4 * i + 2) * 4 + clusterState s (4 * i + 3)) |>.headD 0)

/-- Open tickets, the one with the earliest deadline first (R89). -/
def earliest (s : State) : Option Ticket :=
  (s.adm.tickets.filter (fun p => p.2.state == 1)).foldl (fun b p => match b with
    | none => some p.2
    | some t => if p.2.deadline < t.deadline then some p.2 else b) none

/-- CASCADE_ROLE (R89, R324). -/
def cascadeRole (s : State) : Nat := if actsMaster s then (if modId s = 0 then 0 else 2) else 1

/-- Bytes 0 to 447 of the record (R89): identity, lanes, firmware, sticky faults, admission. -/
def recordHead (s : State) (seq a scope : Nat) : List (Nat × Bytes) :=
  let name := rOct (getRow s 0x00001 0) 0
  let e := earliest s
  [(0, be 2 1), (2, be 2 0x0C00), (4, be 4 seq), (8, be 8 a), (16, be 8 (timeOf s (fabOfAsn s a))), (24, be 1 (modId s)),
    (25, be 1 Config.partCode), (26, be 1 Config.silRev), (27, be 1 (laneNo (servedBy s))), (28, be 1 scope),
    (64, fit 16 Config.serial), (80, be 1 name.length ++ fit 31 name), (112, be 1 (lcCode s.life.state)),
    (113, be 1 (objN s 0x10011 0 0)), (114, be 1 (b2n (getB s 0x10110))), (115, be 1 (cascadeRole s)),
    (128, be 1 (activeCode s)), (129, be 1 (roleCode s.lanes.a.role)), (130, be 1 (roleCode s.lanes.b.role)),
    (132, be 2 (healthOf s .A)), (134, be 2 (healthOf s .B)), (136, be 4 (getN s 0xA0012)), (140, be 8 (getN s 0xA0017)),
    (148, be 4 (objN s 0xA0013 0 0)), (152, be 1 (getN s 0xA0018)), (192, fwBlock s .A), (240, fwBlock s .B),
    (288, be 32 s.dict.sticky.toNat), (320, admitBlock s 1), (336, admitBlock s 2), (352, admitBlock s 3), (368, admitBlock s 4),
    (384, sat 4 (ticketsOpen s)), (388, be 4 (match e with | some t => t.id | none => 0)),
    (392, be 8 (match e with | some t => t.deadlineTime | none => 0)), (400, be 4 (cntRead s kDoneClean 0 0)),
    (404, be 4 (cntRead s kDoneResidue 0 0)), (408, be 4 (objN s 0x50015 0 0))]

/-- Bytes 448 to 1983: locks, trunk, time, clusters. -/
def recordMid (s : State) : List (Nat × Bytes) :=
  (List.range 32).map (fun g => (448 + 40 * g, lockBlock s g)) ++
  [(1728, portBlock s 0), (1760, portBlock s 1), (1792, be 1 (ringState s)),
    (1793, sat 1 (match s.trunk.topo with | some m => m.entries.length | none => 1)), (1794, sat 1 (masterId s)),
    (1795, sat 1 (match s.trunk.topo with | some m => m.deputy | none => 255)), (1796, be 4 (objN s 0x30012 0 0)),
    (1800, be 8 (getN s 0x30013)), (1856, be 1 (timeQuality s)), (1857, be 1 (b2n s.time.oscStopped)),
    (1860, beI 4 (objI s 0x20013 0 0)), (1864, be 4 (objN s 0x20014 0 0)), (1868, beI 2 (getI s 0x20100)),
    (1872, be 8 (getN s 0x20017)), (1880, beI 4 (objI s 0x20015 0 0)), (1920, clusterBytes s)]

/-- Bytes 1984 to 3067: metering, anchor drive, recorder, Ibier. -/
def recordTail (s : State) : List (Nat × Bytes) :=
  let ph (i c : Nat) : Bytes := be 4 (rNat (phaseRow s i) c)
  let w (i : Nat) : Bytes := beI 4 (rInt (phaseRow s i) 2)
  let p := recPointers s
  [(1984, ph 0 0 ++ ph 1 0 ++ ph 2 0 ++ ph 0 1 ++ ph 1 1 ++ ph 2 1 ++ ph 3 1 ++ be 4 (objN s 0x80026 0 0) ++ w 0 ++ w 1 ++ w 2 ++ be 4 (objN s 0x80025 0 0)),
    (2032, be 1 (packBits ((List.range 3).map (phaseAbsent s) ++ [s.met.freqFall, anyFall s, !s.power.mainOn]))),
    (2036, be 8 (energyOf s 0) ++ be 8 (energyOf s 1) ++ be 8 (energyOf s 6)),
    (2060, be 4 (objN s 0x80016 0 0)), (2064, be 4 (getN s 0x80014)),
    (2112, stringBlock s 0 ++ stringBlock s 1 ++ stringBlock s 2 ++ stringBlock s 3),
    (2160, be 1 (packBits ((shown s).map engRuns))), (2164, be 2 (objN s 0x90011 0 0)), (2168, sat 4 s.trk.clamps),
    (2208, be 4 (rNat p 0) ++ be 4 (rNat p 1)), (2216, be 4 s.recd.written),
    (2220, ((List.range 8).map (fun k => be 4 (getC s 0xB0011 k 0))).flatten), (2252, be 4 (objN s 0xB0013 0 0)),
    (2256, be 8 (recNewest s)), (2272, sat 2 s.ib.sessions.length), (2274, sat 2 s.ib.seqs.length), (2276, be 4 (shadowUse s)),
    (2280, be 4 (cntRead s kNoticesSent 0 0)), (2284, be 4 (cntRead s kCompResends 0 0)), (2288, be 4 (objN s 0x00011 0 0))]

/-- The Survey record of a snapshot (R89): its bytes and their CRC. -/
def surveyRecord (s : State) (seq a scope : Nat) : Bytes :=
  let b := layOut 0 3068 (recordHead s seq a scope ++ recordMid s ++ recordTail s)
  b ++ be 4 (crc32 b).toNat

/-- A record in parts of 1,024 bytes (R87). -/
def recordParts (b : Bytes) : List Bytes := [b.take 1024, (b.drop 1024).take 1024, b.drop 2048]

/-- A waiter joins the snapshot of an ASN (R87); the session 0 of `w` stands for the master of a cascade Survey. -/
def awaitSnap (a : Nat) (w : List (Nat × Nat)) (s : State) : State :=
  { s with ib := { s.ib with snapPending := mupd s.ib.snapPending a [] (fun l => l ++ w) } }

/-- The modules that a cascade Survey's mask names and the TOPO in force lists, but this one (R88). -/
def surveyed (s : State) (mask m : Nat) : Bool :=
  bitOf mask m && m != modId s && (match s.trunk.topo with | some t => t.entries.any (fun e => e.1 == m) | none => false)

/-- The ASN of a cascade snapshot (R88): the first at least 4 slots ahead. -/
def cascadeAsn (s : State) : Nat := (slotAt s.clk s.clk.fab + 4 * Config.slotCycles + Config.slotCycles - 1) / Config.slotCycles

/-- SURVEY (R86, R87, R88). -/
def execSurvey (t : Nat) (h : Hdr) (args : List TVal) (s : State) : Host.Outcome State Fault Refusal :=
  let s := tick t s
  done s (execCmd 0x00100 [cU8, .bits 0xFFFFFFFF, .bits 0xFFFFFFFF] h args (fun sid _ s =>
    let scope := argN args 0
    if 1 < scope ∨ (scope = 1 ∧ !actsMaster s) then refuse (rRange 0x00100 0) s
    else if scope = 0 then (awaitSnap (asn s + 1) [(sid, h.seq)] s, none)
    else
      let mask := argN args 1 * 4294967296 + argN args 2
      let a := cascadeAsn s
      let s := awaitSnap a [] { s with ib := { s.ib with surveys := s.ib.surveys ++
        [{ asn := a, mask := mask, sid := sid, reqSeq := h.seq, snap := none, recs := [] }] } }
      (((List.range 64).filter (surveyed s mask)).foldl (fun s m => trunkSend m 0 (.surveySnap a) s) s, none)) s)

/-- SURVEY_SNAP (R88): a member schedules its snapshot. -/
def execSurveySnap (t a : Nat) (s : State) : Host.Outcome State Fault Refusal :=
  let s := tick t s
  if actsMaster s ∨ !commissioned s then done s s else done s (awaitSnap a [(0, 0)] s)

/-- The entries of a cascade reply's index (R88): state and first part of a module, given the parts so far. -/
def indexEntries (s : State) (v : CascadeSurvey) : List Nat → Nat → Bytes × List Bytes
  | [], _ => ([], [])
  | m :: r, part =>
    match mget v.recs m with
    | some b =>
      let x := indexEntries s v r (part + 3)
      (be 1 0 ++ be 1 part ++ x.1, recordParts b ++ x.2)
    | none =>
      let x := indexEntries s v r part
      (be 1 (if surveyed s v.mask m then 1 else if bitOf v.mask m then 2 else 3) ++ be 1 0 ++ x.1, x.2)

/-- The parts of a cascade reply (R88). -/
def cascadeParts (s : State) (v : CascadeSurvey) (seq : Nat) : List Bytes :=
  let x := indexEntries s v (List.range 64) 1
  (be 4 seq ++ be 8 v.asn ++ be 1 v.recs.length ++ be 3 0 ++ x.1) :: x.2

/-- A cascade Survey is answered (R88). -/
def answerSurvey (v : CascadeSurvey) (s : State) : State :=
  match v.snap with
  | none => s
  | some seq =>
    lateReply v.sid v.reqSeq 0x00100 (rOk (.survey seq 255 (cascadeParts s v seq)))
      { s with ib := { s.ib with surveys := s.ib.surveys.filter (fun x => x != v) } }

/-- Whether a cascade Survey has every record it waits for. -/
def surveyFull (s : State) (v : CascadeSurvey) : Bool :=
  v.snap.isSome && (List.range 64).all (fun m => !surveyed s v.mask m || (mget v.recs m).isSome)

/-- Cascade Surveys that are complete are answered. -/
def answerFull (s : State) : State := (s.ib.surveys.filter (surveyFull s)).foldl (fun s v => answerSurvey v s) s

/-- One waiter of a snapshot: a session's reply, or the master's record (R87, R88). -/
def serveSnap (seq : Nat) (one own : Bytes) (s : State) (w : Nat × Nat) : State :=
  if w.1 = 0 then trunkSend (masterId s) 2 (.surveyRec own) s
  else lateReply w.1 w.2 0x00100 (rOk (.survey seq 255 (recordParts one))) s

/-- The snapshot of an ASN is taken (R87, R88): the record into its buffer, 8 kept, and everyone who waits for it. -/
def takeSnap (p : Nat × List (Nat × Nat)) (s : State) : State :=
  let s := ropUp 0x00101 1 s
  let seq := getN s 0x00101
  let one := surveyRecord s seq p.1 0
  let own := surveyRecord s seq p.1 1
  let s := { s with ib := { s.ib with
    snapPending := mdel s.ib.snapPending p.1
    snaps := ({ seq := seq, asn := p.1, record := one } :: s.ib.snaps).take 8
    surveys := s.ib.surveys.map (fun v =>
      if v.asn = p.1 then { v with snap := some seq, recs := mset v.recs (modId s) own } else v) } }
  answerFull (p.2.foldl (serveSnap seq one own) s)

/-- SNAPSHOT (R87): at the start of each chosen slot, after the commits that apply in it. -/
def execSnapshot (t : Nat) (s : State) : Host.Outcome State Fault Refusal :=
  let s := tick t s
  let due := s.ib.snapPending.filter (fun p => decide (p.1 ≤ asn s))
  if (active s).isNone || due.isEmpty then done s s
  else done s (due.foldl (fun s p => takeSnap p s) (applyDue s))

/-- SURVEY_REC (R88): a member's record reaches the master. -/
def execSurveyRec (t module : Nat) (record : Bytes) (s : State) : Host.Outcome State Fault Refusal :=
  let s := tick t s
  let a := ofBe ((record.drop 8).take 8)
  if actsMaster s ∧ record.length = 3072 then
    done s (answerFull { s with ib := { s.ib with surveys := s.ib.surveys.map (fun v =>
      if v.asn = a ∧ surveyed s v.mask module then { v with recs := mset v.recs module record } else v) } })
  else done s s

/-- SURVEY_MEMBER_TIMEOUT (R88): 500 ms after the snapshot ASN. -/
def execSurveyMemberTimeout (t : Nat) (s : State) : Host.Outcome State Fault Refusal :=
  let s := tick t s
  done s ((s.ib.surveys.filter (fun v => decide (fabOfAsn s v.asn + 500 * Config.msCycles ≤ s.clk.fab))).foldl
    (fun s v => answerSurvey v s) s)

end Sys2Proof.Machine
end

