-- ==== Sys2Proof/Machine/Dispatch.lean ====
section
/-!
DEFINITION. Dispatch: every command to its meaning, one arm per row of spec/opcode_table.json.
-/
namespace Sys2Proof.Machine

/-- The command's effect on everything but the queue. -/
def exec (i : Instr) (s : State) : Host.Outcome State Fault Refusal :=
  match i with
  -- Ibier (chapter 3) and sequences (chapter 2)
  | .dtlsHandshake t assoc entry way hello => Sys2Proof.Machine.execDtlsHandshake t assoc entry way hello s
  | .datagramDrop t rh auth size => Sys2Proof.Machine.execDatagramDrop t rh auth size s
  | .setup t h client idle => Sys2Proof.Machine.execSetup t h client idle s
  | .close t h => Sys2Proof.Machine.execClose t h s
  | .read t h => Sys2Proof.Machine.execRead t h s
  | .write t h tag rows => Sys2Proof.Machine.execWrite t h tag rows s
  | .seqOpen t h mask lease => Sys2Proof.Machine.execSeqOpen t h mask lease s
  | .seqCommit t h => Sys2Proof.Machine.execSeqCommit t h s
  | .seqAbort t h => Sys2Proof.Machine.execSeqAbort t h s
  | .subscribe t h subId mode minSev interval => Sys2Proof.Machine.execSubscribe t h subId mode minSev interval s
  | .ack t h compSeq => Sys2Proof.Machine.execAck t h compSeq s
  | .sessionIdleTimeout t sid => Sys2Proof.Machine.execSessionIdleTimeout t sid s
  | .leaseExpiry t handle => Sys2Proof.Machine.execLeaseExpiry t handle s
  | .commitApply t => Sys2Proof.Machine.execCommitApply t s
  | .subIntervalExpiry t sub => Sys2Proof.Machine.execSubIntervalExpiry t sub s
  | .subPeriodExpiry t sub => Sys2Proof.Machine.execSubPeriodExpiry t sub s
  | .completionResend t comp => Sys2Proof.Machine.execCompletionResend t comp s
  | .heldCompletionSend t sid => Sys2Proof.Machine.execHeldCompletionSend t sid s
  | .completionHoldExpiry t comp => Sys2Proof.Machine.execCompletionHoldExpiry t comp s
  | .describe t h args => Sys2Proof.Machine.execDescribe t h args s
  | .breakLock t h args => Sys2Proof.Machine.execBreakLock t h args s
  | .restoreDefaults t h args => Sys2Proof.Machine.execRestoreDefaults t h args s
  | .survey t h args => Sys2Proof.Machine.execSurvey t h args s
  | .snapshot t => Sys2Proof.Machine.execSnapshot t s
  | .surveyMemberTimeout t => Sys2Proof.Machine.execSurveyMemberTimeout t s
  | .closeSession t h args => Sys2Proof.Machine.execCloseSession t h args s
  | .ticketResult t h args => Sys2Proof.Machine.execTicketResult t h args s
  -- admission (chapter 4)
  | .deadlineInstant t ticket => Sys2Proof.Machine.execDeadlineInstant t ticket s
  | .subGo t at_ => Sys2Proof.Machine.execSubGo t at_ s
  | .compPop t at_ => Sys2Proof.Machine.execCompPop t at_ s
  | .selectClass t at_ zone cls hold => Sys2Proof.Machine.execSelectClass t at_ zone cls hold s
  | .histCopy t at_ kind first rows dest => Sys2Proof.Machine.execHistCopy t at_ kind first rows dest s
  | .histCopyDone t at_ => Sys2Proof.Machine.execHistCopyDone t at_ s
  -- Cydel (chapter 5)
  | .slotCommandLate t xcvr => Sys2Proof.Machine.execSlotCommandLate t xcvr s
  | .slotPosition t xcvr => Sys2Proof.Machine.execSlotPosition t xcvr s
  | .ackField t xcvr codes => Sys2Proof.Machine.execAckField t xcvr codes s
  | .shockTimeout t node => Sys2Proof.Machine.execShockTimeout t node s
  | .blankDecision t => Sys2Proof.Machine.execBlankDecision t s
  | .echoInsert t cluster => Sys2Proof.Machine.execEchoInsert t cluster s
  | .superframeBoundary t => Sys2Proof.Machine.execSuperframeBoundary t s
  | .pathSwap t cluster => Sys2Proof.Machine.execPathSwap t cluster s
  | .pathSwapBack t cluster => Sys2Proof.Machine.execPathSwapBack t cluster s
  | .supervisionExpiry t node => Sys2Proof.Machine.execSupervisionExpiry t node s
  | .eventBurst t b => Sys2Proof.Machine.execEventBurst t b s
  | .joinKey t xcvr eui nonce key asn rssi => Sys2Proof.Machine.execJoinKey t xcvr eui nonce key asn rssi s
  | .joinSig t xcvr eui nonce asn sigOk => Sys2Proof.Machine.execJoinSig t xcvr eui nonce asn sigOk s
  | .joinPendingExpiry t eui => Sys2Proof.Machine.execJoinPendingExpiry t eui s
  | .approveJoin t h args => Sys2Proof.Machine.execApproveJoin t h args s
  | .removeNode t h args => Sys2Proof.Machine.execRemoveNode t h args s
  | .lightSet t h args => Sys2Proof.Machine.execLightSet t h args s
  | .lightResume t h args => Sys2Proof.Machine.execLightResume t h args s
  | .nodeFunc t h args => Sys2Proof.Machine.execNodeFunc t h args s
  -- epochs and node images (chapter 6)
  | .epochOpen t h args => Sys2Proof.Machine.execEpochOpen t h args s
  | .epochStage t h args => Sys2Proof.Machine.execEpochStage t h args s
  | .epochArm t h args => Sys2Proof.Machine.execEpochArm t h args s
  | .epochAbandon t h args => Sys2Proof.Machine.execEpochAbandon t h args s
  | .epochPreswitchCheck t => Sys2Proof.Machine.execEpochPreswitchCheck t s
  | .cancelledPayloadEnd t => Sys2Proof.Machine.execCancelledPayloadEnd t s
  | .epochSwitch t => Sys2Proof.Machine.execEpochSwitch t s
  | .epochVerifyTimeout t => Sys2Proof.Machine.execEpochVerifyTimeout t s
  | .imageDiscard t h args => Sys2Proof.Machine.execImageDiscard t h args s
  | .imageBlock t h args => Sys2Proof.Machine.execImageBlock t h args s
  -- tracker (chapter 7)
  | .presenceEventIngest t => Sys2Proof.Machine.execPresenceEventIngest t s
  | .tentativeTimeout t track => Sys2Proof.Machine.execTentativeTimeout t track s
  | .coastStart t track => Sys2Proof.Machine.execCoastStart t track s
  | .coastLimitExpiry t track => Sys2Proof.Machine.execCoastLimitExpiry t track s
  | .handedEnd t track => Sys2Proof.Machine.execHandedEnd t track s
  | .endedRelease t track => Sys2Proof.Machine.execEndedRelease t track s
  | .midpointRefresh t track => Sys2Proof.Machine.execMidpointRefresh t track s
  | .handoffRetry t hseq => Sys2Proof.Machine.execHandoffRetry t hseq s
  | .handoff t m => Sys2Proof.Machine.execHandoff t m s
  | .handoffAck t source hseq track status => Sys2Proof.Machine.execHandoffAck t source hseq track status s
  | .boundaryList t source part parts entries => Sys2Proof.Machine.execBoundaryList t source part parts entries s
  | .boundaryUnmatchedTimeout t vertex => Sys2Proof.Machine.execBoundaryUnmatchedTimeout t vertex s
  | .historyHourEnd t => Sys2Proof.Machine.execHistoryHourEnd t s
  | .turnsWeekEnd t => Sys2Proof.Machine.execTurnsWeekEnd t s
  | .adaptiveClassChange t => Sys2Proof.Machine.execAdaptiveClassChange t s
  | .classApply t zone => Sys2Proof.Machine.execClassApply t zone s
  | .classHoldExpiry t zone => Sys2Proof.Machine.execClassHoldExpiry t zone s
  | .histClear t h args => Sys2Proof.Machine.execHistClear t h args s
  -- metering (chapter 8)
  | .zeroCrossing t x => Sys2Proof.Machine.execZeroCrossing t x s
  | .zcTimeout t phase => Sys2Proof.Machine.execZcTimeout t phase s
  | .measurementPeriodEnd t a b => Sys2Proof.Machine.execMeasurementPeriodEnd t a b s
  | .periodicSave t a b => Sys2Proof.Machine.execPeriodicSave t a b s
  | .finalSaveRepeat t a b => Sys2Proof.Machine.execFinalSaveRepeat t a b s
  | .calMeasure t h args => Sys2Proof.Machine.execCalMeasure t h args s
  | .calMeasureDone t v amps angle freq voff ioff => Sys2Proof.Machine.execCalMeasureDone t v amps angle freq voff ioff s
  | .battMetStart t => Sys2Proof.Machine.execBattMetStart t s
  | .battWindow t rms volts => Sys2Proof.Machine.execBattWindow t rms volts s
  | .battBudgetSpent t => Sys2Proof.Machine.execBattBudgetSpent t s
  | .battMetRenew t h args => Sys2Proof.Machine.execBattMetRenew t h args s
  -- anchor drive (chapter 9)
  | .ledPeriodBoundary t complete hashA hashB samples => Sys2Proof.Machine.execLedPeriodBoundary t complete hashA hashB samples s
  | .safeLightTimeout t => Sys2Proof.Machine.execSafeLightTimeout t s
  | .ledControlTick t samples => Sys2Proof.Machine.execLedControlTick t samples s
  | .padSensorStuck t string => Sys2Proof.Machine.execPadSensorStuck t string s
  | .hwOvertempCut t string pad => Sys2Proof.Machine.execHwOvertempCut t string pad s
  | .hwOvertempRelease t string pad => Sys2Proof.Machine.execHwOvertempRelease t string pad s
  | .bypassClamp t string pos volts => Sys2Proof.Machine.execBypassClamp t string pos volts s
  | .stringCurrentFault t string => Sys2Proof.Machine.execStringCurrentFault t string s
  | .flowstoneTick t => Sys2Proof.Machine.execFlowstoneTick t s
  | .flsStart t h args => Sys2Proof.Machine.execFlsStart t h args s
  | .flsStop t h args => Sys2Proof.Machine.execFlsStop t h args s
  | .flsTrigger t h args => Sys2Proof.Machine.execFlsTrigger t h args s
  | .flsCtrlStart t lane core engine own => Sys2Proof.Machine.execFlsCtrlStart t lane core engine own s
  | .flsCtrlStop t lane core engine => Sys2Proof.Machine.execFlsCtrlStop t lane core engine s
  | .flsTrigSet t lane core engine bits => Sys2Proof.Machine.execFlsTrigSet t lane core engine bits s
  | .flsProgWrite t lane core engine index word => Sys2Proof.Machine.execFlsProgWrite t lane core engine index word s
  | .ledRetest t h args => Sys2Proof.Machine.execLedRetest t h args s
  | .ledRetestEnd t string => Sys2Proof.Machine.execLedRetestEnd t string s
  -- lanes (chapters 1 and 10)
  | .inputArrival t source hash atActive atStandby => Sys2Proof.Machine.execInputArrival t source hash atActive atStandby s
  | .orderTag t seq source hash => Sys2Proof.Machine.execOrderTag t seq source hash s
  | .forwardedInput t seq source hash => Sys2Proof.Machine.execForwardedInput t seq source hash s
  | .orphanTimeout t hash => Sys2Proof.Machine.execOrphanTimeout t hash s
  | .comparisonRecord t lane seq kind hash => Sys2Proof.Machine.execComparisonRecord t lane seq kind hash s
  | .outputReleaseTimeout t seq => Sys2Proof.Machine.execOutputReleaseTimeout t seq s
  | .lagDetect t => Sys2Proof.Machine.execLagDetect t s
  | .selfCheckDone t condemnA condemnB => Sys2Proof.Machine.execSelfCheckDone t condemnA condemnB s
  | .eccError t lane corrected => Sys2Proof.Machine.execEccError t lane corrected s
  | .laneWatchdogExpiry t lane core => Sys2Proof.Machine.execLaneWatchdogExpiry t lane core s
  | .aliveLoss t lane => Sys2Proof.Machine.execAliveLoss t lane s
  | .switchoverTakeEffect t => Sys2Proof.Machine.execSwitchoverTakeEffect t s
  | .switchover t h args => Sys2Proof.Machine.execSwitchover t h args s
  | .restartStandby t h args => Sys2Proof.Machine.execRestartStandby t h args s
  | .resync t h args => Sys2Proof.Machine.execResync t h args s
  | .resyncRequest t lane => Sys2Proof.Machine.execResyncRequest t lane s
  | .stateTransferDone t lane => Sys2Proof.Machine.execStateTransferDone t lane s
  | .resyncCompareEnd t lane allMatch => Sys2Proof.Machine.execResyncCompareEnd t lane allMatch s
  | .laneBridgeLinkFail t link => Sys2Proof.Machine.execLaneBridgeLinkFail t link s
  | .laneStartReport t lane repairs => Sys2Proof.Machine.execLaneStartReport t lane repairs s
  | .lanesAgree t => Sys2Proof.Machine.execLanesAgree t s
  | .agreementTimeout t lane => Sys2Proof.Machine.execAgreementTimeout t lane s
  | .unitTest t lane unit result => Sys2Proof.Machine.execUnitTest t lane unit result s
  -- trunk (chapter 11)
  | .sfpInsert t port is1000X overCurrent => Sys2Proof.Machine.execSfpInsert t port is1000X overCurrent s
  | .autonegDone t port => Sys2Proof.Machine.execAutonegDone t port s
  | .autonegTimeout t port => Sys2Proof.Machine.execAutonegTimeout t port s
  | .hello t port m => Sys2Proof.Machine.execHello t port m s
  | .helloRetry t port => Sys2Proof.Machine.execHelloRetry t port s
  | .tamperHello t => Sys2Proof.Machine.execTamperHello t s
  | .offer t port m => Sys2Proof.Machine.execOffer t port m s
  | .accept t port m => Sys2Proof.Machine.execAccept t port m s
  | .linkDown t port => Sys2Proof.Machine.execLinkDown t port s
  | .passThrough t port f => Sys2Proof.Machine.execPassThrough t port f s
  | .credit t port freed => Sys2Proof.Machine.execCredit t port freed s
  | .creditSend t port => Sys2Proof.Machine.execCreditSend t port s
  | .dcredit t source reset freed held grant => Sys2Proof.Machine.execDcredit t source reset freed held grant s
  | .dcreditSend t dest => Sys2Proof.Machine.execDcreditSend t dest s
  | .topo t port m => Sys2Proof.Machine.execTopo t port m s
  | .topoDeferredAdopt t => Sys2Proof.Machine.execTopoDeferredAdopt t s
  | .topoFlood t => Sys2Proof.Machine.execTopoFlood t s
  | .linkReport t node stateTA neighTA stateTB neighTB => Sys2Proof.Machine.execLinkReport t node stateTA neighTA stateTB neighTB s
  | .linkReportPeriodic t => Sys2Proof.Machine.execLinkReportPeriodic t s
  | .breakMsg t port nodeA nodeB tgen => Sys2Proof.Machine.execBreakMsg t port nodeA nodeB tgen s
  | .ibierFrame t way rhVersion module tclass reserved size => Sys2Proof.Machine.execIbierFrame t way rhVersion module tclass reserved size s
  | .surveySnap t asn => Sys2Proof.Machine.execSurveySnap t asn s
  | .surveyRec t module record => Sys2Proof.Machine.execSurveyRec t module record s
  | .status t m => Sys2Proof.Machine.execStatus t m s
  | .statusSend t => Sys2Proof.Machine.execStatusSend t s
  | .memberSilentTimeout t module => Sys2Proof.Machine.execMemberSilentTimeout t module s
  | .pauseFrame t port => Sys2Proof.Machine.execPauseFrame t port s
  | .masterHandover t h args => Sys2Proof.Machine.execMasterHandover t h args s
  | .handoverApply t => Sys2Proof.Machine.execHandoverApply t s
  | .portRestart t h args => Sys2Proof.Machine.execPortRestart t h args s
  -- time (chapter 12)
  | .ptpSync t port offset tlvOk => Sys2Proof.Machine.execPtpSync t port offset tlvOk s
  | .ptpSyncSend t port => Sys2Proof.Machine.execPtpSyncSend t port s
  | .pdelayExchange t port roundTrip => Sys2Proof.Machine.execPdelayExchange t port roundTrip s
  | .syncMiss t => Sys2Proof.Machine.execSyncMiss t s
  | .asnConflictTimeout t => Sys2Proof.Machine.execAsnConflictTimeout t s
  | .asnSlewDone t diff => Sys2Proof.Machine.execAsnSlewDone t diff s
  | .rtcRealign t => Sys2Proof.Machine.execRtcRealign t s
  | .rtcCompensation t temp => Sys2Proof.Machine.execRtcCompensation t temp s
  | .ptpTrimUpdate t rate => Sys2Proof.Machine.execPtpTrimUpdate t rate s
  | .mainsTrimWindow t cycles => Sys2Proof.Machine.execMainsTrimWindow t cycles s
  | .oscStopDetect t lane => Sys2Proof.Machine.execOscStopDetect t lane s
  | .timeSet t h args => Sys2Proof.Machine.execTimeSet t h args s
  | .timeStep t => Sys2Proof.Machine.execTimeStep t s
  | .slewComplete t => Sys2Proof.Machine.execSlewComplete t s
  | .leapInstant t => Sys2Proof.Machine.execLeapInstant t s
  | .alarmFire t row => Sys2Proof.Machine.execAlarmFire t row s
  -- vault and life cycle (chapter 13)
  | .derive t lane core => Sys2Proof.Machine.execDerive t lane core s
  | .loadSlot t lane core => Sys2Proof.Machine.execLoadSlot t lane core s
  | .sign t lane core => Sys2Proof.Machine.execSign t lane core s
  | .verify t lane core => Sys2Proof.Machine.execVerify t lane core s
  | .ecdh t lane core => Sys2Proof.Machine.execEcdh t lane core s
  | .aeadSeal t lane core => Sys2Proof.Machine.execAeadSeal t lane core s
  | .aeadOpen t lane core => Sys2Proof.Machine.execAeadOpen t lane core s
  | .hmac t lane core => Sys2Proof.Machine.execHmac t lane core s
  | .wrapExport t lane core => Sys2Proof.Machine.execWrapExport t lane core s
  | .unwrapImport t lane core => Sys2Proof.Machine.execUnwrapImport t lane core s
  | .vaultOpDone t lane checkOk => Sys2Proof.Machine.execVaultOpDone t lane checkOk s
  | .rootCopy t target => Sys2Proof.Machine.execRootCopy t target s
  | .tamperTrip t source => Sys2Proof.Machine.execTamperTrip t source s
  | .laneLocalTrip t lane source => Sys2Proof.Machine.execLaneLocalTrip t lane source s
  | .sleepTrip t source => Sys2Proof.Machine.execSleepTrip t source s
  | .encSuspend t h args => Sys2Proof.Machine.execEncSuspend t h args s
  | .encSuspendExpiry t => Sys2Proof.Machine.execEncSuspendExpiry t s
  | .commission t h args claimOk blobOk => Sys2Proof.Machine.execCommission t h args claimOk blobOk s
  | .claimLockoutExpiry t => Sys2Proof.Machine.execClaimLockoutExpiry t s
  | .recommission t h args blobOk tamper => Sys2Proof.Machine.execRecommission t h args blobOk tamper s
  | .returnModule t h args => Sys2Proof.Machine.execReturnModule t h args s
  | .scrap t h args => Sys2Proof.Machine.execScrap t h args s
  | .escrowExport t h args => Sys2Proof.Machine.execEscrowExport t h args s
  | .trunkKeyInstall t h args blobOk => Sys2Proof.Machine.execTrunkKeyInstall t h args blobOk s
  | .returnToStock t h args => Sys2Proof.Machine.execReturnToStock t h args s
  | .factoryRootsInstall t => Sys2Proof.Machine.execFactoryRootsInstall t s
  -- recorder (chapter 14)
  | .recordSubmit t lane core r => Sys2Proof.Machine.execRecordSubmit t lane core r s
  | .recordWrite t => Sys2Proof.Machine.execRecordWrite t s
  | .recorderNoticeWindowEnd t => Sys2Proof.Machine.execRecorderNoticeWindowEnd t s
  | .summaryIntervalEnd t interval => Sys2Proof.Machine.execSummaryIntervalEnd t interval s
  | .recRead t h args => Sys2Proof.Machine.execRecRead t h args s
  -- interrupt controller (chapter 15)
  | .icuSourceEvent t lane source level => Sys2Proof.Machine.execIcuSourceEvent t lane source level s
  | .icuClaim t lane core target => Sys2Proof.Machine.execIcuClaim t lane core target s
  | .icuComplete t lane core target source => Sys2Proof.Machine.execIcuComplete t lane core target source s
  | .enableSet t lane core word bits => Sys2Proof.Machine.execEnableSet t lane core word bits s
  | .enableClr t lane core word bits => Sys2Proof.Machine.execEnableClr t lane core word bits s
  | .sgiSet t lane core value => Sys2Proof.Machine.execSgiSet t lane core value s
  | .icuStuckTimeout t lane target => Sys2Proof.Machine.execIcuStuckTimeout t lane target s
  | .coreReset t lane core => Sys2Proof.Machine.execCoreReset t lane core s
  | .laneReset t lane => Sys2Proof.Machine.execLaneReset t lane s
  | .stopEntry t lane => Sys2Proof.Machine.execStopEntry t lane s
  | .wakeEdge t lane source width => Sys2Proof.Machine.execWakeEdge t lane source width s
  | .semaphoreAcquire t lane core sem => Sys2Proof.Machine.execSemaphoreAcquire t lane core sem s
  | .semaphoreRelease t lane core sem => Sys2Proof.Machine.execSemaphoreRelease t lane core sem s
  | .timeLoRead t lane core => Sys2Proof.Machine.execTimeLoRead t lane core s
  -- Gour and Sump (chapter 16)
  | .gourWindowStart t lane arb => Sys2Proof.Machine.execGourWindowStart t lane arb s
  | .gourGrant t lane arb => Sys2Proof.Machine.execGourGrant t lane arb s
  | .gourRequest t lane arb req cost => Sys2Proof.Machine.execGourRequest t lane arb req cost s
  | .gourWithdraw t lane arb req slotQueued => Sys2Proof.Machine.execGourWithdraw t lane arb req slotQueued s
  | .gourRefillWrite t lane core arb req value => Sys2Proof.Machine.execGourRefillWrite t lane core arb req value s
  | .sumpFlush t lane core queue => Sys2Proof.Machine.execSumpFlush t lane core queue s
  | .sumpDataRead t lane core queue => Sys2Proof.Machine.execSumpDataRead t lane core queue s
  | .sumpWdataWrite t lane core queue value => Sys2Proof.Machine.execSumpWdataWrite t lane core queue value s
  | .sumpWordArrival t lane queue word last badBits => Sys2Proof.Machine.execSumpWordArrival t lane queue word last badBits s
  | .busWatchdogAbort t lane core => Sys2Proof.Machine.execBusWatchdogAbort t lane core s
  | .registerWrite t lane core addr value => Sys2Proof.Machine.execRegisterWrite t lane core addr value s
  -- self-test (chapter 17)
  | .sliceTick t => Sys2Proof.Machine.execSliceTick t s
  | .sliceRestore t obs readback1 readback2 => Sys2Proof.Machine.execSliceRestore t obs readback1 readback2 s
  | .stSweep t h args => Sys2Proof.Machine.execStSweep t h args s
  | .sweepEnd t => Sys2Proof.Machine.execSweepEnd t s
  -- power and start-up (chapter 18)
  | .powerFailWarning t a b => Sys2Proof.Machine.execPowerFailWarning t a b s
  | .brownoutRecovery t => Sys2Proof.Machine.execBrownoutRecovery t s
  | .vStop t => Sys2Proof.Machine.execVStop t s
  | .por t canaryOk parityA parityB => Sys2Proof.Machine.execPor t canaryOk parityA parityB s
  | .cellLoadTest t cell millivolts => Sys2Proof.Machine.execCellLoadTest t cell millivolts s
  | .cellRemoval t cell => Sys2Proof.Machine.execCellRemoval t cell s
  | .cellReplaced t h args millivolts => Sys2Proof.Machine.execCellReplaced t h args millivolts s
  | .cellTest t h args mvA mvB => Sys2Proof.Machine.execCellTest t h args mvA mvB s
  | .vbdDip t => Sys2Proof.Machine.execVbdDip t s
  | .vbdRecovery t => Sys2Proof.Machine.execVbdRecovery t s
  | .keepTimeExpiry t below16 => Sys2Proof.Machine.execKeepTimeExpiry t below16 s
  | .coilSupplyLoss t decivolts => Sys2Proof.Machine.execCoilSupplyLoss t decivolts s
  | .coilSupplyReturn t decivolts => Sys2Proof.Machine.execCoilSupplyReturn t decivolts s
  | .ledSupplyFail t => Sys2Proof.Machine.execLedSupplyFail t s
  | .keepaliveFail t => Sys2Proof.Machine.execKeepaliveFail t s
  | .inputRange t decivolts => Sys2Proof.Machine.execInputRange t decivolts s
  | .baseplateHot t temp => Sys2Proof.Machine.execBaseplateHot t temp s
  | .baseplateCool t temp => Sys2Proof.Machine.execBaseplateCool t temp s
  | .outputSet t h args => Sys2Proof.Machine.execOutputSet t h args s
  | .outputGapEnd t output => Sys2Proof.Machine.execOutputGapEnd t output s
  | .outputTrip t output milliamps decivolts => Sys2Proof.Machine.execOutputTrip t output milliamps decivolts s
  | .diEdge t input on => Sys2Proof.Machine.execDiEdge t input on s
  -- firmware (chapter 19)
  | .streamOpen t h sha => Sys2Proof.Machine.execStreamOpen t h sha s
  | .streamData t h data => Sys2Proof.Machine.execStreamData t h data s
  | .streamEnd t h sigOk policyKey => Sys2Proof.Machine.execStreamEnd t h sigOk policyKey s
  | .streamAbort t h => Sys2Proof.Machine.execStreamAbort t h s
  | .streamTimeout t row => Sys2Proof.Machine.execStreamTimeout t row s
  | .bankProgramDone t lane => Sys2Proof.Machine.execBankProgramDone t lane s
  | .trialConfirm t lane => Sys2Proof.Machine.execTrialConfirm t lane s
  | .fwActivate t h args => Sys2Proof.Machine.execFwActivate t h args s
  | .fwCommit t h args => Sys2Proof.Machine.execFwCommit t h args s
  | .fwCommitApply t => Sys2Proof.Machine.execFwCommitApply t s
  | .fwRestartAll t h args => Sys2Proof.Machine.execFwRestartAll t h args s
  | .bankErase t h args => Sys2Proof.Machine.execBankErase t h args s
  -- rows at the table's end
  | .coreCheckerFire t lane core => Sys2Proof.Machine.execCoreCheckerFire t lane core s
  | .laneBridgeLinkUp t link => Sys2Proof.Machine.execLaneBridgeLinkUp t link s
  | .dtlsTeardown t assoc => Sys2Proof.Machine.execDtlsTeardown t assoc s
  | .pendingRead t lane core word => Sys2Proof.Machine.execPendingRead t lane core word s
  | .busErrorRead t lane core addr => Sys2Proof.Machine.execBusErrorRead t lane core addr s

end Sys2Proof.Machine
end

