-- ==== Sys2Proof/WellFormed.lean ====
section
/-!
DEFINITION. Which commands can stand on the wire or on a pin: operands within the widths that the spec gives their
fields (R30, R35, R72, R463, R374). A finite unit (a lane, a core, a port) needs no check: its type holds it.
-/
namespace Sys2Proof

/-- A number of at most `n` bits. -/
def below (n v : Nat) : Bool := decide (v < 2 ^ n)

/-- A 24-bit sample (R232). -/
def sampleOk (x : Int) : Bool := decide (-8388608 ≤ x ∧ x ≤ 8388607)

/-- Samples of eight channels (R232): 24 bits each, as many of one channel as of the next. -/
def Samples.ok (m : Samples) : Bool :=
  m.raw.length == 8 && m.raw.all (fun c => c.length == (m.raw.map List.length).headD 0 && c.all sampleOk)

/-- The request header's fields within their widths (R66, R72). -/
def Hdr.ok (h : Hdr) : Bool :=
  below 8 h.rhVersion && below 8 h.rhModule && below 8 h.tclass && below 8 h.rhReserved && below 16 h.size && below 8 h.typ
    && below 8 h.flags && below 16 h.length && below 32 h.sid && below 32 h.seq && below 16 h.handle && below 8 h.dclass
    && below 8 h.resend && below 32 h.deadline && below 32 h.obj && below 32 h.firstRow && below 16 h.rowCount
    && below 16 h.reserved && (match h.strike with | .before code => below 16 code | .none | .uncertain | .tamper => true)

/-- A request of a TYPE (R72). -/
def Hdr.okFor (h : Hdr) (typ : Nat) : Bool := h.ok && h.typ == typ

/-- A request of the TYPE of READ, or of one that R72 does not define, which the READ row carries (log entry 22). -/
def Hdr.okRead (h : Hdr) : Bool := h.ok && (h.typ == 1 || h.typ == 0 || decide (10 < h.typ))

/-- A head-end's address and port (R321). -/
def Peer.ok (p : Peer) : Bool := p.addr.length == 16 && below 16 p.port

/-- A datagram's way (R66, R321). -/
def Way.ok (w : Way) : Bool := below 8 w.via && w.peer.ok

/-- A number within the size of its tag, signed or not (R30). -/
def numOk (tag : Nat) (n : Int) : Bool :=
  let bits := 8 * Machine.tagSize tag
  let signed := tag == 6 || tag == 7 || tag == 8 || tag == 9
  if signed then decide (-(2 : Int) ^ (bits - 1) ≤ n ∧ n < 2 ^ (bits - 1)) else decide (0 ≤ n ∧ n < 2 ^ bits)

/-- A tagged value (R30): a number under a number's tag, bytes under 0Dh or 0Eh. -/
def TVal.ok (a : TVal) : Bool :=
  match a.val with
  | .num n => 1 ≤ a.tag && a.tag ≤ 12 && numOk a.tag n
  | .bytes b => (a.tag == 13 || a.tag == 14) && b.length ≤ 1168

/-- An argument block (R35). -/
def argsOk (l : List TVal) : Bool := l.all TVal.ok

/-- The columns of a written row: 64 bits at most, at most 1,168 bytes (R30, R72). -/
def rowOk (r : Row) : Bool :=
  r.all (fun v => match v with
    | .num n => decide (-(2 : Int) ^ 63 ≤ n ∧ n < 2 ^ 64)
    | .bytes b => b.length ≤ 1168)

/-- The row frames of a WRITE (R34). -/
def rowsOk (l : List (Nat × Row)) : Bool := l.all (fun p => below 32 p.1 && rowOk p.2)

/-- A service-stream header (R463). -/
def StreamHdr.ok (h : StreamHdr) : Bool :=
  below 8 h.target && below 8 h.kind && below 8 h.lanes && below 32 h.tid && below 32 h.offset && below 32 h.length

/-- A record handed to the recorder (R374): at most 256 bytes of payload. -/
def RecIn.ok (r : RecIn) : Bool := below 16 r.typ && below 3 r.sev && below 16 r.source && r.payload.length ≤ 256

/-- A received EVENT_BURST (R158). -/
def Burst.ok (b : Burst) : Bool :=
  decide (b.xcvr < 4) && decide (b.cluster < 256) && decide (b.member < 32) && below 8 b.seq && below 8 b.flags
    && below 32 b.counter

/-- A well-formed command. -/
def instrOk (i : Instr) : Bool :=
  match i with
  | .dtlsHandshake _ _ _ way _ => way.ok
  | .datagramDrop _ rh _ size =>
    below 8 rh.version && below 8 rh.module && below 8 rh.tclass && below 8 rh.reserved && below 16 size
  | .setup _ h client idle => h.okFor 8 && client.length == 16 && below 32 idle
  | .close _ h => h.okFor 9
  | .read _ h => h.okRead
  | .write _ h tag rows => h.okFor 2 && below 8 tag && rowsOk rows
  | .seqOpen _ h mask lease => h.okFor 4 && below 32 mask && below 16 lease
  | .seqCommit _ h => h.okFor 5
  | .seqAbort _ h => h.okFor 6
  | .subscribe _ h subId mode minSev interval => h.okFor 7 && below 16 subId && below 8 mode && below 8 minSev && below 32 interval
  | .ack _ h compSeq => h.okFor 10 && below 32 compSeq
  | .sessionIdleTimeout _ sid => below 32 sid
  | .leaseExpiry _ handle => below 16 handle
  | .commitApply _ => true
  | .subIntervalExpiry _ sub => below 16 sub
  | .subPeriodExpiry _ sub => below 16 sub
  | .completionResend _ _ => true
  | .heldCompletionSend _ sid => below 32 sid
  | .completionHoldExpiry _ _ => true
  | .describe _ h args => h.okFor 3 && argsOk args
  | .breakLock _ h args => h.okFor 3 && argsOk args
  | .restoreDefaults _ h args => h.okFor 3 && argsOk args
  | .survey _ h args => h.okFor 3 && argsOk args
  | .snapshot _ => true
  | .surveyMemberTimeout _ => true
  | .closeSession _ h args => h.okFor 3 && argsOk args
  | .ticketResult _ h args => h.okFor 3 && argsOk args
  | .deadlineInstant _ ticket => below 32 ticket
  | .subGo _ _ => true
  | .compPop _ _ => true
  | .selectClass _ _ zone cls _ => below 8 zone && below 8 cls
  | .histCopy _ _ kind first rows dest => below 32 kind && below 32 first && below 32 rows && below 32 dest
  | .histCopyDone _ _ => true
  | .slotCommandLate _ _ => true
  | .slotPosition _ _ => true
  | .ackField _ _ _ => true
  | .shockTimeout _ node => below 16 node
  | .blankDecision _ => true
  | .echoInsert _ _ => true
  | .superframeBoundary _ => true
  | .pathSwap _ _ => true
  | .pathSwapBack _ _ => true
  | .supervisionExpiry _ node => below 16 node
  | .eventBurst _ b => b.ok
  | .joinKey _ _ eui _ _ asn _ => eui.length == 8 && below 64 asn
  | .joinSig _ _ eui _ asn _ => eui.length == 8 && below 64 asn
  | .joinPendingExpiry _ eui => eui.length == 8
  | .approveJoin _ h args => h.okFor 3 && argsOk args
  | .removeNode _ h args => h.okFor 3 && argsOk args
  | .lightSet _ h args => h.okFor 3 && argsOk args
  | .lightResume _ h args => h.okFor 3 && argsOk args
  | .nodeFunc _ h args => h.okFor 3 && argsOk args
  | .epochOpen _ h args => h.okFor 3 && argsOk args
  | .epochStage _ h args => h.okFor 3 && argsOk args
  | .epochArm _ h args => h.okFor 3 && argsOk args
  | .epochAbandon _ h args => h.okFor 3 && argsOk args
  | .epochPreswitchCheck _ => true
  | .cancelledPayloadEnd _ => true
  | .epochSwitch _ => true
  | .epochVerifyTimeout _ => true
  | .imageDiscard _ h args => h.okFor 3 && argsOk args
  | .imageBlock _ h args => h.okFor 3 && argsOk args
  | .presenceEventIngest _ => true
  | .tentativeTimeout _ track => below 16 track
  | .coastStart _ track => below 16 track
  | .coastLimitExpiry _ track => below 16 track
  | .handedEnd _ track => below 16 track
  | .endedRelease _ track => below 16 track
  | .midpointRefresh _ track => below 16 track
  | .handoffRetry _ hseq => below 32 hseq
  | .handoff _ _ => true
  | .handoffAck _ source hseq track status => below 16 source && below 32 hseq && below 16 track && below 32 status
  | .boundaryList _ source part parts _ => below 16 source && below 8 part && below 8 parts
  | .boundaryUnmatchedTimeout _ _ => true
  | .historyHourEnd _ => true
  | .turnsWeekEnd _ => true
  | .adaptiveClassChange _ => true
  | .classApply _ _ => true
  | .classHoldExpiry _ _ => true
  | .histClear _ h args => h.okFor 3 && argsOk args
  | .zeroCrossing _ x => x.low.all sampleOk
  | .zcTimeout _ _ => true
  | .measurementPeriodEnd _ a b => a.ok && b.ok
  | .periodicSave _ a b => a.ok && b.ok
  | .finalSaveRepeat _ a b => a.ok && b.ok
  | .calMeasure _ h args => h.okFor 3 && argsOk args
  | .calMeasureDone _ v i _ freq _ _ => below 32 v && below 32 i && below 32 freq
  | .battMetStart _ => true
  | .battWindow _ _ _ => true
  | .battBudgetSpent _ => true
  | .battMetRenew _ h args => h.okFor 3 && argsOk args
  | .ledPeriodBoundary _ _ _ _ _ => true
  | .safeLightTimeout _ => true
  | .ledControlTick _ _ => true
  | .padSensorStuck _ _ => true
  | .hwOvertempCut _ _ _ => true
  | .hwOvertempRelease _ _ _ => true
  | .bypassClamp _ _ _ _ => true
  | .stringCurrentFault _ _ => true
  | .flowstoneTick _ => true
  | .flsStart _ h args => h.okFor 3 && argsOk args
  | .flsStop _ h args => h.okFor 3 && argsOk args
  | .flsTrigger _ h args => h.okFor 3 && argsOk args
  | .flsCtrlStart _ _ _ _ _ => true
  | .flsCtrlStop _ _ _ _ => true
  | .flsTrigSet _ _ _ _ _ => true
  | .flsProgWrite _ _ _ _ _ _ => true
  | .ledRetest _ h args => h.okFor 3 && argsOk args
  | .ledRetestEnd _ _ => true
  | .inputArrival _ source _ _ _ => below 16 source
  | .orderTag _ seq source _ => below 32 seq && below 16 source
  | .forwardedInput _ seq source _ => below 32 seq && below 16 source
  | .orphanTimeout _ _ => true
  | .comparisonRecord _ _ seq _ _ => below 32 seq
  | .outputReleaseTimeout _ seq => below 32 seq
  | .lagDetect _ => true
  | .selfCheckDone _ _ _ => true
  | .eccError _ _ _ => true
  | .laneWatchdogExpiry _ _ _ => true
  | .aliveLoss _ _ => true
  | .switchoverTakeEffect _ => true
  | .switchover _ h args => h.okFor 3 && argsOk args
  | .restartStandby _ h args => h.okFor 3 && argsOk args
  | .resync _ h args => h.okFor 3 && argsOk args
  | .resyncRequest _ _ => true
  | .stateTransferDone _ _ => true
  | .resyncCompareEnd _ _ _ => true
  | .laneBridgeLinkFail _ _ => true
  | .laneStartReport _ _ _ => true
  | .lanesAgree _ => true
  | .agreementTimeout _ _ => true
  | .unitTest _ _ _ _ => true
  | .sfpInsert _ _ _ _ => true
  | .autonegDone _ _ => true
  | .autonegTimeout _ _ => true
  | .hello _ _ _ => true
  | .helloRetry _ _ => true
  | .tamperHello _ => true
  | .offer _ _ _ => true
  | .accept _ _ _ => true
  | .linkDown _ _ => true
  | .passThrough _ _ _ => true
  | .credit _ _ _ => true
  | .creditSend _ _ => true
  | .dcredit _ source _ _ _ _ => below 16 source
  | .dcreditSend _ dest => below 16 dest
  | .topo _ _ _ => true
  | .topoDeferredAdopt _ => true
  | .topoFlood _ => true
  | .linkReport _ node stateTA neighTA stateTB neighTB => below 16 node && below 16 stateTA && below 16 neighTA && below 16 stateTB && below 16 neighTB
  | .linkReportPeriodic _ => true
  | .breakMsg _ _ nodeA nodeB tgen => below 16 nodeA && below 16 nodeB && below 32 tgen
  | .ibierFrame _ way rhVersion module tclass reserved size => way.ok && below 8 rhVersion && below 8 module && below 8 tclass && below 8 reserved && below 16 size
  | .surveySnap _ asn => below 64 asn
  | .surveyRec _ module record => below 8 module && record.length == 3072
  | .status _ _ => true
  | .statusSend _ => true
  | .memberSilentTimeout _ module => below 8 module
  | .pauseFrame _ _ => true
  | .masterHandover _ h args => h.okFor 3 && argsOk args
  | .handoverApply _ => true
  | .portRestart _ h args => h.okFor 3 && argsOk args
  | .ptpSync _ _ _ _ => true
  | .ptpSyncSend _ _ => true
  | .pdelayExchange _ _ roundTrip => below 32 roundTrip
  | .syncMiss _ => true
  | .asnConflictTimeout _ => true
  | .asnSlewDone _ diff => below 32 diff
  | .rtcRealign _ => true
  | .rtcCompensation _ _ => true
  | .ptpTrimUpdate _ _ => true
  | .mainsTrimWindow _ cycles => below 32 cycles
  | .oscStopDetect _ _ => true
  | .timeSet _ h args => h.okFor 3 && argsOk args
  | .timeStep _ => true
  | .slewComplete _ => true
  | .leapInstant _ => true
  | .alarmFire _ _ => true
  | .derive _ _ _ => true
  | .loadSlot _ _ _ => true
  | .sign _ _ _ => true
  | .verify _ _ _ => true
  | .ecdh _ _ _ => true
  | .aeadSeal _ _ _ => true
  | .aeadOpen _ _ _ => true
  | .hmac _ _ _ => true
  | .wrapExport _ _ _ => true
  | .unwrapImport _ _ _ => true
  | .vaultOpDone _ _ _ => true
  | .rootCopy _ _ => true
  | .tamperTrip _ _ => true
  | .laneLocalTrip _ _ _ => true
  | .sleepTrip _ _ => true
  | .encSuspend _ h args => h.okFor 3 && argsOk args
  | .encSuspendExpiry _ => true
  | .commission _ h args _ _ => h.okFor 3 && argsOk args
  | .claimLockoutExpiry _ => true
  | .recommission _ h args _ _ => h.okFor 3 && argsOk args
  | .returnModule _ h args => h.okFor 3 && argsOk args
  | .scrap _ h args => h.okFor 3 && argsOk args
  | .escrowExport _ h args => h.okFor 3 && argsOk args
  | .trunkKeyInstall _ h args _ => h.okFor 3 && argsOk args
  | .returnToStock _ h args => h.okFor 3 && argsOk args
  | .factoryRootsInstall _ => true
  | .recordSubmit _ _ _ r => r.ok
  | .recordWrite _ => true
  | .recorderNoticeWindowEnd _ => true
  | .summaryIntervalEnd _ _ => true
  | .recRead _ h args => h.okFor 3 && argsOk args
  | .icuSourceEvent _ _ _ _ => true
  | .icuClaim _ _ _ _ => true
  | .icuComplete _ _ _ _ source => below 32 source
  | .enableSet _ _ _ _ _ => true
  | .enableClr _ _ _ _ _ => true
  | .sgiSet _ _ _ _ => true
  | .icuStuckTimeout _ _ _ => true
  | .coreReset _ _ _ => true
  | .laneReset _ _ => true
  | .stopEntry _ _ => true
  | .wakeEdge _ _ _ width => below 16 width
  | .semaphoreAcquire _ _ _ _ => true
  | .semaphoreRelease _ _ _ _ => true
  | .timeLoRead _ _ _ => true
  | .gourWindowStart _ _ _ => true
  | .gourGrant _ _ _ => true
  | .gourRequest _ _ _ _ cost => below 32 cost
  | .gourWithdraw _ _ _ _ _ => true
  | .gourRefillWrite _ _ _ _ _ _ => true
  | .sumpFlush _ _ _ _ => true
  | .sumpDataRead _ _ _ _ => true
  | .sumpWdataWrite _ _ _ _ _ => true
  | .sumpWordArrival _ _ _ _ _ _ => true
  | .busWatchdogAbort _ _ _ => true
  | .registerWrite _ _ _ a _ => below 32 a
  | .sliceTick _ => true
  | .sliceRestore _ _ _ _ => true
  | .stSweep _ h args => h.okFor 3 && argsOk args
  | .sweepEnd _ => true
  | .powerFailWarning _ a b => a.ok && b.ok
  | .brownoutRecovery _ => true
  | .vStop _ => true
  | .por _ _ _ _ => true
  | .cellLoadTest _ _ millivolts => below 16 millivolts
  | .cellRemoval _ _ => true
  | .cellReplaced _ h args millivolts => h.okFor 3 && argsOk args && below 16 millivolts
  | .cellTest _ h args mvA mvB => h.okFor 3 && argsOk args && below 16 mvA && below 16 mvB
  | .vbdDip _ => true
  | .vbdRecovery _ => true
  | .keepTimeExpiry _ _ => true
  | .coilSupplyLoss _ decivolts => below 16 decivolts
  | .coilSupplyReturn _ decivolts => below 16 decivolts
  | .ledSupplyFail _ => true
  | .keepaliveFail _ => true
  | .inputRange _ decivolts => below 16 decivolts
  | .baseplateHot _ _ => true
  | .baseplateCool _ _ => true
  | .outputSet _ h args => h.okFor 3 && argsOk args
  | .outputGapEnd _ _ => true
  | .outputTrip _ _ milliamps decivolts => below 16 milliamps && below 16 decivolts
  | .diEdge _ _ _ => true
  | .streamOpen _ h sha => h.ok && sha.length == 32
  | .streamData _ h data => h.ok && data.length ≤ 1168
  | .streamEnd _ h _ k => h.ok && k.length ≤ 97
  | .streamAbort _ h => h.ok
  | .streamTimeout _ _ => true
  | .bankProgramDone _ _ => true
  | .trialConfirm _ _ => true
  | .fwActivate _ h args => h.okFor 3 && argsOk args
  | .fwCommit _ h args => h.okFor 3 && argsOk args
  | .fwCommitApply _ => true
  | .fwRestartAll _ h args => h.okFor 3 && argsOk args
  | .bankErase _ h args => h.okFor 3 && argsOk args
  | .coreCheckerFire _ _ _ => true
  | .laneBridgeLinkUp _ _ => true
  | .dtlsTeardown _ _ => true
  | .pendingRead _ _ _ _ => true
  | .busErrorRead _ _ _ a => below 32 a

end Sys2Proof
end

