-- ==== Sys2Proof/Safety.lean ====
section
/-!
DEFINITION. The terms in which claims speak of runs: a command that runs, a request that reaches its effect, the reply it
left, and the parts of the state that a claim says are left alone.
-/
namespace Sys2Proof.Safety

open Sys2Proof.Machine

/-- A command runs at a state: it answers a next state, of which `P` holds. -/
def Runs (c : Instr) (s : State) (P : State → Prop) : Prop := ∃ u, exec c s = .next u ∧ P u

/-- A step that does not stop. -/
def SafeStep (s : State) : Prop := ∃ u, step s = .next u

/-- Every waiting command is well formed. -/
def queueOk (s : State) : Bool := s.pending.all instrOk

/-- A session of which nothing is known: what stands for one that does not exist. -/
def noSession : Session :=
  { client := [], level := 0, assoc := 0, entry := .service, opened := 0, last := 0, lastFab := 0, idle := 0, hi := none,
    cache := [], noticeSeq := 0, broken := [] }

/-- The session that a request on `sid` speaks for, as the request finds it (R69, R70). -/
def caller (t sid : Nat) (s : State) : Session := (mget (touchSession sid (tick t s)).ib.sessions sid).getD noSession

/-- A request that the window takes as new (R76): above H, or in the window and not answered before. -/
def freshSeq (x : Session) (seq : Nat) : Bool :=
  match x.hi with
  | none => true
  | some hi => seqHigher seq hi || (decide (seqBelow hi seq ≤ 63) && !x.cache.any (fun p => p.1 == seq))

/-- H after a request that is taken as new (R76). -/
def newHigh (x : Session) (seq : Nat) : Nat :=
  match x.hi with
  | none => seq
  | some hi => if seqHigher seq hi then seq else hi

/-- A request of TYPE `typ` gets past the checks of its datagram, association, session, window and header (R64, R66, R69,
R72, R73, R76), and no module fault strikes it (R79): what it asks for is looked at. -/
def arrives (typ : Nat) (nodeBound : Bool) (h : Hdr) (sid : Nat) (s : State) : Bool :=
  decide (h.size ≤ 1200) && !relayBad s h && h.strike == .none
    && (match mget s.ib.assocs h.assoc with | some a => a.session == some sid | none => false)
    && (match mget s.ib.sessions sid with | some x => freshSeq x h.seq | none => false)
    && h.sid == sid && !headerBad typ nodeBound h

/-- The state in which a request that arrives is looked at: its session renewed (R70), the window moved (R76), the lease
of the sequence it names renewed (R52). -/
def opState (t : Nat) (h : Hdr) (sid : Nat) (s : State) : State :=
  let s := touchSession sid (tick t s)
  let hi := newHigh ((mget s.ib.sessions sid).getD noSession) h.seq
  renewLease sid h.handle { s with ib := { s.ib with sessions := mmod s.ib.sessions sid (fun x =>
    { x with hi := some hi, cache := pruneCache hi x.cache }) } }

/-- An EXEC of a command object arrives and passes every check of R43. -/
def passes (obj : Nat) (cols : List ColKind) (nodeBound : Bool) (t : Nat) (h : Hdr) (args : List TVal) (sid : Nat)
    (s : State) : Bool :=
  arrives 3 nodeBound h sid s && (execCheck obj cols nodeBound h args sid (caller t sid s) (opState t h sid s)).isNone

/-- The reply that a session keeps for a REQ_SEQ (R76). -/
def replyFor (u : State) (sid seq : Nat) : Option Reply :=
  match mget u.ib.sessions sid with
  | some x => (x.cache.find? (fun p => p.1 == seq)).bind (fun p => p.2)
  | none => none

/-- The request was answered with this reply. -/
def Answered (u : State) (sid : Nat) (h : Hdr) (r : Reply) : Prop := replyFor u sid h.seq = some r

/-- The thing sent has left the block, or waits for its comparison to leave it (R283). -/
abbrev Sent (u : State) (o : Out) : Prop := o ∈ u.out ∨ o ∈ u.lp.waiting.map (fun w => w.2.2)

/-- A trunk message has left by a port, in a frame to a node in a class. -/
def SentOn (u : State) (p dst cls : Nat) (m : TMsg) : Prop :=
  ∃ f tag, f.dst = dst ∧ f.cls = cls ∧ Sent u (.trunk p f m tag)

/-- A trunk message has left by a port, or waits in its virtual output queue for credit (R315). -/
abbrev TrunkSent (u : State) (dst cls : Nat) (m : TMsg) : Prop :=
  SentOn u 0 dst cls m ∨ SentOn u 1 dst cls m ∨ (dst, cls, m) ∈ u.trunk.voq

/-- A message to every node has left by a port, or waits there for link credit (R311, R316). -/
abbrev Flooded (u : State) (p : Nat) (m : TMsg) : Prop := SentOn u p 255 0 m ∨ m ∈ (portOf u p).flood

/-- A message of the Ibier service has left to its peer, by the service port or the trunk, or waits for credit (R66, R67). -/
def IbSent (u : State) (m : IbMsg) : Prop :=
  ∃ aid d, d.msg = m ∧ (Sent u (.ibier aid d) ∨ ∃ dst cls peer, TrunkSent u dst cls (.ibier peer d))

/-- What is sent on an association can leave (R66, R67): a lane is active, and the peer is at the service port or a route
leads to the module that its datagrams come by. -/
def canReach (s : State) (aid : Nat) : Bool :=
  (active s).isSome && (match mget s.ib.assocs aid with
    | some a => a.entry == .service || (route s a.via).isSome
    | none => false)

/-- OK with no body for an object (R74). -/
def okReply (obj : Nat) : Reply := { rOk .empty with obj := obj }

/-- The lane that reads are served from counts what happens (R16, R45). -/
def counts (s : State) : Bool :=
  let x := s.lanes.get (servedBy s)
  x.running && x.role != .lagging

/-- A setting whose change touches nothing but its stored row: no unit keeps a copy of it or acts on its change. -/
def effectFree (n : Nat) : Bool :=
  !([0x10100, 0x10110, 0x30100, 0x30101, 0x30105, 0x30110, 0x20100, 0x20110, 0x20130, 0x00420, 0x40111, 0x40400, 0x40500, 0x70100,
    0x70120, 0x70122, 0x70135, 0x70140, 0x80100, 0x80101, 0x80102, 0x80108, 0x80200, 0x80201, 0x90200, 0xB0120, 0xC0100, 0xE0200, 0xE0201].contains n)
    && n / 256 != 0x901

/-- A node-bound EXEC passes the checks of R43, its descriptor's and its own, and the admission decision of R108. -/
def admits (obj : Nat) (c : NodeCmd) (t : Nat) (h : Hdr) (args : List TVal) (sid : Nat) (s : State) : Bool :=
  let u := opState t h sid s
  let d := descOf args
  let ld := c.load args u
  passes obj (descCols args ++ c.extra) true t h args sid s && !nodesBad d.nodes && (c.vals args u (descLen args)).isNone
    && (tooLong u ld ((resolve u d).map (targetOf u ld.job))).isNone
    && (match (decideAdmission obj h.dclass (some h.tclass) h.deadline
          { who := 0, client := (caller t sid s).client, sid := sid, reqSeq := h.seq } d ld (icuRaise 73 u)).2 with
        | .inl _ => false
        | .inr _ => true)

/-- The gate has room for the beacon that a broadcast position carries, its own reservation given back (R133, R135). -/
def beaconFits (x a ch : Nat) (s : State) : Bool :=
  let s := beaconsResume a s
  let s := if (xOf s x).bres.contains (a / 256) then gateRelease x ch (a / 256) (bcastDur s x) s else s
  gateRoom s x ch (a / 256) (airTime (xMode s x) (macOver (xMode s x) + 40 + payloadLen (bcastPayload x a s).2))

/-- A track whose hand-off with this HSEQ went to a module (R218, R219). -/
def handedTo (s : State) (module hseq : Nat) (k : Track) : Bool :=
  match k.handoff with
  | some h => h.hseq == hseq && getC s 0x70100 h.vertex 15 == module
  | none => false

/-- The memories of both lanes are in their canonical form (log entry 9). -/
def memoryOk (s : State) : Bool := Memory.wf s.lanes.a.mem && Memory.wf s.lanes.b.mem

/-- At most one lane reads ROLE ACTIVE (R281). -/
def oneActive (s : State) : Bool := !(s.lanes.a.role == .active && s.lanes.b.role == .active)

/-- The MRAM of a lane (R22) reads the same in two states. -/
def mramSame (l : Lane) (s u : State) : Prop :=
  ∀ a, 0x20000000 ≤ a → a < 0x21000000 → memRead (u.lanes.get l).mem a = memRead (s.lanes.get l).mem a

/-- The commands that may write a lane's MRAM: a core's write, a metering save, a copy of the history, a state transfer
(R13, R226, R246, R295). -/
def storesMram : Instr → Bool
  | .registerWrite .. | .periodicSave .. | .finalSaveRepeat .. | .powerFailWarning .. | .stateTransferDone ..
  | .histCopyDone .. => true
  | _ => false

/-- The save slot that the next save writes (R246). -/
def nextSlot (s : State) : Nat := 0x20800000 + (s.met.saveSeq + 1) % 4294967296 % 16 * 4096

/-- A message of the protocol is a session's (R71). -/
def IbMsg.of (sid : Nat) : IbMsg → Bool
  | .reply i _ _ _ _ _ => i == sid
  | .notice i _ _ _ _ _ _ _ => i == sid
  | .completion i _ _ _ _ _ => i == sid

/-- A message of the protocol that goes to a session (R71), by the service port or over the trunk. -/
def toSession (sid : Nat) (o : Out) : Bool :=
  match o with
  | .ibier _ d => IbMsg.of sid d.msg
  | .trunk _ _ (.ibier _ d) _ => IbMsg.of sid d.msg
  | _ => false

/-- The associations but for the numbers of the records sent on them (R71), which any command may raise. -/
def assocsOf (s : State) : NMap Assoc := s.ib.assocs.map (fun p => (p.1, { p.2 with recNo := 0 }))

/-- The trunk ports but for the credit used and the frame counter, which any command may raise (R307, R311). -/
def portsOf (s : State) : List Port := s.trunk.ports.map (fun p => { p with sent := [], fcntTx := 0 })

/-- A part of the state that a command may leave alone. What every command may change is in none of them: the sessions and
subscriptions (renewals, notices), what leaves and what it uses (record and frame counters, link and destination credit,
messages that wait for credit), the output numbers, the lanes' saturating counters, the time. -/
inductive Part
  /-- Associations, handshakes in progress and clients held for (R64, R85). -/
  | associations
  /-- Sequences and their order (R47). -/
  | sequences
  /-- COMPLETIONs kept (R84). -/
  | completions
  /-- Snapshots and surveys (R86 to R88). -/
  | surveys
  /-- Names given to sessions, sequences and subscriptions (R48, R69, R82). -/
  | names
  /-- Stored rows: settings, counters, readings (R36 to R39). -/
  | store
  /-- Sticky and condition bits (R384). -/
  | conditions
  /-- The operation journal (R13). -/
  | journal
  /-- Log objects (R35). -/
  | logs
  /-- Write counts of settings and semaphores freed by a reset (R40, R403). -/
  | wear
  /-- Tickets and bookings (R108 to R120). -/
  | admission
  /-- The radio MAC (R123 to R161). -/
  | radio
  /-- Epochs and node images (R178 to R196). -/
  | epochs
  /-- Tracks, boundaries, classes (R198 to R231). -/
  | tracker
  /-- The meter (R232 to R256). -/
  | metering
  /-- The lamp driver (R257 to R280). -/
  | lamp
  /-- The Flowstone engines (R274 to R278). -/
  | engines
  /-- The policy ports of both lanes (R121, R226). -/
  | policyPort
  /-- Lane roles (R281, R295). -/
  | roles
  /-- Lane health (R288, R299). -/
  | health
  /-- Switchovers and the bridge (R11, R291, R296). -/
  | pairing
  /-- The order of inputs (R16, R17). -/
  | inputs
  /-- Compared outputs (R282 to R289). -/
  | comparison
  /-- The memory of both lanes (R13, R22). -/
  | memory
  /-- The interrupt controllers (R388 to R405). -/
  | interrupts
  /-- The vaults (R345 to R353). -/
  | vault
  /-- The Gour arbiters (R406 to R416). -/
  | arbiters
  /-- The Sump queues (R417 to R423). -/
  | sump
  /-- Semaphores, stalled reads, bus watchdogs, time latches (R25, R329, R424). -/
  | cores
  /-- The writes of one cycle (R24). -/
  | coreWrites
  /-- The offsets of TAI time and ASN (R333, R335). -/
  | offsets
  /-- Clock disciplining (R328 to R344). -/
  | timeBase
  /-- The recorder (R373 to R387). -/
  | recorder
  /-- Trunk ports, ring and members (R303 to R326). -/
  | trunk
  /-- The life cycle and tamper records (R354 to R372). -/
  | life
  /-- Pin self-test (R426 to R437). -/
  | selfTest
  /-- Power supplies (R438 to R449). -/
  | power
  /-- Outputs K0 to K3 and inputs DI0 to DI7 (R496, R497). -/
  | contactors
  /-- Firmware banks and transfers (R459 to R480). -/
  | firmware
  /-- The model's own count of free values (log entry 8). -/
  | freeValues
  deriving DecidableEq, Repr

/-- Two lanes agree in the policy ports of both lanes (R121, R226). -/
def policyPortSame (x y : LaneSt) : Prop :=
  x.ports = y.ports ∧ x.copies = y.copies ∧ x.owed = y.owed

/-- Two lanes agree in lane roles (R281, R295). -/
def rolesSame (x y : LaneSt) : Prop :=
  x.role = y.role ∧ x.running = y.running ∧ x.cause = y.cause ∧ x.report = y.report ∧ x.wasActive = y.wasActive ∧
  x.roleSince = y.roleSince ∧ x.resync = y.resync ∧ x.alive = y.alive ∧ x.bootAt = y.bootAt ∧ x.upSince = y.upSince

/-- Two lanes agree in lane health (R288, R299). -/
def healthSame (x y : LaneSt) : Prop :=
  x.health = y.health ∧ x.units = y.units ∧ x.ecc = y.ecc ∧ x.uncorrAt = y.uncorrAt ∧ x.checker = y.checker ∧
  x.katFail = y.katFail ∧ x.wdExpired = y.wdExpired

/-- Two lanes agree in the memory of both lanes (R13, R22). -/
def memorySame (x y : LaneSt) : Prop :=
  x.mem = y.mem ∧ x.wrote = y.wrote

/-- Two lanes agree in semaphores, stalled reads, bus watchdogs, time latches (R25, R329, R424). -/
def coresSame (x y : LaneSt) : Prop :=
  x.sems = y.sems ∧ x.stalls = y.stalls ∧ x.busWd = y.busWd ∧ x.latches = y.latches

/-- A part is the same in two states. -/
def Part.same (p : Part) (s u : State) : Prop :=
  match p with
  | .associations => assocsOf u = assocsOf s ∧ u.ib.handshakes = s.ib.handshakes ∧ u.ib.heldFor = s.ib.heldFor
  | .sequences => u.ib.seqs = s.ib.seqs ∧ u.ib.orderNext = s.ib.orderNext
  | .completions => u.ib.comps = s.ib.comps ∧ u.ib.compNext = s.ib.compNext ∧ u.ib.compSeqs = s.ib.compSeqs
  | .surveys => u.ib.snaps = s.ib.snaps ∧ u.ib.snapPending = s.ib.snapPending ∧ u.ib.surveys = s.ib.surveys
  | .names => u.ib.names = s.ib.names
  | .store => u.dict.store = s.dict.store
  | .conditions => u.dict.sticky = s.dict.sticky ∧ u.dict.live = s.dict.live ∧ u.dict.stuckAt = s.dict.stuckAt
  | .journal => u.dict.journal = s.dict.journal
  | .logs => u.dict.logs = s.dict.logs
  | .wear => u.dict.wear = s.dict.wear ∧ u.dict.semReset = s.dict.semReset
  | .admission => u.adm = s.adm
  | .radio => u.mac = s.mac
  | .epochs => u.epoch = s.epoch
  | .tracker => u.trk = s.trk
  | .metering => u.met = s.met
  | .lamp => u.led = s.led
  | .engines => ∀ l, (u.lanes.get l).engines = (s.lanes.get l).engines
  | .policyPort => ∀ l, policyPortSame (u.lanes.get l) (s.lanes.get l)
  | .roles => ∀ l, rolesSame (u.lanes.get l) (s.lanes.get l)
  | .health => ∀ l, healthSame (u.lanes.get l) (s.lanes.get l)
  | .pairing => u.lp.owner = s.lp.owner ∧ u.lp.planned = s.lp.planned ∧ u.lp.switch = s.lp.switch ∧ u.lp.agreedAt =
    s.lp.agreedAt ∧ u.lp.asked = s.lp.asked ∧ u.lp.flaps = s.lp.flaps ∧ u.lp.links = s.lp.links
  | .inputs => u.lp.inputSeq = s.lp.inputSeq ∧ u.lp.held = s.lp.held ∧ u.lp.tags = s.lp.tags ∧ u.lp.orphans =
    s.lp.orphans
  | .comparison => u.lp.records = s.lp.records ∧ u.lp.matched = s.lp.matched ∧ u.lp.checking = s.lp.checking
  | .memory => ∀ l, memorySame (u.lanes.get l) (s.lanes.get l)
  | .interrupts => ∀ l, (u.lanes.get l).icu = (s.lanes.get l).icu
  | .vault => ∀ l, (u.lanes.get l).vault = (s.lanes.get l).vault
  | .arbiters => ∀ l, (u.lanes.get l).arbs = (s.lanes.get l).arbs
  | .sump => ∀ l, (u.lanes.get l).sumps = (s.lanes.get l).sumps
  | .cores => ∀ l, coresSame (u.lanes.get l) (s.lanes.get l)
  | .coreWrites => ∀ l, (u.lanes.get l).writes = (s.lanes.get l).writes
  | .offsets => u.clk.taiOff = s.clk.taiOff ∧ u.clk.asnOff = s.clk.asnOff ∧ u.clk.slew = s.clk.slew ∧ u.clk.aslew =
    s.clk.aslew
  | .timeBase => u.time = s.time
  | .recorder => u.recd = s.recd
  | .trunk => portsOf u = portsOf s ∧ u.trunk.topo = s.trunk.topo ∧ u.trunk.later = s.trunk.later ∧ u.trunk.tgen =
    s.trunk.tgen ∧ u.trunk.cut = s.trunk.cut ∧ u.trunk.reports = s.trunk.reports ∧ u.trunk.members = s.trunk.members ∧
    u.trunk.srcs = s.trunk.srcs ∧ u.trunk.hand = s.trunk.hand ∧ u.trunk.moved = s.trunk.moved ∧ u.trunk.turn =
    s.trunk.turn ∧ u.trunk.heads = s.trunk.heads
  | .life => u.life = s.life
  | .selfTest => u.test = s.test
  | .power => u.power = s.power
  | .contactors => u.io = s.io
  | .firmware => u.fw = s.fw
  | .freeValues => u.free = s.free

/-- The parts that a command of the protocol and the policy port may change; `none` for a command of another
group. -/
def requestParts : Instr → Option (List Part)
  | .dtlsHandshake .. =>
    some [.associations, .freeValues]
  | .datagramDrop .. | .subIntervalExpiry .. | .subPeriodExpiry .. =>
    some []
  | .setup .. =>
    some [.associations, .sequences, .names, .store, .conditions, .logs, .recorder]
  | .close .. | .closeSession .. =>
    some [.associations, .sequences]
  | .read .. | .seqAbort .. | .describe .. | .restoreDefaults .. | .ticketResult .. =>
    some [.sequences]
  | .write .. =>
    some [.sequences, .store, .conditions, .logs, .wear, .admission, .radio, .epochs, .tracker, .metering, .lamp,
    .engines, .interrupts, .arbiters, .cores, .offsets, .timeBase, .recorder, .trunk, .selfTest, .contactors]
  | .seqOpen .. | .subscribe .. =>
    some [.sequences, .names]
  | .seqCommit .. =>
    some [.sequences, .store, .journal, .radio]
  | .ack .. =>
    some [.sequences, .completions]
  | .sessionIdleTimeout .. | .dtlsTeardown .. =>
    some [.associations]
  | .leaseExpiry .. | .breakLock .. =>
    some [.sequences, .store, .conditions, .logs, .recorder]
  | .commitApply .. =>
    some [.sequences, .store, .conditions, .journal, .logs, .wear, .admission, .radio, .epochs, .tracker, .metering,
    .lamp, .engines, .interrupts, .arbiters, .cores, .offsets, .timeBase, .recorder, .trunk, .selfTest, .contactors]
  | .completionResend .. | .completionHoldExpiry .. =>
    some [.completions]
  | .heldCompletionSend .. =>
    some [.associations, .completions]
  | .survey .. =>
    some [.sequences, .surveys]
  | .snapshot .. =>
    some [.sequences, .surveys, .store, .conditions, .journal, .logs, .wear, .admission, .radio, .epochs, .tracker,
    .metering, .lamp, .engines, .interrupts, .arbiters, .cores, .offsets, .timeBase, .recorder, .trunk, .selfTest,
    .contactors]
  | .surveyMemberTimeout .. =>
    some [.surveys]
  | .deadlineInstant .. =>
    some [.completions, .store, .journal, .admission, .radio, .policyPort, .interrupts]
  | .subGo .. | .selectClass .. | .histCopy .. =>
    some [.store, .journal, .admission, .radio, .tracker, .policyPort, .interrupts]
  | .compPop .. | .histCopyDone .. =>
    some [.policyPort, .memory, .interrupts]
  | _ => none

/-- The parts that a command of the radio, epochs and the tracker may change; `none` for a command of another
group. -/
def radioParts : Instr → Option (List Part)
  | .slotCommandLate .. =>
    some [.store, .radio, .interrupts, .recorder]
  | .slotPosition .. =>
    some [.store, .conditions, .logs, .admission, .radio, .epochs, .tracker, .interrupts, .arbiters, .recorder]
  | .ackField .. =>
    some [.store, .conditions, .admission, .radio, .epochs, .tracker, .interrupts, .arbiters, .recorder]
  | .shockTimeout .. =>
    some [.store, .conditions, .radio, .interrupts, .arbiters]
  | .blankDecision .. | .echoInsert .. | .joinPendingExpiry .. =>
    some [.radio]
  | .superframeBoundary .. =>
    some [.store, .conditions, .admission, .radio, .epochs, .interrupts, .recorder]
  | .pathSwap .. =>
    some [.store, .conditions, .logs, .radio, .recorder]
  | .pathSwapBack .. =>
    some [.store, .logs, .radio, .recorder]
  | .supervisionExpiry .. =>
    some [.store, .radio, .recorder]
  | .eventBurst .. =>
    some [.store, .conditions, .radio, .tracker, .interrupts, .recorder]
  | .joinKey .. =>
    some [.radio, .interrupts]
  | .joinSig .. =>
    some [.radio, .interrupts, .freeValues]
  | .approveJoin .. =>
    some [.sequences, .store, .conditions, .admission, .radio, .epochs, .tracker, .interrupts, .arbiters]
  | .removeNode .. =>
    some [.sequences, .store, .conditions, .admission, .radio, .epochs, .tracker, .interrupts, .arbiters, .recorder]
  | .lightSet .. | .lightResume .. | .nodeFunc .. | .epochStage .. | .imageBlock .. =>
    some [.sequences, .store, .journal, .admission, .radio, .interrupts]
  | .epochOpen .. | .epochArm .. | .imageDiscard .. =>
    some [.sequences, .epochs]
  | .epochAbandon .. =>
    some [.sequences, .store, .conditions, .epochs, .recorder]
  | .epochPreswitchCheck .. | .epochVerifyTimeout .. =>
    some [.store, .conditions, .epochs, .recorder]
  | .cancelledPayloadEnd .. =>
    some [.epochs]
  | .epochSwitch .. =>
    some [.store, .conditions, .admission, .radio, .epochs, .tracker, .recorder]
  | .presenceEventIngest .. =>
    some [.store, .tracker, .interrupts, .recorder]
  | .tentativeTimeout .. | .coastStart .. | .coastLimitExpiry .. | .handedEnd .. | .endedRelease .. |
  .midpointRefresh .. | .handoffRetry .. | .handoff .. | .handoffAck .. =>
    some [.tracker, .interrupts]
  | .boundaryList .. =>
    some [.store, .conditions, .tracker, .interrupts]
  | .boundaryUnmatchedTimeout .. =>
    some [.store, .conditions, .tracker]
  | .historyHourEnd .. | .turnsWeekEnd .. =>
    some [.store, .tracker]
  | .adaptiveClassChange .. | .classApply .. | .classHoldExpiry .. =>
    some [.tracker]
  | .histClear .. =>
    some [.sequences, .store]
  | _ => none

/-- The parts that a command of metering, light, self-test, power and contacts may change; `none` for a command of another
group. -/
def supplyParts : Instr → Option (List Part)
  | .zeroCrossing .. | .zcTimeout .. =>
    some [.store, .metering, .interrupts, .recorder]
  | .measurementPeriodEnd .. =>
    some [.metering, .interrupts]
  | .periodicSave .. =>
    some [.store, .conditions, .logs, .metering, .memory, .interrupts, .recorder]
  | .finalSaveRepeat .. =>
    some [.store, .conditions, .metering, .memory]
  | .calMeasure .. | .calMeasureDone .. =>
    some [.sequences, .metering]
  | .battMetStart .. =>
    some [.metering]
  | .battWindow .. =>
    some [.store, .metering]
  | .battBudgetSpent .. =>
    some [.store, .conditions, .metering]
  | .battMetRenew .. =>
    some [.sequences, .store, .conditions]
  | .ledPeriodBoundary .. =>
    some [.store, .conditions, .logs, .lamp, .comparison, .interrupts, .recorder, .selfTest]
  | .safeLightTimeout .. | .hwOvertempRelease .. | .ledRetestEnd .. =>
    some [.lamp]
  | .ledControlTick .. | .hwOvertempCut .. =>
    some [.store, .conditions, .lamp, .recorder, .freeValues]
  | .padSensorStuck .. =>
    some [.store, .conditions, .lamp]
  | .bypassClamp .. | .stringCurrentFault .. =>
    some [.store, .conditions, .lamp, .recorder]
  | .flowstoneTick .. =>
    some [.lamp, .engines, .interrupts]
  | .flsStart .. | .flsStop .. | .flsTrigger .. =>
    some [.sequences, .engines]
  | .flsCtrlStart .. | .flsCtrlStop .. | .flsTrigSet .. | .flsProgWrite .. =>
    some [.store, .conditions, .engines]
  | .ledRetest .. =>
    some [.sequences, .lamp, .selfTest]
  | .sliceTick .. =>
    some [.radio, .lamp, .selfTest]
  | .sliceRestore .. =>
    some [.store, .conditions, .logs, .lamp, .policyPort, .roles, .health, .pairing, .comparison, .interrupts, .vault,
    .recorder, .selfTest, .contactors, .freeValues]
  | .stSweep .. =>
    some [.sequences, .selfTest]
  | .sweepEnd .. =>
    some [.store, .interrupts, .recorder, .selfTest]
  | .powerFailWarning .. =>
    some [.store, .conditions, .journal, .metering, .lamp, .memory, .interrupts, .recorder, .selfTest, .power,
    .contactors, .freeValues]
  | .brownoutRecovery .. =>
    some [.store, .conditions, .journal, .recorder, .power]
  | .vStop .. =>
    some [.associations, .sequences, .surveys, .store, .conditions, .logs, .admission, .radio, .epochs, .tracker,
    .metering, .lamp, .roles, .pairing, .inputs, .comparison, .offsets, .timeBase, .recorder, .trunk, .selfTest,
    .power, .firmware, .freeValues]
  | .por .. =>
    some [.associations, .sequences, .completions, .surveys, .names, .store, .conditions, .journal, .logs, .wear,
    .admission, .radio, .epochs, .tracker, .metering, .lamp, .engines, .policyPort, .roles, .health, .pairing,
    .inputs, .comparison, .memory, .interrupts, .vault, .arbiters, .sump, .cores, .coreWrites, .offsets, .timeBase,
    .recorder, .trunk, .life, .selfTest, .power, .contactors, .firmware, .freeValues]
  | .cellLoadTest .. | .cellRemoval .. =>
    some [.store, .conditions, .interrupts, .recorder, .freeValues]
  | .cellReplaced .. | .cellTest .. =>
    some [.sequences, .store, .conditions, .interrupts, .recorder, .freeValues]
  | .vbdDip .. =>
    some [.power]
  | .vbdRecovery .. =>
    some [.store, .conditions, .vault, .life, .power]
  | .keepTimeExpiry .. =>
    some [.store, .power]
  | .coilSupplyLoss .. | .keepaliveFail .. | .inputRange .. | .baseplateCool .. =>
    some [.store, .conditions, .power]
  | .coilSupplyReturn .. =>
    some [.store, .conditions, .selfTest, .power, .contactors]
  | .ledSupplyFail .. | .baseplateHot .. =>
    some [.store, .conditions, .lamp, .power]
  | .outputSet .. =>
    some [.sequences, .selfTest, .contactors]
  | .outputGapEnd .. =>
    some [.selfTest, .contactors]
  | .outputTrip .. =>
    some [.store, .conditions, .recorder, .contactors]
  | .diEdge .. =>
    some [.store, .interrupts, .selfTest, .contactors]
  | _ => none

/-- The parts that a command of the lanes, the trunk and time may change; `none` for a command of another
group. -/
def ringParts : Instr → Option (List Part)
  | .inputArrival .. | .orderTag .. | .forwardedInput .. | .orphanTimeout .. =>
    some [.inputs]
  | .comparisonRecord .. =>
    some [.logs, .comparison, .interrupts]
  | .outputReleaseTimeout .. | .tamperHello .. | .statusSend .. | .pauseFrame .. =>
    some []
  | .lagDetect .. | .resyncCompareEnd .. | .laneBridgeLinkFail .. =>
    some [.store, .conditions, .logs, .policyPort, .roles, .pairing, .comparison, .interrupts, .recorder]
  | .selfCheckDone .. | .eccError .. | .laneWatchdogExpiry .. | .laneStartReport .. | .unitTest .. | .trialConfirm ..
  | .coreCheckerFire .. =>
    some [.store, .conditions, .logs, .wear, .metering, .engines, .policyPort, .roles, .health, .pairing, .comparison,
    .memory, .interrupts, .vault, .arbiters, .sump, .cores, .coreWrites, .recorder, .firmware]
  | .aliveLoss .. =>
    some [.associations, .sequences, .surveys, .store, .conditions, .logs, .wear, .admission, .radio, .epochs,
    .tracker, .metering, .lamp, .engines, .policyPort, .roles, .health, .pairing, .inputs, .comparison, .memory,
    .interrupts, .vault, .arbiters, .sump, .cores, .coreWrites, .offsets, .timeBase, .recorder, .trunk, .selfTest,
    .power, .firmware]
  | .switchoverTakeEffect .. =>
    some [.associations, .sequences, .completions, .surveys, .store, .conditions, .journal, .logs, .wear, .admission,
    .radio, .epochs, .tracker, .metering, .lamp, .engines, .policyPort, .roles, .health, .pairing, .inputs,
    .comparison, .memory, .interrupts, .vault, .arbiters, .sump, .cores, .coreWrites, .offsets, .timeBase, .recorder,
    .trunk, .life, .selfTest, .power, .contactors, .firmware, .freeValues]
  | .switchover .. =>
    some [.sequences, .pairing]
  | .restartStandby .. =>
    some [.sequences, .store, .conditions, .logs, .wear, .metering, .engines, .policyPort, .roles, .health, .pairing,
    .comparison, .memory, .interrupts, .vault, .arbiters, .sump, .cores, .coreWrites, .recorder, .firmware]
  | .resync .. =>
    some [.sequences, .store, .conditions, .roles]
  | .resyncRequest .. =>
    some [.roles]
  | .stateTransferDone .. =>
    some [.store, .conditions, .engines, .policyPort, .roles, .inputs, .memory, .recorder, .firmware]
  | .lanesAgree .. | .agreementTimeout .. =>
    some [.sequences, .completions, .store, .conditions, .journal, .logs, .admission, .radio, .epochs, .tracker,
    .metering, .lamp, .engines, .policyPort, .roles, .pairing, .comparison, .interrupts, .offsets, .timeBase,
    .recorder, .trunk, .life, .selfTest, .contactors, .firmware, .freeValues]
  | .sfpInsert .. | .hello .. | .linkDown .. =>
    some [.store, .conditions, .logs, .tracker, .interrupts, .offsets, .timeBase, .recorder, .trunk]
  | .autonegDone .. =>
    some [.trunk, .freeValues]
  | .autonegTimeout .. | .helloRetry .. | .passThrough .. | .credit .. | .creditSend .. | .dcredit .. |
  .dcreditSend .. | .ibierFrame .. | .ptpSyncSend .. =>
    some [.trunk]
  | .offer .. | .accept .. =>
    some [.sequences, .store, .conditions, .journal, .logs, .admission, .radio, .epochs, .tracker, .pairing,
    .interrupts, .offsets, .timeBase, .trunk, .firmware]
  | .topo .. | .topoDeferredAdopt .. | .topoFlood .. | .linkReport .. | .linkReportPeriodic .. | .breakMsg .. |
  .handoverApply .. =>
    some [.store, .conditions, .logs, .tracker, .interrupts, .offsets, .timeBase, .trunk]
  | .surveySnap .. | .surveyRec .. =>
    some [.surveys]
  | .status .. | .memberSilentTimeout .. | .pdelayExchange .. =>
    some [.store, .conditions, .trunk]
  | .masterHandover .. =>
    some [.sequences, .trunk]
  | .portRestart .. =>
    some [.sequences, .store, .conditions, .logs, .tracker, .interrupts, .offsets, .timeBase, .recorder, .trunk]
  | .ptpSync .. =>
    some [.sequences, .store, .conditions, .journal, .logs, .admission, .radio, .epochs, .pairing, .interrupts,
    .offsets, .timeBase, .trunk, .firmware]
  | .syncMiss .. | .asnConflictTimeout .. =>
    some [.store, .conditions, .timeBase, .recorder]
  | .asnSlewDone .. =>
    some [.offsets, .timeBase]
  | .rtcRealign .. =>
    some [.store, .conditions, .journal, .tracker, .interrupts, .timeBase, .recorder]
  | .rtcCompensation .. =>
    some [.store, .timeBase, .recorder]
  | .ptpTrimUpdate .. | .mainsTrimWindow .. =>
    some [.store, .timeBase]
  | .oscStopDetect .. =>
    some [.timeBase]
  | .timeSet .. =>
    some [.sequences, .store, .conditions, .journal, .logs, .tracker, .interrupts, .offsets, .timeBase, .trunk]
  | .timeStep .. =>
    some [.store, .journal, .logs, .interrupts, .offsets, .timeBase]
  | .slewComplete .. =>
    some [.journal, .offsets]
  | .leapInstant .. =>
    some [.store]
  | .alarmFire .. =>
    some [.store, .interrupts]
  | .laneBridgeLinkUp .. =>
    some [.roles, .pairing]
  | _ => none

/-- The parts that a command of the vault, the life cycle, records, interrupts, queues and firmware may change; `none` for a command of another
group. -/
def moduleParts : Instr → Option (List Part)
  | .derive .. | .loadSlot .. | .sign .. | .verify .. | .ecdh .. | .aeadSeal .. | .aeadOpen .. | .hmac .. |
  .wrapExport .. | .unwrapImport .. =>
    some [.store, .conditions, .interrupts, .vault]
  | .vaultOpDone .. =>
    some [.interrupts, .vault, .freeValues]
  | .rootCopy .. =>
    some [.vault]
  | .tamperTrip .. | .encSuspend .. =>
    some [.associations, .sequences, .store, .conditions, .journal, .logs, .tracker, .interrupts, .vault, .offsets,
    .timeBase, .recorder, .trunk, .life, .selfTest, .contactors, .freeValues]
  | .laneLocalTrip .. =>
    some [.associations, .sequences, .store, .conditions, .journal, .logs, .wear, .tracker, .metering, .engines,
    .policyPort, .roles, .health, .pairing, .comparison, .memory, .interrupts, .vault, .arbiters, .sump, .cores,
    .coreWrites, .offsets, .timeBase, .recorder, .trunk, .life, .selfTest, .contactors, .firmware, .freeValues]
  | .sleepTrip .. =>
    some [.store, .vault, .life, .power]
  | .encSuspendExpiry .. =>
    some [.associations, .sequences, .store, .conditions, .journal, .logs, .tracker, .interrupts, .vault, .offsets,
    .timeBase, .recorder, .trunk, .life, .selfTest, .power, .contactors, .freeValues]
  | .commission .. =>
    some [.sequences, .store, .conditions, .journal, .logs, .admission, .radio, .epochs, .pairing, .vault, .offsets,
    .timeBase, .recorder, .trunk, .life, .firmware, .freeValues]
  | .claimLockoutExpiry .. =>
    some [.life]
  | .recommission .. =>
    some [.associations, .sequences, .surveys, .store, .conditions, .journal, .logs, .wear, .admission, .radio,
    .epochs, .tracker, .metering, .lamp, .engines, .policyPort, .roles, .health, .pairing, .inputs, .comparison,
    .memory, .interrupts, .vault, .arbiters, .sump, .cores, .coreWrites, .offsets, .timeBase, .recorder, .trunk,
    .life, .selfTest, .power, .firmware, .freeValues]
  | .returnModule .. =>
    some [.sequences, .store, .conditions, .journal, .logs, .wear, .admission, .radio, .epochs, .tracker, .metering,
    .lamp, .engines, .interrupts, .vault, .arbiters, .cores, .offsets, .timeBase, .recorder, .trunk, .life, .selfTest,
    .contactors]
  | .scrap .. =>
    some [.associations, .sequences, .store, .conditions, .journal, .logs, .roles, .vault, .recorder, .life,
    .selfTest, .contactors]
  | .escrowExport .. =>
    some [.sequences, .freeValues]
  | .trunkKeyInstall .. =>
    some [.sequences, .store, .conditions, .logs, .tracker, .interrupts, .offsets, .timeBase, .recorder, .trunk,
    .life]
  | .returnToStock .. =>
    some [.sequences, .store, .conditions, .journal, .logs, .recorder, .life]
  | .factoryRootsInstall .. =>
    some [.sequences, .store, .conditions, .journal, .logs, .vault, .recorder, .life]
  | .recordSubmit .. | .recordWrite .. | .recorderNoticeWindowEnd .. =>
    some [.store, .conditions, .recorder]
  | .summaryIntervalEnd .. =>
    some [.store, .recorder]
  | .recRead .. =>
    some [.sequences]
  | .icuSourceEvent .. | .stopEntry .. | .wakeEdge .. =>
    some [.interrupts]
  | .icuClaim .. =>
    some [.store, .conditions, .interrupts, .freeValues]
  | .icuComplete .. | .enableSet .. | .enableClr .. | .sgiSet .. | .icuStuckTimeout .. | .pendingRead .. =>
    some [.store, .conditions, .interrupts]
  | .coreReset .. =>
    some [.store, .conditions, .wear, .interrupts, .cores]
  | .laneReset .. | .sumpDataRead .. | .sumpWdataWrite .. | .sumpWordArrival .. =>
    some [.store, .conditions, .logs, .wear, .metering, .engines, .policyPort, .roles, .health, .pairing, .comparison,
    .memory, .interrupts, .vault, .arbiters, .sump, .cores, .coreWrites, .recorder, .firmware]
  | .semaphoreAcquire .. | .semaphoreRelease .. =>
    some [.store, .conditions, .cores]
  | .timeLoRead .. =>
    some [.cores]
  | .gourWindowStart .. =>
    some [.store, .conditions, .interrupts, .arbiters]
  | .gourGrant .. =>
    some [.store, .conditions, .interrupts, .arbiters, .freeValues]
  | .gourRequest .. | .gourWithdraw .. =>
    some [.arbiters]
  | .gourRefillWrite .. =>
    some [.store, .conditions, .arbiters]
  | .sumpFlush .. =>
    some [.store, .conditions, .interrupts, .sump]
  | .busWatchdogAbort .. =>
    some [.store, .conditions, .health, .interrupts, .cores]
  | .registerWrite .. =>
    some [.store, .conditions, .journal, .logs, .wear, .admission, .radio, .tracker, .metering, .engines, .policyPort,
    .roles, .health, .pairing, .comparison, .memory, .interrupts, .vault, .arbiters, .sump, .cores, .coreWrites,
    .recorder, .firmware, .freeValues]
  | .streamOpen .. =>
    some [.epochs, .firmware]
  | .streamData .. =>
    some [.firmware, .freeValues]
  | .streamEnd .. | .streamAbort .. =>
    some [.store, .conditions, .epochs, .recorder, .firmware, .freeValues]
  | .streamTimeout .. =>
    some [.store, .conditions, .epochs, .recorder, .firmware]
  | .bankProgramDone .. =>
    some [.store, .conditions, .engines, .policyPort, .roles, .health, .memory, .interrupts, .vault, .arbiters, .sump,
    .cores, .coreWrites, .firmware]
  | .fwActivate .. =>
    some [.sequences, .store, .conditions, .logs, .wear, .metering, .engines, .policyPort, .roles, .health, .pairing,
    .comparison, .memory, .interrupts, .vault, .arbiters, .sump, .cores, .coreWrites, .recorder, .firmware]
  | .fwCommit .. =>
    some [.sequences, .journal, .firmware]
  | .fwCommitApply .. =>
    some [.store, .conditions, .journal, .recorder, .firmware]
  | .fwRestartAll .. =>
    some [.associations, .sequences, .surveys, .store, .conditions, .logs, .wear, .admission, .radio, .epochs,
    .tracker, .metering, .lamp, .engines, .policyPort, .roles, .health, .pairing, .inputs, .comparison, .memory,
    .interrupts, .vault, .arbiters, .sump, .cores, .coreWrites, .offsets, .timeBase, .recorder, .trunk, .selfTest,
    .power, .firmware]
  | .bankErase .. =>
    some [.sequences, .firmware]
  | .busErrorRead .. =>
    some [.store, .conditions, .logs, .wear, .metering, .engines, .policyPort, .roles, .health, .pairing, .comparison,
    .memory, .interrupts, .vault, .arbiters, .sump, .cores, .coreWrites, .recorder, .firmware, .freeValues]
  | _ => none

/-- A request that a module fault strikes (R78, R79). -/
def struck : Instr → Bool
  | .setup _ h .. | .close _ h .. | .read _ h .. | .write _ h .. | .seqOpen _ h .. | .seqCommit _ h .. | .seqAbort _
    h .. | .subscribe _ h .. | .ack _ h .. | .describe _ h .. | .breakLock _ h .. | .restoreDefaults _ h .. | .survey _
    h .. | .closeSession _ h .. | .ticketResult _ h .. | .approveJoin _ h .. | .removeNode _ h .. | .lightSet _ h .. |
    .lightResume _ h .. | .nodeFunc _ h .. | .epochOpen _ h .. | .epochStage _ h .. | .epochArm _ h .. | .epochAbandon _
    h .. | .imageDiscard _ h .. | .imageBlock _ h .. | .histClear _ h .. | .calMeasure _ h .. | .battMetRenew _ h .. |
    .flsStart _ h .. | .flsStop _ h .. | .flsTrigger _ h .. | .ledRetest _ h .. | .switchover _ h .. | .restartStandby _
    h .. | .resync _ h .. | .masterHandover _ h .. | .portRestart _ h .. | .timeSet _ h .. | .encSuspend _ h .. |
    .commission _ h .. | .recommission _ h .. | .returnModule _ h .. | .scrap _ h .. | .escrowExport _ h .. |
    .trunkKeyInstall _ h .. | .returnToStock _ h .. | .recRead _ h .. | .stSweep _ h .. | .cellReplaced _ h .. |
    .cellTest _ h .. | .outputSet _ h .. | .fwActivate _ h .. | .fwCommit _ h .. | .fwRestartAll _ h .. | .bankErase _
    h .. => h.strike != .none
  | _ => false

/-- What a module fault with an uncertain outcome may change besides (R79): the active lane restarts. -/
def strikeParts : List Part :=
  [.store, .conditions, .logs, .wear, .metering, .engines, .policyPort, .roles, .health, .pairing, .comparison,
  .memory, .interrupts, .vault, .arbiters, .sump, .cores, .coreWrites, .recorder, .firmware]

end Sys2Proof.Safety
end

