-- ==== Sys2Proof/Certificates/Slice0/Obligations.lean ====
section
/-!
DEFINITION. The statements for the provers, one per group of rules; Runs says that a command answers a next state, of which
what follows holds.
-/
open Sys2Proof Sys2Proof.Machine Sys2Proof.Safety

/-- A step runs the command at the front of the queue (01_architecture.md). With a command at the front of the queue,
step is exec of it on the state with the rest of the queue; on an empty queue the block idles (the model's choice,
log entry 2). The queue and its idling on an empty queue are the model's (log entry 2). -/
def Obligations.StepRunsFront : Prop :=
  (∀ (c : Instr) (l : List Instr) (s : State), s.pending = c :: l → step s = exec c { s with pending := l }) ∧
  (∀ s : State, s.pending = [] → step s = .next s)

/-- Every well-formed command answers a next state (01_architecture.md, 02_object_dictionary.md). A command whose
operands fit the fields that carry them answers a next state in every state: no command is refused and none faults.
The FAB count does not run backward and the queue is as it was. That an event command does nothing but advance the
clock where its event cannot have happened is the model's choice (log entry 3). -/
def Obligations.CommandsComplete : Prop :=
  (∀ (c : Instr) (s : State), instrOk c = true → ∃ u, exec c s = .next u ∧ s.clk.fab ≤ u.clk.fab ∧ u.pending =
    s.pending)

/-- What the rules give the block right after reset (R26, R227, R229, R278, R281, R329, R337, R352, R389). After reset
both lanes read ROLE UNDECIDED, the queue is empty, no association, session, sequence or ticket exists, every track
is FREE, every zone has class M6, every Flowstone engine is IDLE over the whole string, every time latch and both
real-time clocks read OSC_STOPPED, both vaults are sealed without an owner root, and every interrupt target has an
empty stack. Only values that the rules give; the values that log entries 5 to 7 choose are left out. -/
def Obligations.ResetValues : Prop :=
  ((∀ l, (State.reset.lanes.get l).role = .undecided) ∧ State.reset.pending = [] ∧ State.reset.ib.assocs = [] ∧
    State.reset.ib.sessions = [] ∧ State.reset.ib.seqs = [] ∧ State.reset.adm.tickets = []) ∧
  ((∀ n, (trackOf State.reset n).state = .free) ∧ (∀ z, (zoneOf State.reset z).cls = 5) ∧ ∀ l e, e < 8 → (engOf l
    State.reset e).state = 0 ∧ (engOf l State.reset e).first = 0 ∧ (engOf l State.reset e).last = 23) ∧
  (State.reset.time.oscStopped = true ∧ ∀ l, (State.reset.time.rtcs.get l).stopped = true ∧ (∀ x, x ∈
    (State.reset.lanes.get l).latches → x.tstat = 0x14) ∧ (State.reset.lanes.get l).vault.unsealed = false ∧
    (State.reset.lanes.get l).vault.root = none ∧ ∀ x, x ∈ (State.reset.lanes.get l).icu.targets → x.stack = [] ∧
    x.threshold = 0)

/-- The invariants hold right after reset (R281, R22). The reset state has a well-formed queue, memories in canonical
form and at most one active lane. -/
def Obligations.InvariantsAtReset : Prop :=
  (queueOk State.reset = true ∧ memoryOk State.reset = true ∧ oneActive State.reset = true)

/-- Every step takes exactly the front command and time never runs back (01_architecture.md). From a state whose queue
is well formed, a step that answers a next state leaves exactly the rest of the queue, which is well formed, and the
FAB time counter has not run backward. The queue is the model's (log entry 2); that the FAB counter only counts up
is R8. -/
def Obligations.QueueAndClock : Prop :=
  (∀ s u : State, queueOk s = true → step s = .next u → u.pending = s.pending.tail ∧ queueOk u = true ∧ s.clk.fab ≤
    u.clk.fab)

/-- Every step keeps the memories of both lanes in their canonical form (R22, R13). If the memories of both lanes list
strictly rising addresses and no cell that reads as an unlisted address does, then so they do after any step that
answers a next state. The canonical form is the model's (log entry 9). -/
def Obligations.MemoryForm : Prop :=
  (∀ s u : State, memoryOk s = true → step s = .next u → memoryOk u = true)

/-- No step makes both lanes ACTIVE (R281, R292). If not both lanes read ROLE ACTIVE, then not both do after any step
that answers a next state. -/
def Obligations.OneActiveLane : Prop :=
  (∀ s u : State, oneActive s = true → step s = .next u → oneActive u = true)

/-- What the commands leave alone in the memory of the lanes (R13, R22, R246, R295). No command changes how a byte of
MRAM reads but the writes of a core, the metering saves, the history copy and the state transfer. A save changes no
byte outside the energy ring, and with an active lane none outside the slot it writes. The state transfer copies the
active lane's memory but the receiving lane's own energy ring and leaves the active lane's memory alone. -/
def Obligations.MemoryFrames : Prop :=
  (∀ (c : Instr) (s u : State), storesMram c = false → exec c s = .next u → ∀ l, mramSame l s u) ∧
  (∀ (t : Nat) (a b : Samples) (s u : State), (exec (.periodicSave t a b) s = .next u ∨ exec (.finalSaveRepeat t a
    b) s = .next u ∨ exec (.powerFailWarning t a b) s = .next u) →       ∀ l k, (k < 0x20800000 ∨ 0x20810000 ≤ k) →
    memRead (u.lanes.get l).mem k = memRead (s.lanes.get l).mem k) ∧
  (∀ (t : Nat) (a b : Samples) (s u : State), (active s).isSome = true → (exec (.periodicSave t a b) s = .next u ∨
    exec (.finalSaveRepeat t a b) s = .next u ∨ exec (.powerFailWarning t a b) s = .next u) →       ∀ l k, (k <
    nextSlot s ∨ nextSlot s + 128 ≤ k) → memRead (u.lanes.get l).mem k = memRead (s.lanes.get l).mem k) ∧
  (∀ (t : Nat) (l : Lane) (s : State),
      active s = some (otherLane l) →
      (s.lanes.get l).role = .lagging →
      (s.lanes.get l).resync = .transfer →
      bridgeUp s = true →
      Runs (.stateTransferDone t l) s (fun u => (∀ a, memRead (u.lanes.get l).mem a = if 0x20800000 ≤ a ∧ a <
        0x20810000 then memRead (s.lanes.get l).mem a else memRead (s.lanes.get (otherLane l)).mem a) ∧ (u.lanes.get
        (otherLane l)).mem = (s.lanes.get (otherLane l)).mem))

/-- What the commands of the protocol and the policy port leave alone (02_object_dictionary.md, 03_ibier_access.md,
04_deadline_admission.md). Each command of the protocol and the policy port that answers a next state leaves every
part of the state unchanged but those that requestParts names for it and, for a request that a module fault strikes,
those of strikeParts. The tables are the model's reading of what the rules of each command name; sessions, notices,
outputs and counters are no part. -/
def Obligations.RequestFrames : Prop :=
  (∀ (c : Instr) (ps : List Part) (s u : State), requestParts c = some ps → exec c s = .next u → ∀ p, p ∉ ps →
    (struck c = true → p ∉ strikeParts) → Part.same p s u)

/-- What the commands of the radio, the epochs and the tracker leave alone (05_cydel_mac.md, 06_schedules_epochs.md,
07_traffic_lighting.md). Each command of the radio, the epochs and the tracker that answers a next state leaves
every part of the state unchanged but those that radioParts names for it and, for a request that a module fault
strikes, those of strikeParts. -/
def Obligations.RadioFrames : Prop :=
  (∀ (c : Instr) (ps : List Part) (s u : State), radioParts c = some ps → exec c s = .next u → ∀ p, p ∉ ps → (struck
    c = true → p ∉ strikeParts) → Part.same p s u)

/-- What the commands of metering, light, self-test, power and contacts leave alone (08_feeder_metering.md,
09_anchor_led_drive.md, 17_self_test.md, 18_power_startup.md, 20_connectors_ratings.md). Each command of metering,
light, self-test, power and contacts that answers a next state leaves every part of the state unchanged but those
that supplyParts names for it and, for a request that a module fault strikes, those of strikeParts. -/
def Obligations.SupplyFrames : Prop :=
  (∀ (c : Instr) (ps : List Part) (s u : State), supplyParts c = some ps → exec c s = .next u → ∀ p, p ∉ ps →
    (struck c = true → p ∉ strikeParts) → Part.same p s u)

/-- What the commands of the lanes, the trunk and time leave alone (10_lanes_failover.md, 11_trunk_cascade.md,
12_time_calendar.md). Each command of the lanes, the trunk and time that answers a next state leaves every part of
the state unchanged but those that ringParts names for it and, for a request that a module fault strikes, those of
strikeParts. -/
def Obligations.RingFrames : Prop :=
  (∀ (c : Instr) (ps : List Part) (s u : State), ringParts c = some ps → exec c s = .next u → ∀ p, p ∉ ps → (struck
    c = true → p ∉ strikeParts) → Part.same p s u)

/-- What the commands of the vault, the life cycle, records, interrupts, queues and firmware leave alone
(13_shallot_vault.md, 14_dripstone_faults.md, 15_interrupt_controller.md, 16_gour_sump.md, 19_firmware_update.md).
Each command of the vault, the life cycle, records, interrupts, queues and firmware that answers a next state leaves
every part of the state unchanged but those that moduleParts names for it and, for a request that a module fault
strikes, those of strikeParts. -/
def Obligations.ModuleFrames : Prop :=
  (∀ (c : Instr) (ps : List Part) (s u : State), moduleParts c = some ps → exec c s = .next u → ∀ p, p ∉ ps →
    (struck c = true → p ∉ strikeParts) → Part.same p s u)

/-- Associations and sessions open and close (R64, R66, R69, R70, R57). With an active lane, a ClientHello that offers
what R64 accepts, on an entry that the life-cycle state answers, with an accepted certificate and fewer than 16
handshakes in progress, makes an association with its entry, way, peer, certificate and level and no session,
whether or not early data came. A datagram with a bad relay header, or one for this module that fails authentication
or exceeds 1,200 bytes, counts in 0:0012. The teardown of an association removes it and its session. A SETUP that
nothing refuses and no module fault strikes opens a session with its client ID, association and level, no REQ_SEQ
yet, and its association names it. A CLOSE that nothing refuses removes its session, and so does the idle timeout of
a session idle for its IDLE seconds. -/
def Obligations.SessionLife : Prop :=
  (∀ (t a w : Nat) (e : Entry) (p : Peer) (o : Offer13) (c : Cert) (s : State),
      (active s).isSome = true →
      entryOpen s e = true →
      offerTaken o = true →
      certTaken s c = true →
      (s.ib.handshakes.filter (fun i => decide (max s.clk.fab t < i))).length < 16 →
      Runs (.dtlsHandshake t a e ⟨w, p⟩ ⟨o, c⟩) s (fun u => (mget u.ib.assocs a).map (fun b =>
        { b with recNo := 0 }) = some
        { entry := e, via := w, peer := p, recNo := 0, cert := c, level := certLevel s c, session := none })) ∧
  (∀ (t v m c r n : Nat) (auth : Bool) (s : State),
      counts s = true →
      (v ≠ 1 ∨ 1 < c ∨ r ≠ 0 ∨ reachable s m = false ∨ (m = modId s ∧ (auth = false ∨ 1200 < n))) →
      Runs (.datagramDrop t ⟨v, m, c, r⟩ auth n) s (fun u => cntRead u 0x00012 0 0 = (cntRead s 0x00012 0 0 + 1) %
        4294967296)) ∧
  (∀ (t a : Nat) (x : Assoc) (s : State),
      mget s.ib.assocs a = some x →
      Runs (.dtlsTeardown t a) s (fun u => mget u.ib.assocs a = none ∧ ∀ i, x.session = some i → mget u.ib.sessions
        i = none)) ∧
  (∀ (t idle : Nat) (h : Hdr) (client : Bytes) (a : Assoc) (s : State),
      h.size ≤ 1200 →
      relayBad s h = false →
      h.strike = .none →
      mget s.ib.assocs h.assoc = some a →
      setupRefused a h client idle (tick t s) = none →
      Runs (.setup t h client idle) s (fun u => ∃ i x, mget u.ib.sessions i = some x ∧ x.client = client ∧ x.assoc =
        h.assoc ∧ x.level = certLevel s a.cert ∧ x.hi = none ∧ (mget u.ib.assocs h.assoc).bind (fun b => b.session) =
        some i)) ∧
  (∀ (t sid : Nat) (h : Hdr) (s : State),
      arrives 9 false h sid s = true →
      plainRefused h sid (caller t sid s) (opState t h sid s) = none →
      Runs (.close t h) s (fun u => mget u.ib.sessions sid = none)) ∧
  (∀ (t sid : Nat) (x : Session) (s : State),
      mget s.ib.sessions sid = some x →
      x.lastFab + x.idle * Config.secCycles ≤ max s.clk.fab t →
      Runs (.sessionIdleTimeout t sid) s (fun u => mget u.ib.sessions sid = none))

/-- COMPLETIONs are acknowledged, resent and held; subscriptions are served (R84, R85, R82, R83). An ACK that belongs to
its session, with REQ_SEQ 0 and OBJECT 0, removes the COMPLETIONs of the session's client with that COMP_SEQ and no
other. A resend that is due, of fewer than five, raises the count of resends and sends the COMPLETION to the
client's session. Once a new session of a client has waited, its held COMPLETION is sent to it and the wait ends.
3,600 s after it arose a COMPLETION is discarded. A SUBSCRIBE that nothing refuses, with MODE not 0, is answered
with the number of a subscription of its session that has its MODE, object and interval, its own SUB_ID where that
was not 0; with MODE 0 it removes the subscription. At the end of its interval a MODE 1 subscription with changes
sends its NOTICE, with the session's next NOTICE_SEQ, the changes and the time of the last, and starts its next
interval. At the end of its period a MODE 2 subscription sends its NOTICE with CHANGES 0 and starts its next period. -/
def Obligations.CompletionsAndNotices : Prop :=
  (∀ (t sid n : Nat) (h : Hdr) (a : Assoc) (x : Session) (s : State),
      h.size ≤ 1200 →
      relayBad s h = false →
      mget s.ib.assocs h.assoc = some a →
      a.session = some sid →
      mget s.ib.sessions sid = some x →
      h.sid = sid →
      headerBad 10 false h = false →
      h.seq = 0 →
      h.obj = 0 →
      Runs (.ack t h n) s (fun u => u.ib.comps = s.ib.comps.filter (fun p => !(p.2.client == x.client && p.2.compSeq
        == n)))) ∧
  (∀ (t k f i : Nat) (c : Completion) (x : Session) (s : State),
      mget s.ib.comps k = some c →
      c.firstSent = some f →
      c.resends < 5 →
      f + resendAt c.resends * Config.msCycles ≤ max s.clk.fab t →
      clientSession s c.client = some i →
      mget s.ib.sessions i = some x →
      canReach s x.assoc = true →
      Runs (.completionResend t k) s (fun u => mget u.ib.comps k = some { c with resends := c.resends + 1 } ∧ IbSent
        u (.completion i c.compSeq c.ticket c.reqSeq c.origSid c.notice))) ∧
  (∀ (t sid k : Nat) (w : Nat × Nat) (x : Session) (c : Completion) (s : State),
      s.ib.heldFor.find? (fun p => p.1 == sid) = some w →
      mget s.ib.sessions sid = some x →
      w.2 ≤ max s.clk.fab t →
      mget s.ib.comps k = some c →
      c.client = x.client →
      clientSession s x.client = some sid →
      heldComp c = true →
      canReach s x.assoc = true →
      Runs (.heldCompletionSend t sid) s (fun u => u.ib.heldFor = s.ib.heldFor.filter (fun q => q.1 != sid) ∧ (mget
        u.ib.comps k).any (fun d => d.firstSent.isSome) = true ∧ IbSent u (.completion sid c.compSeq c.ticket c.reqSeq
        c.origSid c.notice))) ∧
  (∀ (t k : Nat) (c : Completion) (s : State),
      mget s.ib.comps k = some c →
      c.created + 3600 * Config.secCycles ≤ max s.clk.fab t →
      Runs (.completionHoldExpiry t k) s (fun u => mget u.ib.comps k = none)) ∧
  (∀ (t sid subId mode minSev interval : Nat) (h : Hdr) (s : State),
      arrives 7 false h sid s = true →
      plainRefused h sid (caller t sid s) (opState t h sid s) = none →
      subRefused sid h subId mode minSev interval (opState t h sid s) = none →
      mode ≠ 0 →
      Runs (.subscribe t h subId mode minSev interval) s (fun u => ∃ i b, mget u.ib.subs i = some b ∧ b.sid = sid ∧
        b.mode = mode ∧ b.obj = h.obj ∧ b.interval = interval ∧ (subId ≠ 0 → i = subId) ∧ Answered u sid h
        { okReply h.obj with body := .raw (tagged [cU16] [vN i]) })) ∧
  (∀ (t sid subId minSev interval : Nat) (h : Hdr) (s : State),
      arrives 7 false h sid s = true →
      plainRefused h sid (caller t sid s) (opState t h sid s) = none →
      subRefused sid h subId 0 minSev interval (opState t h sid s) = none →
      Runs (.subscribe t h subId 0 minSev interval) s (fun u => mget u.ib.subs subId = none)) ∧
  (∀ (t i : Nat) (b : Sub) (x : Session) (s : State),
      mget s.ib.subs i = some b →
      b.mode = 1 →
      b.notBefore ≤ max s.clk.fab t →
      b.changes ≠ 0 →
      b.interval ≠ 0 →
      mget s.ib.sessions b.sid = some x →
      canReach s x.assoc = true →
      Runs (.subIntervalExpiry t i) s (fun u => (mget u.ib.subs i).map (fun c => c.notBefore) = some (max s.clk.fab
        t + b.interval * Config.msCycles) ∧ IbSent u (.notice b.sid ((x.noticeSeq + 1) % 4294967296) i (noticeBody
        (tick t s) b b.dirty).2 (min b.changes 65535) b.changedAt b.obj (noticeBody (tick t s) b b.dirty).1))) ∧
  (∀ (t i : Nat) (b : Sub) (x : Session) (s : State),
      mget s.ib.subs i = some b →
      b.mode = 2 →
      b.notBefore ≤ max s.clk.fab t →
      mget s.ib.sessions b.sid = some x →
      canReach s x.assoc = true →
      Runs (.subPeriodExpiry t i) s (fun u => (mget u.ib.subs i).map (fun c => c.notBefore) = some (b.notBefore +
        b.interval * Config.msCycles) ∧ IbSent u (.notice b.sid ((x.noticeSeq + 1) % 4294967296) i (noticeBody (tick t
        s) b (subRows b)).2 0 (time64 (tick t s)) b.obj (noticeBody (tick t s) b (subRows b)).1)))

/-- READ, DESCRIBE and TICKET_RESULT answer with the object; WRITE outside a sequence stores a setting or clears sticky
bits (R34, R35, R60, R122, R37, R39, R385). Outside a sequence, a READ that nothing refuses is answered OK: of a
scalar with its tagged value, of a table with the row frames from FIRST_ROW on, as many as ROW_COUNT, the table and
one reply hold. DESCRIBE is answered with the description of the object named; TICKET_RESULT with the tagged state
and 1,088-byte notice of the ticket named. A WRITE of one row outside a sequence that nothing refuses, to a setting
on whose change no other unit acts, leaves the row as written and is answered OK. A write to the sticky summary
clears each bit that it names and whose condition neither holds nor occurred in the same FAB cycle, and leaves every
other bit. -/
def Obligations.ReadsAndWrites : Prop :=
  (∀ (t sid : Nat) (h : Hdr) (d : ObjDesc) (s : State),
      arrives 1 false h sid s = true →
      objAt (opState t h sid s) h.obj h.firstRow = some d →
      lifeAllows s.life.state .read h.obj = true →
      d.acc ≠ .x →
      plainRefused h sid (caller t sid s) (opState t h sid s) = none →
      d.cap = 0 →
      h.handle = 0 →
      Runs (.read t h) s (fun u => Answered u sid h
        { okReply h.obj with body := .raw (tagged d.cols (readObj (opState t h sid s) h.obj 0)) })) ∧
  (∀ (t sid : Nat) (h : Hdr) (d : ObjDesc) (s : State),
      arrives 1 false h sid s = true →
      objAt (opState t h sid s) h.obj h.firstRow = some d →
      lifeAllows s.life.state .read h.obj = true →
      d.acc ≠ .x →
      plainRefused h sid (caller t sid s) (opState t h sid s) = none →
      d.cap ≠ 0 →
      h.handle = 0 →
      Runs (.read t h) s (fun u => Answered u sid h
        { okReply h.obj with body := .raw (be 1 15 ++ rowFrames d.cols (readRows (readObj (opState t h sid s) h.obj) d.cols (min h.rowCount (d.cap - h.firstRow)) h.firstRow 1167)) })) ∧
  (∀ (t sid : Nat) (h : Hdr) (args : List TVal) (s : State) (d : ObjDesc),
      passes 0x00200 [cU32] false t h args sid s = true →
      objNow (opState t h sid s) (argN args 0) = some d →
      Runs (.describe t h args) s (fun u => Answered u sid h
        { okReply 0x00200 with body := .raw (describeRow (opState t h sid s) d) })) ∧
  (∀ (t sid : Nat) (h : Hdr) (args : List TVal) (s : State) (k : Ticket),
      passes 0x50310 [cU32] false t h args sid s = true →
      ticketOf s (argN args 0) = some k →
      Runs (.ticketResult t h args) s (fun u => Answered u sid h
        { okReply 0x50310 with body := .raw (tagged [.enum [0, 1, 2], .octets 1088] [vN k.state, .bytes (fit 1088 (noticeOf k))]) })) ∧
  (∀ (t sid tag r : Nat) (v : Row) (h : Hdr) (d : ObjDesc) (s : State),
      arrives 2 false h sid s = true →
      objAt (opState t h sid s) h.obj (writeRow h) = some d →
      writeRefused h tag [(r, v)] sid (caller t sid s) d (opState t h sid s) = none →
      d.acc ≠ .w1c →
      h.handle = 0 →
      effectFree h.obj = true →
      r < 4294967296 →
      changeRefused (opState t h sid s) (withRows (writeMap d [(r, v)]) (opState t h sid s)) [okey h.obj (if d.cap =
        0 then 0 else r)] [] = none →
      Runs (.write t h tag [(r, v)]) s (fun u => getRow u h.obj (if d.cap = 0 then 0 else r) = v ∧ Answered u sid h
        (okReply h.obj))) ∧
  (∀ (t sid tag r m : Nat) (h : Hdr) (d : ObjDesc) (s : State),
      arrives 2 false h sid s = true →
      objAt (opState t h sid s) h.obj (writeRow h) = some d →
      h.obj = 0xB0100 →
      writeRefused h tag [(r, [.num (m : Int)])] sid (caller t sid s) d (opState t h sid s) = none →
      Runs (.write t h tag [(r, [.num (m : Int)])]) s (fun u => ∀ b, b < 256 → u.dict.sticky.getLsbD b =
        (s.dict.sticky.getLsbD b && !((BitVec.ofNat 256 (m * 2 ^ (32 * r))).getLsbD b && !s.dict.live.getLsbD b &&
        mget s.dict.stuckAt b != some (max s.clk.fab t)))))

/-- A sequence opens, collects shadows and commits, or breaks (R48, R51, R54, R61, R52, R57, R58, R62). SEQ-OPEN without
a handle that nothing refuses opens a sequence of the session with the groups of its mask and no shadows and is
answered with its handle. A WRITE inside an open sequence, within its space, adds its rows to the shadows and leaves
the dictionary as it was; so does RESTORE_DEFAULTS of a bank whose groups it holds with the restored rows.
SEQ-COMMIT that nothing refuses, with no other commit accepted, is accepted with its apply ASN, which it answers and
which the journal holds. COMMIT_APPLY at or after the apply ASN of the only sequence, with one shadowed row of a
setting on whose change no other unit acts, brings that row into force and ends the sequence. LEASE_EXPIRY of an
open sequence whose lease has run out, and that no calibration uses, removes it, and its session remembers cause 1;
BREAK_LOCK removes the open sequence that holds the group named. -/
def Obligations.SequenceLife : Prop :=
  (∀ (t sid mask lease : Nat) (h : Hdr) (s : State),
      arrives 4 false h sid s = true →
      h.handle = 0 →
      h.tclass = 0 →
      openRefused mask lease sid (caller t sid s) .plain (opState t h sid s) = none →
      Runs (.seqOpen t h mask lease) s (fun u => ∃ i q, mget u.ib.seqs i = some q ∧ q.sid = sid ∧ q.client = (caller
        t sid s).client ∧ q.groups = maskGroups mask ∧ q.shadows = [] ∧ q.commit = none ∧ Answered u sid h
        { okReply h.obj with body := .raw (tagged [cU16] [vN i]) })) ∧
  (∀ (t sid tag : Nat) (rows : List (Nat × Row)) (h : Hdr) (d : ObjDesc) (q : Sequence) (s : State),
      arrives 2 false h sid s = true →
      objAt (opState t h sid s) h.obj (writeRow h) = some d →
      writeRefused h tag rows sid (caller t sid s) d (opState t h sid s) = none →
      d.acc ≠ .w1c →
      mget (opState t h sid s).ib.seqs h.handle = some q →
      h.handle ≠ 0 →
      q.sid = sid →
      q.commit = none →
      shadowsFit h.handle { q with shadows := (writeMap d rows).foldl (fun m p => mset m p.1 p.2) q.shadows }
        (opState t h sid s) = true →
      Runs (.write t h tag rows) s (fun u => mget u.ib.seqs h.handle = some
        { q with shadows := (writeMap d rows).foldl (fun m p => mset m p.1 p.2) q.shadows } ∧ u.dict = s.dict)) ∧
  (∀ (t sid : Nat) (h : Hdr) (args : List TVal) (s : State) (q : Sequence),
      passes 0x00240 [cU8] false t h args sid s = true →
      mget (opState t h sid s).ib.seqs h.handle = some q →
      h.handle ≠ 0 →
      q.sid = sid →
      q.commit = none →
      argN args 0 ≠ 1 →
      argN args 0 ≤ 14 →
      (bankGroups (argN args 0)).all (fun g => q.groups.contains g) = true →
      shadowsFit h.handle (restoreShadow (argN args 0) q) (opState t h sid s) = true →
      Runs (.restoreDefaults t h args) s (fun u => mget u.ib.seqs h.handle = some (restoreShadow (argN args 0) q) ∧
        u.dict = s.dict)) ∧
  (∀ (t sid : Nat) (h : Hdr) (q : Sequence) (s : State),
      arrives 5 false h sid s = true →
      h.tclass = 0 →
      mget (opState t h sid s).ib.seqs h.handle = some q →
      h.handle ≠ 0 →
      q.sid = sid →
      q.commit = none →
      (accepted (opState t h sid s)).length = 0 →
      changeRefused (opState t h sid s) (overlay q (opState t h sid s)) (seqKeys q (opState t h sid s)) q.restores =
        none →
      Runs (.seqCommit t h) s (fun u => mget u.ib.seqs h.handle = some
        { q with commit := some (applyAsn (tick t s), s.ib.orderNext) } ∧ JEntry.commit h.handle (applyAsn (tick t s))
        ∈ u.dict.journal ∧ Answered u sid h { okReply h.obj with applyAsn := applyAsn (tick t s) })) ∧
  (∀ (t hd a o n r : Nat) (v : Row) (q : Sequence) (s : State),
      s.ib.seqs = [(hd, q)] →
      q.commit = some (a, o) →
      a ≤ asn (tick t s) →
      q.shadows = [(okey n r, v)] →
      q.restores = [] →
      effectFree n = true →
      r < 4294967296 →
      Runs (.commitApply t) s (fun u => getRow u n r = v ∧ u.ib.seqs = [])) ∧
  (∀ (t hd : Nat) (q : Sequence) (x : Session) (s : State),
      mget s.ib.seqs hd = some q →
      q.commit = none →
      q.leaseEnd ≤ max s.clk.fab t →
      s.met.cal = none →
      mget s.ib.sessions q.sid = some x →
      Runs (.leaseExpiry t hd) s (fun u => mget u.ib.seqs hd = none ∧ (mget u.ib.sessions q.sid).map (fun y =>
        y.broken) = some ((hd, 1) :: x.broken))) ∧
  (∀ (t sid : Nat) (h : Hdr) (args : List TVal) (s : State) (hd : Nat) (q : Sequence),
      passes 0x00220 [cU8] false t h args sid s = true →
      argN args 0 ≤ 31 →
      (argN args 0 < 28 ∨ 30 < argN args 0) →
      holder (opState t h sid s) (argN args 0) = some (hd, q) →
      mget (opState t h sid s).ib.seqs hd = some q →
      q.commit = none →
      Runs (.breakLock t h args) s (fun u => mget u.ib.seqs hd = none ∧ Answered u sid h (okReply 0x00220)))

/-- SEQ-ABORT discards a sequence; an accepted commit cannot be aborted (R56). SEQ-ABORT of the session's own open
sequence removes it with its shadows and groups, replies OK and leaves every object alone; SEQ-ABORT of a sequence
whose commit has been accepted is refused with LOCKED and leaves the sequence. -/
def Obligations.SequenceEnd : Prop :=
  (∀ (t sid : Nat) (h : Hdr) (q : Sequence) (s : State),
      arrives 6 false h sid s = true →
      h.tclass = 0 →
      mget (opState t h sid s).ib.seqs h.handle = some q →
      h.handle ≠ 0 →
      q.sid = sid →
      q.commit = none →
      Runs (.seqAbort t h) s (fun u => mget u.ib.seqs h.handle = none ∧ u.dict = s.dict ∧ Answered u sid h (okReply
        h.obj))) ∧
  (∀ (t sid : Nat) (h : Hdr) (q : Sequence) (s : State),
      arrives 6 false h sid s = true →
      mget (opState t h sid s).ib.seqs h.handle = some q →
      h.handle ≠ 0 →
      q.sid = sid →
      q.commit.isSome = true →
      Runs (.seqAbort t h) s (fun u => mget u.ib.seqs h.handle = some q ∧ u.dict = s.dict ∧ (replyFor u sid
        h.seq).map (fun r => r.status) = some stLocked))

/-- Surveys choose a slot, take the snapshot there, and end (R86, R87, R88). A SURVEY of this module waits for the
snapshot of the next slot; a cascade Survey at the acting master is kept with its session, REQ_SEQ, mask and the ASN
of its snapshot. A member schedules the snapshot of the ASN it is told. SNAPSHOT at or after the one ASN that is
waited for fills a buffer with that ASN under the next SNAP_SEQ, and nothing waits any more. A record of a member
surveyed enters the only Survey with its ASN while others are missing. 500 ms after the snapshot of the only Survey
it is no longer kept. -/
def Obligations.Surveys : Prop :=
  (∀ (t sid : Nat) (h : Hdr) (args : List TVal) (s : State),
      passes 0x00100 [cU8, .bits 0xFFFFFFFF, .bits 0xFFFFFFFF] false t h args sid s = true →
      argN args 0 = 0 →
      Runs (.survey t h args) s (fun u => ∃ l, mget u.ib.snapPending (asn (tick t s) + 1) = some l ∧ (sid, h.seq) ∈
        l)) ∧
  (∀ (t sid : Nat) (h : Hdr) (args : List TVal) (s : State),
      passes 0x00100 [cU8, .bits 0xFFFFFFFF, .bits 0xFFFFFFFF] false t h args sid s = true →
      argN args 0 = 1 →
      actsMaster s = true →
      Runs (.survey t h args) s (fun u => ∃ v, v ∈ u.ib.surveys ∧ v.asn = cascadeAsn (tick t s) ∧ v.sid = sid ∧
        v.reqSeq = h.seq ∧ v.mask = argN args 1 * 4294967296 + argN args 2)) ∧
  (∀ (t a : Nat) (s : State),
      actsMaster s = false →
      commissioned s = true →
      Runs (.surveySnap t a) s (fun u => ∃ l, mget u.ib.snapPending a = some l ∧ ((0 : Nat), (0 : Nat)) ∈ l)) ∧
  (∀ (t a : Nat) (l : List (Nat × Nat)) (s : State),
      (active s).isSome = true →
      s.ib.snapPending = [(a, l)] →
      a ≤ asn (tick t s) →
      Runs (.snapshot t) s (fun u => u.ib.snapPending = [] ∧ (u.ib.snaps.head?).map (fun b => (b.seq, b.asn)) = some
        (min (getN s 0x00101 + 1) 4294967295, a))) ∧
  (∀ (t m : Nat) (rcd : Bytes) (v : CascadeSurvey) (s : State),
      actsMaster s = true →
      rcd.length = 3072 →
      s.ib.surveys = [v] →
      v.asn = ofBe ((rcd.drop 8).take 8) →
      surveyed s v.mask m = true →
      surveyFull s { v with recs := mset v.recs m rcd } = false →
      Runs (.surveyRec t m rcd) s (fun u => u.ib.surveys = [{ v with recs := mset v.recs m rcd }])) ∧
  (∀ (t n : Nat) (v : CascadeSurvey) (s : State),
      s.ib.surveys = [v] →
      v.snap = some n →
      fabOfAsn (tick t s) v.asn + 500 * Config.msCycles ≤ max s.clk.fab t →
      Runs (.surveyMemberTimeout t) s (fun u => u.ib.surveys = []))

/-- A node-bound command that admission accepts becomes an open ticket (R108, R111, R173, R196, R181, R193). LIGHT_SET,
LIGHT_RESUME and NODE_FUNC that pass the checks of R43 and the admission decision are answered OK with a ticket; the
ticket table holds that ticket open, with the object, class, client, the deadline DEADLINE ms on, and the endpoints,
function and arguments of its COMMAND frame: SET_LEVEL 01h, RESUME 02h, or the function asked for. EPOCH_STAGE and
IMAGE_BLOCK that pass the checks of R43 and the admission decision are answered OK with a ticket; the ticket table
holds that ticket open, with the object, class, client and deadline, and what it delivers: the package of the epoch
that WHICH names, or the image block named. -/
def Obligations.NodeTickets : Prop :=
  (∀ (t sid : Nat) (h : Hdr) (args : List TVal) (s : State),
      admits 0x60200 cmdLightSet t h args sid s = true →
      Runs (.lightSet t h args) s (fun u => ∃ tk row k, Answered u sid h { okReply 0x60200 with ticket := tk } ∧
        mget u.adm.tickets row = some k ∧ k.id = tk ∧ k.state = 1 ∧ k.obj = 0x60200 ∧ k.dclass = h.dclass ∧ k.client =
        (caller t sid s).client ∧ k.deadline = max s.clk.fab t + h.deadline * Config.msCycles ∧ k.frame =
        { endpoints := 2 * argN args (descLen args), func := 1, args := le 1 (argN args (descLen args + 1)) ++ le 1 (argN args (descLen args + 2)) ++ le 2 (argN args (descLen args + 3)) })) ∧
  (∀ (t sid : Nat) (h : Hdr) (args : List TVal) (s : State),
      admits 0x60201 cmdLightResume t h args sid s = true →
      Runs (.lightResume t h args) s (fun u => ∃ tk row k, Answered u sid h { okReply 0x60201 with ticket := tk } ∧
        mget u.adm.tickets row = some k ∧ k.id = tk ∧ k.state = 1 ∧ k.obj = 0x60201 ∧ k.dclass = h.dclass ∧ k.client =
        (caller t sid s).client ∧ k.deadline = max s.clk.fab t + h.deadline * Config.msCycles ∧ k.frame =
        { endpoints := 2 * argN args (descLen args), func := 2, args := [] })) ∧
  (∀ (t sid : Nat) (h : Hdr) (args : List TVal) (s : State),
      admits 0x60202 cmdNodeFunc t h args sid s = true →
      Runs (.nodeFunc t h args) s (fun u => ∃ tk row k, Answered u sid h { okReply 0x60202 with ticket := tk } ∧
        mget u.adm.tickets row = some k ∧ k.id = tk ∧ k.state = 1 ∧ k.obj = 0x60202 ∧ k.dclass = h.dclass ∧ k.client =
        (caller t sid s).client ∧ k.deadline = max s.clk.fab t + h.deadline * Config.msCycles ∧ k.frame =
        { endpoints := argN args (descLen args), func := argN args (descLen args + 1), args := argB args (descLen args + 2) })) ∧
  (∀ (t sid : Nat) (h : Hdr) (args : List TVal) (s : State),
      admits 0x60301 cmdEpochStage t h args sid s = true →
      Runs (.epochStage t h args) s (fun u => ∃ tk row k, Answered u sid h { okReply 0x60301 with ticket := tk } ∧
        mget u.adm.tickets row = some k ∧ k.id = tk ∧ k.state = 1 ∧ k.obj = 0x60301 ∧ k.dclass = h.dclass ∧ k.client =
        (caller t sid s).client ∧ k.deadline = max s.clk.fab t + h.deadline * Config.msCycles ∧ k.job = .stage (if
        argN args (descLen args) = 1 then s.epoch.inForce else if s.epoch.state = 1 ∨ s.epoch.state = 2 then
        s.epoch.next else (s.epoch.inForce + 1) % 65536))) ∧
  (∀ (t sid : Nat) (h : Hdr) (args : List TVal) (s : State),
      admits 0x60410 cmdImageBlock t h args sid s = true →
      Runs (.imageBlock t h args) s (fun u => ∃ tk row k, Answered u sid h { okReply 0x60410 with ticket := tk } ∧
        mget u.adm.tickets row = some k ∧ k.id = tk ∧ k.state = 1 ∧ k.obj = 0x60410 ∧ k.dclass = h.dclass ∧ k.client =
        (caller t sid s).client ∧ k.deadline = max s.clk.fab t + h.deadline * Config.msCycles ∧ k.job = .block (argN
        args (descLen args)) (argN args (descLen args + 1))))

/-- Tickets complete at their deadline; the policy port serves its core (R118, R121, R226). With an active lane, at its
deadline instant the open ticket of an Ibier client completes and its notice becomes that client's next COMPLETION.
A POP by a policy core with a COMP_BUF that R121 accepts takes the oldest notice, sets READY, gives its length in
COMP_LEN and writes it to COMP_BUF in the core's lane, where no other byte changes. On the active lane's half that
is not BUSY: GO with a command that admission accepts gives its ticket, DONE and status 0; GO with SELECT_CLASS in
the registers, and SELECT_CLASS as a submission of its own, of a class that the zone lets policy choose make it the
zone's selection until the hold ends, pending for the boundary 20 ms on, with DONE and status 0; HIST_COPY of rows
and to a destination that R226 accepts begins the copy and leaves the half BUSY. HIST_COPY_DONE ends the copy with
DONE: the rows stand at the destination in the core's lane, where no other byte changes. -/
def Obligations.PolicyPort : Prop :=
  (∀ (t tk : Nat) (k : Ticket) (s : State),
      ticketOf s tk = some k →
      k.state = 1 →
      k.submitter = 0 →
      k.deadline ≤ max s.clk.fab t →
      (active s).isSome = true →
      Runs (.deadlineInstant t tk) s (fun u => (ticketOf u tk).map (fun x => x.state) = some 2 ∧ (mget u.ib.comps
        s.ib.compNext).map (fun c => (c.client, c.ticket, c.notice)) = some (k.client, tk, noticeOf k) ∧ u.ib.compNext
        = s.ib.compNext + 1)) ∧
  (∀ (t : Nat) (l : Lane) (c : Core) (b : Bytes) (r : List Bytes) (s : State),
      isPolicy c = true →
      (halfOf l s c).pending = b :: r →
      (halfOf l s c).compBuf % 64 = 0 →
      0xA0000000 ≤ (halfOf l s c).compBuf →
      (halfOf l s c).compBuf + max b.length 1 ≤ 0xB0000000 →
      Runs (.compPop t ⟨l, c⟩) s (fun u => (halfOf l u c).pending = r ∧ (halfOf l u c).ready = true ∧ (halfOf l u
        c).badbuf = false ∧ (halfOf l u c).compLen = b.length ∧ (Memory.wf (s.lanes.get l).mem = true → (∀ i, i <
        (b).length → memRead (u.lanes.get l).mem ((halfOf l s c).compBuf + i) = (b).getD i 0) ∧ ∀ a, a < (halfOf l s
        c).compBuf ∨ (halfOf l s c).compBuf + (b).length ≤ a → memRead (u.lanes.get l).mem a = memRead (s.lanes.get
        l).mem a))) ∧
  (∀ (t z cls hold : Nat) (l : Lane) (c : Core) (s : State),
      isPolicy c = true →
      (s.lanes.get l).role = .active →
      (halfOf l s c).busy = false →
      z ≤ 255 →
      rNat (getRow s 0x70120 z) 6 ≠ 0 →
      classVals.contains cls = true →
      bitOf (rNat (getRow s 0x70120 z) 1) cls = true →
      1 ≤ hold →
      hold ≤ 86400 →
      Runs (.selectClass t ⟨l, c⟩ z cls hold) s (fun u => (mget u.trk.zones z).map (fun x => (x.policy.map (fun p =>
        (p.1, p.2.1)), x.policyChange)) = some (some (cls, max s.clk.fab t + hold * Config.secCycles), some
        (boundaryAfter (tick t s) (20 * Config.msCycles))) ∧ (halfOf l u c).done = true ∧ (halfOf l u c).status = 0)) ∧
  (∀ (t : Nat) (l : Lane) (c : Core) (s : State),
      isPolicy c = true →
      (s.lanes.get l).role = .active →
      (halfOf l s c).busy = false →
      (halfOf l s c).dclass ≠ 0 →
      (nodeSubmission c (halfOf l s c) (tick t s)).2.isRight = true →
      Runs (.subGo t ⟨l, c⟩) s (fun u => ∃ tk, (nodeSubmission c (halfOf l s c) (tick t s)).2 = .inr tk ∧ (halfOf l
        u c).ticket = tk ∧ (halfOf l u c).done = true ∧ (halfOf l u c).busy = false ∧ (halfOf l u c).status = 0)) ∧
  (∀ (t : Nat) (l : Lane) (c : Core) (a : List TVal) (s : State),
      isPolicy c = true →
      (s.lanes.get l).role = .active →
      (halfOf l s c).busy = false →
      (halfOf l s c).dclass = 0 →
      (halfOf l s c).obj = 0x70380 →
      decodeArgs [cU8, .enum (classVals ++ [255]), .int 4 1 86400] ((halfOf l s c).arg.take (min (halfOf l s c).len
        1024)) = a →
      (argType [cU8, .enum (classVals ++ [255]), .int 4 1 86400] a).isNone = true →
      rNat (getRow s 0x70120 (argN a 0)) 6 ≠ 0 →
      classVals.contains (argN a 1) = true →
      bitOf (rNat (getRow s 0x70120 (argN a 0)) 1) (argN a 1) = true →
      1 ≤ argN a 2 →
      argN a 2 ≤ 86400 →
      Runs (.subGo t ⟨l, c⟩) s (fun u => (mget u.trk.zones (argN a 0)).map (fun x => (x.policy.map (fun p => (p.1,
        p.2.1)), x.policyChange)) = some (some (argN a 1, max s.clk.fab t + argN a 2 * Config.secCycles), some
        (boundaryAfter (tick t s) (20 * Config.msCycles))) ∧ (halfOf l u c).done = true ∧ (halfOf l u c).status = 0)) ∧
  (∀ (t k f n d : Nat) (l : Lane) (c : Core) (s : State),
      isPolicy c = true →
      (s.lanes.get l).role = .active →
      (halfOf l s c).busy = false →
      k ≤ 1 →
      1 ≤ n →
      n ≤ 512 →
      f + n ≤ (if k = 0 then 57344 else 16384) →
      d % 64 = 0 →
      0xA0000000 ≤ d →
      d + n * (if k = 0 then 192 else 128) ≤ 0xB0000000 →
      Runs (.histCopy t ⟨l, c⟩ k f n d) s (fun u => copyOf l u c = some
        { kind := k, first := f, rows := n, dest := d } ∧ (halfOf l u c).busy = true)) ∧
  (∀ (t : Nat) (l : Lane) (c : Core) (j : HistJob) (s : State),
      isPolicy c = true →
      copyOf l s c = some j →
      Runs (.histCopyDone t ⟨l, c⟩) s (fun u => copyOf l u c = none ∧ (halfOf l u c).done = true ∧ (halfOf l u
        c).busy = false ∧ (Memory.wf (s.lanes.get l).mem = true → (∀ i, i < (((List.range j.rows).map (fun i => fit
        (if j.kind = 0 then 192 else 128) (rOct (getRow s (if j.kind = 0 then 0x70200 else 0x70202) (j.first + i))
        0))).flatten).length → memRead (u.lanes.get l).mem (j.dest + i) = (((List.range j.rows).map (fun i => fit (if
        j.kind = 0 then 192 else 128) (rOct (getRow s (if j.kind = 0 then 0x70200 else 0x70202) (j.first + i))
        0))).flatten).getD i 0) ∧ ∀ a, a < j.dest ∨ j.dest + (((List.range j.rows).map (fun i => fit (if j.kind = 0
        then 192 else 128) (rOct (getRow s (if j.kind = 0 then 0x70200 else 0x70202) (j.first + i))
        0))).flatten).length ≤ a → memRead (u.lanes.get l).mem a = memRead (s.lanes.get l).mem a)))

/-- Positions are keyed, answers are entered, superframes begin and blank channels are decided (R103, R123, R130, R141,
R156, R175, R136, R147, R190). At the start of a broadcast position that no late slot command marks, of a
transceiver in service that may key and is not busy, with a channel and room at the gate, a beacon of that ASN
leaves on that channel. At the start of a cluster position booked for a ticket whose cluster has targets missing,
its budget booked, a COMMAND frame of the cluster leaves on the booked channel. The acknowledgement field of an ECHO
frame that ended in the position before, with an answer detected, takes that frame out of what is expected and marks
its path as heard. A slot command that comes late to a transceiver in service marks the next position. The boundary
of a new superframe is remembered, leaves no booking of an earlier superframe and journals the STAGED, ARMED and
VERIFIED sets. The BLANK decision, not made before in this superframe, sets both bands up for the next: its current
BLANK and CLOSED sets are those decided for it before, where they were. -/
def Obligations.SlotsAndSuperframes : Prop :=
  (∀ (t a ch : Nat) (x : Fin 4) (s : State),
      a = asn (tick t s) →
      (isQ s x.val && a % 2 == 1) = false →
      radioUp s = true →
      inService s x.val = true →
      (xOf s x.val).lateAsn ≠ some a →
      (xOf s x.val).busy ≤ a →
      roleAt s x.val a = .broadcast →
      chanBcast (beaconsResume a (icuRaise (64 + x.val) (tick t s))) x.val a = some ch →
      beaconFits x.val a ch (icuRaise (64 + x.val) (tick t s)) = true →
      Runs (.slotPosition t x) s (fun u => ∃ f p, Out.radio x.val a ch f p ∈ u.out ∧
        (match f with | .beacon _ n _ _ _ _ _ _ _ _ _ _ => n = a | _ => False))) ∧
  (∀ (t : Nat) (x : Fin 4) (b : Booking) (k : Ticket) (s : State),
      (isQ s x.val && asn (tick t s) % 2 == 1) = false →
      radioUp s = true →
      inService s x.val = true →
      (xOf s x.val).lateAsn ≠ some (asn (tick t s)) →
      (xOf s x.val).busy ≤ asn (tick t s) →
      roleAt s x.val (asn (tick t s)) = .cluster →
      s.adm.bookings.find? (fun b => b.xcvr == x.val && b.asn == asn (tick t s) && !b.sent) = some b →
      ticketOf s b.ticket = some k →
      b.seg = none →
      missing k b.cluster ≠ [] →
      gateBooked (icuRaise (64 + x.val) (tick t s)) b.xcvr b.chan (b.asn / 256) = true →
      Runs (.slotPosition t x) s (fun u => ∃ f p, Out.radio b.xcvr b.asn b.chan f p ∈ u.out ∧
        (match f with | .command c _ _ _ _ _ _ _ _ _ => c = b.cluster | _ => False))) ∧
  (∀ (t : Nat) (x : Fin 4) (codes : List CodeObs) (e : Expect) (s : State),
      (xOf s x.val).expect.find? (fun e => e.last + 1 == asn (tick t s)) = some e →
      e.kind = .echo →
      e.func = 0 →
      detected codes ≠ [] →
      Runs (.ackField t x codes) s (fun u => (xOf u x.val).expect = (xOf s x.val).expect.filter (fun y => y != e) ∧
        (if e.alt then (clOf u e.cluster).hitAlt else (clOf u e.cluster).hitPri) = true)) ∧
  (∀ (t : Nat) (x : Fin 4) (s : State),
      inService s x.val = true →
      x.val < s.mac.xcvrs.length →
      Runs (.slotCommandLate t x) s (fun u => (xOf u x.val).lateAsn = some (asn (tick t s) + 1))) ∧
  (∀ (t : Nat) (s : State),
      s.mac.lastFrame < frame (tick t s) →
      Runs (.superframeBoundary t) s (fun u => u.mac.lastFrame = frame (tick t s) ∧ (∀ b, b ∈ u.adm.bookings → frame
        (tick t s) ≤ b.asn / 256) ∧ u.epoch.kept = (u.epoch.staged, u.epoch.armed, u.epoch.verified))) ∧
  (∀ (t : Nat) (s : State),
      ¬(s.mac.blank.a.base = frame (tick t s) + 1 ∧ s.mac.blank.b.base = frame (tick t s) + 1) →
      Runs (.blankDecision t) s (fun u => u.mac.blank.a.base = frame (tick t s) + 1 ∧ u.mac.blank.b.base = frame
        (tick t s) + 1 ∧ (s.mac.blank.a.base = frame (tick t s) → u.mac.blank.a.cur = s.mac.blank.a.next ∧
        u.mac.blank.a.closedCur = s.mac.blank.a.closedNext) ∧ (s.mac.blank.b.base = frame (tick t s) →
        u.mac.blank.b.cur = s.mac.blank.b.next ∧ u.mac.blank.b.closedCur = s.mac.blank.b.closedNext)))

/-- Shocks clear, echoes are asked for, paths swap, silent members are lost (R116, R145, R146, R147). SHOCKED clears 8
superframes after its declaration, and no probe of the node stays. ECHO_INSERT, for a cluster in use with members,
makes an echo due on each path that wants one. A swap that is due exchanges the serving path of a cluster in use,
counts, is due no more and sets sticky bit 65; a swap back that is due does the same but leaves the sticky bits. A
joined member not heard for its cluster's SUPERVISION becomes LOST. -/
def Obligations.LinkState : Prop :=
  (∀ (t n f k : Nat) (s : State),
      (nodeOf s n).shock = some (f, k) →
      f + 8 * Config.frameCycles ≤ max s.clk.fab t →
      Runs (.shockTimeout t n) s (fun u => (nodeOf u n).shock = none ∧ n ∉ u.mac.probes)) ∧
  (∀ (t : Nat) (c : Fin 256) (s : State),
      inUse s c.val = true →
      members s c.val ≠ [] →
      Runs (.echoInsert t c) s (fun u => (clOf u c.val).duePri = ((clOf s c.val).duePri || wantsEcho (tick t s)
        c.val false) ∧ (clOf u c.val).dueAlt = ((clOf s c.val).dueAlt || wantsEcho (tick t s) c.val true))) ∧
  (∀ (t : Nat) (c : Fin 256) (s : State),
      (clOf s c.val).swapDue = true →
      inUse s c.val = true →
      Runs (.pathSwap t c) s (fun u => (clOf u c.val).servingAlt = !(clOf s c.val).servingAlt ∧ (clOf u c.val).swaps
        = (clOf s c.val).swaps + 1 ∧ (clOf u c.val).swapDue = false ∧ u.dict.sticky.getLsbD 65 = true)) ∧
  (∀ (t : Nat) (c : Fin 256) (s : State),
      (clOf s c.val).backDue = true →
      inUse s c.val = true →
      Runs (.pathSwapBack t c) s (fun u => (clOf u c.val).servingAlt = !(clOf s c.val).servingAlt ∧ (clOf u
        c.val).swaps = (clOf s c.val).swaps + 1 ∧ (clOf u c.val).backDue = false ∧ u.dict.sticky = s.dict.sticky)) ∧
  (∀ (t n c : Nat) (s : State),
      dirCluster s n = some c →
      (nodeOf s n).joined = 1 →
      max (nodeOf s n).heardFab s.mac.restartAt + supervision s c ≤ max s.clk.fab t →
      Runs (.supervisionExpiry t n) s (fun u => (nodeOf u n).joined = 2))

/-- Uplink bursts are taken; nodes ask to join, are approved and removed (R149, R150, R151, R158, R159). A burst on a
transceiver in service, with a right FCS, of a member of a cluster in use, authentic, with a counter above the last
taken and not within 2^16 of 2^31, unlike the last four answered and with room for its events, moves the member's
counter and signal level, and its events of endpoint 5 enter the tracker's queue in order. A join request at slot
126 of a transceiver in an O3 or Q1 mode is held. With a right signature at slot 254, over an approved row with a
cluster, it names the row's node and its five parts are due. A request in JOIN_PENDING goes after 600 s, and no
other does. APPROVE_JOIN that no rule of the row and no open radio epoch refuses fills and approves the row, takes
the request out of JOIN_PENDING and is answered OK. REMOVE_NODE empties the row, forgets the node's link state and
is answered OK. -/
def Obligations.BurstsAndJoins : Prop :=
  (∀ (t n : Nat) (b : Burst) (s : State),
      inService s b.xcvr = true →
      (active s).isSome = true →
      b.fcsOk = true →
      b.cluster < 256 →
      inUse s b.cluster = true →
      memberNode s b.cluster b.member = some n →
      b.micOk = true →
      (nodeOf s n).upCounter.all (fun k => decide (k < b.counter)) = true →
      b.counter + 65536 < 2147483648 →
      (nodeOf s n).bursts.contains b.seq = false →
      s.trk.ingest.length + b.events.length ≤ 1024 →
      Runs (.eventBurst t b) s (fun u => (nodeOf u n).upCounter = some b.counter ∧ (nodeOf u n).rssi = b.rssi ∧
        u.trk.ingest = s.trk.ingest ++ (b.events.filter (fun e => e.endpoint == 5)).map (fun e =>
        { vertex := n, kind := e.kind, data := e.data, at_ := b.start - e.age * Config.msCycles, arrived := max s.clk.fab t }))) ∧
  (∀ (t a : Nat) (x : Fin 4) (ei no ke : Bytes) (sg : Int) (s : State),
      radioUp s = true →
      inService s x.val = true →
      (xMode s x.val = 7 ∨ xMode s x.val = 8) →
      a % 256 = 126 →
      Runs (.joinKey t x ei no ke a sg) s (fun u =>
        { xcvr := x.val, eui := fit 8 ei, nonce := no, key := ke, asn := a, node := none, eph := 0, own := [], sig := [], parts := [], waited := 0, rssi := sg }
        ∈ u.mac.joins)) ∧
  (∀ (t a n : Nat) (x : Fin 4) (ei no : Bytes) (j : Join) (s : State),
      s.mac.joins.find? (fun j => j.eui == fit 8 ei && j.nonce == no && j.xcvr == x.val && j.parts.isEmpty && j.asn
        / 256 == a / 256) = some j →
      radioUp s = true →
      a % 256 = 254 →
      euiRow s j.eui = some n →
      rNat (dirRow s n) 4 ≠ 0 →
      (dirCluster s n).isSome = true →
      Runs (.joinSig t x ei no a true) s (fun u => ∃ e o g, u.mac.joins = s.mac.joins.map (fun k => if k == j then
        { j with node := some n, eph := e, own := o, sig := g, parts := [(4, 0), (4, 1), (4, 2), (5, 0), (5, 1)] }
        else k))) ∧
  (∀ (t : Nat) (ei : Bytes) (s : State),
      Runs (.joinPendingExpiry t ei) s (fun u => u.mac.waiting = s.mac.waiting.filter (fun w => !(w.eui == fit 8 ei
        && decide (w.fab + 600 * Config.secCycles ≤ max s.clk.fab t))))) ∧
  (∀ (t sid : Nat) (h : Hdr) (args : List TVal) (s : State),
      passes 0x40610 [.octets 8, .octets 49, .int 3 0 8191, cU8, .int 2 0 31] false t h args sid s = true →
      dirBad s (argN args 2) [.bytes (argB args 0), .bytes (argB args 1), vN (argN args 3), vN (argN args 4), vN 1]
        = false →
      radioEpochOpen s = false →
      Runs (.approveJoin t h args) s (fun u => getRow u 0x40500 (argN args 2) = [.bytes (argB args 0), .bytes (argB
        args 1), vN (argN args 3), vN (argN args 4), vN 1] ∧ u.mac.waiting = s.mac.waiting.filter (fun w => w.eui !=
        argB args 0) ∧ Answered u sid h (okReply 0x40610))) ∧
  (∀ (t sid : Nat) (h : Hdr) (args : List TVal) (s : State),
      passes 0x40611 [.int 3 0 8191] false t h args sid s = true →
      Runs (.removeNode t h args) s (fun u => mget u.dict.store (okey 0x40500 (argN args 0)) = none ∧ mget
        u.mac.nodes (argN args 0) = none ∧ Answered u sid h (okReply 0x40611)))

/-- An epoch is opened, armed, switched and verified, or abandoned and cancelled (R180, R182, R187, R188, R184, R195).
EPOCH_OPEN in IDLE, with the time known and no other waiting, without an image or with one that is READY, is
accepted for the boundary of a commit and answered with its ASN. EPOCH_ARM in OPEN with every assigned node staged
and no switch ASN given arms the epoch for the earliest, 8 superframes ahead for a radio epoch and 4 for another,
with no node armed. At the switch ASN of an ARMED epoch it comes into force with its hash, its frozen content and
its segment part, and is SWITCHED, or IDLE where no node is assigned. 64 superframes after the switch ASN a SWITCHED
epoch is IDLE and the assigned nodes not verified are counted. EPOCH_ABANDON takes an OPEN epoch to IDLE, its number
to those abandoned and its nodes out of STAGED; an ARMED one, more than two superframes before its switch ASN, back
to OPEN with no node armed, CANCELLED payloads for it until 4 superframes after the switch ASN, a DISARM due to
every node that was armed, and sticky bit 97. The check within two superframes of the switch ASN does the same to a
radio epoch with an assigned node not armed, unless beacons had not resumed by then after a restart. CANCELLED
payloads end at their ASN. IMAGE_DISCARD empties a slot whose image no epoch names. -/
def Obligations.EpochLife : Prop :=
  (∀ (t sid : Nat) (h : Hdr) (args : List TVal) (s : State),
      passes 0x60300 [cU32] false t h args sid s = true →
      argN args 0 = 0 →
      timeQuality (opState t h sid s) ≠ 4 →
      s.epoch.state = 0 →
      s.epoch.openAt = none →
      Runs (.epochOpen t h args) s (fun u => u.epoch.openAt = some (applyAsn (tick t s), 0) ∧ u.epoch.opener =
        (caller t sid s).client ∧ Answered u sid h { okReply 0x60300 with applyAsn := applyAsn (tick t s) })) ∧
  (∀ (t sid : Nat) (h : Hdr) (args : List TVal) (s : State),
      passes 0x60300 [cU32] false t h args sid s = true →
      argN args 0 ≠ 0 →
      s.epoch.store.any (fun k => k.id == argN args 0 && k.state == 2) = true →
      timeQuality (opState t h sid s) ≠ 4 →
      s.epoch.state = 0 →
      s.epoch.openAt = none →
      Runs (.epochOpen t h args) s (fun u => u.epoch.openAt = some (applyAsn (tick t s), argN args 0) ∧ Answered u
        sid h { okReply 0x60300 with applyAsn := applyAsn (tick t s) })) ∧
  (∀ (t sid : Nat) (h : Hdr) (args : List TVal) (s : State),
      passes 0x60302 [cU64, .bool] false t h args sid s = true →
      argN args 0 = 0 →
      s.epoch.state = 1 →
      (assigned s).all (fun n => s.epoch.staged.contains n) = true →
      Runs (.epochArm t h args) s (fun u => u.epoch.state = 2 ∧ u.epoch.switchAsn = (frame (tick t s) + (if
        s.epoch.radio then 8 else 4)) * 256 ∧ u.epoch.armed = [] ∧ Answered u sid h (okReply 0x60302))) ∧
  (∀ (t : Nat) (s : State),
      s.epoch.state = 2 →
      s.epoch.switchAsn ≤ asn (tick t s) →
      Runs (.epochSwitch t) s (fun u => u.epoch.inForce = s.epoch.next ∧ u.epoch.hashInForce = s.epoch.hashNext ∧
        u.epoch.content = s.epoch.frozen ∧ u.epoch.segIn = s.epoch.segNext ∧ (u.epoch.state = 3 ∨ (assigned s = [] ∧
        u.epoch.state = 0)))) ∧
  (∀ (t : Nat) (s : State),
      s.epoch.state = 3 →
      s.epoch.switchAsn + 64 * 256 ≤ asn (tick t s) →
      Runs (.epochVerifyTimeout t) s (fun u => u.epoch.state = 0 ∧ u.epoch.mismatched = ((assigned s).filter (fun n
        => !s.epoch.verified.contains n)).length)) ∧
  (∀ (t sid : Nat) (h : Hdr) (args : List TVal) (s : State),
      passes 0x60303 [] false t h args sid s = true →
      s.epoch.state = 1 →
      Runs (.epochAbandon t h args) s (fun u => u.epoch.state = 0 ∧ s.epoch.next ∈ u.epoch.abandoned ∧
        u.epoch.staged = [] ∧ Answered u sid h (okReply 0x60303))) ∧
  (∀ (t sid : Nat) (h : Hdr) (args : List TVal) (s : State),
      passes 0x60303 [] false t h args sid s = true →
      s.epoch.state = 2 →
      asn (tick t s) + 512 < s.epoch.switchAsn →
      Runs (.epochAbandon t h args) s (fun u => u.epoch.state = 1 ∧ (u.epoch.cancel).map (fun c => (c.until_,
        c.epoch, c.switchAsn)) = some (s.epoch.switchAsn + 1024, s.epoch.next, s.epoch.switchAsn) ∧ (∀ n, n ∈
        s.epoch.armed → mget u.epoch.disarm n = some s.epoch.next) ∧ u.epoch.armed = [] ∧ u.dict.sticky.getLsbD 97 =
        true)) ∧
  (∀ (t : Nat) (s : State),
      s.epoch.state = 2 →
      s.epoch.radio = true →
      s.epoch.resume = 0 →
      s.epoch.switchAsn ≤ asn (tick t s) + 512 →
      asn (tick t s) < s.epoch.switchAsn →
      (assigned s).all (fun n => s.epoch.armed.contains n) = false →
      Runs (.epochPreswitchCheck t) s (fun u => u.epoch.state = 1 ∧ (u.epoch.cancel).map (fun c => (c.until_,
        c.epoch, c.switchAsn)) = some (s.epoch.switchAsn + 1024, s.epoch.next, s.epoch.switchAsn) ∧ (∀ n, n ∈
        s.epoch.armed → mget u.epoch.disarm n = some s.epoch.next) ∧ u.epoch.armed = [] ∧ u.dict.sticky.getLsbD 97 =
        true)) ∧
  (∀ (t : Nat) (c : Cancelled) (s : State),
      s.epoch.cancel = some c →
      c.until_ ≤ asn (tick t s) →
      Runs (.cancelledPayloadEnd t) s (fun u => u.epoch.cancel = none)) ∧
  (∀ (t sid : Nat) (h : Hdr) (args : List TVal) (s : State),
      passes 0x60401 [.int 2 0 1] false t h args sid s = true →
      imageNamed s (lget s.epoch.store (argN args 0) NodeImage.init).id = false →
      argN args 0 < s.epoch.store.length →
      Runs (.imageDiscard t h args) s (fun u => lget u.epoch.store (argN args 0) NodeImage.init = NodeImage.init ∧
        Answered u sid h (okReply 0x60401)))

/-- A track begins, is kept fresh, coasts, ends and is released (R201, R202, R204, R205, R209, R203). With no track in
the table, a fresh ENTER at a lantern, while a head-end has enabled tracking, leaves the ingest queue and starts a
track in row 0 at that lantern, with the event's time and class and one event, and counts in the lantern's running
count. Whatever the oldest event is, it leaves the ingest queue and counts among the second's events. A live, moving
track whose only frame has passed the midpoint of its times since it was built has no frame left that was built
before now. A TENTATIVE track with no second event for 10 s, a COASTING one without an event for COAST_LIMIT and a
HANDED one 5 s past its predicted time at the boundary become ENDED; a CONFIRMED one that has missed a lantern of
its path is COASTING; an ENDED row is FREE after 120 s, with its TSEQ and no path. -/
def Obligations.TrackLife : Prop :=
  (∀ (t n : Nat) (p : Presence) (r : List Presence) (s : State),
      s.trk.ingest = p :: r →
      getC s 0x70100 p.vertex 0 = 1 →
      p.vertex < 8192 →
      p.kind = 1 →
      p.arrived ≤ p.at_ + getN s 0x70132 * Config.msCycles →
      getB s 0x70135 = true →
      s.trk.tracks = [] →
      n = 0 →
      Runs (.presenceEventIngest t) s (fun u => u.trk.ingest = r ∧ (trackOf u n).vertex = p.vertex ∧ (trackOf u
        n).lastAt = p.at_ ∧ (trackOf u n).cls = evClass p ∧ (trackOf u n).events = 1 ∧ mgetD u.trk.nowCount (p.vertex
        * 4 + evClass p) 0 = mgetD s.trk.nowCount (p.vertex * 4 + evClass p) 0 + 1)) ∧
  (∀ (t : Nat) (p : Presence) (r : List Presence) (s : State),
      s.trk.ingest = p :: r →
      Runs (.presenceEventIngest t) s (fun u => u.trk.ingest = r ∧ u.trk.secEvents = s.trk.secEvents + 1)) ∧
  (∀ (t n : Nat) (f : LastFrame) (e : Nat × Nat) (s : State),
      isLive (trackOf s n) = true →
      (trackOf s n).speed ≠ 0 →
      (trackOf s n).frames = [f] →
      f.entries.getLast? = some e →
      f.speed ≠ 0 →
      f.built < f.eta0 + travelAt f.speed e.2 / 2 →
      f.eta0 + travelAt f.speed e.2 / 2 ≤ max s.clk.fab t →
      Runs (.midpointRefresh t n) s (fun u => ∀ g, g ∈ (trackOf u n).frames → g.built = max s.clk.fab t)) ∧
  (∀ (t n : Nat) (s : State),
      (trackOf s n).state = .tentative →
      (trackOf s n).lastAt + 10 * Config.secCycles ≤ max s.clk.fab t →
      Runs (.tentativeTimeout t n) s (fun u => (trackOf u n).state = .ended ∧ (trackOf u n).endedAt = max s.clk.fab
        t)) ∧
  (∀ (t n : Nat) (s : State),
      (trackOf s n).state = .confirmed →
      1 ≤ missedOf (tick t s) (trackOf s n) →
      Runs (.coastStart t n) s (fun u => (trackOf u n).state = .coasting)) ∧
  (∀ (t n : Nat) (s : State),
      (trackOf s n).state = .coasting →
      (trackOf s n).lastAt + getN s 0x70131 * Config.secCycles ≤ max s.clk.fab t →
      Runs (.coastLimitExpiry t n) s (fun u => (trackOf u n).state = .ended)) ∧
  (∀ (t n v d : Nat) (s : State),
      (trackOf s n).state = .handed →
      (trackOf s n).boundary = some (v, d) →
      (trackOf s n).lastAt + travel (tick t s) (trackOf s n) d + 5 * Config.secCycles ≤ max s.clk.fab t →
      Runs (.handedEnd t n) s (fun u => (trackOf u n).state = .ended)) ∧
  (∀ (t n : Nat) (s : State),
      (trackOf s n).state = .ended →
      (trackOf s n).endedAt + 120 * Config.secCycles ≤ max s.clk.fab t →
      Runs (.endedRelease t n) s (fun u => (trackOf u n).state = .free ∧ (trackOf u n).tseq = (trackOf s n).tseq ∧
        (trackOf u n).branches = []))

/-- Tracks are handed off and boundaries matched (R217, R218, R219). With a route to its sender, a HANDOFF not answered
before, over a MATCHED boundary, with tracking enabled and a row free, is answered with status 0 or 1 in class U and
the answer is remembered; with status 0 the track is in that row and names the sender's module and track. The repeat
of a HANDOFF answered before gets the same answer and changes no track. An accepting HANDOFF_ACK makes the track
HANDED with no hand-off open. A hand-off not answered for 100 ms is sent again with its HSEQ, up to three times,
given a route; then its boundary vertex is a dead end for the track, whose hand-off is over where its path still
ends there. A complete BOUNDARY_LIST of one part replaces its sender's. Ten seconds after its neighbour's handshake
without a list a row is UNMATCHED and condition 113 holds. What is said to be sent is sent while a lane is active. -/
def Obligations.HandOffs : Prop :=
  (∀ (t ve n : Nat) (m : HandoffMsg) (s : State),
      (s.trk.answered.find? (fun a => a.1 == m.source && a.2.1 == m.hseq)).isNone = true →
      (boundRows s).find? (fun v => getC s 0x70100 v 15 == m.source && getC s 0x70100 v 16 == m.bkey && boundState s
        v == 2) = some ve →
      getB s 0x70135 = true →
      freeTrack s = some n →
      (route s m.source).isSome = true →
      Runs (.handoff t m) s (fun u => ∃ k st rest, u.trk.answered = (m.source, m.hseq, k, st) :: rest ∧ st ≤ 1 ∧
        ((active s).isSome = true → TrunkSent u m.source 1 (.handoffAck (modId s) m.hseq k st)) ∧ (st = 0 → k = n ∧
        (trackOf u n).fromModule = m.source ∧ (trackOf u n).fromTrack = m.track))) ∧
  (∀ (t : Nat) (m : HandoffMsg) (an : Nat × Nat × Nat × Nat) (s : State),
      s.trk.answered.find? (fun a => a.1 == m.source && a.2.1 == m.hseq) = some an →
      (route s m.source).isSome = true →
      Runs (.handoff t m) s (fun u => u.trk = s.trk ∧ ((active s).isSome = true → TrunkSent u m.source 1
        (.handoffAck (modId s) m.hseq an.2.2.1 an.2.2.2)))) ∧
  (∀ (t src q tr st n : Nat) (k : Track) (s : State),
      s.trk.tracks.find? (fun p => handedTo s src q p.2) = some (n, k) →
      st ≤ 1 →
      Runs (.handoffAck t src q tr st) s (fun u => (trackOf u n).state = .handed ∧ (trackOf u n).handoff = none)) ∧
  (∀ (t q n : Nat) (k : Track) (h : Handing) (s : State),
      s.trk.tracks.find? (fun p => match p.2.handoff with | some x => x.hseq == q | none => false) = some (n, k) →
      k.handoff = some h →
      h.tries < 3 →
      h.at_ + 100 * Config.msCycles ≤ max s.clk.fab t →
      (route s (getC s 0x70100 h.vertex 15)).isSome = true →
      Runs (.handoffRetry t q) s (fun u => (trackOf u n).handoff = some
        { h with tries := h.tries + 1, at_ := max s.clk.fab t } ∧ ((active s).isSome = true → ∃ m, m.hseq = q ∧
        m.track = n ∧ TrunkSent u (getC s 0x70100 h.vertex 15) 1 (.handoff m)))) ∧
  (∀ (t q n : Nat) (k : Track) (h : Handing) (s : State),
      s.trk.tracks.find? (fun p => match p.2.handoff with | some x => x.hseq == q | none => false) = some (n, k) →
      trackOf s n = k →
      k.handoff = some h →
      3 ≤ h.tries →
      h.at_ + 100 * Config.msCycles ≤ max s.clk.fab t →
      Runs (.handoffRetry t q) s (fun u => h.vertex ∈ (trackOf u n).dead ∧ (k.boundary.map (fun b => b.1) = some
        h.vertex → (trackOf u n).handoff = none))) ∧
  (∀ (t src parts : Nat) (es : List (Nat × Nat × Nat)) (s : State),
      parts ≤ 1 →
      Runs (.boundaryList t src 0 parts es) s (fun u => mget u.trk.lists src = some es ∧ mget u.trk.buffers src =
        none)) ∧
  (∀ (t v f : Nat) (b : Boundary) (s : State),
      mget s.trk.bounds v = some b →
      b.since = some f →
      f + 10 * Config.secCycles ≤ max s.clk.fab t →
      Runs (.boundaryUnmatchedTimeout t v) s (fun u => (mget u.trk.bounds v).map (fun c => c.state) = some 3 ∧
        u.dict.live.getLsbD 113 = true))

/-- Traffic history is aged and cleared; lighting classes come into force (R220, R221, R222, R223, R229). The end of a
civil hour and of a civil week start the running counts of the new one empty, and a week end raises HIST_WEEKS by
one, up to its maximum. At its boundary a zone's override, or its policy selection, comes into force, and the zone's
class and source are those that the order of R222 gives then; so they are when a policy selection in force has
expired, which then goes. A new local hour gives each zone its expected traffic for that hour. HIST_CLEAR sets
HIST_WEEKS to 0, empties the HISTOGRAM and TURNS rows of the vertices of a zone, or of all, and is answered OK. -/
def Obligations.HistoryAndClasses : Prop :=
  (∀ (t : Nat) (s : State),
      civilHour (tick t s) ≠ s.trk.hour →
      Runs (.historyHourEnd t) s (fun u => u.trk.hour = civilHour (tick t s) ∧ u.trk.passages = [] ∧ u.trk.nowCount
        = [])) ∧
  (∀ (t : Nat) (s : State),
      civilWeek (tick t s) ≠ s.trk.week →
      Runs (.turnsWeekEnd t) s (fun u => u.trk.week = civilWeek (tick t s) ∧ u.trk.turnsNow = [] ∧ getN u 0x70201 =
        min 65535 (getN s 0x70201 + 1))) ∧
  (∀ (t a : Nat) (z : Fin 256) (s : State),
      (zoneOf s z.val).change = some a →
      a ≤ asn (tick t s) →
      Runs (.classApply t z) s (fun u => (zoneOf u z.val).change = none ∧ (zoneOf u z.val).ovrNow = overrideOf s
        z.val ∧ ((zoneOf u z.val).cls, (zoneOf u z.val).source) = chooseClass u z.val)) ∧
  (∀ (t a : Nat) (z : Fin 256) (s : State),
      (zoneOf s z.val).policyChange = some a →
      a ≤ asn (tick t s) →
      Runs (.classApply t z) s (fun u => (zoneOf u z.val).policyChange = none ∧ (zoneOf u z.val).policyNow = (zoneOf
        s z.val).policy ∧ ((zoneOf u z.val).cls, (zoneOf u z.val).source) = chooseClass u z.val)) ∧
  (∀ (t : Nat) (z : Fin 256) (p : Nat × Nat × Nat) (s : State),
      (zoneOf s z.val).policyNow = some p →
      p.2.1 ≤ max s.clk.fab t →
      Runs (.classHoldExpiry t z) s (fun u => (zoneOf u z.val).policyNow = none ∧ ((zoneOf u z.val).cls, (zoneOf u
        z.val).source) = chooseClass u z.val)) ∧
  (∀ (t : Nat) (s : State),
      civilHour (tick t s) ≠ s.trk.adaptHour →
      Runs (.adaptiveClassChange t) s (fun u => u.trk.adaptHour = civilHour (tick t s) ∧ ∀ z, z < 256 → (zoneOf u
        z).expected = expectedOf (tick t s) z (hourOfWeek (tick t s) (taiSec (tick t s))))) ∧
  (∀ (t sid : Nat) (h : Hdr) (args : List TVal) (s : State),
      passes 0x70210 [cU8] false t h args sid s = true →
      Runs (.histClear t h args) s (fun u => getN u 0x70201 = 0 ∧ (∀ v, v < 4294967296 → argN args 0 = 255 ∨ zoneAt
        s v = argN args 0 → mget u.dict.store (okey 0x70202 v) = none) ∧ (∀ r, r < 4294967296 → argN args 0 = 255 ∨
        zoneAt s (r / 7) = argN args 0 → mget u.dict.store (okey 0x70200 r) = none) ∧ Answered u sid h (okReply
        0x70210)))

/-- Phases come and go; periods and saves (R234, R235, R238, R246, R247, R248). While a lane runs, a crossing that the
samples show at an instant valid by its interval from the last valid one is the last of its phase, which is present
then: one that was, and an ABSENT one at its third valid crossing in a row. Without one for ZC_TIMEOUT a phase is
ABSENT. When a measurement period is due to close, each running lane's samples are through its pipeline and added to
its billing values, its live quantities are those of the period's samples where it has any, and the next period
begins with none. With an active lane, a periodic save that is due fills the next slot of each running lane's ring,
not FINAL, with the lane's billing values, and the next is due a second later. Under a power-fail warning with an
active lane, 5 ms after the last FINAL save another fills the next slot of each running lane's ring, FINAL. -/
def Obligations.MeterPhases : Prop :=
  (∀ (t z b : Nat) (x : Fin 3) (low : List Int) (p : Phase) (s : State),
      crossAt (max s.clk.fab t) low = some z →
      s.met.phases.length = 3 →
      lget s.met.phases x.val Phase.init = p →
      p.base = some b →
      zcLow ≤ z - b →
      z - b ≤ zcHigh →
      (s.lanes.a.running = true ∨ s.lanes.b.running = true) →
      p.absent = true →
      p.run = 2 →
      Runs (.zeroCrossing t ⟨x, low⟩) s (fun u => phaseAbsent u x.val = false ∧ (lget u.met.phases x.val
        Phase.init).last = z ∧ (lget u.met.phases x.val Phase.init).base = some z)) ∧
  (∀ (t z b : Nat) (x : Fin 3) (low : List Int) (p : Phase) (s : State),
      crossAt (max s.clk.fab t) low = some z →
      s.met.phases.length = 3 →
      lget s.met.phases x.val Phase.init = p →
      p.base = some b →
      zcLow ≤ z - b →
      z - b ≤ zcHigh →
      (s.lanes.a.running = true ∨ s.lanes.b.running = true) →
      p.absent = false →
      Runs (.zeroCrossing t ⟨x, low⟩) s (fun u => phaseAbsent u x.val = false ∧ (lget u.met.phases x.val
        Phase.init).last = z ∧ (lget u.met.phases x.val Phase.init).base = some z)) ∧
  (∀ (t : Nat) (x : Fin 3) (p : Phase) (s : State),
      s.met.phases.length = 3 →
      lget s.met.phases x.val Phase.init = p →
      p.absent = false →
      p.last + getN s 0x80104 * Config.msCycles < max s.clk.fab t →
      Runs (.zcTimeout t x) s (fun u => phaseAbsent u x.val = true)) ∧
  (∀ (t : Nat) (a b : Samples) (s : State),
      (s.lanes.a.running = true ∨ s.lanes.b.running = true) →
      periodDue (tick t s) = true →
      Runs (.measurementPeriodEnd t a b) s (fun u => u.met.due = false ∧ u.met.began = max s.clk.fab t ∧ ∀ l,
        (s.lanes.get l).running = true → (u.met.lanes.get l).bill = ((closeInterval a b (tick t s)).met.lanes.get
        l).bill ∧ (u.met.lanes.get l).wave = List.replicate 11 [] ∧ (lget ((closeInterval a b (tick t
        s)).met.lanes.get l).wave 0 [] ≠ [] → (u.met.lanes.get l).live = liveOf (closeInterval a b (tick t s))
        ((closeInterval a b (tick t s)).met.lanes.get l).wave (freqOf (closeInterval a b (tick t s)) ((closeInterval a
        b (tick t s)).met.lanes.get l).live.freq) (match l with | .A => a.hot | .B => b.hot)))) ∧
  (∀ (t : Nat) (a b : Samples) (s : State),
      (active s).isSome = true →
      s.met.nextSave ≤ max s.clk.fab t →
      Runs (.periodicSave t a b) s (fun u => u.met.saveSeq = ((s.met.saveSeq + 1) % 4294967296) ∧ u.met.lastSave =
        max s.clk.fab t ∧ u.met.nextSave = s.met.nextSave + Config.secCycles ∧ ∀ l, (s.lanes.get l).running = true →
        (mget (u.met.lanes.get l).ring (((s.met.saveSeq + 1) % 4294967296) % 16)).map (fun x => (x.seq, x.final,
        x.acc)) = some (((s.met.saveSeq + 1) % 4294967296), false, (u.met.lanes.get l).bill))) ∧
  (∀ (t : Nat) (a b : Samples) (s : State),
      s.power.warning = true →
      (active s).isSome = true →
      (s.lanes.a.running = true ∨ s.lanes.b.running = true) →
      s.met.lastFinal + 5 * Config.msCycles ≤ max s.clk.fab t →
      Runs (.finalSaveRepeat t a b) s (fun u => u.met.saveSeq = ((s.met.saveSeq + 1) % 4294967296) ∧ u.met.lastFinal
        = max s.clk.fab t ∧ ∀ l, (s.lanes.get l).running = true → (mget (u.met.lanes.get l).ring (((s.met.saveSeq + 1)
        % 4294967296) % 16)).map (fun x => (x.seq, x.final, x.acc)) = some (((s.met.saveSeq + 1) % 4294967296), true,
        (u.met.lanes.get l).bill)))

/-- CAL_MEASURE measures inside a sequence; the battery domain meters while the lanes are stopped (R242, R255, R250,
R251). A CAL_MEASURE that nothing refuses, in an open sequence that holds lock group 19, starts a measurement with
its phase, step and references, which ends after its length and keeps what is left of the lease; no sequence
changes. A gain step (1) that ends close enough to its references ends the measurement, gives the voltage channel's
shadow of CAL_MAIN the gain of R242 and the lease what was left from now on, and changes no stored row. With both
lanes stopped, main power absent, battery metering enabled, neither cell ABSENT, budget left and metering not
running, battery metering runs, with its interval unchanged. While it runs, a window takes one second of the budget
and adds the four corrected currents to the interval. When the budget is spent metering stops, its interval is
marked and condition 130 holds. BATT_MET_RENEW sets the seconds used to 0 and is answered OK. -/
def Obligations.CalibrationAndBattery : Prop :=
  (∀ (t sid : Nat) (h : Hdr) (args : List TVal) (s : State) (q : Sequence),
      arrives 3 false h sid s = true →
      h.tclass = 0 →
      (execCheck 0x80210 calShape false h args sid (caller t sid s) (opState t h sid s)).isNone = true →
      mget (opState t h sid s).ib.seqs h.handle = some q →
      h.handle ≠ 0 →
      q.sid = sid →
      q.commit = none →
      q.groups.contains 19 = true →
      (argRange 0x80210 0 calRange args).isNone = true →
      (calBad s args).isNone = true →
      Runs (.calMeasure t h args) s (fun u => (∃ j, u.met.cal = some j ∧ j.sid = sid ∧ j.reqSeq = h.seq ∧ j.handle =
        h.handle ∧ j.phase = argN args 0 - 1 ∧ j.step = argN args 1 ∧ j.vref = argN args 2 ∧ j.iref = argN args 3 ∧
        j.ends = max s.clk.fab t + argN args 5 * Config.secCycles ∧ j.leaseLeft = q.leaseEnd - max s.clk.fab t) ∧
        u.ib.seqs = (opState t h sid s).ib.seqs)) ∧
  (∀ (t v i freq : Nat) (angle voff ioff : Int) (j : CalJob) (q : Sequence) (s : State),
      s.met.cal = some j →
      j.ends ≤ max s.clk.fab t →
      mget s.ib.seqs j.handle = some q →
      j.step = 1 →
      j.phase < 3 →
      q.restores = [] →
      (shadowRow q s 0x80200 j.phase).length = 7 →
      (calFar j v i angle).isNone = true →
      Runs (.calMeasureDone t v i angle freq voff ioff) s (fun u => u.met.cal = none ∧ (mget u.ib.seqs j.handle).map
        (fun y => (y.leaseEnd, rNat (shadowRow y u 0x80200 j.phase) 0)) = some (max s.clk.fab t + j.leaseLeft, calGain
        j.vref v) ∧ u.dict.store = s.dict.store)) ∧
  (∀ (t : Nat) (s : State),
      s.lanes.a.running = false →
      s.lanes.b.running = false →
      s.power.mainOn = false →
      getB s 0x80107 = true →
      getC s 0x00410 0 0 ≠ 3 →
      getC s 0x00410 1 0 ≠ 3 →
      battSpent s = false →
      s.met.batt.running = false →
      Runs (.battMetStart t) s (fun u => u.met.batt = { s.met.batt with running := true })) ∧
  (∀ (t : Nat) (rms : List Nat) (vs : List Bool) (s : State),
      s.met.batt.running = true →
      Runs (.battWindow t rms vs) s (fun u => getN u 0x80063 = getN s 0x80063 + 1 ∧ u.met.batt.running = true ∧
        u.met.batt.amps = addList s.met.batt.amps ((List.range 4).map (fun x => fallRms (tick t s) (x + 3) (cN rms
        x))))) ∧
  (∀ (t : Nat) (s : State),
      s.met.batt.running = true →
      battSpent s = true →
      Runs (.battBudgetSpent t) s (fun u => u.met.batt.running = false ∧ u.met.batt.hit = true ∧ u.dict.live.getLsbD
        130 = true)) ∧
  (∀ (t sid : Nat) (h : Hdr) (args : List TVal) (s : State),
      passes 0x80220 [] false t h args sid s = true →
      Runs (.battMetRenew t h args) s (fun u => getN u 0x80063 = 0 ∧ Answered u sid h (okReply 0x80220)))

/-- The stage is driven by complete sets, by the last one, or by the safe light (R261, R263, R266, R269). At the
boundary of a new period with a complete set from lanes that drive, equal where both deliver one, and no slice under
test, the stage's set is the one computed from the state after the checks of the period that ended; the lit cycles
of R261 follow from it and the carries, none where a clamp holds the switch closed; the safe light is off. While no
lane is active and the unit is not TAMPERED, the set stays, or is the safe-light set once the safe light is on. 20
ms without a set turns the safe light on with its set. A control tick that is due raises a string's R(T) by at most
0.1 % and the power cap by at most 0.48 % of its value. -/
def Obligations.LightSets : Prop :=
  (∀ (t ha hb : Nat) (xs : List StringSample) (s : State),
      periodNow (tick t s) ≠ s.led.period →
      lanesDrive s = true →
      ((standby s).isNone ∨ ha = hb) →
      s.test.slice = none →
      Runs (.ledPeriodBoundary t true ha hb xs) s (fun u => u.led.period = periodNow (tick t s) ∧ u.led.set =
        laneSet (updLed (fun d =>
        { d with period := periodNow (tick t s), second := taiSec (tick t s), index := halfMs (tick t s) % 2000 })
        (checkPeriod xs (tick t s))) ∧ u.led.safeOn = false ∧ u.led.lastSet = max s.clk.fab t ∧ u.led.lit = ((laneSet
        (updLed (fun d =>
        { d with period := periodNow (tick t s), second := taiSec (tick t s), index := halfMs (tick t s) % 2000 })
        (checkPeriod xs (tick t s)))).duty.zipWith litOf s.led.acc).mapIdx (fun i x => (litStart i, if (strOf u (i /
        24)).clamped.getLsbD (i % 24) then 0 else x.1)))) ∧
  (∀ (t ha hb : Nat) (xs : List StringSample) (s : State),
      periodNow (tick t s) ≠ s.led.period →
      (active s).isNone = true →
      isTampered s = false →
      Runs (.ledPeriodBoundary t true ha hb xs) s (fun u => u.led.period = periodNow (tick t s) ∧ u.led.safeOn =
        s.led.safeOn ∧ u.led.lastSet = s.led.lastSet ∧ (s.led.safeOn = false → u.led.set = s.led.set) ∧ (s.led.safeOn
        = true → u.led.set = safeSet (checkPeriod xs (tick t s))))) ∧
  (∀ (t : Nat) (s : State),
      s.led.safeOn = false →
      s.led.lastSet + 20 * Config.msCycles ≤ max s.clk.fab t →
      Runs (.safeLightTimeout t) s (fun u => u.led.safeOn = true ∧ u.led.set = safeSet s)) ∧
  (∀ (t : Nat) (xs : List StringSample) (s : State),
      s.led.ctrlAt + 100 * Config.msCycles ≤ max s.clk.fab t →
      Runs (.ledControlTick t xs) s (fun u => u.led.ctrlAt = max s.clk.fab t ∧ u.led.cap ≤ s.led.cap * 10048 / 10000
        ∧ ∀ k, k < 4 → (strOf u k).rt ≤ (strOf s k).rt + 1000))

/-- Pads, clamps and string faults act on the string, and a retest releases them (R267, R268, R271, R272, R274). A lit
string whose pad reading has not changed for 60 s has its sensor in fault and keeps its code. The comparator
switches a string off at 127 °C, with sticky bit 145, and below 115 °C gives it back the code of the set, or 0 while
the supply is down or the string in fault. A clamp above 16 V, with the supply up, holds its switch closed and marks
its position faulty, as OPEN with sticky bit 146 where it was not; no other string changes. With the supply up, a
string whose current has been missing for 10 ms is in fault, off, with sticky bit 148; one that has been out of
compliance for 10 ms keeps its code and sets sticky bit 147. LED_RETEST releases a string's faults and clamps and
begins its 2 s of test light; at their end the test light is over and the marks stay. -/
def Obligations.LedFaults : Prop :=
  (∀ (t : Nat) (k : Fin 4) (s : State),
      s.led.strings.length = 4 →
      (strOf s k.val).code ≠ 0 →
      (strOf s k.val).padAt + 60 * Config.secCycles ≤ max s.clk.fab t →
      Runs (.padSensorStuck t k) s (fun u => (strOf u k.val).sensorBad = true ∧ (strOf u k.val).code = (strOf s
        k.val).code)) ∧
  (∀ (t : Nat) (k : Fin 4) (pad : Int) (s : State),
      s.led.strings.length = 4 →
      (strOf s k.val).hwCut = false →
      1270 ≤ pad →
      Runs (.hwOvertempCut t k pad) s (fun u => (strOf u k.val).hwCut = true ∧ (strOf u k.val).code = 0 ∧
        u.dict.sticky.getLsbD 145 = true)) ∧
  (∀ (t : Nat) (k : Fin 4) (pad : Int) (s : State),
      s.led.strings.length = 4 →
      (strOf s k.val).hwCut = true →
      pad < 1150 →
      Runs (.hwOvertempRelease t k pad) s (fun u => (strOf u k.val).hwCut = false ∧ (strOf u k.val).code = if ledUp
        s && !(strOf s k.val).fault then lget s.led.set.code k.val 0 else 0)) ∧
  (∀ (t v : Nat) (k : Fin 4) (p : Fin 24) (s : State),
      s.led.strings.length = 4 →
      ledUp s = true →
      16000 < v →
      Runs (.bypassClamp t k p v) s (fun u => (strOf u k.val).clamped.getLsbD p.val = true ∧ (strOf u
        k.val).faulty.getLsbD p.val = true ∧ ((strOf s k.val).faulty.getLsbD p.val = false → (strOf u
        k.val).opens.getLsbD p.val = true ∧ u.dict.sticky.getLsbD 146 = true) ∧ ∀ j, j ≠ k.val → strOf u j = strOf s
        j)) ∧
  (∀ (t f : Nat) (k : Fin 4) (s : State),
      s.led.strings.length = 4 →
      ledUp s = true →
      (strOf s k.val).fault = false →
      (strOf s k.val).openSince = some f →
      f + 10 * Config.msCycles ≤ max s.clk.fab t →
      Runs (.stringCurrentFault t k) s (fun u => (strOf u k.val).fault = true ∧ (strOf u k.val).code = 0 ∧
        u.dict.sticky.getLsbD 148 = true)) ∧
  (∀ (t f : Nat) (k : Fin 4) (s : State),
      s.led.strings.length = 4 →
      ledUp s = true →
      (strOf s k.val).fault = false →
      (strOf s k.val).openSince = none →
      (strOf s k.val).complSince = some f →
      f + 10 * Config.msCycles ≤ max s.clk.fab t →
      (strOf s k.val).complTold = false →
      Runs (.stringCurrentFault t k) s (fun u => (strOf u k.val).fault = false ∧ (strOf u k.val).code = (strOf s
        k.val).code ∧ u.dict.sticky.getLsbD 147 = true)) ∧
  (∀ (t sid : Nat) (h : Hdr) (args : List TVal) (s : State),
      passes 0x90220 [.int 2 0 3] false t h args sid s = true →
      s.led.strings.length = 4 →
      Runs (.ledRetest t h args) s (fun u => (strOf u (argN args 0)).fault = false ∧ (strOf u (argN args 0)).faulty
        = 0 ∧ (strOf u (argN args 0)).clamped = 0 ∧ (strOf u (argN args 0)).retest = some (max s.clk.fab t + 2 *
        Config.secCycles) ∧ Answered u sid h (okReply 0x90220))) ∧
  (∀ (t f : Nat) (k : Fin 4) (s : State),
      s.led.strings.length = 4 →
      (strOf s k.val).retest = some f →
      f ≤ max s.clk.fab t →
      Runs (.ledRetestEnd t k) s (fun u => (strOf u k.val).retest = none ∧ (strOf u k.val).faulty = (strOf s
        k.val).faulty ∧ (strOf u k.val).fault = (strOf s k.val).fault))

/-- Flowstone engines start, stop, take triggers and tick (R275, R276, R277, R278, R279). FLS_START with an OWN that the
serving lane can start starts the engine of each lane that computes, where that lane can: its program loaded, its
own and mask OWN, all else as at reset, running; it is answered OK. With an OWN that is empty or overlaps a running
engine's it is answered RANGE and changes no engine. FLS_STOP makes the engine idle and FLS_TRIGGER sets its trigger
bits on each lane that computes; both are answered OK. By the registers of a lane, and a core other than a policy
core: CTRL starts an engine that does not run with the OWN written, or puts it into FAULT code 1; STOP makes it
idle; TRIG sets bits; PROG is written while STATE is 00b. PROG while it is not, or by a policy core, answers with a
bus error and changes no engine. A tick runs every engine of the lanes that compute by one tick. -/
def Obligations.Flowstone : Prop :=
  (∀ (t sid : Nat) (h : Hdr) (args : List TVal) (s : State),
      passes 0x90210 [.int 2 0 7] false t h args sid s = true →
      ownBad (servedBy s) s (argN args 0) (BitVec.ofNat 4 (getC s 0x90200 (argN args 0) 0)) = false →
      Runs (.flsStart t h args) s (fun u => (∀ l, consumes l s = true → (s.lanes.get l).engines.length = 8 → ownBad
        l s (argN args 0) (BitVec.ofNat 4 (getC s 0x90200 (argN args 0) 0)) = false → engOf l u (argN args 0) =
        { Engine.init with own := (BitVec.ofNat 4 (getC s 0x90200 (argN args 0) 0)), mask := (BitVec.ofNat 4 (getC s 0x90200 (argN args 0) 0)), state := 1, prog := (engOf l (engLoad l (argN args 0) s) (argN args 0)).prog })
        ∧ Answered u sid h (okReply 0x90210))) ∧
  (∀ (t sid : Nat) (h : Hdr) (args : List TVal) (s : State),
      passes 0x90210 [.int 2 0 7] false t h args sid s = true →
      ownBad (servedBy s) s (argN args 0) (BitVec.ofNat 4 (getC s 0x90200 (argN args 0) 0)) = true →
      Runs (.flsStart t h args) s (fun u => (∀ l, (u.lanes.get l).engines = (s.lanes.get l).engines) ∧ Answered u
        sid h { rRange 0x90210 0 with obj := 0x90210 })) ∧
  (∀ (t sid : Nat) (h : Hdr) (args : List TVal) (s : State),
      passes 0x90211 [.int 2 0 7] false t h args sid s = true →
      Runs (.flsStop t h args) s (fun u => (∀ l, consumes l s = true → (s.lanes.get l).engines.length = 8 → (engOf l
        u (argN args 0)).state = 0 ∧ (engOf l u (argN args 0)).prog = (engOf l s (argN args 0)).prog) ∧ Answered u sid
        h (okReply 0x90211))) ∧
  (∀ (t sid : Nat) (h : Hdr) (args : List TVal) (s : State),
      passes 0x90212 [.int 2 0 7, .int 2 0 15] false t h args sid s = true →
      Runs (.flsTrigger t h args) s (fun u => (∀ l, consumes l s = true → (s.lanes.get l).engines.length = 8 →
        (engOf l u (argN args 0)).trig = (engOf l s (argN args 0)).trig ||| BitVec.ofNat 4 (argN args 1)) ∧ Answered u
        sid h (okReply 0x90212))) ∧
  (∀ (t own : Nat) (l : Lane) (c : Core) (e : Fin 8) (s : State),
      (s.lanes.get l).engines.length = 8 →
      isPolicy c = false →
      engRuns (engOf l s e.val) = false →
      Runs (.flsCtrlStart t l c e own) s (fun u => (ownBad l s e.val (BitVec.ofNat 4 own) = false → engOf l u e.val
        =
        { Engine.init with own := BitVec.ofNat 4 own, mask := BitVec.ofNat 4 own, state := 1, prog := (engOf l s e.val).prog })
        ∧ (ownBad l s e.val (BitVec.ofNat 4 own) = true → (engOf l u e.val).state = 3 ∧ (engOf l u e.val).fault = 1))) ∧
  (∀ (t : Nat) (l : Lane) (c : Core) (e : Fin 8) (s : State),
      (s.lanes.get l).engines.length = 8 →
      isPolicy c = false →
      Runs (.flsCtrlStop t l c e) s (fun u => (engOf l u e.val).state = 0)) ∧
  (∀ (t bits : Nat) (l : Lane) (c : Core) (e : Fin 8) (s : State),
      (s.lanes.get l).engines.length = 8 →
      isPolicy c = false →
      Runs (.flsTrigSet t l c e bits) s (fun u => (engOf l u e.val).trig = (engOf l s e.val).trig ||| BitVec.ofNat 4
        bits)) ∧
  (∀ (t : Nat) (l : Lane) (c : Core) (e : Fin 8) (i : Fin 64) (w : Word32) (s : State),
      (s.lanes.get l).engines.length = 8 →
      isPolicy c = false →
      (engOf l s e.val).state = 0 →
      (engOf l s e.val).prog.length = 64 →
      Runs (.flsProgWrite t l c e i w) s (fun u => (engOf l u e.val).prog[i.val]? = some w ∧ ∀ j, j ≠ i.val → (engOf
        l u e.val).prog[j]? = (engOf l s e.val).prog[j]?)) ∧
  (∀ (t : Nat) (l : Lane) (c : Core) (e : Fin 8) (i : Fin 64) (w : Word32) (s : State),
      (isPolicy c = true ∨ (engOf l s e.val).state ≠ 0) →
      Runs (.flsProgWrite t l c e i w) s (fun u => (u.lanes.get l).engines = (s.lanes.get l).engines ∧ Sent u
        (.busError l c (engBase e.val + 0x100 + 4 * i.val)))) ∧
  (∀ (t : Nat) (s : State),
      (active s).isSome = true →
      s.led.index % 2 = 0 →
      s.led.second * 1000 + s.led.index / 2 ≠ s.led.tickAt →
      Runs (.flowstoneTick t) s (fun u => u.led.tickAt = s.led.second * 1000 + s.led.index / 2 ∧ ∀ l, consumes l s =
        true → (s.lanes.get l).engines.length = 8 → ∀ e, e < 8 → engOf l u e = (engTick (s.led.second * 1000 +
        s.led.index / 2) (engOf l s e)).1))

/-- Inputs are consumed in the order of the active lane's tags (R16, R17). With a follower, an input that both lanes
have takes the next sequence number and is held, and no tag changes. Without one nothing is held, and the input
takes the next number if the active lane has it. With a bridge link up, an order tag enters the follower's queue of
tags and the held inputs whose tags stand first are consumed, in tag order; the same happens when a forwarded input
comes that a waiting tag names. An input held 20 ms with no tag that names it is discarded, and its time enters the
list of orphans. -/
def Obligations.InputOrder : Prop :=
  (∀ (t src hv : Nat) (l : Lane) (s : State),
      follower s = some l →
      Runs (.inputArrival t src hv true true) s (fun u => u.lp.inputSeq = (s.lp.inputSeq + 1) % 4294967296 ∧
        u.lp.held = s.lp.held ++ [{ hash := hv, source := src, since := max s.clk.fab t }] ∧ u.lp.tags = s.lp.tags)) ∧
  (∀ (t src hv : Nat) (b1 b2 : Bool) (s : State),
      follower s = none →
      Runs (.inputArrival t src hv b1 b2) s (fun u => u.lp.held = s.lp.held ∧ u.lp.inputSeq = if b1 && (active
        s).isSome then (s.lp.inputSeq + 1) % 4294967296 else s.lp.inputSeq)) ∧
  (∀ (t q src hv : Nat) (l : Lane) (s : State),
      follower s = some l →
      bridgeUp s = true →
      Runs (.orderTag t q src hv) s (fun u => (u.lp.held, u.lp.tags) = drainTags s.lp.held (s.lp.tags ++ [(q, src,
        hv)]))) ∧
  (∀ (t q src hv : Nat) (s : State),
      bridgeUp s = true →
      s.lp.tags.contains (q, src, hv) = true →
      Runs (.forwardedInput t q src hv) s (fun u => (u.lp.held, u.lp.tags) = drainTags (s.lp.held ++
        [{ hash := hv, source := src, since := max s.clk.fab t }]) s.lp.tags)) ∧
  (∀ (t hv : Nat) (l : Lane) (x : HeldInput) (s : State),
      follower s = some l →
      s.lp.held.find? (fun y => y.hash == hv) = some x →
      x.since + 20 * Config.msCycles ≤ max s.clk.fab t →
      s.lp.tags.any (fun g => g.2.2 == hv) = false →
      Runs (.orphanTimeout t hv) s (fun u => u.lp.held = takeHeld hv x.source s.lp.held ∧ u.lp.orphans.head? = some
        (max s.clk.fab t)))

/-- Outputs are compared, released and decided on (R282, R283, R284, R286, R289). With an active lane, a standby and a
bridge link up, a comparison record new to its lane is kept where its partner has not come; where its partner has
equal content both are gone, the sequence number is matched and no self-check begins; where it differs, and no
self-check runs, one begins. An output held 2 ms whose records do not differ leaves. A standby too far behind is
LAGGING, waits for resynchronisation where RESYNC_AUTO and a link allow it, no record and no planned switchover
stays, and sticky bit 161 is set. A finished self-check, with an active lane, runs no more and no SWITCHOVER request
waits for it; one that condemns the active lane and not the other decides a switchover to the other with cause 2 for
the next slot boundary, until which the roles stay. -/
def Obligations.Comparison : Prop :=
  (∀ (t q k hash : Nat) (l : Lane) (s : State),
      (standby s).isSome = true →
      (active s).isSome = true →
      bridgeUp s = true →
      (s.lp.records.get l).any (fun r => r.1 == q) = false →
      (s.lp.records.get (otherLane l)).find? (fun r => r.1 == q) = none →
      Runs (.comparisonRecord t l q k hash) s (fun u => u.lp.records.get l = s.lp.records.get l ++ [(q, k, hash, max
        s.clk.fab t)] ∧ u.lp.records.get (otherLane l) = s.lp.records.get (otherLane l) ∧ u.lp.matched =
        s.lp.matched)) ∧
  (∀ (t q k hash at_ : Nat) (l : Lane) (s : State),
      (standby s).isSome = true →
      (active s).isSome = true →
      bridgeUp s = true →
      (s.lp.records.get l).any (fun r => r.1 == q) = false →
      (s.lp.records.get (otherLane l)).find? (fun r => r.1 == q) = some (q, k, hash, at_) →
      Runs (.comparisonRecord t l q k hash) s (fun u => u.lp.matched = max s.lp.matched q ∧ u.lp.records.get l =
        s.lp.records.get l ∧ u.lp.records.get (otherLane l) = (s.lp.records.get (otherLane l)).filter (fun r => r.1 !=
        q) ∧ u.lp.checking = s.lp.checking)) ∧
  (∀ (t q k hash : Nat) (o : Nat × Nat × Nat × Nat) (l : Lane) (s : State),
      (standby s).isSome = true →
      (active s).isSome = true →
      bridgeUp s = true →
      (s.lp.records.get l).any (fun r => r.1 == q) = false →
      (s.lp.records.get (otherLane l)).find? (fun r => r.1 == q) = some o →
      sameContent o k hash = false →
      s.lp.checking = none →
      Runs (.comparisonRecord t l q k hash) s (fun u => u.lp.checking = some (q, min k 4, (if l = .A then hash else
        o.2.2.1), (if l = .A then o.2.2.1 else hash), true))) ∧
  (∀ (t q : Nat) (w : Nat × Nat × Out) (s : State),
      s.lp.waiting.find? (fun x => x.1 == q) = some w →
      w.2.1 + 2 * Config.msCycles ≤ max s.clk.fab t →
      differs q s = false →
      Runs (.outputReleaseTimeout t q) s (fun u => match w.2.2 with
        | .trunk p f m _ => ∃ n g, Out.trunk p { f with fcnt := n } m g ∈ u.out | o => o ∈ u.out)) ∧
  (∀ (t : Nat) (l : Lane) (s : State),
      standby s = some l →
      (256 < lagE (tick t s) ∨ 20 * Config.msCycles < lagT (tick t s)) →
      Runs (.lagDetect t) s (fun u => (u.lanes.get l).role = .lagging ∧ (u.lanes.get l).resync = (if getB s 0xA0100
        && bridgeUp s then .waiting else .idle) ∧ u.lp.records.a = [] ∧ u.lp.records.b = [] ∧ u.lp.planned = none ∧
        u.dict.sticky.getLsbD 161 = true)) ∧
  (∀ (t : Nat) (ca cb : Bool) (c : Nat × Nat × Nat × Nat × Bool) (l : Lane) (s : State),
      s.lp.checking = some c →
      active s = some l →
      Runs (.selfCheckDone t ca cb) s (fun u => u.lp.checking = none ∧ u.lp.asked = [])) ∧
  (∀ (t : Nat) (ca cb : Bool) (c : Nat × Nat × Nat × Nat × Bool) (l : Lane) (s : State),
      s.lp.checking = some c →
      active s = some l →
      (s.lanes.get (otherLane l)).cause = .none →
      ((if l = .A then ca else cb) = true ∨ condemned (s.lanes.get l) = true) →
      (if l = .A then cb else ca) = false →
      s.lp.asked = [] →
      Runs (.selfCheckDone t ca cb) s (fun u => u.lp.switch = some
        { target := otherLane l, cause := 2, applyAsn := asn (tick t s) + 1 } ∧ u.lanes.a.role = s.lanes.a.role ∧
        u.lanes.b.role = s.lanes.b.role))

/-- A lane that fails condemns itself (R285, R287, R288, R291, R299). An uncorrectable ECC error, and of a running lane
a core checker's report or an expired watchdog of a core that is no policy core: where the lane goes on in its role
it has that condemn cause, or the one it had; where it is active, with a standby in sync and no switchover decided,
one with cause 4 is decided for the next slot boundary; where it is not active it has no role afterwards. A
corrected ECC error, with fewer than 64 in the list of the last second, enters that list and the lane's health, and
changes neither cause nor role. A unit's report sets that unit's state and time of test; a failed vault, contactor
driver or power converter of an active lane with a standby in sync decides the same switchover and leaves a condemn
cause. A policy core's watchdog changes no cause, no role and no switchover. -/
def Obligations.ContinuousSelfTest : Prop :=
  (∀ (t : Nat) (l : Lane) (s : State),
      Runs (.eccError t l false) s (fun u => ((u.lanes.get l).running = true → (u.lanes.get l).role = (s.lanes.get
        l).role → (u.lanes.get l).cause = (if condemned (s.lanes.get l) then (s.lanes.get l).cause else
        .uncorrectable)) ∧ (active s = some l → standby s = some (otherLane l) → s.lp.switch = none → u.lp.switch =
        some { target := otherLane l, cause := 4, applyAsn := asn (tick t s) + 1 }) ∧ (active s ≠ some l →
        (u.lanes.get l).role = .undecided))) ∧
  (∀ (t : Nat) (l : Lane) (s : State),
      (s.lanes.get l).ecc.length < 64 →
      Runs (.eccError t l true) s (fun u => (u.lanes.get l).health = (.ecc, max s.clk.fab t) :: (s.lanes.get
        l).health ∧ (u.lanes.get l).ecc.head? = some (max s.clk.fab t) ∧ (u.lanes.get l).cause = (s.lanes.get l).cause
        ∧ (u.lanes.get l).role = (s.lanes.get l).role)) ∧
  (∀ (t : Nat) (l : Lane) (c : Core) (s : State),
      (s.lanes.get l).running = true →
      Runs (.coreCheckerFire t l c) s (fun u => ((u.lanes.get l).running = true → (u.lanes.get l).role =
        (s.lanes.get l).role → (u.lanes.get l).cause = (if condemned (s.lanes.get l) then (s.lanes.get l).cause else
        .lockstep)) ∧ (active s = some l → standby s = some (otherLane l) → s.lp.switch = none → u.lp.switch = some
        { target := otherLane l, cause := 4, applyAsn := asn (tick t s) + 1 }) ∧ (active s ≠ some l → (u.lanes.get
        l).role = .undecided))) ∧
  (∀ (t : Nat) (l : Lane) (c : Core) (s : State),
      (s.lanes.get l).running = true →
      isPolicy c = false →
      Runs (.laneWatchdogExpiry t l c) s (fun u => ((u.lanes.get l).running = true → (u.lanes.get l).role =
        (s.lanes.get l).role → (u.lanes.get l).cause = (if condemned (s.lanes.get l) then (s.lanes.get l).cause else
        .watchdog)) ∧ (active s = some l → standby s = some (otherLane l) → s.lp.switch = none → u.lp.switch = some
        { target := otherLane l, cause := 4, applyAsn := asn (tick t s) + 1 }) ∧ (active s ≠ some l → (u.lanes.get
        l).role = .undecided))) ∧
  (∀ (t : Nat) (l m : Lane) (c : Core) (s : State),
      isPolicy c = true →
      Runs (.laneWatchdogExpiry t l c) s (fun u => (u.lanes.get m).cause = (s.lanes.get m).cause ∧ (u.lanes.get
        m).role = (s.lanes.get m).role ∧ u.lp.switch = s.lp.switch)) ∧
  (∀ (t : Nat) (l : Lane) (k : Fin 5) (r : Fin 3) (s : State),
      (s.lanes.get l).running = true →
      (s.lanes.get l).units.length = 5 →
      Runs (.unitTest t l k r) s (fun u => ((u.lanes.get l).units[k.val]?).map (fun x => (x.state, x.tested)) = some
        (r.val, time64 (tick t s)))) ∧
  (∀ (t : Nat) (l : Lane) (k : Fin 5) (s : State),
      active s = some l →
      standby s = some (otherLane l) →
      (s.lanes.get l).running = true →
      s.lp.switch = none →
      unitCondemns k.val = true →
      Runs (.unitTest t l k 2) s (fun u => u.lp.switch = some
        { target := otherLane l, cause := 4, applyAsn := asn (tick t s) + 1 } ∧ (u.lanes.get l).cause ≠ .none))

/-- A lane that lags is copied, compared and made standby (R11, R295, R296, R301). A running LAGGING lane that waits,
beside an active one, with a bridge link up and images that fit, begins its copy with no condemn cause and its
role's time unchanged. A finished copy whose settings layout its runtime reads gives it the active lane's memory as
copyMem joins it with its own, leaves no record held for it, no held input and no tag, and begins its comparison. A
comparison in which all matched makes it STANDBY from now on, and no record is kept. RESYNC, with the lane that is
not active LAGGING and a link up, makes that lane wait where it was idle, ends condition 163 and is answered OK. The
failure of the last bridge link makes the standby LAGGING and idle; that of one while the other works leaves the
roles and the bridge. A link whose self-test slice does not read FAIL comes up. -/
def Obligations.Resynchronisation : Prop :=
  (∀ (t : Nat) (l : Lane) (s : State),
      active s = some (otherLane l) →
      (s.lanes.get l).running = true →
      (s.lanes.get l).role = .lagging →
      (s.lanes.get l).resync = .waiting →
      bridgeUp s = true →
      imagesFit s = true →
      Runs (.resyncRequest t l) s (fun u => (u.lanes.get l).role = .lagging ∧ (u.lanes.get l).resync = .transfer ∧
        (u.lanes.get l).cause = .none ∧ (u.lanes.get l).roleSince = (s.lanes.get l).roleSince)) ∧
  (∀ (t : Nat) (l : Lane) (s : State),
      active s = some (otherLane l) →
      (s.lanes.get l).role = .lagging →
      (s.lanes.get l).resync = .transfer →
      bridgeUp s = true →
      s.fw.live.get (otherLane l) = (runningImg s l).settingsLayout →
      Runs (.stateTransferDone t l) s (fun u => (u.lanes.get l).resync = .compare ∧ (u.lanes.get l).mem = copyMem
        (s.lanes.get l).mem (s.lanes.get (otherLane l)).mem ∧ u.recd.held.get l = [] ∧ u.lp.held = [] ∧ u.lp.tags =
        [])) ∧
  (∀ (t : Nat) (l : Lane) (s : State),
      active s = some (otherLane l) →
      (s.lanes.get l).role = .lagging →
      (s.lanes.get l).resync = .compare →
      bridgeUp s = true →
      Runs (.resyncCompareEnd t l true) s (fun u => (u.lanes.get l).role = .standby ∧ (u.lanes.get l).resync = .idle
        ∧ (u.lanes.get l).roleSince = max s.clk.fab t ∧ u.lp.records.a = [] ∧ u.lp.records.b = [])) ∧
  (∀ (t sid : Nat) (h : Hdr) (args : List TVal) (s : State) (l : Lane),
      passes 0xA0302 [] false t h args sid s = true →
      active s = some l →
      (s.lanes.get (otherLane l)).role = .lagging →
      bridgeUp s = true →
      Runs (.resync t h args) s (fun u => (u.lanes.get (otherLane l)).resync = (if (s.lanes.get (otherLane
        l)).resync = .idle then .waiting else (s.lanes.get (otherLane l)).resync) ∧ u.dict.live.getLsbD 163 = false ∧
        Answered u sid h (okReply 0xA0302))) ∧
  (∀ (t : Nat) (k : Fin 2) (l : Lane) (s : State),
      (if k.val = 0 then s.lp.links.b else s.lp.links.a) = false →
      standby s = some l →
      Runs (.laneBridgeLinkFail t k) s (fun u => u.lp.links.a = false ∧ u.lp.links.b = false ∧ (u.lanes.get l).role
        = .lagging ∧ (u.lanes.get l).resync = .idle)) ∧
  (∀ (t : Nat) (k : Fin 2) (s : State),
      (if k.val = 0 then s.lp.links.b else s.lp.links.a) = true →
      Runs (.laneBridgeLinkFail t k) s (fun u => (if k.val = 0 then u.lp.links.a else u.lp.links.b) = false ∧
        bridgeUp u = true ∧ u.lanes.a.role = s.lanes.a.role ∧ u.lanes.b.role = s.lanes.b.role)) ∧
  (∀ (t : Nat) (k : Fin 2) (s : State),
      getC s 0xC0020 (19 + k.val) 0 ≠ 3 →
      Runs (.laneBridgeLinkUp t k) s (fun u => (if k.val = 0 then u.lp.links.a else u.lp.links.b) = true ∧ bridgeUp
        u = true))

/-- Lanes report, agree, switch over and restart (R281, R291, R292, R298, R301, R452). A running lane without a role,
beside an active one, has its start score and the role it held last on report, and its boot time. Of two running
lanes without a role that have both reported, while none is active, the one that R281 chooses becomes the only
active one and owns the outputs. One second after its boot a running lane that alone has reported, while none is
active or standby, is active and owns the outputs. A decided switchover to a standby takes effect at its ASN: the
target is active and owns the outputs, no self-check runs, and A:0018 holds its cause. SWITCHOVER, with a standby,
none planned and no self-check running, is planned with cause 1 for the apply ASN, which it is answered with.
RESTART_STANDBY, with an active lane, leaves the other without a role and without a report, and is answered OK. The
loss of the ALIVE line of the active lane with a standby decides a switchover with cause 5 for the next slot
boundary and marks the line dead; of another running lane it leaves that lane without role and report. -/
def Obligations.RolesDecided : Prop :=
  (∀ (t r : Nat) (l : Lane) (s : State),
      active s = some (otherLane l) →
      (s.lanes.get l).role = .undecided →
      (s.lanes.get l).running = true →
      Runs (.laneStartReport t l r) s (fun u => (u.lanes.get l).report = some (1000 - 400 * r, (s.lanes.get
        l).wasActive) ∧ (u.lanes.get l).bootAt = some (max s.clk.fab t))) ∧
  (∀ (t : Nat) (s : State),
      active s = none →
      s.lanes.a.report.isSome = true →
      s.lanes.b.report.isSome = true →
      s.lanes.a.running = true →
      s.lanes.b.running = true →
      s.lanes.a.role = .undecided →
      s.lanes.b.role = .undecided →
      Runs (.lanesAgree t) s (fun u => active u = some (chooseLane s) ∧ u.lp.owner = some (chooseLane s) ∧
        (u.lanes.get (otherLane (chooseLane s))).role ≠ .active)) ∧
  (∀ (t f : Nat) (l : Lane) (s : State),
      active s = none →
      standby s = none →
      (s.lanes.get l).report.isSome = true →
      (s.lanes.get (otherLane l)).report = none →
      (s.lanes.get l).running = true →
      (s.lanes.get l).role = .undecided →
      (s.lanes.get l).bootAt = some f →
      f + Config.secCycles ≤ max s.clk.fab t →
      Runs (.agreementTimeout t l) s (fun u => active u = some l ∧ u.lp.owner = some l ∧ u.lp.agreedAt = some (max
        s.clk.fab t))) ∧
  (∀ (t : Nat) (w : Switch) (s : State),
      s.lp.switch = some w →
      w.applyAsn ≤ asn (tick t s) →
      (s.lanes.get w.target).role = .standby →
      s.lp.asked = [] →
      Runs (.switchoverTakeEffect t) s (fun u => u.lp.switch = none ∧ (u.lanes.get w.target).role = .active ∧
        u.lp.owner = some w.target ∧ u.lp.checking = none ∧ getN u 0xA0018 = w.cause)) ∧
  (∀ (t sid : Nat) (h : Hdr) (args : List TVal) (s : State) (l : Lane),
      passes 0xA0300 [] false t h args sid s = true →
      s.lp.checking = none →
      active s = some l →
      (s.lanes.get (otherLane l)).role = .standby →
      s.lp.planned = none →
      Runs (.switchover t h args) s (fun u => u.lp.planned = some
        { target := otherLane l, cause := 1, applyAsn := applyAsn (tick t s) } ∧ Answered u sid h
        { okReply 0xA0300 with applyAsn := applyAsn (tick t s) })) ∧
  (∀ (t sid : Nat) (h : Hdr) (args : List TVal) (s : State) (l : Lane),
      passes 0xA0301 [] false t h args sid s = true →
      active s = some l →
      Runs (.restartStandby t h args) s (fun u => (u.lanes.get (otherLane l)).role = .undecided ∧ (u.lanes.get
        (otherLane l)).report = none ∧ (u.lanes.get l).role = .active ∧ Answered u sid h (okReply 0xA0301))) ∧
  (∀ (t : Nat) (l : Lane) (s : State),
      s.power.mainOn = true →
      s.life.state ≠ .scrapped →
      active s = some l →
      standby s = some (otherLane l) →
      s.lp.switch = none →
      Runs (.aliveLoss t l) s (fun u => u.lp.switch = some
        { target := otherLane l, cause := 5, applyAsn := asn (tick t s) + 1 } ∧ (u.lanes.get l).alive = false)) ∧
  (∀ (t : Nat) (l : Lane) (s : State),
      s.power.mainOn = true →
      s.life.state ≠ .scrapped →
      active s = some (otherLane l) →
      (s.lanes.get l).role ≠ .active →
      (s.lanes.get l).running = true →
      Runs (.aliveLoss t l) s (fun u => (u.lanes.get l).role = .undecided ∧ (u.lanes.get l).report = none ∧
        (u.lanes.get (otherLane l)).role = .active))

/-- Main power warns, goes and comes back; supplies fail and return (R438, R440, R441, R442, R443, R458, R503). The
power-fail warning, not in force and with main power on, is in force from now on with its time and sheds the LED
supply, and with an active lane the recorder drains. An input back for 40 ms ends it and the draining, gives the
supply back and sets sticky bit 240. V_STOP stops both lanes: main power and keep-alive are gone, no lane has a
role, no session lives and no lane owns the outputs. At POR main power is on from now on, with no warning, the safe
light of the reset set is on, no lane has a role and no session lives. A coil supply below 16 V is lost from now on,
with condition 2, and no output changes; its return, with an active lane and no slice under test, ends the condition
and gives each output the state wanted of it. Of the LED supply's failure, the keep-alive's, an input out of 90 to
305 V and a baseplate above 140 °C, each is in force with its condition (249, 245, 250, 3), the last without LED
supply; below 130 °C the baseplate's is over. -/
def Obligations.PowerPath : Prop :=
  (∀ (t : Nat) (a b : Samples) (s : State),
      s.power.mainOn = true →
      s.power.warning = false →
      Runs (.powerFailWarning t a b) s (fun u => u.power.warning = true ∧ u.power.warnFab = max s.clk.fab t ∧
        u.power.warnTime = some (time64 (tick t s)) ∧ u.power.ledShed = true ∧ ((active s).isSome = true →
        u.recd.draining = true))) ∧
  (∀ (t : Nat) (s : State),
      s.power.mainOn = true →
      s.power.warning = true →
      s.power.warnFab + 40 * Config.msCycles ≤ max s.clk.fab t →
      Runs (.brownoutRecovery t) s (fun u => u.power.warning = false ∧ u.power.warnTime = none ∧ u.power.ledShed =
        false ∧ u.recd.draining = false ∧ u.dict.sticky.getLsbD 240 = true)) ∧
  (∀ (t : Nat) (s : State),
      s.power.mainOn = true →
      Runs (.vStop t) s (fun u => u.power.mainOn = false ∧ u.power.keepaliveOk = false ∧ u.lanes.a.running = false ∧
        u.lanes.b.running = false ∧ u.lanes.a.role = .undecided ∧ u.lanes.b.role = .undecided ∧ u.ib.sessions = [] ∧
        u.lp.owner = none)) ∧
  (∀ (t : Nat) (c pa pb : Bool) (s : State),
      s.power.mainOn = false →
      Runs (.por t c pa pb) s (fun u => u.power.mainOn = true ∧ u.power.warning = false ∧ u.power.ledShed = false ∧
        u.power.porFab = max s.clk.fab t ∧ u.led.safeOn = true ∧ u.led.safe = State.reset.led.safe ∧ u.lanes.a.role =
        .undecided ∧ u.lanes.b.role = .undecided ∧ u.ib.sessions = [])) ∧
  (∀ (t dv : Nat) (s : State),
      s.power.coil = true →
      dv < 160 →
      Runs (.coilSupplyLoss t dv) s (fun u => u.power.coil = false ∧ u.power.coilDv = dv ∧ u.power.coilLost = max
        s.clk.fab t ∧ u.io.outs = s.io.outs ∧ u.dict.live.getLsbD 2 = true)) ∧
  (∀ (t dv : Nat) (s : State),
      s.power.coil = false →
      160 ≤ dv →
      s.io.outs.length = 4 →
      s.test.slice = none →
      (active s).isSome = true →
      Runs (.coilSupplyReturn t dv) s (fun u => u.power.coil = true ∧ u.dict.live.getLsbD 2 = false ∧ ∀ k, k < 4 →
        (outOf u k).pin = outWanted s k)) ∧
  (∀ (t : Nat) (s : State),
      s.power.ledOk = true →
      Runs (.ledSupplyFail t) s (fun u => u.power.ledOk = false ∧ u.dict.live.getLsbD 249 = true)) ∧
  (∀ (t : Nat) (s : State),
      s.power.keepaliveOk = true →
      s.power.mainOn = true →
      Runs (.keepaliveFail t) s (fun u => u.power.keepaliveOk = false ∧ u.dict.live.getLsbD 245 = true ∧
        u.power.mainOn = true)) ∧
  (∀ (t dv : Nat) (s : State),
      Runs (.inputRange t dv) s (fun u => u.power.inputBad = decide (dv < 900 ∨ 3050 < dv) ∧ u.dict.live.getLsbD 250
        = decide (dv < 900 ∨ 3050 < dv))) ∧
  (∀ (t : Nat) (temp : Int) (s : State),
      1400 < temp →
      s.power.hotShed = false →
      Runs (.baseplateHot t temp) s (fun u => u.power.hotShed = true ∧ ledUp u = false ∧ u.dict.live.getLsbD 3 =
        true)) ∧
  (∀ (t : Nat) (temp : Int) (s : State),
      temp < 1300 →
      s.power.hotShed = true →
      Runs (.baseplateCool t temp) s (fun u => u.power.hotShed = false ∧ u.dict.live.getLsbD 3 = false))

/-- The backup cells and the keep latch; the cabinet outputs and inputs (R446, R447, R448, R449, R443, R496, R497). With
main power on, a load test enters the loaded voltage of a cell and gives it the state of that voltage and its charge
drawn, which is no less than before up to its maximum. A removed cell reads ABSENT with its charge and condition
243. CELL_REPLACED of a cell not ABSENT gives it the state of the loaded voltage and charge 0, inserted now, and is
answered OK. CELL_TEST, with main power on and no warning, enters both loaded voltages and is answered OK. A dip of
VBD starts the latch's timer; a recovery within 2.2 ms ends it, leaves the latch clear and counts in KEEP_DIPS; the
end of the keep time of 1.8 ms, or VBD below 1.6 V, sets RETENTION_LOST. OUTPUT_SET gives every output of its mask
the commanded state, and re-arms a tripped one that it switches on, changes no other, and is answered OK. With an
active lane, coil supply and no slice on it, an output whose gap has ended takes the state that waits. An output
that is on and trips is off and tripped, keeps its commanded state, sets sticky bit 1, and no other output changes.
An edge of an input is its new state and no other input's; while inputs are under test the edge is kept aside. -/
def Obligations.CellsAndCabinet : Prop :=
  (∀ (t mv : Nat) (k : Fin 2) (s : State),
      s.power.mainOn = true →
      (getRow s 0x00410 k.val).length = 5 →
      mv ≤ 65535 →
      Runs (.cellLoadTest t k mv) s (fun u => getC u 0x00410 k.val 1 = mv ∧ getC u 0x00410 k.val 0 = cellState mv
        (getC u 0x00410 k.val 3) ∧ min (getC s 0x00410 k.val 3) 4294967295 ≤ getC u 0x00410 k.val 3)) ∧
  (∀ (t : Nat) (k : Fin 2) (s : State),
      (getRow s 0x00410 k.val).length = 5 →
      Runs (.cellRemoval t k) s (fun u => getC u 0x00410 k.val 0 = 3 ∧ getC u 0x00410 k.val 3 = getC s 0x00410 k.val
        3 ∧ u.dict.live.getLsbD 243 = true)) ∧
  (∀ (t sid : Nat) (h : Hdr) (args : List TVal) (s : State) (mv : Nat),
      passes 0x00430 [.int 2 0 1] false t h args sid s = true →
      getC s 0x00410 (argN args 0) 0 ≠ 3 →
      mv ≤ 65535 →
      Runs (.cellReplaced t h args mv) s (fun u => getC u 0x00410 (argN args 0) 0 = cellState mv 0 ∧ getC u 0x00410
        (argN args 0) 1 = mv ∧ getC u 0x00410 (argN args 0) 3 = 0 ∧ getC u 0x00410 (argN args 0) 4 = time64 (tick t s)
        ∧ Answered u sid h (okReply 0x00430))) ∧
  (∀ (t sid : Nat) (h : Hdr) (args : List TVal) (s : State) (ma mb : Nat),
      passes 0x00431 [] false t h args sid s = true →
      s.power.mainOn = true →
      s.power.warning = false →
      (getRow s 0x00410 0).length = 5 →
      (getRow s 0x00410 1).length = 5 →
      ma ≤ 65535 →
      mb ≤ 65535 →
      Runs (.cellTest t h args ma mb) s (fun u => getC u 0x00410 0 1 = ma ∧ getC u 0x00410 1 1 = mb ∧ Answered u sid
        h (okReply 0x00431))) ∧
  (∀ (t : Nat) (s : State),
      s.power.dip = none →
      Runs (.vbdDip t) s (fun u => u.power.dip = some (max s.clk.fab t, false) ∧ u.power.lost = s.power.lost)) ∧
  (∀ (t : Nat) (d : Nat × Bool) (s : State),
      s.power.dip = some d →
      max s.clk.fab t < d.1 + 880000 →
      (getRow s 0x00411 0).length = 5 →
      Runs (.vbdRecovery t) s (fun u => u.power.dip = none ∧ u.power.lost = s.power.lost ∧ u.power.tamperPending =
        none ∧ getC u 0x00411 0 3 = (getC s 0x00411 0 3 + 1) % 4294967296)) ∧
  (∀ (t : Nat) (b : Bool) (d : Nat × Bool) (s : State),
      s.power.dip = some d →
      (b = true ∨ d.1 + 720000 ≤ max s.clk.fab t) →
      Runs (.keepTimeExpiry t b) s (fun u => u.power.dip = none ∧ u.power.lost = true)) ∧
  (∀ (t sid : Nat) (h : Hdr) (args : List TVal) (s : State),
      passes 0x00500 [.int 2 1 15, .int 2 0 15] false t h args sid s = true →
      s.io.outs.length = 4 →
      Runs (.outputSet t h args) s (fun u => (∀ k, k < 4 → (outOf u k).cmd = (if bitOf (argN args 0) k then bitOf
        (argN args 1) k else (outOf s k).cmd) ∧ (outOf u k).tripped = ((outOf s k).tripped && !(bitOf (argN args 0) k
        && bitOf (argN args 1) k))) ∧ Answered u sid h (okReply 0x00500))) ∧
  (∀ (t : Nat) (k : Fin 4) (v : Bool) (s : State),
      s.io.outs.length = 4 →
      (outOf s k.val).pend = some v →
      inGap (tick t s) k.val = false →
      (active s).isSome = true →
      s.power.coil = true →
      inSlice s (10 + k.val) = false →
      Runs (.outputGapEnd t k) s (fun u => (outOf u k.val).pin = v ∧ (outOf u k.val).pend = none)) ∧
  (∀ (t ma dv : Nat) (k : Fin 4) (s : State),
      s.io.outs.length = 4 →
      (outOf s k.val).pin = true →
      s.power.coil = true →
      Runs (.outputTrip t k ma dv) s (fun u => (outOf u k.val).pin = false ∧ (outOf u k.val).tripped = true ∧ (outOf
        u k.val).cmd = (outOf s k.val).cmd ∧ u.dict.sticky.getLsbD 1 = true ∧ ∀ j, j ≠ k.val → outOf u j = outOf s j)) ∧
  (∀ (t : Nat) (n : Fin 8) (b : Bool) (s : State),
      inSlice s 14 = false →
      Runs (.diEdge t n b) s (fun u => u.io.inputs.getLsbD n.val = b ∧ ∀ m, m ≠ n.val → u.io.inputs.getLsbD m =
        s.io.inputs.getLsbD m)) ∧
  (∀ (t : Nat) (n : Fin 8) (b : Bool) (s : State),
      inSlice s 14 = true →
      Runs (.diEdge t n b) s (fun u => u.io.inputs = s.io.inputs ∧ mget u.test.edges n.val = some b))

/-- Ports find their SFP, shake hands, restart and fall (R303, R305, R306, R309, R318, R366). An inserted SFP takes its
port to state 1, unsuitable where it is not 1000BASE-X or draws too much. Autonegotiation done takes a port with a
suitable SFP from state 1 to 2, and this node's HELLO leaves by it; with no page in 2 s the link start begins anew.
A HELLO of this cascade, in state 2, names the peer and whether the wiring crosses or the ID is double, and where
this node has the lower ID its OFFER leaves; a HELLO of another cascade is counted. HELLO leaves again 100 ms after
the last, and by both ports while TAMPERED. An OFFER to the higher ID with good proof and nonce takes the port to
state 3 or more with the partner's grants, and an ACCEPT leaves; a bad one is counted; an ACCEPT to the lower ID
does the same. A link that falls in state 3 or 4 starts at state 1, or 0 with no SFP; RING_OPEN is set, and where
the other port has its handshake done the BREAK leaves there or waits for link credit. PORT_RESTART takes a port
back likewise. A PAUSE frame is counted. What leaves needs an active lane. -/
def Obligations.PortsComeUp : Prop :=
  (∀ (t : Nat) (p : Fin 2) (b1 b2 : Bool) (s : State),
      s.trunk.ports.length = 2 →
      Runs (.sfpInsert t p b1 b2) s (fun u => (portOf u p.val).present = true ∧ (portOf u p.val).state = 1 ∧ (portOf
        u p.val).unsuit = !(b1 && !b2) ∧ (portOf u p.val).negotiated = false ∧ (portOf u p.val).started = max
        s.clk.fab t)) ∧
  (∀ (t : Nat) (p : Fin 2) (s : State),
      s.trunk.ports.length = 2 →
      (active s).isSome = true →
      (portOf s p.val).state = 1 →
      (portOf s p.val).present = true →
      (portOf s p.val).unsuit = false →
      Runs (.autonegDone t p) s (fun u => (portOf u p.val).state = 2 ∧ (portOf u p.val).negotiated = true ∧ (portOf
        u p.val).started = max s.clk.fab t ∧ SentOn u p.val 254 0 (.hello (ownHello p.val u)))) ∧
  (∀ (t : Nat) (p : Fin 2) (s : State),
      s.trunk.ports.length = 2 →
      (portOf s p.val).state = 1 →
      (portOf s p.val).present = true →
      (portOf s p.val).started + 2 * Config.secCycles ≤ max s.clk.fab t →
      Runs (.autonegTimeout t p) s (fun u => (portOf u p.val).state = 1 ∧ (portOf u p.val).started = max s.clk.fab t
        ∧ (portOf u p.val).negotiated = false)) ∧
  (∀ (t : Nat) (p : Fin 2) (m : HelloMsg) (s : State),
      s.trunk.ports.length = 2 →
      (portOf s p.val).state = 2 →
      m.notice = none →
      m.role ≠ 4 →
      m.node ≠ 255 →
      ¬(m.part = 1 ∧ m.role = 0) →
      m.cascade = getN s 0x30100 →
      commissioned s = true →
      (active s).isSome = true →
      Runs (.hello t p m) s (fun u => (portOf u p.val).peer = some m ∧ (portOf u p.val).miswired = (m.port == p.val)
        ∧ (portOf u p.val).dup = dupId s p.val m.node ∧ (portOf u p.val).state = 2 ∧ (modId s < m.node → isTampered s
        = false → SentOn u p.val 254 0 (.offer (ownProof p.val m u))))) ∧
  (∀ (t : Nat) (p : Fin 2) (m : HelloMsg) (s : State),
      s.trunk.ports.length = 2 →
      (portOf s p.val).state = 2 →
      m.notice = none →
      m.role ≠ 4 →
      m.node ≠ 255 →
      ¬(m.part = 1 ∧ m.role = 0) →
      m.cascade ≠ getN s 0x30100 →
      counts s = true →
      Runs (.hello t p m) s (fun u => portsOf u = portsOf s ∧ u.trunk.topo = s.trunk.topo ∧ cntRead u 0x30015 0 0 =
        (cntRead s 0x30015 0 0 + 1) % 4294967296)) ∧
  (∀ (t : Nat) (p : Fin 2) (s : State),
      s.trunk.ports.length = 2 →
      (active s).isSome = true →
      (portOf s p.val).state = 2 →
      (portOf s p.val).started + 100 * Config.msCycles ≤ max s.clk.fab t →
      Runs (.helloRetry t p) s (fun u => SentOn u p.val 254 0 (.hello (ownHello p.val u)) ∧ (portOf u p.val).started
        = max s.clk.fab t)) ∧
  (∀ (t : Nat) (s : State),
      isTampered s = true →
      (active s).isSome = true →
      Runs (.tamperHello t) s (fun u => SentOn u 0 254 0 (.hello (ownHello 0 u)) ∧ SentOn u 1 254 0 (.hello
        (ownHello 1 u)))) ∧
  (∀ (t : Nat) (p : Fin 2) (m : OfferMsg) (y : HelloMsg) (s : State),
      s.trunk.ports.length = 2 →
      (portOf s p.val).state = 2 →
      (portOf s p.val).peer = some y →
      y.node < modId s →
      isTampered s = false →
      m.proofOk = true →
      m.nonceOk = true →
      (active s).isSome = true →
      Runs (.offer t p m) s (fun u => 3 ≤ (portOf u p.val).state ∧ (portOf u p.val).grant = m.grant ∧ (portOf u
        p.val).wasUp = true ∧ (portOf u p.val).fcntRx = 0 ∧ SentOn u p.val 254 0 (.accept (ownProof p.val y (tick t
        s))))) ∧
  (∀ (t : Nat) (p : Fin 2) (m : OfferMsg) (y : HelloMsg) (s : State),
      (portOf s p.val).state = 2 →
      (portOf s p.val).peer = some y →
      y.node < modId s →
      isTampered s = false →
      (m.proofOk = false ∨ m.nonceOk = false) →
      counts s = true →
      Runs (.offer t p m) s (fun u => portsOf u = portsOf s ∧ u.trunk.topo = s.trunk.topo ∧ cntRead u 0x30015 0 0 =
        (cntRead s 0x30015 0 0 + 1) % 4294967296)) ∧
  (∀ (t : Nat) (p : Fin 2) (m : OfferMsg) (y : HelloMsg) (s : State),
      s.trunk.ports.length = 2 →
      (portOf s p.val).state = 2 →
      (portOf s p.val).peer = some y →
      modId s ≤ y.node →
      isTampered s = false →
      m.proofOk = true →
      m.nonceOk = true →
      Runs (.accept t p m) s (fun u => 3 ≤ (portOf u p.val).state ∧ (portOf u p.val).grant = m.grant ∧ (portOf u
        p.val).wasUp = true ∧ (portOf u p.val).fcntRx = 0)) ∧
  (∀ (t : Nat) (p : Fin 2) (s : State),
      s.trunk.ports.length = 2 →
      (active s).isSome = true →
      3 ≤ (portOf s p.val).state →
      Runs (.linkDown t p) s (fun u => (portOf u p.val).state = (if (portOf s p.val).present then 1 else 0) ∧
        (portOf u p.val).peer = none ∧ u.dict.sticky.getLsbD 52 = true ∧ (3 ≤ (portOf s (1 - p.val)).state → Flooded u
        (1 - p.val) (.breakMsg (modId s) (neighbour (portOf s p.val)) s.trunk.tgen)))) ∧
  (∀ (t sid : Nat) (h : Hdr) (args : List TVal) (s : State),
      passes 0x30310 [.int 2 0 1] false t h args sid s = true →
      s.trunk.ports.length = 2 →
      Runs (.portRestart t h args) s (fun u => (portOf u (argN args 0)).state = (if (portOf s (argN args 0)).present
        then 1 else 0) ∧ (portOf u (argN args 0)).peer = none ∧ Answered u sid h (okReply 0x30310))) ∧
  (∀ (t : Nat) (p : Fin 2) (s : State),
      counts s = true →
      Runs (.pauseFrame t p) s (fun u => portsOf u = portsOf s ∧ u.trunk.topo = s.trunk.topo ∧ cntRead u 0x30018 0 0
        = (cntRead s 0x30018 0 0 + 1) % 4294967296))

/-- Frames are stored, passed on or dropped; credits are told (R307, R308, R311, R312, R314, R315). A frame with a good
tag, a new frame count and its type's class that is for this node, in class U, N or S and within its source's share,
sets the count received and is held in the store. One for another node, with a route to an up port where nothing
waits and link credit is held, not crossing the dateline, leaves there with one hop less. One with an old count
changes no port and is counted; one with a bad tag leaves the count received and is counted. CREDIT takes the
partner's counters modulo 65536 and DCREDIT a destination's freed bytes and grants. CREDIT_SEND, 1 ms after the last
or 2 µs after the first unreported free, sends the freed counters; DCREDIT_SEND, at 1 KiB held or 10 ms after the
last, empties the store of a source with a route, adds what it held to what is freed and sends that, or queues it
for credit. What leaves needs an active lane. -/
def Obligations.FramesAndCredit : Prop :=
  (∀ (t : Nat) (p : Fin 2) (f : TrunkFrame) (s : State),
      s.trunk.ports.length = 2 →
      3 ≤ (portOf s p.val).state →
      f.tagOk = true →
      (portOf s p.val).fcntRx < f.fcnt →
      (mtypeClasses f.mtype).contains f.cls = true →
      (f.cls = 3 → f.src = masterId s) →
      f.dst = modId s →
      f.cls ≠ 0 →
      cN (srcOf s f.src).held (dcls f.cls) + frameBytes f.len ≤ shareOf s f.src (dcls f.cls) →
      dcls f.cls < (srcOf s f.src).held.length →
      Runs (.passThrough t p f) s (fun u => (portOf u p.val).fcntRx = f.fcnt ∧ cN (srcOf u f.src).held (dcls f.cls)
        = cN (srcOf s f.src).held (dcls f.cls) + frameBytes f.len)) ∧
  (∀ (t e : Nat) (p : Fin 2) (f : TrunkFrame) (s : State),
      s.trunk.ports.length = 2 →
      3 ≤ (portOf s p.val).state →
      f.tagOk = true →
      (portOf s p.val).fcntRx < f.fcnt →
      (mtypeClasses f.mtype).contains f.cls = true →
      (f.cls = 3 → f.src = masterId s) →
      f.dst ≠ modId s →
      f.dst ≠ 254 →
      f.dst ≠ 255 →
      1 < f.hops →
      route s f.dst = some e →
      (masterId s ≠ modId s ∨ e = p.val) →
      (active s).isSome = true →
      3 ≤ (portOf s e).state →
      (portOf s e).wait = [] →
      (portOf s e).flood = [] →
      s.trunk.voq = [] →
      linkCredit (portOf s e) f.cls f.vc (frameUnits f.len) = true →
      Runs (.passThrough t p f) s (fun u => (portOf u p.val).fcntRx = f.fcnt ∧ ∃ g tag, g.dst = f.dst ∧ g.cls =
        f.cls ∧ g.src = f.src ∧ g.vc = f.vc ∧ g.hops = f.hops - 1 ∧ Sent u (.trunk e g .passed tag))) ∧
  (∀ (t : Nat) (p : Fin 2) (f : TrunkFrame) (s : State),
      s.trunk.ports.length = 2 →
      3 ≤ (portOf s p.val).state →
      f.fcnt ≤ (portOf s p.val).fcntRx →
      counts s = true →
      Runs (.passThrough t p f) s (fun u => portsOf u = portsOf s ∧ u.trunk.topo = s.trunk.topo ∧ cntRead u 0x30015
        0 0 = (cntRead s 0x30015 0 0 + 1) % 4294967296)) ∧
  (∀ (t : Nat) (p : Fin 2) (f : TrunkFrame) (s : State),
      s.trunk.ports.length = 2 →
      3 ≤ (portOf s p.val).state →
      f.tagOk = false →
      counts s = true →
      Runs (.passThrough t p f) s (fun u => (portOf u p.val).fcntRx = (portOf s p.val).fcntRx ∧ cntRead u 0x30015 0
        0 = (cntRead s 0x30015 0 0 + 1) % 4294967296)) ∧
  (∀ (t : Nat) (p : Fin 2) (fr : List Nat) (s : State),
      s.trunk.ports.length = 2 →
      3 ≤ (portOf s p.val).state →
      Runs (.credit t p fr) s (fun u => (portOf u p.val).freed = (List.range 8).map (fun i => cN fr i % 65536))) ∧
  (∀ (t : Nat) (p : Fin 2) (s : State),
      s.trunk.ports.length = 2 →
      (active s).isSome = true →
      3 ≤ (portOf s p.val).state →
      ((portOf s p.val).lastCredit + Config.msCycles ≤ max s.clk.fab t ∨ (portOf s p.val).firstFree.any (fun f =>
        decide (f + 800 ≤ max s.clk.fab t)) = true) →
      Runs (.creditSend t p) s (fun u => (portOf u p.val).reported = (portOf s p.val).inFreed ∧ (portOf u
        p.val).firstFree = none ∧ (portOf u p.val).lastCredit = max s.clk.fab t ∧ SentOn u p.val 254 0 (.credit
        (portOf s p.val).inFreed))) ∧
  (∀ (t src : Nat) (fr hl gr : List Nat) (rs : Bool) (s : State),
      Runs (.dcredit t src rs fr hl gr) s (fun u => (destOf u src).grant = (List.range 3).map (fun i => 64 * cN gr
        i) ∧ (destOf u src).freed = (List.range 3).map (fun i => cN fr i))) ∧
  (∀ (t dst : Nat) (s : State),
      (active s).isSome = true →
      (route s dst).isSome = true →
      (1024 ≤ cN (srcOf s dst).held 0 + cN (srcOf s dst).held 1 + cN (srcOf s dst).held 2 ∨ (srcOf s dst).sentAt +
        10 * Config.msCycles ≤ max s.clk.fab t) →
      Runs (.dcreditSend t dst) s (fun u => (srcOf u dst).held = [0, 0, 0] ∧ (srcOf u dst).freed = (List.range
        3).map (fun i => (cN (srcOf s dst).freed i + cN (srcOf s dst).held i) % 4294967296) ∧ (srcOf u dst).sentAt =
        max s.clk.fab t ∧ ∃ g, TrunkSent u dst 0 (.dcredit false (srcOf u dst).freed [0, 0, 0] g)))

/-- The ring's topology is flooded, adopted, broken and handed over (R304, R316, R317, R324, R334). With no TOPO
deferred, a TOPO of a higher generation that removes a link and moves no anchor is in force at once; one that
removes none waits for the next superframe boundary, with the TOPO in force as it was. A deferred TOPO is in force
at its boundary, and its dateline is the master. TOPO_FLOOD at the master sends the TOPO in force by each port with
its handshake done, or it waits there for link credit. The master keeps another node's link report; a member's
LINK_REPORT_PERIODIC sends its own to the master, or it waits for credit. A BREAK of this generation or a later one
of a link not cut sets RING_OPEN, and at a member the link is cut and the TOPO in force stays. MASTER_HANDOVER with
0 at the head, to a deputy heard and locked, is answered with the apply ASN and kept; at that ASN the duties are the
deputy's, or node 0's on the way back. What leaves needs an active lane. -/
def Obligations.RingTopology : Prop :=
  (∀ (t : Nat) (p : Fin 2) (m o : TopoMsg) (s : State),
      3 ≤ (portOf s p.val).state →
      s.trunk.later = none →
      seqHigher m.tgen s.trunk.tgen = true →
      s.trunk.topo = some o →
      removesLink o m = true →
      m.anchor = o.anchor →
      Runs (.topo t p m) s (fun u => u.trunk.topo = some m ∧ u.trunk.tgen = m.tgen ∧ u.trunk.later = none)) ∧
  (∀ (t : Nat) (p : Fin 2) (m o : TopoMsg) (s : State),
      3 ≤ (portOf s p.val).state →
      s.trunk.later = none →
      seqHigher m.tgen s.trunk.tgen = true →
      s.trunk.topo = some o →
      removesLink o m = false →
      Runs (.topo t p m) s (fun u => u.trunk.topo = s.trunk.topo ∧ u.trunk.later = some (m, boundaryAfter (tick t s)
        1))) ∧
  (∀ (t b : Nat) (m : TopoMsg) (s : State),
      s.trunk.later = some (m, b) →
      b ≤ asn (tick t s) →
      Runs (.topoDeferredAdopt t) s (fun u => u.trunk.topo = some m ∧ u.trunk.tgen = m.tgen ∧ u.trunk.later = none ∧
        masterId u = m.dateline)) ∧
  (∀ (t : Nat) (p : Fin 2) (m : TopoMsg) (s : State),
      s.trunk.topo = some m →
      actsMaster s = true →
      (active s).isSome = true →
      s.trunk.ports.length = 2 →
      3 ≤ (portOf s p.val).state →
      Runs (.topoFlood t) s (fun u => Flooded u p.val (.topo m))) ∧
  (∀ (t n a1 a2 b1 b2 : Nat) (s : State),
      actsMaster s = true →
      n ≠ modId s →
      n ≤ 65 →
      Runs (.linkReport t n a1 a2 b1 b2) s (fun u => mget u.trunk.reports n = some (a1, a2, b1, b2))) ∧
  (∀ (t p : Nat) (s : State),
      actsMaster s = false →
      commissioned s = true →
      route s (masterId s) = some p →
      (active s).isSome = true →
      Runs (.linkReportPeriodic t) s (fun u => TrunkSent u (masterId s) 0 (.linkReport (modId s) (ownReport s).1
        (ownReport s).2.1 (ownReport s).2.2.1 (ownReport s).2.2.2))) ∧
  (∀ (t a b g : Nat) (p : Fin 2) (s : State),
      3 ≤ (portOf s p.val).state →
      isCut s a b = false →
      seqHigher s.trunk.tgen g = false →
      Runs (.breakMsg t p a b g) s (fun u => u.dict.sticky.getLsbD 52 = true ∧ (actsMaster s = false → isCut u a b =
        true ∧ u.trunk.topo = s.trunk.topo))) ∧
  (∀ (t sid : Nat) (h : Hdr) (args : List TVal) (s : State),
      passes 0x30300 [.enum [0, 1]] false t h args sid s = true →
      actsMaster s = true →
      argN args 0 = 0 →
      modId s = 0 →
      memberLocked (tick t s) (getN s 0x30110) = true →
      Runs (.masterHandover t h args) s (fun u => u.trunk.hand = some (false, applyAsn (tick t s)) ∧ Answered u sid
        h { okReply 0x30300 with applyAsn := applyAsn (tick t s) })) ∧
  (∀ (t a : Nat) (b : Bool) (s : State),
      s.trunk.hand = some (b, a) →
      a ≤ asn (tick t s) →
      Runs (.handoverApply t) s (fun u => u.trunk.hand = none ∧ masterId u = (if b then 0 else getN s 0x30110)))

/-- The master relays to members and watches their status (R66, R67, R321, R323). At the acting master a datagram of a
head-end with a good relay header, for a reachable module, goes on to it, in class U with TCLASS 1 and N else; a
member's datagram for a peer of the service port leaves there. A bad relay header (version, TCLASS above 1,
reserved) changes no port and is counted. The master keeps a member's STATUS with the time it came; a member unheard
for more than 3 s is silent and MEMBER_SILENT stands; a member's STATUS_SEND sends its STATUS to the master. What is
sent to a node leaves, or waits for credit, and needs an active lane. -/
def Obligations.CascadeService : Prop :=
  (∀ (t src m c size p : Nat) (y : Peer) (s : State),
      c ≤ 1 →
      64 ≤ src →
      actsMaster s = true →
      m ≠ modId s →
      m ≤ 63 →
      route s m = some p →
      (active s).isSome = true →
      Runs (.ibierFrame t ⟨src, y⟩ 1 m c 0 size) s (fun u => TrunkSent u m (if c = 1 then 1 else 2) (.relay y m c
        size))) ∧
  (∀ (t src m c size : Nat) (y : Peer) (s : State),
      c ≤ 1 →
      src < 64 →
      actsMaster s = true →
      y.service = true →
      (active s).isSome = true →
      Runs (.ibierFrame t ⟨src, y⟩ 1 m c 0 size) s (fun u => Sent u (.relayed y m c size))) ∧
  (∀ (t src v m c r size : Nat) (y : Peer) (s : State),
      (v ≠ 1 ∨ 1 < c ∨ r ≠ 0) →
      counts s = true →
      Runs (.ibierFrame t ⟨src, y⟩ v m c r size) s (fun u => portsOf u = portsOf s ∧ u.trunk.topo = s.trunk.topo ∧
        cntRead u 0x00012 0 0 = (cntRead s 0x00012 0 0 + 1) % 4294967296)) ∧
  (∀ (t : Nat) (m : StatusMsg) (s : State),
      actsMaster s = true →
      m.module < 64 →
      Runs (.status t m) s (fun u => mget u.trunk.members m.module = some
        { status := m, at_ := max s.clk.fab t, silent := false })) ∧
  (∀ (t p : Nat) (s : State),
      actsMaster s = false →
      commissioned s = true →
      route s (masterId s) = some p →
      (active s).isSome = true →
      Runs (.statusSend t) s (fun u => TrunkSent u (masterId s) 2 (.status (ownStatus (tick t s))))) ∧
  (∀ (t n : Nat) (m : Member) (s : State),
      mget s.trunk.members n = some m →
      actsMaster s = true →
      m.at_ + 3 * Config.secCycles < max s.clk.fab t →
      Runs (.memberSilentTimeout t n) s (fun u => mget u.trunk.members n = some { m with silent := true } ∧
        u.dict.live.getLsbD 53 = true))

/-- Sync messages are followed, sent, timed and missed; the real-time clocks are realigned, compensated, trimmed and
watched (R313, R320, R330, R331, R334, R335, R328, R332, R337). On a member locked once, with no ASN conflict and no
HOLDOVER, a Sync with a valid TLV on the slave port, at most 100 ms off, keeps the offset and the time heard, clears
the misses, counts in the run of offsets within 10 µs and slews by two fifths of a cycle per nanosecond against it;
the eighth of a run is PTP_LOCKED. A Sync with no valid TLV changes nothing of time and is counted. A master port
sends Sync with its domain and TIME64, and an Announce where none was sent before; time stays. A round trip is kept,
and LINK_LONG is that it exceeds 220 µs. At a member under a TOPO a miss is counted when it is due after the last
Sync; the third, 375 ms after it, on a member locked once, enters HOLDOVER, which ends PTP_LOCKED. An offset
unexplained for 3 s is an ASN conflict and HOLDOVER. A slew of the slot timer ends below 10 µs with TAI as it is.
RTC_REALIGN realigns a running lane's RTC that has not stopped. The battery-domain temperature within its range
compensates both RTCs. While PTP_LOCKED the measured rate, limited to ±5,000, is RATE_TRIM with source 1 and the
RTC's rate. With no lock, the reference phase present for 16 h and no frequency fall-back, at 50 Hz, a window within
200 ppm enters the list of windows and moves RATE_TRIM by at most 1.0 ppm, with source 2. An oscillator that stops
is so marked and counted, and sets OSC_STOPPED where it is the active lane's and only there. -/
def Obligations.TimeTransfer : Prop :=
  (∀ (t : Nat) (p : Fin 2) (off : Int) (s : State),
      3 ≤ (portOf s p.val).state →
      isSlavePort s p.val = true →
      s.time.everLocked = true →
      s.time.conflict = false →
      s.time.holdover = false →
      off.natAbs ≤ 100000000 →
      Runs (.ptpSync t p off true) s (fun u => getI u 0x20013 = off ∧ u.time.lastSync = max s.clk.fab t ∧
        u.time.misses = 0 ∧ u.time.held = false ∧ u.time.offsetRun = min (if off.natAbs ≤ 10000 then s.time.offsetRun
        + 1 else 0) 8 ∧ u.time.locked = decide (8 ≤ (if off.natAbs ≤ 10000 then s.time.offsetRun + 1 else 0)) ∧
        u.clk.slew.map (fun w => w.amt) = (if -(off * 2 / 5) = 0 then none else some (-(off * 2 / 5))))) ∧
  (∀ (t : Nat) (p : Fin 2) (off : Int) (s : State),
      3 ≤ (portOf s p.val).state →
      counts s = true →
      Runs (.ptpSync t p off false) s (fun u => u.time = s.time ∧ cntRead u 0x30015 0 0 = (cntRead s 0x30015 0 0 +
        1) % 4294967296)) ∧
  (∀ (t : Nat) (p : Fin 2) (s : State),
      (active s).isSome = true →
      3 ≤ (portOf s p.val).state →
      isSlavePort s p.val = false →
      Runs (.ptpSyncSend t p) s (fun u => Sent u (.ptpSync p.val (getN s 0x30120) (time64 (tick t s))) ∧ ((portOf s
        p.val).announced = none → Sent u (.ptpAnnounce p.val (getN s 0x30120))) ∧ u.time = s.time)) ∧
  (∀ (t r : Nat) (p : Fin 2) (s : State),
      s.trunk.ports.length = 2 →
      3 ≤ (portOf s p.val).state →
      r ≤ 4294967295 →
      Runs (.pdelayExchange t p r) s (fun u => (portOf u p.val).rtt = r ∧ (portOf u p.val).long = decide (220000 <
        r) ∧ (portOf u p.val).exchanges = (portOf s p.val).exchanges + 1)) ∧
  (∀ (t : Nat) (s : State),
      actsMaster s = false →
      s.trunk.topo.isSome = true →
      s.time.lastSync + 375 * Config.msCycles ≤ max s.clk.fab t →
      s.time.misses = 2 →
      s.time.everLocked = true →
      s.time.holdover = false →
      Runs (.syncMiss t) s (fun u => u.time.holdover = true ∧ u.time.holdoverAt = max s.clk.fab t ∧ u.time.locked =
        false ∧ u.dict.sticky.getLsbD 33 = true)) ∧
  (∀ (t : Nat) (s : State),
      actsMaster s = false →
      s.trunk.topo.isSome = true →
      s.time.lastSync + missAfter (min 3 (s.time.misses + 1)) ≤ max s.clk.fab t →
      Runs (.syncMiss t) s (fun u => u.time.misses = s.time.misses + 1 ∧ u.time.goodRun = 0)) ∧
  (∀ (t f : Nat) (s : State),
      s.time.unexplained = some f →
      f + 3 * Config.secCycles ≤ max s.clk.fab t →
      s.time.conflict = false →
      Runs (.asnConflictTimeout t) s (fun u => u.time.conflict = true ∧ u.time.holdover = true ∧ u.dict.live.getLsbD
        34 = true)) ∧
  (∀ (t d : Nat) (s : State),
      s.time.asnSlewing = true →
      d < 10000 →
      Runs (.asnSlewDone t d) s (fun u => u.time.asnSlewing = false ∧ u.clk.aslew = none ∧ u.clk.taiOff =
        s.clk.taiOff)) ∧
  (∀ (t : Nat) (l : Lane) (s : State),
      (s.lanes.get l).running = true →
      (s.time.rtcs.get l).stopped = false →
      Runs (.rtcRealign t) s (fun u => (u.time.rtcs.get l).realigned = max s.clk.fab t ∧ (u.time.rtcs.get l).stopped
        = false)) ∧
  (∀ (t : Nat) (x : Int) (s : State),
      -32768 ≤ x →
      x ≤ 32767 →
      Runs (.rtcCompensation t x) s (fun u => u.time.rtcs.a.temp = x ∧ u.time.rtcs.b.temp = x)) ∧
  (∀ (t : Nat) (r : Int) (s : State),
      s.time.locked = true →
      Runs (.ptpTrimUpdate t r) s (fun u => getI u 0x20015 = max (-5000) (min 5000 r) ∧ getN u 0x20016 = 1 ∧
        u.time.rtcs.a.rate = max (-5000) (min 5000 r) ∧ u.time.trimmed = true)) ∧
  (∀ (t c f : Nat) (s : State),
      s.time.locked = false →
      s.met.refSince = some f →
      f + 57600 * Config.secCycles ≤ max s.clk.fab t →
      s.met.freqFall = false →
      getN s 0x80103 = 0 →
      49990 ≤ c →
      c ≤ 50010 →
      (getI s 0x20015).natAbs ≤ 5000 →
      Runs (.mainsTrimWindow t c) s (fun u => (getI u 0x20015 - getI s 0x20015).natAbs ≤ 10 ∧ getN u 0x20016 = 2 ∧
        u.time.windows = ((((c : Int) - 50000) * 10000000 / 50000) :: s.time.windows).take 64)) ∧
  (∀ (t : Nat) (l : Lane) (s : State),
      Runs (.oscStopDetect t l) s (fun u => (u.time.rtcs.get l).stopped = true ∧ (u.time.rtcs.get l).stops =
        (s.time.rtcs.get l).stops + 1 ∧ (active s = some l → u.time.oscStopped = true) ∧ (active s ≠ some l →
        u.time.oscStopped = s.time.oscStopped)))

/-- Time is set, slewed or stepped, and alarms fire (R333, R334, R336, R340, R341). A TIME_SET of an accepted source
other than TRUNK, not before 00:00:01 TAI, keeps its source and time; a correction above 128 ms waits as a step for
the first superframe boundary at least 40 ms ahead, with its client, and no slew runs; a smaller one other than 0 is
slewed from now, and no step waits. At its boundary a waiting step moves TAI by its correction, no slew runs, and
the ASN is as it was. A slew that has done its whole amount ends with TIME64 and the ASN as they were. At the leap
instant UTC_OFFSET takes its new value, LEAP_NEXT clears and TIME64 is as it was. An enabled alarm whose instance is
reached, with time set, has that instance as its last, the next after it, and one more in its count. -/
def Obligations.TimeOfDay : Prop :=
  (∀ (t sid : Nat) (h : Hdr) (args : List TVal) (s : State),
      passes 0x20300 [.enum [0, 1, 2, 3], cTime] false t h args sid s = true →
      timeSourceOk (argN args 0) (tick t s) = true →
      argN args 0 ≠ 0 →
      16777216 ≤ argN args 1 →
      stepLimit < (timeSetCorr (argN args 0) (argN args 1) (foldSlew (tick t s))).natAbs →
      Runs (.timeSet t h args) s (fun u => u.time.pendingStep = some (timeSetCorr (argN args 0) (argN args 1)
        (foldSlew (tick t s)), boundaryAfter (foldSlew (tick t s)) (40 * Config.msCycles), argN args 0, (caller t sid
        s).client) ∧ u.clk.slew = none ∧ getN u 0x2001B = argN args 0 ∧ getN u 0x20017 = argN args 1)) ∧
  (∀ (t sid : Nat) (h : Hdr) (args : List TVal) (s : State),
      passes 0x20300 [.enum [0, 1, 2, 3], cTime] false t h args sid s = true →
      timeSourceOk (argN args 0) (tick t s) = true →
      argN args 0 ≠ 0 →
      16777216 ≤ argN args 1 →
      (timeSetCorr (argN args 0) (argN args 1) (foldSlew (tick t s))).natAbs ≤ stepLimit →
      timeSetCorr (argN args 0) (argN args 1) (foldSlew (tick t s)) ≠ 0 →
      Runs (.timeSet t h args) s (fun u => u.time.pendingStep = none ∧ u.clk.slew = some
        { amt := timeSetCorr (argN args 0) (argN args 1) (foldSlew (tick t s)), start := max s.clk.fab t } ∧ getN u
        0x2001B = argN args 0 ∧ getN u 0x20017 = argN args 1)) ∧
  (∀ (t a src : Nat) (x : Int) (b : Bytes) (s : State),
      s.time.pendingStep = some (x, a, src, b) →
      a ≤ asn (tick t s) →
      Runs (.timeStep t) s (fun u => u.time.pendingStep = none ∧ u.clk.taiOff = (foldSlew (tick t s)).clk.taiOff + x
        ∧ asn u = asn (tick t s) ∧ u.clk.slew = none)) ∧
  (∀ (t : Nat) (w : Slew) (s : State),
      s.clk.slew = some w →
      slewDone (max s.clk.fab t) (some w) = w.amt →
      Runs (.slewComplete t) s (fun u => u.clk.slew = none ∧ time64 u = time64 (tick t s) ∧ asn u = asn (tick t s))) ∧
  (∀ (t : Nat) (s : State),
      rNat (getRow s 0x20101 0) 0 ≠ 0 →
      rNat (getRow s 0x20101 0) 0 ≤ time64 (tick t s) →
      Runs (.leapInstant t) s (fun u => getI u 0x20100 = rInt (getRow s 0x20101 0) 1 ∧ getC u 0x20101 0 0 = 0 ∧
        time64 u = time64 (tick t s))) ∧
  (∀ (t : Nat) (r : Fin 32) (s : State),
      rNat (getRow s 0x20130 r.val) 0 = 1 →
      rNat (getRow s 0x20131 r.val) 0 ≠ 0 →
      rNat (getRow s 0x20131 r.val) 0 ≤ time64 (tick t s) →
      timeUnset (tick t s) = false →
      Runs (.alarmFire t r) s (fun u => getC u 0x20131 r.val 1 = rNat (getRow s 0x20131 r.val) 0 ∧ getC u 0x20131
        r.val 0 = alarmNext (getRow s 0x20130 r.val) (rNat (getRow s 0x20131 r.val) 0) ∧ getC u 0x20131 r.val 2 =
        (rNat (getRow s 0x20131 r.val) 2 + 1) % 4294967296))

/-- Each vault operation starts with GO and ends with a result or a cause (R352, R353, R405). GO with any of the ten
operations, from a core that reaches the mailbox, makes that lane's idle vault busy with it and leaves the other
lane's as it was; a DERIVE while it is busy is ignored and counted; a SIGN from a core that does not reach it
changes no vault and gets a bus error. At its end an operation leaves the vault idle: with a failed known-answer
test, ERR, cause 3 and cleared DATA; SIGN with a valid handle 96 bytes of output, and with an invalid one ERR, cause
2 and cleared DATA; DERIVE with a label of the tree whose root is live, a handle from 1 to 65,535 for the key that
the KDF gives of that root, label, context and length; a VERIFY that fails ERR, cause 4 and cleared DATA. -/
def Obligations.VaultMailbox : Prop :=
  (∀ (t : Nat) (l : Lane) (c : Core) (s : State),
      reachesVault c = true →
      (vaultOf s l).busy = none →
      Runs (.derive t l c) s (fun u => (vaultOf u l).busy = some (.derive, c) ∧ (vaultOf u l).op = vaultCode .derive
        ∧ vaultOf u (otherLane l) = vaultOf s (otherLane l))) ∧
  (∀ (t : Nat) (l : Lane) (c : Core) (s : State),
      reachesVault c = true →
      (vaultOf s l).busy = none →
      Runs (.loadSlot t l c) s (fun u => (vaultOf u l).busy = some (.loadSlot, c) ∧ (vaultOf u l).op = vaultCode
        .loadSlot ∧ vaultOf u (otherLane l) = vaultOf s (otherLane l))) ∧
  (∀ (t : Nat) (l : Lane) (c : Core) (s : State),
      reachesVault c = true →
      (vaultOf s l).busy = none →
      Runs (.sign t l c) s (fun u => (vaultOf u l).busy = some (.sign, c) ∧ (vaultOf u l).op = vaultCode .sign ∧
        vaultOf u (otherLane l) = vaultOf s (otherLane l))) ∧
  (∀ (t : Nat) (l : Lane) (c : Core) (s : State),
      reachesVault c = true →
      (vaultOf s l).busy = none →
      Runs (.verify t l c) s (fun u => (vaultOf u l).busy = some (.verify, c) ∧ (vaultOf u l).op = vaultCode .verify
        ∧ vaultOf u (otherLane l) = vaultOf s (otherLane l))) ∧
  (∀ (t : Nat) (l : Lane) (c : Core) (s : State),
      reachesVault c = true →
      (vaultOf s l).busy = none →
      Runs (.ecdh t l c) s (fun u => (vaultOf u l).busy = some (.ecdh, c) ∧ (vaultOf u l).op = vaultCode .ecdh ∧
        vaultOf u (otherLane l) = vaultOf s (otherLane l))) ∧
  (∀ (t : Nat) (l : Lane) (c : Core) (s : State),
      reachesVault c = true →
      (vaultOf s l).busy = none →
      Runs (.aeadSeal t l c) s (fun u => (vaultOf u l).busy = some (.aeadSeal, c) ∧ (vaultOf u l).op = vaultCode
        .aeadSeal ∧ vaultOf u (otherLane l) = vaultOf s (otherLane l))) ∧
  (∀ (t : Nat) (l : Lane) (c : Core) (s : State),
      reachesVault c = true →
      (vaultOf s l).busy = none →
      Runs (.aeadOpen t l c) s (fun u => (vaultOf u l).busy = some (.aeadOpen, c) ∧ (vaultOf u l).op = vaultCode
        .aeadOpen ∧ vaultOf u (otherLane l) = vaultOf s (otherLane l))) ∧
  (∀ (t : Nat) (l : Lane) (c : Core) (s : State),
      reachesVault c = true →
      (vaultOf s l).busy = none →
      Runs (.hmac t l c) s (fun u => (vaultOf u l).busy = some (.hmac, c) ∧ (vaultOf u l).op = vaultCode .hmac ∧
        vaultOf u (otherLane l) = vaultOf s (otherLane l))) ∧
  (∀ (t : Nat) (l : Lane) (c : Core) (s : State),
      reachesVault c = true →
      (vaultOf s l).busy = none →
      Runs (.wrapExport t l c) s (fun u => (vaultOf u l).busy = some (.wrapExport, c) ∧ (vaultOf u l).op = vaultCode
        .wrapExport ∧ vaultOf u (otherLane l) = vaultOf s (otherLane l))) ∧
  (∀ (t : Nat) (l : Lane) (c : Core) (s : State),
      reachesVault c = true →
      (vaultOf s l).busy = none →
      Runs (.unwrapImport t l c) s (fun u => (vaultOf u l).busy = some (.unwrapImport, c) ∧ (vaultOf u l).op =
        vaultCode .unwrapImport ∧ vaultOf u (otherLane l) = vaultOf s (otherLane l))) ∧
  (∀ (t : Nat) (l : Lane) (c : Core) (s : State),
      reachesVault c = true →
      (vaultOf s l).busy.isSome = true →
      Runs (.derive t l c) s (fun u => (vaultOf u l) = { (vaultOf s l) with ignored := (vaultOf s l).ignored + 1 })) ∧
  (∀ (t : Nat) (l : Lane) (c : Core) (s : State),
      reachesVault c = false →
      Runs (.sign t l c) s (fun u => (vaultOf u l) = (vaultOf s l) ∧ Sent u (.busError l c 0x40C00000))) ∧
  (∀ (t : Nat) (l : Lane) (c : Core) (op : VaultOp) (b : Bool) (s : State),
      (vaultOf s l).busy = some (op, c) →
      (vaultOf s l).katBad = true →
      Runs (.vaultOpDone t l b) s (fun u => (vaultOf u l).busy = none ∧ (vaultOf u l).err = true ∧ (vaultOf u
        l).cause = 3 ∧ (vaultOf u l).data = [] ∧ (vaultOf u l).outLen = 0)) ∧
  (∀ (t : Nat) (l : Lane) (c : Core) (b : Bool) (s : State),
      (vaultOf s l).busy = some (.sign, c) →
      (vaultOf s l).katBad = false →
      Runs (.vaultOpDone t l b) s (fun u => (vaultOf u l).busy = none ∧ ((mget (vaultOf s l).handles (vaultOf s
        l).handle).isSome = true → (vaultOf u l).outLen = 96 ∧ (vaultOf u l).err = (vaultOf s l).err) ∧ ((mget
        (vaultOf s l).handles (vaultOf s l).handle).isSome = false → (vaultOf u l).err = true ∧ (vaultOf u l).cause =
        2 ∧ (vaultOf u l).data = []))) ∧
  (∀ (t : Nat) (r : String × Nat × Bool × Nat) (l : Lane) (c : Core) (b : Bool) (s : State),
      (vaultOf s l).busy = some (.derive, c) →
      (vaultOf s l).katBad = false →
      treeRow (mailLabel (mailBytes (vaultOf s l) (min (vaultOf s l).inLen 2048))) = some r →
      rootLive s (vaultOf s l) r.2.1 = true →
      Runs (.vaultOpDone t l b) s (fun u => (vaultOf u l).busy = none ∧ 1 ≤ (vaultOf u l).handle ∧ (vaultOf u
        l).handle ≤ 65535 ∧ (vaultOf u l).keys = true ∧ mget (vaultOf u l).handles (vaultOf u l).handle = some (kdf
        (rootBytes (vaultOf s l) r.2.1) r.1 (if r.2.2.1 then fit 1 (mailContext (mailBytes (vaultOf s l) (min (vaultOf
        s l).inLen 2048))) else []) r.2.2.2))) ∧
  (∀ (t : Nat) (l : Lane) (c : Core) (s : State),
      (vaultOf s l).busy = some (.verify, c) →
      (vaultOf s l).katBad = false →
      Runs (.vaultOpDone t l false) s (fun u => (vaultOf u l).busy = none ∧ (vaultOf u l).err = true ∧ (vaultOf u
        l).cause = 4 ∧ (vaultOf u l).data = []))

/-- Trips zeroise the owner root; suspensions begin and end (R362, R363, R364, R367, R369). With main power on and
OWNED, a trip of a live module-wide source takes both owner roots and all handles, every session and subscription,
and makes the module TAMPERED with cause 1, its source marked and sticky bit 16 set; one of a source not live is
only marked. A lane's own source, in OWNED with both vaults never zeroised and the other's root present, takes that
vault's root and handles and counts it, and a lane not active has no role afterwards. In sleep a live watched source
takes both owner roots and handles and enters the store of records, and in a dip of VBD waits in its latch with the
roots as they were. A missing root is copied from the other vault, whose test passed within 10 s and whose ROOT_ID
is right, at the active lane with a link up. ENC_SUSPEND of 1 to 3,600 s suspends for that time and is answered OK;
the suspension ends at its expiry while a lane runs. -/
def Obligations.Tamper : Prop :=
  (∀ (t : Nat) (n : Fin 11) (s : State),
      s.power.mainOn = true →
      (n.val < 3 ∨ 8 < n.val) →
      sourceLive (tick t s) n.val = true →
      s.life.state = .owned →
      Runs (.tamperTrip t n) s (fun u => u.life.state = .tampered ∧ u.lanes.a.vault.root = none ∧
        u.lanes.b.vault.root = none ∧ u.lanes.a.vault.handles = [] ∧ u.lanes.b.vault.handles = [] ∧ u.ib.sessions = []
        ∧ u.ib.subs = [] ∧ u.life.cause = 1 ∧ u.life.inputs.getLsbD n.val = true ∧ u.dict.sticky.getLsbD 16 = true)) ∧
  (∀ (t : Nat) (n : Fin 11) (s : State),
      s.power.mainOn = true →
      (n.val < 3 ∨ 8 < n.val) →
      sourceLive (tick t s) n.val = false →
      Runs (.tamperTrip t n) s (fun u => u.life.state = s.life.state ∧ u.life.inputs.getLsbD n.val = true ∧
        u.lanes.a.vault = s.lanes.a.vault)) ∧
  (∀ (t : Nat) (l : Lane) (n : Fin 11) (s : State),
      3 ≤ n.val →
      n.val ≤ 8 →
      (n.val + 1) % 2 = laneNo l →
      s.power.mainOn = true →
      s.life.state = .owned →
      s.lanes.a.vault.zeroTimes = [] →
      s.lanes.b.vault.zeroTimes = [] →
      (vaultOf s (otherLane l)).root.isSome = true →
      active s ≠ some l →
      Runs (.laneLocalTrip t l n) s (fun u => u.life.state = .owned ∧ (vaultOf u l).root = none ∧ (vaultOf u
        l).handles = [] ∧ (vaultOf u l).zeroised = (vaultOf s l).zeroised + 1 ∧ (vaultOf u (otherLane l)).root =
        (vaultOf s (otherLane l)).root ∧ (u.lanes.get l).role = .undecided)) ∧
  (∀ (t : Nat) (n : Fin 11) (s : State),
      s.power.mainOn = false →
      (n.val ≤ 2 ∨ n.val = 9) →
      sourceLive (tick t s) n.val = true →
      s.life.state ≠ .blank →
      s.life.state ≠ .scrapped →
      s.power.dip = none →
      Runs (.sleepTrip t n) s (fun u => u.lanes.a.vault.root = none ∧ u.lanes.b.vault.root = none ∧
        u.lanes.a.vault.handles = [] ∧ u.lanes.b.vault.handles = [] ∧ u.life.store ≠ [] ∧ u.life.inputs.getLsbD n.val
        = true)) ∧
  (∀ (t : Nat) (n : Fin 11) (d : Nat × Bool) (s : State),
      s.power.mainOn = false →
      (n.val ≤ 2 ∨ n.val = 9) →
      sourceLive (tick t s) n.val = true →
      s.life.state ≠ .blank →
      s.life.state ≠ .scrapped →
      s.power.dip = some d →
      s.power.tamperPending = none →
      Runs (.sleepTrip t n) s (fun u => u.power.tamperPending = some (BitVec.twoPow 16 n.val, time64 (tick t s)) ∧
        u.lanes.a.vault.root = s.lanes.a.vault.root ∧ u.life.store = s.life.store)) ∧
  (∀ (t f : Nat) (r : Bytes) (l : Lane) (s : State),
      s.life.state = .owned →
      (vaultOf s l).root = none →
      (vaultOf s (otherLane l)).root = some r →
      rootIdOf r = s.life.rootId →
      (vaultOf s (otherLane l)).katFab = some f →
      max s.clk.fab t ≤ f + 10 * Config.secCycles →
      (vaultOf s (otherLane l)).katBad = false →
      bridgeUp s = true →
      active s = some l →
      Runs (.rootCopy t l) s (fun u => (vaultOf u l).root = some r ∧ (vaultOf u l).unsealed = true ∧ (vaultOf u
        l).keys = true)) ∧
  (∀ (t sid : Nat) (h : Hdr) (args : List TVal) (s : State),
      passes 0x10160 [.sparse 3 [(0, 0), (60, 14400)]] false t h args sid s = true →
      argN args 0 ≠ 0 →
      argN args 0 ≤ 3600 →
      Runs (.encSuspend t h args) s (fun u => u.life.suspend = some (max s.clk.fab t + argN args 0 *
        Config.secCycles, argN args 0 * 1000) ∧ Answered u sid h (okReply 0x10160))) ∧
  (∀ (t f n : Nat) (s : State),
      s.life.suspend = some (f, n) →
      f ≤ max s.clk.fab t →
      (s.lanes.a.running = true ∨ s.lanes.b.running = true) →
      Runs (.encSuspendExpiry t) s (fun u => u.life.suspend = none))

/-- The module is commissioned, recommissioned, returned, scrapped and restocked (R354, R357, R359, R360, R361, R368).
With no source tripped and a vault test good, COMMISSION with a good claim and no import makes the module OWNED with
an owner root in both vaults, A's unsealed, the wrong claims cleared and the return anchor kept; a wrong claim
counts, and the fifth locks out for 600 s, until the lockout expires. RECOMMISSION with a new root ends OWNED with
roots in both vaults, no lane in a role and no session; with a tamper trip during it, the roots and the life-cycle
state stay, and the answer is VAULT cause 1. RETURN_MODULE with the module's own SERIAL ends in RETURN with no owner
root and no trunk key ID, answered OK; SCRAP with it ends SCRAPPED, no root in either vault, both lanes stopped, the
outputs' scrap latch set and no session. The vendor's return command at level 4 in RETURN and the factory's roots in
BLANK make it STOCK. With an owner root and a vault test good, ESCROW_EXPORT with an ESCROW_KEY answers the blob,
and TRUNK_KEY_INSTALL of a good one keeps its key and ID, answered OK. -/
def Obligations.LifeCycle : Prop :=
  (∀ (t sid : Nat) (h : Hdr) (args : List TVal) (s : State) (b : Bool),
      passes 0x10300 [.text 8, .int 2 0 1, .octets 97, .int 2 0 3, .octets 173] false t h args sid s = true →
      s.life.lockout = none →
      s.life.inputs = 0 →
      (vaultOf s .A).katBad = false →
      argN args 1 = 0 →
      Runs (.commission t h args true b) s (fun u => u.life.state = .owned ∧ u.life.claimBad = 0 ∧ (vaultOf u
        .A).root.isSome = true ∧ (vaultOf u .B).root.isSome = true ∧ (vaultOf u .A).unsealed = true ∧ getRow u 0x10120
        0 = [vB true, .bytes (argB args 2), vN (argN args 3), .bytes []])) ∧
  (∀ (t sid : Nat) (h : Hdr) (args : List TVal) (s : State) (b : Bool),
      passes 0x10300 [.text 8, .int 2 0 1, .octets 97, .int 2 0 3, .octets 173] false t h args sid s = true →
      s.life.lockout = none →
      s.life.inputs = 0 →
      (vaultOf s .A).katBad = false →
      Runs (.commission t h args false b) s (fun u => u.life.state = s.life.state ∧ u.life.claimBad =
        s.life.claimBad + 1 ∧ u.life.lockout = (if 5 ≤ s.life.claimBad + 1 then some (max s.clk.fab t + 600 *
        Config.secCycles) else none))) ∧
  (∀ (t f : Nat) (s : State),
      s.life.lockout = some f →
      f ≤ max s.clk.fab t →
      Runs (.claimLockoutExpiry t) s (fun u => u.life.lockout = none ∧ u.life.claimBad = s.life.claimBad)) ∧
  (∀ (t sid : Nat) (h : Hdr) (args : List TVal) (s : State) (b : Bool),
      passes 0x10301 [.int 2 0 1, .octets 173] false t h args sid s = true →
      s.life.inputs = 0 →
      (vaultOf s .A).katBad = false →
      argN args 0 = 0 →
      Runs (.recommission t h args b false) s (fun u => u.life.state = .owned ∧ (vaultOf u .A).root.isSome = true ∧
        (vaultOf u .B).root.isSome = true ∧ u.lanes.a.role = .undecided ∧ u.lanes.b.role = .undecided ∧ u.ib.sessions
        = [])) ∧
  (∀ (t sid : Nat) (h : Hdr) (args : List TVal) (s : State) (b : Bool),
      passes 0x10301 [.int 2 0 1, .octets 173] false t h args sid s = true →
      s.life.inputs = 0 →
      (vaultOf s .A).katBad = false →
      argN args 0 = 0 →
      s.power.restart = none →
      Runs (.recommission t h args b true) s (fun u => u.life.state = s.life.state ∧ u.life.rootId = s.life.rootId ∧
        (vaultOf u .A).root = (vaultOf s .A).root ∧ (vaultOf u .B).root = (vaultOf s .B).root ∧ Answered u sid h
        { rVault 1 with obj := 0x10301 })) ∧
  (∀ (t sid : Nat) (h : Hdr) (args : List TVal) (s : State),
      passes 0x10302 [.octets 16] false t h args sid s = true →
      argB args 0 = fit 16 Config.serial →
      Runs (.returnModule t h args) s (fun u => u.life.state = .returned ∧ u.lanes.a.vault.root = none ∧
        u.lanes.b.vault.root = none ∧ u.life.trunkKeyId = List.replicate 8 0 ∧ Answered u sid h (okReply 0x10302))) ∧
  (∀ (t sid : Nat) (h : Hdr) (args : List TVal) (s : State),
      passes 0x10303 [.octets 16] false t h args sid s = true →
      argB args 0 = fit 16 Config.serial →
      s.life.state ≠ .scrapped →
      Runs (.scrap t h args) s (fun u => u.life.state = .scrapped ∧ u.lanes.a.vault.root = none ∧
        u.lanes.b.vault.root = none ∧ u.lanes.a.vault.roots = false ∧ u.lanes.b.vault.roots = false ∧
        u.lanes.a.running = false ∧ u.lanes.b.running = false ∧ u.io.scrap = true ∧ u.ib.sessions = [])) ∧
  (∀ (t sid : Nat) (h : Hdr) (args : List TVal) (s : State),
      arrives 3 false h sid s = true →
      h.obj / 65536 = 15 →
      s.life.state = .returned →
      plainRefused h sid (caller t sid s) (opState t h sid s) = none →
      (caller t sid s).level = 4 →
      Runs (.returnToStock t h args) s (fun u => u.life.state = .stock)) ∧
  (∀ (t : Nat) (s : State),
      s.life.state = .blank →
      Runs (.factoryRootsInstall t) s (fun u => u.life.state = .stock ∧ u.lanes.a.vault.roots = true ∧
        u.lanes.b.vault.roots = true)) ∧
  (∀ (t sid : Nat) (h : Hdr) (args : List TVal) (s : State),
      passes 0x10141 [] false t h args sid s = true →
      noEscrowKey s = false →
      ownerRoot s = true →
      (vaultOf s (servedBy s)).katBad = false →
      Runs (.escrowExport t h args) s (fun u => Answered u sid h
        { okReply 0x10141 with body := .raw (tagged [.octets 173] [.bytes (escrowBlob (opState t h sid s))]) })) ∧
  (∀ (t sid : Nat) (h : Hdr) (args : List TVal) (s : State),
      passes 0x10150 [.octets 173] false t h args sid s = true →
      ownerRoot s = true →
      (vaultOf s (servedBy s)).katBad = false →
      Runs (.trunkKeyInstall t h args true) s (fun u => u.life.trunkKeyId = ((argB args 0).drop 20).take 8 ∧
        u.life.trunkKey = blobKey (argB args 0) ∧ Answered u sid h (okReply 0x10150)))

/-- Records are submitted, held, written, repeated and read (R374, R376, R377, R380, R386, R387). A submission of at
least REC_MIN_SEV from a core of a running lane that is no policy core joins a queue with room with its lane as
ORIGIN, a LAGGING lane's its holding queue; a policy core changes nothing and gets a bus error. The engine takes the
oldest: with no page yet, it is the first record of page 0 with the next RSEQ, never 0; where it repeats the last
record of the open page, that one counts one more with the time between, and no RSEQ is given. At a notice window's
end every window is empty, with pages and RSEQ as they were. Where a summary's interval has ended, it begins anew
with no samples. REC_READ answers its batch, with the pages as they were. -/
def Obligations.RecorderWrites : Prop :=
  (∀ (t : Nat) (l : Lane) (c : Core) (r : RecIn) (s : State),
      isPolicy c = false →
      (s.lanes.get l).running = true →
      (s.lanes.get l).role ≠ .lagging →
      getN s 0xB0110 ≤ min r.sev 7 →
      s.recd.queue.length < 256 →
      Runs (.recordSubmit t l c r) s (fun u => u.recd.queue = s.recd.queue ++ [submitted l r (tick t s)] ∧
        u.recd.held = s.recd.held)) ∧
  (∀ (t : Nat) (l : Lane) (c : Core) (r : RecIn) (s : State),
      isPolicy c = false →
      (s.lanes.get l).running = true →
      (s.lanes.get l).role = .lagging →
      getN s 0xB0110 ≤ min r.sev 7 →
      (s.recd.held.get l).length < 64 →
      Runs (.recordSubmit t l c r) s (fun u => u.recd.queue = s.recd.queue ∧ u.recd.held.get l = s.recd.held.get l
        ++ [submitted l r (tick t s)])) ∧
  (∀ (t : Nat) (l : Lane) (c : Core) (r : RecIn) (s : State),
      isPolicy c = true →
      Runs (.recordSubmit t l c r) s (fun u => u.recd = s.recd ∧ Sent u (.busError l c 0x40700000))) ∧
  (∀ (t : Nat) (r : Record) (q : List Record) (s : State),
      s.recd.queue = r :: q →
      lastRec s = none →
      s.recd.pages = [] →
      Runs (.recordWrite t) s (fun u => u.recd.queue = q ∧ u.recd.rseq = (if (s.recd.rseq + 1) % 4294967296 = 0 then
        1 else (s.recd.rseq + 1) % 4294967296) ∧ u.recd.openPage = some 0 ∧ (mget u.recd.pages 0).map (fun g =>
        (g.records, g.maxSev, g.firstRseq)) = some
        ([{ r with rseq := if (s.recd.rseq + 1) % 4294967296 = 0 then 1 else (s.recd.rseq + 1) % 4294967296 }], r.sev,
        if (s.recd.rseq + 1) % 4294967296 = 0 then 1 else (s.recd.rseq + 1) % 4294967296))) ∧
  (∀ (t p : Nat) (r b : Record) (q : List Record) (s : State),
      s.recd.queue = r :: q →
      s.recd.openPage = some p →
      lastRec s = some b →
      sameRecord r b = true →
      b.rseq = s.recd.rseq →
      Runs (.recordWrite t) s (fun u => u.recd.queue = q ∧ u.recd.rseq = s.recd.rseq ∧ u.recd.openPage =
        s.recd.openPage ∧ lastRec u = some
        { b with rep := b.rep + 1, lastMs := min ((r.time - b.time) * 1000 / 16777216) 4294967295 })) ∧
  (∀ (t : Nat) (s : State),
      Runs (.recorderNoticeWindowEnd t) s (fun u => u.recd.wins = [] ∧ u.recd.grown = [] ∧ u.recd.pages =
        s.recd.pages ∧ u.recd.rseq = s.recd.rseq)) ∧
  (∀ (t r : Nat) (k : Fin 3) (x : Summary) (s : State),
      r < 16 →
      getC s 0xB0120 r 1 ≠ 0 →
      getC s 0xB0120 r 2 = k.val →
      mget s.recd.sums r = some x →
      (sumStart (tick t s) k.val false).start ≠ x.start →
      Runs (.summaryIntervalEnd t k) s (fun u => (mget u.recd.sums r).map (fun y => (y.samples, y.start)) = some (0,
        (sumStart (tick t s) k.val false).start))) ∧
  (∀ (t sid : Nat) (h : Hdr) (args : List TVal) (s : State),
      passes 0xB0300 [cU32, cU8, .int 2 1 32] false t h args sid s = true →
      Runs (.recRead t h args) s (fun u => Answered u sid h
        { okReply 0xB0300 with body := .raw (tagged [cU32, cU32, .int 2 0 32, .octets 1024] (recReadResult (argN args 0) (argN args 1) (argN args 2) s)) }
        ∧ u.recd.pages = s.recd.pages))

/-- Sources become pending, are claimed by their own core, completed, and dropped by a core reset (R391, R393, R394,
R395, R396, R404). In a lane not stopped an edge source's event makes it pending, or merges and counts where it is
pending; the other lane's ICU is as it was; a level source follows its line. A claim by its own core, whatever
source disabled within 8 cycles counts, gives the best presented source, then active at that target with its
priority on the stack, or NONE, counted; a completion by it ends the claim of a source active there, and one of a
source that is not is stray, counted and sets sticky bit 224. Another core's claim changes no ICU and gets a bus
error. A level that ran above 0 for 100 ms is stuck. A core reset empties its target's stack, marks the drop and
frees its semaphores. A lane reset leaves the lane with no role, no report, all semaphores free and its vault's root
as it was. -/
def Obligations.InterruptClaims : Prop :=
  (∀ (t : Nat) (l : Lane) (n : Fin 512) (b : Bool) (s : State),
      icuLevel n.val = false →
      (s.lanes.get l).icu.stopped = false →
      Runs (.icuSourceEvent t l n b) s (fun u => (icuSrc (u.lanes.get l).icu n.val) = (if (icuSrc (s.lanes.get
        l).icu n.val).pending then
        { (icuSrc (s.lanes.get l).icu n.val) with merged := min ((icuSrc (s.lanes.get l).icu n.val).merged + 1) 65535 }
        else { (icuSrc (s.lanes.get l).icu n.val) with pending := true, since := max s.clk.fab t }) ∧ (u.lanes.get
        (otherLane l)).icu = (s.lanes.get (otherLane l)).icu)) ∧
  (∀ (t : Nat) (l : Lane) (n : Fin 512) (b : Bool) (s : State),
      icuLevel n.val = true →
      Runs (.icuSourceEvent t l n b) s (fun u => (icuSrc (u.lanes.get l).icu n.val).line = b ∧ (icuSrc (u.lanes.get
        l).icu n.val).active = (icuSrc (s.lanes.get l).icu n.val).active ∧ (icuSrc (u.lanes.get l).icu n.val).pending
        = (icuSrc (s.lanes.get l).icu n.val).pending)) ∧
  (∀ (t p n : Nat) (lt : Bool) (l : Lane) (c : Core) (tn : Fin 7) (s : State),
      coreNo c = tn.val →
      (s.lanes.get l).icu.targets.length = 7 →
      (∀ b, icuBest (icuPresented (max s.clk.fab t) b (s.lanes.get l).icu tn.val (lget (s.lanes.get l).icu.targets
        tn.val IcuTarget.init)) = some (p, n, lt)) →
      Runs (.icuClaim t l c tn) s (fun u => (icuSrc (u.lanes.get l).icu n).active = some tn.val ∧ (icuSrc
        (u.lanes.get l).icu n).pending = false ∧ (lget (u.lanes.get l).icu.targets tn.val IcuTarget.init).stack = (n,
        p) :: (lget (s.lanes.get l).icu.targets tn.val IcuTarget.init).stack ∧ Sent u (.regData l c (0x40101000 +
        tn.val * 256 + 4) (claimWord (some (p, n, lt)))))) ∧
  (∀ (t : Nat) (l : Lane) (c : Core) (tn : Fin 7) (s : State),
      coreNo c = tn.val →
      (s.lanes.get l).icu.targets.length = 7 →
      (∀ b, icuBest (icuPresented (max s.clk.fab t) b (s.lanes.get l).icu tn.val (lget (s.lanes.get l).icu.targets
        tn.val IcuTarget.init)) = none) →
      Runs (.icuClaim t l c tn) s (fun u => (lget (u.lanes.get l).icu.targets tn.val IcuTarget.init) =
        { (lget (s.lanes.get l).icu.targets tn.val IcuTarget.init) with none_ := (lget (s.lanes.get l).icu.targets tn.val IcuTarget.init).none_ + 1 }
        ∧ Sent u (.regData l c (0x40101000 + tn.val * 256 + 4) 0x80000000))) ∧
  (∀ (t : Nat) (l : Lane) (c : Core) (tn : Fin 7) (s : State),
      coreNo c ≠ tn.val →
      Runs (.icuClaim t l c tn) s (fun u => (u.lanes.get l).icu = (s.lanes.get l).icu ∧ Sent u (.busError l c
        (0x40101000 + tn.val * 256 + 4)))) ∧
  (∀ (t n : Nat) (l : Lane) (c : Core) (tn : Fin 7) (s : State),
      coreNo c = tn.val →
      n < 512 →
      (s.lanes.get l).icu.targets.length = 7 →
      (icuSrc (s.lanes.get l).icu n).active = some tn.val →
      Runs (.icuComplete t l c tn n) s (fun u => (icuSrc (u.lanes.get l).icu n).active = none ∧ (lget (u.lanes.get
        l).icu.targets tn.val IcuTarget.init).stack = (lget (s.lanes.get l).icu.targets tn.val
        IcuTarget.init).stack.filter (fun e => e.1 != n) ∧ (lget (u.lanes.get l).icu.targets tn.val
        IcuTarget.init).stray = (lget (s.lanes.get l).icu.targets tn.val IcuTarget.init).stray)) ∧
  (∀ (t n : Nat) (l : Lane) (c : Core) (tn : Fin 7) (s : State),
      coreNo c = tn.val →
      n < 512 →
      (s.lanes.get l).icu.targets.length = 7 →
      (icuSrc (s.lanes.get l).icu n).active ≠ some tn.val →
      Runs (.icuComplete t l c tn n) s (fun u => (lget (u.lanes.get l).icu.targets tn.val IcuTarget.init) =
        { (lget (s.lanes.get l).icu.targets tn.val IcuTarget.init) with stray := min ((lget (s.lanes.get l).icu.targets tn.val IcuTarget.init).stray + 1) 65535 }
        ∧ u.dict.sticky.getLsbD 224 = true)) ∧
  (∀ (t : Nat) (l : Lane) (tn : Fin 7) (s : State),
      (s.lanes.get l).icu.targets.length = 7 →
      (lget (s.lanes.get l).icu.targets tn.val IcuTarget.init).stack ≠ [] →
      (lget (s.lanes.get l).icu.targets tn.val IcuTarget.init).since + 100 * Config.msCycles ≤ max s.clk.fab t →
      Runs (.icuStuckTimeout t l tn) s (fun u => (lget (u.lanes.get l).icu.targets tn.val IcuTarget.init).stuck =
        true ∧ (lget (u.lanes.get l).icu.targets tn.val IcuTarget.init).stack = (lget (s.lanes.get l).icu.targets
        tn.val IcuTarget.init).stack)) ∧
  (∀ (t : Nat) (l : Lane) (c : Core) (s : State),
      (s.lanes.get l).icu.targets.length = 7 →
      Runs (.coreReset t l c) s (fun u => (lget (u.lanes.get l).icu.targets (coreNo c) IcuTarget.init).stack = [] ∧
        (lget (u.lanes.get l).icu.targets (coreNo c) IcuTarget.init).resetDrop = true ∧ (u.lanes.get l).sems.contains
        (coreNo c + 1) = false)) ∧
  (∀ (t : Nat) (l : Lane) (s : State),
      Runs (.laneReset t l) s (fun u => (u.lanes.get l).role = .undecided ∧ (u.lanes.get l).report = none ∧
        (u.lanes.get l).sems = LaneSt.init.sems ∧ (u.lanes.get l).vault.root = (s.lanes.get l).vault.root))

/-- Enables, software interrupts, stop and wake, semaphores and the time latch (R25, R329, R401, R402, R403, R404). From
a core that is no policy core, ENABLE_SET and ENABLE_CLR set and clear exactly the enables whose bits are set, with
what is pending as it was; SGI_SET makes its source pending in a lane not stopped; a PENDING word answers as the
sources stand and leaves them. A policy core's ENABLE_SET changes no ICU and gets a bus error. A lane with no
wake-enabled source pending or latched stops; with one its ICU is as it was. An edge of at least 50 ns on a
wake-enabled source restarts a stopped lane, with its instant, its latch set and its source pending. A read of a
semaphore answers its holder and takes it where it is free; a write frees it where the core holds it, and no other
changes. A read of TIME_LO answers TIME64's low word and latches the other words for its core. -/
def Obligations.InterruptControl : Prop :=
  (∀ (t k : Nat) (l : Lane) (c : Core) (w : Fin 16) (b : Word32) (s : State),
      isPolicy c = false →
      k < 32 →
      Runs (.enableSet t l c w b) s (fun u => (icuSrc (u.lanes.get l).icu (32 * w.val + k)).enabled = ((icuSrc
        (s.lanes.get l).icu (32 * w.val + k)).enabled || b.getLsbD k) ∧ (icuSrc (u.lanes.get l).icu (32 * w.val +
        k)).pending = (icuSrc (s.lanes.get l).icu (32 * w.val + k)).pending)) ∧
  (∀ (t k : Nat) (l : Lane) (c : Core) (w : Fin 16) (b : Word32) (s : State),
      isPolicy c = false →
      k < 32 →
      Runs (.enableClr t l c w b) s (fun u => (icuSrc (u.lanes.get l).icu (32 * w.val + k)).enabled = ((icuSrc
        (s.lanes.get l).icu (32 * w.val + k)).enabled && !b.getLsbD k) ∧ (icuSrc (u.lanes.get l).icu (32 * w.val +
        k)).pending = (icuSrc (s.lanes.get l).icu (32 * w.val + k)).pending)) ∧
  (∀ (t : Nat) (l : Lane) (c : Core) (w : Fin 16) (b : Word32) (s : State),
      isPolicy c = true →
      Runs (.enableSet t l c w b) s (fun u => (u.lanes.get l).icu = (s.lanes.get l).icu ∧ Sent u (.busError l c
        (0x40100900 + 4 * w.val)))) ∧
  (∀ (t : Nat) (l : Lane) (c : Core) (b : Word32) (s : State),
      isPolicy c = false →
      (s.lanes.get l).icu.stopped = false →
      Runs (.sgiSet t l c b) s (fun u => (icuSrc (u.lanes.get l).icu (320 + b.toNat % 64)).pending = true)) ∧
  (∀ (t : Nat) (l : Lane) (s : State),
      wakeWaiting (s.lanes.get l).icu = false →
      Runs (.stopEntry t l) s (fun u => (u.lanes.get l).icu = { (s.lanes.get l).icu with stopped := true })) ∧
  (∀ (t : Nat) (l : Lane) (s : State),
      wakeWaiting (s.lanes.get l).icu = true →
      Runs (.stopEntry t l) s (fun u => (u.lanes.get l).icu = (s.lanes.get l).icu)) ∧
  (∀ (t wd : Nat) (l : Lane) (n : Fin 64) (s : State),
      (s.lanes.get l).icu.stopped = true →
      20 ≤ wd →
      (s.lanes.get l).icu.wakeEn.getLsbD n.val = true →
      Runs (.wakeEdge t l n wd) s (fun u => (u.lanes.get l).icu.stopped = false ∧ (u.lanes.get l).icu.wokeAt = some
        (max s.clk.fab t) ∧ (u.lanes.get l).icu.wakeLatch.getLsbD n.val = true ∧ (icuSrc (u.lanes.get l).icu
        n.val).pending = true)) ∧
  (∀ (t : Nat) (l : Lane) (c : Core) (n : Fin 64) (s : State),
      isPolicy c = false →
      (s.lanes.get l).sems.length = 64 →
      Runs (.semaphoreAcquire t l c n) s (fun u => lget (u.lanes.get l).sems n.val 0 = (if lget (s.lanes.get l).sems
        n.val 0 = 0 then coreNo c + 1 else lget (s.lanes.get l).sems n.val 0) ∧ Sent u (.regData l c (0x40D00000 + 8 *
        n.val) (BitVec.ofNat 32 (lget (s.lanes.get l).sems n.val 0))))) ∧
  (∀ (t : Nat) (l : Lane) (c : Core) (n : Fin 64) (s : State),
      isPolicy c = false →
      (s.lanes.get l).sems.length = 64 →
      Runs (.semaphoreRelease t l c n) s (fun u => lget (u.lanes.get l).sems n.val 0 = (if lget (s.lanes.get l).sems
        n.val 0 = coreNo c + 1 then 0 else lget (s.lanes.get l).sems n.val 0) ∧ ∀ m, m ≠ n.val → lget (u.lanes.get
        l).sems m 0 = lget (s.lanes.get l).sems m 0)) ∧
  (∀ (t : Nat) (l : Lane) (c : Core) (s : State),
      (s.lanes.get l).latches.length = 6 →
      Runs (.timeLoRead t l c) s (fun u => Sent u (.regData l c 0x40000100 (BitVec.ofNat 32 (time64 (tick t s)))) ∧
        ((u.lanes.get l).latches[coreNo c]?).map (fun x => (x.hi, x.asnLo, x.asnHi)) = some (BitVec.ofNat 32 (time64
        (tick t s) / 4294967296), BitVec.ofNat 32 (asn (tick t s)), BitVec.ofNat 32 (asn (tick t s) / 4294967296 %
        256)))) ∧
  (∀ (t : Nat) (l : Lane) (c : Core) (w : Fin 16) (s : State),
      isPolicy c = false →
      Runs (.pendingRead t l c w) s (fun u => Sent u (.regData l c (0x40100800 + 4 * w.val) (BitVec.ofNat 32
        (pendingWord (s.lanes.get l).icu w.val))) ∧ pendingWord (u.lanes.get l).icu w.val = pendingWord (s.lanes.get
        l).icu w.val))

/-- Arbiters take requests, grant them, take withdrawals and refill their counters (R408, R409, R411, R414, R416). A
request of an existing requester with none at the door joins its queue with its cost, its counter as it was. A
grant, the winner being one whatever class S's reserve, takes the winner's oldest request, pays its cost from the
counter, counts and is held. A withdrawal of the held grant gives the counter back as it was, counts, and costs a
dead unit on a memory arbiter, and on an air arbiter with the slot command queued. A window of a memory or air
arbiter brings each requester's written refill in force and adds it up to twice it, a fuller counter staying; on a
trunk arbiter a pair whose partners were both granted starts one. A refill written by a core that is no policy core
waits for the next window, unless a memory arbiter's sum would exceed its window; a policy core, a requester that
does not exist or such a sum changes nothing and gets a bus error. -/
def Obligations.GourArbiters : Prop :=
  (∀ (t cost : Nat) (l : Lane) (a : Fin 23) (r : Fin 16) (s : State),
      r.val < arbReqs a.val →
      (reqOf a.val (arbOf (s.lanes.get l) a.val) r.val).waiting.all (fun e => e.2.2) = true →
      Runs (.gourRequest t l a r cost) s (fun u => (reqOf a.val (arbOf (u.lanes.get l) a.val) r.val).waiting =
        (reqOf a.val (arbOf (s.lanes.get l) a.val) r.val).waiting ++ [(max s.clk.fab t, (if arbKind a.val = 1 then max
        1 cost else 1), false)] ∧ (reqOf a.val (arbOf (u.lanes.get l) a.val) r.val).credit = (reqOf a.val (arbOf
        (s.lanes.get l) a.val) r.val).credit)) ∧
  (∀ (t r cr at_ cost : Nat) (rest : List (Nat × Nat × Bool)) (pk : Bool) (l : Lane) (a : Fin 23) (s : State),
      (∀ b, gourWinner a.val b (arbOf (s.lanes.get l) a.val) = some (cr, r)) →
      (reqOf a.val (arbOf (s.lanes.get l) a.val) r).waiting = (at_, cost, pk) :: rest →
      Runs (.gourGrant t l a) s (fun u => (reqOf a.val (arbOf (u.lanes.get l) a.val) r).waiting = rest ∧ (reqOf
        a.val (arbOf (u.lanes.get l) a.val) r).credit = (reqOf a.val (arbOf (s.lanes.get l) a.val) r).credit - cost ∧
        (reqOf a.val (arbOf (u.lanes.get l) a.val) r).used = (reqOf a.val (arbOf (s.lanes.get l) a.val) r).used + cost
        ∧ (reqOf a.val (arbOf (u.lanes.get l) a.val) r).grants = sat32 ((reqOf a.val (arbOf (s.lanes.get l) a.val)
        r).grants + 1) ∧ (arbOf (u.lanes.get l) a.val).holding = some (r, cost, (reqOf a.val (arbOf (s.lanes.get l)
        a.val) r).credit))) ∧
  (∀ (t cost cr : Nat) (b : Bool) (l : Lane) (a : Fin 23) (r : Fin 16) (s : State),
      (arbOf (s.lanes.get l) a.val).holding = some (r.val, cost, cr) →
      Runs (.gourWithdraw t l a r b) s (fun u => (arbOf (u.lanes.get l) a.val).holding = none ∧ (reqOf a.val (arbOf
        (u.lanes.get l) a.val) r.val).credit = cr ∧ (reqOf a.val (arbOf (u.lanes.get l) a.val) r.val).withdrawn =
        sat32 ((reqOf a.val (arbOf (s.lanes.get l) a.val) r.val).withdrawn + 1) ∧ (arbOf (u.lanes.get l) a.val).dead =
        (if arbKind a.val = 0 ∨ (arbKind a.val = 1 ∧ b = true) then sat32 ((arbOf (s.lanes.get l) a.val).dead + 1)
        else (arbOf (s.lanes.get l) a.val).dead))) ∧
  (∀ (t r : Nat) (l : Lane) (a : Fin 23) (s : State),
      arbKind a.val ≠ 2 →
      r < arbReqs a.val →
      Runs (.gourWindowStart t l a) s (fun u => (reqOf a.val (arbOf (u.lanes.get l) a.val) r).used = 0 ∧ (reqOf
        a.val (arbOf (u.lanes.get l) a.val) r).refill = (reqOf a.val (arbOf (s.lanes.get l) a.val) r).next ∧ (reqOf
        a.val (arbOf (u.lanes.get l) a.val) r).credit = (if 2 * (reqOf a.val (arbOf (s.lanes.get l) a.val) r).next <
        (reqOf a.val (arbOf (s.lanes.get l) a.val) r).credit then (reqOf a.val (arbOf (s.lanes.get l) a.val) r).credit
        else min ((reqOf a.val (arbOf (s.lanes.get l) a.val) r).credit + (reqOf a.val (arbOf (s.lanes.get l) a.val)
        r).next) (2 * (reqOf a.val (arbOf (s.lanes.get l) a.val) r).next)))) ∧
  (∀ (t p : Nat) (l : Lane) (a : Fin 23) (s : State),
      arbKind a.val = 2 →
      p < 8 →
      (arbOf (s.lanes.get l) a.val).granted.contains (2 * p) = true →
      (arbOf (s.lanes.get l) a.val).granted.contains (2 * p + 1) = true →
      Runs (.gourWindowStart t l a) s (fun u => (reqOf a.val (arbOf (u.lanes.get l) a.val) (2 * p)).used = 0 ∧
        (arbOf (u.lanes.get l) a.val).granted.contains (2 * p) = false ∧ (arbOf (u.lanes.get l)
        a.val).granted.contains (2 * p + 1) = false)) ∧
  (∀ (t : Nat) (l : Lane) (c : Core) (a : Fin 23) (r : Fin 16) (v : Word32) (s : State),
      isPolicy c = false →
      r.val < arbReqs a.val →
      (arbKind a.val = 0 → refillSum a.val r.val (v.toNat % 256) (arbOf (s.lanes.get l) a.val) ≤ arbCapacity a.val)
        →
      Runs (.gourRefillWrite t l c a r v) s (fun u => (reqOf a.val (arbOf (u.lanes.get l) a.val) r.val).next =
        v.toNat % 256 ∧ (reqOf a.val (arbOf (u.lanes.get l) a.val) r.val).refill = (reqOf a.val (arbOf (s.lanes.get l)
        a.val) r.val).refill)) ∧
  (∀ (t : Nat) (l : Lane) (c : Core) (a : Fin 23) (r : Fin 16) (v : Word32) (s : State),
      (isPolicy c = true ∨ arbReqs a.val ≤ r.val ∨ (arbKind a.val = 0 ∧ arbCapacity a.val < refillSum a.val r.val
        (v.toNat % 256) (arbOf (s.lanes.get l) a.val))) →
      Runs (.gourRefillWrite t l c a r v) s (fun u => (arbOf (u.lanes.get l) a.val) = (arbOf (s.lanes.get l) a.val)
        ∧ Sent u (.busError l c (0x40110000 + a.val * 2048 + 256 + r.val * 32))))

/-- Queues take words while there is room, give them to their core, are flushed, and stall an empty read (R417, R418,
R419, R420, R421, R422). With no flush in this cycle, nothing discarded, room left and no core stalled, a word that
an engine delivers stands last in a queue a core reads; in a queue an engine reads it is taken at once where it ends
a packet or the queue streams. A core's word of a packet stands last, and the packet is taken with its last word. A
core's write without room changes no word, counts an overrun, sets sticky bit 229 and gets a bus error. A read takes
a good first word and answers both halves; on an empty queue the core stalls, counted. A flush empties the queue,
counts its whole packets, discards the rest of one in progress, and on an active lane's trunk stream in mid-frame
cuts the frame. A stall of the watchdog's length ends with a bus error and sticky bit 230, and of a core that is no
policy core a health event. -/
def Obligations.SumpQueues : Prop :=
  (∀ (t : Nat) (l : Lane) (q : Fin 22) (w : BitVec 64) (lst : Bool) (bad : Fin 3) (s : State),
      sumpCoreReads q.val = true →
      (sumpOf (s.lanes.get l) q.val).dropping = false →
      (sumpOf (s.lanes.get l) q.val).flushAt ≠ some (max s.clk.fab t) →
      (sumpOf (s.lanes.get l) q.val).words.length < (sumpFacts q.val).1 →
      (s.lanes.get l).stalls = List.replicate 6 none →
      Runs (.sumpWordArrival t l q w lst bad) s (fun u => (sumpOf (u.lanes.get l) q.val).words = (sumpOf
        (s.lanes.get l) q.val).words ++ [{ data := w, last := lst, bad := bad.val }] ∧ (sumpOf (u.lanes.get l)
        q.val).mid = !lst)) ∧
  (∀ (t : Nat) (l : Lane) (q : Fin 22) (w : BitVec 64) (lst : Bool) (bad : Fin 3) (s : State),
      sumpCoreReads q.val = false →
      (sumpOf (s.lanes.get l) q.val).dropping = false →
      (sumpOf (s.lanes.get l) q.val).words.length < (sumpFacts q.val).1 →
      (lst = true ∨ (sumpFacts q.val).2.2 = false) →
      (s.lanes.get l).stalls = List.replicate 6 none →
      Runs (.sumpWordArrival t l q w lst bad) s (fun u => (sumpOf (u.lanes.get l) q.val).words = [])) ∧
  (∀ (t : Nat) (l : Lane) (c : Core) (q : Fin 22) (v : Word32) (s : State),
      isPolicy c = false →
      sumpCoreWrites q.val = true →
      (sumpOf (s.lanes.get l) q.val).dropping = false →
      (sumpOf (s.lanes.get l) q.val).flushAt ≠ some (max s.clk.fab t) →
      (sumpOf (s.lanes.get l) q.val).words.length < (sumpFacts q.val).1 →
      Runs (.sumpWdataWrite t l c q v) s (fun u => (sumpOf (u.lanes.get l) q.val).words.map (fun x => x.data) = (if
        (coreLast (sumpOf (s.lanes.get l) q.val) (v ++ (sumpOf (s.lanes.get l) q.val).low)).1 then [] else (sumpOf
        (s.lanes.get l) q.val).words.map (fun x => x.data) ++ [v ++ (sumpOf (s.lanes.get l) q.val).low]))) ∧
  (∀ (t : Nat) (l : Lane) (c : Core) (q : Fin 22) (v : Word32) (s : State),
      isPolicy c = false →
      sumpCoreWrites q.val = true →
      (sumpOf (s.lanes.get l) q.val).dropping = false →
      (sumpFacts q.val).1 ≤ (sumpOf (s.lanes.get l) q.val).words.length →
      Runs (.sumpWdataWrite t l c q v) s (fun u => (sumpOf (u.lanes.get l) q.val) =
        { (sumpOf (s.lanes.get l) q.val) with overrun := sat32 ((sumpOf (s.lanes.get l) q.val).overrun + 1) } ∧
        u.dict.sticky.getLsbD 229 = true ∧ Sent u (.busError l c (0x40120000 + q.val * 256 + 0x1C)))) ∧
  (∀ (t : Nat) (l : Lane) (c : Core) (q : Fin 22) (w : SumpWord) (r : List SumpWord) (s : State),
      isPolicy c = false →
      sumpCoreReads q.val = true →
      (sumpOf (s.lanes.get l) q.val).words = w :: r →
      w.bad = 0 →
      Runs (.sumpDataRead t l c q) s (fun u => (sumpOf (u.lanes.get l) q.val).words = r ∧ Sent u (.regData l c
        (0x40120000 + q.val * 256 + 0x10) (w.data.extractLsb' 0 32)) ∧ Sent u (.regData l c (0x40120000 + q.val * 256
        + 0x14) (w.data.extractLsb' 32 32)))) ∧
  (∀ (t : Nat) (l : Lane) (c : Core) (q : Fin 22) (s : State),
      isPolicy c = false →
      sumpCoreReads q.val = true →
      (sumpOf (s.lanes.get l) q.val).words = [] →
      (s.lanes.get l).stalls.length = 6 →
      Runs (.sumpDataRead t l c q) s (fun u => lget (u.lanes.get l).stalls (coreNo c) none = some (q.val, max
        s.clk.fab t) ∧ (sumpOf (u.lanes.get l) q.val).stalls = sat32 ((sumpOf (s.lanes.get l) q.val).stalls + 1))) ∧
  (∀ (t : Nat) (l : Lane) (c : Core) (q : Fin 22) (s : State),
      isPolicy c = false →
      Runs (.sumpFlush t l c q) s (fun u => (sumpOf (u.lanes.get l) q.val).words = [] ∧ (sumpOf (u.lanes.get l)
        q.val).flushed = min ((sumpOf (s.lanes.get l) q.val).flushed + ((sumpOf (s.lanes.get l) q.val).words.filter
        (fun w => w.last)).length) 65535 ∧ (sumpOf (u.lanes.get l) q.val).dropping = (sumpOf (s.lanes.get l)
        q.val).mid)) ∧
  (∀ (t : Nat) (l : Lane) (c : Core) (q : Fin 22) (s : State),
      isPolicy c = false →
      (q.val = 13 ∨ q.val = 14) →
      (sumpOf (s.lanes.get l) q.val).mid = true →
      active s = some l →
      Runs (.sumpFlush t l c q) s (fun u => Sent u (.streamCut (if q.val = 13 then 1 else 0)))) ∧
  (∀ (t q f : Nat) (l : Lane) (c : Core) (s : State),
      (s.lanes.get l).stalls.length = 6 →
      lget (s.lanes.get l).stalls (coreNo c) none = some (q, f) →
      f + lget (s.lanes.get l).busWd (coreNo c) 400000 ≤ max s.clk.fab t →
      Runs (.busWatchdogAbort t l c) s (fun u => lget (u.lanes.get l).stalls (coreNo c) none = none ∧
        u.dict.sticky.getLsbD 230 = true ∧ Sent u (.busError l c (0x40120000 + q * 256 + 0x10)) ∧ (u.lanes.get
        l).health = (if isPolicy c then (s.lanes.get l).health else (.busWd, max s.clk.fab t) :: (s.lanes.get
        l).health)))

/-- Cores write and read the words of a lane's memory; what they may not reach is a bus error (R9, R13, R22, R23). With
no other write of this cycle to the address, a word written to RAM, or to MRAM that the core may write, stands at
its four bytes, least significant first, and no other byte of either lane changes; a read of RAM answers the word
there and changes no memory. A policy core's access outside its regions changes no memory, gets a bus error and sets
sticky bit 114. A write of LANE_ID changes no role, memory or output. A write of a target's threshold sets it, for
targets 0 to 5. An access from 40E0_0000h to 7FFF_FFFFh changes no memory and gets a bus error. An address beyond 32
bits is no address of the map: the model faults there. -/
def Obligations.LaneMemory : Prop :=
  (∀ (t a : Nat) (l : Lane) (c : Core) (w : Word32) (s : State),
      a < 4294967296 →
      (inRam a = true ∨ (0x20000000 ≤ a ∧ a < 0x20E0FFFD ∧ mramBarred c a true = false)) →
      (isPolicy c = false ∨ (policyReaches c a true = true ∧ policyReaches c (a + 3) true = true)) →
      Memory.wf (s.lanes.get l).mem = true →
      (s.lanes.get l).writes.any (fun x => x.1 == max s.clk.fab t && x.2.2.1 == a) = false →
      Runs (.registerWrite t l c a w) s (fun u => (∀ k, k < 4 → memRead (u.lanes.get l).mem (a + k) = w.extractLsb'
        (8 * k) 8) ∧ (∀ b, (b < a ∨ a + 4 ≤ b) → memRead (u.lanes.get l).mem b = memRead (s.lanes.get l).mem b) ∧
        (u.lanes.get (otherLane l)).mem = (s.lanes.get (otherLane l)).mem)) ∧
  (∀ (t a : Nat) (l : Lane) (c : Core) (s : State),
      inRam a = true →
      (isPolicy c = false ∨ (policyReaches c a false = true ∧ policyReaches c (a + 3) false = true)) →
      Runs (.busErrorRead t l c a) s (fun u => Sent u (.regData l c a (memRead32 (s.lanes.get l).mem a)) ∧
        (u.lanes.get l).mem = (s.lanes.get l).mem)) ∧
  (∀ (t a : Nat) (l : Lane) (c : Core) (w : Word32) (s : State),
      a < 4294967296 →
      isPolicy c = true →
      policyReaches c a true = false →
      (s.lanes.get l).writes.any (fun x => x.1 == max s.clk.fab t && x.2.2.1 == a) = false →
      Runs (.registerWrite t l c a w) s (fun u => Sent u (.busError l c a) ∧ (u.lanes.get l).mem = (s.lanes.get
        l).mem ∧ u.dict.sticky.getLsbD 114 = true)) ∧
  (∀ (t a : Nat) (l : Lane) (c : Core) (s : State),
      a < 4294967296 →
      isPolicy c = true →
      policyReaches c a false = false →
      Runs (.busErrorRead t l c a) s (fun u => Sent u (.busError l c a) ∧ u.dict.sticky.getLsbD 114 = true)) ∧
  (∀ (t : Nat) (l : Lane) (c : Core) (w : Word32) (s : State),
      isPolicy c = false →
      Runs (.registerWrite t l c 0x40000000 w) s (fun u => (u.lanes.get l).role = (s.lanes.get l).role ∧
        (u.lanes.get l).mem = (s.lanes.get l).mem ∧ u.io = s.io)) ∧
  (∀ (t : Nat) (l : Lane) (c : Core) (tn : Fin 7) (w : Word32) (s : State),
      isPolicy c = false →
      tn.val ≠ 6 →
      (s.lanes.get l).icu.targets.length = 7 →
      (s.lanes.get l).writes.any (fun x => x.1 == max s.clk.fab t && x.2.2.1 == 0x40101000 + tn.val * 256) = false →
      Runs (.registerWrite t l c (0x40101000 + tn.val * 256) w) s (fun u => (lget (u.lanes.get l).icu.targets tn.val
        IcuTarget.init).threshold = w.toNat % 16)) ∧
  (∀ (t a : Nat) (l : Lane) (c : Core) (w : Word32) (s : State),
      0x40E00000 ≤ a →
      a < 0x80000000 →
      Runs (.registerWrite t l c a w) s (fun u => Sent u (.busError l c a) ∧ (u.lanes.get l).mem = (s.lanes.get
        l).mem)) ∧
  (∀ (t a : Nat) (l : Lane) (c : Core) (s : State),
      0x40E00000 ≤ a →
      a < 0x80000000 →
      Runs (.busErrorRead t l c a) s (fun u => Sent u (.busError l c a) ∧ (u.lanes.get l).mem = (s.lanes.get
        l).mem)) ∧
  (∀ (t a : Nat) (l : Lane) (c : Core) (w : Word32) (s : State), 4294967296 ≤ a → exec (.registerWrite t l c a w) s
    = .fault .noSuchAddress ∧ exec (.busErrorRead t l c a) s = .fault .noSuchAddress)

/-- Slices run at their tick, are restored, and sweeps begin and end (R428, R430, R431, R433, R434, R436). With an
active lane, nothing running, stopped, barred or warned, a tick 4,600 to 4,680 µs into a position that is due and
free starts the slice of the next item, notes the position and moves no output. A restore with a good readback ends
the slice: a PASS without an edge enters the item's row with its time, the inputs as they were; a first FAIL enters
the list of retests and leaves the row. With both readbacks bad the slice ends, every slice is stopped, the sweep's
state is 3 and sticky bit 200 is set. ST_SWEEP with none running lists the rows of its classes and is answered OK; a
sweep with no row, retest or slice left ends with state 2. -/
def Obligations.PinSelfTest : Prop :=
  (∀ (t r : Nat) (b : Bool) (s : State),
      (active s).isSome = true →
      s.test.slice = none →
      s.test.stopped = false →
      s.test.barred = false →
      s.power.warning = false →
      1840000 ≤ slotAt (tick t s).clk (tick t s).clk.fab % Config.slotCycles →
      slotAt (tick t s).clk (tick t s).clk.fab % Config.slotCycles ≤ 1872000 →
      nextItem s = some (r, b) →
      tickDue (tick t s) r = true →
      sliceFree (tick t s) r (asn (tick t s)) = true →
      Runs (.sliceTick t) s (fun u => u.test.slice.map (fun x => (x.row, x.retest, x.started)) = some (r, b, max
        s.clk.fab t) ∧ u.test.lastAsn = some (asn (tick t s)) ∧ u.io.outs = s.io.outs)) ∧
  (∀ (t : Nat) (x : Slice) (o : SliceObs) (b1 b2 : Bool) (s : State),
      s.test.slice = some x →
      (b1 = true ∨ b2 = true) →
      x.skip = false →
      s.test.edges = [] →
      s.test.copy = [] →
      sliceResult s x.row o = 1 →
      Runs (.sliceRestore t o b1 b2) s (fun u => u.test.slice = none ∧ getC u 0xC0020 x.row 0 = 1 ∧ getC u 0xC0020
        x.row 2 = time64 (tick t s) ∧ u.test.stopped = s.test.stopped ∧ u.io.inputs = s.io.inputs)) ∧
  (∀ (t : Nat) (x : Slice) (o : SliceObs) (b1 b2 : Bool) (s : State),
      s.test.slice = some x →
      (b1 = true ∨ b2 = true) →
      x.skip = false →
      x.retest = false →
      s.test.edges = [] →
      s.test.copy = [] →
      sliceResult s x.row o = 3 →
      Runs (.sliceRestore t o b1 b2) s (fun u => u.test.slice = none ∧ u.test.retests = s.test.retests ++ [x.row] ∧
        getRow u 0xC0020 x.row = getRow s 0xC0020 x.row)) ∧
  (∀ (t : Nat) (x : Slice) (o : SliceObs) (s : State),
      s.test.slice = some x →
      Runs (.sliceRestore t o false false) s (fun u => u.test.slice = none ∧ u.test.stopped = true ∧
        u.test.sweepState = 3 ∧ u.dict.sticky.getLsbD 200 = true)) ∧
  (∀ (t sid : Nat) (h : Hdr) (args : List TVal) (s : State),
      passes 0xC0300 [.bits 0xFF] false t h args sid s = true →
      s.test.sweep = none →
      Runs (.stSweep t h args) s (fun u => u.test.sweep = some
        { mask := argN args 0, rows := (List.range 41).filter (fun r => bitOf (argN args 0) (rowClass r)), counts := [0, 0, 0, 0] }
        ∧ Answered u sid h (okReply 0xC0300))) ∧
  (∀ (t : Nat) (w : Sweep) (s : State),
      s.test.sweep = some w →
      w.rows.any (rowRuns s) = false →
      s.test.retests = [] →
      s.test.slice = none →
      s.test.stopped = false →
      Runs (.sweepEnd t) s (fun u => u.test.sweep = none ∧ u.test.sweepState = 2))

/-- Images arrive by the service stream (R463, R464, R465). On an association of the service port that this module
serves, at level 2 or above, for this module: an OPEN of one row that nothing refuses begins its transfer with
nothing received and is answered 0; DATA of 1 to 1,024 bytes in range adds its bytes and range and is answered with
the lowest offset missing; an END with everything received and the hash of OPEN has a bank's image read and
programmed and is answered 0; with another hash the transfer is discarded, and with bytes missing it stays, each
answered RANGE; ABORT discards it, sets sticky bit 213 and is answered 0. So do 600 s without a message. When a bank
is programmed, the bank that the lane does not run is staged with its image, its transfer is closed, and the
programming is counted. -/
def Obligations.FirmwareStream : Prop :=
  (∀ (t r : Nat) (h : StreamHdr) (a : Assoc) (b : Bytes) (s : State),
      (active s).isSome = true →
      h.assoc ≠ 0 →
      mget s.ib.assocs h.assoc = some a →
      a.entry = .service →
      entryOpen s .service = true →
      (s.life.state == .returned) = a.cert.returnAnchor →
      certDenied (tick t s) a.cert = false →
      2 ≤ a.level →
      h.target = modId s →
      openStatus h (tick t s) = 0 →
      streamRows h = [r] →
      Runs (.streamOpen t h b) s (fun u => (mget u.fw.transfers r).map (fun x => (x.tid, x.total, x.got, x.last,
        x.closed)) = some (h.tid, h.length, [], max s.clk.fab t, false) ∧ Sent u (.stream h.assoc (streamWire 129 h 0
        0)))) ∧
  (∀ (t r : Nat) (h : StreamHdr) (a : Assoc) (x : Transfer) (b : Bytes) (s : State),
      (active s).isSome = true →
      h.assoc ≠ 0 →
      mget s.ib.assocs h.assoc = some a →
      a.entry = .service →
      entryOpen s .service = true →
      (s.life.state == .returned) = a.cert.returnAnchor →
      certDenied (tick t s) a.cert = false →
      2 ≤ a.level →
      h.target = modId s →
      liveRows h s = [r] →
      mget s.fw.transfers r = some x →
      1 ≤ h.length →
      h.length ≤ 1024 →
      b.length = h.length →
      h.offset + h.length ≤ x.total →
      Runs (.streamData t h b) s (fun u => (mget u.fw.transfers r).map (fun y => (y.got, y.last, y.data)) = some
        (addRange h.offset (h.offset + h.length) x.got, max s.clk.fab t, putBytes h.offset b x.data) ∧ Sent u (.stream
        h.assoc (streamWire 130 h 0 (nextOffset { x with got := addRange h.offset (h.offset + h.length) x.got }))))) ∧
  (∀ (t r : Nat) (b : Bool) (k : Bytes) (h : StreamHdr) (a : Assoc) (x : Transfer) (s : State),
      (active s).isSome = true →
      h.assoc ≠ 0 →
      mget s.ib.assocs h.assoc = some a →
      a.entry = .service →
      entryOpen s .service = true →
      (s.life.state == .returned) = a.cert.returnAnchor →
      certDenied (tick t s) a.cert = false →
      2 ≤ a.level →
      h.target = modId s →
      r < 2 →
      liveRows h s = [r] →
      mget s.fw.transfers r = some x →
      nextOffset x = x.total →
      sha256 (imageBytes x) = x.sha →
      (s.fw.boots.get (rowLane r)).recovery = false →
      Runs (.streamEnd t h b k) s (fun u => mget u.fw.transfers r = some
        { x with programming := some (readImage (imageBytes x) b k), last := max s.clk.fab t } ∧ Sent u (.stream
        h.assoc (streamWire 131 h 0 x.total)))) ∧
  (∀ (t r : Nat) (b : Bool) (k : Bytes) (h : StreamHdr) (a : Assoc) (x : Transfer) (s : State),
      (active s).isSome = true →
      h.assoc ≠ 0 →
      mget s.ib.assocs h.assoc = some a →
      a.entry = .service →
      entryOpen s .service = true →
      (s.life.state == .returned) = a.cert.returnAnchor →
      certDenied (tick t s) a.cert = false →
      2 ≤ a.level →
      h.target = modId s →
      liveRows h s = [r] →
      mget s.fw.transfers r = some x →
      nextOffset x = x.total →
      sha256 (imageBytes x) ≠ x.sha →
      Runs (.streamEnd t h b k) s (fun u => mget u.fw.transfers r = none ∧ Sent u (.stream h.assoc (streamWire 131 h
        stRange x.total)))) ∧
  (∀ (t r : Nat) (b : Bool) (k : Bytes) (h : StreamHdr) (a : Assoc) (x : Transfer) (s : State),
      (active s).isSome = true →
      h.assoc ≠ 0 →
      mget s.ib.assocs h.assoc = some a →
      a.entry = .service →
      entryOpen s .service = true →
      (s.life.state == .returned) = a.cert.returnAnchor →
      certDenied (tick t s) a.cert = false →
      2 ≤ a.level →
      h.target = modId s →
      liveRows h s = [r] →
      mget s.fw.transfers r = some x →
      nextOffset x ≠ x.total →
      Runs (.streamEnd t h b k) s (fun u => mget u.fw.transfers r = some { x with last := max s.clk.fab t } ∧ Sent u
        (.stream h.assoc (streamWire 131 h stRange (nextOffset x))))) ∧
  (∀ (t r : Nat) (h : StreamHdr) (a : Assoc) (s : State),
      (active s).isSome = true →
      h.assoc ≠ 0 →
      mget s.ib.assocs h.assoc = some a →
      a.entry = .service →
      entryOpen s .service = true →
      (s.life.state == .returned) = a.cert.returnAnchor →
      certDenied (tick t s) a.cert = false →
      2 ≤ a.level →
      h.target = modId s →
      liveRows h s = [r] →
      Runs (.streamAbort t h) s (fun u => mget u.fw.transfers r = none ∧ u.dict.sticky.getLsbD 213 = true ∧ Sent u
        (.stream h.assoc (streamWire 132 h 0 0)))) ∧
  (∀ (t : Nat) (r : Fin 3) (x : Transfer) (s : State),
      mget s.fw.transfers r.val = some x →
      x.closed = false →
      x.programming = none →
      x.last + 600 * Config.secCycles ≤ max s.clk.fab t →
      Runs (.streamTimeout t r) s (fun u => mget u.fw.transfers r.val = none ∧ u.dict.sticky.getLsbD 213 = true)) ∧
  (∀ (t : Nat) (l : Lane) (x : Transfer) (g : ImageHdr) (s : State),
      mget s.fw.transfers (laneNo l) = some x →
      x.programming = some g →
      (s.fw.boots.get l).recovery = false →
      (s.fw.boots.get l).running ≤ 1 →
      s.fw.banks.length = 4 →
      Runs (.bankProgramDone t l) s (fun u => (bankOf u l (1 - (s.fw.boots.get l).running)).state = 2 ∧ (bankOf u l
        (1 - (s.fw.boots.get l).running)).img = some g ∧ (mget u.fw.transfers (laneNo l)).map (fun y => y.closed) =
        some true ∧ getN u 0xD0022 = min (getN s 0xD0022 + 1) 4294967295))

/-- Banks are activated on trial, confirmed, committed and erased (R467, R472, R473, R474, R477). FW_ACTIVATE of a
confirmed or staged bank of the standby, no trial running and its ROLLBACK not below the floor, leaves the standby
with no role and the other active, answered OK. A trial that has held its role for TRIAL_TIME uncondemned is
confirmed on the bank it runs. FW_COMMIT in sync, with equal images and no trial, keeps the apply ASN and is
answered with it; at that ASN each lane's floor and layout and the active feature level are those of the images run.
FW_RESTART_ALL with this module's SERIAL and equal staged images on both lanes leaves no lane in a role, no owner
and no session. BANK_ERASE of a bank that does not run, with no trial, leaves it empty and is answered OK. -/
def Obligations.FirmwareBanks : Prop :=
  (∀ (t sid : Nat) (h : Hdr) (args : List TVal) (s : State) (l : Lane),
      passes 0xD0300 [.int 2 0 1, .int 2 0 1] false t h args sid s = true →
      (l = if argN args 0 = 0 then .A else .B) →
      ((bankOf s l (argN args 1)).state = 1 ∨ (bankOf s l (argN args 1)).state = 2) →
      (s.fw.boots.get l).trial = false →
      (s.fw.boots.get l).floor ≤ (bankImg (bankOf s l (argN args 1))).rollback →
      active s = some (otherLane l) →
      standby s = some l →
      Runs (.fwActivate t h args) s (fun u => (u.lanes.get l).role = .undecided ∧ (u.lanes.get (otherLane l)).role =
        .active ∧ Answered u sid h (okReply 0xD0300))) ∧
  (∀ (t : Nat) (l : Lane) (s : State),
      (s.fw.boots.get l).trial = true →
      ((s.lanes.get l).role = .standby ∨ (s.lanes.get l).role = .active) →
      (s.lanes.get l).roleSince + getN s 0xD0100 * Config.secCycles ≤ max s.clk.fab t →
      condemned (s.lanes.get l) = false →
      s.fw.banks.length = 4 →
      (s.fw.boots.get l).running ≤ 1 →
      Runs (.trialConfirm t l) s (fun u => (u.fw.boots.get l).trial = false ∧ (u.fw.boots.get l).confirmed =
        (s.fw.boots.get l).running ∧ (u.fw.boots.get l).next = none ∧ (bankOf u l (s.fw.boots.get l).running).state =
        1)) ∧
  (∀ (t sid : Nat) (h : Hdr) (args : List TVal) (s : State),
      passes 0xD0301 [] false t h args sid s = true →
      (standby s).isSome = true →
      runningImg s .A = runningImg s .B →
      s.fw.boots.a.trial = false →
      s.fw.boots.b.trial = false →
      Runs (.fwCommit t h args) s (fun u => u.fw.commitAt = some (applyAsn (tick t s)) ∧ Answered u sid h
        { okReply 0xD0301 with applyAsn := applyAsn (tick t s) })) ∧
  (∀ (t a : Nat) (l : Lane) (s : State),
      s.fw.commitAt = some a →
      a ≤ asn (tick t s) →
      Runs (.fwCommitApply t) s (fun u => u.fw.commitAt = none ∧ u.fw.uncommitted = false ∧ (u.fw.boots.get l).floor
        = (runningImg s l).rollback ∧ (u.fw.boots.get l).layout = (runningImg s l).settingsLayout ∧ u.fw.activeLevel =
        (runningImg s (servedBy s)).feature)) ∧
  (∀ (t sid : Nat) (h : Hdr) (args : List TVal) (s : State),
      passes 0xD0302 [.octets 16] false t h args sid s = true →
      argB args 0 = fit 16 Config.serial →
      stagedOther s .A = true →
      stagedOther s .B = true →
      (bankOf s .A (otherBank s .A)).img = (bankOf s .B (otherBank s .B)).img →
      Runs (.fwRestartAll t h args) s (fun u => u.lanes.a.role = .undecided ∧ u.lanes.b.role = .undecided ∧
        u.lp.owner = none ∧ u.ib.sessions = [])) ∧
  (∀ (t sid : Nat) (h : Hdr) (args : List TVal) (s : State) (l : Lane),
      passes 0xD0303 [.int 2 0 1, .int 2 0 1] false t h args sid s = true →
      (l = if argN args 0 = 0 then .A else .B) →
      (s.fw.boots.get l).trial = false →
      argN args 1 ≠ (s.fw.boots.get l).running →
      s.fw.banks.length = 4 →
      Runs (.bankErase t h args) s (fun u => bankOf u l (argN args 1) = Bank.init ∧ Answered u sid h (okReply
        0xD0303)))

/-- CLOSE_SESSION ends a session of no higher level than the caller's (R93). CLOSE_SESSION on a session of a level above
the caller's is refused with DENIED and leaves that session; on a session ID that is not open it is refused with
RANGE; any other session is ended, and the reply OK leaves, or waits for its comparison or for credit. On the
caller's own session it is executed; besides what had left or waited before, the reply is the one message of that
session; on a session of the service port it stands after every other message of that session, among what has left,
or among what waits for its comparison. -/
def Obligations.CloseSession : Prop :=
  (∀ (t sid : Nat) (h : Hdr) (args : List TVal) (s : State) (y : Session),
      passes 0x00130 [cU32] false t h args sid s = true →
      mget s.ib.sessions (argN args 0) = some y →
      (caller t sid s).level < y.level →
      Runs (.closeSession t h args) s (fun u => Answered u sid h
        { rErr stDenied (be 1 y.level) with obj := 0x00130 } ∧ (mget u.ib.sessions (argN args 0)).isSome = true)) ∧
  (∀ (t sid : Nat) (h : Hdr) (args : List TVal) (s : State),
      passes 0x00130 [cU32] false t h args sid s = true →
      mget s.ib.sessions (argN args 0) = none →
      Runs (.closeSession t h args) s (fun u => Answered u sid h { rRange 0x00130 0 with obj := 0x00130 })) ∧
  (∀ (t sid : Nat) (h : Hdr) (args : List TVal) (s : State) (y : Session),
      passes 0x00130 [cU32] false t h args sid s = true →
      mget s.ib.sessions (argN args 0) = some y →
      y.level ≤ (caller t sid s).level →
      canReach s h.assoc = true →
      Runs (.closeSession t h args) s (fun u => mget u.ib.sessions (argN args 0) = none ∧ IbSent u (.reply sid h.seq
        3 0 1 { okReply 0x00130 with body := .raw [] }))) ∧
  (∀ (t sid : Nat) (h : Hdr) (args : List TVal) (s : State),
      passes 0x00130 [cU32] false t h args sid s = true →
      argN args 0 = sid →
      canReach s h.assoc = true →
      Runs (.closeSession t h args) s (fun u => mget u.ib.sessions sid = none ∧ IbSent u (.reply sid h.seq 3 0 1
        { okReply 0x00130 with body := .raw [] }) ∧ ∀ m, IbMsg.of sid m = true → IbSent u m → m = (.reply sid h.seq 3
        0 1 { okReply 0x00130 with body := .raw [] }) ∨ IbSent s m)) ∧
  (∀ (t sid : Nat) (h : Hdr) (args : List TVal) (s : State) (a : Assoc),
      passes 0x00130 [cU32] false t h args sid s = true →
      argN args 0 = sid →
      mget s.ib.assocs h.assoc = some a →
      a.entry = .service →
      (active s).isSome = true →
      standby s = none →
      Runs (.closeSession t h args) s (fun u => ∃ x d y, u.out = x ++ .ibier h.assoc d :: y ∧ d.msg = (.reply sid
        h.seq 3 0 1 { okReply 0x00130 with body := .raw [] }) ∧ x.all (fun o => !toSession sid o) = true)) ∧
  (∀ (t sid : Nat) (h : Hdr) (args : List TVal) (s : State) (a : Assoc),
      passes 0x00130 [cU32] false t h args sid s = true →
      argN args 0 = sid →
      mget s.ib.assocs h.assoc = some a →
      a.entry = .service →
      (active s).isSome = true →
      (standby s).isSome = true →
      Runs (.closeSession t h args) s (fun u => ∃ x n f d y, u.lp.waiting = x ++ (n, f, .ibier h.assoc d) :: y ∧
        d.msg = (.reply sid h.seq 3 0 1 { okReply 0x00130 with body := .raw [] }) ∧ y.all (fun w => !toSession sid
        w.2.2) = true))

/-- A READ is answered and its reply leaves; a repeated one leaves the reply again, one too old and one of no session
are refused (R69, R72, R74, R75, R76, R77). Of a READ whose datagram is taken, on an association that can be
reached: one that passes the checks of its header in a session and was not answered before has a reply in the cache
of its session, every part of which leaves in index order numbers with their count; one with a bad header leaves the
TYPE refusal; one in the window whose reply, no Survey, stands in the cache leaves that reply with STATUS DUPLICATE
and its first status, and the cache keeps it; one below the window leaves STALE with the lowest number of the
window; one that names another session than the association's, or on an association without a session, leaves
DENIED. To leave is here to have left or to wait for its comparison or for credit. -/
def Obligations.RepliesLeave : Prop :=
  (∀ (t sid : Nat) (h : Hdr) (s : State),
      arrives 1 false h sid s = true →
      canReach s h.assoc = true →
      Runs (.read t h) s (fun u => ∃ r, Answered u sid h r ∧ ∀ q, q ∈ r.body.parts → IbSent u (.reply sid h.seq
        h.typ q.1 r.body.count { r with body := .raw q.2 }))) ∧
  (∀ (t sid : Nat) (h : Hdr) (a : Assoc) (x : Session) (s : State),
      h.size ≤ 1200 →
      relayBad s h = false →
      mget s.ib.assocs h.assoc = some a →
      canReach s h.assoc = true →
      a.session = some sid →
      mget s.ib.sessions sid = some x →
      h.sid = sid →
      h.strike = .none →
      freshSeq x h.seq = true →
      headerBad 1 false h = true →
      Runs (.read t h) s (fun u => IbSent u (.reply sid h.seq h.typ 0 1 { rType 0 with obj := h.obj }))) ∧
  (∀ (t sid hi q : Nat) (r : Reply) (h : Hdr) (a : Assoc) (x : Session) (s : State),
      h.size ≤ 1200 →
      relayBad s h = false →
      mget s.ib.assocs h.assoc = some a →
      canReach s h.assoc = true →
      a.session = some sid →
      mget s.ib.sessions sid = some x →
      h.sid = sid →
      x.hi = some hi →
      seqHigher h.seq hi = false →
      seqBelow hi h.seq ≤ 63 →
      x.cache.find? (fun e => e.1 == h.seq) = some (q, some r) →
      (match r.body with | .survey _ _ _ => false | _ => true) = true →
      Runs (.read t h) s (fun u => IbSent u (.reply sid h.seq h.typ 0 1
        { r with status := stDup, first := r.status, body := .raw r.body.bytes }) ∧ Answered u sid h r)) ∧
  (∀ (t sid hi : Nat) (h : Hdr) (a : Assoc) (x : Session) (s : State),
      h.size ≤ 1200 →
      relayBad s h = false →
      mget s.ib.assocs h.assoc = some a →
      canReach s h.assoc = true →
      a.session = some sid →
      mget s.ib.sessions sid = some x →
      h.sid = sid →
      x.hi = some hi →
      seqHigher h.seq hi = false →
      63 < seqBelow hi h.seq →
      Runs (.read t h) s (fun u => IbSent u (.reply h.sid h.seq h.typ 0 1
        { rErr stStale (be 4 ((hi + 4294967296 - 63) % 4294967296)) with obj := h.obj }))) ∧
  (∀ (t sid : Nat) (h : Hdr) (a : Assoc) (x : Session) (s : State),
      h.size ≤ 1200 →
      relayBad s h = false →
      mget s.ib.assocs h.assoc = some a →
      canReach s h.assoc = true →
      a.session = some sid →
      mget s.ib.sessions sid = some x →
      h.sid ≠ sid →
      Runs (.read t h) s (fun u => IbSent u (.reply h.sid h.seq h.typ 0 1
        { rErr stDenied (be 1 0) with obj := h.obj }))) ∧
  (∀ (t : Nat) (h : Hdr) (a : Assoc) (s : State),
      h.size ≤ 1200 →
      relayBad s h = false →
      mget s.ib.assocs h.assoc = some a →
      canReach s h.assoc = true →
      a.session = none →
      Runs (.read t h) s (fun u => IbSent u (.reply h.sid h.seq h.typ 0 1
        { rErr stDenied (be 1 0) with obj := h.obj })))
end

