-- ==== Sys2Proof/Laws/Maps.lean ====
section
/-!
SUPPORT. What the sparse maps and the lane memory do: read after write, frames, canonical forms.
-/
namespace Sys2Proof.Machine

variable {α : Type}

@[simp] theorem mget_nil (k : Nat) : mget ([] : NMap α) k = none := rfl

/-- A stored value is read back. -/
@[simp] theorem mget_mset_same (m : NMap α) (k : Nat) (v : α) : mget (mset m k v) k = some v := by
  induction m with
  | nil => simp [mset, mget]
  | cons p r ih =>
    simp only [mset]
    split
    · simp [mget]
    · split
      · simp [mget]
      · simp_all [mget]

/-- A store leaves every other key alone. -/
theorem mget_mset_ne (m : NMap α) (k j : Nat) (v : α) (h : j ≠ k) : mget (mset m k v) j = mget m j := by
  induction m with
  | nil => simp [mset, mget, h]
  | cons p r ih =>
    simp only [mset]
    split
    · simp [mget, h]
    · split
      · next hk => subst hk; simp [mget, h]
      · simp [mget, ih]

/-- A removed key is gone. -/
@[simp] theorem mget_mdel_same (m : NMap α) (k : Nat) : mget (mdel m k) k = none := by
  induction m with
  | nil => rfl
  | cons p r ih =>
    simp only [mdel, List.filter] at ih ⊢
    split
    · next h =>
      have hk : k ≠ p.1 := by simpa using fun e : k = p.1 => by simp [e] at h
      simp [mget, hk, ih]
    · exact ih

/-- A removal leaves every other key alone. -/
theorem mget_mdel_ne (m : NMap α) (k j : Nat) (h : j ≠ k) : mget (mdel m k) j = mget m j := by
  induction m with
  | nil => rfl
  | cons p r ih =>
    simp only [mdel, List.filter] at ih ⊢
    split
    · simp [mget, ih]
    · next h' =>
      have hp : p.1 = k := by simpa using h'
      rw [ih]; simp [mget, hp, h]

@[simp] theorem mgetD_mset_same (m : NMap α) (k : Nat) (v d : α) : mgetD (mset m k v) k d = v := by simp [mgetD]

theorem mgetD_mset_ne (m : NMap α) (k j : Nat) (v d : α) (h : j ≠ k) : mgetD (mset m k v) j d = mgetD m j d := by
  simp [mgetD, mget_mset_ne m k j v h]

/-- A change of a key that is present. -/
theorem mget_mmod_same (m : NMap α) (k : Nat) (f : α → α) : mget (mmod m k f) k = (mget m k).map f := by
  unfold mmod
  split
  · next v h => simp [h]
  · next h => simp [h]

/-- A change leaves every other key alone. -/
theorem mget_mmod_ne (m : NMap α) (k j : Nat) (f : α → α) (h : j ≠ k) : mget (mmod m k f) j = mget m j := by
  unfold mmod
  split
  · exact mget_mset_ne m k j _ h
  · rfl

@[simp] theorem mgetD_mupd_same (m : NMap α) (k : Nat) (d : α) (f : α → α) : mgetD (mupd m k d f) k d = f (mgetD m k d) := by
  simp [mupd]

@[simp] theorem lget_lset_same (l : List α) (i : Nat) (v d : α) (h : i < l.length) : lget (lset l i v) i d = v := by
  induction l generalizing i with
  | nil => simp at h
  | cons x r ih =>
    cases i with
    | zero => rfl
    | succ i => simpa [lset, lget] using ih i (by simpa using h)

@[simp] theorem lget_lmod_same (l : List α) (i : Nat) (f : α → α) (d : α) (h : i < l.length) :
    lget (lmod l i f) i d = f (lget l i d) := by
  induction l generalizing i with
  | nil => simp at h
  | cons x r ih =>
    cases i with
    | zero => rfl
    | succ i => simpa [lmod, lget] using ih i (by simpa using h)

theorem lget_lmod_ne (l : List α) (i j : Nat) (f : α → α) (d : α) (h : j ≠ i) : lget (lmod l i f) j d = lget l j d := by
  induction l generalizing i j with
  | nil => rfl
  | cons x r ih =>
    cases i with
    | zero => cases j with
      | zero => exact absurd rfl h
      | succ j => rfl
    | succ i => cases j with
      | zero => rfl
      | succ j => simpa [lmod, lget] using ih i j (by omega)

/-- A read below every address that a memory lists gives what an unlisted address reads as. -/
theorem memRead_below (m : List Host.Cell) (lo k : Nat) (h : memWfFrom lo m = true) (hk : k < lo) : memRead m k = memDefault := by
  induction m generalizing lo with
  | nil => rfl
  | cons p r ih =>
    simp only [memWfFrom, Bool.and_eq_true, decide_eq_true_eq] at h
    have h1 : k ≠ p.1 := by omega
    simp only [memRead, if_neg h1]
    exact ih (p.1 + 1) h.2 (by omega)

/-- A write keeps the canonical form. -/
theorem memWrite_wf_from (m : List Host.Cell) (lo k : Nat) (v : Byte) (h : memWfFrom lo m = true) (hk : lo ≤ k) :
    memWfFrom lo (memWrite m k v) = true := by
  induction m generalizing lo with
  | nil =>
    simp only [memWrite]
    split
    · rfl
    · next hv => simp [memWfFrom, hk, hv]
  | cons p r ih =>
    have h0 := h
    simp only [memWfFrom, Bool.and_eq_true, decide_eq_true_eq] at h
    simp only [memWrite]
    split
    · next hlt =>
      split
      · exact h0
      · next hv =>
        have : k + 1 ≤ p.1 := hlt
        simp_all [memWfFrom]
    · split
      · next hne heq =>
        subst heq
        split
        · have hw : ∀ (l : List Host.Cell) (a b : Nat), a ≤ b → memWfFrom b l = true → memWfFrom a l = true := by
            intro l a b hab hl
            cases l with
            | nil => rfl
            | cons q t =>
              simp only [memWfFrom, Bool.and_eq_true, decide_eq_true_eq] at hl ⊢
              exact ⟨⟨by omega, hl.1.2⟩, hl.2⟩
          exact hw r lo _ (by omega) h.2
        · next hv => simp_all [memWfFrom]
      · next hge hne =>
        simp only [memWfFrom, Bool.and_eq_true, decide_eq_true_eq]
        exact ⟨h.1, ih (p.1 + 1) h.2 (by omega)⟩

/-- A byte write keeps a memory canonical. -/
theorem memWrite_wf (m : List Host.Cell) (k : Nat) (v : Byte) (h : Memory.wf m = true) : Memory.wf (memWrite m k v) = true :=
  memWrite_wf_from m 0 k v h (Nat.zero_le k)

/-- A word write keeps a memory canonical. -/
theorem memWrite32_wf (m : List Host.Cell) (k : Nat) (v : Word32) (h : Memory.wf m = true) :
    Memory.wf (memWrite32 m k v) = true := by
  unfold memWrite32
  exact memWrite_wf _ _ _ (memWrite_wf _ _ _ (memWrite_wf _ _ _ (memWrite_wf _ _ _ h)))

/-- A written byte is read back. -/
theorem memRead_memWrite_same_from (m : List Host.Cell) (lo k : Nat) (v : Byte) (h : memWfFrom lo m = true) :
    memRead (memWrite m k v) k = v := by
  induction m generalizing lo with
  | nil =>
    simp only [memWrite]
    split
    · next hv => simp [memRead, hv]
    · simp [memRead]
  | cons p r ih =>
    simp only [memWfFrom, Bool.and_eq_true, decide_eq_true_eq] at h
    simp only [memWrite]
    split
    · next hlt =>
      split
      · next hv =>
        have h1 : k ≠ p.1 := by omega
        simp only [memRead, if_neg h1]
        rw [memRead_below r (p.1 + 1) k h.2 (by omega), hv]
      · simp [memRead]
    · split
      · next hge heq =>
        split
        · next hv => rw [memRead_below r (p.1 + 1) k h.2 (by omega), hv]
        · simp [memRead]
      · next hge hne =>
        simp only [memRead, if_neg hne]
        exact ih (p.1 + 1) h.2

/-- A written byte is read back. -/
theorem memRead_memWrite_same (m : List Host.Cell) (k : Nat) (v : Byte) (h : Memory.wf m = true) :
    memRead (memWrite m k v) k = v := memRead_memWrite_same_from m 0 k v h

/-- A write leaves every other byte alone. -/
theorem memRead_memWrite_ne (m : List Host.Cell) (k j : Nat) (v : Byte) (hj : j ≠ k) :
    memRead (memWrite m k v) j = memRead m j := by
  induction m with
  | nil =>
    simp only [memWrite]
    split
    · rfl
    · simp [memRead, hj]
  | cons p r ih =>
    simp only [memWrite]
    split
    · split
      · rfl
      · simp [memRead, hj]
    · split
      · next hge heq =>
        subst heq
        split
        · simp [memRead, hj]
        · simp [memRead, hj]
      · simp [memRead, ih]

end Sys2Proof.Machine
end

