-- ==== Sys2Proof/Laws/State.lean ====
section
/-!
SUPPORT. What each shared operation leaves alone: one lemma per operation, its clauses the fields of State that it does not
touch. Later proofs cite these and unfold no record update.
-/
namespace Sys2Proof.Machine

@[simp] theorem tick_frame (t : Nat) (s : State) :
    (tick t s).pending = s.pending ∧ (tick t s).ib = s.ib ∧ (tick t s).dict = s.dict ∧ (tick t s).adm = s.adm ∧
    (tick t s).mac = s.mac ∧ (tick t s).epoch = s.epoch ∧ (tick t s).trk = s.trk ∧ (tick t s).met = s.met ∧
    (tick t s).led = s.led ∧ (tick t s).lanes = s.lanes ∧ (tick t s).lp = s.lp ∧ (tick t s).time = s.time ∧
    (tick t s).recd = s.recd ∧ (tick t s).trunk = s.trunk ∧ (tick t s).life = s.life ∧ (tick t s).test = s.test ∧
    (tick t s).power = s.power ∧ (tick t s).io = s.io ∧ (tick t s).fw = s.fw ∧ (tick t s).out = s.out ∧
    (tick t s).free = s.free := ⟨rfl, rfl, rfl, rfl, rfl, rfl, rfl, rfl, rfl, rfl, rfl, rfl, rfl, rfl, rfl, rfl, rfl, rfl, rfl, rfl, rfl⟩

@[simp] theorem draw_frame (s : State) :
    (draw s).pending = s.pending ∧ (draw s).clk = s.clk ∧ (draw s).ib = s.ib ∧ (draw s).dict = s.dict ∧
    (draw s).adm = s.adm ∧ (draw s).mac = s.mac ∧ (draw s).epoch = s.epoch ∧ (draw s).trk = s.trk ∧
    (draw s).met = s.met ∧ (draw s).led = s.led ∧ (draw s).lanes = s.lanes ∧ (draw s).lp = s.lp ∧
    (draw s).time = s.time ∧ (draw s).recd = s.recd ∧ (draw s).trunk = s.trunk ∧ (draw s).life = s.life ∧
    (draw s).test = s.test ∧ (draw s).power = s.power ∧ (draw s).io = s.io ∧ (draw s).fw = s.fw ∧ (draw s).out = s.out := ⟨rfl, rfl, rfl, rfl, rfl, rfl, rfl, rfl, rfl, rfl, rfl, rfl, rfl, rfl, rfl, rfl, rfl, rfl, rfl, rfl, rfl⟩

@[simp] theorem updLane_frame (l : Lane) (f : LaneSt → LaneSt) (s : State) :
    (updLane l f s).pending = s.pending ∧ (updLane l f s).clk = s.clk ∧ (updLane l f s).ib = s.ib ∧
    (updLane l f s).dict = s.dict ∧ (updLane l f s).adm = s.adm ∧ (updLane l f s).mac = s.mac ∧
    (updLane l f s).epoch = s.epoch ∧ (updLane l f s).trk = s.trk ∧ (updLane l f s).met = s.met ∧
    (updLane l f s).led = s.led ∧ (updLane l f s).lp = s.lp ∧ (updLane l f s).time = s.time ∧
    (updLane l f s).recd = s.recd ∧ (updLane l f s).trunk = s.trunk ∧ (updLane l f s).life = s.life ∧
    (updLane l f s).test = s.test ∧ (updLane l f s).power = s.power ∧ (updLane l f s).io = s.io ∧
    (updLane l f s).fw = s.fw ∧ (updLane l f s).out = s.out ∧ (updLane l f s).free = s.free := ⟨rfl, rfl, rfl, rfl, rfl, rfl, rfl, rfl, rfl, rfl, rfl, rfl, rfl, rfl, rfl, rfl, rfl, rfl, rfl, rfl, rfl⟩

@[simp] theorem putRow_frame (n : Nat) (r : Nat) (v : Row) (s : State) :
    (putRow n r v s).pending = s.pending ∧ (putRow n r v s).clk = s.clk ∧ (putRow n r v s).ib = s.ib ∧
    (putRow n r v s).adm = s.adm ∧ (putRow n r v s).mac = s.mac ∧ (putRow n r v s).epoch = s.epoch ∧
    (putRow n r v s).trk = s.trk ∧ (putRow n r v s).met = s.met ∧ (putRow n r v s).led = s.led ∧
    (putRow n r v s).lanes = s.lanes ∧ (putRow n r v s).lp = s.lp ∧ (putRow n r v s).time = s.time ∧
    (putRow n r v s).recd = s.recd ∧ (putRow n r v s).trunk = s.trunk ∧ (putRow n r v s).life = s.life ∧
    (putRow n r v s).test = s.test ∧ (putRow n r v s).power = s.power ∧ (putRow n r v s).io = s.io ∧
    (putRow n r v s).fw = s.fw ∧ (putRow n r v s).out = s.out ∧ (putRow n r v s).free = s.free := ⟨rfl, rfl, rfl, rfl, rfl, rfl, rfl, rfl, rfl, rfl, rfl, rfl, rfl, rfl, rfl, rfl, rfl, rfl, rfl, rfl, rfl⟩

@[simp] theorem putN_frame (n : Nat) (v : Int) (s : State) :
    (putN n v s).pending = s.pending ∧ (putN n v s).clk = s.clk ∧ (putN n v s).ib = s.ib ∧ (putN n v s).adm = s.adm ∧
    (putN n v s).mac = s.mac ∧ (putN n v s).epoch = s.epoch ∧ (putN n v s).trk = s.trk ∧ (putN n v s).met = s.met ∧
    (putN n v s).led = s.led ∧ (putN n v s).lanes = s.lanes ∧ (putN n v s).lp = s.lp ∧ (putN n v s).time = s.time ∧
    (putN n v s).recd = s.recd ∧ (putN n v s).trunk = s.trunk ∧ (putN n v s).life = s.life ∧
    (putN n v s).test = s.test ∧ (putN n v s).power = s.power ∧ (putN n v s).io = s.io ∧ (putN n v s).fw = s.fw ∧
    (putN n v s).out = s.out ∧ (putN n v s).free = s.free := ⟨rfl, rfl, rfl, rfl, rfl, rfl, rfl, rfl, rfl, rfl, rfl, rfl, rfl, rfl, rfl, rfl, rfl, rfl, rfl, rfl, rfl⟩

@[simp] theorem putC_frame (n : Nat) (r : Nat) (c : Nat) (v : Val) (s : State) :
    (putC n r c v s).pending = s.pending ∧ (putC n r c v s).clk = s.clk ∧ (putC n r c v s).ib = s.ib ∧
    (putC n r c v s).adm = s.adm ∧ (putC n r c v s).mac = s.mac ∧ (putC n r c v s).epoch = s.epoch ∧
    (putC n r c v s).trk = s.trk ∧ (putC n r c v s).met = s.met ∧ (putC n r c v s).led = s.led ∧
    (putC n r c v s).lanes = s.lanes ∧ (putC n r c v s).lp = s.lp ∧ (putC n r c v s).time = s.time ∧
    (putC n r c v s).recd = s.recd ∧ (putC n r c v s).trunk = s.trunk ∧ (putC n r c v s).life = s.life ∧
    (putC n r c v s).test = s.test ∧ (putC n r c v s).power = s.power ∧ (putC n r c v s).io = s.io ∧
    (putC n r c v s).fw = s.fw ∧ (putC n r c v s).out = s.out ∧ (putC n r c v s).free = s.free := ⟨rfl, rfl, rfl, rfl, rfl, rfl, rfl, rfl, rfl, rfl, rfl, rfl, rfl, rfl, rfl, rfl, rfl, rfl, rfl, rfl, rfl⟩

@[simp] theorem addC_frame (n : Nat) (r : Nat) (c : Nat) (k : Nat) (s : State) :
    (addC n r c k s).pending = s.pending ∧ (addC n r c k s).clk = s.clk ∧ (addC n r c k s).ib = s.ib ∧
    (addC n r c k s).adm = s.adm ∧ (addC n r c k s).mac = s.mac ∧ (addC n r c k s).epoch = s.epoch ∧
    (addC n r c k s).trk = s.trk ∧ (addC n r c k s).met = s.met ∧ (addC n r c k s).led = s.led ∧
    (addC n r c k s).lanes = s.lanes ∧ (addC n r c k s).lp = s.lp ∧ (addC n r c k s).time = s.time ∧
    (addC n r c k s).recd = s.recd ∧ (addC n r c k s).trunk = s.trunk ∧ (addC n r c k s).life = s.life ∧
    (addC n r c k s).test = s.test ∧ (addC n r c k s).power = s.power ∧ (addC n r c k s).io = s.io ∧
    (addC n r c k s).fw = s.fw ∧ (addC n r c k s).out = s.out ∧ (addC n r c k s).free = s.free := ⟨rfl, rfl, rfl, rfl, rfl, rfl, rfl, rfl, rfl, rfl, rfl, rfl, rfl, rfl, rfl, rfl, rfl, rfl, rfl, rfl, rfl⟩

@[simp] theorem ropUp_frame (n : Nat) (k : Nat) (s : State) :
    (ropUp n k s).pending = s.pending ∧ (ropUp n k s).clk = s.clk ∧ (ropUp n k s).ib = s.ib ∧
    (ropUp n k s).adm = s.adm ∧ (ropUp n k s).mac = s.mac ∧ (ropUp n k s).epoch = s.epoch ∧
    (ropUp n k s).trk = s.trk ∧ (ropUp n k s).met = s.met ∧ (ropUp n k s).led = s.led ∧
    (ropUp n k s).lanes = s.lanes ∧ (ropUp n k s).lp = s.lp ∧ (ropUp n k s).time = s.time ∧
    (ropUp n k s).recd = s.recd ∧ (ropUp n k s).trunk = s.trunk ∧ (ropUp n k s).life = s.life ∧
    (ropUp n k s).test = s.test ∧ (ropUp n k s).power = s.power ∧ (ropUp n k s).io = s.io ∧ (ropUp n k s).fw = s.fw ∧
    (ropUp n k s).out = s.out ∧ (ropUp n k s).free = s.free := ⟨rfl, rfl, rfl, rfl, rfl, rfl, rfl, rfl, rfl, rfl, rfl, rfl, rfl, rfl, rfl, rfl, rfl, rfl, rfl, rfl, rfl⟩

@[simp] theorem logPush_frame (n : Nat) (cap : Nat) (v : Row) (s : State) :
    (logPush n cap v s).pending = s.pending ∧ (logPush n cap v s).clk = s.clk ∧ (logPush n cap v s).ib = s.ib ∧
    (logPush n cap v s).adm = s.adm ∧ (logPush n cap v s).mac = s.mac ∧ (logPush n cap v s).epoch = s.epoch ∧
    (logPush n cap v s).trk = s.trk ∧ (logPush n cap v s).met = s.met ∧ (logPush n cap v s).led = s.led ∧
    (logPush n cap v s).lanes = s.lanes ∧ (logPush n cap v s).lp = s.lp ∧ (logPush n cap v s).time = s.time ∧
    (logPush n cap v s).recd = s.recd ∧ (logPush n cap v s).trunk = s.trunk ∧ (logPush n cap v s).life = s.life ∧
    (logPush n cap v s).test = s.test ∧ (logPush n cap v s).power = s.power ∧ (logPush n cap v s).io = s.io ∧
    (logPush n cap v s).fw = s.fw ∧ (logPush n cap v s).out = s.out ∧ (logPush n cap v s).free = s.free := ⟨rfl, rfl, rfl, rfl, rfl, rfl, rfl, rfl, rfl, rfl, rfl, rfl, rfl, rfl, rfl, rfl, rfl, rfl, rfl, rfl, rfl⟩

@[simp] theorem cntLane_frame (l : Lane) (n : Nat) (r : Nat) (c : Nat) (k : Nat) (s : State) :
    (cntLane l n r c k s).pending = s.pending ∧ (cntLane l n r c k s).clk = s.clk ∧ (cntLane l n r c k s).ib = s.ib ∧
    (cntLane l n r c k s).dict = s.dict ∧ (cntLane l n r c k s).adm = s.adm ∧ (cntLane l n r c k s).mac = s.mac ∧
    (cntLane l n r c k s).epoch = s.epoch ∧ (cntLane l n r c k s).trk = s.trk ∧ (cntLane l n r c k s).met = s.met ∧
    (cntLane l n r c k s).led = s.led ∧ (cntLane l n r c k s).lp = s.lp ∧ (cntLane l n r c k s).time = s.time ∧
    (cntLane l n r c k s).recd = s.recd ∧ (cntLane l n r c k s).trunk = s.trunk ∧
    (cntLane l n r c k s).life = s.life ∧ (cntLane l n r c k s).test = s.test ∧
    (cntLane l n r c k s).power = s.power ∧ (cntLane l n r c k s).io = s.io ∧ (cntLane l n r c k s).fw = s.fw ∧
    (cntLane l n r c k s).out = s.out ∧ (cntLane l n r c k s).free = s.free := ⟨rfl, rfl, rfl, rfl, rfl, rfl, rfl, rfl, rfl, rfl, rfl, rfl, rfl, rfl, rfl, rfl, rfl, rfl, rfl, rfl, rfl⟩

@[simp] theorem cntUpAt_frame (n : Nat) (r : Nat) (c : Nat) (k : Nat) (s : State) :
    (cntUpAt n r c k s).pending = s.pending ∧ (cntUpAt n r c k s).clk = s.clk ∧ (cntUpAt n r c k s).ib = s.ib ∧
    (cntUpAt n r c k s).dict = s.dict ∧ (cntUpAt n r c k s).adm = s.adm ∧ (cntUpAt n r c k s).mac = s.mac ∧
    (cntUpAt n r c k s).epoch = s.epoch ∧ (cntUpAt n r c k s).trk = s.trk ∧ (cntUpAt n r c k s).met = s.met ∧
    (cntUpAt n r c k s).led = s.led ∧ (cntUpAt n r c k s).lp = s.lp ∧ (cntUpAt n r c k s).time = s.time ∧
    (cntUpAt n r c k s).recd = s.recd ∧ (cntUpAt n r c k s).trunk = s.trunk ∧ (cntUpAt n r c k s).life = s.life ∧
    (cntUpAt n r c k s).test = s.test ∧ (cntUpAt n r c k s).power = s.power ∧ (cntUpAt n r c k s).io = s.io ∧
    (cntUpAt n r c k s).fw = s.fw ∧ (cntUpAt n r c k s).out = s.out ∧ (cntUpAt n r c k s).free = s.free := by
  unfold cntUpAt
  (try dsimp only)
  (repeat' apply And.intro) <;> (repeat' split) <;> first | rfl | simp

@[simp] theorem cntUp_frame (n : Nat) (s : State) :
    (cntUp n s).pending = s.pending ∧ (cntUp n s).clk = s.clk ∧ (cntUp n s).ib = s.ib ∧ (cntUp n s).dict = s.dict ∧
    (cntUp n s).adm = s.adm ∧ (cntUp n s).mac = s.mac ∧ (cntUp n s).epoch = s.epoch ∧ (cntUp n s).trk = s.trk ∧
    (cntUp n s).met = s.met ∧ (cntUp n s).led = s.led ∧ (cntUp n s).lp = s.lp ∧ (cntUp n s).time = s.time ∧
    (cntUp n s).recd = s.recd ∧ (cntUp n s).trunk = s.trunk ∧ (cntUp n s).life = s.life ∧ (cntUp n s).test = s.test ∧
    (cntUp n s).power = s.power ∧ (cntUp n s).io = s.io ∧ (cntUp n s).fw = s.fw ∧ (cntUp n s).out = s.out ∧
    (cntUp n s).free = s.free := by
  unfold cntUp
  (try dsimp only)
  (repeat' apply And.intro) <;> (repeat' split) <;> first | rfl | simp

@[simp] theorem leave_frame (o : Out) (s : State) :
    (leave o s).pending = s.pending ∧ (leave o s).clk = s.clk ∧ (leave o s).ib = s.ib ∧ (leave o s).dict = s.dict ∧
    (leave o s).adm = s.adm ∧ (leave o s).mac = s.mac ∧ (leave o s).epoch = s.epoch ∧ (leave o s).trk = s.trk ∧
    (leave o s).met = s.met ∧ (leave o s).led = s.led ∧ (leave o s).lp = s.lp ∧ (leave o s).time = s.time ∧
    (leave o s).recd = s.recd ∧ (leave o s).life = s.life ∧ (leave o s).test = s.test ∧ (leave o s).power = s.power ∧
    (leave o s).io = s.io ∧ (leave o s).fw = s.fw ∧ (leave o s).free = s.free := by
  unfold leave
  (try dsimp only)
  (repeat' apply And.intro) <;> (repeat' split) <;> first | rfl | simp

@[simp] theorem emit_frame (o : Out) (s : State) :
    (emit o s).pending = s.pending ∧ (emit o s).clk = s.clk ∧ (emit o s).ib = s.ib ∧ (emit o s).dict = s.dict ∧
    (emit o s).adm = s.adm ∧ (emit o s).mac = s.mac ∧ (emit o s).epoch = s.epoch ∧ (emit o s).trk = s.trk ∧
    (emit o s).met = s.met ∧ (emit o s).led = s.led ∧ (emit o s).time = s.time ∧ (emit o s).recd = s.recd ∧
    (emit o s).life = s.life ∧ (emit o s).test = s.test ∧ (emit o s).power = s.power ∧ (emit o s).io = s.io ∧
    (emit o s).fw = s.fw ∧ (emit o s).free = s.free := by
  unfold emit
  (try dsimp only)
  (repeat' apply And.intro) <;> (repeat' split) <;> first | rfl | simp

@[simp] theorem emitAll_frame (o : List Out) (s : State) :
    (emitAll o s).pending = s.pending ∧ (emitAll o s).clk = s.clk ∧ (emitAll o s).ib = s.ib ∧
    (emitAll o s).dict = s.dict ∧ (emitAll o s).adm = s.adm ∧ (emitAll o s).mac = s.mac ∧
    (emitAll o s).epoch = s.epoch ∧ (emitAll o s).trk = s.trk ∧ (emitAll o s).met = s.met ∧
    (emitAll o s).led = s.led ∧ (emitAll o s).time = s.time ∧ (emitAll o s).recd = s.recd ∧
    (emitAll o s).life = s.life ∧ (emitAll o s).test = s.test ∧ (emitAll o s).power = s.power ∧
    (emitAll o s).io = s.io ∧ (emitAll o s).fw = s.fw ∧ (emitAll o s).free = s.free := by
  induction o generalizing s with
  | nil => simp [emitAll]
  | cons x r ih => simp [emitAll, ih]

@[simp] theorem syncDrain_frame (s : State) :
    (syncDrain s).pending = s.pending ∧ (syncDrain s).clk = s.clk ∧ (syncDrain s).ib = s.ib ∧
    (syncDrain s).dict = s.dict ∧ (syncDrain s).adm = s.adm ∧ (syncDrain s).mac = s.mac ∧
    (syncDrain s).epoch = s.epoch ∧ (syncDrain s).trk = s.trk ∧ (syncDrain s).met = s.met ∧
    (syncDrain s).led = s.led ∧ (syncDrain s).lanes = s.lanes ∧ (syncDrain s).lp = s.lp ∧
    (syncDrain s).time = s.time ∧ (syncDrain s).trunk = s.trunk ∧ (syncDrain s).life = s.life ∧
    (syncDrain s).test = s.test ∧ (syncDrain s).power = s.power ∧ (syncDrain s).io = s.io ∧ (syncDrain s).fw = s.fw ∧
    (syncDrain s).out = s.out ∧ (syncDrain s).free = s.free := by
  unfold syncDrain
  (try dsimp only)
  (repeat' apply And.intro) <;> (repeat' split) <;> first | rfl | simp

@[simp] theorem submitRec_frame (r : Record) (s : State) :
    (submitRec r s).pending = s.pending ∧ (submitRec r s).clk = s.clk ∧ (submitRec r s).ib = s.ib ∧
    (submitRec r s).adm = s.adm ∧ (submitRec r s).mac = s.mac ∧ (submitRec r s).epoch = s.epoch ∧
    (submitRec r s).trk = s.trk ∧ (submitRec r s).met = s.met ∧ (submitRec r s).led = s.led ∧
    (submitRec r s).lp = s.lp ∧ (submitRec r s).time = s.time ∧ (submitRec r s).trunk = s.trunk ∧
    (submitRec r s).life = s.life ∧ (submitRec r s).test = s.test ∧ (submitRec r s).power = s.power ∧
    (submitRec r s).io = s.io ∧ (submitRec r s).fw = s.fw ∧ (submitRec r s).out = s.out ∧
    (submitRec r s).free = s.free := by
  unfold submitRec
  (try dsimp only)
  (repeat' apply And.intro) <;> (repeat' split) <;> first | rfl | simp

@[simp] theorem record_frame (typ : Nat) (sev : Nat) (source : Nat) (payload : Bytes) (s : State) :
    (record typ sev source payload s).pending = s.pending ∧ (record typ sev source payload s).clk = s.clk ∧
    (record typ sev source payload s).ib = s.ib ∧ (record typ sev source payload s).adm = s.adm ∧
    (record typ sev source payload s).mac = s.mac ∧ (record typ sev source payload s).epoch = s.epoch ∧
    (record typ sev source payload s).trk = s.trk ∧ (record typ sev source payload s).met = s.met ∧
    (record typ sev source payload s).led = s.led ∧ (record typ sev source payload s).lp = s.lp ∧
    (record typ sev source payload s).time = s.time ∧ (record typ sev source payload s).trunk = s.trunk ∧
    (record typ sev source payload s).life = s.life ∧ (record typ sev source payload s).test = s.test ∧
    (record typ sev source payload s).power = s.power ∧ (record typ sev source payload s).io = s.io ∧
    (record typ sev source payload s).fw = s.fw ∧ (record typ sev source payload s).out = s.out ∧
    (record typ sev source payload s).free = s.free := by
  unfold record
  (try dsimp only)
  (repeat' apply And.intro) <;> (repeat' split) <;> first | rfl | simp

@[simp] theorem stickySet_frame (bit : Nat) (detail : Nat) (s : State) :
    (stickySet bit detail s).pending = s.pending ∧ (stickySet bit detail s).clk = s.clk ∧
    (stickySet bit detail s).ib = s.ib ∧ (stickySet bit detail s).adm = s.adm ∧ (stickySet bit detail s).mac = s.mac ∧
    (stickySet bit detail s).epoch = s.epoch ∧ (stickySet bit detail s).trk = s.trk ∧
    (stickySet bit detail s).met = s.met ∧ (stickySet bit detail s).led = s.led ∧
    (stickySet bit detail s).lanes = s.lanes ∧ (stickySet bit detail s).lp = s.lp ∧
    (stickySet bit detail s).time = s.time ∧ (stickySet bit detail s).recd = s.recd ∧
    (stickySet bit detail s).trunk = s.trunk ∧ (stickySet bit detail s).life = s.life ∧
    (stickySet bit detail s).test = s.test ∧ (stickySet bit detail s).power = s.power ∧
    (stickySet bit detail s).io = s.io ∧ (stickySet bit detail s).fw = s.fw ∧ (stickySet bit detail s).out = s.out ∧
    (stickySet bit detail s).free = s.free := by
  unfold stickySet
  (try dsimp only)
  (repeat' apply And.intro) <;> (repeat' split) <;> first | rfl | simp

@[simp] theorem condSet_frame (bit : Nat) (detail : Nat) (on : Bool) (s : State) :
    (condSet bit detail on s).pending = s.pending ∧ (condSet bit detail on s).clk = s.clk ∧
    (condSet bit detail on s).ib = s.ib ∧ (condSet bit detail on s).adm = s.adm ∧
    (condSet bit detail on s).mac = s.mac ∧ (condSet bit detail on s).epoch = s.epoch ∧
    (condSet bit detail on s).trk = s.trk ∧ (condSet bit detail on s).met = s.met ∧
    (condSet bit detail on s).led = s.led ∧ (condSet bit detail on s).lanes = s.lanes ∧
    (condSet bit detail on s).lp = s.lp ∧ (condSet bit detail on s).time = s.time ∧
    (condSet bit detail on s).recd = s.recd ∧ (condSet bit detail on s).trunk = s.trunk ∧
    (condSet bit detail on s).life = s.life ∧ (condSet bit detail on s).test = s.test ∧
    (condSet bit detail on s).power = s.power ∧ (condSet bit detail on s).io = s.io ∧
    (condSet bit detail on s).fw = s.fw ∧ (condSet bit detail on s).out = s.out ∧
    (condSet bit detail on s).free = s.free := by
  unfold condSet
  (try dsimp only)
  (repeat' apply And.intro) <;> (repeat' split) <;> first | rfl | simp

@[simp] theorem journal_frame (e : JEntry) (s : State) :
    (journal e s).pending = s.pending ∧ (journal e s).clk = s.clk ∧ (journal e s).ib = s.ib ∧
    (journal e s).adm = s.adm ∧ (journal e s).mac = s.mac ∧ (journal e s).epoch = s.epoch ∧
    (journal e s).trk = s.trk ∧ (journal e s).met = s.met ∧ (journal e s).led = s.led ∧
    (journal e s).lanes = s.lanes ∧ (journal e s).lp = s.lp ∧ (journal e s).time = s.time ∧
    (journal e s).recd = s.recd ∧ (journal e s).trunk = s.trunk ∧ (journal e s).life = s.life ∧
    (journal e s).test = s.test ∧ (journal e s).power = s.power ∧ (journal e s).io = s.io ∧ (journal e s).fw = s.fw ∧
    (journal e s).out = s.out ∧ (journal e s).free = s.free := ⟨rfl, rfl, rfl, rfl, rfl, rfl, rfl, rfl, rfl, rfl, rfl, rfl, rfl, rfl, rfl, rfl, rfl, rfl, rfl, rfl, rfl⟩

@[simp] theorem journalErase_frame (p : JEntry → Bool) (s : State) :
    (journalErase p s).pending = s.pending ∧ (journalErase p s).clk = s.clk ∧ (journalErase p s).ib = s.ib ∧
    (journalErase p s).adm = s.adm ∧ (journalErase p s).mac = s.mac ∧ (journalErase p s).epoch = s.epoch ∧
    (journalErase p s).trk = s.trk ∧ (journalErase p s).met = s.met ∧ (journalErase p s).led = s.led ∧
    (journalErase p s).lanes = s.lanes ∧ (journalErase p s).lp = s.lp ∧ (journalErase p s).time = s.time ∧
    (journalErase p s).recd = s.recd ∧ (journalErase p s).trunk = s.trunk ∧ (journalErase p s).life = s.life ∧
    (journalErase p s).test = s.test ∧ (journalErase p s).power = s.power ∧ (journalErase p s).io = s.io ∧
    (journalErase p s).fw = s.fw ∧ (journalErase p s).out = s.out ∧ (journalErase p s).free = s.free := ⟨rfl, rfl, rfl, rfl, rfl, rfl, rfl, rfl, rfl, rfl, rfl, rfl, rfl, rfl, rfl, rfl, rfl, rfl, rfl, rfl, rfl⟩

@[simp] theorem updArb_frame (l : Lane) (a : Nat) (f : Arb → Arb) (s : State) :
    (updArb l a f s).pending = s.pending ∧ (updArb l a f s).clk = s.clk ∧ (updArb l a f s).ib = s.ib ∧
    (updArb l a f s).dict = s.dict ∧ (updArb l a f s).adm = s.adm ∧ (updArb l a f s).mac = s.mac ∧
    (updArb l a f s).epoch = s.epoch ∧ (updArb l a f s).trk = s.trk ∧ (updArb l a f s).met = s.met ∧
    (updArb l a f s).led = s.led ∧ (updArb l a f s).lp = s.lp ∧ (updArb l a f s).time = s.time ∧
    (updArb l a f s).recd = s.recd ∧ (updArb l a f s).trunk = s.trunk ∧ (updArb l a f s).life = s.life ∧
    (updArb l a f s).test = s.test ∧ (updArb l a f s).power = s.power ∧ (updArb l a f s).io = s.io ∧
    (updArb l a f s).fw = s.fw ∧ (updArb l a f s).out = s.out ∧ (updArb l a f s).free = s.free := ⟨rfl, rfl, rfl, rfl, rfl, rfl, rfl, rfl, rfl, rfl, rfl, rfl, rfl, rfl, rfl, rfl, rfl, rfl, rfl, rfl, rfl⟩

@[simp] theorem updSump_frame (l : Lane) (q : Nat) (f : SumpQ → SumpQ) (s : State) :
    (updSump l q f s).pending = s.pending ∧ (updSump l q f s).clk = s.clk ∧ (updSump l q f s).ib = s.ib ∧
    (updSump l q f s).dict = s.dict ∧ (updSump l q f s).adm = s.adm ∧ (updSump l q f s).mac = s.mac ∧
    (updSump l q f s).epoch = s.epoch ∧ (updSump l q f s).trk = s.trk ∧ (updSump l q f s).met = s.met ∧
    (updSump l q f s).led = s.led ∧ (updSump l q f s).lp = s.lp ∧ (updSump l q f s).time = s.time ∧
    (updSump l q f s).recd = s.recd ∧ (updSump l q f s).trunk = s.trunk ∧ (updSump l q f s).life = s.life ∧
    (updSump l q f s).test = s.test ∧ (updSump l q f s).power = s.power ∧ (updSump l q f s).io = s.io ∧
    (updSump l q f s).fw = s.fw ∧ (updSump l q f s).out = s.out ∧ (updSump l q f s).free = s.free := ⟨rfl, rfl, rfl, rfl, rfl, rfl, rfl, rfl, rfl, rfl, rfl, rfl, rfl, rfl, rfl, rfl, rfl, rfl, rfl, rfl, rfl⟩

@[simp] theorem updIcu_frame (l : Lane) (f : Icu → Icu) (s : State) :
    (updIcu l f s).pending = s.pending ∧ (updIcu l f s).clk = s.clk ∧ (updIcu l f s).ib = s.ib ∧
    (updIcu l f s).dict = s.dict ∧ (updIcu l f s).adm = s.adm ∧ (updIcu l f s).mac = s.mac ∧
    (updIcu l f s).epoch = s.epoch ∧ (updIcu l f s).trk = s.trk ∧ (updIcu l f s).met = s.met ∧
    (updIcu l f s).led = s.led ∧ (updIcu l f s).lp = s.lp ∧ (updIcu l f s).time = s.time ∧
    (updIcu l f s).recd = s.recd ∧ (updIcu l f s).trunk = s.trunk ∧ (updIcu l f s).life = s.life ∧
    (updIcu l f s).test = s.test ∧ (updIcu l f s).power = s.power ∧ (updIcu l f s).io = s.io ∧
    (updIcu l f s).fw = s.fw ∧ (updIcu l f s).out = s.out ∧ (updIcu l f s).free = s.free := ⟨rfl, rfl, rfl, rfl, rfl, rfl, rfl, rfl, rfl, rfl, rfl, rfl, rfl, rfl, rfl, rfl, rfl, rfl, rfl, rfl, rfl⟩

@[simp] theorem icuRaise_frame (n : Nat) (s : State) :
    (icuRaise n s).pending = s.pending ∧ (icuRaise n s).clk = s.clk ∧ (icuRaise n s).ib = s.ib ∧
    (icuRaise n s).dict = s.dict ∧ (icuRaise n s).adm = s.adm ∧ (icuRaise n s).mac = s.mac ∧
    (icuRaise n s).epoch = s.epoch ∧ (icuRaise n s).trk = s.trk ∧ (icuRaise n s).met = s.met ∧
    (icuRaise n s).led = s.led ∧ (icuRaise n s).lp = s.lp ∧ (icuRaise n s).time = s.time ∧
    (icuRaise n s).recd = s.recd ∧ (icuRaise n s).trunk = s.trunk ∧ (icuRaise n s).life = s.life ∧
    (icuRaise n s).test = s.test ∧ (icuRaise n s).power = s.power ∧ (icuRaise n s).io = s.io ∧
    (icuRaise n s).fw = s.fw ∧ (icuRaise n s).out = s.out ∧ (icuRaise n s).free = s.free := by
  unfold icuRaise
  (try dsimp only)
  (repeat' apply And.intro) <;> (repeat' split) <;> first | rfl | simp

@[simp] theorem icuLine_frame (n : Nat) (on : Bool) (s : State) :
    (icuLine n on s).pending = s.pending ∧ (icuLine n on s).clk = s.clk ∧ (icuLine n on s).ib = s.ib ∧
    (icuLine n on s).dict = s.dict ∧ (icuLine n on s).adm = s.adm ∧ (icuLine n on s).mac = s.mac ∧
    (icuLine n on s).epoch = s.epoch ∧ (icuLine n on s).trk = s.trk ∧ (icuLine n on s).met = s.met ∧
    (icuLine n on s).led = s.led ∧ (icuLine n on s).lp = s.lp ∧ (icuLine n on s).time = s.time ∧
    (icuLine n on s).recd = s.recd ∧ (icuLine n on s).trunk = s.trunk ∧ (icuLine n on s).life = s.life ∧
    (icuLine n on s).test = s.test ∧ (icuLine n on s).power = s.power ∧ (icuLine n on s).io = s.io ∧
    (icuLine n on s).fw = s.fw ∧ (icuLine n on s).out = s.out ∧ (icuLine n on s).free = s.free := by
  unfold icuLine
  (try dsimp only)
  (repeat' apply And.intro) <;> (repeat' split) <;> first | rfl | simp

@[simp] theorem icuRaiseAt_frame (l : Lane) (n : Nat) (s : State) :
    (icuRaiseAt l n s).pending = s.pending ∧ (icuRaiseAt l n s).clk = s.clk ∧ (icuRaiseAt l n s).ib = s.ib ∧
    (icuRaiseAt l n s).dict = s.dict ∧ (icuRaiseAt l n s).adm = s.adm ∧ (icuRaiseAt l n s).mac = s.mac ∧
    (icuRaiseAt l n s).epoch = s.epoch ∧ (icuRaiseAt l n s).trk = s.trk ∧ (icuRaiseAt l n s).met = s.met ∧
    (icuRaiseAt l n s).led = s.led ∧ (icuRaiseAt l n s).lp = s.lp ∧ (icuRaiseAt l n s).time = s.time ∧
    (icuRaiseAt l n s).recd = s.recd ∧ (icuRaiseAt l n s).trunk = s.trunk ∧ (icuRaiseAt l n s).life = s.life ∧
    (icuRaiseAt l n s).test = s.test ∧ (icuRaiseAt l n s).power = s.power ∧ (icuRaiseAt l n s).io = s.io ∧
    (icuRaiseAt l n s).fw = s.fw ∧ (icuRaiseAt l n s).out = s.out ∧ (icuRaiseAt l n s).free = s.free := ⟨rfl, rfl, rfl, rfl, rfl, rfl, rfl, rfl, rfl, rfl, rfl, rfl, rfl, rfl, rfl, rfl, rfl, rfl, rfl, rfl, rfl⟩

@[simp] theorem updMac_frame (f : Mac → Mac) (s : State) :
    (updMac f s).pending = s.pending ∧ (updMac f s).clk = s.clk ∧ (updMac f s).ib = s.ib ∧
    (updMac f s).dict = s.dict ∧ (updMac f s).adm = s.adm ∧ (updMac f s).epoch = s.epoch ∧ (updMac f s).trk = s.trk ∧
    (updMac f s).met = s.met ∧ (updMac f s).led = s.led ∧ (updMac f s).lanes = s.lanes ∧ (updMac f s).lp = s.lp ∧
    (updMac f s).time = s.time ∧ (updMac f s).recd = s.recd ∧ (updMac f s).trunk = s.trunk ∧
    (updMac f s).life = s.life ∧ (updMac f s).test = s.test ∧ (updMac f s).power = s.power ∧ (updMac f s).io = s.io ∧
    (updMac f s).fw = s.fw ∧ (updMac f s).out = s.out ∧ (updMac f s).free = s.free := ⟨rfl, rfl, rfl, rfl, rfl, rfl, rfl, rfl, rfl, rfl, rfl, rfl, rfl, rfl, rfl, rfl, rfl, rfl, rfl, rfl, rfl⟩

@[simp] theorem updX_frame (x : Nat) (f : Xcvr → Xcvr) (s : State) :
    (updX x f s).pending = s.pending ∧ (updX x f s).clk = s.clk ∧ (updX x f s).ib = s.ib ∧
    (updX x f s).dict = s.dict ∧ (updX x f s).adm = s.adm ∧ (updX x f s).epoch = s.epoch ∧ (updX x f s).trk = s.trk ∧
    (updX x f s).met = s.met ∧ (updX x f s).led = s.led ∧ (updX x f s).lanes = s.lanes ∧ (updX x f s).lp = s.lp ∧
    (updX x f s).time = s.time ∧ (updX x f s).recd = s.recd ∧ (updX x f s).trunk = s.trunk ∧
    (updX x f s).life = s.life ∧ (updX x f s).test = s.test ∧ (updX x f s).power = s.power ∧ (updX x f s).io = s.io ∧
    (updX x f s).fw = s.fw ∧ (updX x f s).out = s.out ∧ (updX x f s).free = s.free := ⟨rfl, rfl, rfl, rfl, rfl, rfl, rfl, rfl, rfl, rfl, rfl, rfl, rfl, rfl, rfl, rfl, rfl, rfl, rfl, rfl, rfl⟩

@[simp] theorem updCl_frame (c : Nat) (f : Cluster → Cluster) (s : State) :
    (updCl c f s).pending = s.pending ∧ (updCl c f s).clk = s.clk ∧ (updCl c f s).ib = s.ib ∧
    (updCl c f s).dict = s.dict ∧ (updCl c f s).adm = s.adm ∧ (updCl c f s).epoch = s.epoch ∧
    (updCl c f s).trk = s.trk ∧ (updCl c f s).met = s.met ∧ (updCl c f s).led = s.led ∧
    (updCl c f s).lanes = s.lanes ∧ (updCl c f s).lp = s.lp ∧ (updCl c f s).time = s.time ∧
    (updCl c f s).recd = s.recd ∧ (updCl c f s).trunk = s.trunk ∧ (updCl c f s).life = s.life ∧
    (updCl c f s).test = s.test ∧ (updCl c f s).power = s.power ∧ (updCl c f s).io = s.io ∧ (updCl c f s).fw = s.fw ∧
    (updCl c f s).out = s.out ∧ (updCl c f s).free = s.free := ⟨rfl, rfl, rfl, rfl, rfl, rfl, rfl, rfl, rfl, rfl, rfl, rfl, rfl, rfl, rfl, rfl, rfl, rfl, rfl, rfl, rfl⟩

@[simp] theorem updNode_frame (n : Nat) (f : Node → Node) (s : State) :
    (updNode n f s).pending = s.pending ∧ (updNode n f s).clk = s.clk ∧ (updNode n f s).ib = s.ib ∧
    (updNode n f s).dict = s.dict ∧ (updNode n f s).adm = s.adm ∧ (updNode n f s).epoch = s.epoch ∧
    (updNode n f s).trk = s.trk ∧ (updNode n f s).met = s.met ∧ (updNode n f s).led = s.led ∧
    (updNode n f s).lanes = s.lanes ∧ (updNode n f s).lp = s.lp ∧ (updNode n f s).time = s.time ∧
    (updNode n f s).recd = s.recd ∧ (updNode n f s).trunk = s.trunk ∧ (updNode n f s).life = s.life ∧
    (updNode n f s).test = s.test ∧ (updNode n f s).power = s.power ∧ (updNode n f s).io = s.io ∧
    (updNode n f s).fw = s.fw ∧ (updNode n f s).out = s.out ∧ (updNode n f s).free = s.free := ⟨rfl, rfl, rfl, rfl, rfl, rfl, rfl, rfl, rfl, rfl, rfl, rfl, rfl, rfl, rfl, rfl, rfl, rfl, rfl, rfl, rfl⟩

@[simp] theorem updEp_frame (f : Epoch → Epoch) (s : State) :
    (updEp f s).pending = s.pending ∧ (updEp f s).clk = s.clk ∧ (updEp f s).ib = s.ib ∧ (updEp f s).dict = s.dict ∧
    (updEp f s).adm = s.adm ∧ (updEp f s).mac = s.mac ∧ (updEp f s).trk = s.trk ∧ (updEp f s).met = s.met ∧
    (updEp f s).led = s.led ∧ (updEp f s).lanes = s.lanes ∧ (updEp f s).lp = s.lp ∧ (updEp f s).time = s.time ∧
    (updEp f s).recd = s.recd ∧ (updEp f s).trunk = s.trunk ∧ (updEp f s).life = s.life ∧ (updEp f s).test = s.test ∧
    (updEp f s).power = s.power ∧ (updEp f s).io = s.io ∧ (updEp f s).fw = s.fw ∧ (updEp f s).out = s.out ∧
    (updEp f s).free = s.free := ⟨rfl, rfl, rfl, rfl, rfl, rfl, rfl, rfl, rfl, rfl, rfl, rfl, rfl, rfl, rfl, rfl, rfl, rfl, rfl, rfl, rfl⟩

@[simp] theorem updMet_frame (f : Meter → Meter) (s : State) :
    (updMet f s).pending = s.pending ∧ (updMet f s).clk = s.clk ∧ (updMet f s).ib = s.ib ∧
    (updMet f s).dict = s.dict ∧ (updMet f s).adm = s.adm ∧ (updMet f s).mac = s.mac ∧ (updMet f s).epoch = s.epoch ∧
    (updMet f s).trk = s.trk ∧ (updMet f s).led = s.led ∧ (updMet f s).lanes = s.lanes ∧ (updMet f s).lp = s.lp ∧
    (updMet f s).time = s.time ∧ (updMet f s).recd = s.recd ∧ (updMet f s).trunk = s.trunk ∧
    (updMet f s).life = s.life ∧ (updMet f s).test = s.test ∧ (updMet f s).power = s.power ∧ (updMet f s).io = s.io ∧
    (updMet f s).fw = s.fw ∧ (updMet f s).out = s.out ∧ (updMet f s).free = s.free := ⟨rfl, rfl, rfl, rfl, rfl, rfl, rfl, rfl, rfl, rfl, rfl, rfl, rfl, rfl, rfl, rfl, rfl, rfl, rfl, rfl, rfl⟩

@[simp] theorem updLM_frame (l : Lane) (f : LaneMeter → LaneMeter) (s : State) :
    (updLM l f s).pending = s.pending ∧ (updLM l f s).clk = s.clk ∧ (updLM l f s).ib = s.ib ∧
    (updLM l f s).dict = s.dict ∧ (updLM l f s).adm = s.adm ∧ (updLM l f s).mac = s.mac ∧
    (updLM l f s).epoch = s.epoch ∧ (updLM l f s).trk = s.trk ∧ (updLM l f s).led = s.led ∧
    (updLM l f s).lanes = s.lanes ∧ (updLM l f s).lp = s.lp ∧ (updLM l f s).time = s.time ∧
    (updLM l f s).recd = s.recd ∧ (updLM l f s).trunk = s.trunk ∧ (updLM l f s).life = s.life ∧
    (updLM l f s).test = s.test ∧ (updLM l f s).power = s.power ∧ (updLM l f s).io = s.io ∧ (updLM l f s).fw = s.fw ∧
    (updLM l f s).out = s.out ∧ (updLM l f s).free = s.free := ⟨rfl, rfl, rfl, rfl, rfl, rfl, rfl, rfl, rfl, rfl, rfl, rfl, rfl, rfl, rfl, rfl, rfl, rfl, rfl, rfl, rfl⟩

@[simp] theorem updLed_frame (f : Led → Led) (s : State) :
    (updLed f s).pending = s.pending ∧ (updLed f s).clk = s.clk ∧ (updLed f s).ib = s.ib ∧
    (updLed f s).dict = s.dict ∧ (updLed f s).adm = s.adm ∧ (updLed f s).mac = s.mac ∧ (updLed f s).epoch = s.epoch ∧
    (updLed f s).trk = s.trk ∧ (updLed f s).met = s.met ∧ (updLed f s).lanes = s.lanes ∧ (updLed f s).lp = s.lp ∧
    (updLed f s).time = s.time ∧ (updLed f s).recd = s.recd ∧ (updLed f s).trunk = s.trunk ∧
    (updLed f s).life = s.life ∧ (updLed f s).test = s.test ∧ (updLed f s).power = s.power ∧ (updLed f s).io = s.io ∧
    (updLed f s).fw = s.fw ∧ (updLed f s).out = s.out ∧ (updLed f s).free = s.free := ⟨rfl, rfl, rfl, rfl, rfl, rfl, rfl, rfl, rfl, rfl, rfl, rfl, rfl, rfl, rfl, rfl, rfl, rfl, rfl, rfl, rfl⟩

@[simp] theorem updStr_frame (k : Nat) (f : StringSt → StringSt) (s : State) :
    (updStr k f s).pending = s.pending ∧ (updStr k f s).clk = s.clk ∧ (updStr k f s).ib = s.ib ∧
    (updStr k f s).dict = s.dict ∧ (updStr k f s).adm = s.adm ∧ (updStr k f s).mac = s.mac ∧
    (updStr k f s).epoch = s.epoch ∧ (updStr k f s).trk = s.trk ∧ (updStr k f s).met = s.met ∧
    (updStr k f s).lanes = s.lanes ∧ (updStr k f s).lp = s.lp ∧ (updStr k f s).time = s.time ∧
    (updStr k f s).recd = s.recd ∧ (updStr k f s).trunk = s.trunk ∧ (updStr k f s).life = s.life ∧
    (updStr k f s).test = s.test ∧ (updStr k f s).power = s.power ∧ (updStr k f s).io = s.io ∧
    (updStr k f s).fw = s.fw ∧ (updStr k f s).out = s.out ∧ (updStr k f s).free = s.free := ⟨rfl, rfl, rfl, rfl, rfl, rfl, rfl, rfl, rfl, rfl, rfl, rfl, rfl, rfl, rfl, rfl, rfl, rfl, rfl, rfl, rfl⟩

@[simp] theorem updEng_frame (l : Lane) (e : Nat) (f : Engine → Engine) (s : State) :
    (updEng l e f s).pending = s.pending ∧ (updEng l e f s).clk = s.clk ∧ (updEng l e f s).ib = s.ib ∧
    (updEng l e f s).dict = s.dict ∧ (updEng l e f s).adm = s.adm ∧ (updEng l e f s).mac = s.mac ∧
    (updEng l e f s).epoch = s.epoch ∧ (updEng l e f s).trk = s.trk ∧ (updEng l e f s).met = s.met ∧
    (updEng l e f s).led = s.led ∧ (updEng l e f s).lp = s.lp ∧ (updEng l e f s).time = s.time ∧
    (updEng l e f s).recd = s.recd ∧ (updEng l e f s).trunk = s.trunk ∧ (updEng l e f s).life = s.life ∧
    (updEng l e f s).test = s.test ∧ (updEng l e f s).power = s.power ∧ (updEng l e f s).io = s.io ∧
    (updEng l e f s).fw = s.fw ∧ (updEng l e f s).out = s.out ∧ (updEng l e f s).free = s.free := ⟨rfl, rfl, rfl, rfl, rfl, rfl, rfl, rfl, rfl, rfl, rfl, rfl, rfl, rfl, rfl, rfl, rfl, rfl, rfl, rfl, rfl⟩

@[simp] theorem updPort_frame (p : Nat) (f : Port → Port) (s : State) :
    (updPort p f s).pending = s.pending ∧ (updPort p f s).clk = s.clk ∧ (updPort p f s).ib = s.ib ∧
    (updPort p f s).dict = s.dict ∧ (updPort p f s).adm = s.adm ∧ (updPort p f s).mac = s.mac ∧
    (updPort p f s).epoch = s.epoch ∧ (updPort p f s).trk = s.trk ∧ (updPort p f s).met = s.met ∧
    (updPort p f s).led = s.led ∧ (updPort p f s).lanes = s.lanes ∧ (updPort p f s).lp = s.lp ∧
    (updPort p f s).time = s.time ∧ (updPort p f s).recd = s.recd ∧ (updPort p f s).life = s.life ∧
    (updPort p f s).test = s.test ∧ (updPort p f s).power = s.power ∧ (updPort p f s).io = s.io ∧
    (updPort p f s).fw = s.fw ∧ (updPort p f s).out = s.out ∧ (updPort p f s).free = s.free := ⟨rfl, rfl, rfl, rfl, rfl, rfl, rfl, rfl, rfl, rfl, rfl, rfl, rfl, rfl, rfl, rfl, rfl, rfl, rfl, rfl, rfl⟩

@[simp] theorem useCredit_frame (p : Nat) (cls : Nat) (vc : Nat) (units : Nat) (s : State) :
    (useCredit p cls vc units s).pending = s.pending ∧ (useCredit p cls vc units s).clk = s.clk ∧
    (useCredit p cls vc units s).ib = s.ib ∧ (useCredit p cls vc units s).dict = s.dict ∧
    (useCredit p cls vc units s).adm = s.adm ∧ (useCredit p cls vc units s).mac = s.mac ∧
    (useCredit p cls vc units s).epoch = s.epoch ∧ (useCredit p cls vc units s).trk = s.trk ∧
    (useCredit p cls vc units s).met = s.met ∧ (useCredit p cls vc units s).led = s.led ∧
    (useCredit p cls vc units s).lanes = s.lanes ∧ (useCredit p cls vc units s).lp = s.lp ∧
    (useCredit p cls vc units s).time = s.time ∧ (useCredit p cls vc units s).recd = s.recd ∧
    (useCredit p cls vc units s).life = s.life ∧ (useCredit p cls vc units s).test = s.test ∧
    (useCredit p cls vc units s).power = s.power ∧ (useCredit p cls vc units s).io = s.io ∧
    (useCredit p cls vc units s).fw = s.fw ∧ (useCredit p cls vc units s).out = s.out ∧
    (useCredit p cls vc units s).free = s.free := ⟨rfl, rfl, rfl, rfl, rfl, rfl, rfl, rfl, rfl, rfl, rfl, rfl, rfl, rfl, rfl, rfl, rfl, rfl, rfl, rfl, rfl⟩

@[simp] theorem chargeDest_frame (d : Nat) (cls : Nat) (bytes : Nat) (s : State) :
    (chargeDest d cls bytes s).pending = s.pending ∧ (chargeDest d cls bytes s).clk = s.clk ∧
    (chargeDest d cls bytes s).ib = s.ib ∧ (chargeDest d cls bytes s).dict = s.dict ∧
    (chargeDest d cls bytes s).adm = s.adm ∧ (chargeDest d cls bytes s).mac = s.mac ∧
    (chargeDest d cls bytes s).epoch = s.epoch ∧ (chargeDest d cls bytes s).trk = s.trk ∧
    (chargeDest d cls bytes s).met = s.met ∧ (chargeDest d cls bytes s).led = s.led ∧
    (chargeDest d cls bytes s).lanes = s.lanes ∧ (chargeDest d cls bytes s).lp = s.lp ∧
    (chargeDest d cls bytes s).time = s.time ∧ (chargeDest d cls bytes s).recd = s.recd ∧
    (chargeDest d cls bytes s).life = s.life ∧ (chargeDest d cls bytes s).test = s.test ∧
    (chargeDest d cls bytes s).power = s.power ∧ (chargeDest d cls bytes s).io = s.io ∧
    (chargeDest d cls bytes s).fw = s.fw ∧ (chargeDest d cls bytes s).out = s.out ∧
    (chargeDest d cls bytes s).free = s.free := by
  unfold chargeDest
  (try dsimp only)
  (repeat' apply And.intro) <;> (repeat' split) <;> first | rfl | simp

@[simp] theorem noteSent_frame (d : Nat) (cls : Nat) (bytes : Nat) (m : TMsg) (s : State) :
    (noteSent d cls bytes m s).pending = s.pending ∧ (noteSent d cls bytes m s).clk = s.clk ∧
    (noteSent d cls bytes m s).ib = s.ib ∧ (noteSent d cls bytes m s).dict = s.dict ∧
    (noteSent d cls bytes m s).adm = s.adm ∧ (noteSent d cls bytes m s).mac = s.mac ∧
    (noteSent d cls bytes m s).epoch = s.epoch ∧ (noteSent d cls bytes m s).trk = s.trk ∧
    (noteSent d cls bytes m s).met = s.met ∧ (noteSent d cls bytes m s).led = s.led ∧
    (noteSent d cls bytes m s).lanes = s.lanes ∧ (noteSent d cls bytes m s).lp = s.lp ∧
    (noteSent d cls bytes m s).time = s.time ∧ (noteSent d cls bytes m s).recd = s.recd ∧
    (noteSent d cls bytes m s).life = s.life ∧ (noteSent d cls bytes m s).test = s.test ∧
    (noteSent d cls bytes m s).power = s.power ∧ (noteSent d cls bytes m s).io = s.io ∧
    (noteSent d cls bytes m s).fw = s.fw ∧ (noteSent d cls bytes m s).out = s.out ∧
    (noteSent d cls bytes m s).free = s.free := by
  unfold noteSent
  (try dsimp only)
  (repeat' apply And.intro) <;> (repeat' split) <;> first | rfl | simp

@[simp] theorem sendFree_frame (p : Nat) (dst : Nat) (cls : Nat) (m : TMsg) (s : State) :
    (sendFree p dst cls m s).pending = s.pending ∧ (sendFree p dst cls m s).clk = s.clk ∧
    (sendFree p dst cls m s).ib = s.ib ∧ (sendFree p dst cls m s).dict = s.dict ∧
    (sendFree p dst cls m s).adm = s.adm ∧ (sendFree p dst cls m s).mac = s.mac ∧
    (sendFree p dst cls m s).epoch = s.epoch ∧ (sendFree p dst cls m s).trk = s.trk ∧
    (sendFree p dst cls m s).met = s.met ∧ (sendFree p dst cls m s).led = s.led ∧
    (sendFree p dst cls m s).time = s.time ∧ (sendFree p dst cls m s).recd = s.recd ∧
    (sendFree p dst cls m s).life = s.life ∧ (sendFree p dst cls m s).test = s.test ∧
    (sendFree p dst cls m s).power = s.power ∧ (sendFree p dst cls m s).io = s.io ∧
    (sendFree p dst cls m s).fw = s.fw ∧ (sendFree p dst cls m s).free = s.free := by
  unfold sendFree
  (try dsimp only)
  (repeat' apply And.intro) <;> (repeat' split) <;> first | rfl | simp

@[simp] theorem imageLeft_frame (m : TMsg) (s : State) :
    (imageLeft m s).pending = s.pending ∧ (imageLeft m s).clk = s.clk ∧ (imageLeft m s).ib = s.ib ∧
    (imageLeft m s).dict = s.dict ∧ (imageLeft m s).adm = s.adm ∧ (imageLeft m s).mac = s.mac ∧
    (imageLeft m s).epoch = s.epoch ∧ (imageLeft m s).trk = s.trk ∧ (imageLeft m s).met = s.met ∧
    (imageLeft m s).led = s.led ∧ (imageLeft m s).time = s.time ∧ (imageLeft m s).recd = s.recd ∧
    (imageLeft m s).life = s.life ∧ (imageLeft m s).test = s.test ∧ (imageLeft m s).power = s.power ∧
    (imageLeft m s).io = s.io ∧ (imageLeft m s).fw = s.fw := by
  unfold imageLeft
  (try dsimp only)
  (repeat' apply And.intro) <;> (repeat' split) <;> first | rfl | simp

@[simp] theorem sendNow_frame (p : Nat) (dst : Nat) (cls : Nat) (m : TMsg) (s : State) :
    (sendNow p dst cls m s).pending = s.pending ∧ (sendNow p dst cls m s).clk = s.clk ∧
    (sendNow p dst cls m s).ib = s.ib ∧ (sendNow p dst cls m s).dict = s.dict ∧ (sendNow p dst cls m s).adm = s.adm ∧
    (sendNow p dst cls m s).mac = s.mac ∧ (sendNow p dst cls m s).epoch = s.epoch ∧
    (sendNow p dst cls m s).trk = s.trk ∧ (sendNow p dst cls m s).met = s.met ∧ (sendNow p dst cls m s).led = s.led ∧
    (sendNow p dst cls m s).time = s.time ∧ (sendNow p dst cls m s).recd = s.recd ∧
    (sendNow p dst cls m s).life = s.life ∧ (sendNow p dst cls m s).test = s.test ∧
    (sendNow p dst cls m s).power = s.power ∧ (sendNow p dst cls m s).io = s.io ∧ (sendNow p dst cls m s).fw = s.fw := by
  unfold sendNow
  (try dsimp only)
  (repeat' apply And.intro) <;> (repeat' split) <;> first | rfl | simp

@[simp] theorem trunkSend_frame (dst : Nat) (cls : Nat) (m : TMsg) (s : State) :
    (trunkSend dst cls m s).pending = s.pending ∧ (trunkSend dst cls m s).clk = s.clk ∧
    (trunkSend dst cls m s).ib = s.ib ∧ (trunkSend dst cls m s).dict = s.dict ∧ (trunkSend dst cls m s).adm = s.adm ∧
    (trunkSend dst cls m s).mac = s.mac ∧ (trunkSend dst cls m s).epoch = s.epoch ∧
    (trunkSend dst cls m s).trk = s.trk ∧ (trunkSend dst cls m s).met = s.met ∧ (trunkSend dst cls m s).led = s.led ∧
    (trunkSend dst cls m s).time = s.time ∧ (trunkSend dst cls m s).recd = s.recd ∧
    (trunkSend dst cls m s).life = s.life ∧ (trunkSend dst cls m s).test = s.test ∧
    (trunkSend dst cls m s).power = s.power ∧ (trunkSend dst cls m s).io = s.io ∧ (trunkSend dst cls m s).fw = s.fw := by
  unfold trunkSend
  (try dsimp only)
  (repeat' apply And.intro) <;> (repeat' split) <;> first | rfl | simp

@[simp] theorem sendIb_frame (aid : Nat) (tclass : Nat) (m : IbMsg) (s : State) :
    (sendIb aid tclass m s).pending = s.pending ∧ (sendIb aid tclass m s).clk = s.clk ∧
    (sendIb aid tclass m s).dict = s.dict ∧ (sendIb aid tclass m s).adm = s.adm ∧
    (sendIb aid tclass m s).mac = s.mac ∧ (sendIb aid tclass m s).epoch = s.epoch ∧
    (sendIb aid tclass m s).trk = s.trk ∧ (sendIb aid tclass m s).met = s.met ∧ (sendIb aid tclass m s).led = s.led ∧
    (sendIb aid tclass m s).time = s.time ∧ (sendIb aid tclass m s).recd = s.recd ∧
    (sendIb aid tclass m s).life = s.life ∧ (sendIb aid tclass m s).test = s.test ∧
    (sendIb aid tclass m s).power = s.power ∧ (sendIb aid tclass m s).io = s.io ∧ (sendIb aid tclass m s).fw = s.fw := by
  unfold sendIb
  (try dsimp only)
  (repeat' apply And.intro) <;> (repeat' split) <;> first | rfl | simp

@[simp] theorem cacheReply_frame (sid : Nat) (seq : Nat) (r : Option Reply) (s : State) :
    (cacheReply sid seq r s).pending = s.pending ∧ (cacheReply sid seq r s).clk = s.clk ∧
    (cacheReply sid seq r s).dict = s.dict ∧ (cacheReply sid seq r s).adm = s.adm ∧
    (cacheReply sid seq r s).mac = s.mac ∧ (cacheReply sid seq r s).epoch = s.epoch ∧
    (cacheReply sid seq r s).trk = s.trk ∧ (cacheReply sid seq r s).met = s.met ∧
    (cacheReply sid seq r s).led = s.led ∧ (cacheReply sid seq r s).lanes = s.lanes ∧
    (cacheReply sid seq r s).lp = s.lp ∧ (cacheReply sid seq r s).time = s.time ∧
    (cacheReply sid seq r s).recd = s.recd ∧ (cacheReply sid seq r s).trunk = s.trunk ∧
    (cacheReply sid seq r s).life = s.life ∧ (cacheReply sid seq r s).test = s.test ∧
    (cacheReply sid seq r s).power = s.power ∧ (cacheReply sid seq r s).io = s.io ∧
    (cacheReply sid seq r s).fw = s.fw ∧ (cacheReply sid seq r s).out = s.out ∧ (cacheReply sid seq r s).free = s.free := ⟨rfl, rfl, rfl, rfl, rfl, rfl, rfl, rfl, rfl, rfl, rfl, rfl, rfl, rfl, rfl, rfl, rfl, rfl, rfl, rfl, rfl⟩

@[simp] theorem sendReply_frame (aid : Nat) (tclass : Nat) (sid : Nat) (seq : Nat) (typ : Nat) (r : Reply) (s : State) :
    (sendReply aid tclass sid seq typ r s).pending = s.pending ∧ (sendReply aid tclass sid seq typ r s).clk = s.clk ∧
    (sendReply aid tclass sid seq typ r s).dict = s.dict ∧ (sendReply aid tclass sid seq typ r s).adm = s.adm ∧
    (sendReply aid tclass sid seq typ r s).mac = s.mac ∧ (sendReply aid tclass sid seq typ r s).epoch = s.epoch ∧
    (sendReply aid tclass sid seq typ r s).trk = s.trk ∧ (sendReply aid tclass sid seq typ r s).met = s.met ∧
    (sendReply aid tclass sid seq typ r s).led = s.led ∧ (sendReply aid tclass sid seq typ r s).time = s.time ∧
    (sendReply aid tclass sid seq typ r s).recd = s.recd ∧ (sendReply aid tclass sid seq typ r s).life = s.life ∧
    (sendReply aid tclass sid seq typ r s).test = s.test ∧ (sendReply aid tclass sid seq typ r s).power = s.power ∧
    (sendReply aid tclass sid seq typ r s).io = s.io ∧ (sendReply aid tclass sid seq typ r s).fw = s.fw := by
  unfold sendReply
  generalize r.body.parts = l
  have key : ∀ (l : List (Nat × Bytes)) (s0 : State), ((l.foldl (fun s p => sendIb aid tclass (.reply sid seq typ p.1 r.body.count { r with body := .raw p.2 }) s) s0).pending = s0.pending ∧ (l.foldl (fun s p => sendIb aid tclass (.reply sid seq typ p.1 r.body.count { r with body := .raw p.2 }) s) s0).clk = s0.clk ∧ (l.foldl (fun s p => sendIb aid tclass (.reply sid seq typ p.1 r.body.count { r with body := .raw p.2 }) s) s0).dict = s0.dict ∧ (l.foldl (fun s p => sendIb aid tclass (.reply sid seq typ p.1 r.body.count { r with body := .raw p.2 }) s) s0).adm = s0.adm ∧ (l.foldl (fun s p => sendIb aid tclass (.reply sid seq typ p.1 r.body.count { r with body := .raw p.2 }) s) s0).mac = s0.mac ∧ (l.foldl (fun s p => sendIb aid tclass (.reply sid seq typ p.1 r.body.count { r with body := .raw p.2 }) s) s0).epoch = s0.epoch ∧ (l.foldl (fun s p => sendIb aid tclass (.reply sid seq typ p.1 r.body.count { r with body := .raw p.2 }) s) s0).trk = s0.trk ∧ (l.foldl (fun s p => sendIb aid tclass (.reply sid seq typ p.1 r.body.count { r with body := .raw p.2 }) s) s0).met = s0.met ∧ (l.foldl (fun s p => sendIb aid tclass (.reply sid seq typ p.1 r.body.count { r with body := .raw p.2 }) s) s0).led = s0.led ∧ (l.foldl (fun s p => sendIb aid tclass (.reply sid seq typ p.1 r.body.count { r with body := .raw p.2 }) s) s0).time = s0.time ∧ (l.foldl (fun s p => sendIb aid tclass (.reply sid seq typ p.1 r.body.count { r with body := .raw p.2 }) s) s0).recd = s0.recd ∧ (l.foldl (fun s p => sendIb aid tclass (.reply sid seq typ p.1 r.body.count { r with body := .raw p.2 }) s) s0).life = s0.life ∧ (l.foldl (fun s p => sendIb aid tclass (.reply sid seq typ p.1 r.body.count { r with body := .raw p.2 }) s) s0).test = s0.test ∧ (l.foldl (fun s p => sendIb aid tclass (.reply sid seq typ p.1 r.body.count { r with body := .raw p.2 }) s) s0).power = s0.power ∧ (l.foldl (fun s p => sendIb aid tclass (.reply sid seq typ p.1 r.body.count { r with body := .raw p.2 }) s) s0).io = s0.io ∧ (l.foldl (fun s p => sendIb aid tclass (.reply sid seq typ p.1 r.body.count { r with body := .raw p.2 }) s) s0).fw = s0.fw) := by
    intro l
    induction l with
    | nil => intro s0; simp
    | cons p r ih => intro s0; simp only [List.foldl_cons, ih]; simp
  exact key l s

@[simp] theorem sendNotice_frame (id : Nat) (b : Sub) (flags : Nat) (changes : Nat) (time : Nat) (obj : Nat) (body : Body) (urgent : Bool) (s : State) :
    (sendNotice id b flags changes time obj body urgent s).pending = s.pending ∧
    (sendNotice id b flags changes time obj body urgent s).clk = s.clk ∧
    (sendNotice id b flags changes time obj body urgent s).dict = s.dict ∧
    (sendNotice id b flags changes time obj body urgent s).adm = s.adm ∧
    (sendNotice id b flags changes time obj body urgent s).mac = s.mac ∧
    (sendNotice id b flags changes time obj body urgent s).epoch = s.epoch ∧
    (sendNotice id b flags changes time obj body urgent s).trk = s.trk ∧
    (sendNotice id b flags changes time obj body urgent s).met = s.met ∧
    (sendNotice id b flags changes time obj body urgent s).led = s.led ∧
    (sendNotice id b flags changes time obj body urgent s).time = s.time ∧
    (sendNotice id b flags changes time obj body urgent s).recd = s.recd ∧
    (sendNotice id b flags changes time obj body urgent s).life = s.life ∧
    (sendNotice id b flags changes time obj body urgent s).test = s.test ∧
    (sendNotice id b flags changes time obj body urgent s).power = s.power ∧
    (sendNotice id b flags changes time obj body urgent s).io = s.io ∧
    (sendNotice id b flags changes time obj body urgent s).fw = s.fw := by
  unfold sendNotice
  (try dsimp only)
  (repeat' apply And.intro) <;> (repeat' split) <;> first | rfl | simp

@[simp] theorem flushSub_frame (id : Nat) (s : State) :
    (flushSub id s).pending = s.pending ∧ (flushSub id s).clk = s.clk ∧ (flushSub id s).dict = s.dict ∧
    (flushSub id s).adm = s.adm ∧ (flushSub id s).mac = s.mac ∧ (flushSub id s).epoch = s.epoch ∧
    (flushSub id s).trk = s.trk ∧ (flushSub id s).met = s.met ∧ (flushSub id s).led = s.led ∧
    (flushSub id s).time = s.time ∧ (flushSub id s).recd = s.recd ∧ (flushSub id s).life = s.life ∧
    (flushSub id s).test = s.test ∧ (flushSub id s).power = s.power ∧ (flushSub id s).io = s.io ∧
    (flushSub id s).fw = s.fw := by
  unfold flushSub
  (try dsimp only)
  (repeat' apply And.intro) <;> (repeat' split) <;> first | rfl | simp

@[simp] theorem settleSub_frame (s : State) (s' : State) (acc : State) (p : Nat × Sub) :
    (settleSub s s' acc p).pending = acc.pending ∧ (settleSub s s' acc p).clk = acc.clk ∧
    (settleSub s s' acc p).dict = acc.dict ∧ (settleSub s s' acc p).adm = acc.adm ∧
    (settleSub s s' acc p).mac = acc.mac ∧ (settleSub s s' acc p).epoch = acc.epoch ∧
    (settleSub s s' acc p).trk = acc.trk ∧ (settleSub s s' acc p).met = acc.met ∧
    (settleSub s s' acc p).led = acc.led ∧ (settleSub s s' acc p).time = acc.time ∧
    (settleSub s s' acc p).recd = acc.recd ∧ (settleSub s s' acc p).life = acc.life ∧
    (settleSub s s' acc p).test = acc.test ∧ (settleSub s s' acc p).power = acc.power ∧
    (settleSub s s' acc p).io = acc.io ∧ (settleSub s s' acc p).fw = acc.fw := by
  unfold settleSub
  (try dsimp only)
  (repeat' apply And.intro) <;> (repeat' split) <;> first | rfl | simp

@[simp] theorem settle_frame (s : State) (s' : State) :
    (settle s s').pending = s'.pending ∧ (settle s s').clk = s'.clk ∧ (settle s s').dict = s'.dict ∧
    (settle s s').adm = s'.adm ∧ (settle s s').mac = s'.mac ∧ (settle s s').epoch = s'.epoch ∧
    (settle s s').trk = s'.trk ∧ (settle s s').met = s'.met ∧ (settle s s').led = s'.led ∧
    (settle s s').time = s'.time ∧ (settle s s').recd = s'.recd ∧ (settle s s').life = s'.life ∧
    (settle s s').test = s'.test ∧ (settle s s').power = s'.power ∧ (settle s s').io = s'.io ∧
    (settle s s').fw = s'.fw := by
  unfold settle
  split
  · generalize s'.ib.subs = l
    have key : ∀ (l : List (Nat × Sub)) (acc : State),
        ((l.foldl (settleSub s s') acc).pending = acc.pending ∧ (l.foldl (settleSub s s') acc).clk = acc.clk ∧ (l.foldl (settleSub s s') acc).dict = acc.dict ∧ (l.foldl (settleSub s s') acc).adm = acc.adm ∧ (l.foldl (settleSub s s') acc).mac = acc.mac ∧ (l.foldl (settleSub s s') acc).epoch = acc.epoch ∧ (l.foldl (settleSub s s') acc).trk = acc.trk ∧ (l.foldl (settleSub s s') acc).met = acc.met ∧ (l.foldl (settleSub s s') acc).led = acc.led ∧ (l.foldl (settleSub s s') acc).time = acc.time ∧ (l.foldl (settleSub s s') acc).recd = acc.recd ∧ (l.foldl (settleSub s s') acc).life = acc.life ∧ (l.foldl (settleSub s s') acc).test = acc.test ∧ (l.foldl (settleSub s s') acc).power = acc.power ∧ (l.foldl (settleSub s s') acc).io = acc.io ∧ (l.foldl (settleSub s s') acc).fw = acc.fw) := by
      intro l
      induction l with
      | nil => intro acc; simp
      | cons p r ih => intro acc; simp [List.foldl_cons, ih]
    exact key l s'
  · simp

@[simp] theorem breakSeq_frame (hd : Nat) (cause : Nat) (s : State) :
    (breakSeq hd cause s).pending = s.pending ∧ (breakSeq hd cause s).clk = s.clk ∧
    (breakSeq hd cause s).adm = s.adm ∧ (breakSeq hd cause s).mac = s.mac ∧ (breakSeq hd cause s).epoch = s.epoch ∧
    (breakSeq hd cause s).trk = s.trk ∧ (breakSeq hd cause s).met = s.met ∧ (breakSeq hd cause s).led = s.led ∧
    (breakSeq hd cause s).lp = s.lp ∧ (breakSeq hd cause s).time = s.time ∧ (breakSeq hd cause s).trunk = s.trunk ∧
    (breakSeq hd cause s).life = s.life ∧ (breakSeq hd cause s).test = s.test ∧
    (breakSeq hd cause s).power = s.power ∧ (breakSeq hd cause s).io = s.io ∧ (breakSeq hd cause s).fw = s.fw ∧
    (breakSeq hd cause s).out = s.out ∧ (breakSeq hd cause s).free = s.free := by
  unfold breakSeq
  (try dsimp only)
  (repeat' apply And.intro) <;> (repeat' split) <;> first | rfl | simp

@[simp] theorem breakAllSeqs_frame (cause : Nat) (s : State) :
    (breakAllSeqs cause s).pending = s.pending ∧ (breakAllSeqs cause s).clk = s.clk ∧
    (breakAllSeqs cause s).adm = s.adm ∧ (breakAllSeqs cause s).mac = s.mac ∧ (breakAllSeqs cause s).epoch = s.epoch ∧
    (breakAllSeqs cause s).trk = s.trk ∧ (breakAllSeqs cause s).met = s.met ∧ (breakAllSeqs cause s).led = s.led ∧
    (breakAllSeqs cause s).lp = s.lp ∧ (breakAllSeqs cause s).time = s.time ∧ (breakAllSeqs cause s).trunk = s.trunk ∧
    (breakAllSeqs cause s).life = s.life ∧ (breakAllSeqs cause s).test = s.test ∧
    (breakAllSeqs cause s).power = s.power ∧ (breakAllSeqs cause s).io = s.io ∧ (breakAllSeqs cause s).fw = s.fw ∧
    (breakAllSeqs cause s).out = s.out ∧ (breakAllSeqs cause s).free = s.free := by
  unfold breakAllSeqs
  generalize s.ib.seqs.map (fun p => p.1) = l
  induction l generalizing s with
  | nil => simp
  | cons h r ih => simp [List.foldl_cons, ih]

@[simp] theorem touchSession_frame (sid : Nat) (s : State) :
    (touchSession sid s).pending = s.pending ∧ (touchSession sid s).clk = s.clk ∧ (touchSession sid s).dict = s.dict ∧
    (touchSession sid s).adm = s.adm ∧ (touchSession sid s).mac = s.mac ∧ (touchSession sid s).epoch = s.epoch ∧
    (touchSession sid s).trk = s.trk ∧ (touchSession sid s).met = s.met ∧ (touchSession sid s).led = s.led ∧
    (touchSession sid s).lanes = s.lanes ∧ (touchSession sid s).lp = s.lp ∧ (touchSession sid s).time = s.time ∧
    (touchSession sid s).recd = s.recd ∧ (touchSession sid s).trunk = s.trunk ∧ (touchSession sid s).life = s.life ∧
    (touchSession sid s).test = s.test ∧ (touchSession sid s).power = s.power ∧ (touchSession sid s).io = s.io ∧
    (touchSession sid s).fw = s.fw ∧ (touchSession sid s).out = s.out ∧ (touchSession sid s).free = s.free := ⟨rfl, rfl, rfl, rfl, rfl, rfl, rfl, rfl, rfl, rfl, rfl, rfl, rfl, rfl, rfl, rfl, rfl, rfl, rfl, rfl, rfl⟩

@[simp] theorem renewLease_frame (sid : Nat) (hd : Nat) (s : State) :
    (renewLease sid hd s).pending = s.pending ∧ (renewLease sid hd s).clk = s.clk ∧
    (renewLease sid hd s).dict = s.dict ∧ (renewLease sid hd s).adm = s.adm ∧ (renewLease sid hd s).mac = s.mac ∧
    (renewLease sid hd s).epoch = s.epoch ∧ (renewLease sid hd s).trk = s.trk ∧ (renewLease sid hd s).met = s.met ∧
    (renewLease sid hd s).led = s.led ∧ (renewLease sid hd s).lanes = s.lanes ∧ (renewLease sid hd s).lp = s.lp ∧
    (renewLease sid hd s).time = s.time ∧ (renewLease sid hd s).recd = s.recd ∧
    (renewLease sid hd s).trunk = s.trunk ∧ (renewLease sid hd s).life = s.life ∧
    (renewLease sid hd s).test = s.test ∧ (renewLease sid hd s).power = s.power ∧ (renewLease sid hd s).io = s.io ∧
    (renewLease sid hd s).fw = s.fw ∧ (renewLease sid hd s).out = s.out ∧ (renewLease sid hd s).free = s.free := ⟨rfl, rfl, rfl, rfl, rfl, rfl, rfl, rfl, rfl, rfl, rfl, rfl, rfl, rfl, rfl, rfl, rfl, rfl, rfl, rfl, rfl⟩

@[simp] theorem answer_frame (sid : Nat) (h : Hdr) (a : Answer) :
    (answer sid h a).pending = a.1.pending ∧ (answer sid h a).clk = a.1.clk ∧ (answer sid h a).dict = a.1.dict ∧
    (answer sid h a).adm = a.1.adm ∧ (answer sid h a).mac = a.1.mac ∧ (answer sid h a).epoch = a.1.epoch ∧
    (answer sid h a).trk = a.1.trk ∧ (answer sid h a).met = a.1.met ∧ (answer sid h a).led = a.1.led ∧
    (answer sid h a).time = a.1.time ∧ (answer sid h a).recd = a.1.recd ∧ (answer sid h a).life = a.1.life ∧
    (answer sid h a).test = a.1.test ∧ (answer sid h a).power = a.1.power ∧ (answer sid h a).io = a.1.io ∧
    (answer sid h a).fw = a.1.fw := by
  unfold answer
  (try dsimp only)
  (repeat' apply And.intro) <;> (repeat' split) <;> first | rfl | simp

@[simp] theorem lateReply_frame (sid : Nat) (seq : Nat) (obj : Nat) (r : Reply) (s : State) :
    (lateReply sid seq obj r s).pending = s.pending ∧ (lateReply sid seq obj r s).clk = s.clk ∧
    (lateReply sid seq obj r s).dict = s.dict ∧ (lateReply sid seq obj r s).adm = s.adm ∧
    (lateReply sid seq obj r s).mac = s.mac ∧ (lateReply sid seq obj r s).epoch = s.epoch ∧
    (lateReply sid seq obj r s).trk = s.trk ∧ (lateReply sid seq obj r s).met = s.met ∧
    (lateReply sid seq obj r s).led = s.led ∧ (lateReply sid seq obj r s).time = s.time ∧
    (lateReply sid seq obj r s).recd = s.recd ∧ (lateReply sid seq obj r s).life = s.life ∧
    (lateReply sid seq obj r s).test = s.test ∧ (lateReply sid seq obj r s).power = s.power ∧
    (lateReply sid seq obj r s).io = s.io ∧ (lateReply sid seq obj r s).fw = s.fw := by
  unfold lateReply
  (try dsimp only)
  (repeat' apply And.intro) <;> (repeat' split) <;> first | rfl | simp

@[simp] theorem duplicate_frame (sid : Nat) (lowest : Nat) (h : Hdr) (c : Option Reply) (s : State) :
    (duplicate sid lowest h c s).pending = s.pending ∧ (duplicate sid lowest h c s).clk = s.clk ∧
    (duplicate sid lowest h c s).dict = s.dict ∧ (duplicate sid lowest h c s).adm = s.adm ∧
    (duplicate sid lowest h c s).mac = s.mac ∧ (duplicate sid lowest h c s).epoch = s.epoch ∧
    (duplicate sid lowest h c s).trk = s.trk ∧ (duplicate sid lowest h c s).met = s.met ∧
    (duplicate sid lowest h c s).led = s.led ∧ (duplicate sid lowest h c s).time = s.time ∧
    (duplicate sid lowest h c s).recd = s.recd ∧ (duplicate sid lowest h c s).life = s.life ∧
    (duplicate sid lowest h c s).test = s.test ∧ (duplicate sid lowest h c s).power = s.power ∧
    (duplicate sid lowest h c s).io = s.io ∧ (duplicate sid lowest h c s).fw = s.fw := by
  unfold duplicate
  (try dsimp only)
  (repeat' apply And.intro) <;> (repeat' split) <;> first | rfl | simp

@[simp] theorem refusal_frame (h : Hdr) (r : Reply) (s : State) :
    (refusal h r s).pending = s.pending ∧ (refusal h r s).clk = s.clk ∧ (refusal h r s).dict = s.dict ∧
    (refusal h r s).adm = s.adm ∧ (refusal h r s).mac = s.mac ∧ (refusal h r s).epoch = s.epoch ∧
    (refusal h r s).trk = s.trk ∧ (refusal h r s).met = s.met ∧ (refusal h r s).led = s.led ∧
    (refusal h r s).time = s.time ∧ (refusal h r s).recd = s.recd ∧ (refusal h r s).life = s.life ∧
    (refusal h r s).test = s.test ∧ (refusal h r s).power = s.power ∧ (refusal h r s).io = s.io ∧
    (refusal h r s).fw = s.fw := by
  unfold refusal
  (try dsimp only)
  (repeat' apply And.intro) <;> (repeat' split) <;> first | rfl | simp

@[simp] theorem updTime_frame (f : TimeBase → TimeBase) (s : State) :
    (updTime f s).pending = s.pending ∧ (updTime f s).clk = s.clk ∧ (updTime f s).ib = s.ib ∧
    (updTime f s).dict = s.dict ∧ (updTime f s).adm = s.adm ∧ (updTime f s).mac = s.mac ∧
    (updTime f s).epoch = s.epoch ∧ (updTime f s).trk = s.trk ∧ (updTime f s).met = s.met ∧
    (updTime f s).led = s.led ∧ (updTime f s).lanes = s.lanes ∧ (updTime f s).lp = s.lp ∧
    (updTime f s).recd = s.recd ∧ (updTime f s).trunk = s.trunk ∧ (updTime f s).life = s.life ∧
    (updTime f s).test = s.test ∧ (updTime f s).power = s.power ∧ (updTime f s).io = s.io ∧ (updTime f s).fw = s.fw ∧
    (updTime f s).out = s.out ∧ (updTime f s).free = s.free := ⟨rfl, rfl, rfl, rfl, rfl, rfl, rfl, rfl, rfl, rfl, rfl, rfl, rfl, rfl, rfl, rfl, rfl, rfl, rfl, rfl, rfl⟩

@[simp] theorem updOut_frame (k : Nat) (f : Output → Output) (s : State) :
    (updOut k f s).pending = s.pending ∧ (updOut k f s).clk = s.clk ∧ (updOut k f s).ib = s.ib ∧
    (updOut k f s).dict = s.dict ∧ (updOut k f s).adm = s.adm ∧ (updOut k f s).mac = s.mac ∧
    (updOut k f s).epoch = s.epoch ∧ (updOut k f s).trk = s.trk ∧ (updOut k f s).met = s.met ∧
    (updOut k f s).led = s.led ∧ (updOut k f s).lanes = s.lanes ∧ (updOut k f s).lp = s.lp ∧
    (updOut k f s).time = s.time ∧ (updOut k f s).recd = s.recd ∧ (updOut k f s).trunk = s.trunk ∧
    (updOut k f s).life = s.life ∧ (updOut k f s).test = s.test ∧ (updOut k f s).power = s.power ∧
    (updOut k f s).fw = s.fw ∧ (updOut k f s).out = s.out ∧ (updOut k f s).free = s.free := ⟨rfl, rfl, rfl, rfl, rfl, rfl, rfl, rfl, rfl, rfl, rfl, rfl, rfl, rfl, rfl, rfl, rfl, rfl, rfl, rfl, rfl⟩

@[simp] theorem switchPin_frame (k : Nat) (v : Bool) (s : State) :
    (switchPin k v s).pending = s.pending ∧ (switchPin k v s).clk = s.clk ∧ (switchPin k v s).ib = s.ib ∧
    (switchPin k v s).adm = s.adm ∧ (switchPin k v s).mac = s.mac ∧ (switchPin k v s).epoch = s.epoch ∧
    (switchPin k v s).trk = s.trk ∧ (switchPin k v s).met = s.met ∧ (switchPin k v s).led = s.led ∧
    (switchPin k v s).lp = s.lp ∧ (switchPin k v s).time = s.time ∧ (switchPin k v s).trunk = s.trunk ∧
    (switchPin k v s).life = s.life ∧ (switchPin k v s).test = s.test ∧ (switchPin k v s).power = s.power ∧
    (switchPin k v s).fw = s.fw ∧ (switchPin k v s).out = s.out ∧ (switchPin k v s).free = s.free := by
  unfold switchPin
  (try dsimp only)
  (repeat' apply And.intro) <;> (repeat' split) <;> first | rfl | simp

@[simp] theorem setPin_frame (k : Nat) (v : Bool) (s : State) :
    (setPin k v s).pending = s.pending ∧ (setPin k v s).clk = s.clk ∧ (setPin k v s).ib = s.ib ∧
    (setPin k v s).adm = s.adm ∧ (setPin k v s).mac = s.mac ∧ (setPin k v s).epoch = s.epoch ∧
    (setPin k v s).trk = s.trk ∧ (setPin k v s).met = s.met ∧ (setPin k v s).led = s.led ∧ (setPin k v s).lp = s.lp ∧
    (setPin k v s).time = s.time ∧ (setPin k v s).trunk = s.trunk ∧ (setPin k v s).life = s.life ∧
    (setPin k v s).power = s.power ∧ (setPin k v s).fw = s.fw ∧ (setPin k v s).out = s.out ∧
    (setPin k v s).free = s.free := by
  unfold setPin
  (try dsimp only)
  (repeat' apply And.intro) <;> (repeat' split) <;> first | rfl | simp

@[simp] theorem driveOut_frame (k : Nat) (v : Bool) (s : State) :
    (driveOut k v s).pending = s.pending ∧ (driveOut k v s).clk = s.clk ∧ (driveOut k v s).ib = s.ib ∧
    (driveOut k v s).adm = s.adm ∧ (driveOut k v s).mac = s.mac ∧ (driveOut k v s).epoch = s.epoch ∧
    (driveOut k v s).trk = s.trk ∧ (driveOut k v s).met = s.met ∧ (driveOut k v s).led = s.led ∧
    (driveOut k v s).lp = s.lp ∧ (driveOut k v s).time = s.time ∧ (driveOut k v s).trunk = s.trunk ∧
    (driveOut k v s).life = s.life ∧ (driveOut k v s).power = s.power ∧ (driveOut k v s).fw = s.fw ∧
    (driveOut k v s).out = s.out ∧ (driveOut k v s).free = s.free := by
  unfold driveOut
  (try dsimp only)
  (repeat' apply And.intro) <;> (repeat' split) <;> first | rfl | simp

@[simp] theorem outSync_frame (s : State) :
    (outSync s).pending = s.pending ∧ (outSync s).clk = s.clk ∧ (outSync s).ib = s.ib ∧ (outSync s).adm = s.adm ∧
    (outSync s).mac = s.mac ∧ (outSync s).epoch = s.epoch ∧ (outSync s).trk = s.trk ∧ (outSync s).met = s.met ∧
    (outSync s).led = s.led ∧ (outSync s).lp = s.lp ∧ (outSync s).time = s.time ∧ (outSync s).trunk = s.trunk ∧
    (outSync s).life = s.life ∧ (outSync s).power = s.power ∧ (outSync s).fw = s.fw ∧ (outSync s).out = s.out ∧
    (outSync s).free = s.free := by
  have h1 : ∀ (l : List Nat) (s : State), ((l.foldl (fun s k => setPin k false s) s).pending = s.pending ∧ (l.foldl (fun s k => setPin k false s) s).clk = s.clk ∧ (l.foldl (fun s k => setPin k false s) s).ib = s.ib ∧ (l.foldl (fun s k => setPin k false s) s).adm = s.adm ∧ (l.foldl (fun s k => setPin k false s) s).mac = s.mac ∧ (l.foldl (fun s k => setPin k false s) s).epoch = s.epoch ∧ (l.foldl (fun s k => setPin k false s) s).trk = s.trk ∧ (l.foldl (fun s k => setPin k false s) s).met = s.met ∧ (l.foldl (fun s k => setPin k false s) s).led = s.led ∧ (l.foldl (fun s k => setPin k false s) s).lp = s.lp ∧ (l.foldl (fun s k => setPin k false s) s).time = s.time ∧ (l.foldl (fun s k => setPin k false s) s).trunk = s.trunk ∧ (l.foldl (fun s k => setPin k false s) s).life = s.life ∧ (l.foldl (fun s k => setPin k false s) s).power = s.power ∧ (l.foldl (fun s k => setPin k false s) s).fw = s.fw ∧ (l.foldl (fun s k => setPin k false s) s).out = s.out ∧ (l.foldl (fun s k => setPin k false s) s).free = s.free) := by
    intro l
    induction l with
    | nil => intro s; simp
    | cons k r ih => intro s; simp [List.foldl_cons, ih]
  have h2 : ∀ (l : List Nat) (s : State), ((l.foldl (fun s k => driveOut k (outWanted s k) s) s).pending = s.pending ∧ (l.foldl (fun s k => driveOut k (outWanted s k) s) s).clk = s.clk ∧ (l.foldl (fun s k => driveOut k (outWanted s k) s) s).ib = s.ib ∧ (l.foldl (fun s k => driveOut k (outWanted s k) s) s).adm = s.adm ∧ (l.foldl (fun s k => driveOut k (outWanted s k) s) s).mac = s.mac ∧ (l.foldl (fun s k => driveOut k (outWanted s k) s) s).epoch = s.epoch ∧ (l.foldl (fun s k => driveOut k (outWanted s k) s) s).trk = s.trk ∧ (l.foldl (fun s k => driveOut k (outWanted s k) s) s).met = s.met ∧ (l.foldl (fun s k => driveOut k (outWanted s k) s) s).led = s.led ∧ (l.foldl (fun s k => driveOut k (outWanted s k) s) s).lp = s.lp ∧ (l.foldl (fun s k => driveOut k (outWanted s k) s) s).time = s.time ∧ (l.foldl (fun s k => driveOut k (outWanted s k) s) s).trunk = s.trunk ∧ (l.foldl (fun s k => driveOut k (outWanted s k) s) s).life = s.life ∧ (l.foldl (fun s k => driveOut k (outWanted s k) s) s).power = s.power ∧ (l.foldl (fun s k => driveOut k (outWanted s k) s) s).fw = s.fw ∧ (l.foldl (fun s k => driveOut k (outWanted s k) s) s).out = s.out ∧ (l.foldl (fun s k => driveOut k (outWanted s k) s) s).free = s.free) := by
    intro l
    induction l with
    | nil => intro s; simp
    | cons k r ih => intro s; simp [List.foldl_cons, ih]
  unfold outSync
  split
  · exact h1 _ s
  · split
    · simp
    · exact h2 _ s

@[simp] theorem updLife_frame (f : Life → Life) (s : State) :
    (updLife f s).pending = s.pending ∧ (updLife f s).clk = s.clk ∧ (updLife f s).ib = s.ib ∧
    (updLife f s).dict = s.dict ∧ (updLife f s).adm = s.adm ∧ (updLife f s).mac = s.mac ∧
    (updLife f s).epoch = s.epoch ∧ (updLife f s).trk = s.trk ∧ (updLife f s).met = s.met ∧
    (updLife f s).led = s.led ∧ (updLife f s).lanes = s.lanes ∧ (updLife f s).lp = s.lp ∧
    (updLife f s).time = s.time ∧ (updLife f s).recd = s.recd ∧ (updLife f s).trunk = s.trunk ∧
    (updLife f s).test = s.test ∧ (updLife f s).power = s.power ∧ (updLife f s).io = s.io ∧ (updLife f s).fw = s.fw ∧
    (updLife f s).out = s.out ∧ (updLife f s).free = s.free := ⟨rfl, rfl, rfl, rfl, rfl, rfl, rfl, rfl, rfl, rfl, rfl, rfl, rfl, rfl, rfl, rfl, rfl, rfl, rfl, rfl, rfl⟩

@[simp] theorem updVault_frame (l : Lane) (f : Vault → Vault) (s : State) :
    (updVault l f s).pending = s.pending ∧ (updVault l f s).clk = s.clk ∧ (updVault l f s).ib = s.ib ∧
    (updVault l f s).dict = s.dict ∧ (updVault l f s).adm = s.adm ∧ (updVault l f s).mac = s.mac ∧
    (updVault l f s).epoch = s.epoch ∧ (updVault l f s).trk = s.trk ∧ (updVault l f s).met = s.met ∧
    (updVault l f s).led = s.led ∧ (updVault l f s).lp = s.lp ∧ (updVault l f s).time = s.time ∧
    (updVault l f s).recd = s.recd ∧ (updVault l f s).trunk = s.trunk ∧ (updVault l f s).life = s.life ∧
    (updVault l f s).test = s.test ∧ (updVault l f s).power = s.power ∧ (updVault l f s).io = s.io ∧
    (updVault l f s).fw = s.fw ∧ (updVault l f s).out = s.out ∧ (updVault l f s).free = s.free := ⟨rfl, rfl, rfl, rfl, rfl, rfl, rfl, rfl, rfl, rfl, rfl, rfl, rfl, rfl, rfl, rfl, rfl, rfl, rfl, rfl, rfl⟩

@[simp] theorem updPower_frame (f : Power → Power) (s : State) :
    (updPower f s).pending = s.pending ∧ (updPower f s).clk = s.clk ∧ (updPower f s).ib = s.ib ∧
    (updPower f s).dict = s.dict ∧ (updPower f s).adm = s.adm ∧ (updPower f s).mac = s.mac ∧
    (updPower f s).epoch = s.epoch ∧ (updPower f s).trk = s.trk ∧ (updPower f s).met = s.met ∧
    (updPower f s).led = s.led ∧ (updPower f s).lanes = s.lanes ∧ (updPower f s).lp = s.lp ∧
    (updPower f s).time = s.time ∧ (updPower f s).recd = s.recd ∧ (updPower f s).trunk = s.trunk ∧
    (updPower f s).life = s.life ∧ (updPower f s).test = s.test ∧ (updPower f s).io = s.io ∧
    (updPower f s).fw = s.fw ∧ (updPower f s).out = s.out ∧ (updPower f s).free = s.free := ⟨rfl, rfl, rfl, rfl, rfl, rfl, rfl, rfl, rfl, rfl, rfl, rfl, rfl, rfl, rfl, rfl, rfl, rfl, rfl, rfl, rfl⟩

@[simp] theorem updFw_frame (f : Firmware → Firmware) (s : State) :
    (updFw f s).pending = s.pending ∧ (updFw f s).clk = s.clk ∧ (updFw f s).ib = s.ib ∧ (updFw f s).dict = s.dict ∧
    (updFw f s).adm = s.adm ∧ (updFw f s).mac = s.mac ∧ (updFw f s).epoch = s.epoch ∧ (updFw f s).trk = s.trk ∧
    (updFw f s).met = s.met ∧ (updFw f s).led = s.led ∧ (updFw f s).lanes = s.lanes ∧ (updFw f s).lp = s.lp ∧
    (updFw f s).time = s.time ∧ (updFw f s).recd = s.recd ∧ (updFw f s).trunk = s.trunk ∧ (updFw f s).life = s.life ∧
    (updFw f s).test = s.test ∧ (updFw f s).power = s.power ∧ (updFw f s).io = s.io ∧ (updFw f s).out = s.out ∧
    (updFw f s).free = s.free := ⟨rfl, rfl, rfl, rfl, rfl, rfl, rfl, rfl, rfl, rfl, rfl, rfl, rfl, rfl, rfl, rfl, rfl, rfl, rfl, rfl, rfl⟩

@[simp] theorem updBank_frame (l : Lane) (bank : Nat) (f : Bank → Bank) (s : State) :
    (updBank l bank f s).pending = s.pending ∧ (updBank l bank f s).clk = s.clk ∧ (updBank l bank f s).ib = s.ib ∧
    (updBank l bank f s).dict = s.dict ∧ (updBank l bank f s).adm = s.adm ∧ (updBank l bank f s).mac = s.mac ∧
    (updBank l bank f s).epoch = s.epoch ∧ (updBank l bank f s).trk = s.trk ∧ (updBank l bank f s).met = s.met ∧
    (updBank l bank f s).led = s.led ∧ (updBank l bank f s).lanes = s.lanes ∧ (updBank l bank f s).lp = s.lp ∧
    (updBank l bank f s).time = s.time ∧ (updBank l bank f s).recd = s.recd ∧ (updBank l bank f s).trunk = s.trunk ∧
    (updBank l bank f s).life = s.life ∧ (updBank l bank f s).test = s.test ∧ (updBank l bank f s).power = s.power ∧
    (updBank l bank f s).io = s.io ∧ (updBank l bank f s).out = s.out ∧ (updBank l bank f s).free = s.free := ⟨rfl, rfl, rfl, rfl, rfl, rfl, rfl, rfl, rfl, rfl, rfl, rfl, rfl, rfl, rfl, rfl, rfl, rfl, rfl, rfl, rfl⟩

@[simp] theorem updBoot_frame (l : Lane) (f : Boot → Boot) (s : State) :
    (updBoot l f s).pending = s.pending ∧ (updBoot l f s).clk = s.clk ∧ (updBoot l f s).ib = s.ib ∧
    (updBoot l f s).dict = s.dict ∧ (updBoot l f s).adm = s.adm ∧ (updBoot l f s).mac = s.mac ∧
    (updBoot l f s).epoch = s.epoch ∧ (updBoot l f s).trk = s.trk ∧ (updBoot l f s).met = s.met ∧
    (updBoot l f s).led = s.led ∧ (updBoot l f s).lanes = s.lanes ∧ (updBoot l f s).lp = s.lp ∧
    (updBoot l f s).time = s.time ∧ (updBoot l f s).recd = s.recd ∧ (updBoot l f s).trunk = s.trunk ∧
    (updBoot l f s).life = s.life ∧ (updBoot l f s).test = s.test ∧ (updBoot l f s).power = s.power ∧
    (updBoot l f s).io = s.io ∧ (updBoot l f s).out = s.out ∧ (updBoot l f s).free = s.free := ⟨rfl, rfl, rfl, rfl, rfl, rfl, rfl, rfl, rfl, rfl, rfl, rfl, rfl, rfl, rfl, rfl, rfl, rfl, rfl, rfl, rfl⟩

@[simp] theorem updSlot_frame (i : Nat) (f : NodeImage → NodeImage) (s : State) :
    (updSlot i f s).pending = s.pending ∧ (updSlot i f s).clk = s.clk ∧ (updSlot i f s).ib = s.ib ∧
    (updSlot i f s).dict = s.dict ∧ (updSlot i f s).adm = s.adm ∧ (updSlot i f s).mac = s.mac ∧
    (updSlot i f s).trk = s.trk ∧ (updSlot i f s).met = s.met ∧ (updSlot i f s).led = s.led ∧
    (updSlot i f s).lanes = s.lanes ∧ (updSlot i f s).lp = s.lp ∧ (updSlot i f s).time = s.time ∧
    (updSlot i f s).recd = s.recd ∧ (updSlot i f s).trunk = s.trunk ∧ (updSlot i f s).life = s.life ∧
    (updSlot i f s).test = s.test ∧ (updSlot i f s).power = s.power ∧ (updSlot i f s).io = s.io ∧
    (updSlot i f s).fw = s.fw ∧ (updSlot i f s).out = s.out ∧ (updSlot i f s).free = s.free := ⟨rfl, rfl, rfl, rfl, rfl, rfl, rfl, rfl, rfl, rfl, rfl, rfl, rfl, rfl, rfl, rfl, rfl, rfl, rfl, rfl, rfl⟩

@[simp] theorem updTrk_frame (f : Traffic → Traffic) (s : State) :
    (updTrk f s).pending = s.pending ∧ (updTrk f s).clk = s.clk ∧ (updTrk f s).ib = s.ib ∧
    (updTrk f s).dict = s.dict ∧ (updTrk f s).adm = s.adm ∧ (updTrk f s).mac = s.mac ∧ (updTrk f s).epoch = s.epoch ∧
    (updTrk f s).met = s.met ∧ (updTrk f s).led = s.led ∧ (updTrk f s).lanes = s.lanes ∧ (updTrk f s).lp = s.lp ∧
    (updTrk f s).time = s.time ∧ (updTrk f s).recd = s.recd ∧ (updTrk f s).trunk = s.trunk ∧
    (updTrk f s).life = s.life ∧ (updTrk f s).test = s.test ∧ (updTrk f s).power = s.power ∧ (updTrk f s).io = s.io ∧
    (updTrk f s).fw = s.fw ∧ (updTrk f s).out = s.out ∧ (updTrk f s).free = s.free := ⟨rfl, rfl, rfl, rfl, rfl, rfl, rfl, rfl, rfl, rfl, rfl, rfl, rfl, rfl, rfl, rfl, rfl, rfl, rfl, rfl, rfl⟩

@[simp] theorem updTrack_frame (n : Nat) (f : Track → Track) (s : State) :
    (updTrack n f s).pending = s.pending ∧ (updTrack n f s).clk = s.clk ∧ (updTrack n f s).ib = s.ib ∧
    (updTrack n f s).dict = s.dict ∧ (updTrack n f s).adm = s.adm ∧ (updTrack n f s).mac = s.mac ∧
    (updTrack n f s).epoch = s.epoch ∧ (updTrack n f s).met = s.met ∧ (updTrack n f s).led = s.led ∧
    (updTrack n f s).lanes = s.lanes ∧ (updTrack n f s).lp = s.lp ∧ (updTrack n f s).time = s.time ∧
    (updTrack n f s).recd = s.recd ∧ (updTrack n f s).trunk = s.trunk ∧ (updTrack n f s).life = s.life ∧
    (updTrack n f s).test = s.test ∧ (updTrack n f s).power = s.power ∧ (updTrack n f s).io = s.io ∧
    (updTrack n f s).fw = s.fw ∧ (updTrack n f s).out = s.out ∧ (updTrack n f s).free = s.free := ⟨rfl, rfl, rfl, rfl, rfl, rfl, rfl, rfl, rfl, rfl, rfl, rfl, rfl, rfl, rfl, rfl, rfl, rfl, rfl, rfl, rfl⟩

@[simp] theorem updAdm_frame (f : Admission → Admission) (s : State) :
    (updAdm f s).pending = s.pending ∧ (updAdm f s).clk = s.clk ∧ (updAdm f s).ib = s.ib ∧
    (updAdm f s).dict = s.dict ∧ (updAdm f s).mac = s.mac ∧ (updAdm f s).epoch = s.epoch ∧ (updAdm f s).trk = s.trk ∧
    (updAdm f s).met = s.met ∧ (updAdm f s).led = s.led ∧ (updAdm f s).lanes = s.lanes ∧ (updAdm f s).lp = s.lp ∧
    (updAdm f s).time = s.time ∧ (updAdm f s).recd = s.recd ∧ (updAdm f s).trunk = s.trunk ∧
    (updAdm f s).life = s.life ∧ (updAdm f s).test = s.test ∧ (updAdm f s).power = s.power ∧ (updAdm f s).io = s.io ∧
    (updAdm f s).fw = s.fw ∧ (updAdm f s).out = s.out ∧ (updAdm f s).free = s.free := ⟨rfl, rfl, rfl, rfl, rfl, rfl, rfl, rfl, rfl, rfl, rfl, rfl, rfl, rfl, rfl, rfl, rfl, rfl, rfl, rfl, rfl⟩

@[simp] theorem updHalf_frame (l : Lane) (c : Core) (f : PortHalf → PortHalf) (s : State) :
    (updHalf l c f s).pending = s.pending ∧ (updHalf l c f s).clk = s.clk ∧ (updHalf l c f s).ib = s.ib ∧
    (updHalf l c f s).dict = s.dict ∧ (updHalf l c f s).adm = s.adm ∧ (updHalf l c f s).mac = s.mac ∧
    (updHalf l c f s).epoch = s.epoch ∧ (updHalf l c f s).trk = s.trk ∧ (updHalf l c f s).met = s.met ∧
    (updHalf l c f s).led = s.led ∧ (updHalf l c f s).lp = s.lp ∧ (updHalf l c f s).time = s.time ∧
    (updHalf l c f s).recd = s.recd ∧ (updHalf l c f s).trunk = s.trunk ∧ (updHalf l c f s).life = s.life ∧
    (updHalf l c f s).test = s.test ∧ (updHalf l c f s).power = s.power ∧ (updHalf l c f s).io = s.io ∧
    (updHalf l c f s).fw = s.fw ∧ (updHalf l c f s).out = s.out ∧ (updHalf l c f s).free = s.free := by
  unfold updHalf
  (try dsimp only)
  (repeat' apply And.intro) <;> (repeat' split) <;> first | rfl | simp

@[simp] theorem updTicket_frame (tk : Nat) (f : Ticket → Ticket) (s : State) :
    (updTicket tk f s).pending = s.pending ∧ (updTicket tk f s).clk = s.clk ∧ (updTicket tk f s).ib = s.ib ∧
    (updTicket tk f s).dict = s.dict ∧ (updTicket tk f s).mac = s.mac ∧ (updTicket tk f s).epoch = s.epoch ∧
    (updTicket tk f s).trk = s.trk ∧ (updTicket tk f s).met = s.met ∧ (updTicket tk f s).led = s.led ∧
    (updTicket tk f s).lanes = s.lanes ∧ (updTicket tk f s).lp = s.lp ∧ (updTicket tk f s).time = s.time ∧
    (updTicket tk f s).recd = s.recd ∧ (updTicket tk f s).trunk = s.trunk ∧ (updTicket tk f s).life = s.life ∧
    (updTicket tk f s).test = s.test ∧ (updTicket tk f s).power = s.power ∧ (updTicket tk f s).io = s.io ∧
    (updTicket tk f s).fw = s.fw ∧ (updTicket tk f s).out = s.out ∧ (updTicket tk f s).free = s.free := ⟨rfl, rfl, rfl, rfl, rfl, rfl, rfl, rfl, rfl, rfl, rfl, rfl, rfl, rfl, rfl, rfl, rfl, rfl, rfl, rfl, rfl⟩

@[simp] theorem updTest_frame (f : SelfTest → SelfTest) (s : State) :
    (updTest f s).pending = s.pending ∧ (updTest f s).clk = s.clk ∧ (updTest f s).ib = s.ib ∧
    (updTest f s).dict = s.dict ∧ (updTest f s).adm = s.adm ∧ (updTest f s).mac = s.mac ∧
    (updTest f s).epoch = s.epoch ∧ (updTest f s).trk = s.trk ∧ (updTest f s).met = s.met ∧
    (updTest f s).led = s.led ∧ (updTest f s).lanes = s.lanes ∧ (updTest f s).lp = s.lp ∧
    (updTest f s).time = s.time ∧ (updTest f s).recd = s.recd ∧ (updTest f s).trunk = s.trunk ∧
    (updTest f s).life = s.life ∧ (updTest f s).power = s.power ∧ (updTest f s).io = s.io ∧ (updTest f s).fw = s.fw ∧
    (updTest f s).out = s.out ∧ (updTest f s).free = s.free := ⟨rfl, rfl, rfl, rfl, rfl, rfl, rfl, rfl, rfl, rfl, rfl, rfl, rfl, rfl, rfl, rfl, rfl, rfl, rfl, rfl, rfl⟩

end Sys2Proof.Machine
end

