-- ==== Sys2Proof/Laws/Requests.lean ====
section
/-!
SUPPORT. What a request that arrives does: its pipeline once, and what closing a step leaves of a state.
-/
namespace Sys2Proof.Machine

open Sys2Proof.Safety

/-- The closed state of a step. -/
theorem done_eq (s s' : State) :
    done s s' = .next { settle { s with clk := { s.clk with fab := s.clk.prev } } s' with
      pending := s.pending, clk := { s'.clk with fab := s.clk.fab, prev := s.clk.prev } } := by
  have h := (settle_frame { s with clk := { s.clk with fab := s.clk.prev } } s').2.1
  simp only [done, h]

/-- A request that arrives is answered with what its operation gives. -/
theorem request_arrives {typ : Nat} {nb : Bool} {h : Hdr} {op : Nat → Session → State → Answer} {sid t : Nat}
    {s : State} (ha : arrives typ nb h sid s = true) :
    request typ nb h op (tick t s) = answer sid h (op sid (caller t sid s) (opState t h sid s)) := by
  simp only [arrives, Bool.and_eq_true, decide_eq_true_eq, Bool.not_eq_true', beq_iff_eq] at ha
  obtain ⟨⟨⟨⟨⟨⟨hl, hr⟩, hk⟩, h1⟩, h2⟩, h3⟩, h4⟩ := ha
  have e1 : ¬ (1200 < h.size) := by omega
  have e2 : relayBad (tick t s) h = false := by rw [← hr]; rfl
  have f1 : (tick t s).ib = s.ib := by simp
  cases ea : mget s.ib.assocs h.assoc with
  | none => simp [ea] at h1
  | some a =>
    simp [ea] at h1
    cases ex : mget s.ib.sessions sid with
    | none => simp [ex] at h2
    | some x0 =>
      simp [ex] at h2
      have ey : mget (touchSession sid (tick t s)).ib.sessions sid
          = some { x0 with last := time64 (tick t s), lastFab := (tick t s).clk.fab } := by
        simp [touchSession, mmod, ex, mget_mset_same]
      have er : ∀ z : State, mget (renewLease sid h.handle z).ib.sessions sid = mget z.ib.sessions sid := fun _ => rfl
      simp only [request, f1, ea, h1, ey, e2, decide_eq_false e1, h3, h4, bne_self_eq_false, Bool.false_eq_true, Bool.or_false, if_false,
        execute, hk]
      simp only [caller, opState, ey, Option.getD_some]
      cases hh : x0.hi with
      | none => simp [newHigh, renewLease]
      | some hi =>
        simp only [freshSeq, hh, Bool.or_eq_true, Bool.and_eq_true, decide_eq_true_eq, Bool.not_eq_true'] at h2
        by_cases hs : seqHigher h.seq hi = true
        · simp [newHigh, hs, renewLease]
        · have hs' : seqHigher h.seq hi = false := by simpa using hs
          rcases h2 with h2 | ⟨h2, h5⟩
          · exact absurd h2 hs
          · have h6 : x0.cache.find? (fun p => p.1 == h.seq) = none := by
              rw [List.find?_eq_none]
              intro p hp
              have := List.any_eq_false.mp h5 p hp
              simpa using this
            simp [newHigh, hs', h2, h6, renewLease]

end Sys2Proof.Machine
end

