-- ==== Sys2Proof/Tests/Slice0.lean ====
section
/-!
SUPPORT. Small states and operands, a witness for the hypotheses of every statement, and tests of single commands and of
the checks of well-formedness against the spec.
-/
namespace Sys2Proof.Tests

open Sys2Proof.Machine Sys2Proof.Safety

set_option Elab.async false

def num (tag : Nat) (n : Int) : TVal := { tag := tag, val := .num n }
def oct (b : Bytes) : TVal := { tag := 13, val := .bytes b }
def hdr (obj : Nat) : Hdr :=
  { assoc := 3, rhVersion := 1, rhModule := 255, tclass := 0, rhReserved := 0, size := 32, typ := 3, flags := 0, length := 32,
    sid := 7, seq := 1, handle := 0, dclass := 0, resend := 0, deadline := 0, obj := obj, firstRow := 4294967295, rowCount := 0,
    reserved := 0, strike := .none }
def ahdr (m typ obj : Nat) : Hdr := { hdr obj with rhModule := m, typ := typ }
def wAddr : Peer := { addr := [], port := 0, service := true }
def wCert : Cert := { wellFormed := true, anchor := some 0, ouLevel := some 3, hash := [1], inDates := true, returnAnchor := false }
def wA : State :=
  { State.reset with
    lanes := { State.reset.lanes with a := { State.reset.lanes.a with role := .active } }
    lp := { State.reset.lp with owner := some .A }
    life := { State.reset.life with state := .owned }
    dict := { State.reset.dict with store := [(okey 0x10120 0, [.num 1, .bytes [], .num 3, .bytes []])] } }
def wAssoc : Assoc := { entry := .service, via := 255, peer := wAddr, recNo := 0, cert := wCert, level := 3, session := none }
def wSess : Session :=
  { client := List.replicate 16 1, level := 3, assoc := 3, entry := .service, opened := 0, last := 0, lastFab := 0, idle := 600,
    hi := none, cache := [], noticeSeq := 0, broken := [] }
def wS : State :=
  { wA with ib := { wA.ib with assocs := [(3, { wAssoc with session := some 7 }), (4, wAssoc)], sessions := [(7, wSess)] } }
def wS2 : State := { wS with ib := { wS.ib with sessions := [(7, wSess), (8, { wSess with client := List.replicate 16 9, assoc := 5 })] } }
def wCmp (f : Option Nat) : Completion :=
  { client := List.replicate 16 1, compSeq := 1, ticket := 1, reqSeq := 1, origSid := 7, urgent := false, notice := [], created := 0,
    firstSent := f, resends := 0 }
def wComp : State := { wS with ib := { wS.ib with comps := [(0, wCmp (some 0))] } }
def wHeld : State := { wS with ib := { wS.ib with comps := [(0, wCmp none)], heldFor := [(7, 9)] } }
def wNoSub : Sub := { sid := 7, mode := 1, minSev := 0, interval := 1000, obj := 16, row := 4294967295, changes := 0, changedAt := 0, dirty := [], notBefore := 0 }
def wSub (mode ch : Nat) : State := { wS with ib := { wS.ib with subs := [(5, { wNoSub with mode := mode, changes := ch })] } }
def wObj : ObjDesc := cmdObj 0 0 none
def wSq : Sequence := { sid := 7, client := List.replicate 16 1, groups := [0], leaseLen := 60, leaseEnd := 60 * 400000000, shadows := [], restores := [], commit := none }
def wSeq : State := { wS with ib := { wS.ib with seqs := [(1, wSq)] } }
def wTicket : Ticket :=
  { id := 1, state := 1, dclass := 1, obj := 0, client := List.replicate 16 1, sid := 7, reqSeq := 1, submitter := 0, kind := 0, group := 0,
    admitted := 0, deadlineTime := 0, deadline := 1000000000, deadlineAsn := 500, admSeq := 1, frame := { endpoints := 0, func := 0, args := [] },
    job := .cmd, begun := [], targets := [], booked := 0, sent := 0, released := 0, shockedN := 0, fShock := false, fPath := false,
    fExcl := false, fSwitch := false, fRestart := false, cfs := [] }
def wTk : State := { wS with adm := { wS.adm with tickets := [(0, wTicket)] } }
def wMod (m : Nat) (s : State) : State := putRow 0x30101 0 [.num m] s
def wMaster : State := wMod 0 wS
def wMember : State := putRow 0x30100 0 [.num 1] (wMod 1 wS)
def wTopo : TopoMsg := { tgen := 1, anchor := 0, kind := 0, deputy := 1, dateline := 0, entries := [(0, true), (1, true)] }
def wCasc (n : Option Nat) : CascadeSurvey := { asn := 0, mask := 3, sid := 7, reqSeq := 1, snap := n, recs := [] }
def wCascade (n : Option Nat) : State :=
  { wMaster with ib := { wMaster.ib with surveys := [wCasc n] }, trunk := { wMaster.trunk with topo := some wTopo } }
def nhdr (obj : Nat) : Hdr := { hdr obj with rhModule := 1, dclass := 2, tclass := 0, deadline := 60000 }
def wDesc : List TVal := [num 11 1, num 3 1, num 3 0]
def wNode : State := wMod 1 wS
def wNodeEp : State := wNode
def wNodeImg : State := { wNode with epoch := { wNode.epoch with store := [{ NodeImage.init with id := 9, bytes := 512, blocks := 1, state := 2 }, NodeImage.init] } }
def wPort (p : PortHalf) : State := updLane .A (fun x => { x with ports := { x.ports with a := p } }) wS
def wZoned (s : State) : State := putRow 0x70120 1 [.num 5, .num 0x3FFFF, .num 0, .num 0, .num 0, .num 0, .num 1] s
def timed (s : State) : State := { s with time := { s.time with oscStopped := false } }
def wRow400 : Row := [.num 1, .num 1, .num 0, .num 0, .num 1, .num 1, .num 0, .num 0, .num 9000, .bytes (List.replicate 8 255), .num 4, .num 10]
def wRadio : State :=
  let s := putRow 0x40111 0 [.num 1] (putRow 0x40111 1 [.num 1] wMaster)
  let s := putRow 0x40400 2 wRow400 (putRow 0x40500 5 [.bytes (List.replicate 8 7), .bytes (List.replicate 49 1), .num 2, .num 3, .num 1] s)
  updNode 5 (fun k => { k with joined := 1, hist := List.replicate 30 true }) s
def wTicketM : Ticket :=
  { wTicket with targets := [{ node := 5, cluster := 2, member := 3, k := 1, plcb := 0, acked := false, run := 0, shocked := false, excluded := false, out := none, got := [], hit := 0 }] }
def wBook : Booking :=
  { ticket := 1, cluster := 2, attempt := 0, xcvr := 0, asn := 3, len := 1, chan := 4, dur := 1000, dclass := 1, policy := false, urgent := false, seg := none, sent := false }
def wBooked : State := { wRadio with adm := { wRadio.adm with tickets := [(0, wTicketM)], bookings := [wBook] } }
def wExp : Expect := { kind := .echo, asn := 3, cluster := 2, alt := false, targets := 0, ticket := 0, last := 3, seg := none, func := 0, arg := 0, mask := 0 }
def wExpS : State := updX 0 (fun k => { k with expect := [wExp] }) wRadio
def wShock : State := updNode 5 (fun k => { k with shock := some (0, 3) }) (updMac (fun m => { m with probes := [5] }) wRadio)
def wBurst : Burst :=
  { xcvr := 0, cluster := 2, member := 3, seq := 1, flags := 0, counter := 1, fcsOk := true, micOk := true, rssi := -60, start := 0, asn := 0,
    events := [{ endpoint := 5, kind := 0, age := 0, data := 1 }, { endpoint := 1, kind := 0, age := 0, data := 1 }] }
def wJoinX : State := putRow 0x40110 0 [.num 0, .num 7, .num 0, .num 0, .num 1] wRadio
def wJoin : Join := { xcvr := 0, eui := List.replicate 8 7, nonce := [1], key := [2], asn := 126, node := none, eph := 0, own := [], sig := [], parts := [], waited := 0, rssi := 0 }
def wPres : Presence := { vertex := 6, kind := 1, data := 64, at_ := 0, arrived := 0 }
def wTrack (st : TrackState) : Track := { Track.init with state := st, cls := 1, vertex := 6, speed := 1000, lastAt := 0, tseq := 7 }
def wFr : LastFrame := { eta0 := 100, built := 0, speed := 1000, entries := [(9, 100)] }
def wVert (l : List Presence) (ks : NMap Track) : State :=
  updTrk (fun k => { k with ingest := l, tracks := ks }) (putRow 0x70100 6 [.num 1] wS)
def wHand : HandoffMsg := { source := 1, track := 2, bkey := 3, cls := 1, flags := 0, speed := 1000, eta := 16777216, hseq := 4 }
def wHoTrack : Track := { wTrack .confirmed with boundary := some (9, 100), handoff := some { hseq := 4, tries := 0, at_ := 0, vertex := 9, dist := 100 } }
def wPhase (p : Phase) : State := updMet (fun m => { m with phases := [Phase.init, p, Phase.init] }) wS
def wSmp : Samples := { raw := [], hot := false }
def wCal : State :=
  let s := { wS with ib := { wS.ib with seqs := [(1, { wSq with groups := [19] })] } }
  s
def wJob : CalJob := { sid := 7, reqSeq := 1, handle := 1, phase := 0, step := 1, vref := 230000, iref := 1000, angle := 0, ends := 0, leaseLeft := 10 }
def wDark : State :=
  { State.reset with
    lanes := { a := { State.reset.lanes.a with running := false }, b := { State.reset.lanes.b with running := false } }
    power := { State.reset.power with mainOn := false } }
def wPair : State := { wS with lanes := { wS.lanes with b := { wS.lanes.b with role := .standby } } }
def wLag (r : Resync) : State := { wS with lanes := { wS.lanes with b := { wS.lanes.b with role := .lagging, resync := r } } }
def updLp (f : LanePair → LanePair) (s : State) : State := { s with lp := f s.lp }
def wDip (f : Nat) : State := { wS with power := { wS.power with dip := some (f, false) } }
def wPow (f : Power → Power) (s : State) : State := { s with power := f s.power }
def wRingTopo : TopoMsg := { tgen := 5, anchor := 0, kind := 0, deputy := 2, dateline := 0, entries := [(0, true), (1, true), (2, true)] }
def wPeer (n q : Nat) : HelloMsg := { role := 1, node := n, port := q, part := 3, cascade := 1, serial := [], nonce := 1, proto := 1, caps := 0, notice := none }
def wUp (n q : Nat) : Port :=
  { Port.init with state := 4, present := true, negotiated := true, peer := some (wPeer n q), wasUp := true, grant := [256, 1024, 2048, 1024] }
def wRing (id : Nat) (a b : Port) : State :=
  let s := putRow 0x30100 0 [.num 1] (wMod id wS)
  { s with trunk := { s.trunk with ports := [a, b], topo := some wRingTopo, tgen := 5 } }
def wRing1 : State := wRing 1 (wUp 0 1) (wUp 2 0)
def wRing0 : State := wRing 0 (wUp 2 1) (wUp 1 0)
def wBoundS : State :=
  updTrk (fun k => { k with bounds := [(9, { state := 2, nVertex := 0, nLength := 0, since := none })] })
    (putRow 0x70100 9 [.num 3, .num 0, .num 255, .num 65535, .num 0, .num 0, .num 65535, .num 0, .num 0, .num 65535, .num 0, .num 0, .num 65535, .num 0, .num 0, .num 1, .num 3] wRing0)
def wHoS : State := updTrk (fun k => { k with tracks := [(0, wHoTrack)] }) wBoundS
def wPort2 (n : Nat) : Port := { Port.init with state := 2, present := true, negotiated := true, peer := some (wPeer n 1) }
def wOffer : OfferMsg := { time := 0, anchor := 0, quality := 0, master := 0, grant := [256, 1024, 2048, 1024], proofOk := true, nonceOk := true }
def wTf : TrunkFrame := { cls := 2, vc := 0, turned := false, mtype := 0x10, dst := 1, src := 0, hops := 5, tgen := 5, fcnt := 1, len := 64, tagOk := true }
def wStatus : StatusMsg := { module := 2, sticky := 0, activeLane := 0, roleA := 2, roleB := 1, health := 1000, quality := 0, ring := 0, ticketsOpen := 0, time := 0 }
def wOwn : State :=
  let v := { wPair.lanes.a.vault with root := some [], roots := true, unsealed := true, keys := true }
  { wPair with lanes := { a := { wPair.lanes.a with vault := v }, b := { wPair.lanes.b with vault := v } } }
def wVault (f : Vault → Vault) : State := updVault .A f wOwn
def wSess4 (lc : Lc) : State :=
  { wOwn with life := { wOwn.life with state := lc }, ib := { wOwn.ib with sessions := [(7, { wSess with level := 4 })] } }
def wRec : Record := { typ := 0x100, sev := 5, summary := false, origin := 0, late := false, rseq := 0, time := 0, rep := 0, source := 1, lastMs := 0, payload := [] }
def wQ (q : List Record) : State := { wPair with recd := { wPair.recd with queue := q } }
def wSum0 : Summary := { start := 0, samples := 3, lo := 0, loTime := 0, hi := 0, hiTime := 0, sum := 0, under := 0, ovr := 0, bins := [], partialFlag := false }
def wSum : State := putRow 0xB0120 3 [.num 0x18, .num 1, .num 0, .num 0, .num 0] { wPair with recd := { wPair.recd with sums := [(3, wSum0)] } }
def wIrq : State := updIcu .A (fun x => icuMod 2 (fun y => { y with enabled := true, pending := true }) x) wPair
def wClaimed : State := updIcu .A (fun x => claimTake 0 1 (6, 2, false) (icuMod 2 (fun y => { y with enabled := true, pending := true }) x)) wPair
def wSw (d : Nat) (l : Bool) (b : Nat) : SumpWord := { data := BitVec.ofNat 64 d, last := l, bad := b }
def wSump (q : Nat) (ws : List SumpWord) : State := updSump .A q (fun k => { k with words := ws }) wPair
def wGour : State := updArb .A 0 (modReq 0 2 (fun q => { q with waiting := [(0, 1, false)], credit := 4 })) wPair
def wImg : ImageHdr := { magicOk := true, partMask := 4, version := 2, rollback := 0, stateLayout := 0, settingsLayout := 0, migrateFrom := 0, feature := 0, minPeer := 0, runtimeOk := true, policyLen := 0, policyVersion := 0, policyOk := true, policyKey := [] }
def wStream : StreamHdr := { assoc := 3, target := 255, kind := 0, lanes := 2, tid := 5, offset := 0, length := 100 }
def wTr (got : List (Nat × Nat)) : Transfer := { tid := 5, kind := 0, lanes := 2, total := 100, sha := List.replicate 32 1, got := got, opened := 0, last := 0, programming := none, closed := false, data := [] }
def wStr (x : Transfer) : State := { wPair with fw := { wPair.fw with transfers := [(1, x)] } }
def wStaged : State := updBank .B 1 (fun g => { g with state := 2, img := some wImg }) wPair
def wSlice (r : Nat) : State := updTest (fun t => { t with slice := some { row := r, retest := false, started := 0, skip := false } }) wPair
def wObs : SliceObs := { measured := 0, volts := [], closed := [], seen := true, errors := 0 }
def wSolo : State := { wS2 with lanes := { wS2.lanes with b := { wS2.lanes.b with role := .lagging } } }
def wClosing : State := { wS2 with lanes := { wS2.lanes with b := { wS2.lanes.b with role := .standby } } }

/-- A 16-byte serial number passes the checks of returnModule. -/
theorem serial_returnModule (b : Bytes) (hb : b.length = 16) :
    passes 0x10302 [.octets 16] false (5) (hdr 0x10302) ([oct b]) (7) (wOwn) = true := by
  match b, hb with
  | [_, _, _, _, _, _, _, _, _, _, _, _, _, _, _, _], _ => rfl

/-- A 16-byte serial number passes the checks of scrap. -/
theorem serial_scrap (b : Bytes) (hb : b.length = 16) :
    passes 0x10303 [.octets 16] false (5) (hdr 0x10303) ([oct b]) (7)
      ({ wOwn with life := { wOwn.life with state := .returned } }) = true := by
  match b, hb with
  | [_, _, _, _, _, _, _, _, _, _, _, _, _, _, _, _], _ => rfl

/-- A 16-byte serial number passes the checks of fwRestartAll. -/
theorem serial_fwRestartAll (b : Bytes) (hb : b.length = 16) :
    passes 0xD0302 [.octets 16] false (5) (hdr 0xD0302) ([oct b]) (7) (updBank .A 1 (fun g =>
      { g with state := 2, img := some wImg }) wStaged) = true := by
  match b, hb with
  | [_, _, _, _, _, _, _, _, _, _, _, _, _, _, _, _], _ => rfl

/-- What StepRunsFront asks of its operands and states is met, clause by clause. -/
theorem witness_StepRunsFront :
    (∃ (c : Instr) (l : List Instr) (s : State), s.pending = c :: l) ∧
    (∃ s : State, s.pending = []) :=
  ⟨⟨.snapshot 5, [], State.reset.push (.snapshot 5), rfl⟩,
    ⟨State.reset, rfl⟩⟩

/-- What CommandsComplete asks of its operands and states is met, clause by clause. -/
theorem witness_CommandsComplete :
    ∃ c : Instr, instrOk c = true :=
  ⟨.shockTimeout 5 3, by decide +kernel⟩

/-- What QueueAndClock asks of its operands and states is met, clause by clause. -/
theorem witness_QueueAndClock :
    ∃ s u : State, queueOk s = true ∧ step s = .next u :=
  ⟨State.reset.push (.shockTimeout 5 3), _, by decide +kernel, rfl⟩

/-- What MemoryForm asks of its operands and states is met, clause by clause. -/
theorem witness_MemoryForm :
    ∃ s u : State, memoryOk s = true ∧ step s = .next u :=
  ⟨State.reset.push (.shockTimeout 5 3), _, by decide +kernel, rfl⟩

/-- What OneActiveLane asks of its operands and states is met, clause by clause. -/
theorem witness_OneActiveLane :
    ∃ s u : State, oneActive s = true ∧ step s = .next u :=
  ⟨State.reset.push (.shockTimeout 5 3), _, by decide +kernel, rfl⟩

/-- What MemoryFrames asks of its operands and states is met, clause by clause. -/
theorem witness_MemoryFrames :
    (∃ (c : Instr) (s u : State), storesMram c = false ∧ exec c s = .next u) ∧
    (∃ (t : Nat) (a b : Samples) (s u : State), exec (.periodicSave t a b) s = .next u) ∧
    (∃ (t : Nat) (a b : Samples) (s u : State), (active s).isSome = true ∧ exec (.periodicSave t a b) s = .next u) ∧
    (∃ (l : Lane) (s : State), active s = some (otherLane l) ∧ (s.lanes.get l).role = .lagging ∧ (s.lanes.get
      l).resync = .transfer ∧ bridgeUp s = true) :=
  ⟨⟨.shockTimeout 5 3, State.reset, _, rfl, rfl⟩,
    ⟨0, wSmp, wSmp, State.reset, _, rfl⟩,
    ⟨0, wSmp, wSmp, wS, _, rfl, rfl⟩,
    ⟨.B, { wS with lanes := { wS.lanes with b := { wS.lanes.b with role := .lagging, resync := .transfer } } },
      by decide +kernel⟩⟩

/-- What RequestFrames asks of its operands and states is met, clause by clause. -/
theorem witness_RequestFrames :
    ∃ (c : Instr) (ps : List Part) (s u : State), requestParts c = some ps ∧ exec c s = .next u :=
  ⟨.datagramDrop 5 ⟨1, 255, 0, 0⟩ true 1201, _, State.reset, _, rfl, rfl⟩

/-- What RadioFrames asks of its operands and states is met, clause by clause. -/
theorem witness_RadioFrames :
    ∃ (c : Instr) (ps : List Part) (s u : State), radioParts c = some ps ∧ exec c s = .next u :=
  ⟨.shockTimeout 5 3, _, State.reset, _, rfl, rfl⟩

/-- What SupplyFrames asks of its operands and states is met, clause by clause. -/
theorem witness_SupplyFrames :
    ∃ (c : Instr) (ps : List Part) (s u : State), supplyParts c = some ps ∧ exec c s = .next u :=
  ⟨.padSensorStuck 5 0, _, State.reset, _, rfl, rfl⟩

/-- What RingFrames asks of its operands and states is met, clause by clause. -/
theorem witness_RingFrames :
    ∃ (c : Instr) (ps : List Part) (s u : State), ringParts c = some ps ∧ exec c s = .next u :=
  ⟨.orphanTimeout 5 0, _, State.reset, _, rfl, rfl⟩

/-- What ModuleFrames asks of its operands and states is met, clause by clause. -/
theorem witness_ModuleFrames :
    ∃ (c : Instr) (ps : List Part) (s u : State), moduleParts c = some ps ∧ exec c s = .next u :=
  ⟨.stopEntry 5 .A, _, State.reset, _, rfl, rfl⟩

/-- What SessionLife asks of its operands and states is met, clause by clause. -/
theorem witness_SessionLife :
    (∃ (t : Nat) (e : Entry) (o : Offer13) (c : Cert) (s : State), (active s).isSome = true ∧ entryOpen s e = true ∧
      offerTaken o = true ∧ certTaken s c = true ∧ (s.ib.handshakes.filter (fun i => decide (max s.clk.fab t <
      i))).length < 16) ∧
    (∃ (v m c r n : Nat) (auth : Bool) (s : State), counts s = true ∧ (v ≠ 1 ∨ 1 < c ∨ r ≠ 0 ∨ reachable s m = false
      ∨ (m = modId s ∧ (auth = false ∨ 1200 < n)))) ∧
    (∃ (a : Nat) (x : Assoc) (s : State), mget s.ib.assocs a = some x) ∧
    (∃ (t idle : Nat) (h : Hdr) (client : Bytes) (a : Assoc) (s : State), h.size ≤ 1200 ∧ relayBad s h = false ∧
      h.strike = .none ∧ mget s.ib.assocs h.assoc = some a ∧ setupRefused a h client idle (tick t s) = none) ∧
    (∃ (t sid : Nat) (h : Hdr) (s : State), arrives 9 false h sid s = true ∧ plainRefused h sid (caller t sid s)
      (opState t h sid s) = none) ∧
    (∃ (t sid : Nat) (x : Session) (s : State), mget s.ib.sessions sid = some x ∧ x.lastFab + x.idle *
      Config.secCycles ≤ max s.clk.fab t) :=
  ⟨⟨5, .service, { version := true, suite := true, group := true, sig := true, early := true }, wCert, wS,
      by decide +kernel⟩,
    ⟨1, 255, 0, 0, 1201, true, wS, by decide +kernel⟩,
    ⟨3, (mget wS.ib.assocs 3).getD wAssoc, wS, by decide +kernel⟩,
    ⟨5, 60, { ahdr 255 8 0 with sid := 0, seq := 0, assoc := 4 }, List.replicate 16 2, wAssoc, wS,
      by decide +kernel⟩,
    ⟨5, 7, ahdr 255 9 0, wS, by decide +kernel⟩,
    ⟨600 * 400000000, 7, (mget wS.ib.sessions 7).getD noSession, wS, by decide +kernel⟩⟩

/-- What CompletionsAndNotices asks of its operands and states is met, clause by clause. -/
theorem witness_CompletionsAndNotices :
    (∃ (sid : Nat) (h : Hdr) (a : Assoc) (x : Session) (s : State), h.size ≤ 1200 ∧ relayBad s h = false ∧ mget
      s.ib.assocs h.assoc = some a ∧ a.session = some sid ∧ mget s.ib.sessions sid = some x ∧ h.sid = sid ∧ headerBad
      10 false h = false ∧ h.seq = 0 ∧ h.obj = 0) ∧
    (∃ (t k f i : Nat) (c : Completion) (x : Session) (s : State), mget s.ib.comps k = some c ∧ c.firstSent = some f
      ∧ c.resends < 5 ∧ f + resendAt c.resends * Config.msCycles ≤ max s.clk.fab t ∧ clientSession s c.client = some i
      ∧ mget s.ib.sessions i = some x ∧ canReach s x.assoc = true) ∧
    (∃ (t sid k : Nat) (w : Nat × Nat) (x : Session) (c : Completion) (s : State), s.ib.heldFor.find? (fun p => p.1
      == sid) = some w ∧ mget s.ib.sessions sid = some x ∧ w.2 ≤ max s.clk.fab t ∧ mget s.ib.comps k = some c ∧
      c.client = x.client ∧ clientSession s x.client = some sid ∧ heldComp c = true ∧ canReach s x.assoc = true) ∧
    (∃ (t k : Nat) (c : Completion) (s : State), mget s.ib.comps k = some c ∧ c.created + 3600 * Config.secCycles ≤
      max s.clk.fab t) ∧
    (∃ (t sid subId mode minSev interval : Nat) (h : Hdr) (s : State), arrives 7 false h sid s = true ∧ plainRefused
      h sid (caller t sid s) (opState t h sid s) = none ∧ subRefused sid h subId mode minSev interval (opState t h sid
      s) = none ∧ mode ≠ 0) ∧
    (∃ (t sid subId minSev interval : Nat) (h : Hdr) (s : State), arrives 7 false h sid s = true ∧ plainRefused h
      sid (caller t sid s) (opState t h sid s) = none ∧ subRefused sid h subId 0 minSev interval (opState t h sid s) =
      none) ∧
    (∃ (t i : Nat) (b : Sub) (x : Session) (s : State), mget s.ib.subs i = some b ∧ b.mode = 1 ∧ b.notBefore ≤ max
      s.clk.fab t ∧ b.changes ≠ 0 ∧ b.interval ≠ 0 ∧ mget s.ib.sessions b.sid = some x ∧ canReach s x.assoc = true) ∧
    (∃ (t i : Nat) (b : Sub) (x : Session) (s : State), mget s.ib.subs i = some b ∧ b.mode = 2 ∧ b.notBefore ≤ max
      s.clk.fab t ∧ mget s.ib.sessions b.sid = some x ∧ canReach s x.assoc = true) :=
  ⟨⟨7, { ahdr 255 10 0 with seq := 0 }, (mget wComp.ib.assocs 3).getD wAssoc, (mget wComp.ib.sessions 7).getD
      noSession, wComp, by decide +kernel⟩,
    ⟨200000000, 0, 0, 7, wCmp (some 0), wSess, wComp, by decide +kernel⟩,
    ⟨9, 7, 0, (7, 9), (mget wHeld.ib.sessions 7).getD noSession, wCmp none, wHeld, by decide +kernel⟩,
    ⟨3600 * 400000000, 0, wCmp (some 0), wComp, by decide +kernel⟩,
    ⟨5, 7, 0, 1, 0, 100, ahdr 255 7 0x00010, wS, by decide +kernel⟩,
    ⟨5, 7, 5, 0, 100, ahdr 255 7 0x00010, wSub 1 0, by decide +kernel⟩,
    ⟨5, 5, (mget (wSub 1 2).ib.subs 5).getD wNoSub, wSess, wSub 1 2, by decide +kernel⟩,
    ⟨5, 5, (mget (wSub 2 0).ib.subs 5).getD wNoSub, wSess, wSub 2 0, by decide +kernel⟩⟩

/-- What ReadsAndWrites asks of its operands and states is met, clause by clause. -/
theorem witness_ReadsAndWrites :
    (∃ (t sid : Nat) (h : Hdr) (d : ObjDesc) (s : State), arrives 1 false h sid s = true ∧ objAt (opState t h sid s)
      h.obj h.firstRow = some d ∧ lifeAllows s.life.state .read h.obj = true ∧ d.acc ≠ .x ∧ plainRefused h sid (caller
      t sid s) (opState t h sid s) = none ∧ d.cap = 0 ∧ h.handle = 0) ∧
    (∃ (t sid : Nat) (h : Hdr) (d : ObjDesc) (s : State), arrives 1 false h sid s = true ∧ objAt (opState t h sid s)
      h.obj h.firstRow = some d ∧ lifeAllows s.life.state .read h.obj = true ∧ d.acc ≠ .x ∧ plainRefused h sid (caller
      t sid s) (opState t h sid s) = none ∧ d.cap ≠ 0 ∧ h.handle = 0) ∧
    (∃ (t sid : Nat) (h : Hdr) (args : List TVal) (s : State) (d : ObjDesc), passes 0x00200 [cU32] false t h args
      sid s = true ∧ objNow (opState t h sid s) (argN args 0) = some d) ∧
    (∃ (t sid : Nat) (h : Hdr) (args : List TVal) (s : State) (k : Ticket), passes 0x50310 [cU32] false t h args sid
      s = true ∧ ticketOf s (argN args 0) = some k) ∧
    (∃ (t sid tag r : Nat) (v : Row) (h : Hdr) (d : ObjDesc) (s : State), arrives 2 false h sid s = true ∧ objAt
      (opState t h sid s) h.obj (writeRow h) = some d ∧ writeRefused h tag [(r, v)] sid (caller t sid s) d (opState t
      h sid s) = none ∧ d.acc ≠ .w1c ∧ h.handle = 0 ∧ effectFree h.obj = true ∧ r < 4294967296 ∧ changeRefused
      (opState t h sid s) (withRows (writeMap d [(r, v)]) (opState t h sid s)) [okey h.obj (if d.cap = 0 then 0 else
      r)] [] = none) ∧
    (∃ (t sid tag r m : Nat) (h : Hdr) (d : ObjDesc) (s : State), arrives 2 false h sid s = true ∧ objAt (opState t
      h sid s) h.obj (writeRow h) = some d ∧ h.obj = 0xB0100 ∧ writeRefused h tag [(r, [.num (m : Int)])] sid (caller
      t sid s) d (opState t h sid s) = none) :=
  ⟨⟨5, 7, ahdr 255 1 0x00010, (findObj 0x00010).getD wObj, wS, by decide +kernel⟩,
    ⟨5, 7, { ahdr 255 1 0x00111 with firstRow := 0, rowCount := 2 }, (findObj 0x00111).getD wObj, wS,
      by decide +kernel⟩,
    ⟨5, 7, hdr 0x00200, [num 4 0x00110], wS, (findObj 0x00110).getD wObj, by decide +kernel⟩,
    ⟨5, 7, hdr 0x50310, [num 4 1], wTk, wTicket, by decide +kernel⟩,
    ⟨5, 7, 4, 0, [.num 60], ahdr 255 2 0x00110, (findObj 0x00110).getD wObj, wS, by decide +kernel⟩,
    ⟨5, 7, 15, 0, 3, { ahdr 255 2 0xB0100 with firstRow := 0 }, (findObj 0xB0100).getD wObj,
      { wS with dict := { wS.dict with sticky := 5 } }, by decide +kernel⟩⟩

/-- What SequenceLife asks of its operands and states is met, clause by clause. -/
theorem witness_SequenceLife :
    (∃ (t sid mask lease : Nat) (h : Hdr) (s : State), arrives 4 false h sid s = true ∧ h.handle = 0 ∧ h.tclass = 0
      ∧ openRefused mask lease sid (caller t sid s) .plain (opState t h sid s) = none) ∧
    (∃ (t sid tag : Nat) (rows : List (Nat × Row)) (h : Hdr) (d : ObjDesc) (q : Sequence) (s : State), arrives 2
      false h sid s = true ∧ objAt (opState t h sid s) h.obj (writeRow h) = some d ∧ writeRefused h tag rows sid
      (caller t sid s) d (opState t h sid s) = none ∧ d.acc ≠ .w1c ∧ mget (opState t h sid s).ib.seqs h.handle = some
      q ∧ h.handle ≠ 0 ∧ q.sid = sid ∧ q.commit = none ∧ shadowsFit h.handle
      { q with shadows := (writeMap d rows).foldl (fun m p => mset m p.1 p.2) q.shadows } (opState t h sid s) = true) ∧
    (∃ (t sid : Nat) (h : Hdr) (args : List TVal) (s : State) (q : Sequence), passes 0x00240 [cU8] false t h args
      sid s = true ∧ mget (opState t h sid s).ib.seqs h.handle = some q ∧ h.handle ≠ 0 ∧ q.sid = sid ∧ q.commit = none
      ∧ argN args 0 ≠ 1 ∧ argN args 0 ≤ 14 ∧ (bankGroups (argN args 0)).all (fun g => q.groups.contains g) = true ∧
      shadowsFit h.handle (restoreShadow (argN args 0) q) (opState t h sid s) = true) ∧
    (∃ (t sid : Nat) (h : Hdr) (q : Sequence) (s : State), arrives 5 false h sid s = true ∧ h.tclass = 0 ∧ mget
      (opState t h sid s).ib.seqs h.handle = some q ∧ h.handle ≠ 0 ∧ q.sid = sid ∧ q.commit = none ∧ (accepted
      (opState t h sid s)).length = 0 ∧ changeRefused (opState t h sid s) (overlay q (opState t h sid s)) (seqKeys q
      (opState t h sid s)) q.restores = none) ∧
    (∃ (t hd a o n r : Nat) (v : Row) (q : Sequence) (s : State), s.ib.seqs = [(hd, q)] ∧ q.commit = some (a, o) ∧ a
      ≤ asn (tick t s) ∧ q.shadows = [(okey n r, v)] ∧ q.restores = [] ∧ effectFree n = true ∧ r < 4294967296) ∧
    (∃ (t hd : Nat) (q : Sequence) (x : Session) (s : State), mget s.ib.seqs hd = some q ∧ q.commit = none ∧
      q.leaseEnd ≤ max s.clk.fab t ∧ s.met.cal = none ∧ mget s.ib.sessions q.sid = some x) ∧
    (∃ (t sid : Nat) (h : Hdr) (args : List TVal) (s : State) (hd : Nat) (q : Sequence), passes 0x00220 [cU8] false
      t h args sid s = true ∧ argN args 0 ≤ 31 ∧ (argN args 0 < 28 ∨ 30 < argN args 0) ∧ holder (opState t h sid s)
      (argN args 0) = some (hd, q) ∧ mget (opState t h sid s).ib.seqs hd = some q ∧ q.commit = none) :=
  ⟨⟨5, 7, 5, 0, ahdr 255 4 0, wS, by decide +kernel⟩,
    ⟨5, 7, 4, [(0, [.num 60])], { ahdr 255 2 0x00110 with handle := 1 }, (findObj 0x00110).getD wObj, (mget (opState
      5 { ahdr 255 2 0x00110 with handle := 1 } 7 wSeq).ib.seqs 1).getD wSq, wSeq, by decide +kernel⟩,
    ⟨5, 7, { hdr 0x00240 with handle := 1 }, [num 2 0], wSeq, (mget (opState 5 { hdr 0x00240 with handle := 1 } 7
      wSeq).ib.seqs 1).getD wSq, by decide +kernel⟩,
    ⟨5, 7, { ahdr 255 5 0 with handle := 1 }, (mget (opState 5 { ahdr 255 5 0 with handle := 1 } 7 wSeq).ib.seqs
      1).getD wSq, wSeq, by decide +kernel⟩,
    ⟨512000000, 1, 256, 0, 0x00110, 0, [.num 60],
      { wSq with commit := some (256, 0), shadows := [(okey 0x00110 0, [.num 60])] },
      { wS with ib := { wS.ib with seqs := [(1, { wSq with commit := some (256, 0), shadows := [(okey 0x00110 0, [.num 60])] })] } },
      by decide +kernel⟩,
    ⟨60 * 400000000, 1, wSq, (mget wSeq.ib.sessions 7).getD noSession, wSeq, by decide +kernel⟩,
    ⟨5, 7, hdr 0x00220, [num 2 0], wSeq, 1, wSq, by decide +kernel⟩⟩

/-- What SequenceEnd asks of its operands and states is met, clause by clause. -/
theorem witness_SequenceEnd :
    (∃ (t sid : Nat) (h : Hdr) (q : Sequence) (s : State), arrives 6 false h sid s = true ∧ h.tclass = 0 ∧ mget
      (opState t h sid s).ib.seqs h.handle = some q ∧ h.handle ≠ 0 ∧ q.sid = sid ∧ q.commit = none) ∧
    (∃ (t sid : Nat) (h : Hdr) (q : Sequence) (s : State), arrives 6 false h sid s = true ∧ mget (opState t h sid
      s).ib.seqs h.handle = some q ∧ h.handle ≠ 0 ∧ q.sid = sid ∧ q.commit.isSome = true) :=
  ⟨⟨5, 7, { ahdr 255 6 0 with handle := 1 }, (mget (opState 5 { ahdr 255 6 0 with handle := 1 } 7 wSeq).ib.seqs
      1).getD wSq, wSeq, by decide +kernel⟩,
    ⟨5, 7, { ahdr 255 6 0 with handle := 1 }, { wSq with commit := some (256, 0), leaseEnd := 5 + 60 * 400000000 },
      { wS with ib := { wS.ib with seqs := [(1, { wSq with commit := some (256, 0) })] } }, by decide +kernel⟩⟩

/-- What Surveys asks of its operands and states is met, clause by clause. -/
theorem witness_Surveys :
    (∃ (t sid : Nat) (h : Hdr) (args : List TVal) (s : State), passes 0x00100 [cU8, .bits 0xFFFFFFFF, .bits
      0xFFFFFFFF] false t h args sid s = true ∧ argN args 0 = 0) ∧
    (∃ (t sid : Nat) (h : Hdr) (args : List TVal) (s : State), passes 0x00100 [cU8, .bits 0xFFFFFFFF, .bits
      0xFFFFFFFF] false t h args sid s = true ∧ argN args 0 = 1 ∧ actsMaster s = true) ∧
    (∃ (s : State), actsMaster s = false ∧ commissioned s = true) ∧
    (∃ (t a : Nat) (l : List (Nat × Nat)) (s : State), (active s).isSome = true ∧ s.ib.snapPending = [(a, l)] ∧ a ≤
      asn (tick t s)) ∧
    (∃ (m : Nat) (rcd : Bytes) (v : CascadeSurvey) (s : State), actsMaster s = true ∧ rcd.length = 3072 ∧
      s.ib.surveys = [v] ∧ v.asn = ofBe ((rcd.drop 8).take 8) ∧ surveyed s v.mask m = true ∧ surveyFull s
      { v with recs := mset v.recs m rcd } = false) ∧
    (∃ (t n : Nat) (v : CascadeSurvey) (s : State), s.ib.surveys = [v] ∧ v.snap = some n ∧ fabOfAsn (tick t s) v.asn
      + 500 * Config.msCycles ≤ max s.clk.fab t) :=
  ⟨⟨5, 7, hdr 0x00100, [num 2 0, num 12 0, num 12 0], wS, by decide +kernel⟩,
    ⟨5, 7, ahdr 0 3 0x00100, [num 2 1, num 12 0, num 12 1], wMaster, by decide +kernel⟩,
    ⟨wMember, by decide +kernel⟩,
    ⟨2000000, 1, [(7, 1)], { wS with ib := { wS.ib with snapPending := [(1, [(7, 1)])] } }, by decide +kernel⟩,
    ⟨1, List.replicate 3072 0, wCasc none, wCascade none, by decide +kernel⟩,
    ⟨200000000, 1, wCasc (some 1), wCascade (some 1), by decide +kernel⟩⟩

/-- What NodeTickets asks of its operands and states is met, clause by clause. -/
theorem witness_NodeTickets :
    (∃ (t sid : Nat) (h : Hdr) (args : List TVal) (s : State), admits 0x60200 cmdLightSet t h args sid s = true) ∧
    (∃ (t sid : Nat) (h : Hdr) (args : List TVal) (s : State), admits 0x60201 cmdLightResume t h args sid s = true) ∧
    (∃ (t sid : Nat) (h : Hdr) (args : List TVal) (s : State), admits 0x60202 cmdNodeFunc t h args sid s = true) ∧
    (∃ (t sid : Nat) (h : Hdr) (args : List TVal) (s : State), admits 0x60301 cmdEpochStage t h args sid s = true) ∧
    (∃ (t sid : Nat) (h : Hdr) (args : List TVal) (s : State), admits 0x60410 cmdImageBlock t h args sid s = true) :=
  ⟨⟨5, 7, nhdr 0x60200, wDesc ++ [num 2 1, num 2 50, num 2 0, num 3 100], wNode, by decide +kernel⟩,
    ⟨5, 7, nhdr 0x60201, wDesc ++ [num 2 1], wNode, by decide +kernel⟩,
    ⟨5, 7, nhdr 0x60202, wDesc ++ [num 3 2, num 2 5, oct []], wNode, by decide +kernel⟩,
    ⟨5, 7, { nhdr 0x60301 with dclass := 3 }, wDesc ++ [num 2 1], wNodeEp, by decide +kernel⟩,
    ⟨5, 7, { nhdr 0x60410 with dclass := 4, deadline := 600000 }, wDesc ++ [num 4 9, num 3 0], wNodeImg,
      by decide +kernel⟩⟩

/-- What PolicyPort asks of its operands and states is met, clause by clause. -/
theorem witness_PolicyPort :
    (∃ (t tk : Nat) (k : Ticket) (s : State), ticketOf s tk = some k ∧ k.state = 1 ∧ k.submitter = 0 ∧ k.deadline ≤
      max s.clk.fab t ∧ (active s).isSome = true) ∧
    (∃ (l : Lane) (c : Core) (b : Bytes) (r : List Bytes) (s : State), isPolicy c = true ∧ (halfOf l s c).pending =
      b :: r ∧ (halfOf l s c).compBuf % 64 = 0 ∧ 0xA0000000 ≤ (halfOf l s c).compBuf ∧ (halfOf l s c).compBuf + max
      b.length 1 ≤ 0xB0000000) ∧
    (∃ (z cls hold : Nat) (l : Lane) (c : Core) (s : State), isPolicy c = true ∧ (s.lanes.get l).role = .active ∧
      (halfOf l s c).busy = false ∧ z ≤ 255 ∧ rNat (getRow s 0x70120 z) 6 ≠ 0 ∧ classVals.contains cls = true ∧ bitOf
      (rNat (getRow s 0x70120 z) 1) cls = true ∧ 1 ≤ hold ∧ hold ≤ 86400) ∧
    (∃ (t : Nat) (l : Lane) (c : Core) (s : State), isPolicy c = true ∧ (s.lanes.get l).role = .active ∧ (halfOf l s
      c).busy = false ∧ (halfOf l s c).dclass ≠ 0 ∧ (nodeSubmission c (halfOf l s c) (tick t s)).2.isRight = true) ∧
    (∃ (l : Lane) (c : Core) (a : List TVal) (s : State), isPolicy c = true ∧ (s.lanes.get l).role = .active ∧
      (halfOf l s c).busy = false ∧ (halfOf l s c).dclass = 0 ∧ (halfOf l s c).obj = 0x70380 ∧ decodeArgs [cU8, .enum
      (classVals ++ [255]), .int 4 1 86400] ((halfOf l s c).arg.take (min (halfOf l s c).len 1024)) = a ∧ (argType
      [cU8, .enum (classVals ++ [255]), .int 4 1 86400] a).isNone = true ∧ rNat (getRow s 0x70120 (argN a 0)) 6 ≠ 0 ∧
      classVals.contains (argN a 1) = true ∧ bitOf (rNat (getRow s 0x70120 (argN a 0)) 1) (argN a 1) = true ∧ 1 ≤ argN
      a 2 ∧ argN a 2 ≤ 86400) ∧
    (∃ (k f n d : Nat) (l : Lane) (c : Core) (s : State), isPolicy c = true ∧ (s.lanes.get l).role = .active ∧
      (halfOf l s c).busy = false ∧ k ≤ 1 ∧ 1 ≤ n ∧ n ≤ 512 ∧ f + n ≤ (if k = 0 then 57344 else 16384) ∧ d % 64 = 0 ∧
      0xA0000000 ≤ d ∧ d + n * (if k = 0 then 192 else 128) ≤ 0xB0000000) ∧
    (∃ (l : Lane) (c : Core) (j : HistJob) (s : State), isPolicy c = true ∧ copyOf l s c = some j) :=
  ⟨⟨1000000000, 1, wTicket, wTk, by decide +kernel⟩,
    ⟨.A, .A2, [1, 2], [], wPort { PortHalf.init with pending := [[1, 2]], compBuf := 0xA0000000 },
      by decide +kernel⟩,
    ⟨1, 3, 60, .A, .A2, wZoned (wPort PortHalf.init), by decide +kernel⟩,
    ⟨5, .A, .A2, wMod 1 (wPort
      { PortHalf.init with obj := 0x60201, dclass := 2, deadline := 60000, len := 10, arg := [11, 1, 3, 0, 1, 3, 0, 0, 2, 1] ++ List.replicate 1014 0 }),
      by decide +kernel⟩,
    ⟨.A, .A2, [num 2 1, num 11 3, num 4 60], wZoned (wPort
      { PortHalf.init with obj := 0x70380, len := 9, arg := [2, 1, 11, 3, 4, 0, 0, 0, 60] ++ List.replicate 1015 0 }),
      by decide +kernel⟩,
    ⟨0, 0, 1, 0xA0000000, .A, .A2, wPort PortHalf.init, by decide +kernel⟩,
    ⟨.A, .A2, { kind := 0, first := 0, rows := 1, dest := 0xA0000000 }, setCopy .A .A2 (some
      { kind := 0, first := 0, rows := 1, dest := 0xA0000000 }) wS, by decide +kernel⟩⟩

/-- What SlotsAndSuperframes asks of its operands and states is met, clause by clause. -/
theorem witness_SlotsAndSuperframes :
    (∃ (t a ch : Nat) (x : Fin 4) (s : State), a = asn (tick t s) ∧ (isQ s x.val && a % 2 == 1) = false ∧ radioUp s
      = true ∧ inService s x.val = true ∧ (xOf s x.val).lateAsn ≠ some a ∧ (xOf s x.val).busy ≤ a ∧ roleAt s x.val a =
      .broadcast ∧ chanBcast (beaconsResume a (icuRaise (64 + x.val) (tick t s))) x.val a = some ch ∧ beaconFits x.val
      a ch (icuRaise (64 + x.val) (tick t s)) = true) ∧
    (∃ (t : Nat) (x : Fin 4) (b : Booking) (k : Ticket) (s : State), (isQ s x.val && asn (tick t s) % 2 == 1) =
      false ∧ radioUp s = true ∧ inService s x.val = true ∧ (xOf s x.val).lateAsn ≠ some (asn (tick t s)) ∧ (xOf s
      x.val).busy ≤ asn (tick t s) ∧ roleAt s x.val (asn (tick t s)) = .cluster ∧ s.adm.bookings.find? (fun b =>
      b.xcvr == x.val && b.asn == asn (tick t s) && !b.sent) = some b ∧ ticketOf s b.ticket = some k ∧ b.seg = none ∧
      missing k b.cluster ≠ [] ∧ gateBooked (icuRaise (64 + x.val) (tick t s)) b.xcvr b.chan (b.asn / 256) = true) ∧
    (∃ (t : Nat) (x : Fin 4) (codes : List CodeObs) (e : Expect) (s : State), (xOf s x.val).expect.find? (fun e =>
      e.last + 1 == asn (tick t s)) = some e ∧ e.kind = .echo ∧ e.func = 0 ∧ detected codes ≠ []) ∧
    (∃ (x : Fin 4) (s : State), inService s x.val = true ∧ x.val < s.mac.xcvrs.length) ∧
    (∃ (t : Nat) (s : State), s.mac.lastFrame < frame (tick t s)) ∧
    (∃ (t : Nat) (s : State), ¬(s.mac.blank.a.base = frame (tick t s) + 1 ∧ s.mac.blank.b.base = frame (tick t s) +
      1)) :=
  ⟨⟨0, 0, (chanBcast wRadio 0 0).getD 0, 0, wRadio, by decide +kernel⟩,
    ⟨2000000 * 3, 0, wBook, wTicketM, wBooked, by decide +kernel⟩,
    ⟨2000000 * 4, 0, [{ member := 3, ack := true, energy := 700, overDecoy := 1000 }], wExp, wExpS,
      by decide +kernel⟩,
    ⟨0, wRadio, by decide +kernel⟩,
    ⟨512000000, wBooked, by decide +kernel⟩,
    ⟨5, wRadio, by decide +kernel⟩⟩

/-- What LinkState asks of its operands and states is met, clause by clause. -/
theorem witness_LinkState :
    (∃ (t n f k : Nat) (s : State), (nodeOf s n).shock = some (f, k) ∧ f + 8 * Config.frameCycles ≤ max s.clk.fab t) ∧
    (∃ (c : Fin 256) (s : State), inUse s c.val = true ∧ members s c.val ≠ []) ∧
    (∃ (c : Fin 256) (s : State), (clOf s c.val).swapDue = true ∧ inUse s c.val = true) ∧
    (∃ (c : Fin 256) (s : State), (clOf s c.val).backDue = true ∧ inUse s c.val = true) ∧
    (∃ (t n c : Nat) (s : State), dirCluster s n = some c ∧ (nodeOf s n).joined = 1 ∧ max (nodeOf s n).heardFab
      s.mac.restartAt + supervision s c ≤ max s.clk.fab t) :=
  ⟨⟨8 * 512000000, 5, 0, 3, wShock, by decide +kernel⟩,
    ⟨2, wRadio, by decide +kernel⟩,
    ⟨2, updCl 2 (fun k => { k with swapDue := true }) wRadio, by decide +kernel⟩,
    ⟨2, updCl 2 (fun k => { k with servingAlt := true, backDue := true }) wRadio, by decide +kernel⟩,
    ⟨400000000 * 1000, 5, 2, wRadio, by decide +kernel⟩⟩

/-- What BurstsAndJoins asks of its operands and states is met, clause by clause. -/
theorem witness_BurstsAndJoins :
    (∃ (n : Nat) (b : Burst) (s : State), inService s b.xcvr = true ∧ (active s).isSome = true ∧ b.fcsOk = true ∧
      b.cluster < 256 ∧ inUse s b.cluster = true ∧ memberNode s b.cluster b.member = some n ∧ b.micOk = true ∧ (nodeOf
      s n).upCounter.all (fun k => decide (k < b.counter)) = true ∧ b.counter + 65536 < 2147483648 ∧ (nodeOf s
      n).bursts.contains b.seq = false ∧ s.trk.ingest.length + b.events.length ≤ 1024) ∧
    (∃ (a : Nat) (x : Fin 4) (s : State), radioUp s = true ∧ inService s x.val = true ∧ (xMode s x.val = 7 ∨ xMode s
      x.val = 8) ∧ a % 256 = 126) ∧
    (∃ (a n : Nat) (x : Fin 4) (ei no : Bytes) (j : Join) (s : State), s.mac.joins.find? (fun j => j.eui == fit 8 ei
      && j.nonce == no && j.xcvr == x.val && j.parts.isEmpty && j.asn / 256 == a / 256) = some j ∧ radioUp s = true ∧
      a % 256 = 254 ∧ euiRow s j.eui = some n ∧ rNat (dirRow s n) 4 ≠ 0 ∧ (dirCluster s n).isSome = true) ∧
    (∃ (t sid : Nat) (h : Hdr) (args : List TVal) (s : State), passes 0x40610 [.octets 8, .octets 49, .int 3 0 8191,
      cU8, .int 2 0 31] false t h args sid s = true ∧ dirBad s (argN args 2) [.bytes (argB args 0), .bytes (argB args
      1), vN (argN args 3), vN (argN args 4), vN 1] = false ∧ radioEpochOpen s = false) ∧
    (∃ (t sid : Nat) (h : Hdr) (args : List TVal) (s : State), passes 0x40611 [.int 3 0 8191] false t h args sid s =
      true) :=
  ⟨⟨5, wBurst, wRadio, by decide +kernel⟩,
    ⟨126, 0, wJoinX, by decide +kernel⟩,
    ⟨254, 5, 0, List.replicate 8 7, [1], wJoin, updMac (fun m => { m with joins := [wJoin] }) wRadio,
      by decide +kernel⟩,
    ⟨5, 7, ahdr 0 3 0x40610, [oct (List.replicate 8 9), oct (List.replicate 49 1), num 3 6, num 2 2, num 2 4],
      wRadio, by decide +kernel⟩,
    ⟨5, 7, ahdr 0 3 0x40611, [num 3 5], wRadio, by decide +kernel⟩⟩

/-- What EpochLife asks of its operands and states is met, clause by clause. -/
theorem witness_EpochLife :
    (∃ (t sid : Nat) (h : Hdr) (args : List TVal) (s : State), passes 0x60300 [cU32] false t h args sid s = true ∧
      argN args 0 = 0 ∧ timeQuality (opState t h sid s) ≠ 4 ∧ s.epoch.state = 0 ∧ s.epoch.openAt = none) ∧
    (∃ (t sid : Nat) (h : Hdr) (args : List TVal) (s : State), passes 0x60300 [cU32] false t h args sid s = true ∧
      argN args 0 ≠ 0 ∧ s.epoch.store.any (fun k => k.id == argN args 0 && k.state == 2) = true ∧ timeQuality (opState
      t h sid s) ≠ 4 ∧ s.epoch.state = 0 ∧ s.epoch.openAt = none) ∧
    (∃ (t sid : Nat) (h : Hdr) (args : List TVal) (s : State), passes 0x60302 [cU64, .bool] false t h args sid s =
      true ∧ argN args 0 = 0 ∧ s.epoch.state = 1 ∧ (assigned s).all (fun n => s.epoch.staged.contains n) = true) ∧
    (∃ (t : Nat) (s : State), s.epoch.state = 2 ∧ s.epoch.switchAsn ≤ asn (tick t s)) ∧
    (∃ (t : Nat) (s : State), s.epoch.state = 3 ∧ s.epoch.switchAsn + 64 * 256 ≤ asn (tick t s)) ∧
    (∃ (t sid : Nat) (h : Hdr) (args : List TVal) (s : State), passes 0x60303 [] false t h args sid s = true ∧
      s.epoch.state = 1) ∧
    (∃ (t sid : Nat) (h : Hdr) (args : List TVal) (s : State), passes 0x60303 [] false t h args sid s = true ∧
      s.epoch.state = 2 ∧ asn (tick t s) + 512 < s.epoch.switchAsn) ∧
    (∃ (t : Nat) (s : State), s.epoch.state = 2 ∧ s.epoch.radio = true ∧ s.epoch.resume = 0 ∧ s.epoch.switchAsn ≤
      asn (tick t s) + 512 ∧ asn (tick t s) < s.epoch.switchAsn ∧ (assigned s).all (fun n => s.epoch.armed.contains n)
      = false) ∧
    (∃ (t : Nat) (c : Cancelled) (s : State), s.epoch.cancel = some c ∧ c.until_ ≤ asn (tick t s)) ∧
    (∃ (t sid : Nat) (h : Hdr) (args : List TVal) (s : State), passes 0x60401 [.int 2 0 1] false t h args sid s =
      true ∧ imageNamed s (lget s.epoch.store (argN args 0) NodeImage.init).id = false ∧ argN args 0 <
      s.epoch.store.length) :=
  ⟨⟨5, 7, ahdr 0 3 0x60300, [num 4 0], timed wRadio, by decide +kernel⟩,
    ⟨5, 7, ahdr 1 3 0x60300, [num 4 9], timed wNodeImg, by decide +kernel⟩,
    ⟨5, 7, ahdr 0 3 0x60302, [num 5 0, num 1 0], updEp (fun p => { p with state := 1, staged := [5] }) wRadio,
      by decide +kernel⟩,
    ⟨512000000 * 4, updEp (fun p => { p with state := 2, next := 1, switchAsn := 1024 }) wRadio, by decide +kernel⟩,
    ⟨512000000 * 70, updEp (fun p => { p with state := 3, switchAsn := 1024 }) wRadio, by decide +kernel⟩,
    ⟨5, 7, ahdr 0 3 0x60303, [], updEp (fun p => { p with state := 1, next := 1 }) wRadio, by decide +kernel⟩,
    ⟨5, 7, ahdr 0 3 0x60303, [], updEp (fun p => { p with state := 2, next := 1, switchAsn := 1024 }) wRadio,
      by decide +kernel⟩,
    ⟨512000000 * 3, updEp (fun p => { p with state := 2, radio := true, next := 1, switchAsn := 1024 }) wRadio,
      by decide +kernel⟩,
    ⟨512000000 * 9, { until_ := 2048, epoch := 1, switchAsn := 1024, hash := [], flags := 0, imageId := 0 }, updEp
      (fun p =>
      { p with cancel := some { until_ := 2048, epoch := 1, switchAsn := 1024, hash := [], flags := 0, imageId := 0 } })
      wRadio, by decide +kernel⟩,
    ⟨5, 7, ahdr 1 3 0x60401, [num 2 0], wNodeImg, by decide +kernel⟩⟩

/-- What TrackLife asks of its operands and states is met, clause by clause. -/
theorem witness_TrackLife :
    (∃ (n : Nat) (p : Presence) (r : List Presence) (s : State), s.trk.ingest = p :: r ∧ getC s 0x70100 p.vertex 0 =
      1 ∧ p.vertex < 8192 ∧ p.kind = 1 ∧ p.arrived ≤ p.at_ + getN s 0x70132 * Config.msCycles ∧ getB s 0x70135 = true
      ∧ s.trk.tracks = [] ∧ n = 0) ∧
    (∃ (p : Presence) (r : List Presence) (s : State), s.trk.ingest = p :: r) ∧
    (∃ (t n : Nat) (f : LastFrame) (e : Nat × Nat) (s : State), isLive (trackOf s n) = true ∧ (trackOf s n).speed ≠
      0 ∧ (trackOf s n).frames = [f] ∧ f.entries.getLast? = some e ∧ f.speed ≠ 0 ∧ f.built < f.eta0 + travelAt f.speed
      e.2 / 2 ∧ f.eta0 + travelAt f.speed e.2 / 2 ≤ max s.clk.fab t) ∧
    (∃ (t n : Nat) (s : State), (trackOf s n).state = .tentative ∧ (trackOf s n).lastAt + 10 * Config.secCycles ≤
      max s.clk.fab t) ∧
    (∃ (t n : Nat) (s : State), (trackOf s n).state = .confirmed ∧ 1 ≤ missedOf (tick t s) (trackOf s n)) ∧
    (∃ (t n : Nat) (s : State), (trackOf s n).state = .coasting ∧ (trackOf s n).lastAt + getN s 0x70131 *
      Config.secCycles ≤ max s.clk.fab t) ∧
    (∃ (t n v d : Nat) (s : State), (trackOf s n).state = .handed ∧ (trackOf s n).boundary = some (v, d) ∧ (trackOf
      s n).lastAt + travel (tick t s) (trackOf s n) d + 5 * Config.secCycles ≤ max s.clk.fab t) ∧
    (∃ (t n : Nat) (s : State), (trackOf s n).state = .ended ∧ (trackOf s n).endedAt + 120 * Config.secCycles ≤ max
      s.clk.fab t) :=
  ⟨⟨0, wPres, [], wVert [wPres] [], by decide +kernel⟩,
    ⟨wPres, [], wVert [wPres] [(0, wTrack .confirmed)], by decide +kernel⟩,
    ⟨400000000 * 100, 0, wFr, (9, 100), wVert [] [(0, { wTrack .confirmed with frames := [wFr] })],
      by decide +kernel⟩,
    ⟨400000000 * 10, 0, wVert [] [(0, wTrack .tentative)], by decide +kernel⟩,
    ⟨400000000 * 100, 0, wVert [] [(0,
      { wTrack .confirmed with branches := [[{ node := 9, dist := 100, arr := 0, via := [] }]] })], by decide +kernel⟩,
    ⟨400000000 * 100, 0, wVert [] [(0, wTrack .coasting)], by decide +kernel⟩,
    ⟨400000000 * 100, 0, 9, 100, wVert [] [(0, { wTrack .handed with boundary := some (9, 100) })],
      by decide +kernel⟩,
    ⟨400000000 * 200, 0, wVert [] [(0, wTrack .ended)], by decide +kernel⟩⟩

/-- What HandOffs asks of its operands and states is met, clause by clause. -/
theorem witness_HandOffs :
    (∃ (ve n : Nat) (m : HandoffMsg) (s : State), (s.trk.answered.find? (fun a => a.1 == m.source && a.2.1 ==
      m.hseq)).isNone = true ∧ (boundRows s).find? (fun v => getC s 0x70100 v 15 == m.source && getC s 0x70100 v 16 ==
      m.bkey && boundState s v == 2) = some ve ∧ getB s 0x70135 = true ∧ freeTrack s = some n ∧ (route s
      m.source).isSome = true) ∧
    (∃ (m : HandoffMsg) (an : Nat × Nat × Nat × Nat) (s : State), s.trk.answered.find? (fun a => a.1 == m.source &&
      a.2.1 == m.hseq) = some an ∧ (route s m.source).isSome = true) ∧
    (∃ (src q st n : Nat) (k : Track) (s : State), s.trk.tracks.find? (fun p => handedTo s src q p.2) = some (n, k)
      ∧ st ≤ 1) ∧
    (∃ (t q n : Nat) (k : Track) (h : Handing) (s : State), s.trk.tracks.find? (fun p =>
      match p.2.handoff with | some x => x.hseq == q | none => false) = some (n, k) ∧ k.handoff = some h ∧ h.tries < 3
      ∧ h.at_ + 100 * Config.msCycles ≤ max s.clk.fab t ∧ (route s (getC s 0x70100 h.vertex 15)).isSome = true) ∧
    (∃ (t q n : Nat) (k : Track) (h : Handing) (s : State), s.trk.tracks.find? (fun p =>
      match p.2.handoff with | some x => x.hseq == q | none => false) = some (n, k) ∧ trackOf s n = k ∧ k.handoff =
      some h ∧ 3 ≤ h.tries ∧ h.at_ + 100 * Config.msCycles ≤ max s.clk.fab t) ∧
    (∃ (parts : Nat), parts ≤ 1) ∧
    (∃ (t v f : Nat) (b : Boundary) (s : State), mget s.trk.bounds v = some b ∧ b.since = some f ∧ f + 10 *
      Config.secCycles ≤ max s.clk.fab t) :=
  ⟨⟨9, 0, wHand, wBoundS, by decide +kernel⟩,
    ⟨wHand, (1, 4, 0, 0), updTrk (fun k => { k with answered := [(1, 4, 0, 0)] }) wBoundS, by decide +kernel⟩,
    ⟨1, 4, 0, 0, wHoTrack, wHoS, by decide +kernel⟩,
    ⟨400000000, 4, 0,
      { wHoTrack with handoff := some { hseq := 4, tries := 2, at_ := 0, vertex := 9, dist := 100 } },
      { hseq := 4, tries := 2, at_ := 0, vertex := 9, dist := 100 }, updTrk (fun x =>
      { x with tracks := [(0, { wHoTrack with handoff := some { hseq := 4, tries := 2, at_ := 0, vertex := 9, dist := 100 } })] })
      wHoS, by decide +kernel⟩,
    ⟨400000000, 4, 0,
      { wHoTrack with handoff := some { hseq := 4, tries := 3, at_ := 0, vertex := 9, dist := 100 } },
      { hseq := 4, tries := 3, at_ := 0, vertex := 9, dist := 100 }, updTrk (fun x =>
      { x with tracks := [(0, { wHoTrack with handoff := some { hseq := 4, tries := 3, at_ := 0, vertex := 9, dist := 100 } })] })
      wHoS, by decide +kernel⟩,
    ⟨1, by decide +kernel⟩,
    ⟨400000000 * 10, 9, 0, { state := 1, nVertex := 0, nLength := 0, since := some 0 }, updTrk (fun k =>
      { k with bounds := [(9, { state := 1, nVertex := 0, nLength := 0, since := some 0 })] }) wBoundS,
      by decide +kernel⟩⟩

/-- What HistoryAndClasses asks of its operands and states is met, clause by clause. -/
theorem witness_HistoryAndClasses :
    (∃ (t : Nat) (s : State), civilHour (tick t s) ≠ s.trk.hour) ∧
    (∃ (t : Nat) (s : State), civilWeek (tick t s) ≠ s.trk.week) ∧
    (∃ (t a : Nat) (z : Fin 256) (s : State), (zoneOf s z.val).change = some a ∧ a ≤ asn (tick t s)) ∧
    (∃ (t a : Nat) (z : Fin 256) (s : State), (zoneOf s z.val).policyChange = some a ∧ a ≤ asn (tick t s)) ∧
    (∃ (t : Nat) (z : Fin 256) (p : Nat × Nat × Nat) (s : State), (zoneOf s z.val).policyNow = some p ∧ p.2.1 ≤ max
      s.clk.fab t) ∧
    (∃ (t : Nat) (s : State), civilHour (tick t s) ≠ s.trk.adaptHour) ∧
    (∃ (t sid : Nat) (h : Hdr) (args : List TVal) (s : State), passes 0x70210 [cU8] false t h args sid s = true) :=
  ⟨⟨3600 * 400000000, wVert [] [], by decide +kernel⟩,
    ⟨7 * 86400 * 400000000, wVert [] [], by decide +kernel⟩,
    ⟨512000000, 256, 1, putRow 0x70140 1 [.num 5, .num 0] (updTrk (fun k =>
      { k with zones := [(1, { Zone.init with change := some 256 })] }) wS), by decide +kernel⟩,
    ⟨512000000, 256, 1, updTrk (fun k =>
      { k with zones := [(1, { Zone.init with policyChange := some 256, policy := some (3, 600 * 400000000, 0) })] })
      wS, by decide +kernel⟩,
    ⟨600 * 400000000, 1, (3, 600 * 400000000, 0), updTrk (fun k =>
      { k with zones := [(1, { Zone.init with cls := 3, source := 2, policyNow := some (3, 600 * 400000000, 0) })] })
      wS, by decide +kernel⟩,
    ⟨3600 * 400000000, wS, by decide +kernel⟩,
    ⟨5, 7, ahdr 255 3 0x70210, [num 2 255], wS, by decide +kernel⟩⟩

/-- What MeterPhases asks of its operands and states is met, clause by clause. -/
theorem witness_MeterPhases :
    (∃ (t z b : Nat) (x : Fin 3) (low : List Int) (p : Phase) (s : State), crossAt (max s.clk.fab t) low = some z ∧
      s.met.phases.length = 3 ∧ lget s.met.phases x.val Phase.init = p ∧ p.base = some b ∧ zcLow ≤ z - b ∧ z - b ≤
      zcHigh ∧ (s.lanes.a.running = true ∨ s.lanes.b.running = true) ∧ p.absent = true ∧ p.run = 2) ∧
    (∃ (t z b : Nat) (x : Fin 3) (low : List Int) (p : Phase) (s : State), crossAt (max s.clk.fab t) low = some z ∧
      s.met.phases.length = 3 ∧ lget s.met.phases x.val Phase.init = p ∧ p.base = some b ∧ zcLow ≤ z - b ∧ z - b ≤
      zcHigh ∧ (s.lanes.a.running = true ∨ s.lanes.b.running = true) ∧ p.absent = false) ∧
    (∃ (t : Nat) (x : Fin 3) (p : Phase) (s : State), s.met.phases.length = 3 ∧ lget s.met.phases x.val Phase.init =
      p ∧ p.absent = false ∧ p.last + getN s 0x80104 * Config.msCycles < max s.clk.fab t) ∧
    (∃ (t : Nat) (s : State), (s.lanes.a.running = true ∨ s.lanes.b.running = true) ∧ periodDue (tick t s) = true) ∧
    (∃ (t : Nat) (s : State), (active s).isSome = true ∧ s.met.nextSave ≤ max s.clk.fab t) ∧
    (∃ (t : Nat) (s : State), s.power.warning = true ∧ (active s).isSome = true ∧ (s.lanes.a.running = true ∨
      s.lanes.b.running = true) ∧ s.met.lastFinal + 5 * Config.msCycles ≤ max s.clk.fab t) :=
  ⟨⟨8000000, 7999960, 0, 1, [-200000, 100], { Phase.init with absent := true, run := 2, base := some 0 }, wPhase
      { Phase.init with absent := true, run := 2, base := some 0 }, by decide +kernel⟩,
    ⟨8000000, 7999960, 0, 1, [-200000, 100], { Phase.init with absent := false, base := some 0 }, wPhase
      { Phase.init with absent := false, base := some 0 }, by decide +kernel⟩,
    ⟨400000000, 1, { Phase.init with absent := false }, wPhase { Phase.init with absent := false },
      by decide +kernel⟩,
    ⟨5, updMet (fun m => { m with due := true }) wS, by decide +kernel⟩,
    ⟨5, wS, by decide +kernel⟩,
    ⟨2000000, updPower (fun p => { p with warning := true }) wS, by decide +kernel⟩⟩

/-- What CalibrationAndBattery asks of its operands and states is met, clause by clause. -/
theorem witness_CalibrationAndBattery :
    (∃ (t sid : Nat) (h : Hdr) (args : List TVal) (s : State) (q : Sequence), arrives 3 false h sid s = true ∧
      h.tclass = 0 ∧ (execCheck 0x80210 calShape false h args sid (caller t sid s) (opState t h sid s)).isNone = true
      ∧ mget (opState t h sid s).ib.seqs h.handle = some q ∧ h.handle ≠ 0 ∧ q.sid = sid ∧ q.commit = none ∧
      q.groups.contains 19 = true ∧ (argRange 0x80210 0 calRange args).isNone = true ∧ (calBad s args).isNone = true) ∧
    (∃ (t v i : Nat) (angle : Int) (j : CalJob) (q : Sequence) (s : State), s.met.cal = some j ∧ j.ends ≤ max
      s.clk.fab t ∧ mget s.ib.seqs j.handle = some q ∧ j.step = 1 ∧ j.phase < 3 ∧ q.restores = [] ∧ (shadowRow q s
      0x80200 j.phase).length = 7 ∧ (calFar j v i angle).isNone = true) ∧
    (∃ (s : State), s.lanes.a.running = false ∧ s.lanes.b.running = false ∧ s.power.mainOn = false ∧ getB s 0x80107
      = true ∧ getC s 0x00410 0 0 ≠ 3 ∧ getC s 0x00410 1 0 ≠ 3 ∧ battSpent s = false ∧ s.met.batt.running = false) ∧
    (∃ (s : State), s.met.batt.running = true) ∧
    (∃ (s : State), s.met.batt.running = true ∧ battSpent s = true) ∧
    (∃ (t sid : Nat) (h : Hdr) (args : List TVal) (s : State), passes 0x80220 [] false t h args sid s = true) :=
  ⟨⟨5, 7, { ahdr 255 3 0x80210 with handle := 1 }, [num 2 1, num 11 0, num 4 0, num 4 0, num 6 0, num 2 5], wCal,
      (mget (opState 5 { ahdr 255 3 0x80210 with handle := 1 } 7 wCal).ib.seqs 1).getD wSq, by decide +kernel⟩,
    ⟨9, 230000, 1000, 0, wJob, wSq,
      { wCal with met := { wCal.met with cal := some wJob }, ib := { wCal.ib with seqs := [(1, wSq)] } },
      by decide +kernel⟩,
    ⟨putRow 0x00410 0 [.num 0, .num 3600, .num 1, .num 0, .num 1] (putRow 0x00410 1 [.num 0, .num 3600, .num 1, .num
      0, .num 1] (putRow 0x80107 0 [.num 1] wDark)), by decide +kernel⟩,
    ⟨updMet (fun m => { m with batt := { m.batt with running := true } }) wDark, by decide +kernel⟩,
    ⟨putN 0x80063 1000000000 (updMet (fun m => { m with batt := { m.batt with running := true } }) wDark),
      by decide +kernel⟩,
    ⟨5, 7, ahdr 255 3 0x80220, [], putN 0x80063 9 wS, by decide +kernel⟩⟩

/-- What LightSets asks of its operands and states is met, clause by clause. -/
theorem witness_LightSets :
    (∃ (t ha hb : Nat) (s : State), periodNow (tick t s) ≠ s.led.period ∧ lanesDrive s = true ∧ ((standby s).isNone
      ∨ ha = hb) ∧ s.test.slice = none) ∧
    (∃ (t : Nat) (s : State), periodNow (tick t s) ≠ s.led.period ∧ (active s).isNone = true ∧ isTampered s = false) ∧
    (∃ (t : Nat) (s : State), s.led.safeOn = false ∧ s.led.lastSet + 20 * Config.msCycles ≤ max s.clk.fab t) ∧
    (∃ (t : Nat) (s : State), s.led.ctrlAt + 100 * Config.msCycles ≤ max s.clk.fab t) :=
  ⟨⟨400000, 1, 1, wS, by decide +kernel⟩,
    ⟨400000, State.reset, by decide +kernel⟩,
    ⟨8000000, updLed (fun d => { d with safeOn := false }) wS, by decide +kernel⟩,
    ⟨40000000, wS, by decide +kernel⟩⟩

/-- What LedFaults asks of its operands and states is met, clause by clause. -/
theorem witness_LedFaults :
    (∃ (t : Nat) (k : Fin 4) (s : State), s.led.strings.length = 4 ∧ (strOf s k.val).code ≠ 0 ∧ (strOf s
      k.val).padAt + 60 * Config.secCycles ≤ max s.clk.fab t) ∧
    (∃ (k : Fin 4) (pad : Int) (s : State), s.led.strings.length = 4 ∧ (strOf s k.val).hwCut = false ∧ 1270 ≤ pad) ∧
    (∃ (k : Fin 4) (pad : Int) (s : State), s.led.strings.length = 4 ∧ (strOf s k.val).hwCut = true ∧ pad < 1150) ∧
    (∃ (v : Nat) (s : State), s.led.strings.length = 4 ∧ ledUp s = true ∧ 16000 < v) ∧
    (∃ (t f : Nat) (k : Fin 4) (s : State), s.led.strings.length = 4 ∧ ledUp s = true ∧ (strOf s k.val).fault =
      false ∧ (strOf s k.val).openSince = some f ∧ f + 10 * Config.msCycles ≤ max s.clk.fab t) ∧
    (∃ (t f : Nat) (k : Fin 4) (s : State), s.led.strings.length = 4 ∧ ledUp s = true ∧ (strOf s k.val).fault =
      false ∧ (strOf s k.val).openSince = none ∧ (strOf s k.val).complSince = some f ∧ f + 10 * Config.msCycles ≤ max
      s.clk.fab t ∧ (strOf s k.val).complTold = false) ∧
    (∃ (t sid : Nat) (h : Hdr) (args : List TVal) (s : State), passes 0x90220 [.int 2 0 3] false t h args sid s =
      true ∧ s.led.strings.length = 4) ∧
    (∃ (t f : Nat) (k : Fin 4) (s : State), s.led.strings.length = 4 ∧ (strOf s k.val).retest = some f ∧ f ≤ max
      s.clk.fab t) :=
  ⟨⟨60 * 400000000, 1, updStr 1 (fun x => { x with code := 5 }) wS, by decide +kernel⟩,
    ⟨1, 1270, updStr 1 (fun x => { x with code := 5 }) wS, by decide +kernel⟩,
    ⟨1, 1149, updStr 1 (fun x => { x with hwCut := true }) wS, by decide +kernel⟩,
    ⟨16001, wS, by decide +kernel⟩,
    ⟨4000000, 0, 1, updStr 1 (fun x => { x with code := 5, openSince := some 0 }) wS, by decide +kernel⟩,
    ⟨4000000, 0, 1, updStr 1 (fun x => { x with code := 5, complSince := some 0 }) wS, by decide +kernel⟩,
    ⟨5, 7, ahdr 255 3 0x90220, [num 2 1], updStr 1 (fun x => { x with fault := true }) wS, by decide +kernel⟩,
    ⟨5, 5, 1, updStr 1 (fun x => { x with retest := some 5 }) wS, by decide +kernel⟩⟩

/-- What Flowstone asks of its operands and states is met, clause by clause. -/
theorem witness_Flowstone :
    (∃ (t sid : Nat) (h : Hdr) (args : List TVal) (s : State), passes 0x90210 [.int 2 0 7] false t h args sid s =
      true ∧ ownBad (servedBy s) s (argN args 0) (BitVec.ofNat 4 (getC s 0x90200 (argN args 0) 0)) = false) ∧
    (∃ (t sid : Nat) (h : Hdr) (args : List TVal) (s : State), passes 0x90210 [.int 2 0 7] false t h args sid s =
      true ∧ ownBad (servedBy s) s (argN args 0) (BitVec.ofNat 4 (getC s 0x90200 (argN args 0) 0)) = true) ∧
    (∃ (t sid : Nat) (h : Hdr) (args : List TVal) (s : State), passes 0x90211 [.int 2 0 7] false t h args sid s =
      true) ∧
    (∃ (t sid : Nat) (h : Hdr) (args : List TVal) (s : State), passes 0x90212 [.int 2 0 7, .int 2 0 15] false t h
      args sid s = true) ∧
    (∃ (l : Lane) (c : Core) (e : Fin 8) (s : State), (s.lanes.get l).engines.length = 8 ∧ isPolicy c = false ∧
      engRuns (engOf l s e.val) = false) ∧
    (∃ (l : Lane) (c : Core) (s : State), (s.lanes.get l).engines.length = 8 ∧ isPolicy c = false) ∧
    (∃ (l : Lane) (c : Core) (s : State), (s.lanes.get l).engines.length = 8 ∧ isPolicy c = false) ∧
    (∃ (l : Lane) (c : Core) (e : Fin 8) (s : State), (s.lanes.get l).engines.length = 8 ∧ isPolicy c = false ∧
      (engOf l s e.val).state = 0 ∧ (engOf l s e.val).prog.length = 64) ∧
    (∃ (l : Lane) (c : Core) (e : Fin 8) (s : State), (isPolicy c = true ∨ (engOf l s e.val).state ≠ 0)) ∧
    (∃ (s : State), (active s).isSome = true ∧ s.led.index % 2 = 0 ∧ s.led.second * 1000 + s.led.index / 2 ≠
      s.led.tickAt) :=
  ⟨⟨5, 7, ahdr 255 3 0x90210, [num 2 1], putRow 0x90200 1 [.num 3, .num 0, .bytes (List.replicate 256 0)] wS,
      by decide +kernel⟩,
    ⟨5, 7, ahdr 255 3 0x90210, [num 2 1], wS, by decide +kernel⟩,
    ⟨5, 7, ahdr 255 3 0x90211, [num 2 1], updEng .A 1 (fun e => { e with state := 1 }) wS, by decide +kernel⟩,
    ⟨5, 7, ahdr 255 3 0x90212, [num 2 1, num 2 5], wS, by decide +kernel⟩,
    ⟨.A, .A1, 1, wS, by decide +kernel⟩,
    ⟨.A, .A1, updEng .A 1 (fun e => { e with state := 2 }) wS, by decide +kernel⟩,
    ⟨.A, .A1, wS, by decide +kernel⟩,
    ⟨.A, .A1, 1, wS, by decide +kernel⟩,
    ⟨.A, .A1, 1, updEng .A 1 (fun e => { e with state := 2 }) wS, by decide +kernel⟩,
    ⟨updLed (fun d => { d with second := 9 }) (updEng .A 1 (fun e => { e with state := 1 }) wS), by decide +kernel⟩⟩

/-- What InputOrder asks of its operands and states is met, clause by clause. -/
theorem witness_InputOrder :
    (∃ (l : Lane) (s : State), follower s = some l) ∧
    (∃ (s : State), follower s = none) ∧
    (∃ (l : Lane) (s : State), follower s = some l ∧ bridgeUp s = true) ∧
    (∃ (q src hv : Nat) (s : State), bridgeUp s = true ∧ s.lp.tags.contains (q, src, hv) = true) ∧
    (∃ (t hv : Nat) (l : Lane) (x : HeldInput) (s : State), follower s = some l ∧ s.lp.held.find? (fun y => y.hash
      == hv) = some x ∧ x.since + 20 * Config.msCycles ≤ max s.clk.fab t ∧ s.lp.tags.any (fun g => g.2.2 == hv) =
      false) :=
  ⟨⟨.B, wPair, by decide +kernel⟩,
    ⟨wS, by decide +kernel⟩,
    ⟨.B, updLp (fun p => { p with held := [{ hash := 9, source := 1, since := 0 }] }) wPair, by decide +kernel⟩,
    ⟨1, 1, 9, updLp (fun p => { p with tags := [(1, 1, 9)] }) wPair, by decide +kernel⟩,
    ⟨8000000, 9, .B, { hash := 9, source := 1, since := 0 }, updLp (fun p =>
      { p with held := [{ hash := 9, source := 1, since := 0 }] }) wPair, by decide +kernel⟩⟩

/-- What Comparison asks of its operands and states is met, clause by clause. -/
theorem witness_Comparison :
    (∃ (q : Nat) (l : Lane) (s : State), (standby s).isSome = true ∧ (active s).isSome = true ∧ bridgeUp s = true ∧
      (s.lp.records.get l).any (fun r => r.1 == q) = false ∧ (s.lp.records.get (otherLane l)).find? (fun r => r.1 ==
      q) = none) ∧
    (∃ (q k hash at_ : Nat) (l : Lane) (s : State), (standby s).isSome = true ∧ (active s).isSome = true ∧ bridgeUp
      s = true ∧ (s.lp.records.get l).any (fun r => r.1 == q) = false ∧ (s.lp.records.get (otherLane l)).find? (fun r
      => r.1 == q) = some (q, k, hash, at_)) ∧
    (∃ (q k hash : Nat) (o : Nat × Nat × Nat × Nat) (l : Lane) (s : State), (standby s).isSome = true ∧ (active
      s).isSome = true ∧ bridgeUp s = true ∧ (s.lp.records.get l).any (fun r => r.1 == q) = false ∧ (s.lp.records.get
      (otherLane l)).find? (fun r => r.1 == q) = some o ∧ sameContent o k hash = false ∧ s.lp.checking = none) ∧
    (∃ (t q : Nat) (w : Nat × Nat × Out) (s : State), s.lp.waiting.find? (fun x => x.1 == q) = some w ∧ w.2.1 + 2 *
      Config.msCycles ≤ max s.clk.fab t ∧ differs q s = false) ∧
    (∃ (t : Nat) (l : Lane) (s : State), standby s = some l ∧ (256 < lagE (tick t s) ∨ 20 * Config.msCycles < lagT
      (tick t s))) ∧
    (∃ (c : Nat × Nat × Nat × Nat × Bool) (l : Lane) (s : State), s.lp.checking = some c ∧ active s = some l) ∧
    (∃ (ca cb : Bool) (c : Nat × Nat × Nat × Nat × Bool) (l : Lane) (s : State), s.lp.checking = some c ∧ active s =
      some l ∧ (s.lanes.get (otherLane l)).cause = .none ∧ ((if l = .A then ca else cb) = true ∨ condemned
      (s.lanes.get l) = true) ∧ (if l = .A then cb else ca) = false ∧ s.lp.asked = []) :=
  ⟨⟨4, .B, wPair, by decide +kernel⟩,
    ⟨4, 1, 9, 0, .B, updLp (fun p => { p with records := { a := [(4, 1, 9, 0)], b := [] } }) wPair,
      by decide +kernel⟩,
    ⟨4, 1, 8, (4, 1, 9, 0), .B, updLp (fun p => { p with records := { a := [(4, 1, 9, 0)], b := [] } }) wPair,
      by decide +kernel⟩,
    ⟨800000, 4, (4, 0, .handshake 1), updLp (fun p => { p with waiting := [(4, 0, .handshake 1)] }) wPair,
      by decide +kernel⟩,
    ⟨8000001, .B, updLp (fun p => { p with records := { a := [(4, 1, 9, 0)], b := [] } }) wPair, by decide +kernel⟩,
    ⟨(4, 1, 9, 8, true), .A, updLp (fun p => { p with checking := some (4, 1, 9, 8, true) }) wPair,
      by decide +kernel⟩,
    ⟨true, false, (4, 1, 9, 8, true), .A, updLp (fun p => { p with checking := some (4, 1, 9, 8, true) }) wPair,
      by decide +kernel⟩⟩

/-- What ContinuousSelfTest asks of its operands and states is met, clause by clause. -/
theorem witness_ContinuousSelfTest :
    (∃ (l : Lane) (s : State), (s.lanes.get l).ecc.length < 64) ∧
    (∃ (l : Lane) (s : State), (s.lanes.get l).running = true) ∧
    (∃ (l : Lane) (c : Core) (s : State), (s.lanes.get l).running = true ∧ isPolicy c = false) ∧
    (∃ (c : Core), isPolicy c = true) ∧
    (∃ (l : Lane) (s : State), (s.lanes.get l).running = true ∧ (s.lanes.get l).units.length = 5) ∧
    (∃ (l : Lane) (k : Fin 5) (s : State), active s = some l ∧ standby s = some (otherLane l) ∧ (s.lanes.get
      l).running = true ∧ s.lp.switch = none ∧ unitCondemns k.val = true) :=
  ⟨⟨.B, wPair, by decide +kernel⟩,
    ⟨.B, wPair, by decide +kernel⟩,
    ⟨.A, .M0, wS, by decide +kernel⟩,
    ⟨.A2, by decide +kernel⟩,
    ⟨.A, wPair, by decide +kernel⟩,
    ⟨.A, 4, wPair, by decide +kernel⟩⟩

/-- What Resynchronisation asks of its operands and states is met, clause by clause. -/
theorem witness_Resynchronisation :
    (∃ (l : Lane) (s : State), active s = some (otherLane l) ∧ (s.lanes.get l).running = true ∧ (s.lanes.get l).role
      = .lagging ∧ (s.lanes.get l).resync = .waiting ∧ bridgeUp s = true ∧ imagesFit s = true) ∧
    (∃ (l : Lane) (s : State), active s = some (otherLane l) ∧ (s.lanes.get l).role = .lagging ∧ (s.lanes.get
      l).resync = .transfer ∧ bridgeUp s = true ∧ s.fw.live.get (otherLane l) = (runningImg s l).settingsLayout) ∧
    (∃ (l : Lane) (s : State), active s = some (otherLane l) ∧ (s.lanes.get l).role = .lagging ∧ (s.lanes.get
      l).resync = .compare ∧ bridgeUp s = true) ∧
    (∃ (t sid : Nat) (h : Hdr) (args : List TVal) (s : State) (l : Lane), passes 0xA0302 [] false t h args sid s =
      true ∧ active s = some l ∧ (s.lanes.get (otherLane l)).role = .lagging ∧ bridgeUp s = true) ∧
    (∃ (k : Fin 2) (l : Lane) (s : State), (if k.val = 0 then s.lp.links.b else s.lp.links.a) = false ∧ standby s =
      some l) ∧
    (∃ (k : Fin 2) (s : State), (if k.val = 0 then s.lp.links.b else s.lp.links.a) = true) ∧
    (∃ (k : Fin 2) (s : State), getC s 0xC0020 (19 + k.val) 0 ≠ 3) :=
  ⟨⟨.B, wLag .waiting, by decide +kernel⟩,
    ⟨.B, wLag .transfer, by decide +kernel⟩,
    ⟨.B, wLag .compare, by decide +kernel⟩,
    ⟨5, 7, ahdr 255 3 0xA0302, [], wLag .idle, .A, by decide +kernel⟩,
    ⟨0, .B, updLp (fun p => { p with links := { a := true, b := false } }) wPair, by decide +kernel⟩,
    ⟨1, wPair, by decide +kernel⟩,
    ⟨0, updLp (fun p => { p with links := { a := false, b := false } }) wPair, by decide +kernel⟩⟩

/-- What RolesDecided asks of its operands and states is met, clause by clause. -/
theorem witness_RolesDecided :
    (∃ (l : Lane) (s : State), active s = some (otherLane l) ∧ (s.lanes.get l).role = .undecided ∧ (s.lanes.get
      l).running = true) ∧
    (∃ (s : State), active s = none ∧ s.lanes.a.report.isSome = true ∧ s.lanes.b.report.isSome = true ∧
      s.lanes.a.running = true ∧ s.lanes.b.running = true ∧ s.lanes.a.role = .undecided ∧ s.lanes.b.role = .undecided) ∧
    (∃ (t f : Nat) (l : Lane) (s : State), active s = none ∧ standby s = none ∧ (s.lanes.get l).report.isSome = true
      ∧ (s.lanes.get (otherLane l)).report = none ∧ (s.lanes.get l).running = true ∧ (s.lanes.get l).role = .undecided
      ∧ (s.lanes.get l).bootAt = some f ∧ f + Config.secCycles ≤ max s.clk.fab t) ∧
    (∃ (t : Nat) (w : Switch) (s : State), s.lp.switch = some w ∧ w.applyAsn ≤ asn (tick t s) ∧ (s.lanes.get
      w.target).role = .standby ∧ s.lp.asked = []) ∧
    (∃ (t sid : Nat) (h : Hdr) (args : List TVal) (s : State) (l : Lane), passes 0xA0300 [] false t h args sid s =
      true ∧ s.lp.checking = none ∧ active s = some l ∧ (s.lanes.get (otherLane l)).role = .standby ∧ s.lp.planned =
      none) ∧
    (∃ (t sid : Nat) (h : Hdr) (args : List TVal) (s : State) (l : Lane), passes 0xA0301 [] false t h args sid s =
      true ∧ active s = some l) ∧
    (∃ (l : Lane) (s : State), s.power.mainOn = true ∧ s.life.state ≠ .scrapped ∧ active s = some l ∧ standby s =
      some (otherLane l) ∧ s.lp.switch = none) ∧
    (∃ (l : Lane) (s : State), s.power.mainOn = true ∧ s.life.state ≠ .scrapped ∧ active s = some (otherLane l) ∧
      (s.lanes.get l).role ≠ .active ∧ (s.lanes.get l).running = true) :=
  ⟨⟨.B, wS, by decide +kernel⟩,
    ⟨{ State.reset with lanes := { a := { State.reset.lanes.a with report := some (1000, false) }, b := { State.reset.lanes.b with report := some (1000, true) } } },
      by decide +kernel⟩,
    ⟨400000000, 0, .B,
      { State.reset with lanes := { State.reset.lanes with b := { State.reset.lanes.b with report := some (1000, true) } } },
      by decide +kernel⟩,
    ⟨2000000, { target := .B, cause := 4, applyAsn := 1 }, updLp (fun p =>
      { p with switch := some { target := .B, cause := 4, applyAsn := 1 } }) wPair, by decide +kernel⟩,
    ⟨5, 7, ahdr 255 3 0xA0300, [], wPair, .A, by decide +kernel⟩,
    ⟨5, 7, ahdr 255 3 0xA0301, [], wPair, .A, by decide +kernel⟩,
    ⟨.A, wPair, by decide +kernel⟩,
    ⟨.B, wPair, by decide +kernel⟩⟩

/-- What PowerPath asks of its operands and states is met, clause by clause. -/
theorem witness_PowerPath :
    (∃ (s : State), s.power.mainOn = true ∧ s.power.warning = false) ∧
    (∃ (t : Nat) (s : State), s.power.mainOn = true ∧ s.power.warning = true ∧ s.power.warnFab + 40 *
      Config.msCycles ≤ max s.clk.fab t) ∧
    (∃ (s : State), s.power.mainOn = true) ∧
    (∃ (s : State), s.power.mainOn = false) ∧
    (∃ (dv : Nat) (s : State), s.power.coil = true ∧ dv < 160) ∧
    (∃ (dv : Nat) (s : State), s.power.coil = false ∧ 160 ≤ dv ∧ s.io.outs.length = 4 ∧ s.test.slice = none ∧
      (active s).isSome = true) ∧
    (∃ (s : State), s.power.ledOk = true) ∧
    (∃ (s : State), s.power.keepaliveOk = true ∧ s.power.mainOn = true) ∧
    (∃ (temp : Int) (s : State), 1400 < temp ∧ s.power.hotShed = false) ∧
    (∃ (temp : Int) (s : State), temp < 1300 ∧ s.power.hotShed = true) :=
  ⟨⟨wPair, by decide +kernel⟩,
    ⟨16000000, wPow (fun p => { p with warning := true, ledShed := true }) wPair, by decide +kernel⟩,
    ⟨wPair, by decide +kernel⟩,
    ⟨wDark, by decide +kernel⟩,
    ⟨159, wS, by decide +kernel⟩,
    ⟨160, updOut 2 (fun o => { o with cmd := true }) (wPow (fun p => { p with coil := false }) wS),
      by decide +kernel⟩,
    ⟨wS, by decide +kernel⟩,
    ⟨wS, by decide +kernel⟩,
    ⟨1401, wS, by decide +kernel⟩,
    ⟨1299, wPow (fun p => { p with hotShed := true }) wS, by decide +kernel⟩⟩

/-- What CellsAndCabinet asks of its operands and states is met, clause by clause. -/
theorem witness_CellsAndCabinet :
    (∃ (mv : Nat) (k : Fin 2) (s : State), s.power.mainOn = true ∧ (getRow s 0x00410 k.val).length = 5 ∧ mv ≤ 65535) ∧
    (∃ (k : Fin 2) (s : State), (getRow s 0x00410 k.val).length = 5) ∧
    (∃ (t sid : Nat) (h : Hdr) (args : List TVal) (s : State) (mv : Nat), passes 0x00430 [.int 2 0 1] false t h args
      sid s = true ∧ getC s 0x00410 (argN args 0) 0 ≠ 3 ∧ mv ≤ 65535) ∧
    (∃ (t sid : Nat) (h : Hdr) (args : List TVal) (s : State) (ma mb : Nat), passes 0x00431 [] false t h args sid s
      = true ∧ s.power.mainOn = true ∧ s.power.warning = false ∧ (getRow s 0x00410 0).length = 5 ∧ (getRow s 0x00410
      1).length = 5 ∧ ma ≤ 65535 ∧ mb ≤ 65535) ∧
    (∃ (s : State), s.power.dip = none) ∧
    (∃ (t : Nat) (d : Nat × Bool) (s : State), s.power.dip = some d ∧ max s.clk.fab t < d.1 + 880000 ∧ (getRow s
      0x00411 0).length = 5) ∧
    (∃ (t : Nat) (b : Bool) (d : Nat × Bool) (s : State), s.power.dip = some d ∧ (b = true ∨ d.1 + 720000 ≤ max
      s.clk.fab t)) ∧
    (∃ (t sid : Nat) (h : Hdr) (args : List TVal) (s : State), passes 0x00500 [.int 2 1 15, .int 2 0 15] false t h
      args sid s = true ∧ s.io.outs.length = 4) ∧
    (∃ (t : Nat) (k : Fin 4) (v : Bool) (s : State), s.io.outs.length = 4 ∧ (outOf s k.val).pend = some v ∧ inGap
      (tick t s) k.val = false ∧ (active s).isSome = true ∧ s.power.coil = true ∧ inSlice s (10 + k.val) = false) ∧
    (∃ (k : Fin 4) (s : State), s.io.outs.length = 4 ∧ (outOf s k.val).pin = true ∧ s.power.coil = true) ∧
    (∃ (s : State), inSlice s 14 = false) ∧
    (∃ (s : State), inSlice s 14 = true) :=
  ⟨⟨2900, 1, wS, by decide +kernel⟩,
    ⟨1, wS, by decide +kernel⟩,
    ⟨5, 7, ahdr 255 3 0x00430, [num 2 1], wS, 3600, by decide +kernel⟩,
    ⟨5, 7, ahdr 255 3 0x00431, [], wS, 3600, 3000, by decide +kernel⟩,
    ⟨wS, by decide +kernel⟩,
    ⟨5, (0, false), wDip 0, by decide +kernel⟩,
    ⟨720000, false, (0, false), wDip 0, by decide +kernel⟩,
    ⟨5, 7, ahdr 255 3 0x00500, [num 2 5, num 2 1], updOut 0 (fun o => { o with tripped := true }) wS,
      by decide +kernel⟩,
    ⟨5, 2, true, updOut 2 (fun o => { o with pend := some true }) wS, by decide +kernel⟩,
    ⟨2, updOut 2 (fun o => { o with pin := true, cmd := true }) wS, by decide +kernel⟩,
    ⟨wS, by decide +kernel⟩,
    ⟨{ wS with test := { wS.test with slice := some { row := 14, retest := false, started := 0, skip := false } } },
      by decide +kernel⟩⟩

/-- What PortsComeUp asks of its operands and states is met, clause by clause. -/
theorem witness_PortsComeUp :
    (∃ (s : State), s.trunk.ports.length = 2) ∧
    (∃ (p : Fin 2) (s : State), s.trunk.ports.length = 2 ∧ (active s).isSome = true ∧ (portOf s p.val).state = 1 ∧
      (portOf s p.val).present = true ∧ (portOf s p.val).unsuit = false) ∧
    (∃ (t : Nat) (p : Fin 2) (s : State), s.trunk.ports.length = 2 ∧ (portOf s p.val).state = 1 ∧ (portOf s
      p.val).present = true ∧ (portOf s p.val).started + 2 * Config.secCycles ≤ max s.clk.fab t) ∧
    (∃ (p : Fin 2) (m : HelloMsg) (s : State), s.trunk.ports.length = 2 ∧ (portOf s p.val).state = 2 ∧ m.notice =
      none ∧ m.role ≠ 4 ∧ m.node ≠ 255 ∧ ¬(m.part = 1 ∧ m.role = 0) ∧ m.cascade = getN s 0x30100 ∧ commissioned s =
      true ∧ (active s).isSome = true) ∧
    (∃ (p : Fin 2) (m : HelloMsg) (s : State), s.trunk.ports.length = 2 ∧ (portOf s p.val).state = 2 ∧ m.notice =
      none ∧ m.role ≠ 4 ∧ m.node ≠ 255 ∧ ¬(m.part = 1 ∧ m.role = 0) ∧ m.cascade ≠ getN s 0x30100 ∧ counts s = true) ∧
    (∃ (t : Nat) (p : Fin 2) (s : State), s.trunk.ports.length = 2 ∧ (active s).isSome = true ∧ (portOf s
      p.val).state = 2 ∧ (portOf s p.val).started + 100 * Config.msCycles ≤ max s.clk.fab t) ∧
    (∃ (s : State), isTampered s = true ∧ (active s).isSome = true) ∧
    (∃ (p : Fin 2) (m : OfferMsg) (y : HelloMsg) (s : State), s.trunk.ports.length = 2 ∧ (portOf s p.val).state = 2
      ∧ (portOf s p.val).peer = some y ∧ y.node < modId s ∧ isTampered s = false ∧ m.proofOk = true ∧ m.nonceOk = true
      ∧ (active s).isSome = true) ∧
    (∃ (p : Fin 2) (m : OfferMsg) (y : HelloMsg) (s : State), (portOf s p.val).state = 2 ∧ (portOf s p.val).peer =
      some y ∧ y.node < modId s ∧ isTampered s = false ∧ (m.proofOk = false ∨ m.nonceOk = false) ∧ counts s = true) ∧
    (∃ (p : Fin 2) (m : OfferMsg) (y : HelloMsg) (s : State), s.trunk.ports.length = 2 ∧ (portOf s p.val).state = 2
      ∧ (portOf s p.val).peer = some y ∧ modId s ≤ y.node ∧ isTampered s = false ∧ m.proofOk = true ∧ m.nonceOk =
      true) ∧
    (∃ (p : Fin 2) (s : State), s.trunk.ports.length = 2 ∧ (active s).isSome = true ∧ 3 ≤ (portOf s p.val).state) ∧
    (∃ (t sid : Nat) (h : Hdr) (args : List TVal) (s : State), passes 0x30310 [.int 2 0 1] false t h args sid s =
      true ∧ s.trunk.ports.length = 2) ∧
    (∃ (s : State), counts s = true) :=
  ⟨⟨wS, by decide +kernel⟩,
    ⟨1, updPort 1 (fun x => { x with state := 1, present := true }) wMember, by decide +kernel⟩,
    ⟨800000000, 1, updPort 1 (fun x => { x with state := 1, present := true }) wMember, by decide +kernel⟩,
    ⟨1, wPeer 2 0, wRing 1 (wUp 0 1) { wPort2 2 with peer := none }, by decide +kernel⟩,
    ⟨1, { wPeer 2 0 with cascade := 9 }, wRing 1 (wUp 0 1) { wPort2 2 with peer := none }, by decide +kernel⟩,
    ⟨40000000, 1, wRing 1 (wUp 0 1) (wPort2 2), by decide +kernel⟩,
    ⟨{ wRing1 with life := { wRing1.life with state := .tampered } }, by decide +kernel⟩,
    ⟨0, wOffer, wPeer 0 1, wRing 1 (wPort2 0) (wUp 2 0), by decide +kernel⟩,
    ⟨0, { wOffer with proofOk := false }, wPeer 0 1, wRing 1 (wPort2 0) (wUp 2 0), by decide +kernel⟩,
    ⟨1, wOffer, wPeer 2 1, wRing 1 (wUp 0 1) (wPort2 2), by decide +kernel⟩,
    ⟨1, wRing1, by decide +kernel⟩,
    ⟨5, 7, ahdr 1 3 0x30310, [num 2 1], wRing1, by decide +kernel⟩,
    ⟨wS, by decide +kernel⟩⟩

/-- What FramesAndCredit asks of its operands and states is met, clause by clause. -/
theorem witness_FramesAndCredit :
    (∃ (p : Fin 2) (f : TrunkFrame) (s : State), s.trunk.ports.length = 2 ∧ 3 ≤ (portOf s p.val).state ∧ f.tagOk =
      true ∧ (portOf s p.val).fcntRx < f.fcnt ∧ (mtypeClasses f.mtype).contains f.cls = true ∧ (f.cls = 3 → f.src =
      masterId s) ∧ f.dst = modId s ∧ f.cls ≠ 0 ∧ cN (srcOf s f.src).held (dcls f.cls) + frameBytes f.len ≤ shareOf s
      f.src (dcls f.cls) ∧ dcls f.cls < (srcOf s f.src).held.length) ∧
    (∃ (e : Nat) (p : Fin 2) (f : TrunkFrame) (s : State), s.trunk.ports.length = 2 ∧ 3 ≤ (portOf s p.val).state ∧
      f.tagOk = true ∧ (portOf s p.val).fcntRx < f.fcnt ∧ (mtypeClasses f.mtype).contains f.cls = true ∧ (f.cls = 3 →
      f.src = masterId s) ∧ f.dst ≠ modId s ∧ f.dst ≠ 254 ∧ f.dst ≠ 255 ∧ 1 < f.hops ∧ route s f.dst = some e ∧
      (masterId s ≠ modId s ∨ e = p.val) ∧ (active s).isSome = true ∧ 3 ≤ (portOf s e).state ∧ (portOf s e).wait = []
      ∧ (portOf s e).flood = [] ∧ s.trunk.voq = [] ∧ linkCredit (portOf s e) f.cls f.vc (frameUnits f.len) = true) ∧
    (∃ (p : Fin 2) (f : TrunkFrame) (s : State), s.trunk.ports.length = 2 ∧ 3 ≤ (portOf s p.val).state ∧ f.fcnt ≤
      (portOf s p.val).fcntRx ∧ counts s = true) ∧
    (∃ (p : Fin 2) (f : TrunkFrame) (s : State), s.trunk.ports.length = 2 ∧ 3 ≤ (portOf s p.val).state ∧ f.tagOk =
      false ∧ counts s = true) ∧
    (∃ (p : Fin 2) (s : State), s.trunk.ports.length = 2 ∧ 3 ≤ (portOf s p.val).state) ∧
    (∃ (t : Nat) (p : Fin 2) (s : State), s.trunk.ports.length = 2 ∧ (active s).isSome = true ∧ 3 ≤ (portOf s
      p.val).state ∧ ((portOf s p.val).lastCredit + Config.msCycles ≤ max s.clk.fab t ∨ (portOf s p.val).firstFree.any
      (fun f => decide (f + 800 ≤ max s.clk.fab t)) = true)) ∧
    (∃ (t dst : Nat) (s : State), (active s).isSome = true ∧ (route s dst).isSome = true ∧ (1024 ≤ cN (srcOf s
      dst).held 0 + cN (srcOf s dst).held 1 + cN (srcOf s dst).held 2 ∨ (srcOf s dst).sentAt + 10 * Config.msCycles ≤
      max s.clk.fab t)) :=
  ⟨⟨0, wTf, wRing1, by decide +kernel⟩,
    ⟨1, 0, { wTf with dst := 2 }, wRing1, by decide +kernel⟩,
    ⟨0, { wTf with fcnt := 0 }, wRing1, by decide +kernel⟩,
    ⟨0, { wTf with tagOk := false }, wRing1, by decide +kernel⟩,
    ⟨0, wRing1, by decide +kernel⟩,
    ⟨400000, 0, wRing1, by decide +kernel⟩,
    ⟨4000000, 2, wRing1, by decide +kernel⟩⟩

/-- What RingTopology asks of its operands and states is met, clause by clause. -/
theorem witness_RingTopology :
    (∃ (p : Fin 2) (m o : TopoMsg) (s : State), 3 ≤ (portOf s p.val).state ∧ s.trunk.later = none ∧ seqHigher m.tgen
      s.trunk.tgen = true ∧ s.trunk.topo = some o ∧ removesLink o m = true ∧ m.anchor = o.anchor) ∧
    (∃ (p : Fin 2) (m o : TopoMsg) (s : State), 3 ≤ (portOf s p.val).state ∧ s.trunk.later = none ∧ seqHigher m.tgen
      s.trunk.tgen = true ∧ s.trunk.topo = some o ∧ removesLink o m = false) ∧
    (∃ (t b : Nat) (m : TopoMsg) (s : State), s.trunk.later = some (m, b) ∧ b ≤ asn (tick t s)) ∧
    (∃ (p : Fin 2) (m : TopoMsg) (s : State), s.trunk.topo = some m ∧ actsMaster s = true ∧ (active s).isSome = true
      ∧ s.trunk.ports.length = 2 ∧ 3 ≤ (portOf s p.val).state) ∧
    (∃ (n : Nat) (s : State), actsMaster s = true ∧ n ≠ modId s ∧ n ≤ 65) ∧
    (∃ (p : Nat) (s : State), actsMaster s = false ∧ commissioned s = true ∧ route s (masterId s) = some p ∧ (active
      s).isSome = true) ∧
    (∃ (a b g : Nat) (p : Fin 2) (s : State), 3 ≤ (portOf s p.val).state ∧ isCut s a b = false ∧ seqHigher
      s.trunk.tgen g = false) ∧
    (∃ (t sid : Nat) (h : Hdr) (args : List TVal) (s : State), passes 0x30300 [.enum [0, 1]] false t h args sid s =
      true ∧ actsMaster s = true ∧ argN args 0 = 0 ∧ modId s = 0 ∧ memberLocked (tick t s) (getN s 0x30110) = true) ∧
    (∃ (t a : Nat) (b : Bool) (s : State), s.trunk.hand = some (b, a) ∧ a ≤ asn (tick t s)) :=
  ⟨⟨0, { wRingTopo with tgen := 6, kind := 1, entries := [(0, true), (1, false), (2, true)] }, wRingTopo, wRing1,
      by decide +kernel⟩,
    ⟨0, { wRingTopo with tgen := 6 }, wRingTopo, wRing1, by decide +kernel⟩,
    ⟨5, 0, { wRingTopo with tgen := 6 },
      { wRing1 with trunk := { wRing1.trunk with later := some ({ wRingTopo with tgen := 6 }, 0) } },
      by decide +kernel⟩,
    ⟨1, wRingTopo, wRing0, by decide +kernel⟩,
    ⟨2, wRing0, by decide +kernel⟩,
    ⟨0, wRing1, by decide +kernel⟩,
    ⟨1, 2, 5, 0, wRing1, by decide +kernel⟩,
    ⟨5, 7, ahdr 0 3 0x30300, [num 11 0], putRow 0x30110 0 [.num 2]
      { wRing0 with trunk := { wRing0.trunk with members := [(2, { status := wStatus, at_ := 0, silent := false })] } },
      by decide +kernel⟩,
    ⟨5, 0, false, putRow 0x30110 0 [.num 2] { wRing0 with trunk := { wRing0.trunk with hand := some (false, 0) } },
      by decide +kernel⟩⟩

/-- What CascadeService asks of its operands and states is met, clause by clause. -/
theorem witness_CascadeService :
    (∃ (src m c p : Nat) (s : State), c ≤ 1 ∧ 64 ≤ src ∧ actsMaster s = true ∧ m ≠ modId s ∧ m ≤ 63 ∧ route s m =
      some p ∧ (active s).isSome = true) ∧
    (∃ (src c : Nat) (y : Peer) (s : State), c ≤ 1 ∧ src < 64 ∧ actsMaster s = true ∧ y.service = true ∧ (active
      s).isSome = true) ∧
    (∃ (v c r : Nat) (s : State), (v ≠ 1 ∨ 1 < c ∨ r ≠ 0) ∧ counts s = true) ∧
    (∃ (m : StatusMsg) (s : State), actsMaster s = true ∧ m.module < 64) ∧
    (∃ (p : Nat) (s : State), actsMaster s = false ∧ commissioned s = true ∧ route s (masterId s) = some p ∧ (active
      s).isSome = true) ∧
    (∃ (t n : Nat) (m : Member) (s : State), mget s.trunk.members n = some m ∧ actsMaster s = true ∧ m.at_ + 3 *
      Config.secCycles < max s.clk.fab t) :=
  ⟨⟨255, 2, 1, 0, wRing0, by decide +kernel⟩,
    ⟨2, 1, wAddr, wRing0, by decide +kernel⟩,
    ⟨1, 2, 0, wRing0, by decide +kernel⟩,
    ⟨wStatus, wRing0, by decide +kernel⟩,
    ⟨0, wRing1, by decide +kernel⟩,
    ⟨1200000001, 2, { status := wStatus, at_ := 0, silent := false },
      { wRing0 with trunk := { wRing0.trunk with members := [(2, { status := wStatus, at_ := 0, silent := false })] } },
      by decide +kernel⟩⟩

/-- What TimeTransfer asks of its operands and states is met, clause by clause. -/
theorem witness_TimeTransfer :
    (∃ (p : Fin 2) (off : Int) (s : State), 3 ≤ (portOf s p.val).state ∧ isSlavePort s p.val = true ∧
      s.time.everLocked = true ∧ s.time.conflict = false ∧ s.time.holdover = false ∧ off.natAbs ≤ 100000000) ∧
    (∃ (p : Fin 2) (s : State), 3 ≤ (portOf s p.val).state ∧ counts s = true) ∧
    (∃ (p : Fin 2) (s : State), (active s).isSome = true ∧ 3 ≤ (portOf s p.val).state ∧ isSlavePort s p.val = false) ∧
    (∃ (r : Nat) (p : Fin 2) (s : State), s.trunk.ports.length = 2 ∧ 3 ≤ (portOf s p.val).state ∧ r ≤ 4294967295) ∧
    (∃ (t : Nat) (s : State), actsMaster s = false ∧ s.trunk.topo.isSome = true ∧ s.time.lastSync + 375 *
      Config.msCycles ≤ max s.clk.fab t ∧ s.time.misses = 2 ∧ s.time.everLocked = true ∧ s.time.holdover = false) ∧
    (∃ (t : Nat) (s : State), actsMaster s = false ∧ s.trunk.topo.isSome = true ∧ s.time.lastSync + missAfter (min 3
      (s.time.misses + 1)) ≤ max s.clk.fab t) ∧
    (∃ (t f : Nat) (s : State), s.time.unexplained = some f ∧ f + 3 * Config.secCycles ≤ max s.clk.fab t ∧
      s.time.conflict = false) ∧
    (∃ (d : Nat) (s : State), s.time.asnSlewing = true ∧ d < 10000) ∧
    (∃ (l : Lane) (s : State), (s.lanes.get l).running = true ∧ (s.time.rtcs.get l).stopped = false) ∧
    (∃ (x : Int), -32768 ≤ x ∧ x ≤ 32767) ∧
    (∃ (s : State), s.time.locked = true) ∧
    (∃ (t c f : Nat) (s : State), s.time.locked = false ∧ s.met.refSince = some f ∧ f + 57600 * Config.secCycles ≤
      max s.clk.fab t ∧ s.met.freqFall = false ∧ getN s 0x80103 = 0 ∧ 49990 ≤ c ∧ c ≤ 50010 ∧ (getI s 0x20015).natAbs
      ≤ 5000) :=
  ⟨⟨0, 1000, { wRing1 with time := { wRing1.time with everLocked := true, offsetRun := 7 } }, by decide +kernel⟩,
    ⟨0, wRing1, by decide +kernel⟩,
    ⟨1, wRing1, by decide +kernel⟩,
    ⟨220001, 1, wRing1, by decide +kernel⟩,
    ⟨150000000, { wRing1 with time := { wRing1.time with everLocked := true, misses := 2 } }, by decide +kernel⟩,
    ⟨60000000, wRing1, by decide +kernel⟩,
    ⟨1200000000, 0, { wRing1 with time := { wRing1.time with everLocked := true, unexplained := some 0 } },
      by decide +kernel⟩,
    ⟨9999, { wRing1 with time := { wRing1.time with asnSlewing := true } }, by decide +kernel⟩,
    ⟨.B,
      { wS with time := { wS.time with rtcs := { a := { wS.time.rtcs.a with stopped := false }, b := { wS.time.rtcs.b with stopped := false } } } },
      by decide +kernel⟩,
    ⟨-400, by decide +kernel⟩,
    ⟨{ wRing1 with time := { wRing1.time with locked := true } }, by decide +kernel⟩,
    ⟨57600 * 400000000, 50001, 0, updMet (fun m => { m with refSince := some 0, freqFall := false }) wS,
      by decide +kernel⟩⟩

/-- What TimeOfDay asks of its operands and states is met, clause by clause. -/
theorem witness_TimeOfDay :
    (∃ (t sid : Nat) (h : Hdr) (args : List TVal) (s : State), passes 0x20300 [.enum [0, 1, 2, 3], cTime] false t h
      args sid s = true ∧ timeSourceOk (argN args 0) (tick t s) = true ∧ argN args 0 ≠ 0 ∧ 16777216 ≤ argN args 1 ∧
      stepLimit < (timeSetCorr (argN args 0) (argN args 1) (foldSlew (tick t s))).natAbs) ∧
    (∃ (t sid : Nat) (h : Hdr) (args : List TVal) (s : State), passes 0x20300 [.enum [0, 1, 2, 3], cTime] false t h
      args sid s = true ∧ timeSourceOk (argN args 0) (tick t s) = true ∧ argN args 0 ≠ 0 ∧ 16777216 ≤ argN args 1 ∧
      (timeSetCorr (argN args 0) (argN args 1) (foldSlew (tick t s))).natAbs ≤ stepLimit ∧ timeSetCorr (argN args 0)
      (argN args 1) (foldSlew (tick t s)) ≠ 0) ∧
    (∃ (t a src : Nat) (x : Int) (b : Bytes) (s : State), s.time.pendingStep = some (x, a, src, b) ∧ a ≤ asn (tick t
      s)) ∧
    (∃ (t : Nat) (w : Slew) (s : State), s.clk.slew = some w ∧ slewDone (max s.clk.fab t) (some w) = w.amt) ∧
    (∃ (t : Nat) (s : State), rNat (getRow s 0x20101 0) 0 ≠ 0 ∧ rNat (getRow s 0x20101 0) 0 ≤ time64 (tick t s)) ∧
    (∃ (t : Nat) (r : Fin 32) (s : State), rNat (getRow s 0x20130 r.val) 0 = 1 ∧ rNat (getRow s 0x20131 r.val) 0 ≠ 0
      ∧ rNat (getRow s 0x20131 r.val) 0 ≤ time64 (tick t s) ∧ timeUnset (tick t s) = false) :=
  ⟨⟨5, 7, ahdr 0 3 0x20300, [num 11 1, num 10 (100 * 16777216)], wRing0, by decide +kernel⟩,
    ⟨400000000 * 3, 7, ahdr 0 3 0x20300, [num 11 1, num 10 (time64 (tick 1200000000 wRing0) + 1048576)],
      { wRing0 with ib := { wRing0.ib with sessions := [(7, { wSess with lastFab := 1200000000 })] } },
      by decide +kernel⟩,
    ⟨5, 0, 1, 400000000, [], { wRing0 with time := { wRing0.time with pendingStep := some (400000000, 0, 1, []) } },
      by decide +kernel⟩,
    ⟨400000000 * 100, { amt := 4000, start := 0 },
      { wRing0 with clk := { wRing0.clk with slew := some { amt := 4000, start := 0 } } }, by decide +kernel⟩,
    ⟨400000000 * 3, putRow 0x20101 0 [.num 16777217, .num 38] wS, by decide +kernel⟩,
    ⟨400000000 * 9, 3,
      { putRow 0x20130 3 [.num 1, .num 16777216, .num 1] (putRow 0x20131 3 [.num 33554432, .num 0, .num 0, .num 0, .num 0] wRing0) with time := { wRing0.time with oscStopped := false } },
      by decide +kernel⟩⟩

/-- What VaultMailbox asks of its operands and states is met, clause by clause. -/
theorem witness_VaultMailbox :
    (∃ (l : Lane) (c : Core) (s : State), reachesVault c = true ∧ (vaultOf s l).busy = none) ∧
    (∃ (l : Lane) (c : Core) (s : State), reachesVault c = true ∧ (vaultOf s l).busy = none) ∧
    (∃ (l : Lane) (c : Core) (s : State), reachesVault c = true ∧ (vaultOf s l).busy = none) ∧
    (∃ (l : Lane) (c : Core) (s : State), reachesVault c = true ∧ (vaultOf s l).busy = none) ∧
    (∃ (l : Lane) (c : Core) (s : State), reachesVault c = true ∧ (vaultOf s l).busy = none) ∧
    (∃ (l : Lane) (c : Core) (s : State), reachesVault c = true ∧ (vaultOf s l).busy = none) ∧
    (∃ (l : Lane) (c : Core) (s : State), reachesVault c = true ∧ (vaultOf s l).busy = none) ∧
    (∃ (l : Lane) (c : Core) (s : State), reachesVault c = true ∧ (vaultOf s l).busy = none) ∧
    (∃ (l : Lane) (c : Core) (s : State), reachesVault c = true ∧ (vaultOf s l).busy = none) ∧
    (∃ (l : Lane) (c : Core) (s : State), reachesVault c = true ∧ (vaultOf s l).busy = none) ∧
    (∃ (l : Lane) (c : Core) (s : State), reachesVault c = true ∧ (vaultOf s l).busy.isSome = true) ∧
    (∃ (c : Core), reachesVault c = false) ∧
    (∃ (l : Lane) (c : Core) (op : VaultOp) (s : State), (vaultOf s l).busy = some (op, c) ∧ (vaultOf s l).katBad =
      true) ∧
    (∃ (l : Lane) (c : Core) (s : State), (vaultOf s l).busy = some (.sign, c) ∧ (vaultOf s l).katBad = false) ∧
    (∃ (r : String × Nat × Bool × Nat) (l : Lane) (c : Core) (s : State), (vaultOf s l).busy = some (.derive, c) ∧
      (vaultOf s l).katBad = false ∧ treeRow (mailLabel (mailBytes (vaultOf s l) (min (vaultOf s l).inLen 2048))) =
      some r ∧ rootLive s (vaultOf s l) r.2.1 = true) ∧
    (∃ (l : Lane) (c : Core) (s : State), (vaultOf s l).busy = some (.verify, c) ∧ (vaultOf s l).katBad = false) :=
  ⟨⟨.A, .M0, wOwn, by decide +kernel⟩,
    ⟨.A, .M0, wOwn, by decide +kernel⟩,
    ⟨.A, .M0, wOwn, by decide +kernel⟩,
    ⟨.A, .M0, wOwn, by decide +kernel⟩,
    ⟨.A, .M0, wOwn, by decide +kernel⟩,
    ⟨.A, .M0, wOwn, by decide +kernel⟩,
    ⟨.A, .M0, wOwn, by decide +kernel⟩,
    ⟨.A, .M0, wOwn, by decide +kernel⟩,
    ⟨.A, .M0, wOwn, by decide +kernel⟩,
    ⟨.A, .M0, wOwn, by decide +kernel⟩,
    ⟨.A, .A0, wVault (fun v => { v with busy := some (.sign, .A1) }), by decide +kernel⟩,
    ⟨.A2, by decide +kernel⟩,
    ⟨.A, .A0, .sign, wVault (fun v => { v with busy := some (.sign, .A0), katBad := true }), by decide +kernel⟩,
    ⟨.A, .A0, wVault (fun v => { v with busy := some (.sign, .A0), handles := [(4, [1])], handle := 4 }),
      by decide +kernel⟩,
    ⟨("CLAIM", 0, false, 40), .A, .A0, wVault (fun v =>
      { v with busy := some (.derive, .A0), inLen := 5, data := [(0, 0x49414C43), (1, 0x4D)] }), by decide +kernel⟩,
    ⟨.A, .A0, wVault (fun v => { v with busy := some (.verify, .A0) }), by decide +kernel⟩⟩

/-- What Tamper asks of its operands and states is met, clause by clause. -/
theorem witness_Tamper :
    (∃ (t : Nat) (n : Fin 11) (s : State), s.power.mainOn = true ∧ (n.val < 3 ∨ 8 < n.val) ∧ sourceLive (tick t s)
      n.val = true ∧ s.life.state = .owned) ∧
    (∃ (t : Nat) (n : Fin 11) (s : State), s.power.mainOn = true ∧ (n.val < 3 ∨ 8 < n.val) ∧ sourceLive (tick t s)
      n.val = false) ∧
    (∃ (l : Lane) (n : Fin 11) (s : State), 3 ≤ n.val ∧ n.val ≤ 8 ∧ (n.val + 1) % 2 = laneNo l ∧ s.power.mainOn =
      true ∧ s.life.state = .owned ∧ s.lanes.a.vault.zeroTimes = [] ∧ s.lanes.b.vault.zeroTimes = [] ∧ (vaultOf s
      (otherLane l)).root.isSome = true ∧ active s ≠ some l) ∧
    (∃ (t : Nat) (n : Fin 11) (s : State), s.power.mainOn = false ∧ (n.val ≤ 2 ∨ n.val = 9) ∧ sourceLive (tick t s)
      n.val = true ∧ s.life.state ≠ .blank ∧ s.life.state ≠ .scrapped ∧ s.power.dip = none) ∧
    (∃ (t : Nat) (n : Fin 11) (d : Nat × Bool) (s : State), s.power.mainOn = false ∧ (n.val ≤ 2 ∨ n.val = 9) ∧
      sourceLive (tick t s) n.val = true ∧ s.life.state ≠ .blank ∧ s.life.state ≠ .scrapped ∧ s.power.dip = some d ∧
      s.power.tamperPending = none) ∧
    (∃ (t f : Nat) (r : Bytes) (l : Lane) (s : State), s.life.state = .owned ∧ (vaultOf s l).root = none ∧ (vaultOf
      s (otherLane l)).root = some r ∧ rootIdOf r = s.life.rootId ∧ (vaultOf s (otherLane l)).katFab = some f ∧ max
      s.clk.fab t ≤ f + 10 * Config.secCycles ∧ (vaultOf s (otherLane l)).katBad = false ∧ bridgeUp s = true ∧ active
      s = some l) ∧
    (∃ (t sid : Nat) (h : Hdr) (args : List TVal) (s : State), passes 0x10160 [.sparse 3 [(0, 0), (60, 14400)]]
      false t h args sid s = true ∧ argN args 0 ≠ 0 ∧ argN args 0 ≤ 3600) ∧
    (∃ (t f n : Nat) (s : State), s.life.suspend = some (f, n) ∧ f ≤ max s.clk.fab t ∧ (s.lanes.a.running = true ∨
      s.lanes.b.running = true)) :=
  ⟨⟨5, 10, wOwn, by decide +kernel⟩,
    ⟨5, 0, { putN 0x10100 0xFFFF wOwn with life := { wOwn.life with suspend := some (400000000, 1000) } },
      by decide +kernel⟩,
    ⟨.B, 4, wOwn, by decide +kernel⟩,
    ⟨5, 2, putN 0x10100 0xFFFF { wOwn with power := { wOwn.power with mainOn := false } }, by decide +kernel⟩,
    ⟨5, 2, (0, false), putN 0x10100 0xFFFF
      { wOwn with power := { wOwn.power with mainOn := false, dip := some (0, false) } }, by decide +kernel⟩,
    ⟨5, 0, [], .A, updLife (fun x => { x with rootId := rootIdOf [] }) (updVault .A (fun v =>
      { v with root := none }) (updVault .B (fun v => { v with katFab := some 0 }) wOwn)), by decide +kernel⟩,
    ⟨5, 7, hdr 0x10160, [num 3 60], wS, by decide +kernel⟩,
    ⟨5, 5, 60000, { wOwn with life := { wOwn.life with suspend := some (5, 60000) } }, by decide +kernel⟩⟩

/-- What LifeCycle asks of its operands and states is met, clause by clause. -/
theorem witness_LifeCycle :
    (∃ (t sid : Nat) (h : Hdr) (args : List TVal) (s : State), passes 0x10300 [.text 8, .int 2 0 1, .octets 97, .int
      2 0 3, .octets 173] false t h args sid s = true ∧ s.life.lockout = none ∧ s.life.inputs = 0 ∧ (vaultOf s
      .A).katBad = false ∧ argN args 1 = 0) ∧
    (∃ (t sid : Nat) (h : Hdr) (args : List TVal) (s : State), passes 0x10300 [.text 8, .int 2 0 1, .octets 97, .int
      2 0 3, .octets 173] false t h args sid s = true ∧ s.life.lockout = none ∧ s.life.inputs = 0 ∧ (vaultOf s
      .A).katBad = false) ∧
    (∃ (t f : Nat) (s : State), s.life.lockout = some f ∧ f ≤ max s.clk.fab t) ∧
    (∃ (t sid : Nat) (h : Hdr) (args : List TVal) (s : State), passes 0x10301 [.int 2 0 1, .octets 173] false t h
      args sid s = true ∧ s.life.inputs = 0 ∧ (vaultOf s .A).katBad = false ∧ argN args 0 = 0) ∧
    (∃ (t sid : Nat) (h : Hdr) (args : List TVal) (s : State), passes 0x10301 [.int 2 0 1, .octets 173] false t h
      args sid s = true ∧ s.life.inputs = 0 ∧ (vaultOf s .A).katBad = false ∧ argN args 0 = 0 ∧ s.power.restart =
      none) ∧
    (∃ (t sid : Nat) (h : Hdr) (args : List TVal) (s : State), passes 0x10302 [.octets 16] false t h args sid s =
      true ∧ argB args 0 = fit 16 Config.serial) ∧
    (∃ (t sid : Nat) (h : Hdr) (args : List TVal) (s : State), passes 0x10303 [.octets 16] false t h args sid s =
      true ∧ argB args 0 = fit 16 Config.serial ∧ s.life.state ≠ .scrapped) ∧
    (∃ (t sid : Nat) (h : Hdr) (s : State), arrives 3 false h sid s = true ∧ h.obj / 65536 = 15 ∧ s.life.state =
      .returned ∧ plainRefused h sid (caller t sid s) (opState t h sid s) = none ∧ (caller t sid s).level = 4) ∧
    (∃ (s : State), s.life.state = .blank) ∧
    (∃ (t sid : Nat) (h : Hdr) (args : List TVal) (s : State), passes 0x10141 [] false t h args sid s = true ∧
      noEscrowKey s = false ∧ ownerRoot s = true ∧ (vaultOf s (servedBy s)).katBad = false) ∧
    (∃ (t sid : Nat) (h : Hdr) (args : List TVal) (s : State), passes 0x10150 [.octets 173] false t h args sid s =
      true ∧ ownerRoot s = true ∧ (vaultOf s (servedBy s)).katBad = false) :=
  ⟨⟨5, 7, hdr 0x10300, [{ tag := 14, val := .bytes [65] }, num 2 0, oct (List.replicate 97 1), num 2 3, oct
      (List.replicate 173 0)], { wS with life := { wS.life with state := .stock } }, by decide +kernel⟩,
    ⟨5, 7, hdr 0x10300, [{ tag := 14, val := .bytes [65] }, num 2 0, oct (List.replicate 97 1), num 2 3, oct
      (List.replicate 173 0)], { wS with life := { wS.life with state := .stock, claimBad := 4 } }, by decide +kernel⟩,
    ⟨5, 5, { wS with life := { wS.life with lockout := some 5 } }, by decide +kernel⟩,
    ⟨5, 7, hdr 0x10301, [num 2 0, oct (List.replicate 173 0)],
      { wS with life := { wS.life with state := .tampered } }, by decide +kernel⟩,
    ⟨5, 7, hdr 0x10301, [num 2 0, oct (List.replicate 173 0)],
      { wS with life := { wS.life with state := .tampered } }, by decide +kernel⟩,
    ⟨5, 7, hdr 0x10302, [oct (fit 16 Config.serial)], wOwn, serial_returnModule _ (by simp [fit]), rfl⟩,
    ⟨5, 7, hdr 0x10303, [oct (fit 16 Config.serial)], { wOwn with life := { wOwn.life with state := .returned } },
      serial_scrap _ (by simp [fit]), rfl, by decide +kernel⟩,
    ⟨5, 7, hdr 0xF0001, wSess4 .returned, by decide +kernel⟩,
    ⟨State.reset, by decide +kernel⟩,
    ⟨5, 7, hdr 0x10141, [], putRow 0x10140 0 [.bytes (List.replicate 97 1)] wOwn, by decide +kernel⟩,
    ⟨5, 7, hdr 0x10150, [oct (List.replicate 173 9)], wOwn, by decide +kernel⟩⟩

/-- What RecorderWrites asks of its operands and states is met, clause by clause. -/
theorem witness_RecorderWrites :
    (∃ (l : Lane) (c : Core) (r : RecIn) (s : State), isPolicy c = false ∧ (s.lanes.get l).running = true ∧
      (s.lanes.get l).role ≠ .lagging ∧ getN s 0xB0110 ≤ min r.sev 7 ∧ s.recd.queue.length < 256) ∧
    (∃ (l : Lane) (c : Core) (r : RecIn) (s : State), isPolicy c = false ∧ (s.lanes.get l).running = true ∧
      (s.lanes.get l).role = .lagging ∧ getN s 0xB0110 ≤ min r.sev 7 ∧ (s.recd.held.get l).length < 64) ∧
    (∃ (c : Core), isPolicy c = true) ∧
    (∃ (r : Record) (q : List Record) (s : State), s.recd.queue = r :: q ∧ lastRec s = none ∧ s.recd.pages = []) ∧
    (∃ (p : Nat) (r b : Record) (q : List Record) (s : State), s.recd.queue = r :: q ∧ s.recd.openPage = some p ∧
      lastRec s = some b ∧ sameRecord r b = true ∧ b.rseq = s.recd.rseq) ∧
    (∃ (t r : Nat) (k : Fin 3) (x : Summary) (s : State), r < 16 ∧ getC s 0xB0120 r 1 ≠ 0 ∧ getC s 0xB0120 r 2 =
      k.val ∧ mget s.recd.sums r = some x ∧ (sumStart (tick t s) k.val false).start ≠ x.start) ∧
    (∃ (t sid : Nat) (h : Hdr) (args : List TVal) (s : State), passes 0xB0300 [cU32, cU8, .int 2 1 32] false t h
      args sid s = true) :=
  ⟨⟨.A, .A0, { typ := 0x100, sev := 5, source := 1, payload := [1] }, wPair, by decide +kernel⟩,
    ⟨.B, .A0, { typ := 0x100, sev := 5, source := 1, payload := [1] }, wLag .idle, by decide +kernel⟩,
    ⟨.A3, by decide +kernel⟩,
    ⟨wRec, [], wQ [wRec], by decide +kernel⟩,
    ⟨0, wRec, { wRec with rseq := 1 }, [],
      { wQ [wRec] with recd := { (wQ [wRec]).recd with rseq := 1, openPage := some 0, pages := [(0, { pageSeq := 1, firstRseq := 1, maxSev := 5, drain := 0, records := [{ wRec with rseq := 1 }] })] } },
      by decide +kernel⟩,
    ⟨1000 * 400000000, 3, 0, (mget wSum.recd.sums 3).getD wSum0, wSum, by decide +kernel⟩,
    ⟨5, 7, hdr 0xB0300, [num 4 0, num 2 0, num 2 32], wS, by decide +kernel⟩⟩

/-- What InterruptClaims asks of its operands and states is met, clause by clause. -/
theorem witness_InterruptClaims :
    (∃ (l : Lane) (n : Fin 512) (s : State), icuLevel n.val = false ∧ (s.lanes.get l).icu.stopped = false) ∧
    (∃ (n : Fin 512), icuLevel n.val = true) ∧
    (∃ (t p n : Nat) (lt : Bool) (l : Lane) (c : Core) (tn : Fin 7) (s : State), coreNo c = tn.val ∧ (s.lanes.get
      l).icu.targets.length = 7 ∧ (∀ b, icuBest (icuPresented (max s.clk.fab t) b (s.lanes.get l).icu tn.val (lget
      (s.lanes.get l).icu.targets tn.val IcuTarget.init)) = some (p, n, lt))) ∧
    (∃ (t : Nat) (l : Lane) (c : Core) (tn : Fin 7) (s : State), coreNo c = tn.val ∧ (s.lanes.get
      l).icu.targets.length = 7 ∧ (∀ b, icuBest (icuPresented (max s.clk.fab t) b (s.lanes.get l).icu tn.val (lget
      (s.lanes.get l).icu.targets tn.val IcuTarget.init)) = none)) ∧
    (∃ (c : Core) (tn : Fin 7), coreNo c ≠ tn.val) ∧
    (∃ (n : Nat) (l : Lane) (c : Core) (tn : Fin 7) (s : State), coreNo c = tn.val ∧ n < 512 ∧ (s.lanes.get
      l).icu.targets.length = 7 ∧ (icuSrc (s.lanes.get l).icu n).active = some tn.val) ∧
    (∃ (n : Nat) (l : Lane) (c : Core) (tn : Fin 7) (s : State), coreNo c = tn.val ∧ n < 512 ∧ (s.lanes.get
      l).icu.targets.length = 7 ∧ (icuSrc (s.lanes.get l).icu n).active ≠ some tn.val) ∧
    (∃ (t : Nat) (l : Lane) (tn : Fin 7) (s : State), (s.lanes.get l).icu.targets.length = 7 ∧ (lget (s.lanes.get
      l).icu.targets tn.val IcuTarget.init).stack ≠ [] ∧ (lget (s.lanes.get l).icu.targets tn.val
      IcuTarget.init).since + 100 * Config.msCycles ≤ max s.clk.fab t) ∧
    (∃ (l : Lane) (s : State), (s.lanes.get l).icu.targets.length = 7) :=
  ⟨⟨.A, 2, wPair, by decide +kernel⟩,
    ⟨20, by decide +kernel⟩,
    ⟨5, 6, 2, false, .A, .A1, 1, wIrq, by decide +kernel⟩,
    ⟨5, .A, .A1, 1, wPair, by decide +kernel⟩,
    ⟨.A0, 1, by decide +kernel⟩,
    ⟨2, .A, .A1, 1, wClaimed, by decide +kernel⟩,
    ⟨3, .A, .A1, 1, wClaimed, by decide +kernel⟩,
    ⟨40000000, .A, 1, wClaimed, by decide +kernel⟩,
    ⟨.A, wClaimed, by decide +kernel⟩⟩

/-- What InterruptControl asks of its operands and states is met, clause by clause. -/
theorem witness_InterruptControl :
    (∃ (k : Nat) (c : Core), isPolicy c = false ∧ k < 32) ∧
    (∃ (k : Nat) (c : Core), isPolicy c = false ∧ k < 32) ∧
    (∃ (c : Core), isPolicy c = true) ∧
    (∃ (l : Lane) (c : Core) (s : State), isPolicy c = false ∧ (s.lanes.get l).icu.stopped = false) ∧
    (∃ (l : Lane) (s : State), wakeWaiting (s.lanes.get l).icu = false) ∧
    (∃ (l : Lane) (s : State), wakeWaiting (s.lanes.get l).icu = true) ∧
    (∃ (wd : Nat) (l : Lane) (n : Fin 64) (s : State), (s.lanes.get l).icu.stopped = true ∧ 20 ≤ wd ∧ (s.lanes.get
      l).icu.wakeEn.getLsbD n.val = true) ∧
    (∃ (l : Lane) (c : Core) (s : State), isPolicy c = false ∧ (s.lanes.get l).sems.length = 64) ∧
    (∃ (l : Lane) (c : Core) (s : State), isPolicy c = false ∧ (s.lanes.get l).sems.length = 64) ∧
    (∃ (l : Lane) (s : State), (s.lanes.get l).latches.length = 6) ∧
    (∃ (c : Core), isPolicy c = false) :=
  ⟨⟨3, .A0, by decide +kernel⟩,
    ⟨2, .A0, by decide +kernel⟩,
    ⟨.A2, by decide +kernel⟩,
    ⟨.A, .A0, wPair, by decide +kernel⟩,
    ⟨.A, wPair, by decide +kernel⟩,
    ⟨.A, updIcu .A (fun x => { x with wakeEn := 4, wakeLatch := 4 }) wPair, by decide +kernel⟩,
    ⟨20, .A, 2, updIcu .A (fun x => { x with wakeEn := 4, stopped := true }) wPair, by decide +kernel⟩,
    ⟨.A, .A0, wPair, by decide +kernel⟩,
    ⟨.A, .A0, updLane .A (fun x => { x with sems := lset x.sems 40 1 }) wPair, by decide +kernel⟩,
    ⟨.A, wPair, by decide +kernel⟩,
    ⟨.A0, by decide +kernel⟩⟩

/-- What GourArbiters asks of its operands and states is met, clause by clause. -/
theorem witness_GourArbiters :
    (∃ (l : Lane) (a : Fin 23) (r : Fin 16) (s : State), r.val < arbReqs a.val ∧ (reqOf a.val (arbOf (s.lanes.get l)
      a.val) r.val).waiting.all (fun e => e.2.2) = true) ∧
    (∃ (r cr at_ cost : Nat) (rest : List (Nat × Nat × Bool)) (pk : Bool) (l : Lane) (a : Fin 23) (s : State), (∀ b,
      gourWinner a.val b (arbOf (s.lanes.get l) a.val) = some (cr, r)) ∧ (reqOf a.val (arbOf (s.lanes.get l) a.val)
      r).waiting = (at_, cost, pk) :: rest) ∧
    (∃ (cost cr : Nat) (l : Lane) (a : Fin 23) (r : Fin 16) (s : State), (arbOf (s.lanes.get l) a.val).holding =
      some (r.val, cost, cr)) ∧
    (∃ (r : Nat) (a : Fin 23), arbKind a.val ≠ 2 ∧ r < arbReqs a.val) ∧
    (∃ (p : Nat) (l : Lane) (a : Fin 23) (s : State), arbKind a.val = 2 ∧ p < 8 ∧ (arbOf (s.lanes.get l)
      a.val).granted.contains (2 * p) = true ∧ (arbOf (s.lanes.get l) a.val).granted.contains (2 * p + 1) = true) ∧
    (∃ (l : Lane) (c : Core) (a : Fin 23) (r : Fin 16) (v : Word32) (s : State), isPolicy c = false ∧ r.val <
      arbReqs a.val ∧ (arbKind a.val = 0 → refillSum a.val r.val (v.toNat % 256) (arbOf (s.lanes.get l) a.val) ≤
      arbCapacity a.val)) ∧
    (∃ (l : Lane) (c : Core) (a : Fin 23) (r : Fin 16) (v : Word32) (s : State), (isPolicy c = true ∨ arbReqs a.val
      ≤ r.val ∨ (arbKind a.val = 0 ∧ arbCapacity a.val < refillSum a.val r.val (v.toNat % 256) (arbOf (s.lanes.get l)
      a.val)))) :=
  ⟨⟨.A, 0, 2, wPair, by decide +kernel⟩,
    ⟨2, 4, 0, 1, [], false, .A, 0, wGour, by decide +kernel⟩,
    ⟨1, 4, .A, 0, 2, updArb .A 0 (fun b => { b with holding := some (2, 1, 4) }) wGour, by decide +kernel⟩,
    ⟨2, 0, by decide +kernel⟩,
    ⟨1, .A, 21, updArb .A 21 (fun b => { b with granted := [2, 3] }) wPair, by decide +kernel⟩,
    ⟨.A, .A0, 0, 2, 5, wPair, by decide +kernel⟩,
    ⟨.A, .A0, 0, 2, 64, wPair, by decide +kernel⟩⟩

/-- What SumpQueues asks of its operands and states is met, clause by clause. -/
theorem witness_SumpQueues :
    (∃ (t : Nat) (l : Lane) (q : Fin 22) (s : State), sumpCoreReads q.val = true ∧ (sumpOf (s.lanes.get l)
      q.val).dropping = false ∧ (sumpOf (s.lanes.get l) q.val).flushAt ≠ some (max s.clk.fab t) ∧ (sumpOf (s.lanes.get
      l) q.val).words.length < (sumpFacts q.val).1 ∧ (s.lanes.get l).stalls = List.replicate 6 none) ∧
    (∃ (l : Lane) (q : Fin 22) (lst : Bool) (s : State), sumpCoreReads q.val = false ∧ (sumpOf (s.lanes.get l)
      q.val).dropping = false ∧ (sumpOf (s.lanes.get l) q.val).words.length < (sumpFacts q.val).1 ∧ (lst = true ∨
      (sumpFacts q.val).2.2 = false) ∧ (s.lanes.get l).stalls = List.replicate 6 none) ∧
    (∃ (t : Nat) (l : Lane) (c : Core) (q : Fin 22) (s : State), isPolicy c = false ∧ sumpCoreWrites q.val = true ∧
      (sumpOf (s.lanes.get l) q.val).dropping = false ∧ (sumpOf (s.lanes.get l) q.val).flushAt ≠ some (max s.clk.fab
      t) ∧ (sumpOf (s.lanes.get l) q.val).words.length < (sumpFacts q.val).1) ∧
    (∃ (l : Lane) (c : Core) (q : Fin 22) (s : State), isPolicy c = false ∧ sumpCoreWrites q.val = true ∧ (sumpOf
      (s.lanes.get l) q.val).dropping = false ∧ (sumpFacts q.val).1 ≤ (sumpOf (s.lanes.get l) q.val).words.length) ∧
    (∃ (l : Lane) (c : Core) (q : Fin 22) (w : SumpWord) (r : List SumpWord) (s : State), isPolicy c = false ∧
      sumpCoreReads q.val = true ∧ (sumpOf (s.lanes.get l) q.val).words = w :: r ∧ w.bad = 0) ∧
    (∃ (l : Lane) (c : Core) (q : Fin 22) (s : State), isPolicy c = false ∧ sumpCoreReads q.val = true ∧ (sumpOf
      (s.lanes.get l) q.val).words = [] ∧ (s.lanes.get l).stalls.length = 6) ∧
    (∃ (c : Core), isPolicy c = false) ∧
    (∃ (l : Lane) (c : Core) (q : Fin 22) (s : State), isPolicy c = false ∧ (q.val = 13 ∨ q.val = 14) ∧ (sumpOf
      (s.lanes.get l) q.val).mid = true ∧ active s = some l) ∧
    (∃ (t q f : Nat) (l : Lane) (c : Core) (s : State), (s.lanes.get l).stalls.length = 6 ∧ lget (s.lanes.get
      l).stalls (coreNo c) none = some (q, f) ∧ f + lget (s.lanes.get l).busWd (coreNo c) 400000 ≤ max s.clk.fab t) :=
  ⟨⟨5, .A, 9, wPair, by decide +kernel⟩,
    ⟨.A, 13, false, wPair, by decide +kernel⟩,
    ⟨5, .A, .A0, 11, updSump .A 11 (fun k => { k with low := 9 }) wPair, by decide +kernel⟩,
    ⟨.A, .A0, 15, wSump 15 (List.replicate 128 (wSw 1 false 0)), by decide +kernel⟩,
    ⟨.A, .A0, 9, wSw 5 true 0, [], wSump 9 [wSw 5 true 0], by decide +kernel⟩,
    ⟨.A, .A0, 9, wPair, by decide +kernel⟩,
    ⟨.A0, by decide +kernel⟩,
    ⟨.A, .A0, 13, updSump .A 13 (fun k => { k with mid := true }) wPair, by decide +kernel⟩,
    ⟨400000, 9, 0, .A, .A0, updLane .A (fun x => { x with stalls := lset x.stalls 0 (some (9, 0)) }) wPair,
      by decide +kernel⟩⟩

/-- What LaneMemory asks of its operands and states is met, clause by clause. -/
theorem witness_LaneMemory :
    (∃ (t a : Nat) (l : Lane) (c : Core) (s : State), a < 4294967296 ∧ (inRam a = true ∨ (0x20000000 ≤ a ∧ a <
      0x20E0FFFD ∧ mramBarred c a true = false)) ∧ (isPolicy c = false ∨ (policyReaches c a true = true ∧
      policyReaches c (a + 3) true = true)) ∧ Memory.wf (s.lanes.get l).mem = true ∧ (s.lanes.get l).writes.any (fun x
      => x.1 == max s.clk.fab t && x.2.2.1 == a) = false) ∧
    (∃ (a : Nat) (c : Core), inRam a = true ∧ (isPolicy c = false ∨ (policyReaches c a false = true ∧ policyReaches
      c (a + 3) false = true))) ∧
    (∃ (t a : Nat) (l : Lane) (c : Core) (s : State), a < 4294967296 ∧ isPolicy c = true ∧ policyReaches c a true =
      false ∧ (s.lanes.get l).writes.any (fun x => x.1 == max s.clk.fab t && x.2.2.1 == a) = false) ∧
    (∃ (a : Nat) (c : Core), a < 4294967296 ∧ isPolicy c = true ∧ policyReaches c a false = false) ∧
    (∃ (c : Core), isPolicy c = false) ∧
    (∃ (t : Nat) (l : Lane) (c : Core) (tn : Fin 7) (s : State), isPolicy c = false ∧ tn.val ≠ 6 ∧ (s.lanes.get
      l).icu.targets.length = 7 ∧ (s.lanes.get l).writes.any (fun x => x.1 == max s.clk.fab t && x.2.2.1 == 0x40101000
      + tn.val * 256) = false) ∧
    (∃ (a : Nat), 0x40E00000 ≤ a ∧ a < 0x80000000) ∧
    (∃ (a : Nat), 0x40E00000 ≤ a ∧ a < 0x80000000) ∧
    (4294967296 ≤ 4294967296) :=
  ⟨⟨5, 0x10000000, .A, .A0, wPair, by decide +kernel⟩,
    ⟨0x80000000, .A0, by decide +kernel⟩,
    ⟨5, 0x40600000, .A, .A2, wPair, by decide +kernel⟩,
    ⟨0x40600000, .A2, by decide +kernel⟩,
    ⟨.A0, by decide +kernel⟩,
    ⟨5, .A, .A0, 2, wPair, by decide +kernel⟩,
    ⟨0x40E00000, by decide +kernel⟩,
    ⟨0x7FFFFFFC, by decide +kernel⟩,
    by decide +kernel⟩

/-- What PinSelfTest asks of its operands and states is met, clause by clause. -/
theorem witness_PinSelfTest :
    (∃ (t r : Nat) (b : Bool) (s : State), (active s).isSome = true ∧ s.test.slice = none ∧ s.test.stopped = false ∧
      s.test.barred = false ∧ s.power.warning = false ∧ 1840000 ≤ slotAt (tick t s).clk (tick t s).clk.fab %
      Config.slotCycles ∧ slotAt (tick t s).clk (tick t s).clk.fab % Config.slotCycles ≤ 1872000 ∧ nextItem s = some
      (r, b) ∧ tickDue (tick t s) r = true ∧ sliceFree (tick t s) r (asn (tick t s)) = true) ∧
    (∃ (x : Slice) (o : SliceObs) (b1 b2 : Bool) (s : State), s.test.slice = some x ∧ (b1 = true ∨ b2 = true) ∧
      x.skip = false ∧ s.test.edges = [] ∧ s.test.copy = [] ∧ sliceResult s x.row o = 1) ∧
    (∃ (x : Slice) (o : SliceObs) (b1 b2 : Bool) (s : State), s.test.slice = some x ∧ (b1 = true ∨ b2 = true) ∧
      x.skip = false ∧ x.retest = false ∧ s.test.edges = [] ∧ s.test.copy = [] ∧ sliceResult s x.row o = 3) ∧
    (∃ (x : Slice) (s : State), s.test.slice = some x) ∧
    (∃ (t sid : Nat) (h : Hdr) (args : List TVal) (s : State), passes 0xC0300 [.bits 0xFF] false t h args sid s =
      true ∧ s.test.sweep = none) ∧
    (∃ (w : Sweep) (s : State), s.test.sweep = some w ∧ w.rows.any (rowRuns s) = false ∧ s.test.retests = [] ∧
      s.test.slice = none ∧ s.test.stopped = false) :=
  ⟨⟨1840000, 0, false, putN 0xC0101 255 (putN 0xC0100 1 wPair), by decide +kernel⟩,
    ⟨{ row := 14, retest := false, started := 0, skip := false }, wObs, true, false, wSlice 14, by decide +kernel⟩,
    ⟨{ row := 14, retest := false, started := 0, skip := false }, { wObs with seen := false }, true, false, wSlice
      14, by decide +kernel⟩,
    ⟨{ row := 14, retest := false, started := 0, skip := false }, wSlice 14, by decide +kernel⟩,
    ⟨5, 7, hdr 0xC0300, [num 12 1], wS, by decide +kernel⟩,
    ⟨{ mask := 1, rows := [], counts := [4, 0, 0, 0] }, updTest (fun t =>
      { t with sweep := some { mask := 1, rows := [], counts := [4, 0, 0, 0] } }) wPair, by decide +kernel⟩⟩

/-- What FirmwareStream asks of its operands and states is met, clause by clause. -/
theorem witness_FirmwareStream :
    (∃ (t r : Nat) (h : StreamHdr) (a : Assoc) (s : State), (active s).isSome = true ∧ h.assoc ≠ 0 ∧ mget
      s.ib.assocs h.assoc = some a ∧ a.entry = .service ∧ entryOpen s .service = true ∧ (s.life.state == .returned) =
      a.cert.returnAnchor ∧ certDenied (tick t s) a.cert = false ∧ 2 ≤ a.level ∧ h.target = modId s ∧ openStatus h
      (tick t s) = 0 ∧ streamRows h = [r]) ∧
    (∃ (t r : Nat) (h : StreamHdr) (a : Assoc) (x : Transfer) (b : Bytes) (s : State), (active s).isSome = true ∧
      h.assoc ≠ 0 ∧ mget s.ib.assocs h.assoc = some a ∧ a.entry = .service ∧ entryOpen s .service = true ∧
      (s.life.state == .returned) = a.cert.returnAnchor ∧ certDenied (tick t s) a.cert = false ∧ 2 ≤ a.level ∧
      h.target = modId s ∧ liveRows h s = [r] ∧ mget s.fw.transfers r = some x ∧ 1 ≤ h.length ∧ h.length ≤ 1024 ∧
      b.length = h.length ∧ h.offset + h.length ≤ x.total) ∧
    (∃ (t r : Nat) (h : StreamHdr) (a : Assoc) (x : Transfer) (s : State), (active s).isSome = true ∧ h.assoc ≠ 0 ∧
      mget s.ib.assocs h.assoc = some a ∧ a.entry = .service ∧ entryOpen s .service = true ∧ (s.life.state ==
      .returned) = a.cert.returnAnchor ∧ certDenied (tick t s) a.cert = false ∧ 2 ≤ a.level ∧ h.target = modId s ∧ r <
      2 ∧ liveRows h s = [r] ∧ mget s.fw.transfers r = some x ∧ nextOffset x = x.total ∧ sha256 (imageBytes x) = x.sha
      ∧ (s.fw.boots.get (rowLane r)).recovery = false) ∧
    (∃ (t r : Nat) (h : StreamHdr) (a : Assoc) (x : Transfer) (s : State), (active s).isSome = true ∧ h.assoc ≠ 0 ∧
      mget s.ib.assocs h.assoc = some a ∧ a.entry = .service ∧ entryOpen s .service = true ∧ (s.life.state ==
      .returned) = a.cert.returnAnchor ∧ certDenied (tick t s) a.cert = false ∧ 2 ≤ a.level ∧ h.target = modId s ∧
      liveRows h s = [r] ∧ mget s.fw.transfers r = some x ∧ nextOffset x = x.total ∧ sha256 (imageBytes x) ≠ x.sha) ∧
    (∃ (t r : Nat) (h : StreamHdr) (a : Assoc) (x : Transfer) (s : State), (active s).isSome = true ∧ h.assoc ≠ 0 ∧
      mget s.ib.assocs h.assoc = some a ∧ a.entry = .service ∧ entryOpen s .service = true ∧ (s.life.state ==
      .returned) = a.cert.returnAnchor ∧ certDenied (tick t s) a.cert = false ∧ 2 ≤ a.level ∧ h.target = modId s ∧
      liveRows h s = [r] ∧ mget s.fw.transfers r = some x ∧ nextOffset x ≠ x.total) ∧
    (∃ (t r : Nat) (h : StreamHdr) (a : Assoc) (s : State), (active s).isSome = true ∧ h.assoc ≠ 0 ∧ mget
      s.ib.assocs h.assoc = some a ∧ a.entry = .service ∧ entryOpen s .service = true ∧ (s.life.state == .returned) =
      a.cert.returnAnchor ∧ certDenied (tick t s) a.cert = false ∧ 2 ≤ a.level ∧ h.target = modId s ∧ liveRows h s =
      [r]) ∧
    (∃ (t : Nat) (r : Fin 3) (x : Transfer) (s : State), mget s.fw.transfers r.val = some x ∧ x.closed = false ∧
      x.programming = none ∧ x.last + 600 * Config.secCycles ≤ max s.clk.fab t) ∧
    (∃ (l : Lane) (x : Transfer) (g : ImageHdr) (s : State), mget s.fw.transfers (laneNo l) = some x ∧ x.programming
      = some g ∧ (s.fw.boots.get l).recovery = false ∧ (s.fw.boots.get l).running ≤ 1 ∧ s.fw.banks.length = 4) :=
  ⟨⟨5, 1, wStream, (mget wPair.ib.assocs 3).getD wAssoc, wPair, by decide +kernel⟩,
    ⟨5, 1, { wStream with offset := 40, length := 10 }, (mget wPair.ib.assocs 3).getD wAssoc, wTr [(0, 40)],
      List.replicate 10 1, wStr (wTr [(0, 40)]), by decide +kernel⟩,
    ⟨5, 1, wStream, (mget wPair.ib.assocs 3).getD wAssoc, { wTr [(0, 100)] with sha := sha256 [] }, wStr
      { wTr [(0, 100)] with sha := sha256 [] }, by decide +kernel⟩,
    ⟨5, 1, wStream, (mget wPair.ib.assocs 3).getD wAssoc, wTr [(0, 100)], wStr (wTr [(0, 100)]), by decide +kernel⟩,
    ⟨5, 1, wStream, (mget wPair.ib.assocs 3).getD wAssoc, wTr [(0, 50)], wStr (wTr [(0, 50)]), by decide +kernel⟩,
    ⟨5, 1, wStream, (mget wPair.ib.assocs 3).getD wAssoc, wStr (wTr []), by decide +kernel⟩,
    ⟨600 * 400000000, 1, wTr [], wStr (wTr []), by decide +kernel⟩,
    ⟨.B, { wTr [(0, 100)] with programming := some wImg }, wImg, wStr
      { wTr [(0, 100)] with programming := some wImg }, by decide +kernel⟩⟩

/-- What FirmwareBanks asks of its operands and states is met, clause by clause. -/
theorem witness_FirmwareBanks :
    (∃ (t sid : Nat) (h : Hdr) (args : List TVal) (s : State) (l : Lane), passes 0xD0300 [.int 2 0 1, .int 2 0 1]
      false t h args sid s = true ∧ (l = if argN args 0 = 0 then .A else .B) ∧ ((bankOf s l (argN args 1)).state = 1 ∨
      (bankOf s l (argN args 1)).state = 2) ∧ (s.fw.boots.get l).trial = false ∧ (s.fw.boots.get l).floor ≤ (bankImg
      (bankOf s l (argN args 1))).rollback ∧ active s = some (otherLane l) ∧ standby s = some l) ∧
    (∃ (t : Nat) (l : Lane) (s : State), (s.fw.boots.get l).trial = true ∧ ((s.lanes.get l).role = .standby ∨
      (s.lanes.get l).role = .active) ∧ (s.lanes.get l).roleSince + getN s 0xD0100 * Config.secCycles ≤ max s.clk.fab
      t ∧ condemned (s.lanes.get l) = false ∧ s.fw.banks.length = 4 ∧ (s.fw.boots.get l).running ≤ 1) ∧
    (∃ (t sid : Nat) (h : Hdr) (args : List TVal) (s : State), passes 0xD0301 [] false t h args sid s = true ∧
      (standby s).isSome = true ∧ runningImg s .A = runningImg s .B ∧ s.fw.boots.a.trial = false ∧ s.fw.boots.b.trial
      = false) ∧
    (∃ (t a : Nat) (s : State), s.fw.commitAt = some a ∧ a ≤ asn (tick t s)) ∧
    (∃ (t sid : Nat) (h : Hdr) (args : List TVal) (s : State), passes 0xD0302 [.octets 16] false t h args sid s =
      true ∧ argB args 0 = fit 16 Config.serial ∧ stagedOther s .A = true ∧ stagedOther s .B = true ∧ (bankOf s .A
      (otherBank s .A)).img = (bankOf s .B (otherBank s .B)).img) ∧
    (∃ (t sid : Nat) (h : Hdr) (args : List TVal) (s : State) (l : Lane), passes 0xD0303 [.int 2 0 1, .int 2 0 1]
      false t h args sid s = true ∧ (l = if argN args 0 = 0 then .A else .B) ∧ (s.fw.boots.get l).trial = false ∧ argN
      args 1 ≠ (s.fw.boots.get l).running ∧ s.fw.banks.length = 4) :=
  ⟨⟨5, 7, hdr 0xD0300, [num 2 1, num 2 1], wStaged, .B, by decide +kernel⟩,
    ⟨400000000 * 700, .B, updBoot .B (fun b => { b with trial := true, running := 1, next := some 1 }) wStaged,
      by decide +kernel⟩,
    ⟨5, 7, hdr 0xD0301, [], wPair, by decide +kernel⟩,
    ⟨5, 0, { wPair with fw := { wPair.fw with commitAt := some 0 } }, by decide +kernel⟩,
    ⟨5, 7, hdr 0xD0302, [oct (fit 16 Config.serial)], updBank .A 1 (fun g =>
      { g with state := 2, img := some wImg }) wStaged, serial_fwRestartAll _ (by simp [fit]), rfl, by decide +kernel,
      by decide +kernel, by decide +kernel⟩,
    ⟨5, 7, hdr 0xD0303, [num 2 1, num 2 1], wStaged, .B, by decide +kernel⟩⟩

/-- What CloseSession asks of its operands and states is met, clause by clause. -/
theorem witness_CloseSession :
    (∃ (t sid : Nat) (h : Hdr) (args : List TVal) (s : State) (y : Session), passes 0x00130 [cU32] false t h args
      sid s = true ∧ mget s.ib.sessions (argN args 0) = some y ∧ (caller t sid s).level < y.level) ∧
    (∃ (t sid : Nat) (h : Hdr) (args : List TVal) (s : State), passes 0x00130 [cU32] false t h args sid s = true ∧
      mget s.ib.sessions (argN args 0) = none) ∧
    (∃ (t sid : Nat) (h : Hdr) (args : List TVal) (s : State) (y : Session), passes 0x00130 [cU32] false t h args
      sid s = true ∧ mget s.ib.sessions (argN args 0) = some y ∧ y.level ≤ (caller t sid s).level ∧ canReach s h.assoc
      = true) ∧
    (∃ (t sid : Nat) (h : Hdr) (args : List TVal) (s : State), passes 0x00130 [cU32] false t h args sid s = true ∧
      argN args 0 = sid ∧ canReach s h.assoc = true) ∧
    (∃ (t sid : Nat) (h : Hdr) (args : List TVal) (s : State) (a : Assoc), passes 0x00130 [cU32] false t h args sid
      s = true ∧ argN args 0 = sid ∧ mget s.ib.assocs h.assoc = some a ∧ a.entry = .service ∧ (active s).isSome = true
      ∧ standby s = none) ∧
    (∃ (t sid : Nat) (h : Hdr) (args : List TVal) (s : State) (a : Assoc), passes 0x00130 [cU32] false t h args sid
      s = true ∧ argN args 0 = sid ∧ mget s.ib.assocs h.assoc = some a ∧ a.entry = .service ∧ (active s).isSome = true
      ∧ (standby s).isSome = true) :=
  ⟨⟨5, 7, hdr 0x00130, [num 4 8],
      { wS2 with ib := { wS2.ib with sessions := [(7, wSess), (8, { wSess with level := 4, assoc := 5 })] } },
      { wSess with level := 4, assoc := 5 }, by decide +kernel⟩,
    ⟨5, 7, hdr 0x00130, [num 4 9], wS2, by decide +kernel⟩,
    ⟨5, 7, hdr 0x00130, [num 4 8], wS2, (mget wS2.ib.sessions 8).getD noSession, by decide +kernel⟩,
    ⟨5, 7, hdr 0x00130, [num 4 7], wS2, by decide +kernel⟩,
    ⟨5, 7, hdr 0x00130, [num 4 7], wSolo, (mget wSolo.ib.assocs 3).getD wAssoc, by decide +kernel⟩,
    ⟨5, 7, hdr 0x00130, [num 4 7], wClosing, (mget wClosing.ib.assocs 3).getD wAssoc, by decide +kernel⟩⟩

/-- What RepliesLeave asks of its operands and states is met, clause by clause. -/
theorem witness_RepliesLeave :
    (∃ (sid : Nat) (h : Hdr) (s : State), arrives 1 false h sid s = true ∧ canReach s h.assoc = true) ∧
    (∃ (sid : Nat) (h : Hdr) (a : Assoc) (x : Session) (s : State), h.size ≤ 1200 ∧ relayBad s h = false ∧ mget
      s.ib.assocs h.assoc = some a ∧ canReach s h.assoc = true ∧ a.session = some sid ∧ mget s.ib.sessions sid = some
      x ∧ h.sid = sid ∧ h.strike = .none ∧ freshSeq x h.seq = true ∧ headerBad 1 false h = true) ∧
    (∃ (sid hi q : Nat) (r : Reply) (h : Hdr) (a : Assoc) (x : Session) (s : State), h.size ≤ 1200 ∧ relayBad s h =
      false ∧ mget s.ib.assocs h.assoc = some a ∧ canReach s h.assoc = true ∧ a.session = some sid ∧ mget
      s.ib.sessions sid = some x ∧ h.sid = sid ∧ x.hi = some hi ∧ seqHigher h.seq hi = false ∧ seqBelow hi h.seq ≤ 63
      ∧ x.cache.find? (fun e => e.1 == h.seq) = some (q, some r) ∧
      (match r.body with | .survey _ _ _ => false | _ => true) = true) ∧
    (∃ (sid hi : Nat) (h : Hdr) (a : Assoc) (x : Session) (s : State), h.size ≤ 1200 ∧ relayBad s h = false ∧ mget
      s.ib.assocs h.assoc = some a ∧ canReach s h.assoc = true ∧ a.session = some sid ∧ mget s.ib.sessions sid = some
      x ∧ h.sid = sid ∧ x.hi = some hi ∧ seqHigher h.seq hi = false ∧ 63 < seqBelow hi h.seq) ∧
    (∃ (sid : Nat) (h : Hdr) (a : Assoc) (x : Session) (s : State), h.size ≤ 1200 ∧ relayBad s h = false ∧ mget
      s.ib.assocs h.assoc = some a ∧ canReach s h.assoc = true ∧ a.session = some sid ∧ mget s.ib.sessions sid = some
      x ∧ h.sid ≠ sid) ∧
    (∃ (h : Hdr) (a : Assoc) (s : State), h.size ≤ 1200 ∧ relayBad s h = false ∧ mget s.ib.assocs h.assoc = some a ∧
      canReach s h.assoc = true ∧ a.session = none) :=
  ⟨⟨7, ahdr 255 1 0x00010, wS, by decide +kernel⟩,
    ⟨7, { ahdr 255 1 0x00010 with flags := 1 }, (mget wS.ib.assocs 3).getD wAssoc, (mget wS.ib.sessions 7).getD
      noSession, wS, by decide +kernel⟩,
    ⟨7, 1, 1, okReply 16, ahdr 255 1 0x00010, (mget wS.ib.assocs 3).getD wAssoc,
      { wSess with hi := some 1, cache := [(1, some (okReply 16))] },
      { wS with ib := { wS.ib with sessions := [(7, { wSess with hi := some 1, cache := [(1, some (okReply 16))] })] } },
      by decide +kernel⟩,
    ⟨7, 100, ahdr 255 1 0x00010, (mget wS.ib.assocs 3).getD wAssoc, { wSess with hi := some 100, cache := [] },
      { wS with ib := { wS.ib with sessions := [(7, { wSess with hi := some 100, cache := [] })] } },
      by decide +kernel⟩,
    ⟨7, { ahdr 255 1 0x00010 with sid := 9 }, (mget wS.ib.assocs 3).getD wAssoc, (mget wS.ib.sessions 7).getD
      noSession, wS, by decide +kernel⟩,
    ⟨{ ahdr 255 1 0x00010 with assoc := 4 }, wAssoc, wS, by decide +kernel⟩⟩

/-- A next state of which a test holds. -/
def nextIs (o : Host.Outcome State Fault Refusal) (p : State → Bool) : Bool :=
  match o with
  | .next u => p u
  | _ => false

/-- Operands wider than the fields that carry them are refused, one ill-formed term for each check (R30, R34, R35, R66, R72). -/
theorem test_illFormed_header :
    (({ hdr 16 with tclass := 256 }).ok || ({ hdr 16 with flags := 256 }).ok || ({ hdr 16 with length := 65536 }).ok
      || ({ hdr 16 with sid := 4294967296 }).ok || ({ hdr 16 with seq := 4294967296 }).ok
      || ({ hdr 16 with handle := 65536 }).ok || ({ hdr 16 with dclass := 256 }).ok || ({ hdr 16 with resend := 256 }).ok
      || ({ hdr 16 with deadline := 4294967296 }).ok || ({ hdr 16 with obj := 4294967296 }).ok
      || ({ hdr 16 with firstRow := 4294967296 }).ok || ({ hdr 16 with rowCount := 65536 }).ok
      || ({ hdr 16 with reserved := 65536 }).ok) = false := by decide +kernel

theorem test_illFormed_values :
    ((num 2 256).ok || (num 2 (-1)).ok || (num 6 32768).ok || (num 7 (-2147483649)).ok || (num 0 1).ok || (num 13 1).ok
      || ({ tag := 2, val := .bytes [] } : TVal).ok || (oct (List.replicate 1169 0)).ok
      || argsOk [num 1 1, num 3 65536] || rowOk [.num (2 ^ 64)] || rowOk [.bytes (List.replicate 1169 0)]
      || rowsOk [(4294967296, [])]) = false := by decide +kernel

theorem test_illFormed_commands :
    (instrOk (.read 0 { hdr 16 with sid := 4294967296 }) || instrOk (.datagramDrop 0 ⟨256, 1, 0, 0⟩ true 100)
      || instrOk (.setup 0 (hdr 0) [1] 60) || instrOk (.write 0 (hdr 16) 256 []) || instrOk (.seqOpen 0 (hdr 0) 4294967296 60)
      || instrOk (.subscribe 0 (hdr 16) 65536 1 0 100) || instrOk (.describe 0 (hdr 16) [num 2 256])
      || instrOk (.joinPendingExpiry 0 [1]) || instrOk (.selectClass 0 ⟨.A, .A2⟩ 256 0 60) || instrOk (.surveyRec 0 1 [])
      || instrOk (.streamOpen 0 wStream [1]) || instrOk (.streamData 0 { wStream with offset := 4294967296 } [])
      || instrOk (.recordSubmit 0 .A .A0 { typ := 1, sev := 8, source := 0, payload := [] }) || instrOk (.eventBurst 0 { wBurst with xcvr := 4 })
      || instrOk (.cellLoadTest 0 0 65536) || instrOk (.inputArrival 0 65536 1 true true)
      || instrOk (.registerWrite 0 .A .A0 4294967296 1) || instrOk (.busErrorRead 0 .A .A0 4294967296)) = false := by decide +kernel

theorem test_stateTransferDone :
    nextIs (execStateTransferDone (5) (.B)
      ({ wS with lanes := { wS.lanes with b := { wS.lanes.b with role := .lagging, resync := .transfer } } })) (fun u
      => decide ((u.lanes.get (otherLane .B)).mem = wS.lanes.a.mem)) = true := by
  decide +kernel

theorem test_dtlsTeardown :
    nextIs (execDtlsTeardown (5) (3) (wS)) (fun u => decide (mget u.ib.assocs (3) = none ∧ mget u.ib.sessions 7 =
      none)) = true := by
  decide +kernel

theorem test_setup :
    nextIs (execSetup (5) ({ ahdr 255 8 0 with sid := 0, seq := 0, assoc := 4 } : Hdr) (List.replicate 16 2) (60)
      (wS)) (fun u => decide ((mget u.ib.assocs ({ ahdr 255 8 0 with sid := 0, seq := 0, assoc := 4 } :
      Hdr).assoc).any (fun b => b.session.isSome))) = true := by
  decide +kernel

theorem test_subscribe :
    nextIs (execSubscribe (5) (ahdr 255 7 0x00010) (0) (1) (0) (100) (wS)) (fun u => decide (u.ib.subs.length = 1 ∧
      (u.ib.subs.all (fun p => p.2.obj == 16)) = true)) = true := by
  decide +kernel

theorem test_read :
    nextIs (execRead (5) (ahdr 255 1 0x00010) (wS)) (fun u => decide (replyFor u (7) (ahdr 255 1 0x00010).seq = some
      { okReply (ahdr 255 1 0x00010).obj with body := .raw [3, 0, 1] })) = true := by
  decide +kernel

theorem test_read_2 :
    nextIs (execRead (5) ({ ahdr 255 1 0x00111 with firstRow := 0, rowCount := 2 } : Hdr) (wS)) (fun u => decide
      ((replyFor u (7) ({ ahdr 255 1 0x00111 with firstRow := 0, rowCount := 2 } : Hdr).seq).isSome = true)) = true := by
  decide +kernel

theorem test_write :
    nextIs (execWrite (5) ({ ahdr 255 2 0xB0100 with firstRow := 0 } : Hdr) (15) [((0), [.num ((3) : Int)])]
      ({ wS with dict := { wS.dict with sticky := 5 } })) (fun u => decide (u.dict.sticky = 4)) = true := by
  decide +kernel

theorem test_seqOpen :
    nextIs (execSeqOpen (5) (ahdr 255 4 0) (5) (0) (wS)) (fun u => decide ((u.ib.seqs.map (fun p => p.2.groups)) =
      [[0, 2]])) = true := by
  decide +kernel

theorem test_survey :
    nextIs (execSurvey (5) (hdr 0x00100) ([num 2 0, num 12 0, num 12 0]) (wS)) (fun u => decide ((mget
      u.ib.snapPending 1).isSome = true)) = true := by
  decide +kernel

theorem test_survey_2 :
    nextIs (execSurvey (5) (ahdr 0 3 0x00100) ([num 2 1, num 12 0, num 12 1]) (wMaster)) (fun u => decide
      (u.ib.surveys.length = 1)) = true := by
  decide +kernel

theorem test_surveySnap :
    nextIs (execSurveySnap (5) (9) (wMember)) (fun u => decide ((mget u.ib.snapPending (9)).isSome = true)) = true := by
  decide +kernel

theorem test_lightSet :
    nextIs (execLightSet (5) (nhdr 0x60200) (wDesc ++ [num 2 1, num 2 50, num 2 0, num 3 100]) (wNode)) (fun u =>
      decide (u.adm.tickets.length = 1 ∧ (replyFor u (7) (nhdr 0x60200).seq).map (fun r => r.status) = some 0)) = true := by
  decide +kernel

theorem test_lightResume :
    nextIs (execLightResume (5) (nhdr 0x60201) (wDesc ++ [num 2 1]) (wNode)) (fun u => decide (u.adm.tickets.length
      = 1 ∧ (replyFor u (7) (nhdr 0x60201).seq).map (fun r => r.status) = some 0)) = true := by
  decide +kernel

theorem test_nodeFunc :
    nextIs (execNodeFunc (5) (nhdr 0x60202) (wDesc ++ [num 3 2, num 2 5, oct []]) (wNode)) (fun u => decide
      (u.adm.tickets.length = 1 ∧ (replyFor u (7) (nhdr 0x60202).seq).map (fun r => r.status) = some 0)) = true := by
  decide +kernel

theorem test_epochStage :
    nextIs (execEpochStage (5) ({ nhdr 0x60301 with dclass := 3 } : Hdr) (wDesc ++ [num 2 1]) (wNodeEp)) (fun u =>
      decide (u.adm.tickets.length = 1 ∧ (replyFor u (7) ({ nhdr 0x60301 with dclass := 3 } : Hdr).seq).map (fun r =>
      r.status) = some 0)) = true := by
  decide +kernel

theorem test_imageBlock :
    nextIs (execImageBlock (5) ({ nhdr 0x60410 with dclass := 4, deadline := 600000 } : Hdr) (wDesc ++ [num 4 9, num
      3 0]) (wNodeImg)) (fun u => decide (u.adm.tickets.length = 1 ∧ (replyFor u (7)
      ({ nhdr 0x60410 with dclass := 4, deadline := 600000 } : Hdr).seq).map (fun r => r.status) = some 0)) = true := by
  decide +kernel

theorem test_compPop :
    nextIs (execCompPop (5) ⟨(.A), (.A2)⟩ (wPort { PortHalf.init with pending := [[1, 2]], compBuf := 0xA0000000 }))
      (fun u => decide ((halfOf .A u .A2).pending = [] ∧ memRead u.lanes.a.mem 0xA0000001 = 2)) = true := by
  decide +kernel

theorem test_subGo :
    nextIs (execSubGo (5) ⟨(.A), (.A2)⟩ (wMod 1 (wPort
      { PortHalf.init with obj := 0x60201, dclass := 2, deadline := 60000, len := 10, arg := [11, 1, 3, 0, 1, 3, 0, 0, 2, 1] ++ List.replicate 1014 0 })))
      (fun u => decide ((halfOf (.A) u (.A2)).done = true ∧ (halfOf (.A) u (.A2)).busy = false ∧ (halfOf (.A) u
      (.A2)).status = 0)) = true := by
  decide +kernel

theorem test_histCopyDone :
    nextIs (execHistCopyDone (5) ⟨(.A), (.A2)⟩ (setCopy .A .A2 (some
      { kind := 0, first := 0, rows := 1, dest := 0xA0000000 }) wS)) (fun u => decide (copyOf .A u .A2 = none ∧
      (halfOf .A u .A2).done = true)) = true := by
  decide +kernel

theorem test_slotPosition :
    nextIs (execSlotPosition (0) (0) (wRadio)) (fun u => decide (u.out.length = 1)) = true := by
  decide +kernel

theorem test_slotPosition_2 :
    nextIs (execSlotPosition (2000000 * 3) (0) (wBooked)) (fun u => decide (u.out.length = 1)) = true := by
  decide +kernel

theorem test_superframeBoundary :
    nextIs (execSuperframeBoundary (512000000) (wBooked)) (fun u => decide (u.mac.lastFrame = 1 ∧ u.adm.bookings =
      [])) = true := by
  decide +kernel

theorem test_echoInsert :
    nextIs (execEchoInsert (2000000 * 200) (2) (wRadio)) (fun u => decide ((clOf u 2).duePri = true)) = true := by
  decide +kernel

theorem test_joinSig :
    nextIs (execJoinSig (5) (0) (List.replicate 8 7) ([1]) (254) true (updMac (fun m => { m with joins := [wJoin] })
      wRadio)) (fun u => decide (u.mac.joins.map (fun k => (k.node, k.parts)) = [(some 5, [(4, 0), (4, 1), (4, 2), (5,
      0), (5, 1)])])) = true := by
  decide +kernel

theorem test_epochSwitch :
    nextIs (execEpochSwitch (512000000 * 4) (updEp (fun p => { p with state := 2, next := 1, switchAsn := 1024 })
      wRadio)) (fun u => decide (u.epoch.inForce = 1 ∧ u.epoch.state = 3)) = true := by
  decide +kernel

theorem test_midpointRefresh :
    nextIs (execMidpointRefresh (400000000 * 100) (0) (wVert [] [(0, { wTrack .confirmed with frames := [wFr] })]))
      (fun u => decide ((trackOf u 0).frames = [])) = true := by
  decide +kernel

theorem test_handoff :
    nextIs (execHandoff (5) (wHand) (wBoundS)) (fun u => decide (u.trk.answered = [(1, 4, 0, 0)] ∧ (trackOf u
      0).fromTrack = 2)) = true := by
  decide +kernel

theorem test_handoffRetry :
    nextIs (execHandoffRetry (400000000) (4) (updTrk (fun x =>
      { x with tracks := [(0, { wHoTrack with handoff := some { hseq := 4, tries := 2, at_ := 0, vertex := 9, dist := 100 } })] })
      wHoS)) (fun u => decide ((trackOf u (0)).handoff = some
      { ({ hseq := 4, tries := 2, at_ := 0, vertex := 9, dist := 100 } : Handing) with tries := 3, at_ := (400000000) }))
      = true := by
  decide +kernel

theorem test_classApply :
    nextIs (execClassApply (512000000) (1) (putRow 0x70140 1 [.num 5, .num 0] (updTrk (fun k =>
      { k with zones := [(1, { Zone.init with change := some 256 })] }) wS))) (fun u => decide ((zoneOf u 1).cls = 5 ∧
      (zoneOf u 1).source = 3)) = true := by
  decide +kernel

theorem test_classApply_2 :
    nextIs (execClassApply (512000000) (1) (updTrk (fun k =>
      { k with zones := [(1, { Zone.init with policyChange := some 256, policy := some (3, 600 * 400000000, 0) })] })
      wS)) (fun u => decide ((zoneOf u 1).cls = 3 ∧ (zoneOf u 1).source = 2)) = true := by
  decide +kernel

theorem test_adaptiveClassChange :
    nextIs (execAdaptiveClassChange (3600 * 400000000) (wS)) (fun u => decide (u.trk.adaptHour = civilHour (tick
      (3600 * 400000000) (wS)))) = true := by
  decide +kernel

theorem test_histClear :
    nextIs (execHistClear (5) (ahdr 255 3 0x70210) ([num 2 255]) (wS)) (fun u => decide (getN u 0x70201 = 0)) = true := by
  decide +kernel

theorem test_measurementPeriodEnd :
    nextIs (execMeasurementPeriodEnd (5) (wSmp) (wSmp) (updMet (fun m => { m with due := true }) wS)) (fun u =>
      decide (u.met.due = false ∧ u.met.lanes.b.wave = List.replicate 11 [])) = true := by
  decide +kernel

theorem test_periodicSave :
    nextIs (execPeriodicSave (5) (wSmp) (wSmp) (wS)) (fun u => decide (u.met.saveSeq = 1 ∧ (mget u.met.lanes.b.ring
      1).map (fun x => (x.seq, x.final)) = some (1, false))) = true := by
  decide +kernel

theorem test_finalSaveRepeat :
    nextIs (execFinalSaveRepeat (2000000) (wSmp) (wSmp) (updPower (fun p => { p with warning := true }) wS)) (fun u
      => decide (u.met.saveSeq = 1)) = true := by
  decide +kernel

theorem test_calMeasure :
    nextIs (execCalMeasure (5) ({ ahdr 255 3 0x80210 with handle := 1 } : Hdr) ([num 2 1, num 11 0, num 4 0, num 4
      0, num 6 0, num 2 5]) (wCal)) (fun u => decide (u.met.cal.map (fun j => (j.ends, j.handle)) = some (2000000005,
      1))) = true := by
  decide +kernel

theorem test_ledControlTick :
    nextIs (execLedControlTick (40000000) ([{ current := 1, volts := 2, tap := [], pad := 250 }]) (wS)) (fun u =>
      decide (u.led.ctrlAt = 40000000 ∧ u.led.cap ≤ 1000000 ∧ (strOf u 1).rt ≤ 1000000)) = true := by
  decide +kernel

theorem test_bypassClamp :
    nextIs (execBypassClamp (5) (1) (23) (16001) (wS)) (fun u => decide ((strOf u 1).faulty = BitVec.twoPow 24 23 ∧
      strOf u 0 = strOf wS 0)) = true := by
  decide +kernel

theorem test_flsStart :
    nextIs (execFlsStart (5) (ahdr 255 3 0x90210) ([num 2 1]) (putRow 0x90200 1 [.num 3, .num 0, .bytes
      (List.replicate 256 0)] wS)) (fun u => decide ((engOf .A u 1).state = 1 ∧ (engOf .A u 1).own = 3)) = true := by
  decide +kernel

theorem test_flsStart_2 :
    nextIs (execFlsStart (5) (ahdr 255 3 0x90210) ([num 2 1]) (wS)) (fun u => decide (u.lanes.a.engines =
      (wS).lanes.a.engines ∧ (replyFor u (7) (ahdr 255 3 0x90210).seq).map (fun r => r.status) = some stRange)) = true := by
  decide +kernel

theorem test_flsStop :
    nextIs (execFlsStop (5) (ahdr 255 3 0x90211) ([num 2 1]) (updEng .A 1 (fun e => { e with state := 1 }) wS)) (fun
      u => decide ((engOf .A u 1).state = 0)) = true := by
  decide +kernel

theorem test_flsTrigger :
    nextIs (execFlsTrigger (5) (ahdr 255 3 0x90212) ([num 2 1, num 2 5]) (wS)) (fun u => decide ((engOf .A u 1).trig
      = 5)) = true := by
  decide +kernel

theorem test_flsCtrlStart :
    nextIs (execFlsCtrlStart (5) (.A) (.A1) (1) (3) (wS)) (fun u => decide ((engOf .A u 1).state = 1)) = true := by
  decide +kernel

theorem test_flsProgWrite :
    nextIs (execFlsProgWrite (5) (.A) (.A1) (1) (63) (7) (wS)) (fun u => decide ((engOf .A u 1).prog[63]? = some 7 ∧
      (engOf .A u 1).prog[0]? = some 0)) = true := by
  decide +kernel

theorem test_flowstoneTick :
    nextIs (execFlowstoneTick (5) (updLed (fun d => { d with second := 9 }) (updEng .A 1 (fun e =>
      { e with state := 1 }) wS))) (fun u => decide (u.led.tickAt = 9000 ∧ (engOf .A u 1).state = 0)) = true := by
  decide +kernel

theorem test_outputReleaseTimeout :
    nextIs (execOutputReleaseTimeout (800000) (4) (updLp (fun p => { p with waiting := [(4, 0, .handshake 1)] })
      wPair)) (fun u => decide (((4, 0, .handshake 1)).2.2 ∈ u.out)) = true := by
  decide +kernel

theorem test_eccError :
    nextIs (execEccError (5) (.A) false (wPair)) (fun u => decide (u.lp.switch = some
      { target := .B, cause := 4, applyAsn := 1 } ∧ u.lanes.a.cause = .uncorrectable)) = true := by
  decide +kernel

theorem test_coreCheckerFire :
    nextIs (execCoreCheckerFire (5) (.B) (.A0) (wPair)) (fun u => decide (u.lanes.b.role = .undecided)) = true := by
  decide +kernel

theorem test_laneWatchdogExpiry :
    nextIs (execLaneWatchdogExpiry (5) (.A) (.M0) (wS)) (fun u => decide (u.lanes.a.cause = .watchdog ∧
      u.lanes.a.role = .active ∧ u.dict.live.getLsbD 162 = true)) = true := by
  decide +kernel

theorem test_coilSupplyReturn :
    nextIs (execCoilSupplyReturn (5) (160) (updOut 2 (fun o => { o with cmd := true }) (wPow (fun p =>
      { p with coil := false }) wS))) (fun u => decide (u.power.coil = true ∧ (outOf u 2).pin = true ∧ (outOf u 1).pin
      = false)) = true := by
  decide +kernel

theorem test_cellLoadTest :
    nextIs (execCellLoadTest (5) (1) (2900) (wS)) (fun u => decide (getC u 0x00410 1 1 = 2900)) = true := by
  decide +kernel

theorem test_vbdRecovery :
    nextIs (execVbdRecovery (5) (wDip 0)) (fun u => decide (u.power.dip = none ∧ getC u 0x00411 0 3 = 1)) = true := by
  decide +kernel

theorem test_outputSet :
    nextIs (execOutputSet (5) (ahdr 255 3 0x00500) ([num 2 5, num 2 1]) (updOut 0 (fun o =>
      { o with tripped := true }) wS)) (fun u => decide ((outOf u 0).cmd = true ∧ (outOf u 0).tripped = false ∧ (outOf
      u 2).cmd = false)) = true := by
  decide +kernel

theorem test_outputTrip :
    nextIs (execOutputTrip (5) (2) (900) (240) (updOut 2 (fun o => { o with pin := true, cmd := true }) wS)) (fun u
      => decide ((outOf u 2).pin = false ∧ (outOf u 2).tripped = true ∧ outOf u 1 = outOf wS 1)) = true := by
  decide +kernel

theorem test_diEdge :
    nextIs (execDiEdge (5) (3) (true) (wS)) (fun u => decide (u.io.inputs.getLsbD 3 = true ∧ u.io.inputs.getLsbD 2 =
      false)) = true := by
  decide +kernel

theorem test_passThrough :
    nextIs (execPassThrough (5) (0) ({ wTf with dst := 2 } : TrunkFrame) (wRing1)) (fun u => decide (u.out.any (fun
      o => match o with | .trunk 1 g .passed _ => g.dst == 2 && g.hops == 4 && g.src == 0 | _ => false) = true)) =
      true := by
  decide +kernel

theorem test_dcreditSend :
    nextIs (execDcreditSend (4000000) (2) (wRing1)) (fun u => decide ((srcOf u 2).held = [0, 0, 0] ∧ (srcOf u
      2).sentAt = 4000000)) = true := by
  decide +kernel

theorem test_vaultOpDone :
    nextIs (execVaultOpDone (5) (.A) (true) (wVault (fun v =>
      { v with busy := some (.sign, .A0), handles := [(4, [1])], handle := 4 }))) (fun u => decide ((vaultOf u
      .A).busy = none ∧ (vaultOf u .A).outLen = 96)) = true := by
  decide +kernel

theorem test_escrowExport :
    nextIs (execEscrowExport (5) (hdr 0x10141) ([]) (putRow 0x10140 0 [.bytes (List.replicate 97 1)] wOwn)) (fun u
      => decide ((replyFor u (7) (hdr 0x10141).seq).isSome)) = true := by
  decide +kernel

theorem test_semaphoreRelease :
    nextIs (execSemaphoreRelease (5) (.A) (.A0) (40) (updLane .A (fun x => { x with sems := lset x.sems 40 1 })
      wPair)) (fun u => decide (lget u.lanes.a.sems 40 0 = 0)) = true := by
  decide +kernel

theorem test_sumpWordArrival :
    nextIs (execSumpWordArrival (5) (.A) (9) (7) (true) (0) (wPair)) (fun u => decide ((sumpOf u.lanes.a
      9).words.length = 1)) = true := by
  decide +kernel

theorem test_registerWrite :
    nextIs (execRegisterWrite (5) (.A) (.A0) (0x10000000) (0x01020304) (wPair)) (fun u => decide (memRead
      u.lanes.a.mem 0x10000000 = 4 ∧ memRead u.lanes.a.mem 0x10000003 = 1)) = true := by
  decide +kernel

theorem test_closeSession :
    nextIs (execCloseSession (5) (hdr 0x00130) ([num 4 7]) (wS2)) (fun u => decide ((mget u.ib.sessions 7).isNone =
      true)) = true := by
  decide +kernel

theorem test_closeSession_2 :
    nextIs (execCloseSession (5) (hdr 0x00130) ([num 4 7]) (wSolo)) (fun u => decide ((mget u.ib.sessions 7).isNone
      = true)) = true := by
  decide +kernel


end Sys2Proof.Tests
end

section
/-!
PROOFS. What the closing of a step can add to a state: it sends notices, and sending changes nothing of a lane but its
counters and takes nothing back that was sent.
-/
namespace Sys2Proof.Machine

open Sys2Proof.Safety

@[simp] theorem Pair.get_upd_same {α : Type} (p : Pair α) (l : Lane) (f : α → α) : (p.upd l f).get l = f (p.get l) := by
  cases l <;> rfl

@[simp] theorem Pair.get_upd_other {α : Type} (p : Pair α) (l : Lane) (f : α → α) :
    (p.upd l f).get (otherLane l) = p.get (otherLane l) := by
  cases l <;> rfl

@[simp] theorem updLane_lanes (l : Lane) (f : LaneSt → LaneSt) (s : State) : (updLane l f s).lanes = s.lanes.upd l f := rfl

/-- From `s` to `u` things were sent and nothing else that a core sees: the lanes differ in their counters only, whatever
was sent stays sent, and neither the dictionary nor the pins move. -/
structure OnlySends (s u : State) : Prop where
  lanes : ∀ l, u.lanes.get l = { s.lanes.get l with cnt := (u.lanes.get l).cnt }
  sent : ∀ o, Sent s o → Sent u o
  dict : u.dict = s.dict
  io : u.io = s.io

namespace OnlySends

theorem of_eq {s u : State} (hl : u.lanes = s.lanes) (hp : u.lp = s.lp) (ho : u.out = s.out) (hd : u.dict = s.dict)
    (hi : u.io = s.io) : OnlySends s u :=
  ⟨fun l => by rw [hl], fun o h => by rwa [Sent, ho, hp], hd, hi⟩

theorem refl (s : State) : OnlySends s s := of_eq rfl rfl rfl rfl rfl

theorem trans {s v u : State} (h : OnlySends s v) (k : OnlySends v u) : OnlySends s u where
  lanes l := (k.lanes l).trans (by rw [h.lanes l])
  sent o ho := k.sent o (h.sent o ho)
  dict := k.dict.trans h.dict
  io := k.io.trans h.io

/-- Sending changes no word of a lane's memory. -/
theorem mem {s u : State} (h : OnlySends s u) (l : Lane) : (u.lanes.get l).mem = (s.lanes.get l).mem := by rw [h.lanes l]

theorem foldl {β : Type} {f : State → β → State} (hf : ∀ s b, OnlySends s (f s b)) (l : List β) (s : State) :
    OnlySends s (l.foldl f s) := by
  induction l generalizing s with
  | nil => exact refl s
  | cons b r ih => exact (hf s b).trans (ih (f s b))

end OnlySends

theorem cntLane_onlySends (l : Lane) (n r c k : Nat) (s : State) : OnlySends s (cntLane l n r c k s) where
  lanes j := by cases l <;> cases j <;> rfl
  sent _ h := h
  dict := rfl
  io := rfl

theorem cntUpAt_onlySends (n r c k : Nat) (s : State) : OnlySends s (cntUpAt n r c k s) := by
  have counted (b : Bool) (l : Lane) (s : State) : OnlySends s (if b then cntLane l n r c k s else s) := by
    split
    · exact cntLane_onlySends ..
    · exact .refl s
  exact .trans (counted _ .A s) (counted _ .B _)

theorem leave_onlySends (o : Out) (s : State) : OnlySends s (leave o s) := by
  unfold leave
  split
  · refine .trans ?_ (cntUpAt_onlySends ..)
    exact ⟨fun _ => rfl, fun _ h => h.imp_left (List.mem_cons_of_mem _), rfl, rfl⟩
  · exact ⟨fun _ => rfl, fun _ h => h.imp_left (List.mem_cons_of_mem _), rfl, rfl⟩

theorem emit_onlySends (o : Out) (s : State) : OnlySends s (emit o s) := by
  unfold emit
  split
  · split
    · exact .refl s
    · dsimp only
      split
      · refine ⟨fun _ => rfl, fun x h => h.imp_right fun hx => ?_, rfl, rfl⟩
        simpa using Or.inl hx
      · refine .trans ?_ (leave_onlySends ..)
        exact ⟨fun _ => rfl, fun _ h => h, rfl, rfl⟩
  · exact ⟨fun _ => rfl, fun _ h => h.imp_left (List.mem_cons_of_mem _), rfl, rfl⟩

theorem imageLeft_onlySends (m : TMsg) (s : State) : OnlySends s (imageLeft m s) := by
  unfold imageLeft
  split
  · split
    · exact .refl s
    · exact emit_onlySends ..
  · exact .refl s

theorem sendNow_onlySends (p dst cls : Nat) (m : TMsg) (s : State) : OnlySends s (sendNow p dst cls m s) := by
  refine .trans (.of_eq ?_ ?_ ?_ ?_ ?_) ((emit_onlySends ..).trans (imageLeft_onlySends m _)) <;> simp

theorem trunkSend_onlySends (dst cls : Nat) (m : TMsg) (s : State) : OnlySends s (trunkSend dst cls m s) := by
  unfold trunkSend
  split
  · exact cntUpAt_onlySends ..
  · split
    · split
      · exact .of_eq rfl rfl rfl rfl rfl
      · exact sendNow_onlySends ..
    · exact .of_eq rfl rfl rfl rfl rfl

theorem sendIb_onlySends (aid tclass : Nat) (m : IbMsg) (s : State) : OnlySends s (sendIb aid tclass m s) := by
  unfold sendIb
  split
  · dsimp only
    split
    · refine .trans ?_ (emit_onlySends ..)
      exact .of_eq rfl rfl rfl rfl rfl
    · refine .trans ?_ (trunkSend_onlySends ..)
      exact .of_eq rfl rfl rfl rfl rfl
  · exact .refl s

theorem sendNotice_onlySends (id : Nat) (b : Sub) (flags changes time obj : Nat) (body : Body) (urgent : Bool) (s : State) :
    OnlySends s (sendNotice id b flags changes time obj body urgent s) := by
  unfold sendNotice
  split
  · exact .refl s
  · refine .trans (.trans ?_ (cntUpAt_onlySends ..)) (sendIb_onlySends ..)
    exact .of_eq rfl rfl rfl rfl rfl

theorem flushSub_onlySends (id : Nat) (s : State) : OnlySends s (flushSub id s) := by
  unfold flushSub
  split
  · exact .refl s
  · split
    · exact .refl s
    · exact (sendNotice_onlySends ..).trans (.of_eq rfl rfl rfl rfl rfl)

theorem settleSub_onlySends (s s' acc : State) (p : Nat × Sub) : OnlySends acc (settleSub s s' acc p) := by
  unfold settleSub
  split
  · dsimp only
    split
    · exact .refl acc
    · split
      · split
        · refine .trans ?_ (flushSub_onlySends ..)
          exact .of_eq rfl rfl rfl rfl rfl
        · exact .of_eq rfl rfl rfl rfl rfl
      · exact .of_eq rfl rfl rfl rfl rfl
  · exact .refl acc

theorem settle_onlySends (s s' : State) : OnlySends s' (settle s s') := by
  unfold settle
  split
  · exact .foldl (settleSub_onlySends s s') _ _
  · exact .refl s'

/-- A command whose meaning closes with `v` runs; what only sending keeps of `v` holds of its next state. -/
theorem runs_of_done {c : Instr} {s s0 v : State} {P : State → Prop} (he : exec c s = done s0 v)
    (hP : ∀ u, OnlySends v u → P u) : Runs c s P :=
  ⟨_, he, hP _ ((settle_onlySends _ v).trans (.of_eq rfl rfl rfl rfl rfl))⟩

/-- A command that runs to a state of which more is known. -/
theorem runs_mono {c : Instr} {s : State} {P Q : State → Prop} (h : Runs c s P) (k : ∀ u, P u → Q u) : Runs c s Q :=
  let ⟨u, he, hu⟩ := h
  ⟨u, he, k u hu⟩

end Sys2Proof.Machine
end

section
/-!
PROOFS. What a core's access to its lane's memory map does (R9, R13, R22, R23): the answers and bus errors, the words of the
lane memory, the regions of the map, the two commands, and LaneMemory from them.
-/
namespace Sys2Proof.Machine

open Sys2Proof.Safety

/-! ### Answers and bus errors -/

/-- The answer to a read leaves at once: the comparison of outputs is for those that leave the module (R280, R283). -/
theorem giveReg_sent (l : Lane) (c : Core) (a v : Nat) (s : State) :
    Sent (giveReg l c a v s) (.regData l c a (BitVec.ofNat 32 v)) := .inl (List.mem_cons_self ..)

/-- A bus error is answered at once, whatever it counts or marks before. -/
theorem emit_busError (l : Lane) (c : Core) (a : Nat) (s : State) :
    emit (.busError l c a) s = { s with out := .busError l c a :: s.out } := rfl

@[simp] theorem busErr_lanes (l : Lane) (c : Core) (a : Nat) (fence : Bool) (s : State) :
    (busErr l c a fence s).lanes = s.lanes := by
  simp only [busErr, emit_busError]
  split <;> simp

theorem busErr_sent (l : Lane) (c : Core) (a : Nat) (fence : Bool) (s : State) :
    Sent (busErr l c a fence s) (.busError l c a) := .inl (List.mem_cons_self ..)

/-- A sticky bit that is set reads 1. -/
theorem stickySet_getLsbD_same {bit : Nat} (h : bit < 256) (detail : Nat) (s : State) :
    (stickySet bit detail s).dict.sticky.getLsbD bit = true := by
  have e : (stickySet bit detail s).dict.sticky = s.dict.sticky ||| BitVec.twoPow 256 bit := rfl
  simp [e, h]

/-- A policy core's access beyond its regions sets POLICY_FENCE (R23). -/
theorem busErr_fence {c : Core} (hc : isPolicy c = true) (l : Lane) (a : Nat) (s : State) :
    (busErr l c a true s).dict.sticky.getLsbD 114 = true := by
  simp only [busErr, hc, Bool.and_self, if_true, emit_frame]
  exact stickySet_getLsbD_same (by decide) _ _

/-! ### Words of the lane memory -/

/-- A written word stands at its four bytes, least significant first (R9). -/
theorem memRead_memWrite32_word {m : List Host.Cell} (h : Memory.wf m = true) (a : Nat) (w : Word32) {k : Nat} (hk : k < 4) :
    memRead (memWrite32 m a w) (a + k) = w.extractLsb' (8 * k) 8 := by
  have h1 := memWrite_wf m a (w.extractLsb' 0 8) h
  have h2 := memWrite_wf _ (a + 1) (w.extractLsb' 8 8) h1
  have h3 := memWrite_wf _ (a + 2) (w.extractLsb' 16 8) h2
  unfold memWrite32
  match k, hk with
  | 0, _ =>
    rw [memRead_memWrite_ne _ _ _ _ (by omega), memRead_memWrite_ne _ _ _ _ (by omega),
      memRead_memWrite_ne _ _ _ _ (by omega)]
    exact memRead_memWrite_same m a _ h
  | 1, _ =>
    rw [memRead_memWrite_ne _ _ _ _ (by omega), memRead_memWrite_ne _ _ _ _ (by omega)]
    exact memRead_memWrite_same _ _ _ h1
  | 2, _ =>
    rw [memRead_memWrite_ne _ _ _ _ (by omega)]
    exact memRead_memWrite_same _ _ _ h2
  | 3, _ => exact memRead_memWrite_same _ _ _ h3

/-- A word write leaves every byte outside the word alone. -/
theorem memRead_memWrite32_outside (m : List Host.Cell) {a b : Nat} (w : Word32) (h : b < a ∨ a + 4 ≤ b) :
    memRead (memWrite32 m a w) b = memRead m b := by
  unfold memWrite32
  rw [memRead_memWrite_ne _ _ _ _ (by omega), memRead_memWrite_ne _ _ _ _ (by omega),
    memRead_memWrite_ne _ _ _ _ (by omega), memRead_memWrite_ne _ _ _ _ (by omega)]

/-! ### The regions of the map -/

/-- What a core may reach with a whole word: a policy core its regions only, at the word's first and last byte (R23). -/
abbrev reachesWord (c : Core) (a : Nat) (write : Bool) : Prop :=
  isPolicy c = false ∨ (policyReaches c a write = true ∧ policyReaches c (a + 3) write = true)

theorem inRam_below {a : Nat} (h : inRam a = true) : a < 4294967296 := by
  simp only [inRam, Bool.or_eq_true, decide_eq_true_eq] at h
  omega

/-- No RAM from 40E0_0000h to 7FFF_FFFFh: there the word would begin beyond the SRAM and before the LPDDR4X. -/
theorem inRam_hole {a : Nat} (lo : 0x40E00000 ≤ a) (hi : a < 0x80000000) : inRam a = false := by
  simp only [inRam, Bool.or_eq_false_iff, decide_eq_false_iff_not]
  omega

/-- No plain value stands in the hole: a write there is not kept for the order of R24. -/
theorem holdsValue_hole {a : Nat} (lo : 0x40E00000 ≤ a) (hi : a < 0x80000000) : holdsValue a = false := by
  simp (disch := omega) only [holdsValue, inRam_hole lo hi, decide_eq_false, Bool.false_and, Bool.or_false]

theorem regRead_fenced {c : Core} {a : Nat} (hc : isPolicy c = true) (hr : policyReaches c a false = false) (l : Lane)
    (s : State) : regRead l c a s = busErr l c a true s := by
  simp [regRead, hc, hr]

theorem regWrite_fenced {c : Core} {a : Nat} (hc : isPolicy c = true) (hr : policyReaches c a true = false) (l : Lane)
    (w : Word32) (s : State) : regWrite l c a w s = busErr l c a true s := by
  simp [regWrite, hc, hr]

/-- The fence of R23 lets a word through that the core reaches. -/
theorem fence_open {c : Core} {a : Nat} {write : Bool} (h : reachesWord c a write) :
    (isPolicy c && !(policyReaches c a write && (a % 4 == 0 || policyReaches c (a + 3) write))) = false := by
  rcases h with h | ⟨h, h3⟩
  · simp [h]
  · simp [h, h3]

theorem regRead_ram {c : Core} {a : Nat} (hm : inRam a = true) (hr : reachesWord c a false) (l : Lane) (s : State) :
    regRead l c a s = giveReg l c a (memRead32 (s.lanes.get l).mem a).toNat s := by
  simp only [regRead, fence_open hr, hm, Bool.false_eq_true, if_false, if_true]

/-- A word in the hole is read with a bus error, by a policy core as by another. -/
theorem regRead_hole {a : Nat} (lo : 0x40E00000 ≤ a) (hi : a < 0x80000000) (l : Lane) (c : Core) (s : State) :
    ∃ fence, regRead l c a s = busErr l c a fence s := by
  simp (disch := omega) only [regRead, inRam_hole lo hi, if_neg, Bool.false_eq_true, if_false]
  split
  · exact ⟨true, rfl⟩
  · exact ⟨false, rfl⟩

/-- A word in the hole is written with a bus error, by a policy core as by another. -/
theorem regWrite_hole {a : Nat} (lo : 0x40E00000 ≤ a) (hi : a < 0x80000000) (l : Lane) (c : Core) (w : Word32) (s : State) :
    ∃ fence, regWrite l c a w s = busErr l c a fence s := by
  simp (disch := omega) only [regWrite, inRam_hole lo hi, if_neg, Bool.false_eq_true, if_false]
  split
  · exact ⟨true, rfl⟩
  · exact ⟨false, rfl⟩

/-- A write to RAM, or to an area of MRAM that the core may write, is carried out (R13, R22); MRAM remembers the address. -/
theorem regWrite_memory {c : Core} {a : Nat}
    (hm : inRam a = true ∨ (0x20000000 ≤ a ∧ a < 0x20E0FFFD ∧ mramBarred c a true = false)) (hr : reachesWord c a true)
    (l : Lane) (w : Word32) (s : State) :
    ∃ wrote, regWrite l c a w s = updLane l (fun x => { x with mem := memWrite32 x.mem a w, wrote := wrote }) s := by
  by_cases hram : inRam a = true
  · refine ⟨(s.lanes.get l).wrote, ?_⟩
    simp only [regWrite, fence_open hr, hram, Bool.false_eq_true, if_false, if_true]
    cases l <;> rfl
  · obtain ⟨lo, hi, hb⟩ := hm.resolve_left hram
    refine ⟨insertNat a (s.lanes.get l).wrote, ?_⟩
    simp (disch := omega) only [regWrite, fence_open hr, hram, hb, if_pos, if_neg, Bool.false_eq_true, if_false]
    cases l <;> rfl

/-- LANE_ID is read-only: a runtime core's write of it is ignored (log entry 37). -/
theorem regWrite_laneId {c : Core} (hc : isPolicy c = false) (l : Lane) (w : Word32) (s : State) :
    regWrite l c 0x40000000 w s = s := by
  simp [regWrite, hc, inRam]

/-- THRESHOLD of targets 0 to 5 takes the low four bits (R404). -/
theorem icuWrite_threshold {tn : Nat} (h : tn < 6) (l : Lane) (c : Core) (v : Nat) (s : State) :
    icuWrite l c (0x1000 + tn * 256) v s = updIcu l (modTarget tn (fun x => { x with threshold := v % 16 })) s := by
  have hn : (0x1000 + tn * 256 - 0x1000) / 256 = tn := by omega
  simp (disch := omega) only [icuWrite, icuWriteEff, hn, if_pos, if_neg]

theorem regWrite_threshold {c : Core} (hc : isPolicy c = false) {tn : Nat} (h : tn < 6) (l : Lane) (w : Word32) (s : State) :
    regWrite l c (0x40101000 + tn * 256) w s =
      updIcu l (modTarget tn (fun x => { x with threshold := w.toNat % 16 })) s := by
  have hram : inRam (0x40101000 + tn * 256) = false := by
    simp only [inRam, Bool.or_eq_false_iff, decide_eq_false_iff_not]
    omega
  have hoff : 0x40101000 + tn * 256 - 0x40100000 = 0x1000 + tn * 256 := by omega
  simp (disch := omega) only [regWrite, hc, hram, hoff, icuWrite_threshold h, if_pos, if_neg, Bool.false_and,
    Bool.false_eq_true, if_false]

/-! ### The commands -/

/-- Where no other write of the cycle goes to a plain value's address, the order of R24 adds nothing to a write but the note
of it. -/
theorem coreWrite_alone {l : Lane} {c : Core} {a : Nat} {s : State} (w : Word32)
    (h : holdsValue a = true → (s.lanes.get l).writes.any (fun x => x.1 == s.clk.fab && x.2.2.1 == a) = false) :
    ∃ writes, coreWrite l c a w s = updLane l (fun x => { x with writes := writes }) (regWrite l c a w s) := by
  have keep : regWrite l c a w s =
      updLane l (fun x => { x with writes := ((regWrite l c a w s).lanes.get l).writes }) (regWrite l c a w s) := by
    cases l <;> rfl
  by_cases hv : holdsValue a = true
  · have noOther (n : Nat) : ((s.lanes.get l).writes.filter (fun p => p.1 == s.clk.fab)).find?
        (fun p => p.2.1 == n && p.2.2.1 == a) = none := by
      rw [List.find?_eq_none]
      intro p hp
      obtain ⟨hp, hf⟩ := List.mem_filter.mp hp
      have := List.any_eq_false.mp (h hv) p hp
      simp_all
    simp only [coreWrite, hv, noOther, if_true]
    split
    · exact ⟨_, keep⟩
    · exact ⟨_, rfl⟩
  · simp only [coreWrite, hv, Bool.false_eq_true, if_false]
    exact ⟨_, keep⟩

/-- A write within 32 bits runs: its next state is the write's own, with the note of it and what was sent as it closed. -/
theorem runs_registerWrite {t a : Nat} {l : Lane} {c : Core} {w : Word32} {s : State} {P : State → Prop}
    (ha : a < 4294967296)
    (h : holdsValue a = true → (s.lanes.get l).writes.any (fun x => x.1 == max s.clk.fab t && x.2.2.1 == a) = false)
    (hP : ∀ writes u, OnlySends (updLane l (fun x => { x with writes := writes }) (regWrite l c a w (tick t s))) u → P u) :
    Runs (.registerWrite t l c a w) s P := by
  obtain ⟨writes, hw⟩ := coreWrite_alone (s := tick t s) (l := l) (c := c) w h
  have he : exec (.registerWrite t l c a w) s = done (tick t s) (coreWrite l c a w (tick t s)) := if_neg (by omega)
  rw [hw] at he
  exact runs_of_done he (hP writes)

/-- A read within 32 bits runs: its next state is the read's own, with what was sent as it closed. -/
theorem runs_busErrorRead {t a : Nat} {l : Lane} {c : Core} {s : State} {P : State → Prop} (ha : a < 4294967296)
    (hP : ∀ u, OnlySends (regRead l c a (tick t s)) u → P u) : Runs (.busErrorRead t l c a) s P :=
  runs_of_done (if_neg (by omega) : exec (.busErrorRead t l c a) s = done (tick t s) (regRead l c a (tick t s))) hP

/-- A write to memory changes its own lane's memory by the word and the other lane's not at all. -/
theorem registerWrite_memory {t a : Nat} {l : Lane} {c : Core} {w : Word32} {s : State} (ha : a < 4294967296)
    (hm : inRam a = true ∨ (0x20000000 ≤ a ∧ a < 0x20E0FFFD ∧ mramBarred c a true = false)) (hr : reachesWord c a true)
    (h : (s.lanes.get l).writes.any (fun x => x.1 == max s.clk.fab t && x.2.2.1 == a) = false) :
    Runs (.registerWrite t l c a w) s (fun u => (u.lanes.get l).mem = memWrite32 (s.lanes.get l).mem a w ∧
      (u.lanes.get (otherLane l)).mem = (s.lanes.get (otherLane l)).mem) := by
  refine runs_registerWrite ha (fun _ => h) fun writes u hu => ?_
  obtain ⟨wrote, hw⟩ := regWrite_memory hm hr l w (tick t s)
  rw [hu.mem, hu.mem, hw]
  simp

/-- A write that gets a bus error. -/
theorem registerWrite_busErr {t a : Nat} {l : Lane} {c : Core} {w : Word32} {s : State} {fence : Bool}
    (ha : a < 4294967296)
    (h : holdsValue a = true → (s.lanes.get l).writes.any (fun x => x.1 == max s.clk.fab t && x.2.2.1 == a) = false)
    (he : regWrite l c a w (tick t s) = busErr l c a fence (tick t s)) :
    Runs (.registerWrite t l c a w) s (fun u => Sent u (.busError l c a) ∧ (u.lanes.get l).mem = (s.lanes.get l).mem ∧
      u.dict = (busErr l c a fence (tick t s)).dict) := by
  refine runs_registerWrite ha h fun writes u hu => ?_
  rw [he] at hu
  refine ⟨hu.sent _ (busErr_sent ..), ?_, hu.dict⟩
  rw [hu.mem]
  simp

/-- A read that gets a bus error. -/
theorem busErrorRead_busErr {t a : Nat} {l : Lane} {c : Core} {s : State} {fence : Bool} (ha : a < 4294967296)
    (he : regRead l c a (tick t s) = busErr l c a fence (tick t s)) :
    Runs (.busErrorRead t l c a) s (fun u => Sent u (.busError l c a) ∧ (u.lanes.get l).mem = (s.lanes.get l).mem ∧
      u.dict = (busErr l c a fence (tick t s)).dict) := by
  refine runs_busErrorRead ha fun u hu => ?_
  rw [he] at hu
  refine ⟨hu.sent _ (busErr_sent ..), ?_, hu.dict⟩
  rw [hu.mem]
  simp

/-- Settles O55: it holds. Each clause is what the write or read does in its region of the map, carried over the closing of
the step, which only sends. -/
theorem laneMemory : Obligations.LaneMemory := by
  unfold Obligations.LaneMemory
  refine ⟨?writeMemory, ?readRam, ?writeFenced, ?readFenced, ?writeLaneId, ?writeThreshold, ?writeHole, ?readHole, ?beyond⟩
  case writeMemory =>
    intro t a l c w s ha hm hr wf h
    refine runs_mono (registerWrite_memory ha hm hr h) fun u ⟨own, other⟩ => ?_
    rw [own]
    exact ⟨fun k hk => memRead_memWrite32_word wf a w hk, fun b hb => memRead_memWrite32_outside _ w hb, other⟩
  case readRam =>
    intro t a l c s hm hr
    refine runs_busErrorRead (inRam_below hm) fun u hu => ?_
    rw [regRead_ram hm hr] at hu
    have sent := hu.sent _ (giveReg_sent ..)
    rw [BitVec.ofNat_toNat, BitVec.setWidth_eq] at sent
    exact ⟨sent, hu.mem l⟩
  case writeFenced =>
    intro t a l c w s ha hc hr h
    refine runs_mono (registerWrite_busErr ha (fun _ => h) (regWrite_fenced hc hr l w _)) fun u ⟨sent, mem, hd⟩ => ?_
    exact ⟨sent, mem, hd ▸ busErr_fence hc l a _⟩
  case readFenced =>
    intro t a l c s ha hc hr
    refine runs_mono (busErrorRead_busErr ha (regRead_fenced hc hr l _)) fun u ⟨sent, _, hd⟩ => ?_
    exact ⟨sent, hd ▸ busErr_fence hc l a _⟩
  case writeLaneId =>
    intro t l c w s hc
    refine runs_registerWrite (by decide) (fun h => absurd h (by decide)) fun writes u hu => ?_
    rw [regWrite_laneId hc] at hu
    rw [hu.lanes l, hu.io]
    simp
  case writeThreshold =>
    intro t l c tn w s hc hn hlen h
    have htn : tn.val < 6 := by omega
    refine runs_registerWrite (by omega) (fun _ => h) fun writes u hu => ?_
    rw [regWrite_threshold hc htn] at hu
    rw [hu.lanes l]
    simp [updIcu, modTarget, hlen]
  case writeHole =>
    intro t a l c w s lo hi
    obtain ⟨fence, he⟩ := regWrite_hole lo hi l c w (tick t s)
    have free : holdsValue a ≠ true := by simp [holdsValue_hole lo hi]
    exact runs_mono (registerWrite_busErr (by omega) (absurd · free) he) fun u ⟨sent, mem, _⟩ => ⟨sent, mem⟩
  case readHole =>
    intro t a l c s lo hi
    obtain ⟨fence, he⟩ := regRead_hole lo hi l c (tick t s)
    exact runs_mono (busErrorRead_busErr (by omega) he) fun u ⟨sent, mem, _⟩ => ⟨sent, mem⟩
  case beyond =>
    intro t a l c w s ha
    exact ⟨if_pos ha, if_pos ha⟩

end Sys2Proof.Machine
end

section
/-!
PROOFS. The memories of the lanes under the shared operations: what an operation does to the rest of the state leaves them
as they are.
-/
namespace Sys2Proof.Machine

open Sys2Proof.Safety

/-- The memories of both lanes. -/
def Pair.mems (p : Pair LaneSt) : List Host.Cell × List Host.Cell := (p.a.mem, p.b.mem)

@[simp] theorem Pair.mems_upd {l : Lane} {p : Pair LaneSt} {f : LaneSt → LaneSt} (h : ∀ x, (f x).mem = x.mem) :
    (p.upd l f).mems = p.mems := by
  cases l <;> simp [Pair.mems, Pair.upd, Pair.put, Pair.get, h]

@[simp] theorem ite_mem {c : Prop} [Decidable c] (x y : LaneSt) : (if c then x else y).mem = if c then x.mem else y.mem :=
  apply_ite ..

@[simp] theorem ite_mems {c : Prop} [Decidable c] (s u : State) :
    (if c then s else u).lanes.mems = if c then s.lanes.mems else u.lanes.mems :=
  apply_ite (fun s : State => s.lanes.mems) c s u

@[simp] theorem foldl_mems {β : Type} {f : State → β → State} (h : ∀ s b, (f s b).lanes.mems = s.lanes.mems) (l : List β)
    (s : State) : (l.foldl f s).lanes.mems = s.lanes.mems := by
  induction l generalizing s with
  | nil => rfl
  | cons b r ih => exact (ih _).trans (h s b)

theorem foldl_fst_mems {α β : Type} {f : State × α → β → State × α}
    (h : ∀ x b, (f x b).1.lanes.mems = x.1.lanes.mems) (l : List β) (x : State × α) :
    (l.foldl f x).1.lanes.mems = x.1.lanes.mems := by
  induction l generalizing x with
  | nil => rfl
  | cons b r ih => exact (ih _).trans (h x b)

@[simp] theorem updLane_mems {l : Lane} {f : LaneSt → LaneSt} (h : ∀ x, (f x).mem = x.mem) (s : State) :
    (updLane l f s).lanes.mems = s.lanes.mems := Pair.mems_upd h
@[simp] theorem cntLane_mems (l : Lane) (n r c k : Nat) (s : State) : (cntLane l n r c k s).lanes.mems = s.lanes.mems := by
  simp [cntLane]
@[simp] theorem cntUpAt_mems (n r c k : Nat) (s : State) : (cntUpAt n r c k s).lanes.mems = s.lanes.mems := by
  simp [cntUpAt]
@[simp] theorem cntUp_mems (n : Nat) (s : State) : (cntUp n s).lanes.mems = s.lanes.mems := by simp [cntUp]
@[simp] theorem leave_mems (o : Out) (s : State) : (leave o s).lanes.mems = s.lanes.mems := by unfold leave; split <;> simp
@[simp] theorem emit_mems (o : Out) (s : State) : (emit o s).lanes.mems = s.lanes.mems := by fun_cases emit <;> simp_all
@[simp] theorem submitRec_mems (r : Record) (s : State) : (submitRec r s).lanes.mems = s.lanes.mems := by simp [submitRec]
@[simp] theorem record_mems (typ sev source : Nat) (payload : Bytes) (s : State) :
    (record typ sev source payload s).lanes.mems = s.lanes.mems := by simp [record]
@[simp] theorem updIcu_mems (l : Lane) (f : Icu → Icu) (s : State) : (updIcu l f s).lanes.mems = s.lanes.mems := by
  simp [updIcu]
@[simp] theorem icuRaise_mems (n : Nat) (s : State) : (icuRaise n s).lanes.mems = s.lanes.mems := by simp [icuRaise]
@[simp] theorem icuLine_mems (n : Nat) (on : Bool) (s : State) : (icuLine n on s).lanes.mems = s.lanes.mems := by
  simp [icuLine]
@[simp] theorem icuLineAt_mems (l : Lane) (n : Nat) (on : Bool) (s : State) :
    (icuLineAt l n on s).lanes.mems = s.lanes.mems := by simp [icuLineAt]
@[simp] theorem icuRaiseAt_mems (l : Lane) (n : Nat) (s : State) : (icuRaiseAt l n s).lanes.mems = s.lanes.mems := by
  simp [icuRaiseAt]
@[simp] theorem busErr_mems (l : Lane) (c : Core) (addr : Nat) (fence : Bool) (s : State) :
    (busErr l c addr fence s).lanes.mems = s.lanes.mems := by simp [busErr]
@[simp] theorem icuStuckSync_mems (detail : Nat) (s : State) : (icuStuckSync detail s).lanes.mems = s.lanes.mems := by
  simp [icuStuckSync]
@[simp] theorem cwvRecord_mems (e : Cwv) (s : State) : (cwvRecord e s).lanes.mems = s.lanes.mems := by simp [cwvRecord]
@[simp] theorem cwvEnd_mems (ends : Cwv → Bool) (s : State) : (cwvEnd ends s).lanes.mems = s.lanes.mems := by simp [cwvEnd]
@[simp] theorem cwvStop_mems (s : State) : (cwvStop s).lanes.mems = s.lanes.mems := by simp [cwvStop]
@[simp] theorem cwvLaneStop_mems (l : Lane) (s : State) : (cwvLaneStop l s).lanes.mems = s.lanes.mems := by
  simp [cwvLaneStop]
@[simp] theorem meterLoad_mems (l : Lane) (s : State) : (meterLoad l s).lanes.mems = s.lanes.mems := by simp [meterLoad]
@[simp] theorem startupMark_mems (col : Nat) (s : State) : (startupMark col s).lanes.mems = s.lanes.mems := by
  unfold startupMark; split <;> simp
@[simp] theorem holdRecord_mems (l : Lane) (r : Record) (s : State) : (holdRecord l r s).lanes.mems = s.lanes.mems := by
  simp [holdRecord]
@[simp] theorem laneRecord_mems (l : Lane) (typ sev source : Nat) (payload : Bytes) (s : State) :
    (laneRecord l typ sev source payload s).lanes.mems = s.lanes.mems := by simp [laneRecord]
@[simp] theorem laneStateRec_mems (l : Lane) (event unit : Nat) (s : State) :
    (laneStateRec l event unit s).lanes.mems = s.lanes.mems := by simp [laneStateRec]
@[simp] theorem switchLog_mems (sev : Nat) (src : Lane) (cause result hf ht : Nat) (s : State) :
    (switchLog sev src cause result hf ht s).lanes.mems = s.lanes.mems := by simp [switchLog]
@[simp] theorem voidPlanned_mems (s : State) : (voidPlanned s).lanes.mems = s.lanes.mems := by
  unfold voidPlanned; split <;> simp
@[simp] theorem degradedSync_mems (s : State) : (degradedSync s).lanes.mems = s.lanes.mems := by
  unfold degradedSync; split <;> simp
@[simp] theorem updHalf_mems (l : Lane) (c : Core) (f : PortHalf → PortHalf) (s : State) :
    (updHalf l c f s).lanes.mems = s.lanes.mems := by simp [updHalf]
@[simp] theorem dropGo_mems (l : Lane) (c : Core) (s : State) : (dropGo l c s).lanes.mems = s.lanes.mems := by simp [dropGo]
@[simp] theorem dropGoes_mems (l : Lane) (s : State) : (dropGoes l s).lanes.mems = s.lanes.mems := by simp [dropGoes]
@[simp] theorem releaseAll_mems (s : State) : (releaseAll s).lanes.mems = s.lanes.mems := by simp [releaseAll]
@[simp] theorem fwEvent_mems (event sev failStep : Nat) (l : Lane) (bank : Nat) (s : State) :
    (fwEvent event sev failStep l bank s).lanes.mems = s.lanes.mems := by simp [fwEvent]
@[simp] theorem bankFail_mems (l : Lane) (bank step : Nat) (s : State) :
    (bankFail l bank step s).lanes.mems = s.lanes.mems := by simp [bankFail]
@[simp] theorem fwMixedSync_mems (s : State) : (fwMixedSync s).lanes.mems = s.lanes.mems := by simp [fwMixedSync]
@[simp] theorem bootStart_mems (l : Lane) (bank : Nat) (trial : Bool) (retries : Nat) (s : State) :
    (bootStart l bank trial retries s).lanes.mems = s.lanes.mems := by simp [bootStart]
@[simp] theorem bootRecovery_mems (l : Lane) (s : State) : (bootRecovery l s).lanes.mems = s.lanes.mems := by
  simp [bootRecovery]
@[simp] theorem bootTrial_mems (l : Lane) (s : State) : (bootTrial l s).lanes.mems = s.lanes.mems := by simp [bootTrial]
@[simp] theorem bootSelect_mems (l : Lane) (s : State) : (bootSelect l s).lanes.mems = s.lanes.mems := by simp [bootSelect]
@[simp] theorem laneRowsGone_mems (l : Lane) (s : State) : (laneRowsGone l s).lanes.mems = s.lanes.mems := by
  simp [laneRowsGone]
@[simp] theorem markLagging_mems (l : Lane) (s : State) : (markLagging l s).lanes.mems = s.lanes.mems := by
  simp [markLagging]
@[simp] theorem setResync_mems (l : Lane) (s : State) : (setResync l s).lanes.mems = s.lanes.mems := by simp [setResync]
@[simp] theorem decideSwitch_mems (target : Lane) (cause : Nat) (s : State) :
    (decideSwitch target cause s).lanes.mems = s.lanes.mems := by simp [decideSwitch]
@[simp] theorem healthEvent_mems (l : Lane) (c : HealthCause) (s : State) :
    (healthEvent l c s).lanes.mems = s.lanes.mems := by simp [healthEvent]
@[simp] theorem updArb_mems (l : Lane) (a : Nat) (f : Arb → Arb) (s : State) :
    (updArb l a f s).lanes.mems = s.lanes.mems := by simp [updArb]
@[simp] theorem gourAlarmLine_mems (l : Lane) (s : State) : (gourAlarmLine l s).lanes.mems = s.lanes.mems := by
  simp [gourAlarmLine]
@[simp] theorem updSump_mems (l : Lane) (q : Nat) (f : SumpQ → SumpQ) (s : State) :
    (updSump l q f s).lanes.mems = s.lanes.mems := by simp [updSump]
@[simp] theorem ledgerPut_mems (x ch sf : Nat) (f : Bucket → Bucket) (s : State) :
    (ledgerPut x ch sf f s).lanes.mems = s.lanes.mems := by simp [ledgerPut]
@[simp] theorem gateReserve_mems (x ch sf dur : Nat) (s : State) :
    (gateReserve x ch sf dur s).lanes.mems = s.lanes.mems := by simp [gateReserve]
@[simp] theorem gateRelease_mems (x ch sf dur : Nat) (s : State) :
    (gateRelease x ch sf dur s).lanes.mems = s.lanes.mems := by simp [gateRelease]
@[simp] theorem gateUse_mems (x ch sf dur : Nat) (s : State) : (gateUse x ch sf dur s).lanes.mems = s.lanes.mems := by
  simp [gateUse]
@[simp] theorem gateRefused_mems (x : Nat) (s : State) : (gateRefused x s).lanes.mems = s.lanes.mems := by
  simp [gateRefused]
@[simp] theorem pruneLedgers_mems (s : State) : (pruneLedgers s).lanes.mems = s.lanes.mems := by simp [pruneLedgers]

@[simp] theorem guardArgs_mems (endpoints func : Nat) (args : Bytes) (nodes : List Nat) (s : State) :
    (guardArgs endpoints func args nodes s).1.lanes.mems = s.lanes.mems := by
  fun_cases guardArgs <;> simp_all

@[simp] theorem openEpoch_mems (imageId : Nat) (s : State) : (openEpoch imageId s).lanes.mems = s.lanes.mems := by
  simp [openEpoch]
@[simp] theorem updEng_mems (l : Lane) (e : Nat) (f : Engine → Engine) (s : State) :
    (updEng l e f s).lanes.mems = s.lanes.mems := by simp [updEng]

@[simp] theorem onLanes_mems {f : Lane → State → State} (h : ∀ l s, (f l s).lanes.mems = s.lanes.mems) (s : State) :
    (onLanes f s).lanes.mems = s.lanes.mems := by
  simp [onLanes, h]

@[simp] theorem copySafe_mems (s : State) : (copySafe s).lanes.mems = s.lanes.mems := by simp [copySafe]
@[simp] theorem driveString_mems (k : Nat) (d : Nat × List (Nat × Nat)) (s : State) :
    (driveString k d s).lanes.mems = s.lanes.mems := by simp [driveString]
@[simp] theorem keepSlice_mems (s0 s : State) : (keepSlice s0 s).lanes.mems = s.lanes.mems := by simp [keepSlice]
@[simp] theorem drivePeriod_mems (s : State) : (drivePeriod s).lanes.mems = s.lanes.mems := by simp [drivePeriod]
@[simp] theorem shedStrings_mems (s : State) : (shedStrings s).lanes.mems = s.lanes.mems := by simp [shedStrings]
@[simp] theorem ledFault_mems (sev k pos fault : Nat) (s : State) :
    (ledFault sev k pos fault s).lanes.mems = s.lanes.mems := by simp [ledFault]
@[simp] theorem markPos_mems (isOpen : Bool) (k p : Nat) (s : State) :
    (markPos isOpen k p s).lanes.mems = s.lanes.mems := by simp [markPos]
@[simp] theorem markCross_mems (pair : Nat) (s : State) : (markCross pair s).lanes.mems = s.lanes.mems := by
  simp [markCross]
@[simp] theorem checkTaps_mems (k : Nat) (x : StringSample) (s : State) : (checkTaps k x s).lanes.mems = s.lanes.mems := by
  simp [checkTaps]
@[simp] theorem sampleString_mems (s : State) (p : StringSample × Nat) : (sampleString s p).lanes.mems = s.lanes.mems := by
  simp [sampleString]
@[simp] theorem checkCurrent_mems (k : Nat) (x : StringSample) (s : State) :
    (checkCurrent k x s).lanes.mems = s.lanes.mems := by simp [checkCurrent]
@[simp] theorem checkPair_mems (xs : List StringSample) (s : State) (pair : Nat) :
    (checkPair xs s pair).lanes.mems = s.lanes.mems := by simp [checkPair]
@[simp] theorem checkPeriod_mems (xs : List StringSample) (s : State) : (checkPeriod xs s).lanes.mems = s.lanes.mems := by
  simp [checkPeriod]
@[simp] theorem tickString_mems (s : State) (p : StringSample × Nat) : (tickString s p).lanes.mems = s.lanes.mems := by
  simp [tickString]
@[simp] theorem capPower_mems (s : State) : (capPower s).lanes.mems = s.lanes.mems := by simp [capPower]
@[simp] theorem floorSync_mems (s : State) (k : Nat) : (floorSync s k).lanes.mems = s.lanes.mems := by simp [floorSync]
@[simp] theorem controlTick_mems (xs : List StringSample) (s : State) : (controlTick xs s).lanes.mems = s.lanes.mems := by
  simp [controlTick]
@[simp] theorem engStart_mems (l : Lane) (e : Nat) (own : BitVec 4) (s : State) :
    (engStart l e own s).lanes.mems = s.lanes.mems := by simp [engStart]
@[simp] theorem engStop_mems (l : Lane) (e : Nat) (s : State) : (engStop l e s).lanes.mems = s.lanes.mems := by
  simp [engStop]
@[simp] theorem engLoad_mems (l : Lane) (e : Nat) (s : State) : (engLoad l e s).lanes.mems = s.lanes.mems := by
  simp [engLoad]
@[simp] theorem engTrig_mems (l : Lane) (e bits : Nat) (s : State) : (engTrig l e bits s).lanes.mems = s.lanes.mems := by
  simp [engTrig]
@[simp] theorem holdTop_mems (s : State) : (holdTop s).lanes.mems = s.lanes.mems := by simp [holdTop]
@[simp] theorem addInterval_mems (l : Lane) (k : Scale) (w : List (List Int)) (s : State) :
    (addInterval l k w s).lanes.mems = s.lanes.mems := by simp [addInterval]
@[simp] theorem feed_mems (l : Lane) (k : Scale) (xs : List (List Int)) (s : State) :
    (feed l k xs s).lanes.mems = s.lanes.mems := by simp [feed]

@[simp] theorem feedCuts_mems (l : Lane) (xs : List (List Int)) (at_ : Nat) (cuts : List (Nat × Scale)) (s : State) :
    (feedCuts l xs at_ cuts s).lanes.mems = s.lanes.mems := by
  induction cuts generalizing xs at_ s with
  | nil => simp [feedCuts]
  | cons p r ih => simp [feedCuts, ih]

@[simp] theorem closeInterval_mems (a b : Samples) (s : State) : (closeInterval a b s).lanes.mems = s.lanes.mems := by
  simp [closeInterval]
@[simp] theorem periodEnd_mems (l : Lane) (hot : Bool) (s : State) : (periodEnd l hot s).lanes.mems = s.lanes.mems := by
  simp [periodEnd]
@[simp] theorem periodBegin_mems (s : State) : (periodBegin s).lanes.mems = s.lanes.mems := by simp [periodBegin]
@[simp] theorem cwvLane_mems (rms : List Nat) (s : State) (x : Nat) : (cwvLane rms s x).lanes.mems = s.lanes.mems := by
  unfold cwvLane; split <;> simp
@[simp] theorem cwvWindow_mems (s : State) : (cwvWindow s).lanes.mems = s.lanes.mems := by simp [cwvWindow]
@[simp] theorem battStop_mems (budget : Bool) (s : State) : (battStop budget s).lanes.mems = s.lanes.mems := by
  simp [battStop]
@[simp] theorem battAway_mems (s : State) : (battAway s).lanes.mems = s.lanes.mems := by simp [battAway]
@[simp] theorem battReturn_mems (s : State) : (battReturn s).lanes.mems = s.lanes.mems := by simp [battReturn]
@[simp] theorem battCopy_mems (s : State) : (battCopy s).lanes.mems = s.lanes.mems := by simp [battCopy]
@[simp] theorem meterBoot_mems (s : State) : (meterBoot s).lanes.mems = s.lanes.mems := by simp [meterBoot]
@[simp] theorem meterStart_mems (l : Lane) (s : State) : (meterStart l s).lanes.mems = s.lanes.mems := by
  unfold meterStart; dsimp only; split <;> simp
@[simp] theorem sendFree_mems (p dst cls : Nat) (m : TMsg) (s : State) :
    (sendFree p dst cls m s).lanes.mems = s.lanes.mems := by simp [sendFree]
@[simp] theorem flood_mems (p : Nat) (m : TMsg) (s : State) : (flood p m s).lanes.mems = s.lanes.mems := by simp [flood]
@[simp] theorem imageLeft_mems (m : TMsg) (s : State) : (imageLeft m s).lanes.mems = s.lanes.mems := by
  unfold imageLeft; split <;> simp
@[simp] theorem sendNow_mems (p dst cls : Nat) (m : TMsg) (s : State) :
    (sendNow p dst cls m s).lanes.mems = s.lanes.mems := by simp [sendNow]

@[simp] theorem trunkSend_mems (dst cls : Nat) (m : TMsg) (s : State) :
    (trunkSend dst cls m s).lanes.mems = s.lanes.mems := by
  fun_cases trunkSend <;> simp_all

@[simp] theorem sendIb_mems (aid tclass : Nat) (m : IbMsg) (s : State) :
    (sendIb aid tclass m s).lanes.mems = s.lanes.mems := by
  unfold sendIb
  dsimp only
  repeat' split
  all_goals simp

@[simp] theorem sendReply_mems (aid tclass sid seq typ : Nat) (r : Reply) (s : State) :
    (sendReply aid tclass sid seq typ r s).lanes.mems = s.lanes.mems := by simp [sendReply]

@[simp] theorem sendNotice_mems (id : Nat) (b : Sub) (flags changes time obj : Nat) (body : Body) (urgent : Bool)
    (s : State) : (sendNotice id b flags changes time obj body urgent s).lanes.mems = s.lanes.mems := by
  unfold sendNotice; split <;> simp

@[simp] theorem flushSub_mems (id : Nat) (s : State) : (flushSub id s).lanes.mems = s.lanes.mems := by
  unfold flushSub; split <;> simp

@[simp] theorem settleSub_mems (s s' acc : State) (p : Nat × Sub) : (settleSub s s' acc p).lanes.mems = acc.lanes.mems := by
  unfold settleSub
  dsimp only
  repeat' split
  all_goals simp

@[simp] theorem settle_mems (s s' : State) : (settle s s').lanes.mems = s'.lanes.mems := by simp [settle]

theorem done_mems {s v u : State} (h : done s v = .next u) : u.lanes.mems = v.lanes.mems := by
  cases h
  simp

@[simp] theorem breakSeq_mems (hd cause : Nat) (s : State) : (breakSeq hd cause s).lanes.mems = s.lanes.mems := by
  unfold breakSeq; split <;> simp
@[simp] theorem breakAllSeqs_mems (cause : Nat) (s : State) : (breakAllSeqs cause s).lanes.mems = s.lanes.mems := by
  simp [breakAllSeqs]

@[simp] theorem duplicate_mems (sid lowest : Nat) (h : Hdr) (c : Option Reply) (s : State) :
    (duplicate sid lowest h c s).lanes.mems = s.lanes.mems := by
  fun_cases duplicate <;> simp_all

@[simp] theorem answer_mems (sid : Nat) (h : Hdr) (a : Answer) : (answer sid h a).lanes.mems = a.1.lanes.mems := by
  unfold answer
  dsimp only
  split <;> simp

@[simp] theorem lateReply_mems (sid seq obj : Nat) (r : Reply) (s : State) :
    (lateReply sid seq obj r s).lanes.mems = s.lanes.mems := by
  unfold lateReply; dsimp only; split <;> simp

@[simp] theorem refusal_mems (h : Hdr) (r : Reply) (s : State) : (refusal h r s).lanes.mems = s.lanes.mems := by
  simp [refusal]
@[simp] theorem book_mems (b : Booking) (s : State) : (book b s).lanes.mems = s.lanes.mems := by simp [book]

theorem placeFrames_mems {tk cls deadline : Nat} {policy share : Bool} {c j a : Nat} {alt : Bool}
    {fr : List (Nat × Option Seg)} {last : Nat} {first : Option Nat} {s u : State} {st en : Nat}
    (h : placeFrames tk cls deadline policy share c j a alt fr last first s = some (u, st, en)) :
    u.lanes.mems = s.lanes.mems := by
  induction fr generalizing last first s with
  | nil =>
    simp only [placeFrames, Option.some.injEq, Prod.mk.injEq] at h
    rw [← h.1]
  | cons p r ih =>
    simp only [placeFrames] at h
    split at h
    · cases h
    · split at h
      · cases h
      · exact (ih h).trans (book_mems ..)

@[simp] theorem placeAttempts_mems (tk cls deadline : Nat) (policy share : Bool) (c : Nat) (fr : List (Nat × Option Seg))
    (k j a e : Nat) (s : State) :
    (placeAttempts tk cls deadline policy share c fr k j a e s).1.lanes.mems = s.lanes.mems := by
  induction k generalizing j a e s with
  | zero => rfl
  | succ k ih =>
    unfold placeAttempts
    split
    · rfl
    · next h => exact (ih ..).trans (placeFrames_mems h)

@[simp] theorem placeAll_mems (tk cls deadline : Nat) (policy share : Bool) (ld : Load) (ts : List Target) (s : State) :
    (placeAll tk cls deadline policy share ld ts s).1.lanes.mems = s.lanes.mems := by
  refine foldl_fst_mems (fun x c => ?_) _ _
  exact placeAttempts_mems ..

@[simp] theorem countRefusal_mems (n cls : Nat) (s : State) : (countRefusal n cls s).lanes.mems = s.lanes.mems := by
  simp [countRefusal]
@[simp] theorem takeCfs_mems (z0 : List Nat) (z1 : State) : (takeCfs z0 z1).1.lanes.mems = z1.lanes.mems := by
  fun_induction takeCfs <;> simp_all

@[simp] theorem decideAdmission_mems (obj cls : Nat) (tclass : Option Nat) (deadline : Nat) (who : Submitter) (d : Desc)
    (ld : Load)
    (s : State) : (decideAdmission obj cls tclass deadline who d ld s).1.lanes.mems = s.lanes.mems := by
  unfold decideAdmission
  dsimp only
  repeat' split
  all_goals simp

@[simp] theorem sendComp_mems (key : Nat) (s : State) : (sendComp key s).lanes.mems = s.lanes.mems := by
  unfold sendComp
  dsimp only
  repeat' split
  all_goals simp

@[simp] theorem nextCompSeq_mems (client : Bytes) (s : State) : (nextCompSeq client s).1.lanes.mems = s.lanes.mems := by
  unfold nextCompSeq; split <;> simp
@[simp] theorem complete_mems (t : Ticket) (s : State) : (complete t s).lanes.mems = s.lanes.mems := by simp [complete]
@[simp] theorem completeTicket_mems (tk : Nat) (s : State) : (completeTicket tk s).lanes.mems = s.lanes.mems := by
  unfold completeTicket; split <;> simp
@[simp] theorem setCopy_mems (l : Lane) (c : Core) (j : Option HistJob) (s : State) :
    (setCopy l c j s).lanes.mems = s.lanes.mems := by simp [setCopy]

theorem nodeSubmission_mems (c : Core) (h : PortHalf) (s : State) : (nodeSubmission c h s).1.lanes.mems = s.lanes.mems := by
  unfold nodeSubmission
  dsimp only
  repeat' split
  all_goals simp

theorem selectClass_mems (zone cls hold : Nat) (s : State) : (selectClass zone cls hold s).1.lanes.mems = s.lanes.mems := by
  unfold selectClass
  dsimp only
  repeat' split
  all_goals rfl

@[simp] theorem submissionOf_mems (c : Core) (h : PortHalf) (q : PolicyAsk) (s : State) :
    ((submissionOf c h q).decide s).1.lanes.mems = s.lanes.mems := by
  have select (z k hold : Nat) : ((subSelect z k hold).decide s).1.lanes.mems = s.lanes.mems := selectClass_mems ..
  have node : (nodeSubmission c h s).1.lanes.mems = s.lanes.mems := nodeSubmission_mems ..
  unfold submissionOf policyFunction
  dsimp only
  repeat' split
  all_goals simp [select, node, subRefuse, subCopy]

@[simp] theorem takeVerdict_mems (l : Lane) (c : Core) (copy : Option HistJob) (r : Reply ⊕ Nat) (s : State) :
    (takeVerdict l c copy r s).lanes.mems = s.lanes.mems := by
  unfold takeVerdict; split <;> simp

@[simp] theorem mirrorVerdict_mems (l : Lane) (c : Core) (r : Reply ⊕ Nat) (s : State) :
    (mirrorVerdict l c r s).lanes.mems = s.lanes.mems := by
  unfold mirrorVerdict; dsimp only; split <;> simp

@[simp] theorem submit_mems (l : Lane) (c : Core) (q : PolicyAsk) (s : State) :
    (submit l c q s).lanes.mems = s.lanes.mems := by
  unfold submit
  dsimp only
  repeat' split
  all_goals simp

@[simp] theorem resumeGo_mems (l : Lane) (c : Core) (s : State) : (resumeGo l c s).lanes.mems = s.lanes.mems := by
  unfold resumeGo; split <;> simp
@[simp] theorem resumeGoes_mems (l : Lane) (s : State) : (resumeGoes l s).lanes.mems = s.lanes.mems := by simp [resumeGoes]

@[simp] theorem claimRead_mems (l : Lane) (c : Core) (tn : Nat) (s : State) :
    (claimRead l c tn s).lanes.mems = s.lanes.mems := by
  unfold claimRead; dsimp only; split <;> simp

@[simp] theorem completeEff_mems (l : Lane) (tn n : Nat) (s : State) :
    (completeEff l tn n s).lanes.mems = s.lanes.mems := by simp [completeEff]

@[simp] theorem icuAccess_mems (l : Lane) (c : Core) (addr : Nat) (f : State → State) (s : State)
    (h3 : ∀ s, (f s).lanes.mems = s.lanes.mems) : (icuAccess l c addr f s).lanes.mems = s.lanes.mems := by
  fun_cases icuAccess <;> simp_all

@[simp] theorem semTake_mems (l : Lane) (c : Core) (n : Nat) (s : State) : (semTake l c n s).lanes.mems = s.lanes.mems := by
  simp [semTake]
@[simp] theorem semFree_mems (l : Lane) (c : Core) (n : Nat) (s : State) : (semFree l c n s).lanes.mems = s.lanes.mems := by
  simp [semFree]
@[simp] theorem latchTime_mems (l : Lane) (c : Core) (s : State) : (latchTime l c s).lanes.mems = s.lanes.mems := by
  simp [latchTime]
@[simp] theorem pendRead_mems (l : Lane) (c : Core) (w : Nat) (s : State) :
    (pendRead l c w s).lanes.mems = s.lanes.mems := by simp [pendRead]
@[simp] theorem gourFaults_mems (l : Lane) (a r : Nat) (before : Arb) (s : State) :
    (gourFaults l a r before s).lanes.mems = s.lanes.mems := by simp [gourFaults]
@[simp] theorem airLanes_mems (a r : Nat) (f : Arb → Arb) (s : State) : (airLanes a r f s).lanes.mems = s.lanes.mems := by
  simp [airLanes]
@[simp] theorem airAsk_mems (x r : Nat) (s : State) : (airAsk x r s).lanes.mems = s.lanes.mems := by simp [airAsk]
@[simp] theorem airGrant_mems (x r n : Nat) (s : State) : (airGrant x r n s).lanes.mems = s.lanes.mems := by simp [airGrant]
@[simp] theorem airReturn_mems (x r : Nat) (s : State) : (airReturn x r s).lanes.mems = s.lanes.mems := by simp [airReturn]
@[simp] theorem airDrop_mems (x r : Nat) (s : State) : (airDrop x r s).lanes.mems = s.lanes.mems := by simp [airDrop]
@[simp] theorem refillWrite_mems (l : Lane) (c : Core) (a r v : Nat) (s : State) :
    (refillWrite l c a r v s).lanes.mems = s.lanes.mems := by simp [refillWrite]
@[simp] theorem serviceRxLine_mems (l : Lane) (s : State) : (serviceRxLine l s).lanes.mems = s.lanes.mems := by
  simp [serviceRxLine]
@[simp] theorem flushAt_mems (l : Lane) (q : Nat) (s : State) : (flushAt l q s).lanes.mems = s.lanes.mems := by
  simp [flushAt]
@[simp] theorem sumpNotice_mems (l : Lane) (q : Nat) (s : State) : (sumpNotice l q s).lanes.mems = s.lanes.mems := by
  simp [sumpNotice]
@[simp] theorem dropBookings_mems (p : Booking → Bool) (s : State) : (dropBookings p s).lanes.mems = s.lanes.mems := by
  simp [dropBookings]
@[simp] theorem release_mems (tk : Nat) (s : State) : (release tk s).lanes.mems = s.lanes.mems := by
  unfold release; split <;> simp
@[simp] theorem loseBooking_mems (b : Booking) (s : State) : (loseBooking b s).lanes.mems = s.lanes.mems := by
  simp [loseBooking]
@[simp] theorem lostRecord_mems (n st : Nat) (s : State) : (lostRecord n st s).lanes.mems = s.lanes.mems := by
  simp [lostRecord]
@[simp] theorem heardFrom_mems (n : Nat) (s : State) : (heardFrom n s).lanes.mems = s.lanes.mems := by simp [heardFrom]
@[simp] theorem pushHist_mems (n : Nat) (ok : Bool) (s : State) : (pushHist n ok s).lanes.mems = s.lanes.mems := by
  simp [pushHist]
@[simp] theorem clearShock_mems (n : Nat) (s : State) : (clearShock n s).lanes.mems = s.lanes.mems := by simp [clearShock]
@[simp] theorem linkShock_mems (tk : Nat) (x : Target) (run : Nat) (s : State) :
    (linkShock tk x run s).lanes.mems = s.lanes.mems := by simp [linkShock]
@[simp] theorem markStaged_mems (c n : Nat) (s : State) : (markStaged c n s).lanes.mems = s.lanes.mems := by
  simp [markStaged]
@[simp] theorem floorsOwed_mems (n : Nat) (s : State) : (floorsOwed n s).lanes.mems = s.lanes.mems := by simp [floorsOwed]

@[simp] theorem targetAnswer_mems (k : Ticket) (e : Expect) (hit ack lastOf : Bool) (x : Target) (s : State) :
    (targetAnswer k e hit ack lastOf x s).lanes.mems = s.lanes.mems := by
  unfold targetAnswer
  dsimp only
  repeat' split
  all_goals simp

@[simp] theorem ticketAnswers_mems (e : Expect) (det : List (Nat × Bool)) (s : State) :
    (ticketAnswers e det s).lanes.mems = s.lanes.mems := by
  unfold ticketAnswers; split <;> simp

@[simp] theorem endVerify_mems (s : State) : (endVerify s).lanes.mems = s.lanes.mems := by simp [endVerify]
@[simp] theorem verifyDone_mems (s : State) : (verifyDone s).lanes.mems = s.lanes.mems := by simp [verifyDone]
@[simp] theorem controlAnswer_mems (e : Expect) (ack : Bool) (n : Nat) (s : State) :
    (controlAnswer e ack n s).lanes.mems = s.lanes.mems := by simp [controlAnswer]
@[simp] theorem dropJoins_mems (n : Nat) (s : State) : (dropJoins n s).lanes.mems = s.lanes.mems := by simp [dropJoins]
@[simp] theorem leaveCluster_mems (n : Nat) (s : State) : (leaveCluster n s).lanes.mems = s.lanes.mems := by
  simp [leaveCluster]

@[simp] theorem bcastEach_mems {f : Nat → Nat → Nat → Nat → State → State}
    (h : ∀ x ch sf dur s, (f x ch sf dur s).lanes.mems = s.lanes.mems) (sf x : Nat) (s : State) :
    (bcastEach f sf x s).lanes.mems = s.lanes.mems := by
  unfold bcastEach
  refine foldl_mems (fun s a => ?_) _ s
  split <;> simp [h]

@[simp] theorem bcastReserve_mems (sf : Nat) (s : State) : (bcastReserve sf s).lanes.mems = s.lanes.mems := by
  simp [bcastReserve]
@[simp] theorem bcastUnreserve_mems (sf : Nat) (s : State) : (bcastUnreserve sf s).lanes.mems = s.lanes.mems := by
  simp [bcastUnreserve]
@[simp] theorem gateFault_mems (x ch a : Nat) (s : State) : (gateFault x ch a s).lanes.mems = s.lanes.mems := by
  simp [gateFault]
@[simp] theorem moveKey_mems (c : Nat) (s : State) : (moveKey c s).lanes.mems = s.lanes.mems := by simp [moveKey]
@[simp] theorem nextCounter_mems (c : Nat) (s : State) : (nextCounter c s).lanes.mems = s.lanes.mems := by
  simp [nextCounter]
@[simp] theorem keyCluster_mems (x a n ch dur : Nat) (e : Expect) (f : Air) (s : State) :
    (keyCluster x a n ch dur e f s).lanes.mems = s.lanes.mems := by simp [keyCluster]

@[simp] theorem rechannel_mems (s : State) : (rechannel s).lanes.mems = s.lanes.mems := by
  refine foldl_mems (fun s b => ?_) _ s
  dsimp only
  repeat' split
  all_goals simp

@[simp] theorem switchEpoch_mems (s : State) : (switchEpoch s).lanes.mems = s.lanes.mems := by simp [switchEpoch]

@[simp] theorem urgOwners_mems (x : Nat) (l : List Nat) (s : State) : (urgOwners x l s).1.lanes.mems = s.lanes.mems := by
  induction l generalizing s with
  | nil => rfl
  | cons a r ih =>
    simp only [urgOwners, ih]
    split <;> simp

@[simp] theorem beaconsResume_mems (a : Nat) (s : State) : (beaconsResume a s).lanes.mems = s.lanes.mems := by
  simp [beaconsResume]
@[simp] theorem joinFloors_mems (n : Nat) (s : State) : (joinFloors n s).lanes.mems = s.lanes.mems := by simp [joinFloors]
@[simp] theorem joined_mems (n : Nat) (s : State) : (joined n s).lanes.mems = s.lanes.mems := by simp [joined]

@[simp] theorem joinPart_mems (j : Join) (s : State) : (joinPart j s).1.lanes.mems = s.lanes.mems := by
  unfold joinPart
  dsimp only
  repeat' split
  all_goals simp

@[simp] theorem copyPayload_mems (c : GroupCopy) (s : State) : (copyPayload c s).1.lanes.mems = s.lanes.mems := by
  unfold copyPayload; dsimp only; split <;> simp
@[simp] theorem trajDue_mems (x a : Nat) (s : State) : (trajDue x a s).1.lanes.mems = s.lanes.mems := by
  unfold trajDue; dsimp only; split <;> simp

@[simp] theorem bcastPayload_mems (x a : Nat) (s : State) : (bcastPayload x a s).1.lanes.mems = s.lanes.mems := by
  unfold bcastPayload
  dsimp only
  repeat' split
  all_goals simp

@[simp] theorem keyBroadcast_mems (x a : Nat) (s : State) : (keyBroadcast x a s).lanes.mems = s.lanes.mems := by
  unfold keyBroadcast; dsimp only; split <;> simp

@[simp] theorem keyBooked_mems (b : Booking) (s : State) : (keyBooked b s).lanes.mems = s.lanes.mems := by
  unfold keyBooked
  dsimp only
  repeat' split
  all_goals simp

theorem airRounds_mems (x a n : Nat) (cs : List Cand) (h : ∀ c ∈ cs, ∀ s, (c.2.2 s).lanes.mems = s.lanes.mems) (s : State) :
    (airRounds x a n cs s).lanes.mems = s.lanes.mems := by
  induction n generalizing cs s with
  | zero => rfl
  | succ n ih =>
    unfold airRounds
    split
    · rfl
    · split
      · rfl
      · next hf =>
        split
        · rfl
        · dsimp only
          split
          · simp [h _ (List.mem_of_find?_eq_some hf)]
          · rw [ih _ (fun c hc => h c (List.mem_of_mem_eraseP hc))]
            simp

@[simp] theorem keyUnbooked_mems (x a : Nat) (s : State) : (keyUnbooked x a s).lanes.mems = s.lanes.mems := by
  unfold keyUnbooked
  dsimp only
  rw [airRounds_mems]
  · simp
  · simp only [List.mem_filter, List.mem_append]
    rintro c ⟨(hc | hc) | hc, -⟩ s
    · simp only [List.mem_filterMap, Option.map_eq_some_iff] at hc
      obtain ⟨_, _, _, _, rfl⟩ := hc
      simp
    · split at hc
      · cases hc
      · rw [List.mem_singleton] at hc
        subst hc
        simp
    · simp only [List.mem_flatten, List.mem_map] at hc
      obtain ⟨_, ⟨_, _, rfl⟩, hc⟩ := hc
      simp only [List.mem_filterMap, Option.map_eq_some_iff] at hc
      obtain ⟨_, _, _, _, rfl⟩ := hc
      simp

@[simp] theorem memberEntry_mems (e : Expect) (det : List (Nat × Bool)) (s : State) (n : Nat) :
    (memberEntry e det s n).lanes.mems = s.lanes.mems := by simp [memberEntry]

@[simp] theorem probeEntry_mems (e : Expect) (det : List (Nat × Bool)) (s : State) :
    (probeEntry e det s).lanes.mems = s.lanes.mems := by
  unfold probeEntry
  dsimp only
  repeat' split
  all_goals simp

@[simp] theorem refillTokens_mems (s : State) : (refillTokens s).lanes.mems = s.lanes.mems := by simp [refillTokens]
@[simp] theorem payToken_mems (sev : Nat) (s : State) : (payToken sev s).lanes.mems = s.lanes.mems := by simp [payToken]
@[simp] theorem sumRow_mems (q : Nat) (v : Int) (s : State) (r : Nat) : (sumRow q v s r).lanes.mems = s.lanes.mems := by
  simp [sumRow]
@[simp] theorem sumSample_mems (q : Nat) (v : Int) (s : State) : (sumSample q v s).lanes.mems = s.lanes.mems := by
  simp [sumSample]
@[simp] theorem sumEnd_mems (interval : Nat) (s : State) (r : Nat) : (sumEnd interval s r).lanes.mems = s.lanes.mems := by
  unfold sumEnd; split <;> simp
@[simp] theorem classPaths_mems (s : State) (c : Nat) : (classPaths s c).lanes.mems = s.lanes.mems := by simp [classPaths]
@[simp] theorem sampleBooked_mems (s : State) : (sampleBooked s).lanes.mems = s.lanes.mems :=
  foldl_mems (fun _ _ => sumSample_mems ..) _ s
@[simp] theorem bcastRatchet_mems (s : State) : (bcastRatchet s).lanes.mems = s.lanes.mems := by simp [bcastRatchet]
@[simp] theorem swapPath_mems (c dir : Nat) (s : State) : (swapPath c dir s).lanes.mems = s.lanes.mems := by simp [swapPath]
@[simp] theorem ingest_mems (node start : Nat) (s : State) (e : BurstEvent) :
    (ingest node start s e).lanes.mems = s.lanes.mems := by simp [ingest]
@[simp] theorem answerBurst_mems (b : Burst) (ch : Nat) (s : State) : (answerBurst b ch s).lanes.mems = s.lanes.mems := by
  simp [answerBurst]

@[simp] theorem takeBurst_mems (b : Burst) (n : Nat) (s : State) : (takeBurst b n s).lanes.mems = s.lanes.mems := by
  unfold takeBurst
  dsimp only
  repeat' split
  all_goals simp

@[simp] theorem holdJoin_mems (j : Join) (s : State) : (holdJoin j s).lanes.mems = s.lanes.mems := by simp [holdJoin]
@[simp] theorem removeRow_mems (n : Nat) (s : State) : (removeRow n s).lanes.mems = s.lanes.mems := by simp [removeRow]
@[simp] theorem cancelEpoch_mems (s : State) : (cancelEpoch s).lanes.mems = s.lanes.mems := by simp [cancelEpoch]
@[simp] theorem katRun_mems (l : Lane) (bad : Bool) (s : State) : (katRun l bad s).lanes.mems = s.lanes.mems := by
  simp [katRun]
@[simp] theorem releaseOne_mems (seq : Nat) (s : State) : (releaseOne seq s).lanes.mems = s.lanes.mems := by
  unfold releaseOne; split <;> simp
@[simp] theorem mismatch_mems (seq kind hashA hashB : Nat) (s : State) :
    (mismatch seq kind hashA hashB s).lanes.mems = s.lanes.mems := by simp [mismatch]
@[simp] theorem verdict_mems (l : Lane) (by_ : Bool) (s : State) : (verdict l by_ s).lanes.mems = s.lanes.mems := by
  simp [verdict]
@[simp] theorem countFlap_mems (s : State) : (countFlap s).1.lanes.mems = s.lanes.mems := by simp [countFlap]
@[simp] theorem flapHold_mems (l : Lane) (s : State) : (flapHold l s).lanes.mems = s.lanes.mems := by simp [flapHold]
@[simp] theorem releaseDiffering_mems (s : State) : (releaseDiffering s).lanes.mems = s.lanes.mems := by
  simp [releaseDiffering]

@[simp] theorem answerAsked_mems (s : State) (q : Nat × Nat) : (answerAsked s q).lanes.mems = s.lanes.mems := by
  have planned : (evalSwitchover s).1.lanes.mems = s.lanes.mems := by
    unfold evalSwitchover
    split
    · rfl
    · split <;> rfl
  unfold answerAsked
  dsimp only
  split <;> simp [planned]

@[simp] theorem settleLayout_mems (l : Lane) (s : State) : (settleLayout l s).1.lanes.mems = s.lanes.mems := by
  fun_cases settleLayout <;> simp_all
@[simp] theorem stayLagging_mems (l : Lane) (c : Condemn) (s : State) : (stayLagging l c s).lanes.mems = s.lanes.mems := by
  simp [stayLagging]
@[simp] theorem setLink_mems (k : Fin 2) (up : Bool) (s : State) : (setLink k up s).lanes.mems = s.lanes.mems := by
  simp [setLink]

@[simp] theorem bridgeFails_mems (k : Fin 2) (s : State) : (bridgeFails k s).lanes.mems = s.lanes.mems := by
  have stopped (p : Pair LaneSt) : Pair.mems
      { a := if p.a.role = .lagging then { p.a with resync := .idle } else p.a,
        b := if p.b.role = .lagging then { p.b with resync := .idle } else p.b } = p.mems := by
    simp [Pair.mems]
  unfold bridgeFails
  dsimp only
  split
  · simp
  · split
    · rw [markLagging_mems, stopped, setLink_mems]
    · rw [stopped, setLink_mems]

@[simp] theorem bridgeWorks_mems (k : Fin 2) (s : State) : (bridgeWorks k s).lanes.mems = s.lanes.mems := by
  refine Eq.trans ?_ (setLink_mems k true s)
  simp [bridgeWorks, Pair.mems]

@[simp] theorem unitReport_mems (l : Lane) (u r : Nat) (s : State) : (unitReport l u r s).lanes.mems = s.lanes.mems := by
  simp [unitReport]
@[simp] theorem foldSlew_mems (s : State) : (foldSlew s).lanes.mems = s.lanes.mems := by simp [foldSlew]
@[simp] theorem foldAslew_mems (s : State) : (foldAslew s).lanes.mems = s.lanes.mems := by simp [foldAslew]
@[simp] theorem startSlew_mems (corr : Int) (s : State) : (startSlew corr s).lanes.mems = s.lanes.mems := by
  simp [startSlew]
@[simp] theorem timeLog_mems (source : Nat) (corr : Int) (stepped : Bool) (client : Bytes) (s : State) :
    (timeLog source corr stepped client s).lanes.mems = s.lanes.mems := by simp [timeLog]
@[simp] theorem alarmFireRow_mems (r last next : Nat) (stepped : Bool) (skipped : Nat) (s : State) :
    (alarmFireRow r last next stepped skipped s).lanes.mems = s.lanes.mems := by simp [alarmFireRow]
@[simp] theorem alarmMoved_mems (s : State) (r : Nat) : (alarmMoved s r).lanes.mems = s.lanes.mems := by simp [alarmMoved]
@[simp] theorem alarmsMoved_mems (s : State) : (alarmsMoved s).lanes.mems = s.lanes.mems := by simp [alarmsMoved]
@[simp] theorem alarmWritten_mems (r : Nat) (s : State) : (alarmWritten r s).lanes.mems = s.lanes.mems := by
  simp [alarmWritten]
@[simp] theorem stepTai_mems (corr : Int) (source : Nat) (client : Bytes) (s : State) :
    (stepTai corr source client s).lanes.mems = s.lanes.mems := by simp [stepTai]
@[simp] theorem asnMoved_mems (s : State) : (asnMoved s).lanes.mems = s.lanes.mems := by simp [asnMoved]
@[simp] theorem asnFromZero_mems (s : State) : (asnFromZero s).lanes.mems = s.lanes.mems := by simp [asnFromZero]
@[simp] theorem adoptAsn_mems (anchor : Int) (s : State) : (adoptAsn anchor s).lanes.mems = s.lanes.mems := by
  simp [adoptAsn]
@[simp] theorem freeIngress_mems (p cls vc units : Nat) (s : State) :
    (freeIngress p cls vc units s).lanes.mems = s.lanes.mems := by simp [freeIngress]
@[simp] theorem passOn_mems (p : Nat) (f : TrunkFrame) (s : State) : (passOn p f s).lanes.mems = s.lanes.mems := by
  simp [passOn]
@[simp] theorem serveQueue_mems (p : Nat) (q : Nat × Nat × TMsg) (s : State) :
    (serveQueue p q s).lanes.mems = s.lanes.mems := by simp [serveQueue]

theorem serveClass_mems {p cls : Nat} {s u : State} (h : serveClass p cls s = some u) : u.lanes.mems = s.lanes.mems := by
  simp only [serveClass] at h
  split at h
  case h_1 => cases h
  case h_2 => cases h; simp
  all_goals
    next own =>
      have kept : ∀ s, (‹State → State› s).lanes.mems = s.lanes.mems := by
        split at own
        · split at own <;> cases own
          simp
        · obtain ⟨_, _, rfl⟩ := Option.map_eq_some_iff.mp own
          simp
      cases h
      simp [kept]

@[simp] theorem serveEgress_mems (p n : Nat) (s : State) : (serveEgress p n s).lanes.mems = s.lanes.mems := by
  induction n generalizing s with
  | zero => rfl
  | succ n ih =>
    unfold serveEgress
    split
    · next h =>
      obtain ⟨c, -, hc⟩ := List.exists_of_findSome?_eq_some h
      exact (ih _).trans (serveClass_mems hc)
    · rfl

@[simp] theorem retryPort_mems (p : Nat) (s : State) : (retryPort p s).lanes.mems = s.lanes.mems := by simp [retryPort]
@[simp] theorem dropLost_mems (s : State) : (dropLost s).lanes.mems = s.lanes.mems := by simp [dropLost]
@[simp] theorem retryVoq_mems (s : State) : (retryVoq s).lanes.mems = s.lanes.mems := by simp [retryVoq]
@[simp] theorem listPort_mems (m : TopoMsg) (p : Nat) (s : State) : (listPort m p s).lanes.mems = s.lanes.mems := by
  simp [listPort]
@[simp] theorem sendDcredit_mems (reset : Bool) (s : State) (n : Nat) :
    (sendDcredit reset s n).lanes.mems = s.lanes.mems := by simp [sendDcredit]
@[simp] theorem resetDcredits_mems (m : TopoMsg) (s : State) : (resetDcredits m s).lanes.mems = s.lanes.mems := by
  simp [resetDcredits]
@[simp] theorem ringOpens_mems (s : State) : (ringOpens s).lanes.mems = s.lanes.mems := by simp [ringOpens]
@[simp] theorem sendList_mems (s : State) (m : Nat) : (sendList s m).lanes.mems = s.lanes.mems := by simp [sendList]
@[simp] theorem moduleReached_mems (s : State) (m : Nat) : (moduleReached s m).lanes.mems = s.lanes.mems := by
  simp [moduleReached]
@[simp] theorem adoptTopo_mems (m : TopoMsg) (s0 : State) : (adoptTopo m s0).lanes.mems = s0.lanes.mems := by
  simp [adoptTopo]
@[simp] theorem floodTopo_mems (m : TopoMsg) (s : State) : (floodTopo m s).lanes.mems = s.lanes.mems := by simp [floodTopo]
@[simp] theorem issueTopo_mems (m : TopoMsg) (atOnce : Bool) (s : State) :
    (issueTopo m atOnce s).lanes.mems = s.lanes.mems := by simp [issueTopo]

@[simp] theorem masterTopo_mems (s : State) : (masterTopo s).lanes.mems = s.lanes.mems := by
  unfold masterTopo
  dsimp only
  repeat' split
  all_goals simp

@[simp] theorem reportLinks_mems (s : State) : (reportLinks s).lanes.mems = s.lanes.mems := by simp [reportLinks]
@[simp] theorem sendHello_mems (p : Nat) (s : State) : (sendHello p s).lanes.mems = s.lanes.mems := by simp [sendHello]
@[simp] theorem sendProof_mems (isAccept : Bool) (p : Nat) (h : HelloMsg) (s : State) :
    (sendProof isAccept p h s).lanes.mems = s.lanes.mems := by simp [sendProof]
@[simp] theorem linkStart_mems (p : Nat) (m : OfferMsg) (s : State) : (linkStart p m s).lanes.mems = s.lanes.mems := by
  simp [linkStart]
@[simp] theorem portConds_mems (p : Nat) (s : State) : (portConds p s).lanes.mems = s.lanes.mems := by simp [portConds]
@[simp] theorem turnFrame_mems (p : Nat) (s : State) (f : TrunkFrame) : (turnFrame p s f).lanes.mems = s.lanes.mems := by
  simp [turnFrame]
@[simp] theorem ringBreakRec_mems (a b port : Nat) (s : State) : (ringBreakRec a b port s).lanes.mems = s.lanes.mems := by
  simp [ringBreakRec]
@[simp] theorem linkEnds_mems (p : Nat) (s : State) : (linkEnds p s).lanes.mems = s.lanes.mems := by simp [linkEnds]
@[simp] theorem switchPin_mems (k : Nat) (v : Bool) (s : State) : (switchPin k v s).lanes.mems = s.lanes.mems := by
  simp [switchPin]
@[simp] theorem setPin_mems (k : Nat) (v : Bool) (s : State) : (setPin k v s).lanes.mems = s.lanes.mems := by simp [setPin]
@[simp] theorem diEdge_mems (n : Nat) (on : Bool) (s : State) : (diEdge n on s).lanes.mems = s.lanes.mems := by
  simp [diEdge]
@[simp] theorem driveOut_mems (k : Nat) (v : Bool) (s : State) : (driveOut k v s).lanes.mems = s.lanes.mems := by
  simp [driveOut]
@[simp] theorem outSync_mems (s : State) : (outSync s).lanes.mems = s.lanes.mems := by simp [outSync]
@[simp] theorem updVault_mems (l : Lane) (f : Vault → Vault) (s : State) : (updVault l f s).lanes.mems = s.lanes.mems := by
  simp [updVault]
@[simp] theorem lcLog_mems (a b : Lc) (client : Bytes) (cause : Nat) (s : State) :
    (lcLog a b client cause s).lanes.mems = s.lanes.mems := by simp [lcLog]
@[simp] theorem lcMove_mems (b : Lc) (client : Bytes) (cause : Nat) (s : State) :
    (lcMove b client cause s).lanes.mems = s.lanes.mems := by simp [lcMove]
@[simp] theorem tamperLog_mems (r : TamperRec) (s : State) : (tamperLog r s).lanes.mems = s.lanes.mems := by
  simp [tamperLog]
@[simp] theorem sampleInputs_mems (s : State) : (sampleInputs s).lanes.mems = s.lanes.mems := by simp [sampleInputs]
@[simp] theorem zeroLane_mems (l : Lane) (f : Vault → Vault) (s : State) : (zeroLane l f s).lanes.mems = s.lanes.mems := by
  unfold zeroLane; dsimp only; split <;> simp
@[simp] theorem dropSessions_mems (s : State) : (dropSessions s).lanes.mems = s.lanes.mems := by simp [dropSessions]
@[simp] theorem tripRecord_mems (n zeroised : Nat) (s : State) : (tripRecord n zeroised s).lanes.mems = s.lanes.mems := by
  simp [tripRecord]
@[simp] theorem enterTampered_mems (cause : Nat) (s : State) : (enterTampered cause s).lanes.mems = s.lanes.mems := by
  simp [enterTampered]
@[simp] theorem moduleTrip_mems (n : Nat) (s : State) : (moduleTrip n s).lanes.mems = s.lanes.mems := by
  unfold moduleTrip; split <;> simp
@[simp] theorem sleepRecord_mems (src : BitVec 16) (time : Nat) (s : State) :
    (sleepRecord src time s).lanes.mems = s.lanes.mems := by simp [sleepRecord]
@[simp] theorem suspendEntry_mems (time tripped : Nat) (inForce : Bool) (s : State) :
    (suspendEntry time tripped inForce s).lanes.mems = s.lanes.mems := by simp [suspendEntry]
@[simp] theorem endSuspend_mems (s : State) : (endSuspend s).lanes.mems = s.lanes.mems := by
  unfold endSuspend; split <;> simp

@[simp] theorem vaultGo_mems (l : Lane) (c : Core) (op : VaultOp) (s : State) :
    (vaultGo l c op s).lanes.mems = s.lanes.mems := by
  unfold vaultGo; split <;> simp

@[simp] theorem markInput_mems (n : Nat) (s : State) : (markInput n s).lanes.mems = s.lanes.mems := by simp [markInput]

@[simp] theorem sleepTrip_mems (n : Nat) (s : State) : (sleepTrip n s).lanes.mems = s.lanes.mems := by
  unfold sleepTrip
  dsimp only
  repeat' split
  all_goals simp

@[simp] theorem sleepOpen_mems (n : Nat) (s : State) : (sleepOpen n s).lanes.mems = s.lanes.mems := by simp [sleepOpen]
@[simp] theorem wrongClaim_mems (s : State) : (wrongClaim s).lanes.mems = s.lanes.mems := by simp [wrongClaim]
@[simp] theorem newOwnerRoot_mems (imported : Bool) (blob : Bytes) (s : State) :
    (newOwnerRoot imported blob s).lanes.mems = s.lanes.mems := by simp [newOwnerRoot]
@[simp] theorem recordOpen_mems (sev : Nat) (s : State) : (recordOpen sev s).lanes.mems = s.lanes.mems := by
  simp [recordOpen]
@[simp] theorem cellBit_mems (k old st : Nat) (s : State) (b : Nat) : (cellBit k old st s b).lanes.mems = s.lanes.mems := by
  simp [cellBit]
@[simp] theorem cellPut_mems (k : Nat) (row : Row) (s : State) : (cellPut k row s).lanes.mems = s.lanes.mems := by
  simp [cellPut]
@[simp] theorem loadTest_mems (k mv : Nat) (s : State) : (loadTest k mv s).lanes.mems = s.lanes.mems := by simp [loadTest]
@[simp] theorem latchLost_mems (s : State) : (latchLost s).lanes.mems = s.lanes.mems := by simp [latchLost]

@[simp] theorem dipEnd_mems (s : State) : (dipEnd s).lanes.mems = s.lanes.mems := by
  unfold dipEnd
  dsimp only
  repeat' split
  all_goals simp

@[simp] theorem outReturn_mems (s : State) (k : Nat) : (outReturn s k).lanes.mems = s.lanes.mems := by simp [outReturn]
@[simp] theorem backupSwitch_mems (s : State) : (backupSwitch s).lanes.mems = s.lanes.mems := by simp [backupSwitch]
@[simp] theorem setCommand_mems (value : Nat) (s : State) (k : Nat) : (setCommand value s k).lanes.mems = s.lanes.mems := by
  simp [setCommand]
@[simp] theorem emitAs_mems (rom : Bool) (o : Out) (s : State) : (emitAs rom o s).lanes.mems = s.lanes.mems := by
  simp [emitAs]
@[simp] theorem streamReply_mems (h : StreamHdr) (styp status next : Nat) (s : State) :
    (streamReply h styp status next s).lanes.mems = s.lanes.mems := by simp [streamReply]

@[simp] theorem discardRow_mems (sticky : Bool) (s : State) (r : Nat) :
    (discardRow sticky s r).lanes.mems = s.lanes.mems := by
  unfold discardRow
  dsimp only
  repeat' split
  all_goals simp

@[simp] theorem streamTake_mems (styp : Nat) (h : StreamHdr) (body : Bytes) (eff : State → State) (s : State)
    (h3 : ∀ s, (eff s).lanes.mems = s.lanes.mems) : (streamTake styp h body eff s).lanes.mems = s.lanes.mems := by
  fun_cases streamTake <;> simp_all

@[simp] theorem openRow_mems (h : StreamHdr) (sha : Bytes) (s : State) (r : Nat) :
    (openRow h sha s r).lanes.mems = s.lanes.mems := by
  unfold openRow
  dsimp only
  repeat' split
  all_goals simp

@[simp] theorem noTransfer_mems (styp : Nat) (h : StreamHdr) (s : State) :
    (noTransfer styp h s).lanes.mems = s.lanes.mems := by simp [noTransfer]

@[simp] theorem endRow_mems (img : ImageHdr) (s : State) (r : Nat) : (endRow img s r).lanes.mems = s.lanes.mems := by
  unfold endRow
  dsimp only
  repeat' split
  all_goals simp

@[simp] theorem recoveryFail_mems (img : ImageHdr) (s : State) (r : Nat) :
    (recoveryFail img s r).lanes.mems = s.lanes.mems := by simp [recoveryFail]
@[simp] theorem commitBank_mems (l : Lane) (s : State) (k : Nat) : (commitBank l s k).lanes.mems = s.lanes.mems := by
  unfold commitBank; dsimp only; split <;> simp
@[simp] theorem commitLane_mems (s : State) (l : Lane) : (commitLane s l).lanes.mems = s.lanes.mems := by simp [commitLane]

@[simp] theorem engWrite_mems (l : Lane) (c : Core) (addr : Nat) (eff : State → State) (s : State)
    (h3 : ∀ s, (eff s).lanes.mems = s.lanes.mems) : (engWrite l c addr eff s).lanes.mems = s.lanes.mems := by
  fun_cases engWrite <;> simp_all

@[simp] theorem refSync_mems (s : State) : (refSync s).lanes.mems = s.lanes.mems := by simp [refSync]
@[simp] theorem phaseRec_mems (x : Nat) (absent : Bool) (s : State) : (phaseRec x absent s).lanes.mems = s.lanes.mems := by
  simp [phaseRec]
@[simp] theorem countCycle_mems (x : Nat) (s : State) : (countCycle x s).lanes.mems = s.lanes.mems := by simp [countCycle]
@[simp] theorem shadowPut_mems (hd n r : Nat) (f : Row → Row) (s : State) :
    (shadowPut hd n r f s).lanes.mems = s.lanes.mems := by simp [shadowPut]
@[simp] theorem loseRecords_mems (rs : List Record) (s : State) : (loseRecords rs s).lanes.mems = s.lanes.mems := by
  simp [loseRecords]
@[simp] theorem putRecord_mems (r : Record) (s : State) : (putRecord r s).lanes.mems = s.lanes.mems := by
  unfold putRecord; split <;> simp
@[simp] theorem openPageAt_mems (p : Nat) (s : State) : (openPageAt p s).lanes.mems = s.lanes.mems := by
  unfold openPageAt; split <;> simp
@[simp] theorem placeRecord_mems (r : Record) (s : State) : (placeRecord r s).1.lanes.mems = s.lanes.mems := by
  fun_cases placeRecord <;> simp_all
@[simp] theorem setWin_mems (w : NoticeWin) (s : State) : (setWin w s).lanes.mems = s.lanes.mems := by simp [setWin]
@[simp] theorem noticeRec_mems (r : Record) (s : State) (p : Nat × Sub) : (noticeRec r s p).lanes.mems = s.lanes.mems := by
  simp [noticeRec]
@[simp] theorem writeRecord.newRecord_mems (r : Record) (s : State) :
    (writeRecord.newRecord r s).lanes.mems = s.lanes.mems := by simp [writeRecord.newRecord]
@[simp] theorem writeRecord_mems (r : Record) (s : State) : (writeRecord r s).lanes.mems = s.lanes.mems := by
  unfold writeRecord; split <;> simp

@[simp] theorem tearRec_mems (s : State) : (tearRec s).lanes.mems = s.lanes.mems := by
  unfold tearRec
  dsimp only
  repeat' split
  all_goals simp

@[simp] theorem sendOrDrop_mems (id : Nat) (b : Sub) (sev flags changes time : Nat) (body : Bytes) (s : State) :
    (sendOrDrop id b sev flags changes time body s).lanes.mems = s.lanes.mems := by simp [sendOrDrop]

@[simp] theorem repeatNotice_mems (id : Nat) (b : Sub) (s : State) (g : Nat × Nat) :
    (repeatNotice id b s g).lanes.mems = s.lanes.mems := by
  unfold repeatNotice; split <;> simp

@[simp] theorem foldNotice_mems (s : State) (w : NoticeWin) : (foldNotice s w).lanes.mems = s.lanes.mems := by
  unfold foldNotice; split <;> simp
@[simp] theorem repeatNotices_mems (s : State) (p : Nat × Sub) : (repeatNotices s p).lanes.mems = s.lanes.mems := by
  simp [repeatNotices]
@[simp] theorem trkBatch_mems (s0 s : State) : (trkBatch s0 s).lanes.mems = s.lanes.mems := by simp [trkBatch]
@[simp] theorem enqueue_mems (f : TrajFrame) (s : State) (x : Nat) : (enqueue f s x).lanes.mems = s.lanes.mems := by
  simp [enqueue]

@[simp] theorem sendBranch_mems (n b : Nat) (hops : List Hop) (s : State) :
    (sendBranch n b hops s).lanes.mems = s.lanes.mems := by
  unfold sendBranch
  dsimp only
  split
  · rfl
  · split
    · rfl
    · exact foldl_mems (enqueue_mems _) _ _

@[simp] theorem issue_mems (n : Nat) (s : State) : (issue n s).lanes.mems = s.lanes.mems := by simp [issue]
@[simp] theorem sendEnd_mems (n b : Nat) (hops : List Hop) (s : State) :
    (sendEnd n b hops s).lanes.mems = s.lanes.mems := by simp [sendEnd]
@[simp] theorem endTrack_mems (n : Nat) (s : State) : (endTrack n s).lanes.mems = s.lanes.mems := by simp [endTrack]
@[simp] theorem endMerged_mems (n : Nat) (s : State) : (endMerged n s).lanes.mems = s.lanes.mems := by simp [endMerged]
@[simp] theorem endAllTracks_mems (s : State) : (endAllTracks s).lanes.mems = s.lanes.mems := by simp [endAllTracks]
@[simp] theorem sendHandoff_mems (n hseq v dist : Nat) (s : State) :
    (sendHandoff n hseq v dist s).lanes.mems = s.lanes.mems := by simp [sendHandoff]
@[simp] theorem tryHandoff_mems (n : Nat) (s : State) : (tryHandoff n s).lanes.mems = s.lanes.mems := by
  unfold tryHandoff; dsimp only; split <;> simp
@[simp] theorem tryHandoffs_mems (s : State) : (tryHandoffs s).lanes.mems = s.lanes.mems := by simp [tryHandoffs]
@[simp] theorem mergeTrack_mems (n : Nat) (s : State) : (mergeTrack n s).1.lanes.mems = s.lanes.mems := by
  unfold mergeTrack; split <;> simp
@[simp] theorem boundSync_mems (detail : Nat) (s : State) : (boundSync detail s).lanes.mems = s.lanes.mems := by
  simp [boundSync]
@[simp] theorem boundCommit_mems (s0 s : State) : (boundCommit s0 s).lanes.mems = s.lanes.mems := by simp [boundCommit]
@[simp] theorem clearHistory_mems (s : State) (v : Nat) : (clearHistory s v).lanes.mems = s.lanes.mems := by
  simp [clearHistory]
@[simp] theorem graphCommit_mems (rows : List Nat) (s0 s : State) : (graphCommit rows s0 s).lanes.mems = s.lanes.mems := by
  simp [graphCommit]
@[simp] theorem giveReg_mems (l : Lane) (c : Core) (a v : Nat) (s : State) :
    (giveReg l c a v s).lanes.mems = s.lanes.mems := by simp [giveReg]

@[simp] theorem giveOr_mems (l : Lane) (c : Core) (a : Nat) (v : Option Nat) (s : State) :
    (giveOr l c a v s).lanes.mems = s.lanes.mems := by
  unfold giveOr; split <;> simp

@[simp] theorem giveFree_mems (l : Lane) (c : Core) (a : Nat) (s : State) :
    (giveFree l c a s).lanes.mems = s.lanes.mems := by simp [giveFree]

@[simp] theorem mramRead_mems (l : Lane) (c : Core) (a : Nat) (s : State) :
    (mramRead l c a s).lanes.mems = s.lanes.mems := by
  fun_cases mramRead <;> simp_all

@[simp] theorem flashRead_mems (l : Lane) (c : Core) (a : Nat) (s : State) :
    (flashRead l c a s).lanes.mems = s.lanes.mems := by
  unfold flashRead
  dsimp only
  repeat' split
  all_goals simp

@[simp] theorem lcbRead_mems (l : Lane) (c : Core) (off : Nat) (s : State) :
    (lcbRead l c off s).lanes.mems = s.lanes.mems := by simp [lcbRead]
@[simp] theorem icuRead_mems (l : Lane) (c : Core) (off : Nat) (s : State) :
    (icuRead l c off s).lanes.mems = s.lanes.mems := by simp [icuRead]

theorem icuWriteEff_mems {l : Lane} {off v : Nat} {s : State} :
    ∀ u, icuWriteEff l off v s = some u → u.lanes.mems = s.lanes.mems := by
  fun_cases icuWriteEff l off v s
  all_goals rintro _ ⟨⟩
  all_goals simp

@[simp] theorem icuWrite_mems (l : Lane) (c : Core) (off v : Nat) (s : State) :
    (icuWrite l c off v s).lanes.mems = s.lanes.mems := by
  unfold icuWrite
  dsimp only
  split
  · simp
  · split
    · next h => exact icuWriteEff_mems _ h
    · simp

@[simp] theorem gourWrite_mems (l : Lane) (c : Core) (off v : Nat) (s : State) :
    (gourWrite l c off v s).lanes.mems = s.lanes.mems := by
  unfold gourWrite; split <;> simp

@[simp] theorem busWdWrite_mems (l : Lane) (k v : Nat) (s : State) : (busWdWrite l k v s).lanes.mems = s.lanes.mems := by
  simp [busWdWrite]
@[simp] theorem engCtrl_mems (l : Lane) (e v : Nat) (s : State) : (engCtrl l e v s).lanes.mems = s.lanes.mems := by
  simp [engCtrl]

@[simp] theorem engRegWrite_mems (l : Lane) (c : Core) (a v : Nat) (s : State) :
    (engRegWrite l c a v s).lanes.mems = s.lanes.mems := by
  unfold engRegWrite; dsimp only; split <;> simp

@[simp] theorem vaultWrite_mems (l : Lane) (c : Core) (off v : Nat) (s : State) :
    (vaultWrite l c off v s).lanes.mems = s.lanes.mems := by
  unfold vaultWrite
  dsimp only
  repeat' split
  all_goals simp

@[simp] theorem sliceCharge_mems (r : Nat) (s : State) : (sliceCharge r s).1.lanes.mems = s.lanes.mems := by
  fun_cases sliceCharge <;> simp_all
@[simp] theorem sliceString_mems (on : Bool) (k : Nat) (s : State) : (sliceString on k s).lanes.mems = s.lanes.mems := by
  simp [sliceString]
@[simp] theorem sliceDrive_mems (r : Nat) (s : State) : (sliceDrive r s).lanes.mems = s.lanes.mems := by simp [sliceDrive]
@[simp] theorem markSlice_mems (k : Nat) (o : SliceObs) (s : State) : (markSlice k o s).lanes.mems = s.lanes.mems := by
  simp [markSlice]
@[simp] theorem failEffect_mems (r : Nat) (o : SliceObs) (s : State) : (failEffect r o s).lanes.mems = s.lanes.mems := by
  fun_cases failEffect <;> simp_all
@[simp] theorem passEffect_mems (r : Nat) (s : State) : (passEffect r s).lanes.mems = s.lanes.mems := by simp [passEffect]
@[simp] theorem selfTestRec_mems (r res : Nat) (m : Int) (s : State) :
    (selfTestRec r res m s).lanes.mems = s.lanes.mems := by simp [selfTestRec]
@[simp] theorem classBit_mems (c row : Nat) (s : State) : (classBit c row s).lanes.mems = s.lanes.mems := by simp [classBit]
@[simp] theorem stResult_mems (r res : Nat) (m : Int) (transient : Bool) (s : State) :
    (stResult r res m transient s).lanes.mems = s.lanes.mems := by simp [stResult]
@[simp] theorem suspectSync_mems (s : State) : (suspectSync s).lanes.mems = s.lanes.mems := by simp [suspectSync]
@[simp] theorem sliceFound_mems (x : Slice) (o : SliceObs) (s : State) : (sliceFound x o s).lanes.mems = s.lanes.mems := by
  simp [sliceFound]
@[simp] theorem sliceReturn_mems (s : State) : (sliceReturn s).lanes.mems = s.lanes.mems := by simp [sliceReturn]
@[simp] theorem sliceAbort_mems (s : State) : (sliceAbort s).lanes.mems = s.lanes.mems := by
  unfold sliceAbort; dsimp only; split <;> simp
@[simp] theorem testEnabled_mems (s : State) : (testEnabled s).lanes.mems = s.lanes.mems := by simp [testEnabled]
@[simp] theorem passage_mems (v cls : Nat) (s : State) : (passage v cls s).lanes.mems = s.lanes.mems := by simp [passage]
@[simp] theorem countTurn_mems (cls : Nat) (s : State) (x : Nat × Nat × Nat) :
    (countTurn cls s x).lanes.mems = s.lanes.mems := by simp [countTurn]

@[simp] theorem settleTrack_mems (n : Nat) (send : Bool) (s : State) :
    (settleTrack n send s).lanes.mems = s.lanes.mems := by
  have merged := mergeTrack_mems n s
  unfold settleTrack
  split <;> simp_all

@[simp] theorem takeEvent_mems (n : Nat) (p : Presence) (s : State) : (takeEvent n p s).lanes.mems = s.lanes.mems := by
  simp [takeEvent]
@[simp] theorem startTrack_mems (p : Presence) (s : State) : (startTrack p s).lanes.mems = s.lanes.mems := by
  unfold startTrack; split <;> simp
@[simp] theorem handoffLost_mems (n : Nat) (h : Handing) (s : State) : (handoffLost n h s).lanes.mems = s.lanes.mems := by
  simp [handoffLost]
@[simp] theorem answerHandoff_mems (m : HandoffMsg) (track status : Nat) (s : State) :
    (answerHandoff m track status s).lanes.mems = s.lanes.mems := by simp [answerHandoff]
@[simp] theorem ageHour_mems (day hour : Nat) (s : State) (v : Nat) : (ageHour day hour s v).lanes.mems = s.lanes.mems := by
  simp [ageHour]
@[simp] theorem ageTurns_mems (s : State) (v : Nat) : (ageTurns s v).lanes.mems = s.lanes.mems := by simp [ageTurns]
@[simp] theorem updZone_mems (z : Nat) (f : Zone → Zone) (s : State) : (updZone z f s).lanes.mems = s.lanes.mems := by
  simp [updZone]
@[simp] theorem applyClass_mems (z : Nat) (s : State) : (applyClass z s).lanes.mems = s.lanes.mems := by simp [applyClass]
@[simp] theorem applyOverride_mems (z : Nat) (s : State) : (applyOverride z s).lanes.mems = s.lanes.mems := by
  simp [applyOverride]
@[simp] theorem adaptZone_mems (s : State) (z : Nat) : (adaptZone s z).lanes.mems = s.lanes.mems := by simp [adaptZone]
@[simp] theorem zonesChanged_mems (s0 s : State) (z : Nat) : (zonesChanged s0 s z).lanes.mems = s.lanes.mems := by
  simp [zonesChanged]
@[simp] theorem withRows_mems (m : NMap Row) (s : State) : (withRows m s).lanes.mems = s.lanes.mems := by simp [withRows]
@[simp] theorem restoreBank_mems (b : Nat) (s : State) : (restoreBank b s).lanes.mems = s.lanes.mems := by
  simp [restoreBank]
@[simp] theorem overlay_mems (q : Sequence) (s : State) : (overlay q s).lanes.mems = s.lanes.mems := by simp [overlay]
@[simp] theorem calSource_mems (s : State) (r : Nat) : (calSource s r).lanes.mems = s.lanes.mems := by simp [calSource]
@[simp] theorem recalRange_mems (s0 s : State) (c : Nat) : (recalRange s0 s c).lanes.mems = s.lanes.mems := by
  simp [recalRange]
@[simp] theorem calUnused_mems (s : State) (r : Nat) : (calUnused s r).lanes.mems = s.lanes.mems := by simp [calUnused]
@[simp] theorem ratioCut_mems (s0 : State) (ks : List Nat) (s : State) : (ratioCut s0 ks s).lanes.mems = s.lanes.mems := by
  simp [ratioCut]
@[simp] theorem calSettle_mems (s0 : State) (ks : List Nat) (s : State) :
    (calSettle s0 ks s).lanes.mems = s.lanes.mems := by simp [calSettle]
@[simp] theorem wearWord_mems (s : State) (k : Nat) : (wearWord s k).lanes.mems = s.lanes.mems := by simp [wearWord]
@[simp] theorem rebook_mems (s : State) (b : Booking) : (rebook s b).lanes.mems = s.lanes.mems := by
  unfold rebook; dsimp only; split <;> simp
@[simp] theorem xcvrChanged_mems (s0 s : State) (x : Nat) : (xcvrChanged s0 s x).lanes.mems = s.lanes.mems := by
  simp [xcvrChanged]
@[simp] theorem clusterChanged_mems (s0 s : State) (c : Nat) : (clusterChanged s0 s c).lanes.mems = s.lanes.mems := by
  simp [clusterChanged]
@[simp] theorem strayBookings_mems (s : State) : (strayBookings s).lanes.mems = s.lanes.mems := by simp [strayBookings]
@[simp] theorem directoryChanged_mems (s0 s : State) (n : Nat) : (directoryChanged s0 s n).lanes.mems = s.lanes.mems := by
  simp [directoryChanged]
@[simp] theorem floorsChanged_mems (s0 s : State) : (floorsChanged s0 s).lanes.mems = s.lanes.mems := by
  simp [floorsChanged]
@[simp] theorem overrideWaits_mems (s : State) (z : Nat) : (overrideWaits s z).lanes.mems = s.lanes.mems := by
  simp [overrideWaits]
@[simp] theorem engineChanged_mems (s : State) (e : Nat) : (engineChanged s e).lanes.mems = s.lanes.mems := by
  simp [engineChanged]
@[simp] theorem busChanged_mems (s : State) (k : Nat) : (busChanged s k).lanes.mems = s.lanes.mems := by simp [busChanged]
@[simp] theorem alarmChanged_mems (s : State) (a : Nat) : (alarmChanged s a).lanes.mems = s.lanes.mems := by
  simp [alarmChanged]
@[simp] theorem effectsSys_mems (s0 : State) (ks : List Nat) (client : Bytes) (s : State) :
    (effectsSys s0 ks client s).lanes.mems = s.lanes.mems := by simp [effectsSys]
@[simp] theorem effectsStreet_mems (s0 : State) (ks : List Nat) (plain : Bool) (s : State) :
    (effectsStreet s0 ks plain s).lanes.mems = s.lanes.mems := by simp [effectsStreet]
@[simp] theorem effectsUnits_mems (s0 : State) (ks : List Nat) (s : State) :
    (effectsUnits s0 ks s).lanes.mems = s.lanes.mems := by simp [effectsUnits]

@[simp] theorem changeSettings_mems {f : State → State} {s : State} (h : (f s).lanes.mems = s.lanes.mems) (ks : List Nat)
    (client : Bytes) (plain : Bool) : (changeSettings f ks client plain s).lanes.mems = s.lanes.mems := by
  simp [changeSettings, h]

@[simp] theorem applyCommit_mems (hd : Nat) (s : State) : (applyCommit hd s).lanes.mems = s.lanes.mems := by
  unfold applyCommit; split <;> simp
@[simp] theorem settingsGone_mems (s : State) : (settingsGone s).lanes.mems = s.lanes.mems := by simp [settingsGone]
@[simp] theorem ownerGone_mems (s : State) : (ownerGone s).lanes.mems = s.lanes.mems := by simp [ownerGone]
@[simp] theorem endSession_mems (sid : Nat) (s : State) : (endSession sid s).lanes.mems = s.lanes.mems := by
  simp [endSession]

@[simp] theorem dropAssoc_mems (a : Nat) (s : State) : (dropAssoc a s).lanes.mems = s.lanes.mems := by
  unfold dropAssoc
  dsimp only
  repeat' split
  all_goals simp

@[simp] theorem openSession_mems (h : Hdr) (a : Assoc) (client : Bytes) (idle : Nat) (s : State) :
    (openSession h a client idle s).lanes.mems = s.lanes.mems := by simp [openSession]

@[simp] theorem takeAck_mems (sid compSeq : Nat) (h : Hdr) (s : State) :
    (takeAck sid compSeq h s).lanes.mems = s.lanes.mems := by
  unfold takeAck; split <;> simp

@[simp] theorem sendHeld_mems (s : State) (p : Nat × Completion) : (sendHeld s p).lanes.mems = s.lanes.mems := by
  simp [sendHeld]
@[simp] theorem applyDue_mems (s : State) : (applyDue s).lanes.mems = s.lanes.mems := by simp [applyDue]
@[simp] theorem enterHoldover_mems (s : State) : (enterHoldover s).lanes.mems = s.lanes.mems := by simp [enterHoldover]
@[simp] theorem endHoldover_mems (s : State) : (endHoldover s).lanes.mems = s.lanes.mems := by simp [endHoldover]
@[simp] theorem relock_mems (corr : Int) (slewAsn : Bool) (s : State) :
    (relock corr slewAsn s).lanes.mems = s.lanes.mems := by simp [relock]

@[simp] theorem lockCheckPtp_mems (offset : Int) (s : State) : (lockCheckPtp offset s).lanes.mems = s.lanes.mems := by
  unfold lockCheckPtp
  dsimp only
  repeat' split
  all_goals simp

@[simp] theorem syncHeard_mems (offset : Int) (s : State) : (syncHeard offset s).lanes.mems = s.lanes.mems := by
  simp [syncHeard]
@[simp] theorem realign_mems (l : Lane) (s : State) : (realign l s).lanes.mems = s.lanes.mems := by simp [realign]

@[simp] theorem secondSamples_mems (s : State) : (secondSamples s).lanes.mems = s.lanes.mems := by
  simp only [secondSamples, ite_mems, sumSample_mems, ite_self]
  repeat' split
  all_goals simp only [sumSample_mems]

@[simp] theorem setTrim_mems (source : Nat) (v : Int) (s : State) : (setTrim source v s).lanes.mems = s.lanes.mems := by
  simp [setTrim]
@[simp] theorem beginCorrection_mems (corr : Int) (src : Nat) (client : Bytes) (s : State) :
    (beginCorrection corr src client s).lanes.mems = s.lanes.mems := by simp [beginCorrection]
@[simp] theorem noticeHeard_mems (p node : Nat) (n : Bytes) (s : State) :
    (noticeHeard p node n s).lanes.mems = s.lanes.mems := by simp [noticeHeard]

@[simp] theorem handshake_mems (isOffer : Bool) (p : Nat) (m : OfferMsg) (s : State) :
    (handshake isOffer p m s).lanes.mems = s.lanes.mems := by
  unfold handshake; dsimp only; split <;> simp

@[simp] theorem storeFrame_mems (p : Nat) (f : TrunkFrame) (s : State) : (storeFrame p f s).lanes.mems = s.lanes.mems := by
  simp [storeFrame]
@[simp] theorem spoilFrame_mems (p : Nat) (f : TrunkFrame) (s : State) : (spoilFrame p f s).lanes.mems = s.lanes.mems := by
  unfold spoilFrame; split <;> simp
@[simp] theorem forwardFrame_mems (p e : Nat) (f : TrunkFrame) (s : State) :
    (forwardFrame p e f s).lanes.mems = s.lanes.mems := by simp [forwardFrame]
@[simp] theorem noteHead_mems (peer : Peer) (src : Nat) (s : State) : (noteHead peer src s).lanes.mems = s.lanes.mems := by
  simp [noteHead]
@[simp] theorem relayTo_mems (dst : Nat) (peer : Peer) (module tclass size : Nat) (s : State) :
    (relayTo dst peer module tclass size s).lanes.mems = s.lanes.mems := by simp [relayTo]
@[simp] theorem silentSync_mems (detail : Nat) (s : State) : (silentSync detail s).lanes.mems = s.lanes.mems := by
  simp [silentSync]
@[simp] theorem wipe_mems (s : State) : (wipe s).lanes.mems = s.lanes.mems := by simp [wipe]
@[simp] theorem stopLanes_mems (s : State) : (stopLanes s).lanes.mems = s.lanes.mems := rfl
@[simp] theorem foldRealigned_mems (s : State) : (foldRealigned s).lanes.mems = s.lanes.mems := by simp [foldRealigned]
@[simp] theorem scanRec_mems (s : State) : (scanRec s).lanes.mems = s.lanes.mems := by
  unfold scanRec; dsimp only; split <;> simp
@[simp] theorem unsealVault_mems (s : State) (l : Lane) : (unsealVault s l).lanes.mems = s.lanes.mems := by
  simp [unsealVault]
@[simp] theorem resumeEpoch_mems (s : State) : (resumeEpoch s).lanes.mems = s.lanes.mems := by
  unfold resumeEpoch; split <;> simp

@[simp] theorem readEntry_mems (s : State) (e : JEntry) : (readEntry s e).lanes.mems = s.lanes.mems := by
  unfold readEntry
  dsimp only
  repeat' split
  all_goals simp

@[simp] theorem readJournal_mems (s : State) : (readJournal s).lanes.mems = s.lanes.mems := by simp [readJournal]
@[simp] theorem lateSuspend_mems (s : State) : (lateSuspend s).lanes.mems = s.lanes.mems := by
  unfold lateSuspend; split <;> simp
@[simp] theorem copyStores_mems (s : State) : (copyStores s).lanes.mems = s.lanes.mems := by simp [copyStores]
@[simp] theorem ratchet_mems (s : State) : (ratchet s).lanes.mems = s.lanes.mems := by simp [ratchet]
@[simp] theorem zoneAnew_mems (s : State) (z : Nat) : (zoneAnew s z).lanes.mems = s.lanes.mems := by simp [zoneAnew]
@[simp] theorem startTraffic_mems (s : State) : (startTraffic s).lanes.mems = s.lanes.mems := by simp [startTraffic]
@[simp] theorem startLed_mems (s : State) : (startLed s).lanes.mems = s.lanes.mems := by simp [startLed]
@[simp] theorem startPorts_mems (s : State) : (startPorts s).lanes.mems = s.lanes.mems := by simp [startPorts]
@[simp] theorem startService_mems (l : Lane) (s : State) : (startService l s).lanes.mems = s.lanes.mems := by
  simp [startService]
@[simp] theorem startRole_mems (l : Lane) (r : Role) (s : State) : (startRole l r s).lanes.mems = s.lanes.mems := by
  simp [startRole]
@[simp] theorem startOther_mems (o : Lane) (s : State) : (startOther o s).lanes.mems = s.lanes.mems := by simp [startOther]
@[simp] theorem markSwitch_mems (s : State) : (markSwitch s).lanes.mems = s.lanes.mems := by simp [markSwitch]
@[simp] theorem refuseB_mems (s : State) : (refuseB s).lanes.mems = s.lanes.mems := by simp [refuseB]
@[simp] theorem startAlone_mems (l : Lane) (s : State) : (startAlone l s).lanes.mems = s.lanes.mems := by simp [startAlone]
@[simp] theorem yieldToA_mems (s : State) : (yieldToA s).lanes.mems = s.lanes.mems := by simp [yieldToA]
@[simp] theorem retryOwner_mems (s : State) : (retryOwner s).lanes.mems = s.lanes.mems := by
  unfold retryOwner; split <;> simp
@[simp] theorem scrapStop_mems (s : State) : (scrapStop s).lanes.mems = s.lanes.mems := by simp [scrapStop]
@[simp] theorem endDrain_mems (s : State) : (endDrain s).lanes.mems = s.lanes.mems := by
  unfold endDrain; dsimp only; split <;> simp
@[simp] theorem retentionLoss_mems (canaryOk : Bool) (s : State) :
    (retentionLoss canaryOk s).lanes.mems = s.lanes.mems := by simp [retentionLoss]
@[simp] theorem settleRetention_mems (canaryOk : Bool) (s : State) :
    (settleRetention canaryOk s).lanes.mems = s.lanes.mems := by simp [settleRetention]
@[simp] theorem awaitSnap_mems (a : Nat) (w : List (Nat × Nat)) (s : State) :
    (awaitSnap a w s).lanes.mems = s.lanes.mems := by simp [awaitSnap]
@[simp] theorem answerSurvey_mems (v : CascadeSurvey) (s : State) : (answerSurvey v s).lanes.mems = s.lanes.mems := by
  unfold answerSurvey; split <;> simp
@[simp] theorem answerFull_mems (s : State) : (answerFull s).lanes.mems = s.lanes.mems := by simp [answerFull]
@[simp] theorem serveSnap_mems (seq : Nat) (one own : Bytes) (s : State) (w : Nat × Nat) :
    (serveSnap seq one own s w).lanes.mems = s.lanes.mems := by simp [serveSnap]
@[simp] theorem takeSnap_mems (p : Nat × List (Nat × Nat)) (s : State) : (takeSnap p s).lanes.mems = s.lanes.mems := by
  simp [takeSnap]

end Sys2Proof.Machine
end

section
/-!
PROOFS. The memories of the lanes where a lane may restart: its tightly coupled memories are dropped, MRAM reads as before
and the canonical form stays.
-/
namespace Sys2Proof.Machine

open Sys2Proof.Safety

@[simp] theorem okEmpty_fst (s : State) : (okEmpty s).1 = s := rfl
@[simp] theorem okAsn_fst (a : Nat) (s : State) : (okAsn a s).1 = s := rfl
@[simp] theorem okVals_fst (cols : List ColKind) (l : List Val) (s : State) : (okVals cols l s).1 = s := rfl
@[simp] theorem refuse_fst (r : Reply) (s : State) : (refuse r s).1 = s := rfl

@[simp] theorem ite_fst_mems {α : Type} {c : Prop} [Decidable c] (x y : State × α) :
    (if c then x else y).1.lanes.mems = if c then x.1.lanes.mems else y.1.lanes.mems :=
  apply_ite (fun x : State × α => x.1.lanes.mems) c x y

@[simp] theorem clearSticky_mems (rows : List (Nat × Row)) (s : State) :
    (clearSticky rows s).lanes.mems = s.lanes.mems := by
  simp [clearSticky]

@[simp] theorem clearBits_mems (n : Nat) (rows : List (Nat × Row)) (s : State) :
    (clearBits n rows s).lanes.mems = s.lanes.mems := by
  simp [clearBits]

@[simp] theorem openSeq_mems (mask lease sid : Nat) (x : Session) (n : Named) (s : State) :
    (openSeq mask lease sid x n s).1.lanes.mems = s.lanes.mems := by
  cases n <;> rfl

@[simp] theorem writeOp_mems (h : Hdr) (rows : List (Nat × Row)) (sid : Nat) (x : Session) (d : ObjDesc) (s : State) :
    (writeOp h rows sid x d s).1.lanes.mems = s.lanes.mems := by
  unfold writeOp
  dsimp only
  repeat' split
  all_goals simp

@[simp] theorem commitOp_mems (hd : Nat) (q : Sequence) (s : State) : (commitOp hd q s).1.lanes.mems = s.lanes.mems := by
  unfold commitOp
  dsimp only
  split <;> simp

@[simp] theorem readOp_mems (h : Hdr) (sid : Nat) (x : Session) (s : State) :
    (readOp h sid x s).1.lanes.mems = s.lanes.mems := by
  unfold readOp
  dsimp only
  repeat' split
  all_goals simp

@[simp] theorem putSub_mems (sid : Nat) (h : Hdr) (subId mode minSev interval : Nat) (s : State) :
    (putSub sid h subId mode minSev interval s).1.lanes.mems = s.lanes.mems := by
  simp [putSub]

/-- From a canonical memory comes a canonical one (log entry 9), and the bytes at the addresses `P` read as they did. -/
structure MemKept (P : Nat → Prop) (m m' : List Host.Cell) : Prop where
  wf : Memory.wf m = true → Memory.wf m' = true
  read : ∀ a, P a → memRead m' a = memRead m a

theorem MemKept.refl {P : Nat → Prop} (m : List Host.Cell) : MemKept P m m := ⟨id, fun _ _ => rfl⟩

theorem MemKept.trans {P : Nat → Prop} {m m' m'' : List Host.Cell} (h : MemKept P m m') (k : MemKept P m' m'') :
    MemKept P m m'' :=
  ⟨k.wf ∘ h.wf, fun a ha => (k.read a ha).trans (h.read a ha)⟩

theorem MemKept.mono {P Q : Nat → Prop} {m m' : List Host.Cell} (h : MemKept P m m') (hQ : ∀ a, Q a → P a) :
    MemKept Q m m' :=
  ⟨h.wf, fun a ha => h.read a (hQ a ha)⟩

/-- The addresses of a lane's MRAM (R22). -/
def mramAddr (a : Nat) : Prop := 0x20000000 ≤ a ∧ a < 0x21000000

/-- A canonical memory stays so where cells are dropped. -/
theorem memWfFrom_mono {lo hi : Nat} (h : lo ≤ hi) {m : List Host.Cell} (wf : memWfFrom hi m = true) :
    memWfFrom lo m = true := by
  cases m with
  | nil => rfl
  | cons p r =>
    simp only [memWfFrom, Bool.and_eq_true, decide_eq_true_eq] at wf ⊢
    exact ⟨⟨by omega, wf.1.2⟩, wf.2⟩

theorem memWfFrom_filter (p : Host.Cell → Bool) {lo : Nat} {m : List Host.Cell} (wf : memWfFrom lo m = true) :
    memWfFrom lo (m.filter p) = true := by
  induction m generalizing lo with
  | nil => rfl
  | cons c r ih =>
    simp only [memWfFrom, Bool.and_eq_true, decide_eq_true_eq] at wf
    obtain ⟨⟨hlo, hne⟩, wf⟩ := wf
    rw [List.filter_cons]
    split
    · simp only [memWfFrom, Bool.and_eq_true, decide_eq_true_eq]
      exact ⟨⟨hlo, hne⟩, ih wf⟩
    · exact memWfFrom_mono (by omega) (ih wf)

/-- A filter on addresses changes no byte that it keeps. -/
theorem memRead_filter {p : Nat → Bool} {k : Nat} (hk : p k = true) (m : List Host.Cell) :
    memRead (m.filter (fun c => p c.1)) k = memRead m k := by
  induction m with
  | nil => rfl
  | cons c r ih =>
    rw [List.filter_cons]
    split
    · simp [memRead, ih]
    · next h =>
      have hne : k ≠ c.1 := by rintro rfl; exact h hk
      simp [memRead, hne, ih]

/-- What `MemKept` says, of both lanes. -/
def Kept (P : Nat → Prop) (m m' : List Host.Cell × List Host.Cell) : Prop := MemKept P m.1 m'.1 ∧ MemKept P m.2 m'.2
@[simp] theorem Kept.refl {P : Nat → Prop} (m : List Host.Cell × List Host.Cell) : Kept P m m := ⟨.refl _, .refl _⟩

theorem Kept.trans {P : Nat → Prop} {m m' m'' : List Host.Cell × List Host.Cell} (h : Kept P m m') (k : Kept P m' m'') :
    Kept P m m'' :=
  ⟨h.1.trans k.1, h.2.trans k.2⟩

theorem Kept.mono {P Q : Nat → Prop} {m m' : List Host.Cell × List Host.Cell} (h : Kept P m m') (hQ : ∀ a, Q a → P a) :
    Kept Q m m' :=
  ⟨h.1.mono hQ, h.2.mono hQ⟩

@[simp] theorem kept_ite {P : Nat → Prop} {c : Prop} [Decidable c] {m x y : List Host.Cell × List Host.Cell} :
    Kept P m (if c then x else y) ↔ if c then Kept P m x else Kept P m y := by
  split <;> rfl

theorem Pair.upd_kept {P : Nat → Prop} {f : LaneSt → LaneSt} (h : ∀ x, MemKept P x.mem (f x).mem) (l : Lane)
    (p : Pair LaneSt) :
    Kept P p.mems (p.upd l f).mems := by
  cases l
  · exact ⟨h p.a, .refl _⟩
  · exact ⟨.refl _, h p.b⟩

theorem foldl_kept {P : Nat → Prop} {m : List Host.Cell × List Host.Cell} {s : State} (h : Kept P m s.lanes.mems) {β : Type}
    {f : State → β → State}
    (hf : ∀ s b, Kept P s.lanes.mems (f s b).lanes.mems) (l : List β) : Kept P m (l.foldl f s).lanes.mems := by
  induction l generalizing s with
  | nil => exact h
  | cons b r ih => exact ih (h.trans (hf s b))

theorem resetLaneSt_kept (now t64 : Nat) (x : LaneSt) : MemKept mramAddr x.mem (resetLaneSt now t64 x).mem :=
  ⟨memWfFrom_filter _, fun _ ha =>
    memRead_filter (p := fun a => decide (0x20000000 ≤ a ∧ a < 0x21000000)) (decide_eq_true ha) x.mem⟩

@[simp] theorem upd_resetLaneSt_kept {m : List Host.Cell × List Host.Cell} {p : Pair LaneSt} (h : Kept mramAddr m p.mems)
    (l : Lane) (now t64 : Nat) :
    Kept mramAddr m (p.upd l (resetLaneSt now t64)).mems := h.trans (Pair.upd_kept (resetLaneSt_kept now t64) l p)

section
variable {m : List Host.Cell × List Host.Cell} {s : State} (h : Kept mramAddr m s.lanes.mems)
include h
@[simp] theorem restartLane_kept (l : Lane) : Kept mramAddr m (restartLane l s).lanes.mems := by
  simp [restartLane, h]
@[simp] theorem condemn_kept (l : Lane) (c : Condemn) : Kept mramAddr m (condemn l c s).lanes.mems := by
  simp [condemn, h]
@[simp] theorem eccUncorrectable_kept (l : Lane) : Kept mramAddr m (eccUncorrectable l s).lanes.mems := by
  simp [eccUncorrectable, h]
@[simp] theorem eccCorrected_kept (l : Lane) : Kept mramAddr m (eccCorrected l s).lanes.mems := by
  simp [eccCorrected, h]
@[simp] theorem sumpPoison_kept (l : Lane) (q n : Nat) : Kept mramAddr m (sumpPoison l q n s).lanes.mems := by
  simp [sumpPoison, h]
@[simp] theorem bootLane_kept (l : Lane) : Kept mramAddr m (bootLane s l).lanes.mems := by
  simp [bootLane, h]
@[simp] theorem bootModule_kept (c : StartCause) : Kept mramAddr m (bootModule c s).lanes.mems := by
  simp [bootModule, h]
@[simp] theorem restartModule_kept (c : StartCause) : Kept mramAddr m (restartModule c s).lanes.mems := by
  simp [restartModule, h]

@[simp] theorem activeLost_kept (l : Lane) : Kept mramAddr m (activeLost l s).lanes.mems := by
  unfold activeLost
  repeat' split
  all_goals simp [h]

@[simp] theorem afterReply_kept : Kept mramAddr m (afterReply s).lanes.mems := by
  unfold afterReply
  split <;> simp [h]

@[simp] theorem decide289_kept (l : Lane) : Kept mramAddr m (decide289 l s).1.lanes.mems := by
  simp [decide289, h]

@[simp] theorem engineTake_kept (l : Lane) (q : Nat) : Kept mramAddr m (engineTake l q s).lanes.mems := by
  unfold engineTake
  dsimp only
  have fixed (n : Nat) (s : State) (h : Kept mramAddr m s.lanes.mems) :
      Kept mramAddr m ((List.range n).foldl (fun s _ => eccCorrected l (icuRaiseAt l 153 s)) s).lanes.mems :=
    foldl_kept h (fun s _ => by simp) _
  split
  · exact h
  · split <;> simp [fixed, h]

@[simp] theorem sumpRead_kept (l : Lane) (c : Core) (q : Nat) (pair : Bool) :
    Kept mramAddr m (sumpRead l c q pair s).lanes.mems := by
  unfold sumpRead
  dsimp only
  split <;> simp [h]

@[simp] theorem sumpPeek_kept (l : Lane) (c : Core) (q : Nat) : Kept mramAddr m (sumpPeek l c q s).lanes.mems := by
  unfold sumpPeek
  dsimp only
  split <;> simp [h]

@[simp] theorem sumpRegRead_kept (l : Lane) (c : Core) (off : Nat) :
    Kept mramAddr m (sumpRegRead l c off s).lanes.mems := by
  simp [sumpRegRead, h]

@[simp] theorem wdataWrite_kept (l : Lane) (c : Core) (q : Nat) (v : Word32) :
    Kept mramAddr m (wdataWrite l c q v s).lanes.mems := by
  unfold wdataWrite
  dsimp only
  repeat' split
  all_goals simp [h]

@[simp] theorem sumpRegWrite_kept (l : Lane) (c : Core) (off v : Nat) :
    Kept mramAddr m (sumpRegWrite l c off v s).lanes.mems := by
  unfold sumpRegWrite
  dsimp only
  repeat' split
  all_goals simp [h]

@[simp] theorem unstall_kept (l : Lane) (q : Nat) : Kept mramAddr m (unstall l q s).lanes.mems := by
  unfold unstall
  split <;> simp [h]

@[simp] theorem localTrip_kept (l : Lane) (n : Nat) : Kept mramAddr m (localTrip l n s).lanes.mems := by
  unfold localTrip
  dsimp only
  split <;> simp [h]

@[simp] theorem oldActive_kept (l : Lane) (cause : Nat) : Kept mramAddr m (oldActive l cause s).lanes.mems := by
  simp [oldActive, h]
@[simp] theorem takeOver_kept (l : Lane) (cause : Nat) : Kept mramAddr m (takeOver l cause s).lanes.mems := by
  by_cases first : cause = 1 <;> simp [takeOver, first, h]
@[simp] theorem voidSwitch_kept (w : Switch) : Kept mramAddr m (voidSwitch w s).lanes.mems := by
  simp [voidSwitch, h]
@[simp] theorem effectSwitch_kept (w : Switch) : Kept mramAddr m (effectSwitch w s).lanes.mems := by
  simp [effectSwitch, h]
@[simp] theorem parityScan_kept (l : Lane) (ok : Bool) : Kept mramAddr m (parityScan l ok s).lanes.mems := by
  simp [parityScan, h]

@[simp] theorem regRead_kept (l : Lane) (c : Core) (a : Nat) : Kept mramAddr m (regRead l c a s).lanes.mems := by
  simp only [regRead, ite_mems, busErr_mems, giveReg_mems, mramRead_mems, flashRead_mems, lcbRead_mems, icuRead_mems,
    giveOr_mems,
    semTake_mems, kept_ite, sumpRegRead_kept h, h, ite_self]

@[simp] theorem execute_kept {op : State → Answer} (ho : ∀ s, Kept mramAddr s.lanes.mems (op s).1.lanes.mems) (sid : Nat)
    (hd : Hdr) :
    Kept mramAddr m (execute sid hd op s).lanes.mems := by
  have := h.trans (ho s)
  unfold execute
  split <;> simp [h, this]

@[simp] theorem request_kept {op : Nat → Session → State → Answer} (ho : ∀ sid x s, Kept mramAddr s.lanes.mems
    (op sid x s).1.lanes.mems)
    (typ : Nat) (nb : Bool) (hd : Hdr) : Kept mramAddr m (request typ nb hd op s).lanes.mems := by
  unfold request
  dsimp only
  repeat' split
  all_goals simp [h, ho]

@[simp] theorem execCmd_kept {eff : Nat → Session → State → Answer} (he : ∀ sid x s, Kept mramAddr s.lanes.mems
    (eff sid x s).1.lanes.mems)
    (obj : Nat) (cols : List ColKind) (hd : Hdr) (args : List TVal) :
      Kept mramAddr m (execCmd obj cols hd args eff s).lanes.mems := by
  refine request_kept h (fun sid x s => ?_) ..
  split <;> simp [he]

@[simp] theorem execNode_kept (obj : Nat) (extra : List ColKind) (hd : Hdr) (args : List TVal)
    (vals : State → Nat → Option Reply)
    (load : State → Load) : Kept mramAddr m (execNode obj extra hd args vals load s).lanes.mems := by
  refine request_kept h (fun sid x s => ?_) ..
  dsimp only
  split
  · simp
  · split
    · simp
    · split
      · simp
      · split
        · simp
        · split
          all_goals
            next hd =>
              have kept := (congrArg (fun x : State × (Reply ⊕ Nat) => x.1.lanes.mems) hd).symm.trans
                (decideAdmission_mems ..)
              simp [kept]

@[simp] theorem execNodeCmd_kept (obj : Nat) (c : NodeCmd) (hd : Hdr) (args : List TVal) :
    Kept mramAddr m (execNodeCmd obj c hd args s).lanes.mems := execNode_kept h ..
end

@[simp] theorem evalSwitchover_mems (s : State) : (evalSwitchover s).1.lanes.mems = s.lanes.mems := by
  unfold evalSwitchover
  split
  · rfl
  · split <;> rfl

/-- The next state that a command answers has both memories kept. -/
def Keeps (P : Nat → Prop) (s : State) (o : Host.Outcome State Fault Refusal) : Prop :=
  ∀ u, o = .next u → Kept P s.lanes.mems u.lanes.mems

@[simp] theorem keeps_done {P : Nat → Prop} (s s0 v : State) :
    Keeps P s (done s0 v) ↔ Kept P s.lanes.mems v.lanes.mems := by
  constructor
  · intro h
    have := h _ rfl
    rwa [done_mems rfl] at this
  · intro h u hu
    rwa [done_mems hu]

@[simp] theorem keeps_fault {P : Nat → Prop} (s : State) (r : Fault) : Keeps P s (.fault r) := by
  simp [Keeps]

@[simp] theorem keeps_ite {P : Nat → Prop} (s : State) {c : Prop} [Decidable c] (x y : Host.Outcome State Fault Refusal) :
    Keeps P s (if c then x else y) ↔ if c then Keeps P s x else Keeps P s y := by
  split <;> rfl

theorem Keeps.ite {P : Nat → Prop} {s : State} {c : Prop} [Decidable c] {x y : Host.Outcome State Fault Refusal}
    (hx : Keeps P s x) (hy : Keeps P s y) :
    Keeps P s (if c then x else y) := by
  split <;> assumption

theorem streamTake_kept {m : List Host.Cell × List Host.Cell} {eff : State → State} {s : State}
    (h : Kept mramAddr m s.lanes.mems)
    (he : ∀ s, Kept mramAddr s.lanes.mems (eff s).lanes.mems) (styp : Nat) (hd : StreamHdr) (body : Bytes) :
    Kept mramAddr m (streamTake styp hd body eff s).lanes.mems := by
  have := h.trans (he s)
  unfold streamTake
  repeat' split
  all_goals simp [h, this]

section
variable {t : Nat} {s : State}

theorem keeps_request {typ : Nat} {nb : Bool} {h : Hdr} {op : Nat → Session → State → Answer}
    (ho : ∀ sid x s, Kept mramAddr s.lanes.mems (op sid x s).1.lanes.mems) :
      Keeps mramAddr s (done (tick t s) (request typ nb h op (tick t s))) :=
  (keeps_done ..).2 (request_kept (by simp) ho ..)

theorem keeps_execCmd {obj : Nat} {cols : List ColKind} {h : Hdr} {args : List TVal} {eff : Nat → Session → State → Answer}
    (he : ∀ sid x s, Kept mramAddr s.lanes.mems (eff sid x s).1.lanes.mems) :
    Keeps mramAddr s (done (tick t s) (execCmd obj cols h args eff (tick t s))) :=
  (keeps_done ..).2 (execCmd_kept (by simp) he ..)

theorem keeps_streamTake {styp : Nat} {h : StreamHdr} {body : Bytes} {eff : State → State}
    (he : ∀ s, Kept mramAddr s.lanes.mems (eff s).lanes.mems) :
      Keeps mramAddr s (done (tick t s) (streamTake styp h body eff (tick t s))) :=
  (keeps_done ..).2 (streamTake_kept (by simp) he ..)

end

@[simp] theorem vaultCmd_keeps (op : VaultOp) (t : Nat) (l : Lane) (c : Core) (s : State) :
    Keeps mramAddr s (vaultCmd op t l c s) := by
  simp [vaultCmd]

end Sys2Proof.Machine
end

section
/-!
PROOFS. The commands that store nothing in MRAM and branch before they act.
-/
namespace Sys2Proof.Machine

open Sys2Proof.Safety

@[simp] theorem execDeadlineInstant_keeps (t ticket : Nat) (s : State) :
    Keeps mramAddr s (execDeadlineInstant t ticket s) := by
  unfold execDeadlineInstant; dsimp only; split <;> simp

@[simp] theorem execGourGrant_keeps (t : Nat) (l : Lane) (a : Fin 23) (s : State) :
    Keeps mramAddr s (execGourGrant t l a s) := by
  unfold execGourGrant; dsimp only; split <;> simp

@[simp] theorem execGourWithdraw_keeps (t : Nat) (l : Lane) (a : Fin 23) (r : Fin 16) (slotQueued : Bool) (s : State) :
    Keeps mramAddr s (execGourWithdraw t l a r slotQueued s) := by
  unfold execGourWithdraw; dsimp only; split <;> simp

@[simp] theorem execBusWatchdogAbort_keeps (t : Nat) (l : Lane) (c : Core) (s : State) :
    Keeps mramAddr s (execBusWatchdogAbort t l c s) := by
  unfold execBusWatchdogAbort; dsimp only; split <;> simp

@[simp] theorem execSlotPosition_keeps (t : Nat) (x : Fin 4) (s : State) : Keeps mramAddr s (execSlotPosition t x s) := by
  unfold execSlotPosition
  dsimp only
  repeat' split
  all_goals simp

@[simp] theorem execAckField_keeps (t : Nat) (x : Fin 4) (codes : List CodeObs) (s : State) :
    Keeps mramAddr s (execAckField t x codes s) := by
  unfold execAckField; dsimp only; split <;> simp

@[simp] theorem execShockTimeout_keeps (t node : Nat) (s : State) : Keeps mramAddr s (execShockTimeout t node s) := by
  unfold execShockTimeout; dsimp only; split <;> simp

@[simp] theorem execSuperframeBoundary_keeps (t : Nat) (s : State) : Keeps mramAddr s (execSuperframeBoundary t s) := by
  unfold execSuperframeBoundary
  dsimp only
  repeat' split
  all_goals simp

@[simp] theorem execSupervisionExpiry_keeps (t node : Nat) (s : State) :
    Keeps mramAddr s (execSupervisionExpiry t node s) := by
  unfold execSupervisionExpiry; dsimp only; split <;> simp

@[simp] theorem execEventBurst_keeps (t : Nat) (b : Burst) (s : State) : Keeps mramAddr s (execEventBurst t b s) := by
  unfold execEventBurst
  dsimp only
  repeat' split
  all_goals simp

@[simp] theorem execJoinSig_keeps (t : Nat) (x : Fin 4) (eui nonce : Bytes) (a : Nat) (sigOk : Bool) (s : State) :
    Keeps mramAddr s (execJoinSig t x eui nonce a sigOk s) := by
  unfold execJoinSig
  dsimp only
  repeat' split
  all_goals simp

@[simp] theorem execCancelledPayloadEnd_keeps (t : Nat) (s : State) : Keeps mramAddr s (execCancelledPayloadEnd t s) := by
  unfold execCancelledPayloadEnd; dsimp only; split <;> simp

@[simp] theorem execOrderTag_keeps (t seq source hash : Nat) (s : State) :
    Keeps mramAddr s (execOrderTag t seq source hash s) := by
  unfold execOrderTag; dsimp only; split <;> simp

@[simp] theorem execOrphanTimeout_keeps (t hash : Nat) (s : State) : Keeps mramAddr s (execOrphanTimeout t hash s) := by
  unfold execOrphanTimeout; dsimp only; split <;> simp

@[simp] theorem execComparisonRecord_keeps (t : Nat) (l : Lane) (seq kind hash : Nat) (s : State) :
    Keeps mramAddr s (execComparisonRecord t l seq kind hash s) := by
  unfold execComparisonRecord
  dsimp only
  repeat' split
  all_goals simp

@[simp] theorem execOutputReleaseTimeout_keeps (t seq : Nat) (s : State) :
    Keeps mramAddr s (execOutputReleaseTimeout t seq s) := by
  unfold execOutputReleaseTimeout; dsimp only; split <;> simp

@[simp] theorem execLagDetect_keeps (t : Nat) (s : State) : Keeps mramAddr s (execLagDetect t s) := by
  unfold execLagDetect; dsimp only; split <;> simp

@[simp] theorem execSelfCheckDone_keeps (t : Nat) (condemnA condemnB : Bool) (s : State) :
    Keeps mramAddr s (execSelfCheckDone t condemnA condemnB s) := by
  unfold execSelfCheckDone; dsimp only; split <;> simp

@[simp] theorem execSwitchover_keeps (t : Nat) (h : Hdr) (args : List TVal) (s : State) :
    Keeps mramAddr s (execSwitchover t h args s) := by
  refine keeps_execCmd (fun _ _ _ => ?_)
  dsimp only
  repeat' split
  all_goals simp

@[simp] theorem execRestartStandby_keeps (t : Nat) (h : Hdr) (args : List TVal) (s : State) :
    Keeps mramAddr s (execRestartStandby t h args s) := by
  refine keeps_execCmd (fun _ _ _ => ?_)
  repeat' split
  all_goals simp

@[simp] theorem execResync_keeps (t : Nat) (h : Hdr) (args : List TVal) (s : State) :
    Keeps mramAddr s (execResync t h args s) := by
  refine keeps_execCmd (fun _ _ _ => ?_)
  repeat' split
  all_goals simp

@[simp] theorem execVaultOpDone_keeps (t : Nat) (l : Lane) (checkOk : Bool) (s : State) :
    Keeps mramAddr s (execVaultOpDone t l checkOk s) := by
  unfold execVaultOpDone; dsimp only; split <;> simp

@[simp] theorem execEncSuspend_keeps (t : Nat) (h : Hdr) (args : List TVal) (s : State) :
    Keeps mramAddr s (execEncSuspend t h args s) := by
  refine keeps_execCmd (fun _ _ _ => ?_)
  dsimp only
  repeat' split
  all_goals simp

@[simp] theorem execEncSuspendExpiry_keeps (t : Nat) (s : State) : Keeps mramAddr s (execEncSuspendExpiry t s) := by
  unfold execEncSuspendExpiry; dsimp only; split <;> simp
@[simp] theorem execClaimLockoutExpiry_keeps (t : Nat) (s : State) : Keeps mramAddr s (execClaimLockoutExpiry t s) := by
  unfold execClaimLockoutExpiry; dsimp only; split <;> simp
@[simp] theorem execVbdDip_keeps (t : Nat) (s : State) : Keeps mramAddr s (execVbdDip t s) := by
  unfold execVbdDip; dsimp only; split <;> simp

@[simp] theorem execKeepTimeExpiry_keeps (t : Nat) (below16 : Bool) (s : State) :
    Keeps mramAddr s (execKeepTimeExpiry t below16 s) := by
  unfold execKeepTimeExpiry; dsimp only; split <;> simp

@[simp] theorem execOutputGapEnd_keeps (t : Nat) (k : Fin 4) (s : State) : Keeps mramAddr s (execOutputGapEnd t k s) := by
  unfold execOutputGapEnd; dsimp only; split <;> simp

@[simp] theorem execStreamData_keeps (t : Nat) (h : StreamHdr) (data : Bytes) (s : State) :
    Keeps mramAddr s (execStreamData t h data s) := by
  refine keeps_streamTake (fun s => ?_)
  dsimp only
  repeat' split
  all_goals simp

@[simp] theorem execStreamAbort_keeps (t : Nat) (h : StreamHdr) (s : State) : Keeps mramAddr s (execStreamAbort t h s) := by
  refine keeps_streamTake (fun s => ?_)
  split <;> simp

@[simp] theorem execStreamTimeout_keeps (t : Nat) (row : Fin 3) (s : State) :
    Keeps mramAddr s (execStreamTimeout t row s) := by
  unfold execStreamTimeout; dsimp only; split <;> simp

@[simp] theorem execBankProgramDone_keeps (t : Nat) (l : Lane) (s : State) :
    Keeps mramAddr s (execBankProgramDone t l s) := by
  unfold execBankProgramDone
  dsimp only
  repeat' split
  all_goals simp

@[simp] theorem execFwActivate_keeps (t : Nat) (h : Hdr) (args : List TVal) (s : State) :
    Keeps mramAddr s (execFwActivate t h args s) := by
  refine keeps_execCmd (fun _ _ _ => ?_)
  dsimp only
  repeat' split
  all_goals simp

@[simp] theorem execFwCommitApply_keeps (t : Nat) (s : State) : Keeps mramAddr s (execFwCommitApply t s) := by
  unfold execFwCommitApply; dsimp only; split <;> simp

@[simp] theorem execFlowstoneTick_keeps (t : Nat) (s : State) : Keeps mramAddr s (execFlowstoneTick t s) := by
  have raised (l : Lane) (n k : Nat) (s : State) :
      ((List.range n).foldl (fun s _ => icuRaiseAt l k s) s).lanes.mems = s.lanes.mems := by simp
  have ticked (l : Lane) (g : State → Nat → Engine × Nat) (s : State) : ((List.range 8).foldl (fun s e =>
      (List.range (g s e).2).foldl (fun s _ => icuRaiseAt l (104 + e) s) (updEng l e (fun _ => (g s e).1) s)) s).lanes.mems
        =
      s.lanes.mems := foldl_mems (fun s e => by simp) _ _
  simp [execFlowstoneTick, ticked]

@[simp] theorem execLedRetest_keeps (t : Nat) (h : Hdr) (args : List TVal) (s : State) :
    Keeps mramAddr s (execLedRetest t h args s) := by
  refine keeps_execCmd (fun _ _ _ => ?_)
  dsimp only
  simp

@[simp] theorem execLedRetestEnd_keeps (t : Nat) (k : Fin 4) (s : State) : Keeps mramAddr s (execLedRetestEnd t k s) := by
  unfold execLedRetestEnd; dsimp only; split <;> simp

@[simp] theorem execZeroCrossing_keeps (t : Nat) (c : Crossing) (s : State) :
    Keeps mramAddr s (execZeroCrossing t c s) := by
  unfold execZeroCrossing; dsimp only; split <;> simp

@[simp] theorem execCalMeasure_keeps (t : Nat) (h : Hdr) (args : List TVal) (s : State) :
    Keeps mramAddr s (execCalMeasure t h args s) := by
  refine keeps_request (fun _ _ _ => ?_)
  dsimp only
  repeat' split
  all_goals simp

@[simp] theorem execCalMeasureDone_keeps (t v i : Nat) (angle : Int) (freq : Nat) (voff ioff : Int) (s : State) :
    Keeps mramAddr s (execCalMeasureDone t v i angle freq voff ioff s) := by
  unfold execCalMeasureDone
  dsimp only
  repeat' split
  all_goals simp

@[simp] theorem execRecordWrite_keeps (t : Nat) (s : State) : Keeps mramAddr s (execRecordWrite t s) := by
  unfold execRecordWrite; dsimp only; split <;> simp

@[simp] theorem execRecRead_keeps (t : Nat) (h : Hdr) (args : List TVal) (s : State) :
    Keeps mramAddr s (execRecRead t h args s) := by
  refine keeps_execCmd (fun _ _ _ => ?_)
  simp

@[simp] theorem execSliceTick_keeps (t : Nat) (s : State) : Keeps mramAddr s (execSliceTick t s) := by
  unfold execSliceTick
  dsimp only
  repeat' split
  all_goals simp

@[simp] theorem execSliceRestore_keeps (t : Nat) (obs : SliceObs) (readback1 readback2 : Bool) (s : State) :
    Keeps mramAddr s (execSliceRestore t obs readback1 readback2 s) := by
  unfold execSliceRestore; dsimp only; split <;> simp

@[simp] theorem execSweepEnd_keeps (t : Nat) (s : State) : Keeps mramAddr s (execSweepEnd t s) := by
  unfold execSweepEnd; dsimp only; split <;> simp

@[simp] theorem execPresenceEventIngest_keeps (t : Nat) (s : State) : Keeps mramAddr s (execPresenceEventIngest t s) := by
  unfold execPresenceEventIngest
  dsimp only
  split
  · simp
  · refine .ite (by simp) (.ite (by simp) (.ite (.ite (by simp) (.ite (by simp) (.ite (by simp) ?_))) (by simp)))
    rw [keeps_done, trkBatch_mems]
    split <;> simp

@[simp] theorem execHandoffRetry_keeps (t hseq : Nat) (s : State) : Keeps mramAddr s (execHandoffRetry t hseq s) := by
  unfold execHandoffRetry
  dsimp only
  repeat' split
  all_goals simp

@[simp] theorem execHandoff_keeps (t : Nat) (m : HandoffMsg) (s : State) : Keeps mramAddr s (execHandoff t m s) := by
  unfold execHandoff
  dsimp only
  split
  · simp
  · split
    · simp
    · split
      · simp
      · split
        all_goals
          next merged =>
            have kept := (congrArg (fun x : State × Option Nat => x.1.lanes.mems) merged).symm.trans (mergeTrack_mems ..)
            simp [kept]

@[simp] theorem execHandoffAck_keeps (t source hseq z3 status : Nat) (s : State) :
    Keeps mramAddr s (execHandoffAck t source hseq z3 status s) := by
  unfold execHandoffAck
  dsimp only
  repeat' split
  all_goals simp

@[simp] theorem execBoundaryList_keeps (t source part parts : Nat) (entries : List (Nat × Nat × Nat)) (s : State) :
    Keeps mramAddr s (execBoundaryList t source part parts entries s) := by
  unfold execBoundaryList; dsimp only; split <;> simp

@[simp] theorem execBoundaryUnmatchedTimeout_keeps (t vertex : Nat) (s : State) :
    Keeps mramAddr s (execBoundaryUnmatchedTimeout t vertex s) := by
  unfold execBoundaryUnmatchedTimeout
  dsimp only
  repeat' split
  all_goals simp

@[simp] theorem execSetup_keeps (t : Nat) (h : Hdr) (client : Bytes) (idle : Nat) (s : State) :
    Keeps mramAddr s (execSetup t h client idle s) := by
  unfold execSetup
  dsimp only
  repeat' split
  all_goals simp

@[simp] theorem execClose_keeps (t : Nat) (h : Hdr) (s : State) : Keeps mramAddr s (execClose t h s) := by
  refine keeps_request (fun _ _ _ => ?_)
  repeat' split
  all_goals simp

@[simp] theorem execCloseSession_keeps (t : Nat) (h : Hdr) (args : List TVal) (s : State) :
    Keeps mramAddr s (execCloseSession t h args s) := by
  refine keeps_execCmd (fun _ _ _ => ?_)
  repeat' split
  all_goals simp

@[simp] theorem execSessionIdleTimeout_keeps (t sid : Nat) (s : State) :
    Keeps mramAddr s (execSessionIdleTimeout t sid s) := by
  unfold execSessionIdleTimeout; dsimp only; split <;> simp

@[simp] theorem execSubscribe_keeps (t : Nat) (h : Hdr) (subId mode minSev interval : Nat) (s : State) :
    Keeps mramAddr s (execSubscribe t h subId mode minSev interval s) := by
  refine keeps_request (fun _ _ _ => ?_)
  repeat' split
  all_goals simp

@[simp] theorem execSubIntervalExpiry_keeps (t sub : Nat) (s : State) :
    Keeps mramAddr s (execSubIntervalExpiry t sub s) := by
  unfold execSubIntervalExpiry; dsimp only; split <;> simp

@[simp] theorem execSubPeriodExpiry_keeps (t sub : Nat) (s : State) : Keeps mramAddr s (execSubPeriodExpiry t sub s) := by
  unfold execSubPeriodExpiry; dsimp only; split <;> simp

@[simp] theorem execAck_keeps (t : Nat) (h : Hdr) (compSeq : Nat) (s : State) :
    Keeps mramAddr s (execAck t h compSeq s) := by
  unfold execAck
  dsimp only
  repeat' split
  all_goals simp

@[simp] theorem execCompletionResend_keeps (t comp : Nat) (s : State) :
    Keeps mramAddr s (execCompletionResend t comp s) := by
  unfold execCompletionResend
  dsimp only
  repeat' split
  all_goals simp

@[simp] theorem execHeldCompletionSend_keeps (t sid : Nat) (s : State) :
    Keeps mramAddr s (execHeldCompletionSend t sid s) := by
  unfold execHeldCompletionSend; dsimp only; split <;> simp

@[simp] theorem execCompletionHoldExpiry_keeps (t comp : Nat) (s : State) :
    Keeps mramAddr s (execCompletionHoldExpiry t comp s) := by
  unfold execCompletionHoldExpiry; dsimp only; split <;> simp

@[simp] theorem execTicketResult_keeps (t : Nat) (h : Hdr) (args : List TVal) (s : State) :
    Keeps mramAddr s (execTicketResult t h args s) := by
  refine keeps_execCmd (fun _ _ _ => ?_)
  repeat' split
  all_goals simp

@[simp] theorem execDescribe_keeps (t : Nat) (h : Hdr) (args : List TVal) (s : State) :
    Keeps mramAddr s (execDescribe t h args s) := by
  refine keeps_execCmd (fun _ _ _ => ?_)
  repeat' split
  all_goals simp

@[simp] theorem execWrite_keeps (t : Nat) (h : Hdr) (tag : Nat) (rows : List (Nat × Row)) (s : State) :
    Keeps mramAddr s (execWrite t h tag rows s) := by
  refine keeps_request (fun _ _ _ => ?_)
  repeat' split
  all_goals simp

@[simp] theorem execSeqOpen_keeps (t : Nat) (h : Hdr) (mask lease : Nat) (s : State) :
    Keeps mramAddr s (execSeqOpen t h mask lease s) := by
  refine keeps_request (fun _ _ _ => ?_)
  dsimp only
  repeat' split
  all_goals simp

@[simp] theorem execSeqCommit_keeps (t : Nat) (h : Hdr) (s : State) : Keeps mramAddr s (execSeqCommit t h s) := by
  refine keeps_request (fun _ _ _ => ?_)
  repeat' split
  all_goals simp

@[simp] theorem execSeqAbort_keeps (t : Nat) (h : Hdr) (s : State) : Keeps mramAddr s (execSeqAbort t h s) := by
  refine keeps_request (fun _ _ _ => ?_)
  dsimp only
  repeat' split
  all_goals simp

@[simp] theorem execLeaseExpiry_keeps (t hd : Nat) (s : State) : Keeps mramAddr s (execLeaseExpiry t hd s) := by
  unfold execLeaseExpiry; dsimp only; split <;> simp

@[simp] theorem execBreakLock_keeps (t : Nat) (h : Hdr) (args : List TVal) (s : State) :
    Keeps mramAddr s (execBreakLock t h args s) := by
  refine keeps_execCmd (fun _ _ _ => ?_)
  dsimp only
  repeat' split
  all_goals simp

@[simp] theorem execRestoreDefaults_keeps (t : Nat) (h : Hdr) (args : List TVal) (s : State) :
    Keeps mramAddr s (execRestoreDefaults t h args s) := by
  refine keeps_execCmd (fun _ _ _ => ?_)
  dsimp only
  repeat' split
  all_goals simp

@[simp] theorem execAsnConflictTimeout_keeps (t : Nat) (s : State) : Keeps mramAddr s (execAsnConflictTimeout t s) := by
  unfold execAsnConflictTimeout; dsimp only; split <;> simp
@[simp] theorem execTimeStep_keeps (t : Nat) (s : State) : Keeps mramAddr s (execTimeStep t s) := by
  unfold execTimeStep; dsimp only; split <;> simp
@[simp] theorem execSlewComplete_keeps (t : Nat) (s : State) : Keeps mramAddr s (execSlewComplete t s) := by
  unfold execSlewComplete; dsimp only; split <;> simp

@[simp] theorem execHello_keeps (t : Nat) (p : Fin 2) (m : HelloMsg) (s : State) :
    Keeps mramAddr s (execHello t p m s) := by
  unfold execHello; split <;> simp

@[simp] theorem execPassThrough_keeps (t : Nat) (p : Fin 2) (f : TrunkFrame) (s : State) :
    Keeps mramAddr s (execPassThrough t p f s) := by
  unfold execPassThrough
  dsimp only
  repeat' split
  all_goals simp

@[simp] theorem execTopo_keeps (t : Nat) (p : Fin 2) (m : TopoMsg) (s : State) : Keeps mramAddr s (execTopo t p m s) := by
  unfold execTopo
  dsimp only
  repeat' split
  all_goals simp

@[simp] theorem execTopoDeferredAdopt_keeps (t : Nat) (s : State) : Keeps mramAddr s (execTopoDeferredAdopt t s) := by
  unfold execTopoDeferredAdopt; dsimp only; split <;> simp
@[simp] theorem execTopoFlood_keeps (t : Nat) (s : State) : Keeps mramAddr s (execTopoFlood t s) := by
  unfold execTopoFlood; dsimp only; split <;> simp

@[simp] theorem execIbierFrame_keeps (t : Nat) (way : Way) (rhVersion module tclass reserved size : Nat) (s : State) :
    Keeps mramAddr s (execIbierFrame t way rhVersion module tclass reserved size s) := by
  unfold execIbierFrame
  dsimp only
  repeat' split
  all_goals simp

@[simp] theorem execMemberSilentTimeout_keeps (t module : Nat) (s : State) :
    Keeps mramAddr s (execMemberSilentTimeout t module s) := by
  unfold execMemberSilentTimeout; dsimp only; split <;> simp

@[simp] theorem execHandoverApply_keeps (t : Nat) (s : State) : Keeps mramAddr s (execHandoverApply t s) := by
  unfold execHandoverApply; dsimp only; split <;> simp

@[simp] theorem execSwitchoverTakeEffect_keeps (t : Nat) (s : State) : Keeps mramAddr s (execSwitchoverTakeEffect t s) := by
  unfold execSwitchoverTakeEffect
  dsimp only
  repeat' split
  all_goals simp

@[simp] theorem execPor_keeps (t : Nat) (canaryOk parityA parityB : Bool) (s : State) :
    Keeps mramAddr s (execPor t canaryOk parityA parityB s) := by
  unfold execPor
  dsimp only
  split
  · simp
  · refine (keeps_done ..).2 (parityScan_kept (parityScan_kept ?_ _ _) _ _)
    simp

@[simp] theorem execStreamEnd_keeps (t : Nat) (h : StreamHdr) (sigOk : Bool) (policyKey : Bytes) (s : State) :
    Keeps mramAddr s (execStreamEnd t h sigOk policyKey s) := by
  refine keeps_streamTake (fun s => ?_)
  dsimp only
  repeat' split
  all_goals simp

end Sys2Proof.Machine
end

section
/-!
PROOFS. The commands that store in MRAM: the writes of a core, the history copy, the state transfer.
-/
namespace Sys2Proof.Machine

open Sys2Proof.Safety

/-! ### Stores -/

theorem memWrite_kept {P : Nat → Prop} {k : Nat} (h : ∀ a, P a → a ≠ k) (m : List Host.Cell) (v : Byte) :
    MemKept P m (memWrite m k v) :=
  ⟨memWrite_wf m k v, fun a ha => memRead_memWrite_ne m k a v (h a ha)⟩

theorem putMem_kept {P : Nat → Prop} {m : List Host.Cell × List Host.Cell} {s : State} (h : Kept P m s.lanes.mems)
    {addr : Nat}
    (ha : ∀ a, P a → a < addr) (l : Lane) (b : Bytes) : Kept P m (putMem l addr b s).lanes.mems := by
  refine h.trans (Pair.upd_kept (fun x => ?_) l s.lanes)
  have stored (c : List (Byte × Nat)) (m : List Host.Cell) :
    MemKept P m (c.foldl (fun m p => memWrite m (addr + p.2) p.1) m) := by
    induction c generalizing m with
    | nil => exact .refl m
    | cons p r ih => exact (memWrite_kept (fun a hp => by have := ha a hp; omega) m p.1).trans (ih _)
  exact stored _ x.mem

/-- COMP_BUF lies in the LPDDR4X (R121), not in MRAM. -/
theorem compPop_kept {m : List Host.Cell × List Host.Cell} {s : State} (h : Kept mramAddr m s.lanes.mems) (l : Lane)
    (c : Core) :
    Kept mramAddr m (compPop l c s).lanes.mems := by
  unfold compPop
  dsimp only
  split
  · exact h
  · split
    · simpa using h
    · next hb =>
      split
      · simpa using h
      · rw [updHalf_mems]
        refine putMem_kept h (fun a ha => ?_) ..
        have := ha.2
        omega

@[simp] theorem execCompPop_keeps (t : Nat) (p : LaneCore) (s : State) : Keeps mramAddr s (execCompPop t p s) :=
  (keeps_done ..).2 (compPop_kept (by simp) ..)

@[simp] theorem portWrite_kept {m : List Host.Cell × List Host.Cell} {s : State} (h : Kept mramAddr m s.lanes.mems)
    (l : Lane) (c : Core) (off v : Nat) :
    Kept mramAddr m (portWrite l c off v s).lanes.mems := by
  simp [portWrite, h, compPop_kept]

/-- No address: what is left of `Kept` is the canonical form. -/
def noAddr (_ : Nat) : Prop := False
theorem Kept.form {P : Nat → Prop} {m m' : List Host.Cell × List Host.Cell} (h : Kept P m m') : Kept noAddr m m' :=
  h.mono nofun
theorem memWrite32_kept (m : List Host.Cell) (k : Nat) (v : Word32) : MemKept noAddr m (memWrite32 m k v) :=
  ⟨memWrite32_wf m k v, nofun⟩

theorem Kept.ite {P : Nat → Prop} {m : List Host.Cell × List Host.Cell} {c : Prop} [Decidable c] {x y : State}
    (hx : Kept P m x.lanes.mems)
    (hy : Kept P m y.lanes.mems) : Kept P m (if c then x else y).lanes.mems := by
  split <;> assumption

theorem Kept.updLane {P : Nat → Prop} {m : List Host.Cell × List Host.Cell} {s : State} (h : Kept P m s.lanes.mems)
    {l : Lane}
    {f : LaneSt → LaneSt} (hf : ∀ x, (f x).mem = x.mem) : Kept P m (updLane l f s).lanes.mems := by
  rwa [updLane_mems hf]

theorem regWrite_form {m : List Host.Cell × List Host.Cell} {s : State} (h : Kept noAddr m s.lanes.mems) (l : Lane)
    (c : Core)
    (a : Nat) (w : Word32) : Kept noAddr m (regWrite l c a w s).lanes.mems := by
  have stored (f : LaneSt → LaneSt) (hf : ∀ x, (f x).mem = memWrite32 x.mem a w) :
    Kept noAddr m (updLane l f s).lanes.mems :=
    h.trans (Pair.upd_kept (fun x => hf x ▸ memWrite32_kept x.mem a w) l s.lanes)
  have port (c : Core) (off v : Nat) := h.trans (portWrite_kept (.refl s.lanes.mems) l c off v).form
  have sump (off v : Nat) := h.trans (sumpRegWrite_kept (.refl s.lanes.mems) l c off v).form
  have ram := stored (fun x => { x with mem := memWrite32 x.mem a w }) fun _ => rfl
  have mram := stored (fun x => { x with mem := memWrite32 x.mem a w, wrote := insertNat a x.wrote }) fun _ => rfl
  unfold regWrite
  dsimp only
  with_reducible repeat' apply Kept.ite
  all_goals try split
  all_goals with_reducible repeat' apply Kept.ite
  all_goals simp [-updLane_lanes, h, ram, mram, port, sump]

theorem coreWrite_form {m : List Host.Cell × List Host.Cell} {s : State} (h : Kept noAddr m s.lanes.mems) (l : Lane)
    (c : Core)
    (a : Nat) (w : Word32) : Kept noAddr m (coreWrite l c a w s).lanes.mems := by
  have own := regWrite_form h l c a w
  unfold coreWrite
  extract_lets same again
  have later (n : Nat) {u : State} (hu : Kept noAddr m u.lanes.mems) : Kept noAddr m (again n u).lanes.mems := by
    simp only [again]
    split
    · exact .ite (regWrite_form hu ..) hu
    · exact hu
  have all := later 5 (later 4 (later 3 (later 2 (later 1 own))))
  exact .ite (.ite all (.updLane all fun _ => rfl)) own

@[simp] theorem execRegisterWrite_form (t : Nat) (l : Lane) (c : Core) (a : Nat) (w : Word32) (s : State) :
    Keeps noAddr s (execRegisterWrite t l c a w s) := by
  have := coreWrite_form (.refl (tick t s).lanes.mems) l c a w
  simp_all [execRegisterWrite]

theorem execHistCopyDone_form (t : Nat) (p : LaneCore) (s : State) : Keeps noAddr s (execHistCopyDone t p s) := by
  refine (keeps_done ..).2 ?_
  have h : Kept noAddr s.lanes.mems (tick t s).lanes.mems := by simp
  split
  · split
    · exact h
    · rw [updHalf_mems, setCopy_mems]
      exact putMem_kept h nofun ..
  · exact h

/-! ### The state transfer -/

theorem memWfFrom_of_forall_le {lo hi : Nat} {m : List Host.Cell} (wf : memWfFrom lo m = true) (h : ∀ c ∈ m, hi ≤ c.1) :
    memWfFrom hi m = true := by
  cases m with
  | nil => rfl
  | cons c r =>
    simp only [memWfFrom, Bool.and_eq_true, decide_eq_true_eq] at wf ⊢
    exact ⟨⟨h c (by simp), wf.1.2⟩, wf.2⟩

theorem memWfFrom_append {lo hi : Nat} {m n : List Host.Cell} (hm : memWfFrom lo m = true) (hn : memWfFrom hi n = true)
    (hlo : lo ≤ hi) (below : ∀ c ∈ m, c.1 < hi) : memWfFrom lo (m ++ n) = true := by
  induction m generalizing lo with
  | nil => exact memWfFrom_mono hlo hn
  | cons c r ih =>
    simp only [memWfFrom, Bool.and_eq_true, decide_eq_true_eq, List.cons_append] at hm ⊢
    exact ⟨hm.1, ih hm.2 (below c (by simp)) fun d hd => below d (by simp [hd])⟩

/-- A canonical memory's cells from an address on are canonical from there. -/
theorem memWfFrom_filter_ge {hi : Nat} {p : Host.Cell → Bool} (hp : ∀ c, p c = true → hi ≤ c.1) {m : List Host.Cell}
    (wf : Memory.wf m = true) : memWfFrom hi (m.filter p) = true :=
  memWfFrom_of_forall_le (memWfFrom_filter p wf) fun c hc => hp c (List.mem_filter.1 hc).2

theorem copyMem_wf {own src : List Host.Cell} (ho : Memory.wf own = true) (hs : Memory.wf src = true) :
    Memory.wf (copyMem own src) = true := by
  have tail : memWfFrom 0x20810000 (src.filter fun c => decide (0x20810000 ≤ c.1)) = true :=
    memWfFrom_filter_ge (by simp) hs
  have ring : memWfFrom 0x20800000 (own.filter fun c => decide (0x20800000 ≤ c.1 ∧ c.1 < 0x20810000)) = true :=
    memWfFrom_filter_ge (by simp; omega) ho
  have head : memWfFrom 0 (src.filter fun c => decide (c.1 < 0x20800000)) = true := memWfFrom_filter _ hs
  unfold copyMem
  rw [List.append_assoc]
  refine memWfFrom_append head (memWfFrom_append ring tail (by omega) ?_) (by omega) ?_ <;> simp +contextual

theorem memRead_absent {m : List Host.Cell} {k : Nat} (h : ∀ c ∈ m, c.1 ≠ k) : memRead m k = memDefault := by
  induction m with
  | nil => rfl
  | cons c r ih =>
    have := h c (by simp)
    simp [memRead, this.symm, ih fun d hd => h d (by simp [hd])]

theorem memRead_append_of_absent_left {m n : List Host.Cell} {k : Nat} (h : ∀ c ∈ m, c.1 ≠ k) :
    memRead (m ++ n) k = memRead n k := by
  induction m with
  | nil => rfl
  | cons c r ih =>
    have := h c (by simp)
    simp [memRead, this.symm, ih fun d hd => h d (by simp [hd])]

theorem memRead_append_of_absent_right {m n : List Host.Cell} {k : Nat} (h : ∀ c ∈ n, c.1 ≠ k) :
    memRead (m ++ n) k = memRead m k := by
  induction m with
  | nil => exact memRead_absent h
  | cons c r ih => simp [memRead, ih]

/-- The state transfer (R295): the source's memory but the receiver's own energy ring. -/
theorem memRead_copyMem (own src : List Host.Cell) (k : Nat) :
    memRead (copyMem own src) k = if 0x20800000 ≤ k ∧ k < 0x20810000 then memRead own k else memRead src k := by
  unfold copyMem
  split
  · rw [memRead_append_of_absent_right (by simp; omega), memRead_append_of_absent_left (by simp; omega)]
    exact memRead_filter (p := fun a => decide (0x20800000 ≤ a ∧ a < 0x20810000)) (by simpa) own
  · rcases Nat.lt_or_ge k 0x20800000 with hk | hk
    · rw [memRead_append_of_absent_right (by simp; omega), memRead_append_of_absent_right (by simp; omega)]
      exact memRead_filter (p := fun a => decide (a < 0x20800000)) (by simpa) src
    · rw [memRead_append_of_absent_left (by simp; omega)]
      exact memRead_filter (p := fun a => decide (0x20810000 ≤ a)) (by simp; omega) src

/-- The receiving lane waits for the end of a copy that the active lane sends it (R295). -/
def receives (l : Lane) (s : State) : Bool :=
  active s == some (otherLane l) && (s.lanes.get l).role == .lagging && (s.lanes.get l).resync == .transfer && bridgeUp s

/-- What the receiving lane has taken over at the end of the copy (R295), its settings layout not yet settled. -/
def transferred (l : Lane) (s : State) : State :=
  let src := s.lanes.get (otherLane l)
  let v := updLane l (fun x => { x with resync := .compare, mem := copyMem x.mem src.mem,
                                        wrote := copyWrote x.wrote src.wrote, ports := src.ports, copies := src.copies,
                                          engines := src.engines }) s
  { v with fw := { v.fw with live := v.fw.live.put l (v.fw.live.get (otherLane l))
                             pre := v.fw.pre.put l (v.fw.pre.get (otherLane l)) } }

/-- The receiving lane begins its comparison: no record is held for it, no input and no tag (R295). -/
def comparing (l : Lane) (s : State) : State :=
  let v := { s with recd := { s.recd with held := s.recd.held.put l [] }, lp := { s.lp with held := [], tags := [] } }
  (s.recd.held.get l).foldl (fun s r => submitRec { r with late := true } s) v

theorem execStateTransferDone_eq (t : Nat) (l : Lane) (s : State) :
    execStateTransferDone t l s = done (tick t s) (if receives l (tick t s) then
      if (settleLayout l (transferred l (tick t s))).2 then comparing l (settleLayout l (transferred l (tick t s))).1
      else stayLagging l .layout (settleLayout l (transferred l (tick t s))).1 else tick t s) := by
  change (if receives l (tick t s) then
      if !(settleLayout l (transferred l (tick t s))).2 then
        done (tick t s) (stayLagging l .layout (settleLayout l (transferred l (tick t s))).1)
      else done (tick t s) (comparing l (settleLayout l (transferred l (tick t s))).1)
    else done (tick t s) (tick t s)) = _
  rcases (settleLayout l (transferred l (tick t s))).2 with _ | _ <;> split <;> rfl

@[simp] theorem transferred_lanes (l : Lane) (s : State) : (transferred l s).lanes = s.lanes.upd l (fun x =>
    let src := s.lanes.get (otherLane l)
    { x with resync := .compare, mem := copyMem x.mem src.mem, wrote := copyWrote x.wrote src.wrote
             ports := src.ports, copies := src.copies, engines := src.engines }) := rfl

@[simp] theorem comparing_mems (l : Lane) (s : State) : (comparing l s).lanes.mems = s.lanes.mems := by simp [comparing]

/-- The memories after the copy, whatever becomes of the settings layout. -/
theorem execStateTransferDone_mems {t : Nat} {l : Lane} {s u : State} (h : execStateTransferDone t l s = .next u) :
    u.lanes.mems = if receives l (tick t s) then (transferred l (tick t s)).lanes.mems else s.lanes.mems := by
  rw [execStateTransferDone_eq] at h
  rw [done_mems h]
  split
  · rw [← settleLayout_mems l (transferred l (tick t s))]
    split <;> simp
  · simp

end Sys2Proof.Machine
end

section
/-!
PROOFS. The metering saves, and the settlement of O6 and O8.
-/
namespace Sys2Proof.Machine

open Sys2Proof.Safety

/-! ### What decides where a save writes -/

/-- The active lane and the number of the last save: they decide which slot the next save writes (R246). -/
def saveBase (s : State) : Option Lane × Nat := (active s, s.met.saveSeq)

theorem active_of_roles {v s : State} (a : v.lanes.a.role = s.lanes.a.role) (b : v.lanes.b.role = s.lanes.b.role) :
    active v = active s := by
  unfold active
  rw [a, b]

theorem saveBase_of_parts {v s : State} (lanes : v.lanes = s.lanes) (met : v.met = s.met) : saveBase v = saveBase s := by
  simp only [saveBase, active, lanes, met]

theorem saveBase_updLane {f : LaneSt → LaneSt} (h : ∀ x, (f x).role = x.role) (l : Lane) (s : State) :
    saveBase (updLane l f s) = saveBase s := by
  refine Prod.ext (active_of_roles ?_ ?_) rfl
  · cases l
    · exact h _
    · rfl
  · cases l
    · rfl
    · exact h _

theorem saveBase_updMet {f : Meter → Meter} (h : ∀ m, (f m).saveSeq = m.saveSeq) (s : State) :
    saveBase (updMet f s) = saveBase s :=
  Prod.ext rfl (h s.met)

theorem saveBase_foldl {α : Type} {f : State → α → State} (h : ∀ s a, saveBase (f s a) = saveBase s) (xs : List α)
    (s : State) :
    saveBase (xs.foldl f s) = saveBase s := by
  induction xs generalizing s with
  | nil => rfl
  | cons x r ih => rw [List.foldl_cons, ih, h]

@[simp] theorem saveBase_tick (t : Nat) (s : State) : saveBase (tick t s) = saveBase s := rfl
@[simp] theorem saveBase_updPower (f : Power → Power) (s : State) : saveBase (updPower f s) = saveBase s := rfl
@[simp] theorem saveBase_updLM (l : Lane) (f : LaneMeter → LaneMeter) (s : State) : saveBase (updLM l f s) = saveBase s :=
  rfl

@[simp] theorem saveBase_icuRaise (n : Nat) (s : State) : saveBase (icuRaise n s) = saveBase s := by
  unfold icuRaise
  exact (saveBase_updLane (by exact fun _ => rfl) ..).trans (saveBase_updLane (by exact fun _ => rfl) ..)

@[simp] theorem saveBase_cntUpAt (n r c k : Nat) (s : State) : saveBase (cntUpAt n r c k s) = saveBase s := by
  have one (l : Lane) (s : State) : saveBase (cntLane l n r c k s) = saveBase s := saveBase_updLane
    (by exact fun _ => rfl) ..
  unfold cntUpAt
  dsimp only
  repeat' split
  all_goals simp [one]

theorem saveBase_diEdge (n : Nat) (on : Bool) (s : State) : saveBase (diEdge n on s) = saveBase s := by
  unfold diEdge
  exact (saveBase_icuRaise ..).trans (saveBase_cntUpAt ..)

theorem saveBase_switchPin (k : Nat) (v : Bool) (s : State) : saveBase (switchPin k v s) = saveBase s := by
  unfold switchPin
  split
  · rfl
  · exact saveBase_cntUpAt ..

theorem saveBase_sliceReturn (s : State) : saveBase (sliceReturn s) = saveBase s := by
  unfold sliceReturn
  dsimp only
  refine (saveBase_foldl (fun s p => ?_) ..).trans ((saveBase_foldl (fun _ _ => saveBase_switchPin ..) ..).trans
    (saveBase_foldl (by exact fun _ _ => rfl) ..))
  split
  · rfl
  · exact saveBase_diEdge ..

@[simp] theorem saveBase_record (typ sev source : Nat) (p : Bytes) (s : State) :
    saveBase (record typ sev source p s) = saveBase s := by
  unfold record submitRec
  dsimp only
  repeat' split
  · rfl
  · exact saveBase_cntUpAt ..
  · exact saveBase_of_parts (by simp) (by simp)

theorem saveBase_stResult (r res : Nat) (m : Int) (b : Bool) (s : State) :
    saveBase (stResult r res m b s) = saveBase s := by
  have class_ (s : State) : saveBase (classBit (rowClass r) r s) = saveBase s := saveBase_of_parts (by simp [classBit])
    (by simp [classBit])
  have note (s : State) : saveBase (selfTestRec r res m s) = saveBase s := saveBase_record ..
  have test (f : SelfTest → SelfTest) (s : State) : saveBase (updTest f s) = saveBase s := rfl
  have row (v : Row) (s : State) : saveBase (putRow 0xC0020 r v s) = saveBase s := rfl
  unfold stResult
  dsimp only
  rw [test]
  split <;> split <;> simp [class_, note, row, cntUp]

theorem saveBase_sliceAbort (s : State) : saveBase (sliceAbort s) = saveBase s := by
  unfold sliceAbort
  dsimp only
  split
  · rfl
  · rw [saveBase_stResult]
    exact saveBase_sliceReturn ..

theorem saveBase_shedStrings (s : State) : saveBase (shedStrings s) = saveBase s := by
  unfold shedStrings
  split
  · rfl
  · exact saveBase_foldl (by exact fun _ _ => rfl) ..

theorem saveBase_feedCuts (l : Lane) (xs : List (List Int)) (n : Nat) (c : List (Nat × Scale)) (s : State) :
    saveBase (feedCuts l xs n c s) = saveBase s := by
  induction c generalizing xs n s with
  | nil => rfl
  | cons p r ih => exact ih ..

@[simp] theorem saveBase_closeInterval (a b : Samples) (s : State) : saveBase (closeInterval a b s) = saveBase s := by
  unfold closeInterval holdTop
  extract_lets one
  have fed (l : Lane) (m : Samples) (s : State) : saveBase (one l m s) = saveBase s := by
    simp only [one]
    split
    · exact saveBase_feedCuts ..
    · rfl
  calc saveBase (updMet _ (updMet _ (one .B b (one .A a s))))
      = saveBase (updMet _ (one .B b (one .A a s))) := saveBase_updMet (by exact fun _ => rfl) _
    _ = saveBase (one .B b (one .A a s)) := saveBase_updMet (by exact fun _ => rfl) _
    _ = saveBase s := (fed ..).trans (fed ..)

/-! ### The metering saves -/

/-- The bytes that a save leaves alone: those outside the energy ring and, with an active lane, outside the slot (R246). -/
def spared (s : State) (k : Nat) : Prop :=
  (k < 0x20800000 ∨ 0x20810000 ≤ k) ∨ (active s).isSome ∧ (k < nextSlot s ∨ nextSlot s + 128 ≤ k)

theorem spared_of_saveBase {v s : State} (h : saveBase v = saveBase s) : spared v = spared s := by
  obtain ⟨ha, hq⟩ := Prod.mk.inj h
  funext k
  simp only [spared, nextSlot, ha, hq]

theorem writeSlot_kept {P : Nat → Prop} {m : List Host.Cell × List Host.Cell} {s : State} (h : Kept P m s.lanes.mems)
    (l : Lane)
    (g : SaveSlot) (hP : ∀ k, P k → k < 0x20800000 + g.seq % 16 * 4096 ∨ 0x20800000 + g.seq % 16 * 4096 + 128 ≤ k) :
    Kept P m (writeSlot l g s).lanes.mems := by
  refine h.trans (Pair.upd_kept (fun x => ⟨by exact memWfFrom_filter _, fun k hk => ?_⟩) l s.lanes)
  have out := hP k hk
  exact memRead_filter (p := fun k => !decide (0x20800000 + g.seq % 16 * 4096 ≤ k ∧ k < 0x20800000 + g.seq % 16 * 4096 +
    128))
    (by simp; omega) x.mem

theorem saveSlot_kept {P : Nat → Prop} {m : List Host.Cell × List Host.Cell} {s : State} (h : Kept P m s.lanes.mems)
    (hP : ∀ k, P k → spared s k) (final : Bool) : Kept P m (saveSlot final s).lanes.mems := by
  have slot : ∀ k, P k → k < nextSlot s ∨ nextSlot s + 128 ≤ k := by
    intro k hk
    rcases hP k hk with ring | ⟨_, out⟩
    · unfold nextSlot
      omega
    · exact out
  have same : (if lanesDiffer s then stickySet 128 0 (cntUp 0x80015 s) else s).met = s.met := by split <;> simp
  unfold saveSlot
  extract_lets s1 seq from_ slot_ one
  have write (l : Lane) {v : State} (hv : Kept P m v.lanes.mems) : Kept P m (one l v).lanes.mems := by
    refine .ite (writeSlot_kept hv _ _ fun k hk => ?_) hv
    have := slot k hk
    simpa only [nextSlot, slot_, seq, s1, same] using this
  have start : Kept P m s1.lanes.mems := by
    simp only [s1]
    split <;> simpa
  have all := write .B (write .A start)
  simpa

theorem bootSave_kept {P : Nat → Prop} {m : List Host.Cell × List Host.Cell} {s : State} (h : Kept P m s.lanes.mems)
    (hP : ∀ k, P k → k < 0x20800000 ∨ 0x20810000 ≤ k) (l : Lane) : Kept P m (bootSave l s).lanes.mems := by
  unfold bootSave
  refine .ite h (writeSlot_kept h _ _ fun k hk => ?_)
  have := hP k hk
  dsimp only
  omega

theorem finalSave_kept {P : Nat → Prop} {m : List Host.Cell × List Host.Cell} {s : State} (h : Kept P m s.lanes.mems)
    (hP : ∀ k, P k → spared s k) (a b : Samples) : Kept P m (finalSave a b s).lanes.mems := by
  have same := saveBase_closeInterval a b s
  unfold finalSave
  dsimp only
  split
  · exact saveSlot_kept (by simpa) (fun k hk => spared_of_saveBase same ▸ hP k hk) true
  · next none =>
    have ring : ∀ k, P k → k < 0x20800000 ∨ 0x20810000 ≤ k := fun k hk =>
      (spared_of_saveBase same ▸ hP k hk : spared (closeInterval a b s) k).resolve_right fun h => none h.1
    exact bootSave_kept (bootSave_kept (by simpa) ring _) ring _

theorem execPeriodicSave_keeps (t : Nat) (a b : Samples) (s : State) : Keeps (spared s) s (execPeriodicSave t a b s) := by
  have closed : saveBase (closeInterval a b (tick t s)) = saveBase s := by simp
  have saved : Kept (spared s) s.lanes.mems (saveSlot false (closeInterval a b (tick t s))).lanes.mems :=
    saveSlot_kept (by simp) (by simp [spared_of_saveBase closed]) false
  unfold execPeriodicSave
  refine .ite ((keeps_done ..).2 (.ite ?_ ?_)) ((keeps_done ..).2 (by simp)) <;> simpa

theorem execFinalSaveRepeat_keeps (t : Nat) (a b : Samples) (s : State) :
    Keeps (spared s) s (execFinalSaveRepeat t a b s) :=
  .ite ((keeps_done ..).2 (finalSave_kept (by simp) (by simp [spared_of_saveBase (saveBase_tick t s)]) a b))
    ((keeps_done ..).2 (by simp))

theorem execPowerFailWarning_keeps (t : Nat) (a b : Samples) (s : State) :
    Keeps (spared s) s (execPowerFailWarning t a b s) := by
  unfold execPowerFailWarning
  dsimp only
  refine .ite ((keeps_done ..).2 (by simp)) ?_
  generalize hf : (fun p : Power => _) = f
  have base : saveBase (shedStrings (icuRaise 1 (icuRaise 0 (updPower f (tick t s))))) = saveBase s := by
    simp [saveBase_shedStrings]
  have mems : (shedStrings (icuRaise 1 (icuRaise 0 (updPower f (tick t s))))).lanes.mems = s.lanes.mems := by simp
  revert base mems
  generalize shedStrings (icuRaise 1 (icuRaise 0 (updPower f (tick t s)))) = v
  intro base mems
  have aborted := (saveBase_sliceAbort v).trans base
  refine .ite ((keeps_done ..).2 ?_) ((keeps_done ..).2 ?_)
  · have := finalSave_kept (P := spared s) (m := s.lanes.mems) (s := sliceAbort v) (by simp [mems])
      (by simp [spared_of_saveBase aborted]) a b
    simpa
  · exact finalSave_kept (by simp [mems]) (by simp [spared_of_saveBase base]) a b

/-! ### All commands -/

/-- Every command but the six that store in MRAM leaves how MRAM reads and the canonical form. Those that branch before they
act have lemmas of their own; the others are chains of the shared operations. -/
theorem exec_keeps {c : Instr} (h : storesMram c = false) (s : State) : Keeps mramAddr s (exec c s) := by
  cases c
  case registerWrite => cases h
  case periodicSave => cases h
  case finalSaveRepeat => cases h
  case powerFailWarning => cases h
  case stateTransferDone => cases h
  case histCopyDone => cases h
  all_goals simp [exec, execLightSet, execLightResume, execNodeFunc, execSubGo, execSelectClass, execHistCopy,
    execIcuSourceEvent, execIcuClaim, execIcuComplete, execEnableSet, execEnableClr, execSgiSet, execIcuStuckTimeout,
    execCoreReset, execLaneReset, execStopEntry, execWakeEdge, execSemaphoreAcquire, execSemaphoreRelease, execTimeLoRead,
    execPendingRead, execGourWindowStart, execGourRequest, execGourRefillWrite, execSumpFlush, execSumpDataRead,
    execSumpWdataWrite, execSumpWordArrival, execSlotCommandLate, execBlankDecision, execEchoInsert, execPathSwap,
    execPathSwapBack, execJoinKey, execJoinPendingExpiry, execApproveJoin, execRemoveNode, execEpochOpen, execEpochStage,
    execEpochArm, execEpochAbandon, execEpochPreswitchCheck, execEpochSwitch, execEpochVerifyTimeout, execImageDiscard,
    execImageBlock, execInputArrival, execForwardedInput, execEccError, execLaneWatchdogExpiry, execCoreCheckerFire,
    execResyncRequest, execResyncCompareEnd, execLaneBridgeLinkFail, execLaneBridgeLinkUp, execLaneStartReport,
    execUnitTest, execDerive, execLoadSlot, execSign, execVerify, execEcdh, execAeadSeal, execAeadOpen, execHmac,
    execWrapExport, execUnwrapImport, execRootCopy, execTamperTrip, execLaneLocalTrip, execSleepTrip, execCommission,
    execEscrowExport, execTrunkKeyInstall, execReturnToStock, execFactoryRootsInstall, execCellLoadTest, execCellRemoval,
    execCellReplaced, execCellTest, execVbdRecovery, execCoilSupplyLoss, execCoilSupplyReturn, execLedSupplyFail,
    execKeepaliveFail, execInputRange, execBaseplateHot, execBaseplateCool, execOutputSet, execOutputTrip, execDiEdge,
    execStreamOpen, execTrialConfirm, execFwCommit, execBankErase, execLedPeriodBoundary, execSafeLightTimeout,
    execLedControlTick, execPadSensorStuck, execHwOvertempCut, execHwOvertempRelease, execBypassClamp,
    execStringCurrentFault, execFlsStart, execFlsStop, execFlsTrigger, execFlsCtrlStart, execFlsCtrlStop, execFlsTrigSet,
    execFlsProgWrite, execZcTimeout, execMeasurementPeriodEnd, execBattMetStart, execBattWindow, execBattBudgetSpent,
    execBattMetRenew, execRecordSubmit, execRecorderNoticeWindowEnd, execSummaryIntervalEnd, execBusErrorRead, execStSweep,
    execTentativeTimeout, execCoastStart, execCoastLimitExpiry, execHandedEnd, execEndedRelease, execMidpointRefresh,
    execHistoryHourEnd, execTurnsWeekEnd, execClassApply, execClassHoldExpiry, execAdaptiveClassChange, execHistClear,
    execReturnModule, execDtlsHandshake, execDatagramDrop, execDtlsTeardown, execRead, execCommitApply, execPtpSync,
    execPtpSyncSend, execPdelayExchange, execSyncMiss, execAsnSlewDone, execRtcRealign, execRtcCompensation,
    execPtpTrimUpdate, execMainsTrimWindow, execOscStopDetect, execTimeSet, execLeapInstant, execAlarmFire, execSfpInsert,
    execAutonegDone, execAutonegTimeout, execHelloRetry, execTamperHello, execOffer, execAccept, execLinkDown, execCredit,
    execCreditSend, execDcredit, execDcreditSend, execLinkReport, execLinkReportPeriodic, execBreakMsg, execStatus,
    execStatusSend, execPauseFrame, execMasterHandover, execPortRestart, execAliveLoss, execLanesAgree,
    execAgreementTimeout, execRecommission, execScrap, execBrownoutRecovery, execVStop, execFwRestartAll, execSurvey,
    execSurveySnap, execSnapshot, execSurveyRec, execSurveyMemberTimeout]

/-- What is left alone is the canonical form alone, wherever else bytes may change. -/
theorem Keeps.form {P : Nat → Prop} {s : State} {o : Host.Outcome State Fault Refusal} (h : Keeps P s o) :
    Keeps noAddr s o :=
  fun u hu => (h u hu).form

theorem exec_form {c : Instr} (h : ∀ t l, c ≠ .stateTransferDone t l) (s : State) : Keeps noAddr s (exec c s) := by
  rcases hm : storesMram c with _ | _
  · exact (exec_keeps hm s).form
  · cases c
    case registerWrite t l c a w => exact execRegisterWrite_form t l c a w s
    case periodicSave t a b => exact (execPeriodicSave_keeps t a b s).form
    case finalSaveRepeat t a b => exact (execFinalSaveRepeat_keeps t a b s).form
    case powerFailWarning t a b => exact (execPowerFailWarning_keeps t a b s).form
    case histCopyDone t p => exact execHistCopyDone_form t p s
    case stateTransferDone t l => exact absurd rfl (h t l)
    all_goals cases hm

theorem Kept.memoryOk {P : Nat → Prop} {s u : State} (h : Kept P s.lanes.mems u.lanes.mems) (ok : memoryOk s = true) :
    memoryOk u = true := by
  obtain ⟨a, b⟩ := Bool.and_eq_true_iff.1 ok
  exact Bool.and_eq_true_iff.2 ⟨h.1.wf a, h.2.wf b⟩

theorem memoryOk_of_mems {s u : State} (h : u.lanes.mems = s.lanes.mems) : memoryOk u = memoryOk s := by
  obtain ⟨a, b⟩ := Prod.mk.inj h
  simp only [memoryOk, a, b]

theorem transferred_memoryOk {s : State} (l : Lane) (ok : memoryOk s = true) : memoryOk (transferred l s) = true := by
  obtain ⟨a, b⟩ := Bool.and_eq_true_iff.1 ok
  cases l
  · exact Bool.and_eq_true_iff.2 ⟨copyMem_wf a b, b⟩
  · exact Bool.and_eq_true_iff.2 ⟨a, copyMem_wf b a⟩

theorem execStateTransferDone_memoryOk {t : Nat} {l : Lane} {s u : State} (ok : memoryOk s = true)
    (h : execStateTransferDone t l s = .next u) : memoryOk u = true := by
  have mems := execStateTransferDone_mems h
  split at mems
  · exact memoryOk_of_mems mems ▸ transferred_memoryOk l ok
  · exact memoryOk_of_mems mems ▸ ok

theorem exec_memoryOk {c : Instr} {s u : State} (ok : memoryOk s = true) (h : exec c s = .next u) : memoryOk u = true := by
  by_cases hc : ∃ t l, c = .stateTransferDone t l
  · obtain ⟨t, l, rfl⟩ := hc
    exact execStateTransferDone_memoryOk ok h
  · exact (exec_form (fun t l e => hc ⟨t, l, e⟩) s u h).memoryOk ok

/-- Settles O6: it holds. Every command keeps the canonical form: those that store by the laws of `memWrite` and of filters,
the state transfer by joining disjoint ranges of two canonical memories, every other one by `exec_keeps`. -/
theorem memoryForm : Obligations.MemoryForm := by
  unfold Obligations.MemoryForm
  intro s u ok h
  unfold step at h
  split at h
  · cases h
    exact ok
  · next c rest _ => exact exec_memoryOk (s := { s with pending := rest }) ok h

theorem Kept.mem_get {P : Nat → Prop} {s u : State} (h : Kept P s.lanes.mems u.lanes.mems) (l : Lane) :
    MemKept P (s.lanes.get l).mem (u.lanes.get l).mem := by
  cases l
  · exact h.1
  · exact h.2

theorem saves_keep {t : Nat} {a b : Samples} {s u : State} (h : exec (.periodicSave t a b) s = .next u ∨
    exec (.finalSaveRepeat t a b) s = .next u ∨ exec (.powerFailWarning t a b) s = .next u) :
    Kept (spared s) s.lanes.mems u.lanes.mems := by
  rcases h with h | h | h
  · exact execPeriodicSave_keeps t a b s u h
  · exact execFinalSaveRepeat_keeps t a b s u h
  · exact execPowerFailWarning_keeps t a b s u h

theorem transferred_mem (l : Lane) (s : State) : ((transferred l s).lanes.get l).mem =
    copyMem (s.lanes.get l).mem (s.lanes.get (otherLane l)).mem ∧
    ((transferred l s).lanes.get (otherLane l)).mem = (s.lanes.get (otherLane l)).mem := by
  cases l <;> exact ⟨rfl, rfl⟩

theorem mem_get_of_mems {s u : State} (h : u.lanes.mems = s.lanes.mems) (l : Lane) :
    (u.lanes.get l).mem = (s.lanes.get l).mem := by
  obtain ⟨a, b⟩ := Prod.mk.inj h
  cases l
  · exact a
  · exact b

/-- Settles O8: it holds. The frames are `exec_keeps`, `saves_keep` and, for the state transfer, what the join of the two
memories reads. -/
theorem memoryFrames : Obligations.MemoryFrames := by
  unfold Obligations.MemoryFrames
  refine ⟨?others, ?ring, ?slot, ?transfer⟩
  case others =>
    intro c s u hc h l a lo hi
    exact ((exec_keeps hc s u h).mem_get l).read a ⟨lo, hi⟩
  case ring =>
    intro t a b s u h l k out
    exact ((saves_keep h).mem_get l).read k (.inl out)
  case slot =>
    intro t a b s u lane h l k out
    exact ((saves_keep h).mem_get l).read k (.inr ⟨lane, out⟩)
  case transfer =>
    intro t l s ha role resync up
    have ready : receives l (tick t s) = true := by
      simp only [receives, Bool.and_eq_true, beq_iff_eq]
      exact ⟨⟨⟨ha, role⟩, resync⟩, up⟩
    obtain ⟨u, hu⟩ : ∃ u, execStateTransferDone t l s = .next u := ⟨_, execStateTransferDone_eq t l s⟩
    refine ⟨u, hu, ?_⟩
    beta_reduce
    have mems := execStateTransferDone_mems hu
    rw [if_pos ready] at mems
    obtain ⟨own, other⟩ := transferred_mem l (tick t s)
    rw [mem_get_of_mems mems, mem_get_of_mems mems, own, other]
    exact ⟨memRead_copyMem _ _, rfl⟩

end Sys2Proof.Machine
end

section
/-!
PROOFS. What the block reads right after reset, and the settlement of O3.
-/
namespace Sys2Proof.Machine

open Sys2Proof.Safety

theorem reset_lanes_get (l : Lane) : State.reset.lanes.get l = LaneSt.init := by cases l <;> rfl

@[simp] theorem lget_replicate_default {α : Type} (n k : Nat) (x : α) : lget (List.replicate n x) k x = x := by
  induction n generalizing k with
  | zero => rfl
  | succ n ih =>
    cases k with
    | zero => rfl
    | succ k => exact ih k

theorem engOf_reset (l : Lane) (e : Nat) : engOf l State.reset e = Engine.init := by
  rw [engOf, reset_lanes_get]
  exact lget_replicate_default ..

theorem reset_rtcs_get (l : Lane) : State.reset.time.rtcs.get l = Rtc.init := by cases l <;> rfl

/-- Settles O3: it holds. Both lanes start from `LaneSt.init`, and the tables are empty, so that each row reads as it
starts. -/
theorem resetValues : Obligations.ResetValues := by
  unfold Obligations.ResetValues
  refine ⟨⟨?roles, rfl, rfl, rfl, rfl, rfl⟩, ⟨fun _ => rfl, fun _ => rfl, ?engines⟩, rfl, ?lane⟩
  case roles =>
    intro l
    rw [reset_lanes_get]
    rfl
  case engines =>
    intro l e _
    rw [engOf_reset]
    exact ⟨rfl, rfl, rfl⟩
  case lane =>
    intro l
    rw [reset_lanes_get, reset_rtcs_get]
    refine ⟨rfl, ?_, rfl, rfl, ?_⟩
    · rintro x (h : x ∈ List.replicate 6 TimeLatch.init)
      rw [List.eq_of_mem_replicate h]
      rfl
    · rintro x (h : x ∈ List.replicate 7 IcuTarget.init)
      rw [List.eq_of_mem_replicate h]
      exact ⟨rfl, rfl⟩

end Sys2Proof.Machine
end

section
/-!
PROOFS. What the closing of a step leaves alone beside what a core sees: the lane pair but its outputs, the records, the
replies.
-/
namespace Sys2Proof.Machine

open Sys2Proof.Safety

/-! ### The lane pair and the replies -/

/-- The lane pair without the outputs that leave or wait, and the replies that the sessions keep: nothing of them moves when
something is sent. -/
def unsent (s : State) : LanePair × (Nat → Nat → Option Reply) :=
  ({ s.lp with outSeq := 0, waiting := [], released := 0 }, replyFor s)

theorem unsent_of_parts {s u : State} (lp : u.lp = s.lp) (ib : u.ib = s.ib) : unsent u = unsent s := by
  have : replyFor u = replyFor s := by
    funext sid seq
    rw [replyFor, replyFor, ib]
  rw [unsent, unsent, lp, this]

theorem unsent_foldl {β : Type} {f : State → β → State} (h : ∀ s b, unsent (f s b) = unsent s) (l : List β) (s : State) :
    unsent (l.foldl f s) = unsent s := by
  induction l generalizing s with
  | nil => rfl
  | cons b r ih => exact (ih _).trans (h s b)

@[simp] theorem unsent_cntUp (n : Nat) (s : State) : unsent (cntUp n s) = unsent s := unsent_of_parts (by simp) (by simp)
@[simp] theorem unsent_leave (o : Out) (s : State) : unsent (leave o s) = unsent s := unsent_of_parts (by simp) (by simp)

@[simp] theorem unsent_emit (o : Out) (s : State) : unsent (emit o s) = unsent s := by
  unfold emit
  split
  · split
    · rfl
    · dsimp only
      split
      · rfl
      · exact unsent_leave ..
  · rfl

@[simp] theorem unsent_imageLeft (m : TMsg) (s : State) : unsent (imageLeft m s) = unsent s := by
  unfold imageLeft
  split
  · split
    · rfl
    · exact unsent_emit ..
  · rfl

@[simp] theorem unsent_sendNow (p dst cls : Nat) (m : TMsg) (s : State) : unsent (sendNow p dst cls m s) = unsent s := by
  refine (unsent_imageLeft ..).trans ((unsent_emit ..).trans (unsent_of_parts ?_ ?_)) <;> simp

@[simp] theorem unsent_trunkSend (dst cls : Nat) (m : TMsg) (s : State) : unsent (trunkSend dst cls m s) = unsent s := by
  unfold trunkSend
  split
  · exact unsent_cntUp ..
  · split
    · split
      · rfl
      · exact unsent_sendNow ..
    · rfl

/-- A record number of an association is no part of a reply. -/
@[simp] theorem unsent_sendIb (aid tclass : Nat) (m : IbMsg) (s : State) : unsent (sendIb aid tclass m s) = unsent s := by
  unfold sendIb
  split
  · dsimp only
    split
    · exact (unsent_emit ..).trans rfl
    · exact (unsent_trunkSend ..).trans rfl
  · rfl

theorem replyFor_setNoticeSeq {s : State} {k : Nat} {x : Session} (hx : mget s.ib.sessions k = some x) (n : Nat) :
    replyFor { s with ib := { s.ib with sessions := mset s.ib.sessions k { x with noticeSeq := n } } } = replyFor s := by
  funext sid seq
  by_cases h : sid = k
  · subst h
    simp [replyFor, mget_mset_same, hx]
  · simp [replyFor, mget_mset_ne, h]

/-- A NOTICE raises its session's NOTICE number and leaves the replies that it keeps. -/
@[simp] theorem unsent_sendNotice (id : Nat) (b : Sub) (flags changes time obj : Nat) (body : Body) (urgent : Bool)
    (s : State) :
    unsent (sendNotice id b flags changes time obj body urgent s) = unsent s := by
  unfold sendNotice
  split
  · rfl
  · next x hx => exact (unsent_sendIb ..).trans ((unsent_cntUp ..).trans (Prod.ext rfl (replyFor_setNoticeSeq hx _)))

@[simp] theorem unsent_flushSub (id : Nat) (s : State) : unsent (flushSub id s) = unsent s := by
  unfold flushSub
  split
  · rfl
  · split
    · rfl
    · exact (unsent_sendNotice ..).trans rfl

theorem unsent_settleSub (s s' acc : State) (p : Nat × Sub) : unsent (settleSub s s' acc p) = unsent acc := by
  unfold settleSub
  split
  · dsimp only
    split
    · rfl
    · split
      · split
        · exact (unsent_flushSub ..).trans rfl
        · rfl
      · rfl
  · rfl

@[simp] theorem unsent_settle (s s' : State) : unsent (settle s s') = unsent s' := by
  unfold settle
  split
  · exact unsent_foldl (unsent_settleSub s s') ..
  · rfl

@[simp] theorem unsent_sendReply (aid tclass sid seq typ : Nat) (r : Reply) (s : State) :
    unsent (sendReply aid tclass sid seq typ r s) = unsent s := unsent_foldl (fun _ _ => unsent_sendIb ..) ..

/-- The lane pair but its outputs, of states that agree on what is not sent. -/
theorem lp_of_unsent {v u : State} (h : unsent u = unsent v) :
    u.lp = { v.lp with outSeq := u.lp.outSeq, waiting := u.lp.waiting, released := u.lp.released } :=
  congrArg (fun p => { p.1 with outSeq := u.lp.outSeq, waiting := u.lp.waiting, released := u.lp.released }) h

/-- What the closing of a step leaves of the state that its command made. -/
structure Closed (v u : State) : Prop extends OnlySends v u where
  unsent : unsent u = unsent v
  recd : u.recd = v.recd

theorem Closed.lp {v u : State} (h : Closed v u) :
    u.lp = { v.lp with outSeq := u.lp.outSeq, waiting := u.lp.waiting, released := u.lp.released } := lp_of_unsent h.unsent

theorem Closed.answered {v u : State} (h : Closed v u) {sid : Nat} {hd : Hdr} {r : Reply} :
    Answered u sid hd r ↔ Answered v sid hd r := by
  rw [Answered, Answered, show replyFor u = replyFor v from congrArg Prod.snd h.unsent]

theorem runs_closed {c : Instr} {s s0 v : State} {P : State → Prop} (he : exec c s = done s0 v) (hP : ∀ u, Closed v u → P u)
    :
    Runs c s P := by
  refine ⟨_, he, hP _ ⟨(settle_onlySends _ v).trans (.of_eq rfl rfl rfl rfl rfl), ?_, ?_⟩⟩
  · exact (unsent_of_parts rfl rfl).trans (unsent_settle ..)
  · simp

end Sys2Proof.Machine
end

section
/-!
PROOFS. The order of inputs (R16, R17), and the settlement of O34.
-/
namespace Sys2Proof.Machine

open Sys2Proof.Safety

theorem active_of_follower {s : State} {l : Lane} (h : follower s = some l) : (active s).isSome = true := by
  unfold follower at h
  split at h
  · cases h
  · next e => simp [e]

theorem unsent_cntLane (l : Lane) (n r c k : Nat) (s : State) : unsent (cntLane l n r c k s) = unsent s := rfl

/-- Beside a follower the input that both lanes have is numbered, held and tagged (R16). -/
theorem execInputArrival_follower {s : State} {l : Lane} (h : follower s = some l) (t source hash : Nat) :
    ∃ v, execInputArrival t source hash true true s = done (tick t s) v ∧ unsent v = unsent { s with lp := { s.lp with
      inputSeq := (s.lp.inputSeq + 1) % 4294967296
      held := s.lp.held ++ [{ hash, source, since := max s.clk.fab t }] } } := by
  have hf : follower (tick t s) = some l := h
  have ha := active_of_follower h
  simp only [execInputArrival, hf, Option.isSome_some, Bool.true_and, if_true]
  refine ⟨_, if_pos ha, ?_⟩
  split
  · exact unsent_emit ..
  · rfl

/-- Without a follower an input is numbered where the active lane has it, and nothing is held (R16). -/
theorem execInputArrival_alone {s : State} (h : follower s = none) (t source hash : Nat) (atActive atStandby : Bool) :
    ∃ v, execInputArrival t source hash atActive atStandby s = done (tick t s) v ∧ v.lp = { s.lp with
      inputSeq := if atActive && (active s).isSome then (s.lp.inputSeq + 1) % 4294967296 else s.lp.inputSeq } := by
  have hf : follower (tick t s) = none := h
  simp only [execInputArrival, hf, Option.isSome_none, Bool.false_and, Bool.and_false, Bool.false_eq_true, if_false]
  by_cases ha : atActive && (active s).isSome
  · exact ⟨_, if_pos ha, by rw [if_pos ha]; rfl⟩
  · exact ⟨_, if_neg ha, by rw [if_neg ha]; rfl⟩

/-- The follower puts the active lane's tag in its queue and consumes what it can (R17). -/
theorem execOrderTag_follower {s : State} {l : Lane} (h : follower s = some l) (up : bridgeUp s = true)
    (t seq source hash : Nat) :
    ∃ v, execOrderTag t seq source hash s = done (tick t s) v ∧
      (v.lp.held, v.lp.tags) = drainTags s.lp.held (s.lp.tags ++ [(seq, source, hash)]) := by
  have hf : follower (tick t s) = some l := h
  have hb : bridgeUp (tick t s) = true := up
  simp only [execOrderTag, hf, hb, Bool.not_true, Bool.false_eq_true, if_false]
  refine ⟨_, rfl, ?_⟩
  split
  · rfl
  · have same := lp_of_unsent ((unsent_emit (.forward seq source hash) (cntLane l 0xA0120 0 0 1 (tick t s))).trans
      (unsent_cntLane ..))
    rw [same]
    rfl

/-- A forwarded input that a waiting tag names is taken in the order of the tags (R17). -/
theorem execForwardedInput_tagged {s : State} {t seq source hash : Nat} (up : bridgeUp s = true)
    (tag : s.lp.tags.contains (seq, source, hash) = true) :
    ∃ v, execForwardedInput t seq source hash s = done (tick t s) v ∧
      (v.lp.held, v.lp.tags) = drainTags (s.lp.held ++ [{ hash, source, since := max s.clk.fab t }]) s.lp.tags := by
  exact ⟨_, if_pos (Bool.and_eq_true_iff.2 ⟨up, tag⟩), rfl⟩

/-- An input held for 20 ms that no tag names is given up (R17). -/
theorem execOrphanTimeout_due {s : State} {t hash : Nat} {l : Lane} {x : HeldInput} (h : follower s = some l)
    (hx : s.lp.held.find? (fun y => y.hash == hash) = some x) (due : x.since + 20 * Config.msCycles ≤ max s.clk.fab t)
    (unnamed : s.lp.tags.any (fun g => g.2.2 == hash) = false) :
    ∃ v, execOrphanTimeout t hash s = done (tick t s) v ∧ v.lp = { s.lp with
      held := takeHeld hash x.source s.lp.held
      orphans := max s.clk.fab t :: s.lp.orphans.filter (fun f => decide (max s.clk.fab t < f + Config.secCycles)) } := by
  have hf : follower (tick t s) = some l := h
  have hx0 : (tick t s).lp.held.find? (fun y => y.hash == hash) = some x := hx
  simp only [execOrphanTimeout, hf, hx0]
  refine ⟨_, if_pos (Bool.and_eq_true_iff.2 ⟨decide_eq_true due, ?_⟩), rfl⟩
  rw [Bool.not_eq_true']
  exact unnamed

/-- Settles O34: it holds. Each clause reads the lane pair off what its command makes, which sending leaves as it is. -/
theorem inputOrder : Obligations.InputOrder := by
  unfold Obligations.InputOrder
  refine ⟨?both, ?alone, ?tag, ?forwarded, ?orphan⟩
  case both =>
    intro t src hv l s hf
    obtain ⟨v, he, hv⟩ := execInputArrival_follower hf t src hv
    refine runs_closed he fun u hu => ?_
    rw [lp_of_unsent (hu.unsent.trans hv)]
    exact ⟨rfl, rfl, rfl⟩
  case alone =>
    intro t src hv b1 b2 s hf
    obtain ⟨v, he, hv⟩ := execInputArrival_alone hf t src hv b1 b2
    refine runs_closed he fun u hu => ?_
    rw [hu.lp, hv]
    exact ⟨rfl, rfl⟩
  case tag =>
    intro t q src hv l s hf up
    obtain ⟨v, he, hv⟩ := execOrderTag_follower hf up t q src hv
    refine runs_closed he fun u hu => ?_
    rw [hu.lp]
    exact hv
  case forwarded =>
    intro t q src hv s up tag
    obtain ⟨v, he, hv⟩ := execForwardedInput_tagged (t := t) up tag
    refine runs_closed he fun u hu => ?_
    rw [hu.lp]
    exact hv
  case orphan =>
    intro t hv l x s hf hx due unnamed
    obtain ⟨v, he, hv⟩ := execOrphanTimeout_due hf hx due unnamed
    refine runs_closed he fun u hu => ?_
    rw [hu.lp, hv]
    exact ⟨rfl, rfl⟩

end Sys2Proof.Machine
end

section
/-!
PROOFS. The resynchronisation of a lane (R11, R295, R296, R301), and the settlement of O37.
-/
namespace Sys2Proof.Machine

open Sys2Proof.Safety

/-! ### An answered command -/
theorem sendReply_onlySends (aid tclass sid seq typ : Nat) (r : Reply) (s : State) :
    OnlySends s (sendReply aid tclass sid seq typ r s) := .foldl (fun _ _ => sendIb_onlySends ..) _ s

/-- A reply that is answered to a session stands for its REQ_SEQ (R76), and answering it only sends. -/
theorem answer_some {v : State} {sid : Nat} (live : (mget v.ib.sessions sid).isSome = true) (h : Hdr) (r : Reply) :
    OnlySends v (answer sid h (v, some r)) ∧ Answered (answer sid h (v, some r)) sid h { r with obj := h.obj } := by
  have sent := sendReply_onlySends h.assoc h.tclass sid h.seq h.typ { r with obj := h.obj }
    (cacheReply sid h.seq (some { r with obj := h.obj }) v)
  have cached : OnlySends v (cacheReply sid h.seq (some { r with obj := h.obj }) v) := .of_eq rfl rfl rfl rfl rfl
  refine ⟨cached.trans sent, ?_⟩
  have same : replyFor (answer sid h (v, some r)) = replyFor (cacheReply sid h.seq (some { r with obj := h.obj }) v) :=
    congrArg Prod.snd (unsent_sendReply ..)
  obtain ⟨x, hx⟩ := Option.isSome_iff_exists.1 live
  rw [Answered, same]
  simp [replyFor, cacheReply, mget_mmod_same, hx]

theorem sessions_of_arrives {typ : Nat} {nb : Bool} {h : Hdr} {sid : Nat} {s : State} (ha : arrives typ nb h sid s = true) :
    (mget s.ib.sessions sid).isSome = true := by
  simp only [arrives, Bool.and_eq_true] at ha
  obtain ⟨⟨⟨_, live⟩, _⟩, _⟩ := ha
  cases hx : mget s.ib.sessions sid with
  | none => simp [hx] at live
  | some x => rfl

/-- A request closes no session before it is executed. -/
theorem opState_session {s : State} {sid : Nat} (live : (mget s.ib.sessions sid).isSome = true) (t : Nat) (h : Hdr) :
    (mget (opState t h sid s).ib.sessions sid).isSome = true := by
  obtain ⟨f, hf⟩ : ∃ f, (opState t h sid s).ib.sessions = mmod (touchSession sid (tick t s)).ib.sessions sid f := ⟨_, rfl⟩
  obtain ⟨g, hg⟩ : ∃ g, (touchSession sid (tick t s)).ib.sessions = mmod s.ib.sessions sid g := ⟨_, rfl⟩
  simpa [hf, hg, mget_mmod_same] using live

theorem obj_of_passes {obj : Nat} {cols : List ColKind} {nb : Bool} {t sid : Nat} {h : Hdr} {args : List TVal} {s : State}
    (hp : passes obj cols nb t h args sid s = true) : h.obj = obj := by
  obtain ⟨_, hc⟩ := Bool.and_eq_true_iff.1 hp
  by_contra hne
  simp [execCheck, hne] at hc

/-- A command that passes its checks is executed and answered. -/
theorem execCmd_passes {obj : Nat} {cols : List ColKind} {t sid : Nat} {h : Hdr} {args : List TVal} {s : State}
    (hp : passes obj cols false t h args sid s = true) (eff : Nat → Session → State → Answer) :
    execCmd obj cols h args eff (tick t s) = answer sid h (eff sid (caller t sid s) (opState t h sid s)) := by
  obtain ⟨ha, hc⟩ := Bool.and_eq_true_iff.1 hp
  rw [Option.isNone_iff_eq_none] at hc
  rw [execCmd, request_arrives ha, hc]

/-! ### Role and resynchronisation of a lane -/

/-- The role of a lane and where its resynchronisation stands. -/
def standing (s : State) (l : Lane) : Role × Resync := ((s.lanes.get l).role, (s.lanes.get l).resync)

theorem standing_of_lanes {s u : State} (h : u.lanes = s.lanes) : standing u = standing s := by
  unfold standing
  rw [h]

theorem OnlySends.standing {s u : State} (h : OnlySends s u) : standing u = standing s := by
  funext l
  rw [Machine.standing, h.lanes l]
  rfl

theorem standing_updLane {f : LaneSt → LaneSt} (h : ∀ x, (f x).role = x.role ∧ (f x).resync = x.resync) (l : Lane)
    (s : State) :
    standing (updLane l f s) = standing s := by
  funext k
  by_cases hk : k = l
  · subst hk
    simp [standing, h]
  · obtain rfl : k = otherLane l := by cases k <;> cases l <;> simp_all [otherLane]
    simp [standing]

@[simp] theorem standing_icuRaise (n : Nat) (s : State) : standing (icuRaise n s) = standing s := by
  unfold icuRaise
  exact (standing_updLane (by exact fun _ => ⟨rfl, rfl⟩) ..).trans (standing_updLane (by exact fun _ => ⟨rfl, rfl⟩) ..)

@[simp] theorem standing_submitRec (r : Record) (s : State) : standing (submitRec r s) = standing s := by
  unfold submitRec
  repeat' split
  · rfl
  · exact (cntUpAt_onlySends ..).standing.trans rfl
  · exact standing_of_lanes (by simp)

/-! ### The ends of a resynchronisation -/

theorem submitRec_held (r : Record) (s : State) : (submitRec r s).recd.held = s.recd.held := by
  unfold submitRec
  repeat' split
  · rfl
  · simp [addC, putC, putRow]
  · unfold syncDrain
    dsimp only
    repeat' split
    all_goals rfl

theorem comparing_kept (l : Lane) (s : State) :
    standing (comparing l s) = standing s ∧ (comparing l s).recd.held.get l = [] ∧
    (comparing l s).lp = { s.lp with held := [], tags := [] } := by
  have drained (q : List Record) (v : State) :
      standing (q.foldl (fun s r => submitRec { r with late := true } s) v) = standing v ∧
      (q.foldl (fun s r => submitRec { r with late := true } s) v).recd.held = v.recd.held ∧
      (q.foldl (fun s r => submitRec { r with late := true } s) v).lp = v.lp := by
    induction q generalizing v with
    | nil => exact ⟨rfl, rfl, rfl⟩
    | cons r q ih =>
      obtain ⟨stand, held, lp⟩ := ih (submitRec { r with late := true } v)
      exact ⟨stand.trans (standing_submitRec ..), held.trans (submitRec_held ..), lp.trans (by simp)⟩
  obtain ⟨stand, held, lp⟩ := drained (s.recd.held.get l)
    { s with recd := { s.recd with held := s.recd.held.put l [] }, lp := { s.lp with held := [], tags := [] } }
  refine ⟨stand, ?_, lp⟩
  rw [comparing, held]
  cases l <;> rfl

/-- A copy whose settings layout the receiver's runtime reads begins its comparison (R295). -/
theorem execStateTransferDone_fits {t : Nat} {l : Lane} {s : State} (ready : receives l s = true)
    (fits : s.fw.live.get (otherLane l) = (runningImg s l).settingsLayout) :
    execStateTransferDone t l s = done (tick t s) (comparing l (transferred l (tick t s))) := by
  have layout : settleLayout l (transferred l (tick t s)) = (transferred l (tick t s), true) := by
    refine if_pos ?_
    have : (transferred l (tick t s)).fw.live.get l = s.fw.live.get (otherLane l) := by cases l <;> rfl
    exact this.trans fits
  rw [execStateTransferDone_eq, if_pos (show receives l (tick t s) = true from ready), layout]
  rfl

/-- A lane whose copy begins (R295). -/
def copyStarts (now : Nat) (x : LaneSt) : LaneSt :=
  { x with role := .lagging, resync := .transfer, cause := .none, roleSince := if x.role = .lagging then x.roleSince else
    now }

theorem execResyncRequest_starts {l : Lane} {s : State} (ha : active s = some (otherLane l))
    (run : (s.lanes.get l).running = true) (role : (s.lanes.get l).role = .lagging)
    (wait : (s.lanes.get l).resync = .waiting) (up : bridgeUp s = true) (fit : imagesFit s = true) (t : Nat) :
    execResyncRequest t l s = done (tick t s) (updLane l (copyStarts (tick t s).clk.fab) (tick t s)) := by
  have ha : active (tick t s) = some (otherLane l) := ha
  have up : bridgeUp (tick t s) = true := up
  have fit : imagesFit (tick t s) = true := fit
  refine (if_neg ?_).trans ((if_pos ?_).trans ((if_neg ?_).trans ((if_neg ?_).trans ((if_neg ?_).trans (if_neg ?_))))) <;>
    simp [ha, run, role, wait, up, fit]

/-- The lane that matched is the standby, and no record is kept (R296). -/
def standsBy (l : Lane) (s : State) : State :=
  let v := updLane l (fun x => { x with role := .standby, resync := .idle, roleSince := s.clk.fab }) s
  { v with lp := { v.lp with records := both [], matched := activeSeq v } }

theorem execResyncCompareEnd_matched {l : Lane} {s : State} (ha : active s = some (otherLane l))
    (role : (s.lanes.get l).role = .lagging) (wait : (s.lanes.get l).resync = .compare) (up : bridgeUp s = true) (t : Nat) :
    execResyncCompareEnd t l true s = done (tick t s) (cntUp 0xA0015 (standsBy l (tick t s))) := by
  refine if_pos ?_
  have ha : active (tick t s) = some (otherLane l) := ha
  have up : bridgeUp (tick t s) = true := up
  simp [ha, role, wait, up]

/-- RESYNC makes the lagging lane wait and ends the condition of its flapping (R301). -/
def waits (l : Lane) (s : State) : State :=
  condSet 163 0 false (updLane l (fun x => { x with resync := if x.resync = .idle then .waiting else x.resync }) s)

theorem waits_resync (l : Lane) (s : State) : ((waits l s).lanes.get l).resync =
    if (s.lanes.get l).resync = .idle then .waiting else (s.lanes.get l).resync := by
  cases l <;> rfl

theorem execResync_passes {t sid : Nat} {h : Hdr} {args : List TVal} {s : State} {l : Lane}
    (hp : passes 0xA0302 [] false t h args sid s = true) (ha : active s = some l)
    (role : (s.lanes.get (otherLane l)).role = .lagging) (up : bridgeUp s = true) :
    execResync t h args s =
      done (tick t s) (answer sid h (waits (otherLane l) (opState t h sid s), some (rOk .empty))) := by
  have ha : active (opState t h sid s) = some l := ha
  have up : bridgeUp (opState t h sid s) = true := up
  have role : ((opState t h sid s).lanes.get (otherLane l)).role = .lagging := role
  unfold execResync
  dsimp only
  rw [execCmd_passes hp]
  simp [ha, role, up, waits, okEmpty]

theorem releaseAll_links (s : State) : (releaseAll s).lp.links = s.lp.links := by
  unfold releaseAll
  generalize hv : { s with lp := { s.lp with waiting := [] } } = v
  have start : v.lp.links = s.lp.links := by rw [← hv]
  generalize s.lp.waiting = ws
  clear hv
  induction ws generalizing v with
  | nil => exact start
  | cons w r ih => exact ih _ (by simpa using start)

theorem voidPlanned_links (s : State) : (voidPlanned s).lp.links = s.lp.links := by
  unfold voidPlanned switchLog logPush
  split <;> simp

theorem dropGoes_lp (l : Lane) (s : State) : (dropGoes l s).lp = s.lp := by
  have one (c : Core) (s : State) : (dropGo l c s).lp = s.lp := by
    unfold dropGo
    split <;> rfl
  exact (one ..).trans (one ..)

/-- The last link down: the standby lags and does not wait for a copy (R11, R301). -/
theorem markLagging_unlinked {l : Lane} {s : State} (a : s.lp.links.a = false) (b : s.lp.links.b = false) :
    standing (markLagging l s) l = (.lagging, .idle) ∧ (markLagging l s).lp.links = s.lp.links := by
  unfold markLagging
  extract_lets s1 auto s2 s3 lp s4
  have links : s1.lp.links = s.lp.links := (voidPlanned_links _).trans (releaseAll_links s)
  have unlinked : auto = false := by simp [auto, links, a, b]
  have lags : standing s4 l = (.lagging, .idle) := by
    cases l <;> simp [standing, s4, s3, unlinked, updLane, Pair.upd, Pair.put, Pair.get]
  have record (v : State) : standing (laneStateRec l 0 0 v) = standing v ∧ (laneStateRec l 0 0 v).lp = v.lp :=
    ⟨standing_submitRec _ v, by simp [laneStateRec]⟩
  refine ⟨?_, ?_⟩
  · rw [standing_icuRaise, (record _).1, standing_of_lanes (s := s4) (by simp)]
    exact lags
  · have kept : s4.lp.links = s1.lp.links := by simp [s4, lp, s3, s2, dropGoes_lp]
    simp [record, kept, links]

/-- The failure of the last bridge link (R301). -/
theorem bridgeFails_last {k : Fin 2} {s : State} {l : Lane} (down : (if k.val = 0 then s.lp.links.b else s.lp.links.a) =
    false)
    (hs : standby s = some l) :
    (bridgeFails k s).lp.links.a = false ∧ (bridgeFails k s).lp.links.b = false ∧
      standing (bridgeFails k s) l = (.lagging, .idle) := by
  unfold bridgeFails
  extract_lets s1 stop s2
  have gone : s1.lp.links.a = false ∧ s1.lp.links.b = false := by
    by_cases h : k.val = 0 <;> simp_all [s1, setLink]
  have role (x : LaneSt) : (stop x).role = x.role := by
    simp only [stop]
    split <;> rfl
  have still : standby s2 = some l := by
    rw [← hs]
    simp only [standby, s2, role]
    rfl
  obtain ⟨stand, links⟩ := markLagging_unlinked (l := l) (s := s2) gone.1 gone.2
  rw [if_neg (by simp [bridgeUp, gone]), still]
  exact ⟨by rw [links]; exact gone.1, by rw [links]; exact gone.2, stand⟩

/-- Settles O37: it holds. -/
theorem resynchronisation : Obligations.Resynchronisation := by
  unfold Obligations.Resynchronisation
  refine ⟨?begins, ?copied, ?compared, ?resync, ?lastLink, ?oneLink, ?linkUp⟩
  case begins =>
    intro t l s ha run role wait up fit
    refine runs_closed (execResyncRequest_starts ha run role wait up fit t) fun u hu => ?_
    rw [hu.lanes l, updLane_lanes, Pair.get_upd_same]
    exact ⟨rfl, rfl, rfl, if_pos role⟩
  case copied =>
    intro t l s ha role wait up fits
    have ready : receives l s = true := by simp [receives, ha, role, wait, up]
    obtain ⟨stand, held, lp⟩ := comparing_kept l (transferred l (tick t s))
    refine runs_closed (execStateTransferDone_fits ready fits) fun u hu => ?_
    refine ⟨?_, ?_, by rw [hu.recd, held], by rw [hu.lp, lp], by rw [hu.lp, lp]⟩
    · have := congrArg Prod.snd (congrFun (hu.standing.trans stand) l)
      refine this.trans ?_
      cases l <;> rfl
    · rw [hu.mem, mem_get_of_mems (comparing_mems ..)]
      exact (transferred_mem l (tick t s)).1
  case compared =>
    intro t l s ha role wait up
    refine runs_closed (execResyncCompareEnd_matched ha role wait up t) fun u hu => ?_
    have lanes := ((cntUpAt_onlySends ..).trans hu.toOnlySends).lanes l
    have lp := hu.lp
    simp only [cntUp_frame] at lp
    rw [lanes, lp]
    cases l <;> exact ⟨rfl, rfl, rfl, rfl, rfl⟩
  case resync =>
    intro t sid h args s l hp ha role up
    have live := opState_session (sessions_of_arrives (Bool.and_eq_true_iff.1 hp).1) t h
    obtain ⟨sent, answered⟩ := answer_some (v := waits (otherLane l) (opState t h sid s)) (by simpa [waits] using live) h
      (rOk .empty)
    refine runs_closed (execResync_passes hp ha role up) fun u hu => ?_
    have all := sent.trans hu.toOnlySends
    refine ⟨?_, ?_, hu.answered.2 ?_⟩
    · exact (congrArg LaneSt.resync (all.lanes _)).trans (waits_resync ..)
    · rw [all.dict]
      simp [waits, condSet]
    · rwa [obj_of_passes hp] at answered
  case lastLink =>
    intro t k l s down hs
    obtain ⟨a, b, stand⟩ := bridgeFails_last (s := tick t s) down hs
    have he : exec (.laneBridgeLinkFail t k) s = done (tick t s) (bridgeFails k (tick t s)) := rfl
    refine runs_closed he fun u hu => ?_
    have stand := (congrFun hu.standing l).trans stand
    rw [hu.lp]
    exact ⟨a, b, congrArg Prod.fst stand, congrArg Prod.snd stand⟩
  case oneLink =>
    intro t k s works
    have up : bridgeUp (setLink k false (tick t s)) = true := by
      by_cases h : k.val = 0 <;> simp_all [bridgeUp, setLink]
    have he : exec (.laneBridgeLinkFail t k) s = done (tick t s) (setLink k false (tick t s)) :=
      congrArg (done (tick t s)) (if_pos up)
    refine runs_closed he fun u hu => ?_
    rw [bridgeUp, hu.lp]
    refine ⟨?_, up, congrArg Prod.fst (congrFun hu.standing .A), congrArg Prod.fst (congrFun hu.standing .B)⟩
    by_cases h : k.val = 0 <;> simp [setLink, h]
  case linkUp =>
    intro t k s fine
    have he : exec (.laneBridgeLinkUp t k) s = done (tick t s) (bridgeWorks k (tick t s)) := if_neg fine
    refine runs_closed he fun u hu => ?_
    rw [bridgeUp, hu.lp]
    by_cases h : k.val = 0 <;> simp [bridgeWorks, setLink, h]

end Sys2Proof.Machine
end

section
/-!
PROOFS. The interrupt controller, semaphores and the time latch (R25, R329, R401 to R404), and the settlement of O52.
-/
namespace Sys2Proof.Machine

open Sys2Proof.Safety

/-! ### Sources of an interrupt controller -/
@[simp] theorem icuSrc_icuMod_same (n : Nat) (f : IcuSrc → IcuSrc) (u : Icu) : icuSrc (icuMod n f u) n = f (icuSrc u n) :=
  mgetD_mset_same ..
theorem icuSrc_icuMod_ne {n m : Nat} (h : m ≠ n) (f : IcuSrc → IcuSrc) (u : Icu) : icuSrc (icuMod n f u) m = icuSrc u m :=
  mgetD_mset_ne _ _ _ _ _ h

/-- The bits below `n` of a written word set or clear their enables, and no pending changes (R401). -/
theorem icuSrc_enableBits (now w bits : Nat) (on : Bool) (n k : Nat) (u : Icu) :
    (icuSrc (enableBits now w bits on n u) (32 * w + k)).enabled =
      (if k < n ∧ bitOf bits k = true then on else (icuSrc u (32 * w + k)).enabled) ∧
    (icuSrc (enableBits now w bits on n u) (32 * w + k)).pending = (icuSrc u (32 * w + k)).pending := by
  induction n generalizing u with
  | zero => exact ⟨(if_neg (by omega)).symm, rfl⟩
  | succ n ih =>
    obtain ⟨enabled, pending⟩ := ih (if bitOf bits n then icuMod (32 * w + n) (fun x =>
      { x with enabled := on, cleared := if on then none else if x.enabled then some now else x.cleared }) u else u)
    rw [enableBits, enabled, pending]
    by_cases hk : k = n
    · subst hk
      by_cases hb : bitOf bits k <;> simp [hb]
    · have hlt : k < n + 1 ↔ k < n := by omega
      have hne : 32 * w + k ≠ 32 * w + n := by omega
      by_cases hb : bitOf bits n <;> simp [hb, hlt, icuSrc_icuMod_ne hne]

/-- An edge makes its source pending, or merges with one that is (R401). -/
theorem icuEdge_pending {u : Icu} (h : u.stopped = false) (now n : Nat) : (icuSrc (icuEdge now n u) n).pending = true := by
  rw [icuEdge, if_neg (by simp [h]), icuSrc_icuMod_same]
  split
  · assumption
  · rfl

/-- An edge changes its source alone. -/
theorem icuEdge_wake (now n : Nat) (u : Icu) : (icuEdge now n u).stopped = u.stopped ∧
    (icuEdge now n u).wokeAt = u.wokeAt ∧ (icuEdge now n u).wakeLatch = u.wakeLatch := by
  unfold icuEdge
  split <;> exact ⟨rfl, rfl, rfl⟩

/-- What restarts a stopped lane leaves in its controller: the instant and the latch of the source (R403). -/
def woken (now n : Nat) (u : Icu) : Icu :=
  { u with stopped := false, wokeAt := if u.stopped then some now else u.wokeAt
           wakeLatch := u.wakeLatch ||| BitVec.twoPow 64 n }

theorem bitOf_toNat (b : Word32) (k : Nat) : bitOf b.toNat k = b.getLsbD k := rfl

/-- Reading a PENDING word counts the empty notices and leaves what the sources stand at (R401). -/
theorem icuSrc_countEmpty (tn w k m : Nat) (u : Icu) :
    (icuSrc (countEmpty tn w k u) m).line = (icuSrc u m).line ∧
    (icuSrc (countEmpty tn w k u) m).pending = (icuSrc u m).pending := by
  induction k generalizing u with
  | zero => exact ⟨rfl, rfl⟩
  | succ k ih =>
    rw [countEmpty, (ih _).1, (ih _).2]
    split
    · by_cases h : m = 32 * w + k
      · simp [h]
      · simp [icuSrc_icuMod_ne h]
    · exact ⟨rfl, rfl⟩

theorem pendingWord_countEmpty (tn w' k w : Nat) (u : Icu) : pendingWord (countEmpty tn w' k u) w = pendingWord u w := by
  simp only [pendingWord, icuSrc_countEmpty]

/-! ### Lists -/

theorem lget_lset_ne {α : Type} (l : List α) {i j : Nat} (h : j ≠ i) (v d : α) : lget (lset l i v) j d = lget l j d := by
  induction l generalizing i j with
  | nil => rfl
  | cons x r ih =>
    cases i <;> cases j
    case zero.zero => exact absurd rfl h
    case succ.succ => exact ih (by omega)
    all_goals rfl

theorem getElem?_lset_same {α : Type} {l : List α} {i : Nat} (h : i < l.length) (v : α) : (lset l i v)[i]? = some v := by
  induction l generalizing i with
  | nil => exact absurd h (by simp)
  | cons x r ih =>
    cases i with
    | zero => rfl
    | succ i => exact ih (by simpa using h)

/-! ### The commands -/

/-- A core's answer stands beside whatever else the command made, and reading is all it did to other things. -/
theorem emit_regData (l : Lane) (c : Core) (a : Nat) (v : Word32) (s : State) :
    (emit (.regData l c a v) s).lanes = s.lanes ∧ Sent (emit (.regData l c a v) s) (.regData l c a v) :=
  ⟨rfl, .inl (List.mem_cons_self ..)⟩

theorem updIcu_icu (l : Lane) (f : Icu → Icu) (s : State) : ((updIcu l f s).lanes.get l).icu = f (s.lanes.get l).icu := by
  cases l <;> rfl
theorem OnlySends.icu {v u : State} (h : OnlySends v u) (l : Lane) : (u.lanes.get l).icu = (v.lanes.get l).icu := by
  rw [h.lanes l]
theorem OnlySends.sems {v u : State} (h : OnlySends v u) (l : Lane) : (u.lanes.get l).sems = (v.lanes.get l).sems := by
  rw [h.lanes l]

theorem execWakeEdge_stopped {l : Lane} {n : Fin 64} {wd : Nat} {s : State} (stopped : (s.lanes.get l).icu.stopped = true)
    (long : 20 ≤ wd) (on : (s.lanes.get l).icu.wakeEn.getLsbD n.val = true) (t : Nat) :
    execWakeEdge t l n wd s = done (tick t s)
      (updIcu l (fun u => icuEdge (tick t s).clk.fab n.val (woken (tick t s).clk.fab n.val u)) (tick t s)) :=
  if_pos (by simp [wakeArmed, stopped, long, on])

theorem OnlySends.latches {v u : State} (h : OnlySends v u) (l : Lane) :
    (u.lanes.get l).latches = (v.lanes.get l).latches := by
  rw [h.lanes l]

/-- A read of a semaphore answers its holder and takes it where it is free (R25). -/
theorem semTake_sems (l : Lane) (c : Core) {n : Nat} {s : State} (hn : n < (s.lanes.get l).sems.length) :
    lget ((semTake l c n s).lanes.get l).sems n 0 =
      (if lget (s.lanes.get l).sems n 0 = 0 then coreNo c + 1 else lget (s.lanes.get l).sems n 0) ∧
    Sent (semTake l c n s) (.regData l c (semAddr n) (BitVec.ofNat 32 (lget (s.lanes.get l).sems n 0))) := by
  refine ⟨?_, (emit_regData ..).2⟩
  rw [semTake, (emit_regData ..).1]
  split
  · simp [hn]
  · rfl

/-- A write frees a semaphore that the core holds, and no other (R25). -/
theorem semFree_sems (l : Lane) (c : Core) {n : Nat} {s : State} (hn : n < (s.lanes.get l).sems.length) :
    lget ((semFree l c n s).lanes.get l).sems n 0 =
      (if lget (s.lanes.get l).sems n 0 = coreNo c + 1 then 0 else lget (s.lanes.get l).sems n 0) ∧
    ∀ m, m ≠ n → lget ((semFree l c n s).lanes.get l).sems m 0 = lget (s.lanes.get l).sems m 0 := by
  rw [semFree]
  split
  · simp +contextual [hn, lget_lset_ne]
  · exact ⟨rfl, fun _ _ => rfl⟩

/-- Settles O52: it holds. Each clause reads off what its command makes of the lane's controller, semaphores or latches,
which sending leaves as they are. -/
theorem interruptControl : Obligations.InterruptControl := by
  unfold Obligations.InterruptControl
  refine ⟨?enable, ?disable, ?barred, ?software, ?stops, ?stays, ?wakes, ?take, ?free, ?latch, ?pending⟩
  case enable =>
    intro t k l c w b s hc hk
    refine runs_of_done (congrArg (done (tick t s)) (if_neg (by simp [hc]))) fun u hu => ?_
    rw [hu.icu, updIcu_icu]
    obtain ⟨enabled, pending⟩ := icuSrc_enableBits (tick t s).clk.fab w.val b.toNat true 32 k (s.lanes.get l).icu
    refine ⟨enabled.trans ?_, pending⟩
    rw [bitOf_toNat]
    cases b.getLsbD k <;> simp [hk]
  case disable =>
    intro t k l c w b s hc hk
    refine runs_of_done (congrArg (done (tick t s)) (if_neg (by simp [hc]))) fun u hu => ?_
    rw [hu.icu, updIcu_icu]
    obtain ⟨enabled, pending⟩ := icuSrc_enableBits (tick t s).clk.fab w.val b.toNat false 32 k (s.lanes.get l).icu
    refine ⟨enabled.trans ?_, pending⟩
    rw [bitOf_toNat]
    cases b.getLsbD k <;> simp [hk]
  case barred =>
    intro t l c w b s hc
    refine runs_of_done (congrArg (done (tick t s)) (if_pos hc)) fun u hu => ?_
    rw [hu.icu, busErr_lanes]
    exact ⟨rfl, hu.sent _ (busErr_sent ..)⟩
  case software =>
    intro t l c b s hc run
    refine runs_of_done (congrArg (done (tick t s)) (if_neg (by simp [hc]))) fun u hu => ?_
    rw [hu.icu, updIcu_icu]
    exact icuEdge_pending run ..
  case stops =>
    intro t l s hw
    refine runs_of_done (if_neg (by simp [hw])) fun u hu => ?_
    rw [hu.icu, updIcu_icu]
    rfl
  case stays =>
    intro t l s hw
    refine runs_of_done (if_pos hw) fun u hu => ?_
    rw [hu.icu]
    rfl
  case wakes =>
    intro t wd l n s hs hwd hn
    refine runs_of_done (execWakeEdge_stopped hs hwd hn t) fun u hu => ?_
    obtain ⟨stopped, wokeAt, wakeLatch⟩ := icuEdge_wake (tick t s).clk.fab n.val
      (woken (tick t s).clk.fab n.val (s.lanes.get l).icu)
    rw [hu.icu, updIcu_icu]
    have latched : (woken (tick t s).clk.fab n.val (s.lanes.get l).icu).wakeLatch.getLsbD n.val = true := by simp [woken]
    rw [← wakeLatch] at latched
    exact ⟨stopped, wokeAt.trans (if_pos hs), latched, icuEdge_pending rfl ..⟩
  case take =>
    intro t l c n s hc hlen
    refine runs_of_done (if_neg (by simp [hc])) fun u hu => ?_
    obtain ⟨lane, sent⟩ := semTake_sems l c (by omega : n.val < (s.lanes.get l).sems.length) (s := tick t s)
    rw [hu.sems]
    exact ⟨lane, hu.sent _ sent⟩
  case free =>
    intro t l c n s hc hlen
    refine runs_of_done (if_neg (by simp [hc])) fun u hu => ?_
    rw [hu.sems]
    exact semFree_sems l c (by omega : n.val < (s.lanes.get l).sems.length) (s := tick t s)
  case latch =>
    intro t l c s hlen
    refine runs_of_done rfl fun u hu => ⟨hu.sent _ (emit_regData ..).2, ?_⟩
    have hc : coreNo c < (s.lanes.get l).latches.length := by cases c <;> simp [coreNo, hlen]
    rw [hu.latches, latchTime, (emit_regData ..).1, updLane_lanes, Pair.get_upd_same]
    simp [getElem?_lset_same hc]
  case pending =>
    intro t l c w s hc
    refine runs_of_done (if_neg (by simp [hc])) fun u hu => ⟨hu.sent _ (emit_regData ..).2, ?_⟩
    rw [hu.icu, pendRead, (emit_regData ..).1, updIcu_icu]
    exact pendingWord_countEmpty ..

end Sys2Proof.Machine
end

section
/-!
PROOFS. A request that is answered: what its operation leaves of the dictionary and the sequences stands in the next state,
and its reply is kept.
-/
namespace Sys2Proof.Machine

open Sys2Proof.Safety

/-! ### Sending and the sequences -/

@[simp] theorem sendIb_seqs (aid tclass : Nat) (m : IbMsg) (s : State) : (sendIb aid tclass m s).ib.seqs = s.ib.seqs := by
  unfold sendIb
  split
  · dsimp only
    split <;> simp
  · rfl

/-- What each step of a run along a list keeps of a state, the run keeps. -/
theorem foldl_keeps {α β : Type} {part : State → α} {f : State → β → State} (h : ∀ s b, part (f s b) = part s)
    (l : List β) (s : State) : part (l.foldl f s) = part s := by
  induction l generalizing s with
  | nil => rfl
  | cons b r ih => exact (ih _).trans (h s b)

@[simp] theorem answer_seqs (sid : Nat) (h : Hdr) (a : Answer) : (answer sid h a).ib.seqs = a.1.ib.seqs := by
  unfold answer
  dsimp only
  split
  · exact foldl_keeps (part := fun s => s.ib.seqs) (fun _ _ => sendIb_seqs ..) ..
  · rfl

@[simp] theorem sendNotice_seqs (id : Nat) (b : Sub) (flags changes time obj : Nat) (body : Body) (urgent : Bool)
    (s : State) : (sendNotice id b flags changes time obj body urgent s).ib.seqs = s.ib.seqs := by
  unfold sendNotice
  split <;> simp

@[simp] theorem flushSub_seqs (id : Nat) (s : State) : (flushSub id s).ib.seqs = s.ib.seqs := by
  unfold flushSub
  split
  · rfl
  · split <;> simp

theorem settleSub_seqs (s s' acc : State) (p : Nat × Sub) : (settleSub s s' acc p).ib.seqs = acc.ib.seqs := by
  unfold settleSub
  split
  · dsimp only
    split
    · rfl
    · split
      · split <;> simp
      · rfl
  · rfl

@[simp] theorem settle_seqs (s s' : State) : (settle s s').ib.seqs = s'.ib.seqs := by
  unfold settle
  split
  · exact foldl_keeps (part := fun s => s.ib.seqs) (settleSub_seqs s s') ..
  · rfl

/-- A state with other sequences. -/
def putSeqs (m : NMap Sequence) (s : State) : State := { s with ib := { s.ib with seqs := m } }

@[simp] theorem putSeqs_sessions (m : NMap Sequence) (s : State) : (putSeqs m s).ib.sessions = s.ib.sessions := rfl

/-! ### An answered request -/

/-- What a next state keeps of an answered request: the dictionary and the sequences as its operation left them, and its
reply (R74, R76). -/
structure Replied (v : State) (sid : Nat) (h : Hdr) (r : Reply) (u : State) : Prop where
  dict : u.dict = v.dict
  seqs : u.ib.seqs = v.ib.seqs
  reply : Answered u sid h { r with obj := h.obj }

/-- A command has one next state: what holds of it holds together. -/
theorem runs_both {c : Instr} {s : State} {P Q : State → Prop} (h : Runs c s P) (k : Runs c s Q) :
    Runs c s (fun u => P u ∧ Q u) := by
  obtain ⟨u, hu, hp⟩ := h
  obtain ⟨w, hw, hq⟩ := k
  obtain rfl := Host.Outcome.next.inj (hu.symm.trans hw)
  exact ⟨u, hu, hp, hq⟩

/-- A command that closes with the answer of an operation that keeps the sessions runs, and its reply stands. -/
theorem runs_answer {c : Instr} {t sid : Nat} {h : Hdr} {s v : State} {r : Reply}
    (live : (mget s.ib.sessions sid).isSome = true) (hs : v.ib.sessions = (opState t h sid s).ib.sessions)
    (he : exec c s = done (tick t s) (answer sid h (v, some r))) : Runs c s (Replied v sid h r) := by
  have hv : (mget v.ib.sessions sid).isSome = true := by rw [hs]; exact opState_session live t h
  obtain ⟨sent, replied⟩ := answer_some hv h r
  have closed : Runs c s (Closed (answer sid h (v, some r))) := runs_closed he fun _ => id
  obtain ⟨u, hu, hc⟩ := closed
  refine ⟨u, hu, hc.dict.trans sent.dict, ?_, hc.answered.2 replied⟩
  obtain rfl := Host.Outcome.next.inj (hu.symm.trans he)
  simp

/-- A request that arrives runs, where its operation answers and keeps the sessions. -/
theorem runs_request {c : Instr} {typ t sid : Nat} {nb : Bool} {h : Hdr} {op : Nat → Session → State → Answer}
    {s v : State} {r : Reply} (ha : arrives typ nb h sid s = true)
    (he : exec c s = done (tick t s) (request typ nb h op (tick t s)))
    (hop : op sid (caller t sid s) (opState t h sid s) = (v, some r))
    (hs : v.ib.sessions = (opState t h sid s).ib.sessions) : Runs c s (Replied v sid h r) := by
  rw [request_arrives ha, hop] at he
  exact runs_answer (sessions_of_arrives ha) hs he

/-- A command object's EXEC that passes its checks runs, where its effect answers and keeps the sessions. -/
theorem runs_execCmd {c : Instr} {obj t sid : Nat} {cols : List ColKind} {h : Hdr} {args : List TVal}
    {eff : Nat → Session → State → Answer} {s v : State} {r : Reply} (hp : passes obj cols false t h args sid s = true)
    (he : exec c s = done (tick t s) (execCmd obj cols h args eff (tick t s)))
    (hop : eff sid (caller t sid s) (opState t h sid s) = (v, some r))
    (hs : v.ib.sessions = (opState t h sid s).ib.sessions) : Runs c s (Replied v sid h r) := by
  rw [execCmd_passes hp, hop] at he
  exact runs_answer (sessions_of_arrives (Bool.and_eq_true_iff.1 hp).1) hs he

/-! ### What a HANDLE names -/

theorem named_zero (sid : Nat) (x : Session) (s : State) : named sid x 0 s = .plain := rfl

/-- The session's own open sequence (R50). -/
theorem named_own {sid hd : Nat} {x : Session} {q : Sequence} {s : State} (hq : mget s.ib.seqs hd = some q) (h0 : hd ≠ 0)
    (mine : q.sid = sid) (isOpen : q.commit = none) : named sid x hd s = .own hd q := by
  simp [named, hq, h0, mine, isOpen]

/-- The session's own sequence with an accepted commit is LOCKED (R56). -/
theorem named_accepted {sid hd : Nat} {x : Session} {q : Sequence} {s : State} (hq : mget s.ib.seqs hd = some q)
    (h0 : hd ≠ 0) (mine : q.sid = sid) (acc : q.commit.isSome = true) : named sid x hd s = .bad (rLocked s q) := by
  simp [named, hq, h0, mine, acc]

end Sys2Proof.Machine
end

section
/-!
PROOFS. The end of a sequence by SEQ-ABORT (R56), and the settlement of O18.
-/
namespace Sys2Proof.Machine

open Sys2Proof.Safety

/-- Settles O18: it holds. The HANDLE names the session's own open sequence, which goes, or one whose commit has been
accepted, which is LOCKED. -/
theorem sequenceEnd : Obligations.SequenceEnd := by
  unfold Obligations.SequenceEnd
  refine ⟨?aborted, ?accepted⟩
  case aborted =>
    intro t sid h q s ha hc hq h0 mine isOpen
    let v := putSeqs (mdel (opState t h sid s).ib.seqs h.handle) (opState t h sid s)
    refine runs_mono (runs_request (v := v) (r := rOk .empty) ha rfl ?answer (putSeqs_sessions ..))
      fun u ⟨dict, seqs, reply⟩ => ⟨?gone, dict, reply⟩
    case answer =>
      rw [named_own hq h0 mine isOpen]
      exact if_neg (by simp [hc])
    case gone =>
      rw [seqs]
      exact mget_mdel_same ..
  case accepted =>
    intro t sid h q s ha hq h0 mine acc
    refine runs_mono (runs_request (v := opState t h sid s) (r := rLocked (opState t h sid s) q) ha rfl ?answer rfl)
      fun u ⟨dict, seqs, reply⟩ => ⟨seqs ▸ hq, dict, ?locked⟩
    case answer =>
      rw [named_accepted hq h0 mine acc]
      rfl
    case locked =>
      rw [reply]
      rfl

end Sys2Proof.Machine
end

section
/-!
PROOFS. What objects exist and what the checks of a READ or a WRITE let through (R36, R43).
-/
namespace Sys2Proof.Machine

open Sys2Proof.Safety

theorem findObj_num {n : Nat} {d : ObjDesc} (h : findObj n = some d) : d.num = n := by
  simpa using List.find?_some h

/-- The access kind of an object of the dictionary, read off its table. -/
theorem acc_of_findObj {n : Nat} {d : ObjDesc} {a : Access} (h : findObj n = some d)
    (table : (findObj n).map (fun e => e.acc) = some a) : d.acc = a := by
  rw [h] at table
  exact Option.some.inj table

theorem findObj_of_objNow {n : Nat} {d : ObjDesc} {s : State} (h : objNow s n = some d) : findObj n = some d := by
  unfold objNow at h
  split at h
  · cases h
  · exact h

theorem findObj_of_objAt {n row : Nat} {d : ObjDesc} {s : State} (h : objAt s n row = some d) : findObj n = some d := by
  unfold objAt at h
  split at h
  · cases h
  · next e he =>
    suffices e = d from this ▸ findObj_of_objNow he
    split at h <;> split at h <;> simp_all

/-- A plain READ that nothing refuses gives the object's own rows (R34). -/
theorem readOp_plain {h : Hdr} {sid : Nat} {x : Session} {s : State} {d : ObjDesc} (ho : objAt s h.obj h.firstRow = some d)
    (life : lifeAllows s.life.state .read h.obj = true) (acc : d.acc ≠ .x) (hp : plainRefused h sid x s = none)
    (h0 : h.handle = 0) :
    readOp h sid x s = if d.cap = 0 then okVals d.cols (readObj s h.obj 0) s
      else (s, some (rOk (.raw (be 1 15 ++ rowFrames d.cols (readRows (readObj s h.obj) d.cols
        (min h.rowCount (d.cap - h.firstRow)) h.firstRow 1167))))) := by
  have view : viewRow (named sid x h.handle s) d s = readObj s h.obj := by
    rw [h0, named_zero, ← findObj_num (findObj_of_objAt ho)]
    rfl
  simp only [readOp, ho, life, acc, hp, view, Bool.not_true, Bool.false_eq_true, if_false]

/-- A plain WRITE that nothing refuses is of an RW or W1C object (R36). -/
theorem acc_of_writeRefused {h : Hdr} {tag sid : Nat} {rows : List (Nat × Row)} {x : Session} {d : ObjDesc} {s : State}
    (hw : writeRefused h tag rows sid x d s = none) (h0 : h.handle = 0) : d.acc = .rw ∨ d.acc = .w1c := by
  have access : writeAccess .plain d rows = none := by
    cases hr : writeAccess .plain d rows with
    | none => rfl
    | some r =>
      simp only [writeRefused, h0, named_zero, hr] at hw
      repeat' split at hw
      all_goals cases hw
  cases ha : d.acc <;> simp_all [writeAccess]

end Sys2Proof.Machine
end

section
/-!
PROOFS. A change of one row of a setting on whose change no unit acts (R39, R54), a clearing of sticky bits (R37, R385), and
the settlement of O16.
-/
namespace Sys2Proof.Machine

open Sys2Proof.Safety

/-! ### Rows and what a write wears -/

theorem okey_object {n r : Nat} (h : r < 4294967296) : okey n r / 4294967296 = n := by
  unfold okey
  omega

theorem okey_inj_object {n m r k : Nat} (hr : r < 4294967296) (hk : k < 4294967296) (h : okey n r = okey m k) : n = m := by
  rw [← okey_object (n := n) hr, ← okey_object (n := m) hk, h]

/-- States whose stores differ at most in rows of some objects, and with the same logs. -/
structure SameRowsBut (objs : List Nat) (s u : State) : Prop where
  logs : u.dict.logs = s.dict.logs
  store : ∀ n r, r < 4294967296 → n ∉ objs → mget u.dict.store (okey n r) = mget s.dict.store (okey n r)

theorem SameRowsBut.modId {objs : List Nat} {s u : State} (h : SameRowsBut objs s u) (hm : 0x30101 ∉ objs) :
    modId u = modId s := by
  rw [Machine.modId, Machine.modId, h.store _ _ (by decide) hm]

theorem SameRowsBut.getN {objs : List Nat} {s u : State} (h : SameRowsBut objs s u) (hm : 0x30101 ∉ objs) {n : Nat}
    (hn : n ∉ objs) : getN u n = getN s n := by
  have default : defRow u n 0 = defRow s n 0 := by rw [defRow, defRow, h.modId hm]
  rw [Machine.getN, Machine.getN, getRow, getRow, h.store n 0 (by decide) hn, h.logs, default]

theorem SameRowsBut.trans {objs : List Nat} {s v u : State} (h : SameRowsBut objs s v) (k : SameRowsBut objs v u) :
    SameRowsBut objs s u :=
  ⟨k.logs.trans h.logs, fun n r hr hn => (k.store n r hr hn).trans (h.store n r hr hn)⟩

theorem SameRowsBut.mono {objs more : List Nat} {s u : State} (h : SameRowsBut objs s u) (sub : objs ⊆ more) :
    SameRowsBut more s u :=
  ⟨h.logs, fun n r hr hn => h.store n r hr fun hin => hn (sub hin)⟩

theorem sameRowsBut_of_store {n r : Nat} {v : Row} {s u : State} (hr : r < 4294967296)
    (hs : u.dict.store = mset s.dict.store (okey n r) v) (hl : u.dict.logs = s.dict.logs) : SameRowsBut [n] s u := by
  refine ⟨hl, fun m k hk hm => ?_⟩
  rw [hs]
  exact mget_mset_ne _ _ _ _ fun same => hm (List.mem_singleton.2 (okey_inj_object hk hr same))

theorem SameRowsBut.of_dict {objs : List Nat} {s u : State} (h : u.dict = s.dict) : SameRowsBut objs s u :=
  ⟨by rw [h], fun _ _ _ _ => by rw [h]⟩

theorem getRow_of_dict {s u : State} (h : u.dict = s.dict) (n r : Nat) : getRow u n r = getRow s n r := by
  simp only [getRow, defRow, modId, h]

/-- A submission to the recorder changes a stored row of REC_DROPPED only. -/
theorem submitRec_sameRows {r : Record} (hr : r.sev < 4294967296) (s : State) :
    SameRowsBut [0xB0011] s (submitRec r s) := by
  unfold submitRec
  split
  · exact .of_dict rfl
  · split
    · have counted : SameRowsBut [0xB0011] s (addC 0xB0011 r.sev 0 1 s) := sameRowsBut_of_store hr rfl rfl
      exact counted.trans (.of_dict (by simp))
    · exact .of_dict (by simp)

/-- A write wears its word; what it may record changes a stored row of REC_DROPPED only (R39). -/
theorem wearWord_sameRows (s : State) (k : Nat) : SameRowsBut [0xB0011] s (wearWord s k) := by
  have worn (w : NMap Nat) : SameRowsBut [0xB0011] s { s with dict := { s.dict with wear := w } } :=
    ⟨rfl, fun _ _ _ _ => rfl⟩
  have four : 4 < 4294967296 := by decide
  unfold wearWord
  dsimp only
  split
  · exact (worn _).trans (submitRec_sameRows four _)
  · exact worn _

@[simp] theorem wearWord_ib (s : State) (k : Nat) : (wearWord s k).ib = s.ib := by
  unfold wearWord
  dsimp only
  split <;> simp

/-! ### A change of one row -/

section
variable {n r : Nat} (free : effectFree n = true) (hr : r < 4294967296)
include free

theorem ne_of_effectFree {m : Nat} (hm : effectFree m = false) : n ≠ m := by
  rintro rfl
  simp [free] at hm

theorem storedRow_effectFree (v : Row) : storedRow n v = v := if_neg (ne_of_effectFree free (by decide))

include hr

theorem hit_effectFree {m : Nat} (hm : effectFree m = false) : hit [okey n r] m = false := by
  simp [hit, okey_object hr, ne_of_effectFree free hm]

theorem hitRows_effectFree {m : Nat} (hm : effectFree m = false) : hitRows [okey n r] m = [] := by
  simp [hitRows, okey_object hr, ne_of_effectFree free hm]

/-- The metering pipeline takes note of the tables in use, whatever changes (R242), and no calibration row settles. -/
theorem calSettle_effectFree (s0 s : State) : ∃ g, calSettle s0 [okey n r] s = updMet g s := by
  refine ⟨fun m => { m with inUse := some (m.inUse.getD (calTables s0)) }, ?_⟩
  simp (disch := decide) only [calSettle, ratioCut, hit_effectFree free hr, hitRows_effectFree free hr, List.foldl_nil,
    Bool.or_false, Bool.false_eq_true, if_false]

theorem effectsSys_effectFree {s0 s : State} (same : SameRowsBut [n, 0xB0011] s0 s) (client : Bytes) :
    effectsSys s0 [okey n r] client s = s := by
  have other {m : Nat} (hm : effectFree m = false) (dropped : m ≠ 0xB0011) : m ∉ [n, 0xB0011] := by
    simp [(ne_of_effectFree free hm).symm, dropped]
  have module : modId s = modId s0 := same.modId (other (by decide) (by decide))
  have kept {m : Nat} (hm : effectFree m = false) (dropped : m ≠ 0xB0011) : getN s m = getN s0 m :=
    same.getN (other (by decide) (by decide)) (other hm dropped)
  simp (disch := decide) only [effectsSys, hit_effectFree free hr, hitRows_effectFree free hr, kept, module, List.foldl_nil,
    Bool.or_false, Bool.false_and, ne_eq, not_true_eq_false, false_and, or_false, Bool.false_eq_true, if_false]

theorem effectsStreet_effectFree (s0 s : State) (plain : Bool) : effectsStreet s0 [okey n r] plain s = s := by
  simp (disch := decide) only [effectsStreet, hit_effectFree free hr, hitRows_effectFree free hr, List.foldl_nil,
    List.any_cons, List.any_nil, Bool.or_false, Bool.false_and, Bool.false_eq_true, if_false]

theorem effectsUnits_effectFree (s0 s : State) : effectsUnits s0 [okey n r] s = s := by
  have safe : (okey n r / 4294967296 / 256 == 0x901) = false := by
    rw [okey_object hr]
    simpa [effectFree] using (Bool.and_eq_true_iff.1 free).2
  simp (disch := decide) only [effectsUnits, hit_effectFree free hr, hitRows_effectFree free hr, safe, List.foldl_nil,
    List.any_cons, List.any_nil, Bool.or_false, Bool.false_eq_true, if_false]

/-- A change of one row of a setting on whose change no unit acts does nothing but store the row, wear its word and take
note of the metering tables in use (R39, R54). -/
theorem changeSettings_effectFree (v : Row) (client : Bytes) (plain : Bool) (s : State) :
    ∃ g, changeSettings (withRows [(okey n r, v)]) [okey n r] client plain s =
      wearWord (updMet g (withRows [(okey n r, v)] s)) (okey n r) := by
  obtain ⟨g, settled⟩ := calSettle_effectFree free hr s (withRows [(okey n r, v)] s)
  have stored : SameRowsBut [n] s (updMet g (withRows [(okey n r, v)] s)) := sameRowsBut_of_store hr rfl rfl
  have same : SameRowsBut [n, 0xB0011] s (wearWord (updMet g (withRows [(okey n r, v)] s)) (okey n r)) :=
    (stored.mono (by simp)).trans ((wearWord_sameRows ..).mono (by simp))
  refine ⟨g, ?_⟩
  rw [changeSettings, settled]
  dsimp only [List.foldl_cons, List.foldl_nil]
  rw [effectsSys_effectFree free hr same, effectsStreet_effectFree free hr, effectsUnits_effectFree free hr]

end

/-- A changed row of a setting on whose change no unit acts reads as it was written. -/
theorem getRow_changeSettings_effectFree {n r : Nat} (free : effectFree n = true) (hr : r < 4294967296)
    (dropped : n ≠ 0xB0011) (v : Row) (client : Bytes) (plain : Bool) (s : State) :
    getRow (changeSettings (withRows [(okey n r, v)]) [okey n r] client plain s) n r = v := by
  obtain ⟨g, eq⟩ := changeSettings_effectFree free hr v client plain s
  have stored : mget (updMet g (withRows [(okey n r, v)] s)).dict.store (okey n r) = some v := mget_mset_same ..
  rw [eq, getRow, (wearWord_sameRows ..).store n r hr (by simpa using dropped), stored]

theorem changeSettings_effectFree_ib {n r : Nat} (free : effectFree n = true) (hr : r < 4294967296) (v : Row)
    (client : Bytes) (plain : Bool) (s : State) :
    (changeSettings (withRows [(okey n r, v)]) [okey n r] client plain s).ib = s.ib := by
  obtain ⟨g, eq⟩ := changeSettings_effectFree free hr v client plain s
  rw [eq, wearWord_ib]
  rfl

/-- A plain WRITE of one row of such a setting changes that row, a scalar's being row 0, as it is written (R37, R39). -/
theorem writeOp_effectFree {h : Hdr} {sid r k : Nat} {v : Row} {x : Session} {d : ObjDesc} {s : State}
    (free : effectFree d.num = true) (acc : d.acc ≠ .w1c) (h0 : h.handle = 0) (hk : (if d.cap = 0 then 0 else r) = k)
    (fits : changeRefused s (withRows (writeMap d [(r, v)]) s) [okey d.num k] [] = none) :
    writeOp h [(r, v)] sid x d s =
      okEmpty (changeSettings (withRows [(okey d.num k, v)]) [okey d.num k] x.client true s) := by
  have rows : writeMap d [(r, v)] = [(okey d.num k, v)] := by
    simp only [writeMap, List.foldl_cons, List.foldl_nil, storedRow_effectFree free, mset, hk]
  have zone : d.num ≠ 0x70140 := ne_of_effectFree free (by decide)
  rw [rows] at fits
  simp only [writeOp, rows, List.map_cons, List.map_nil]
  rw [fits, if_neg acc, if_neg zone, h0, named_zero]

/-! ### A clearing of sticky bits -/

theorem getLsbD_foldl_twoPow (l : List Nat) (m : BitVec 256) {i : Nat} (hi : i < 256) :
    (l.foldl (fun m b => m ||| BitVec.twoPow 256 b) m).getLsbD i = (m.getLsbD i || l.contains i) := by
  induction l generalizing m with
  | nil => simp
  | cons b r ih =>
    rw [List.foldl_cons, ih, BitVec.getLsbD_or, BitVec.getLsbD_twoPow, List.contains_cons, Bool.or_assoc]
    rcases eq_or_ne b i with rfl | hne
    · simp [hi]
    · simp [hne, beq_false_of_ne hne.symm]

@[simp] theorem clearSticky_ib (rows : List (Nat × Row)) (s : State) : (clearSticky rows s).ib = s.ib := by
  unfold clearSticky
  dsimp only
  exact foldl_keeps (part := State.ib) (by exact fun _ _ => rfl) ..

/-- A clearing takes each bit that it names and whose condition neither holds nor occurred in this cycle (R37, R385). -/
theorem getLsbD_clearSticky (r m : Nat) (s : State) {b : Nat} (hb : b < 256) :
    (clearSticky [(r, [.num (m : Int)])] s).dict.sticky.getLsbD b = (s.dict.sticky.getLsbD b &&
      !((BitVec.ofNat 256 (m * 2 ^ (32 * r))).getLsbD b && !s.dict.live.getLsbD b &&
        mget s.dict.stuckAt b != some s.clk.fab)) := by
  have named : rNat [.num (m : Int)] 0 = m := rfl
  unfold clearSticky
  dsimp only
  rw [foldl_keeps (part := fun s => s.dict.sticky) (by exact fun _ _ => rfl), BitVec.getLsbD_and, BitVec.getLsbD_not,
    getLsbD_foldl_twoPow _ _ hb]
  cases hs : s.dict.sticky.getLsbD b with
  | false => rfl
  | true => simp [-BitVec.getLsbD_eq_getElem, hs, hb, named, bne, beq_eq_decide]

/-! ### The requests -/

/-- A WRITE that arrives and that nothing refuses takes effect. -/
theorem runs_write {t tag sid : Nat} {rows : List (Nat × Row)} {h : Hdr} {d : ObjDesc} {s v : State} {r : Reply}
    (ha : arrives 2 false h sid s = true) (ho : objAt (opState t h sid s) h.obj (writeRow h) = some d)
    (hw : writeRefused h tag rows sid (caller t sid s) d (opState t h sid s) = none)
    (hop : writeOp h rows sid (caller t sid s) d (opState t h sid s) = (v, some r))
    (hs : v.ib.sessions = (opState t h sid s).ib.sessions) : Runs (.write t h tag rows) s (Replied v sid h r) := by
  refine runs_request ha rfl ?_ hs
  simp only [ho, hw]
  exact hop

theorem runs_read {t sid : Nat} {h : Hdr} {s : State} {r : Reply} (ha : arrives 1 false h sid s = true)
    (hop : readOp h sid (caller t sid s) (opState t h sid s) = (opState t h sid s, some r)) :
    Runs (.read t h) s (Replied (opState t h sid s) sid h r) := runs_request ha rfl hop rfl

/-- Settles O16: it holds. Each clause reads the reply and the dictionary off what its request's operation answers; a row of
a setting on whose change no unit acts stays as it is stored, since what its wear may record is a count of another object. -/
theorem readsAndWrites : Obligations.ReadsAndWrites := by
  unfold Obligations.ReadsAndWrites
  refine ⟨?scalar, ?table, ?describe, ?ticket, ?setting, ?sticky⟩
  case scalar =>
    intro t sid h d s ha ho life acc hp hcap h0
    have op := (readOp_plain ho life acc hp h0).trans (if_pos hcap)
    exact runs_mono (runs_read ha op) fun u hu => hu.reply
  case table =>
    intro t sid h d s ha ho life acc hp hcap h0
    have op := (readOp_plain ho life acc hp h0).trans (if_neg hcap)
    exact runs_mono (runs_read ha op) fun u hu => hu.reply
  case describe =>
    intro t sid h args s d hp ho
    have op := runs_execCmd (c := .describe t h args) (v := opState t h sid s)
      (r := rOk (.raw (describeRow (opState t h sid s) d))) hp rfl (by rw [ho]) rfl
    exact runs_mono op fun u hu => obj_of_passes hp ▸ hu.reply
  case ticket =>
    intro t sid h args s k hp hk
    have found : ticketOf (opState t h sid s) (argN args 0) = some k := hk
    have op := runs_execCmd (c := .ticketResult t h args) (v := opState t h sid s)
      (r := rOk (.raw (tagged [.enum [0, 1, 2], .octets 1088] [vN k.state, .bytes (fit 1088 (noticeOf k))]))) hp rfl
      (by rw [found]; rfl) rfl
    exact runs_mono op fun u hu => obj_of_passes hp ▸ hu.reply
  case setting =>
    intro t sid tag r v h d s ha ho hw acc h0 free hr fits
    have num := findObj_num (findObj_of_objAt ho)
    rw [← num] at free fits ⊢
    generalize hk : (if d.cap = 0 then 0 else r) = k at fits ⊢
    have hk' : k < 4294967296 := by subst hk; split <;> omega
    have dropped : d.num ≠ 0xB0011 := fun same =>
      have readOnly : d.acc = .ro := acc_of_findObj (same ▸ num.symm ▸ findObj_of_objAt ho) rfl
      absurd (readOnly.symm.trans ((acc_of_writeRefused hw h0).resolve_right acc)) (by decide)
    refine runs_mono (runs_write ha ho hw (writeOp_effectFree free acc h0 hk fits) ?sessions) fun u ⟨dict, _, reply⟩ =>
      ⟨?row, ?reply⟩
    case sessions => rw [changeSettings_effectFree_ib free hk']
    case row =>
      have stored := getRow_changeSettings_effectFree free hk' dropped v (caller t sid s).client true (opState t h sid s)
      rwa [← getRow_of_dict dict] at stored
    case reply =>
      rw [num]
      exact reply
  case sticky =>
    intro t sid tag r m h d s ha ho hn hw
    have found := findObj_of_objAt ho
    have clears : d.acc = .w1c := acc_of_findObj (hn ▸ found) rfl
    have op : writeOp h [(r, [.num (m : Int)])] sid (caller t sid s) d (opState t h sid s) =
        okEmpty (clearSticky [(r, [.num (m : Int)])] (opState t h sid s)) := by
      simp only [writeOp, clears, clearBits, findObj_num found, hn, if_true]
    refine runs_mono (runs_write ha ho hw op ?sessions) fun u ⟨dict, _, _⟩ b hb => ?bit
    case sessions => rw [clearSticky_ib]
    case bit =>
      rw [dict]
      exact getLsbD_clearSticky r m (opState t h sid s) hb

end Sys2Proof.Machine
end

section
/-!
PROOFS. An applied commit that counts itself (R54), and the refutation of O17.
-/
namespace Sys2Proof.Machine

open Sys2Proof.Safety

/-- An accepted commit, due at ASN 0, whose one shadow is a row of SEQ_COMMIT_COUNT. -/
def countShadowed : Sequence :=
  { sid := 7, client := noClient, groups := [0], leaseLen := 60, leaseEnd := 0, shadows := [(okey 0x00232 0, [.num 5])],
    restores := [], commit := some (0, 0) }

/-- The state right after reset but for that commit. -/
def countShadowedState : State := putSeqs [(1, countShadowed)] State.reset

/-- The commit brings the 5 into force and then counts itself there. -/
theorem applyDue_countShadowed : getRow (applyDue (tick 0 countShadowedState)) 0x00232 0 = [.num 6] := by decide

/-- Refutes O17: its clause on COMMIT_APPLY asks of the shadowed row's object only that it is none of those on whose change
a unit acts, not that it is a setting. SEQ_COMMIT_COUNT (0:0232) is no such object, and applying the commit raises it, so a
shadowed count of 5 reads 6 afterwards. -/
theorem not_sequenceLife : ¬ Obligations.SequenceLife := by
  unfold Obligations.SequenceLife
  rintro ⟨_, _, _, _, commitApply, _⟩
  have claimed := commitApply 0 1 0 0 0x00232 0 [.num 5] countShadowed countShadowedState rfl rfl (Nat.zero_le _) rfl rfl
    (by decide) (by decide)
  have closes : Runs (.commitApply 0) countShadowedState (Closed (applyDue (tick 0 countShadowedState))) :=
    runs_closed rfl fun _ => id
  obtain ⟨u, _, ⟨row, _⟩, closed⟩ := runs_both claimed closes
  rw [getRow_of_dict closed.dict, applyDue_countShadowed] at row
  exact absurd row (by decide)

end Sys2Proof.Machine
end

section
/-!
PROOFS. A session that is set up where its client's sequence breaks, and the refutation of O14.
-/
namespace Sys2Proof.Machine

open Sys2Proof.Safety

/-- A stored value stands among the entries of its map. -/
theorem mem_of_mget {α : Type} {m : NMap α} {k : Nat} {v : α} (h : mget m k = some v) : (k, v) ∈ m := by
  induction m with
  | nil => cases h
  | cons p r ih =>
    obtain ⟨j, w⟩ := p
    by_cases hk : k = j
    · simp_all [mget]
    · exact List.mem_cons_of_mem _ (ih (by simpa [mget, hk] using h))

/-- A certificate whose anchor's number lies so far beyond the anchors' rows that its row is that of sticky bit 0. -/
def farAnchored : Cert :=
  { wellFormed := true, anchor := some ((0xB0101 - 0x10120) * 4294967296), ouLevel := some 3, hash := [], inDates := true,
    returnAnchor := false }

/-- The association that presented it, without a session. -/
def farAssoc : Assoc :=
  { entry := .service, via := 255, peer := ⟨[], 0, true⟩, recNo := 0, cert := farAnchored, level := 0, session := none }

/-- The client that sets up its session. -/
def farClient : Bytes := List.replicate 16 1

/-- An open sequence of that client. -/
def farSequence : Sequence :=
  { sid := 7, client := farClient, groups := [0], leaseLen := 60, leaseEnd := 0, shadows := [], restores := [],
    commit := none }

/-- An owned module with an active lane, that association and that sequence; sticky bit 0 is set, its times read 1. -/
def farAnchoredState : State :=
  let s := putRow 0xB0101 0 [.num 1, .num 1, .num 0, .num 0]
    (updLife (fun x => { x with state := .owned }) (updLane .A (fun x => { x with role := .active }) State.reset))
  { s with dict := { s.dict with sticky := 1 }, ib := { s.ib with assocs := [(3, farAssoc)], seqs := [(1, farSequence)] } }

/-- The header of the SETUP. -/
def farSetup : Hdr :=
  { assoc := 3, rhVersion := 1, rhModule := 255, tclass := 0, rhReserved := 0, size := 32, typ := 8, flags := 0, length := 32,
    sid := 0, seq := 0, handle := 0, dclass := 0, resend := 255, deadline := 0, obj := 0, firstRow := 0, rowCount := 0,
    reserved := 0, strike := .none }

/-- The sequence breaks before the level is read, and counts in the row that the level is read from. -/
theorem level_of_farSetup {u : State} (h : exec (.setup 0 farSetup farClient 60) farAnchoredState = .next u) :
    ∀ p ∈ u.ib.sessions, p.2.level = 1 := by
  rw [← Host.Outcome.next.inj h]
  decide

/-- Refutes O14: its clause on SETUP bounds no anchor number. An anchor of 2^32 or more reads a row of another object, here
that of sticky bit 0, which the break of the client's sequence changes before the session takes its level: the session has
level 1, where `certLevel` of the state before is 0. -/
theorem not_sessionLife : ¬ Obligations.SessionLife := by
  unfold Obligations.SessionLife
  rintro ⟨_, _, _, setup, _⟩
  obtain ⟨u, hu, i, x, isOpen, _, _, level, _⟩ := setup 0 60 farSetup farClient farAssoc farAnchoredState
    (by decide) rfl rfl rfl (by decide)
  rw [level_of_farSetup hu _ (mem_of_mget isOpen)] at level
  exact absurd level (by decide)

end Sys2Proof.Machine
end

section
/-!
PROOFS. A snapshot in the slot of a commit that shadows SNAP_SEQ (R87), and the refutation of O19.
-/
namespace Sys2Proof.Machine

open Sys2Proof.Safety

/-- An accepted commit, due at ASN 0, whose one shadow is the row of SNAP_SEQ. -/
def seqShadowed : Sequence :=
  { sid := 7, client := noClient, groups := [0], leaseLen := 60, leaseEnd := 0, shadows := [(okey 0x00101 0, [.num 5])],
    restores := [], commit := some (0, 0) }

/-- Lane A is active after reset, a snapshot of ASN 0 is due, and so is that commit. -/
def seqShadowedState : State :=
  updLane .A (fun x => { x with role := .active }) (awaitSnap 0 [] (putSeqs [(1, seqShadowed)] State.reset))

/-- The commit brings the 5 into force, and the snapshot after it takes the number 6. -/
theorem snap_of_seqShadowed {u : State} (h : exec (.snapshot 0) seqShadowedState = .next u) :
    (u.ib.snaps.head?).map (fun b => (b.seq, b.asn)) = some (6, 0) := by
  rw [← Host.Outcome.next.inj h]
  decide

/-- Refutes O19: its clause on SNAPSHOT takes the number from SNAP_SEQ (0:0101) as it stood before the commits of the slot,
which apply first (R87), and asks of their shadows nothing. A shadow of SNAP_SEQ itself, which is no setting, brings 5 into
force, so that the snapshot has number 6 and not 1. -/
theorem not_surveys : ¬ Obligations.Surveys := by
  unfold Obligations.Surveys
  rintro ⟨_, _, _, snapshot, _⟩
  obtain ⟨u, hu, _, head⟩ := snapshot 0 0 [] seqShadowedState (by decide) rfl (by decide)
  exact absurd ((snap_of_seqShadowed hu).symm.trans head) (by decide)

end Sys2Proof.Machine
end

section
/-!
PROOFS. A subscription's number that stands twice among the subscriptions (R82), and the refutation of O15.
-/
namespace Sys2Proof.Machine

open Sys2Proof.Safety

/-- A MODE 2 subscription of 1,000 ms to the seconds in holdover (2:0014). -/
def holdoverSub : Sub :=
  { sid := 7, mode := 2, minSev := 0, interval := 1000, obj := 0x20014, row := noRow, changes := 0, changedAt := 0,
    dirty := [], notBefore := 0 }

/-- Its session. -/
def subscriber : Session :=
  { client := noClient, level := 0, assoc := 3, entry := .service, opened := 0, last := 0, lastFab := 0, idle := 30,
    hi := none, cache := [], noticeSeq := 0, broken := [] }

/-- The association of that session, at the service port. -/
def subscriberAssoc : Assoc :=
  { entry := .service, via := 255, peer := ⟨[], 0, true⟩, recNo := 0, level := 0, session := some 7,
    cert := { wellFormed := true, anchor := none, ouLevel := none, hash := [], inDates := true, returnAnchor := false } }

/-- Lane A is active after reset and in holdover; the subscription's number stands a second time, with MODE 1. -/
def twiceSubscribed : State :=
  let s := updTime (fun x => { x with holdover := true }) (updLane .A (fun x => { x with role := .active }) State.reset)
  { s with ib := { s.ib with assocs := [(3, subscriberAssoc)], sessions := [(7, subscriber)],
                             subs := [(1, holdoverSub), (1, { holdoverSub with mode := 1 })] } }

/-- The second entry sees the seconds change and, the period being long over, starts an interval anew from 800,000,000. -/
theorem notBefore_of_twiceSubscribed {u : State} (h : exec (.subPeriodExpiry 800000000 1) twiceSubscribed = .next u) :
    (mget u.ib.subs 1).map (fun c => c.notBefore) = some 1200000000 := by
  rw [← Host.Outcome.next.inj h]
  decide

/-- Refutes O15: its clause on the period of a MODE 2 subscription does not ask that the subscription's number stands once
in the table. A second entry of that number with MODE 1, whose object changes while the new period has ended too, sends a
NOTICE on change and starts an interval from the instant of the command, not from the end of the period. -/
theorem not_completionsAndNotices : ¬ Obligations.CompletionsAndNotices := by
  unfold Obligations.CompletionsAndNotices
  rintro ⟨_, _, _, _, _, _, _, period⟩
  obtain ⟨u, hu, starts, _⟩ := period 800000000 1 holdoverSub subscriber twiceSubscribed rfl rfl (by decide) rfl (by decide)
  exact absurd ((notBefore_of_twiceSubscribed hu).symm.trans starts) (by decide)

end Sys2Proof.Machine
end

section
/-!
PROOFS. What sending adds and what it leaves alone: the messages that left or wait grow at their ends, and neither the
sessions that live, nor the ring, nor a counter below 3:0000 moves.
-/
namespace Sys2Proof.Machine

open Sys2Proof.Safety

theorem OnlySends.role {s u : State} (h : OnlySends s u) (l : Lane) : (u.lanes.get l).role = (s.lanes.get l).role := by
  rw [h.lanes l]

theorem OnlySends.active {s u : State} (h : OnlySends s u) : active u = active s := by
  have a : u.lanes.a.role = s.lanes.a.role := h.role .A
  have b : u.lanes.b.role = s.lanes.b.role := h.role .B
  rw [Machine.active, Machine.active, a, b]

/-- What leads to a node: the ring, its cuts, this module's place (R314). -/
theorem route_congr {s u : State} (topo : u.trunk.topo = s.trunk.topo) (cut : u.trunk.cut = s.trunk.cut)
    (mod : modId u = modId s) (d : Nat) : route u d = route s d := by
  have hop (m : TopoMsg) (i : Nat) : hopUp u m i = hopUp s m i := by simp only [hopUp, isCut, cut]
  have path (m : TopoMsg) (i k : Nat) : pathUp u m i k = pathUp s m i k := by
    induction k generalizing i with
    | zero => rfl
    | succ k ih => rw [pathUp, pathUp, hop, ih]
  simp only [route, mod, topo, path]

@[simp] theorem route_tick (t : Nat) (s : State) (d : Nat) : route (tick t s) d = route s d :=
  route_congr (s := s) (u := tick t s) rfl rfl rfl d

/-- By which entry and from which node an association came (R66). -/
def wayOf (s : State) (a : Nat) : Option (Entry × Nat) := (mget s.ib.assocs a).map (fun b => (b.entry, b.via))

theorem canReach_eq (s : State) (a : Nat) : canReach s a =
    ((active s).isSome && (wayOf s a).any (fun w => w.1 == .service || (route s w.2).isSome)) := by
  unfold canReach wayOf
  cases mget s.ib.assocs a <;> rfl

theorem canReach_congr {s u : State} {a : Nat} (way : wayOf u a = wayOf s a) (act : active u = active s)
    (routes : ∀ d, route u d = route s d) : canReach u a = canReach s a := by
  rw [canReach_eq, canReach_eq, act, way]
  simp only [routes]

/-! ### Messages of the protocol in what is sent -/

/-- The message of the protocol that a trunk message carries (R71). -/
def TMsg.ib : TMsg → Option IbMsg
  | .ibier _ d => some d.msg
  | _ => none

/-- The message of the protocol that an output carries (R66, R67). -/
def Out.ib : Out → Option IbMsg
  | .ibier _ d => some d.msg
  | .trunk _ _ m _ => m.ib
  | _ => none

theorem toSession_eq (sid : Nat) (o : Out) : toSession sid o = o.ib.any (IbMsg.of sid) := by
  cases o with
  | trunk p f m tag => cases m <;> rfl
  | _ => rfl

/-- The sessions that live. -/
def living (s : State) : Nat → Bool := fun i => (mget s.ib.sessions i).isSome

/-- A message is of no session but one of those given. -/
def OfOnly (live : Nat → Bool) (m : IbMsg) : Prop := ∀ sid, IbMsg.of sid m = true → live sid = true

/-- The trunk but for what waits or is used there: ports as `portsOf` gives them, no destination credit, no queue. -/
def trunkKept (s : State) : Trunk := { s.trunk with ports := portsOf s, dests := [], voq := [] }

/-- What a counter of an object below 3:0000 is kept under: a smaller number. -/
def firstTrunkKey : Nat := ckey 0x30000 0 0

/-- From `s` to `u` things were sent: what left before stands behind what leaves now, what waited before stands in front of
what waits now, and each message of the protocol among the new things is one of `P`. -/
structure Sends (P : IbMsg → Prop) (s u : State) : Prop extends OnlySends s u where
  out : ∃ x, u.out = x ++ s.out ∧ ∀ o ∈ x, ∀ m ∈ o.ib, P m
  waiting : ∃ y, u.lp.waiting = s.lp.waiting ++ y ∧ ∀ w ∈ y, ∀ m ∈ w.2.2.ib, P m
  voq : ∃ z, u.trunk.voq = s.trunk.voq ++ z ∧ ∀ q ∈ z, ∀ m ∈ q.2.2.ib, P m
  trunk : trunkKept u = trunkKept s
  living : living u = living s
  ways : ∀ a, wayOf u a = wayOf s a
  counters : ∀ l k, k < firstTrunkKey → mgetD (u.lanes.get l).cnt k 0 = mgetD (s.lanes.get l).cnt k 0

namespace Sends

variable {P Q : IbMsg → Prop} {s v u : State}

/-- Nothing new is sent where outputs, queue, sessions, associations and counters stay. -/
theorem of_eq (h : OnlySends s u) (out : u.out = s.out) (lp : u.lp.waiting = s.lp.waiting) (voq : u.trunk.voq = s.trunk.voq)
    (trunk : trunkKept u = trunkKept s) (ib : u.ib = s.ib)
    (counters : ∀ l k, k < firstTrunkKey → mgetD (u.lanes.get l).cnt k 0 = mgetD (s.lanes.get l).cnt k 0) : Sends P s u where
  toOnlySends := h
  out := ⟨[], by simp [out]⟩
  waiting := ⟨[], by simp [lp]⟩
  voq := ⟨[], by simp [voq]⟩
  trunk := trunk
  living := by unfold Machine.living; rw [ib]
  ways a := by rw [wayOf, wayOf, ib]
  counters := counters

theorem refl (s : State) : Sends P s s := .of_eq (.refl s) rfl rfl rfl rfl rfl fun _ _ _ => rfl

theorem trans (h : Sends P s v) (k : Sends P v u) : Sends P s u where
  toOnlySends := h.toOnlySends.trans k.toOnlySends
  out := by
    obtain ⟨x, hx, px⟩ := h.out
    obtain ⟨y, hy, py⟩ := k.out
    refine ⟨y ++ x, by rw [hy, hx, List.append_assoc], fun o ho => ?_⟩
    exact (List.mem_append.1 ho).elim (py o) (px o)
  waiting := by
    obtain ⟨x, hx, px⟩ := h.waiting
    obtain ⟨y, hy, py⟩ := k.waiting
    refine ⟨x ++ y, by rw [hy, hx, List.append_assoc], fun w hw => ?_⟩
    exact (List.mem_append.1 hw).elim (px w) (py w)
  voq := by
    obtain ⟨x, hx, px⟩ := h.voq
    obtain ⟨y, hy, py⟩ := k.voq
    refine ⟨x ++ y, by rw [hy, hx, List.append_assoc], fun q hq => ?_⟩
    exact (List.mem_append.1 hq).elim (px q) (py q)
  trunk := k.trunk.trans h.trunk
  living := k.living.trans h.living
  ways a := (k.ways a).trans (h.ways a)
  counters l n hn := (k.counters l n hn).trans (h.counters l n hn)

theorem foldl {β : Type} {f : State → β → State} {l : List β} (hf : ∀ b ∈ l, ∀ s, Sends P s (f s b)) (s : State) :
    Sends P s (l.foldl f s) := by
  induction l generalizing s with
  | nil => exact refl s
  | cons b r ih =>
    exact (hf b List.mem_cons_self s).trans (ih (fun c hc => hf c (List.mem_cons_of_mem _ hc)) (f s b))

/-! ### What it leaves alone -/

theorem topo (h : Sends P s u) : u.trunk.topo = s.trunk.topo := (congrArg Trunk.topo h.trunk :)
theorem cut (h : Sends P s u) : u.trunk.cut = s.trunk.cut := (congrArg Trunk.cut h.trunk :)
theorem members (h : Sends P s u) : u.trunk.members = s.trunk.members := (congrArg Trunk.members h.trunk :)
theorem ports (h : Sends P s u) : portsOf u = portsOf s := (congrArg Trunk.ports h.trunk :)
theorem active (h : Sends P s u) : active u = active s := h.toOnlySends.active

theorem session_none (h : Sends P s u) {i : Nat} (hi : mget s.ib.sessions i = none) : mget u.ib.sessions i = none := by
  simpa [Machine.living, hi] using congrFun h.living i

theorem cntRead (h : Sends P s u) {n r c : Nat} (hk : ckey n r c < firstTrunkKey) : cntRead u n r c = cntRead s n r c := by
  rw [Machine.cntRead, Machine.cntRead, servedBy, h.active, h.counters _ _ hk]
  rfl

theorem route (h : Sends P s u) (d : Nat) : route u d = route s d :=
  route_congr h.topo h.cut (by rw [modId, modId, h.dict]) d

theorem canReach (h : Sends P s u) (a : Nat) : canReach u a = canReach s a :=
  canReach_congr (h.ways a) h.active h.route

/-! ### What was sent -/

theorem sentOn (h : Sends P s u) {p dst cls : Nat} {m : TMsg} (hm : SentOn s p dst cls m) : SentOn u p dst cls m := by
  obtain ⟨f, tag, hd, hc, sent⟩ := hm
  exact ⟨f, tag, hd, hc, h.sent _ sent⟩

theorem trunkSent (h : Sends P s u) {dst cls : Nat} {m : TMsg} (hm : TrunkSent s dst cls m) : TrunkSent u dst cls m := by
  obtain ⟨z, hz, -⟩ := h.voq
  refine hm.imp h.sentOn (Or.imp h.sentOn fun waits => ?_)
  rw [hz]
  exact List.mem_append_left _ waits

theorem ibSent (h : Sends P s u) {m : IbMsg} (hm : IbSent s m) : IbSent u m := by
  obtain ⟨aid, d, rfl, sent⟩ := hm
  exact ⟨aid, d, rfl, sent.imp (h.sent _) fun ⟨dst, cls, peer, sent⟩ => ⟨dst, cls, peer, h.trunkSent sent⟩⟩

/-- What has left or waits had left or waited before, or is new. -/
theorem sent_inv (h : Sends P s u) {o : Out} (ho : Sent u o) : (∀ m ∈ o.ib, P m) ∨ Sent s o := by
  obtain ⟨x, hx, px⟩ := h.out
  obtain ⟨y, hy, py⟩ := h.waiting
  rcases ho with left | waits
  · rw [hx] at left
    exact (List.mem_append.1 left).imp (px o) .inl
  · rw [hy, List.map_append] at waits
    refine (List.mem_append.1 waits).symm.imp (fun new => ?_) .inr
    obtain ⟨w, hw, rfl⟩ := List.mem_map.1 new
    exact py w hw

theorem sentOn_inv (h : Sends P s u) {p dst cls : Nat} {peer : Peer} {d : Dgram}
    (hm : SentOn u p dst cls (.ibier peer d)) : P d.msg ∨ SentOn s p dst cls (.ibier peer d) := by
  obtain ⟨f, tag, hd, hc, sent⟩ := hm
  exact (h.sent_inv sent).imp (fun new => new _ rfl) fun old => ⟨f, tag, hd, hc, old⟩

/-- A message of the protocol that was sent is one of `P`, or had been sent before. -/
theorem ibSent_inv (h : Sends P s u) {m : IbMsg} (hm : IbSent u m) : P m ∨ IbSent s m := by
  obtain ⟨aid, d, rfl, sent | ⟨dst, cls, peer, sent | sent | waits⟩⟩ := hm
  · exact (h.sent_inv sent).imp (fun new => new _ rfl) fun old => ⟨aid, d, rfl, .inl old⟩
  · exact (h.sentOn_inv sent).imp_right fun old => ⟨aid, d, rfl, .inr ⟨dst, cls, peer, .inl old⟩⟩
  · exact (h.sentOn_inv sent).imp_right fun old => ⟨aid, d, rfl, .inr ⟨dst, cls, peer, .inr (.inl old)⟩⟩
  · obtain ⟨z, hz, pz⟩ := h.voq
    rw [hz] at waits
    exact (List.mem_append.1 waits).symm.imp (fun new => pz _ new _ rfl) fun old =>
      ⟨aid, d, rfl, .inr ⟨dst, cls, peer, .inr (.inr old)⟩⟩

end Sends

/-! ### The operations that send -/

variable {P : IbMsg → Prop}

theorem cntUpAt_sends {n : Nat} (hn : 0x30000 ≤ n) (r c k : Nat) (s : State) : Sends P s (cntUpAt n r c k s) := by
  have key {j : Nat} (hj : j < firstTrunkKey) : j ≠ ckey n r c := by
    simp only [firstTrunkKey, ckey, okey] at hj ⊢
    omega
  refine .of_eq (cntUpAt_onlySends ..) (by simp) (by simp) (by simp) (by simp [trunkKept, portsOf]) (by simp) fun l j hj => ?_
  have one (i : Lane) (v : State) : mgetD ((cntLane i n r c k v).lanes.get l).cnt j 0 = mgetD (v.lanes.get l).cnt j 0 := by
    by_cases hi : l = i
    · simp [cntLane, hi, mgetD_mset_ne _ _ _ _ _ (key hj)]
    · obtain rfl : l = otherLane i := by cases i <;> cases l <;> simp_all [otherLane]
      simp [cntLane]
  unfold cntUpAt
  dsimp only
  repeat' split
  all_goals simp only [one]

/-- An output leaves at once. -/
theorem sends_out {o : Out} (ho : ∀ m ∈ o.ib, P m) (s : State) : Sends P s { s with out := o :: s.out } where
  toOnlySends := ⟨fun _ => rfl, fun _ h => h.imp_left (List.mem_cons_of_mem _), rfl, rfl⟩
  out := ⟨[o], rfl, by simpa using ho⟩
  waiting := ⟨[], by simp⟩
  voq := ⟨[], by simp⟩
  trunk := rfl
  living := rfl
  ways _ := rfl
  counters _ _ _ := rfl

/-- An output waits for its comparison (R283). -/
theorem sends_waiting {o : Out} (ho : ∀ m ∈ o.ib, P m) (n f k : Nat) (s : State) :
    Sends P s { s with lp := { s.lp with outSeq := k, waiting := s.lp.waiting ++ [(n, f, o)] } } where
  toOnlySends := ⟨fun _ => rfl, fun _ h => h.imp_right fun hx => by simpa using Or.inl hx, rfl, rfl⟩
  out := ⟨[], by simp⟩
  waiting := ⟨[(n, f, o)], rfl, by simpa using ho⟩
  voq := ⟨[], by simp⟩
  trunk := rfl
  living := rfl
  ways _ := rfl
  counters _ _ _ := rfl

/-- The numbers of the outputs computed and released rise (R283). -/
theorem sends_numbers (n k : Nat) (s : State) : Sends P s { s with lp := { s.lp with outSeq := n, released := k } } :=
  .of_eq ⟨fun _ => rfl, fun _ h => h, rfl, rfl⟩ rfl rfl rfl rfl rfl fun _ _ _ => rfl

/-- A message waits for credit (R315). -/
theorem sends_voq {m : TMsg} (hm : ∀ i ∈ m.ib, P i) (dst cls : Nat) (s : State) :
    Sends P s { s with trunk := { s.trunk with voq := s.trunk.voq ++ [(dst, cls, m)] } } where
  toOnlySends := .of_eq rfl rfl rfl rfl rfl
  out := ⟨[], by simp⟩
  waiting := ⟨[], by simp⟩
  voq := ⟨[(dst, cls, m)], rfl, by simpa using hm⟩
  trunk := rfl
  living := rfl
  ways _ := rfl
  counters _ _ _ := rfl

theorem portsOf_lmod {f : Port → Port} (hf : ∀ x, { f x with sent := [], fcntTx := 0 } = { x with sent := [], fcntTx := 0 })
    (l : List Port) (p : Nat) :
    (lmod l p f).map (fun x => { x with sent := [], fcntTx := 0 }) = l.map (fun x => { x with sent := [], fcntTx := 0 }) := by
  induction l generalizing p with
  | nil => rfl
  | cons x r ih =>
    cases p with
    | zero => simp only [lmod, List.map_cons, hf]
    | succ p => simp only [lmod, List.map_cons, ih]

/-- The credit that a port uses and its frame count are no part of what stays (R307, R311). -/
theorem updPort_sends {f : Port → Port} (hf : ∀ x, { f x with sent := [], fcntTx := 0 } = { x with sent := [], fcntTx := 0 })
    (p : Nat) (s : State) : Sends P s (updPort p f s) := by
  refine .of_eq (.of_eq rfl rfl rfl rfl rfl) rfl rfl rfl ?_ rfl fun _ _ _ => rfl
  have ports : portsOf (updPort p f s) = portsOf s := portsOf_lmod hf ..
  rw [trunkKept, trunkKept, ports]
  rfl

theorem leave_sends {o : Out} (ho : ∀ m ∈ o.ib, P m) (s : State) : Sends P s (leave o s) := by
  unfold leave
  split
  · next p f m tag =>
    dsimp only
    refine .trans (.trans (updPort_sends (by intro x; rfl) p s) (sends_out ?_ _)) (cntUpAt_sends (by decide) ..)
    exact ho
  · exact sends_out ho s

theorem emit_sends {o : Out} (ho : ∀ m ∈ o.ib, P m) (s : State) : Sends P s (emit o s) := by
  unfold emit
  split
  · split
    · exact .refl s
    · dsimp only
      split
      · exact sends_waiting ho ..
      · exact .trans (sends_numbers _ _ s) (leave_sends ho _)
  · exact sends_out ho s

theorem imageLeft_sends (m : TMsg) (s : State) : Sends P s (imageLeft m s) := by
  unfold imageLeft
  split
  · split
    · exact .refl s
    · exact emit_sends (by simp [Out.ib]) s
  · exact .refl s

theorem chargeDest_sends (d cls bytes : Nat) (s : State) : Sends P s (chargeDest d cls bytes s) := by
  unfold chargeDest
  split
  · exact .refl s
  · exact .of_eq (.of_eq rfl rfl rfl rfl rfl) rfl rfl rfl rfl rfl fun _ _ _ => rfl

theorem noteSent_sends (d cls bytes : Nat) (m : TMsg) (s : State) : Sends P s (noteSent d cls bytes m s) := by
  unfold noteSent
  split
  · exact .of_eq (.of_eq rfl rfl rfl rfl rfl) rfl rfl rfl rfl rfl fun _ _ _ => rfl
  · exact .refl s

theorem sendNow_sends {m : TMsg} (hm : ∀ i ∈ m.ib, P i) (p dst cls : Nat) (s : State) : Sends P s (sendNow p dst cls m s) := by
  have credit (units : Nat) : Sends P s (useCredit p cls 0 units s) := updPort_sends (by intro x; rfl) p s
  exact (credit _).trans ((chargeDest_sends ..).trans ((noteSent_sends ..).trans
    ((emit_sends (o := .trunk _ _ m _) hm _).trans (imageLeft_sends ..))))

theorem trunkSend_sends {m : TMsg} (hm : ∀ i ∈ m.ib, P i) (dst cls : Nat) (s : State) : Sends P s (trunkSend dst cls m s) := by
  unfold trunkSend
  split
  · exact cntUpAt_sends (by decide) ..
  · split
    · split
      · exact sends_voq hm ..
      · exact sendNow_sends hm ..
    · exact sends_voq hm ..

/-- A record number of an association rises (R71). -/
theorem sends_recNo {aid : Nat} {a : Assoc} {s : State} (ha : mget s.ib.assocs aid = some a) (n : Nat) :
    Sends P s { s with ib := { s.ib with assocs := mset s.ib.assocs aid { a with recNo := n } } } where
  toOnlySends := .of_eq rfl rfl rfl rfl rfl
  out := ⟨[], by simp⟩
  waiting := ⟨[], by simp⟩
  voq := ⟨[], by simp⟩
  trunk := rfl
  living := rfl
  ways b := by
    by_cases hb : b = aid
    · subst hb
      simp [wayOf, ha]
    · simp [wayOf, mget_mset_ne _ _ _ _ hb]
  counters _ _ _ := rfl

theorem sendIb_sends {m : IbMsg} (hm : P m) (aid tclass : Nat) (s : State) : Sends P s (sendIb aid tclass m s) := by
  unfold sendIb
  split
  · next a _ ha _ =>
    refine .trans (sends_recNo ha (a.recNo + 1)) ?_
    dsimp only
    split
    · exact emit_sends (by simpa [Out.ib] using hm) _
    · exact trunkSend_sends (by simpa [TMsg.ib] using hm) ..
  · exact .refl s

/-- A part of a reply, with its bytes (R75). -/
def replyPart (sid seq typ : Nat) (r : Reply) (q : Nat × Bytes) : IbMsg :=
  .reply sid seq typ q.1 r.body.count { r with body := .raw q.2 }

theorem sendReply_sends {sid seq typ : Nat} {r : Reply} (hr : ∀ q ∈ r.body.parts, P (replyPart sid seq typ r q))
    (aid tclass : Nat) (s : State) : Sends P s (sendReply aid tclass sid seq typ r s) :=
  .foldl (fun q hq s => sendIb_sends (hr q hq) aid tclass s) s

/-! ### The closing of a step -/

/-- Nothing of a session shows but that it lives. -/
theorem living_mset {s : State} {i : Nat} {x : Session} (hx : mget s.ib.sessions i = some x) (y : Session) :
    living { s with ib := { s.ib with sessions := mset s.ib.sessions i y } } = living s := by
  funext j
  by_cases hj : j = i
  · subst hj
    simp [living, hx]
  · simp [living, mget_mset_ne _ _ _ _ hj]

/-- A session changes that lives on. -/
theorem sends_session {s : State} {i : Nat} {x : Session} (hx : mget s.ib.sessions i = some x) (y : Session) :
    Sends P s { s with ib := { s.ib with sessions := mset s.ib.sessions i y } } where
  toOnlySends := .of_eq rfl rfl rfl rfl rfl
  out := ⟨[], by simp⟩
  waiting := ⟨[], by simp⟩
  voq := ⟨[], by simp⟩
  trunk := rfl
  living := living_mset hx y
  ways _ := rfl
  counters _ _ _ := rfl

/-- Subscriptions change. -/
theorem sends_subs (m : NMap Sub) (s : State) : Sends P s { s with ib := { s.ib with subs := m } } where
  toOnlySends := .of_eq rfl rfl rfl rfl rfl
  out := ⟨[], by simp⟩
  waiting := ⟨[], by simp⟩
  voq := ⟨[], by simp⟩
  trunk := rfl
  living := rfl
  ways _ := rfl
  counters _ _ _ := rfl

/-- A NOTICE is of a session that lives (R83). -/
theorem sendNotice_sends (id : Nat) (b : Sub) (flags changes time obj : Nat) (body : Body) (urgent : Bool) (s : State) :
    Sends (OfOnly (living s)) s (sendNotice id b flags changes time obj body urgent s) := by
  unfold sendNotice
  split
  · exact .refl s
  · next x hx =>
    refine .trans (sends_session hx _) (.trans (cntUpAt_sends (by decide) ..) (sendIb_sends ?_ ..))
    intro sid hs
    obtain rfl : b.sid = sid := by simpa [IbMsg.of] using hs
    simp [living, hx]

theorem flushSub_sends (id : Nat) (s : State) : Sends (OfOnly (living s)) s (flushSub id s) := by
  unfold flushSub
  split
  · exact .refl s
  · split
    · exact .refl s
    · exact (sendNotice_sends ..).trans (sends_subs ..)

theorem settleSub_sends (s s' acc : State) (p : Nat × Sub) : Sends (OfOnly (living acc)) acc (settleSub s s' acc p) := by
  have flush (m : NMap Sub) :
      Sends (OfOnly (living acc)) acc (flushSub p.1 { acc with ib := { acc.ib with subs := m } }) := by
    refine (sends_subs m acc).trans ?_
    exact flushSub_sends p.1 { acc with ib := { acc.ib with subs := m } }
  unfold settleSub
  split
  · dsimp only
    split
    · exact .refl acc
    · split
      · split
        · exact flush _
        · exact sends_subs _ acc
      · exact sends_subs _ acc
  · exact .refl acc

theorem settle_sends (s s' : State) : Sends (OfOnly (living s')) s' (settle s s') := by
  have each (l : List (Nat × Sub)) (acc : State) : Sends (OfOnly (living acc)) acc (l.foldl (settleSub s s') acc) := by
    induction l generalizing acc with
    | nil => exact .refl acc
    | cons p r ih =>
      have first := settleSub_sends s s' acc p
      exact first.trans (first.living ▸ ih _)
  unfold settle
  split
  · exact each ..
  · exact .refl s'

/-- What the closing of a step leaves of the state that its command made, and what it sends: NOTICEs of sessions that live. -/
structure Ended (v u : State) : Prop extends Closed v u where
  sends : Sends (OfOnly (living v)) v u

theorem runs_ended {c : Instr} {s s0 v : State} {P : State → Prop} (he : exec c s = done s0 v) (hP : ∀ u, Ended v u → P u) :
    Runs c s P := by
  obtain ⟨u, hu, closed⟩ := runs_closed (P := Closed v) he fun _ => id
  refine ⟨u, hu, hP u { closed with sends := ?_ }⟩
  obtain rfl := Host.Outcome.next.inj (hu.symm.trans he)
  refine (settle_sends { s0 with clk := { s0.clk with fab := s0.clk.prev } } v).trans ?_
  exact .of_eq (.of_eq rfl rfl rfl rfl rfl) rfl rfl rfl rfl rfl fun _ _ _ => rfl

end Sys2Proof.Machine
end

section
/-!
PROOFS. What is sent leaves, or waits for its comparison or for credit (R283, R314, R315).
-/
namespace Sys2Proof.Machine

open Sys2Proof.Safety

/-- What leaves where an output is produced: the output, a trunk frame with its frame count and TAG (R307). -/
def Reframed (o o' : Out) : Prop :=
  o' = o ∨ ∃ p f m tag n tag', o = .trunk p f m tag ∧ o' = .trunk p { f with fcnt := n } m tag'

theorem leave_out (o : Out) (s : State) : ∃ o', Reframed o o' ∧ (leave o s).out = o' :: s.out := by
  unfold leave
  split
  · next p f m tag =>
    have counted (v : State) : (cntUpAt 0x30020 p 6 1 v).out = v.out := by simp
    exact ⟨_, .inr ⟨p, f, m, tag, _, _, rfl, rfl⟩, counted _⟩
  · exact ⟨o, .inl rfl, rfl⟩

/-- An output that is not held back for a standby leaves. -/
theorem emit_out {o : Out} {s : State} (ha : (active s).isSome = true) (free : (heldBack o && (standby s).isSome) = false) :
    ∃ o', Reframed o o' ∧ (emit o s).out = o' :: s.out := by
  unfold emit
  split
  · split
    · next lost => simp [lost] at ha
    · rw [free]
      exact leave_out o _
  · exact ⟨o, .inl rfl, rfl⟩

/-- An output that is held back waits for the standby (R283). -/
theorem emit_waiting {o : Out} {s : State} (ha : (active s).isSome = true) (leaves : outside o = true)
    (held : (heldBack o && (standby s).isSome) = true) :
    ∃ n f, (emit o s).lp.waiting = s.lp.waiting ++ [(n, f, o)] := by
  unfold emit
  rw [if_pos leaves]
  split
  · next lost => simp [lost] at ha
  · rw [if_pos held]
    exact ⟨_, _, rfl⟩

theorem emit_sent {o : Out} {s : State} (ha : (active s).isSome = true) (leaves : outside o = true) :
    ∃ o', Reframed o o' ∧ Sent (emit o s) o' := by
  cases held : heldBack o && (standby s).isSome with
  | true =>
    obtain ⟨n, f, waits⟩ := emit_waiting ha leaves held
    exact ⟨o, .inl rfl, .inr (by simp [waits])⟩
  | false =>
    obtain ⟨o', same, out⟩ := emit_out ha held
    exact ⟨o', same, .inl (by simp [out])⟩

theorem route_port {s : State} {d p : Nat} (h : route s d = some p) : p = 0 ∨ p = 1 := by
  unfold route at h
  dsimp only at h
  repeat' split at h
  all_goals simp_all

theorem route_of_canSend {s : State} {dst cls p : Nat} {m : TMsg} (h : canSend s dst cls m = some p) :
    route s dst = some p := by
  unfold canSend at h
  split at h
  · cases h
  · next q hq =>
    split at h
    · rwa [← h]
    · cases h

/-- A frame that leaves now leaves by the port of its route. -/
theorem sendNow_sent {s : State} (ha : (active s).isSome = true) (p dst cls : Nat) (m : TMsg) :
    SentOn (sendNow p dst cls m s) p dst cls m := by
  generalize hv : noteSent dst cls (frameBytes (tmsgLen m)) m (chargeDest dst cls (frameBytes (tmsgLen m))
    (useCredit p cls 0 (frameUnits (tmsgLen m)) s)) = v
  have hav : active v = active s := by
    have sends : Sends (fun _ => True) s v := hv ▸
      (updPort_sends (by exact fun _ => rfl) p s).trans ((chargeDest_sends ..).trans (noteSent_sends ..))
    exact sends.active
  have sent : ∃ f tag, f.dst = dst ∧ f.cls = cls ∧ Sent (sendFree p dst cls m v) (.trunk p f m tag) := by
    obtain ⟨o', rfl | ⟨_, f, _, _, n, tag, ho, rfl⟩, sent⟩ := emit_sent (hav ▸ ha) (rfl : outside (.trunk p (ownFrame v dst cls m) m []) = true)
    · exact ⟨_, _, rfl, rfl, sent⟩
    · cases ho
      exact ⟨_, _, rfl, rfl, sent⟩
  have left := (imageLeft_sends (P := fun _ => True) m (sendFree p dst cls m v)).sentOn sent
  rwa [← hv] at left

/-- With an active lane and a route, a message to a node leaves or waits for credit (R315). -/
theorem trunkSend_sent {s : State} {dst p : Nat} (ha : (active s).isSome = true) (hr : route s dst = some p) (cls : Nat)
    (m : TMsg) : TrunkSent (trunkSend dst cls m s) dst cls m := by
  have waits : TrunkSent { s with trunk := { s.trunk with voq := s.trunk.voq ++ [(dst, cls, m)] } } dst cls m :=
    .inr (.inr (List.mem_append_right _ List.mem_cons_self))
  simp only [trunkSend, hr]
  split
  · next q hq =>
    split
    · exact waits
    · obtain rfl | rfl := route_port (route_of_canSend hq)
      · exact .inl (sendNow_sent ha ..)
      · exact .inr (.inl (sendNow_sent ha ..))
  · exact waits

/-- A datagram takes the next record number of its association (R71). -/
def recorded (aid : Nat) (a : Assoc) (s : State) : State :=
  { s with ib := { s.ib with assocs := mset s.ib.assocs aid { a with recNo := a.recNo + 1 } } }

/-- The datagram that carries a message on an association (R66, R71). -/
def dgram (a : Assoc) (tclass : Nat) (m : IbMsg) (s : State) : Dgram :=
  { module := modId s, tclass := tclass, recNo := a.recNo, msg := m }

theorem sendIb_service {s : State} {aid : Nat} {a : Assoc} (hx : mget s.ib.assocs aid = some a)
    (ha : (active s).isSome = true) (he : a.entry = .service) (tclass : Nat) (m : IbMsg) :
    sendIb aid tclass m s = emit (.ibier aid (dgram a tclass m s)) (recorded aid a s) := by
  obtain ⟨l, hl⟩ := Option.isSome_iff_exists.1 ha
  cases a
  cases he
  simp only [sendIb, hx, hl]
  rfl

theorem sendIb_trunk {s : State} {aid : Nat} {a : Assoc} (hx : mget s.ib.assocs aid = some a)
    (ha : (active s).isSome = true) (he : a.entry = .trunk) (tclass : Nat) (m : IbMsg) :
    sendIb aid tclass m s =
      trunkSend a.via (if tclass = 1 then 1 else 2) (.ibier a.peer (dgram a tclass m s)) (recorded aid a s) := by
  obtain ⟨l, hl⟩ := Option.isSome_iff_exists.1 ha
  cases a
  cases he
  simp only [sendIb, hx, hl]
  rfl

/-- What can leave on an association leaves, or waits for its comparison or for credit (R66, R67). -/
theorem sendIb_sent {s : State} {aid : Nat} (h : canReach s aid = true) (tclass : Nat) (m : IbMsg) :
    IbSent (sendIb aid tclass m s) m := by
  obtain ⟨ha, way⟩ := Bool.and_eq_true_iff.1 h
  cases hx : mget s.ib.assocs aid with
  | none => simp [hx] at way
  | some a =>
    simp only [hx, Bool.or_eq_true, beq_iff_eq] at way
    have sends : Sends (fun _ => True) s (recorded aid a s) := sends_recNo hx _
    cases he : a.entry with
    | service =>
      rw [sendIb_service hx ha he]
      obtain ⟨o', rfl | ⟨_, _, _, _, _, _, ho, _⟩, sent⟩ := emit_sent (o := .ibier aid (dgram a tclass m s))
        (s := recorded aid a s) (sends.active ▸ ha) rfl
      · exact ⟨_, _, rfl, .inl sent⟩
      · cases ho
    | trunk =>
      rw [sendIb_trunk hx ha he]
      obtain ⟨p, hp⟩ := Option.isSome_iff_exists.1 (way.resolve_left (by simp [he]))
      exact ⟨0, _, rfl, .inr ⟨_, _, _, trunkSend_sent (sends.active ▸ ha) ((sends.route _).trans hp) ..⟩⟩

/-- Every part of a reply that can leave leaves, or waits. -/
theorem sendReply_sent {s : State} {aid : Nat} (h : canReach s aid = true) (tclass sid seq typ : Nat) (r : Reply) :
    ∀ q ∈ r.body.parts, IbSent (sendReply aid tclass sid seq typ r s) (replyPart sid seq typ r q) := by
  have one (q : Nat × Bytes) (s : State) :
      Sends (fun _ => True) s (sendIb aid tclass (replyPart sid seq typ r q) s) := sendIb_sends trivial ..
  change ∀ q ∈ r.body.parts, IbSent (r.body.parts.foldl (fun s q => sendIb aid tclass (replyPart sid seq typ r q) s) s) _
  generalize r.body.parts = l
  induction l generalizing s with
  | nil => intro q hq; cases hq
  | cons p l ih =>
    intro q hq
    obtain rfl | hq := List.mem_cons.1 hq
    · have later := Sends.foldl (l := l) (fun b _ => one b) (sendIb aid tclass (replyPart sid seq typ r q) s)
      exact later.ibSent (sendIb_sent h ..)
    · exact ih (((one p s).canReach aid).trans h) q hq

end Sys2Proof.Machine
end

section
/-!
PROOFS. The Ibier service of a cascade (R66, R67, R321, R323), and the settlement of O44.
-/
namespace Sys2Proof.Machine

open Sys2Proof.Safety

/-! ### Counters and conditions -/

/-- A lane that runs in sync counts what happens (R16, R45). -/
theorem cnt_cntUpAt {l : Lane} {s : State} (runs : (s.lanes.get l).running = true) (role : (s.lanes.get l).role ≠ .lagging)
    (n r c k : Nat) : mgetD ((cntUpAt n r c k s).lanes.get l).cnt (ckey n r c) 0 =
      mgetD (s.lanes.get l).cnt (ckey n r c) 0 + k := by
  have own (i : Lane) (v : State) : mgetD ((cntLane i n r c k v).lanes.get i).cnt (ckey n r c) 0 =
      mgetD (v.lanes.get i).cnt (ckey n r c) 0 + k := by
    simp [cntLane]
  have ofA (v : State) : (cntLane .A n r c k v).lanes.get .B = v.lanes.get .B := rfl
  have ofB (v : State) : (cntLane .B n r c k v).lanes.get .A = v.lanes.get .A := rfl
  have counted : ((s.lanes.get l).running && (s.lanes.get l).role != .lagging) = true := by simp [runs, role]
  unfold cntUpAt
  cases l with
  | A =>
    dsimp only
    rw [show (s.lanes.a.running && s.lanes.a.role != .lagging) = true from counted, if_pos rfl]
    split
    · rw [ofB, own]
    · exact own ..
  | B =>
    generalize hv : (if s.lanes.a.running && s.lanes.a.role != .lagging then cntLane .A n r c k s else s) = v
    have kept : v.lanes.get .B = s.lanes.get .B := by
      rw [← hv]
      split
      · exact ofA s
      · rfl
    rw [← kept] at counted ⊢
    rw [← own .B v]
    exact congrArg (fun u : State => mgetD (u.lanes.get .B).cnt (ckey n r c) 0) (if_pos counted)

/-- A counter of the lane that reads are served from rises by one (R45). -/
theorem cntRead_cntUp {s : State} (h : counts s = true) (n : Nat) :
    cntRead (cntUp n s) n 0 0 = (cntRead s n 0 0 + 1) % 4294967296 := by
  simp only [counts, Bool.and_eq_true, bne_iff_ne] at h
  have served : servedBy (cntUp n s) = servedBy s := by
    rw [servedBy, servedBy, cntUp, (cntUpAt_onlySends ..).active]
  rw [cntRead, cntRead, served, cntUp, cnt_cntUpAt h.1 h.2]
  omega

theorem live_condSet {bit : Nat} (h : bit < 256) (detail : Nat) (s : State) :
    (condSet bit detail true s).dict.live.getLsbD bit = true := by
  unfold condSet
  rw [if_pos rfl]
  split
  · assumption
  · simp [h]

/-! ### The commands -/

/-- The master's note of where a head-end is reached, and then the datagram's way on (R321). -/
theorem execIbierFrame_relays {s : State} {src m c p : Nat} (hc : c ≤ 1) (hs : 64 ≤ src) (master : actsMaster s = true)
    (other : m ≠ modId s) (hm : m ≤ 63) (hr : route s m = some p) (t size : Nat) (y : Peer) :
    ∃ v, execIbierFrame t ⟨src, y⟩ 1 m c 0 size s = done v (relayTo m y m c size v) ∧ active v = active s ∧
      route v m = some p := by
  have far : ¬ (actsMaster (tick t s) = true ∧ src < 64) := by omega
  have taken : ¬ ((1 : Nat) ≠ 1 ∨ 1 < c ∨ 0 ≠ 0) := by omega
  unfold execIbierFrame
  dsimp only
  rw [if_neg taken, if_neg far]
  generalize hv : (if actsMaster (tick t s) && src != 255 then noteHead y src (tick t s) else tick t s) = v
  have kept : modId v = modId s ∧ actsMaster v = actsMaster s ∧ active v = active s ∧ v.trunk.topo = s.trunk.topo ∧
      v.trunk.cut = s.trunk.cut := by
    rw [← hv]
    split <;> exact ⟨rfl, rfl, rfl, rfl, rfl⟩
  obtain ⟨mod, acts, act, topo, cut⟩ := kept
  have way : route v m = some p := (route_congr topo cut mod m).trans hr
  have named : ¬ ((!actsMaster v) = true ∨ 63 < m) := by
    rintro (member | beyond)
    · simp [acts, master] at member
    · omega
  refine ⟨v, ?_, act, way⟩
  rw [if_neg (mod ▸ other), if_neg named, way]

/-- A member's datagram leaves by the master's service port (R321). -/
theorem execIbierFrame_leaves {s : State} {src c : Nat} {y : Peer} (hc : c ≤ 1) (hs : src < 64)
    (master : actsMaster s = true) (service : y.service = true) (t m size : Nat) :
    execIbierFrame t ⟨src, y⟩ 1 m c 0 size s = done (tick t s) (emit (.relayed y m c size) (tick t s)) :=
  (if_neg (by omega)).trans ((if_pos ⟨master, hs⟩).trans (if_pos service))

/-- A status that the master keeps, or a silence that it notes, changes the members and what MEMBER_SILENT says of them. -/
theorem silentSync_trunk (detail : Nat) (s : State) : (silentSync detail s).trunk = s.trunk := by
  simp [silentSync]

/-- Settles O44: it holds. What the master relays and what a member sends has a route and an active lane, so that it leaves
or waits; the rest is what each command makes of the members, the counter and the condition, which sending leaves alone. -/
theorem cascadeService : Obligations.CascadeService := by
  unfold Obligations.CascadeService
  refine ⟨?relays, ?leaves, ?dropped, ?status, ?statusSend, ?silent⟩
  case relays =>
    intro t src m c size p y s hc hs master other hm hr ha
    obtain ⟨v, he, act, way⟩ := execIbierFrame_relays hc hs master other hm hr t size y
    exact runs_ended he fun u hu => hu.sends.trunkSent (trunkSend_sent (act ▸ ha) way ..)
  case leaves =>
    intro t src m c size y s hc hs master service ha
    refine runs_ended (execIbierFrame_leaves hc hs master service t m size) fun u hu => ?_
    obtain ⟨o, rfl | ⟨_, _, _, _, _, _, ho, _⟩, sent⟩ := emit_sent (o := .relayed y m c size) (s := tick t s) ha rfl
    · exact hu.sent _ sent
    · cases ho
  case dropped =>
    intro t src v m c r size y s bad served
    refine runs_ended (if_pos bad) fun u hu => ?_
    have counted := cntRead_cntUp (s := tick t s) served 0x00012
    refine ⟨hu.sends.ports.trans ?_, hu.sends.topo.trans ?_, (hu.sends.cntRead (by decide)).trans counted⟩
    · simp [portsOf]
    · simp
  case status =>
    intro t m s master hm
    refine runs_ended (if_pos ⟨master, hm⟩) fun u hu => ?_
    rw [hu.sends.members, silentSync_trunk]
    exact mget_mset_same ..
  case statusSend =>
    intro t p s member comm hr ha
    have sends : ¬ (actsMaster (tick t s) = true ∨ (!commissioned (tick t s)) = true) := by
      rintro (acts | alone)
      · exact absurd (member.symm.trans acts) (by decide)
      · simp [show commissioned (tick t s) = true from comm] at alone
    have way : route (tick t s) (masterId s) = some p := (route_tick ..).trans hr
    exact runs_ended (if_neg sends) fun u hu => hu.sends.trunkSent (trunkSend_sent (s := tick t s) ha way ..)
  case silent =>
    intro t n m s hm master late
    have he : exec (.memberSilentTimeout t n) s = done (tick t s) (silentSync n { tick t s with trunk :=
        { s.trunk with members := mset s.trunk.members n { m with silent := true } } }) := by
      change execMemberSilentTimeout t n s = _
      simp only [execMemberSilentTimeout, tick_frame, hm]
      exact if_pos ⟨master, late⟩
    refine runs_ended he fun u hu => ⟨?_, ?_⟩
    · rw [hu.sends.members, silentSync_trunk]
      exact mget_mset_same ..
    · have anySilent : (mset s.trunk.members n { m with silent := true }).any (fun p => p.2.silent) = true :=
        List.any_eq_true.2 ⟨_, mem_of_mget (mget_mset_same ..), rfl⟩
      rw [hu.dict, silentSync]
      dsimp only
      rw [anySilent]
      exact live_condSet (by decide) ..

end Sys2Proof.Machine
end

section
/-!
PROOFS. CLOSE_SESSION (R93), and the settlement of O59.
-/
namespace Sys2Proof.Machine

open Sys2Proof.Safety

/-! ### What a request finds of the sessions and the ways to its peer -/

/-- What a change of one key keeps of each value, the map keeps. -/
theorem map_mget_mmod {α β : Type} {f : α → α} {p : α → β} (hf : ∀ v, p (f v) = p v) (m : NMap α) (k i : Nat) :
    (mget (mmod m k f) i).map p = (mget m i).map p := by
  by_cases h : i = k
  · subst h
    rw [mget_mmod_same, Option.map_map]
    exact congrArg (fun g => (mget m i).map g) (funext hf)
  · rw [mget_mmod_ne _ _ _ _ h]

theorem mget_map {α β : Type} (g : α → β) (m : NMap α) (k : Nat) :
    mget (m.map fun p => (p.1, g p.2)) k = (mget m k).map g := by
  induction m with
  | nil => rfl
  | cons p r ih =>
    simp only [List.map_cons, mget]
    split
    · rfl
    · exact ih

/-- A request that is looked at leaves every session's level (R69). -/
theorem opState_level (t sid : Nat) (h : Hdr) (s : State) (i : Nat) :
    (mget (opState t h sid s).ib.sessions i).map (fun x => x.level) = (mget s.ib.sessions i).map (fun x => x.level) := by
  obtain ⟨f, eq, hf⟩ : ∃ f : Session → Session, (opState t h sid s).ib.sessions =
      mmod (touchSession sid (tick t s)).ib.sessions sid f ∧ ∀ x, (f x).level = x.level := ⟨_, rfl, fun _ => rfl⟩
  rw [eq, map_mget_mmod hf]
  exact map_mget_mmod (by exact fun _ => rfl) ..

theorem caller_level {s : State} {sid : Nat} {x : Session} (hx : mget s.ib.sessions sid = some x) (t : Nat) :
    (caller t sid s).level = x.level := by
  have same : (mget (touchSession sid (tick t s)).ib.sessions sid).map (fun x => x.level) = some x.level :=
    (map_mget_mmod (by exact fun _ => rfl) ..).trans (congrArg _ hx)
  obtain ⟨y, hy, level⟩ := Option.map_eq_some_iff.1 same
  rw [caller, hy]
  exact level

theorem wayOf_opState (t sid : Nat) (h : Hdr) (s : State) (a : Nat) : wayOf (opState t h sid s) a = wayOf s a := by
  have assocs : (opState t h sid s).ib.assocs = s.ib.assocs := rfl
  rw [wayOf, assocs]
  rfl

theorem wayOf_cacheReply (sid seq : Nat) (r : Option Reply) (s : State) (a : Nat) :
    wayOf (cacheReply sid seq r s) a = wayOf s a := by
  have assocs : (cacheReply sid seq r s).ib.assocs = s.ib.assocs := rfl
  rw [wayOf, assocs]
  rfl

/-- The end of a session leaves the ways to the peers (R70). -/
theorem wayOf_endSession (i : Nat) (s : State) (a : Nat) : wayOf (endSession i s) a = wayOf s a := by
  let ended (b : Assoc) : Assoc := if b.session = some i then { b with session := none } else b
  have assocs : mget (endSession i s).ib.assocs a = (mget s.ib.assocs a).map ended := mget_map ended ..
  have way (b : Assoc) : ((ended b).entry, (ended b).via) = (b.entry, b.via) := by
    simp only [ended]
    split <;> rfl
  simp only [wayOf, assocs, Option.map_map, Function.comp_def, way]

theorem living_cacheReply (sid seq : Nat) (r : Option Reply) (s : State) : living (cacheReply sid seq r s) = living s := by
  funext i
  have same := map_mget_mmod (p := fun x : Session => x.level) (f := fun x => { x with cache := (seq, r) :: x.cache })
    (by exact fun _ => rfl) s.ib.sessions sid i
  have alive := congrArg Option.isSome same
  rwa [Option.isSome_map, Option.isSome_map] at alive

theorem typ_of_arrives {typ : Nat} {nb : Bool} {h : Hdr} {sid : Nat} {s : State} (ha : arrives typ nb h sid s = true) :
    h.typ = typ := by
  by_contra hne
  simp [arrives, headerBad, hne] at ha

/-! ### The command -/

/-- The reply OK to CLOSE_SESSION (R74, R93). -/
def closeReply (sid : Nat) (h : Hdr) : IbMsg := .reply sid h.seq 3 0 1 { okReply 0x00130 with body := .raw [] }

/-- The state in which that reply is sent: session `i` is ended, the reply in the caller's cache where that lives on. -/
def closing (t sid i : Nat) (h : Hdr) (s : State) : State :=
  cacheReply sid h.seq (some (okReply 0x00130)) (endSession i (opState t h sid s))

section
variable {t sid : Nat} {h : Hdr} {args : List TVal} {s : State}
  (hp : passes 0x00130 [cU32] false t h args sid s = true)
include hp

theorem closeSession_none (hn : mget s.ib.sessions (argN args 0) = none) :
    exec (.closeSession t h args) s =
      done (tick t s) (answer sid h (opState t h sid s, some (rRange 0x00130 0))) := by
  have gone : mget (opState t h sid s).ib.sessions (argN args 0) = none := by
    simpa [hn] using opState_level t sid h s (argN args 0)
  refine congrArg (done (tick t s)) ((execCmd_passes hp _).trans ?_)
  simp only [gone]
  rfl

theorem closeSession_denied {y : Session} (hy : mget s.ib.sessions (argN args 0) = some y)
    (above : (caller t sid s).level < y.level) :
    exec (.closeSession t h args) s =
      done (tick t s) (answer sid h (opState t h sid s, some (rErr stDenied (be 1 y.level)))) := by
  obtain ⟨z, hz, level⟩ := Option.map_eq_some_iff.1 ((opState_level t sid h s (argN args 0)).trans (congrArg _ hy))
  refine congrArg (done (tick t s)) ((execCmd_passes hp _).trans ?_)
  simp only [hz, level]
  rw [if_pos above]
  rfl

theorem closeSession_ends {y : Session} (hy : mget s.ib.sessions (argN args 0) = some y)
    (below : y.level ≤ (caller t sid s).level) :
    exec (.closeSession t h args) s =
      done (tick t s) (sendIb h.assoc h.tclass (closeReply sid h) (closing t sid (argN args 0) h s)) := by
  obtain ⟨z, hz, level⟩ := Option.map_eq_some_iff.1 ((opState_level t sid h s (argN args 0)).trans (congrArg _ hy))
  have typ : h.typ = 3 := typ_of_arrives (Bool.and_eq_true_iff.1 hp).1
  refine congrArg (done (tick t s)) ((execCmd_passes hp _).trans ?_)
  simp only [hz, level]
  rw [if_neg (by omega)]
  simp only [answer, okEmpty, Option.map_some, obj_of_passes hp, typ]
  rfl

/-- On the caller's own session it is executed. -/
theorem closeSession_own (own : argN args 0 = sid) :
    exec (.closeSession t h args) s =
      done (tick t s) (sendIb h.assoc h.tclass (closeReply sid h) (closing t sid sid h s)) := by
  obtain ⟨x, hx⟩ := Option.isSome_iff_exists.1 (sessions_of_arrives (Bool.and_eq_true_iff.1 hp).1)
  have ends := closeSession_ends hp (own ▸ hx) (caller_level hx t).ge
  rwa [own] at ends

end

theorem closing_ended (t sid i : Nat) (h : Hdr) (s : State) : mget (closing t sid i h s).ib.sessions i = none := by
  have gone : living (closing t sid i h s) i = false := by
    rw [closing, living_cacheReply]
    simp [living, endSession]
  simpa [living] using gone

theorem wayOf_closing (t sid i : Nat) (h : Hdr) (s : State) (a : Nat) : wayOf (closing t sid i h s) a = wayOf s a := by
  rw [closing, wayOf_cacheReply, wayOf_endSession, wayOf_opState]

theorem canReach_closing (t sid i : Nat) (h : Hdr) (s : State) (a : Nat) : canReach (closing t sid i h s) a = canReach s a :=
  canReach_congr (wayOf_closing ..) rfl fun _ => route_congr (u := closing t sid i h s) (s := s) rfl rfl rfl _

/-- The reply is sent, and the session is ended. -/
theorem ended_of_closing {t sid i : Nat} {h : Hdr} {s u : State} (reach : canReach s h.assoc = true)
    (hu : Ended (sendIb h.assoc h.tclass (closeReply sid h) (closing t sid i h s)) u) :
    mget u.ib.sessions i = none ∧ IbSent u (closeReply sid h) := by
  have sends : Sends (fun _ => True) _ _ := sendIb_sends trivial h.assoc h.tclass (m := closeReply sid h) (closing t sid i h s)
  exact ⟨hu.sends.session_none (sends.session_none (closing_ended ..)),
    hu.sends.ibSent (sendIb_sent ((canReach_closing ..).trans reach) ..)⟩

/-- What is of no session but those that live is of none that was ended. -/
theorem not_of_ended {s : State} {sid : Nat} (hs : mget s.ib.sessions sid = none) {m : IbMsg} (hm : OfOnly (living s) m) :
    IbMsg.of sid m = false := by
  by_contra isOf
  have := hm sid (by simpa using isOf)
  simp [living, hs] at this

theorem not_toSession {s : State} {sid : Nat} (hs : mget s.ib.sessions sid = none) {o : Out}
    (ho : ∀ m ∈ o.ib, OfOnly (living s) m) : toSession sid o = false := by
  rw [toSession_eq]
  cases hm : o.ib with
  | none => rfl
  | some m => exact not_of_ended hs (ho m hm)

/-- A refusal is answered and leaves every session open. -/
theorem ended_refusal {t sid : Nat} {h : Hdr} {args : List TVal} {s u : State} {r : Reply}
    (hp : passes 0x00130 [cU32] false t h args sid s = true) (hu : Ended (answer sid h (opState t h sid s, some r)) u) :
    Answered u sid h { r with obj := 0x00130 } ∧ living u = living (opState t h sid s) := by
  have live := opState_session (sessions_of_arrives (Bool.and_eq_true_iff.1 hp).1) t h
  have sends : Sends (fun _ => True) _ (answer sid h (opState t h sid s, some r)) :=
    sendReply_sends (fun _ _ => trivial) h.assoc h.tclass (cacheReply sid h.seq (some { r with obj := h.obj }) _)
  refine ⟨?_, hu.sends.living.trans (sends.living.trans (living_cacheReply ..))⟩
  have answered := (answer_some live h r).2
  rw [obj_of_passes hp] at answered
  exact hu.answered.2 answered

/-- The reply to the caller at the service port, as it is produced. -/
theorem sendIb_closing {t sid : Nat} {h : Hdr} {s : State} {a : Assoc} (ha : mget s.ib.assocs h.assoc = some a)
    (service : a.entry = .service) (act : (active s).isSome = true) :
    ∃ d v, sendIb h.assoc h.tclass (closeReply sid h) (closing t sid sid h s) = emit (.ibier h.assoc d) v ∧
      d.msg = closeReply sid h ∧ active v = active s ∧ standby v = standby s := by
  have way : wayOf (closing t sid sid h s) h.assoc = some (.service, a.via) := by
    rw [wayOf_closing, wayOf, ha, ← service]
    rfl
  obtain ⟨b, hb, entry⟩ := Option.map_eq_some_iff.1 way
  exact ⟨_, _, sendIb_service hb act (congrArg Prod.fst entry) .., rfl, rfl, rfl⟩

/-- Settles O59: it holds. The reply is sent once the session is ended, and closing the step sends NOTICEs of sessions that
live only; so of the ended session nothing follows the reply. -/
theorem closeSession : Obligations.CloseSession := by
  unfold Obligations.CloseSession
  refine ⟨?denied, ?range, ?ends, ?own, ?leaves, ?waits⟩
  case denied =>
    intro t sid h args s y hp hy above
    refine runs_ended (closeSession_denied hp hy above) fun u hu => ?_
    obtain ⟨answered, kept⟩ := ended_refusal hp hu
    have live := congrArg Option.isSome ((opState_level t sid h s (argN args 0)).trans (congrArg _ hy))
    rw [Option.isSome_map] at live
    exact ⟨answered, (congrFun kept _).trans live⟩
  case range =>
    intro t sid h args s hp hn
    exact runs_ended (closeSession_none hp hn) fun u hu => (ended_refusal hp hu).1
  case ends =>
    intro t sid h args s y hp hy below reach
    exact runs_ended (closeSession_ends hp hy below) fun u hu => ended_of_closing reach hu
  case own =>
    intro t sid h args s hp own reach
    refine runs_ended (closeSession_own hp own) fun u hu => ?_
    obtain ⟨gone, sent⟩ := ended_of_closing reach hu
    have reply := sendIb_sends (P := fun m => m = closeReply sid h) rfl h.assoc h.tclass (closing t sid sid h s)
    refine ⟨gone, sent, fun m isOf hm => ?_⟩
    refine (hu.sends.ibSent_inv hm).elim (fun new => ?_) reply.ibSent_inv
    exact absurd (not_of_ended (reply.session_none (closing_ended ..)) new) (by simp [isOf])
  case leaves =>
    intro t sid h args s a hp own ha service act alone
    refine runs_ended (closeSession_own hp own) fun u hu => ?_
    have gone := (sendIb_sends (P := fun _ => True) (m := closeReply sid h) trivial h.assoc h.tclass
      (closing t sid sid h s)).session_none (closing_ended ..)
    obtain ⟨d, v, reply, msg, actV, standbyV⟩ := sendIb_closing (t := t) (sid := sid) ha service act
    obtain ⟨x, hx, new⟩ := hu.sends.out
    rw [reply] at hx
    obtain ⟨o, rfl | ⟨_, _, _, _, _, _, ho, _⟩, out⟩ := emit_out (o := .ibier h.assoc d) (actV ▸ act)
      (by rw [standbyV, alone]; rfl)
    · refine ⟨x, d, v.out, hx.trans (congrArg _ out), msg, List.all_eq_true.2 fun o ho => ?_⟩
      rw [not_toSession gone (new o ho)]
      rfl
    · cases ho
  case waits =>
    intro t sid h args s a hp own ha service act compared
    refine runs_ended (closeSession_own hp own) fun u hu => ?_
    have gone := (sendIb_sends (P := fun _ => True) (m := closeReply sid h) trivial h.assoc h.tclass
      (closing t sid sid h s)).session_none (closing_ended ..)
    obtain ⟨d, v, reply, msg, actV, standbyV⟩ := sendIb_closing (t := t) (sid := sid) ha service act
    obtain ⟨y, hy, new⟩ := hu.sends.waiting
    rw [reply] at hy
    obtain ⟨n, f, waits⟩ := emit_waiting (o := .ibier h.assoc d) (actV ▸ act) rfl (by rw [standbyV, compared]; rfl)
    refine ⟨v.lp.waiting, n, f, d, y, ?_, msg, List.all_eq_true.2 fun w hw => ?_⟩
    · rw [hy, waits, List.append_assoc]
      rfl
    · rw [not_toSession gone (new w hw)]
      rfl

end Sys2Proof.Machine
end

section
/-!
PROOFS. How a request is taken (R69, R72, R76, R77), and the settlement of O60.
-/
namespace Sys2Proof.Machine

open Sys2Proof.Safety

/-! ### A request that is refused or answered from the cache -/

/-- The state in which a request of a session is looked up in its window: the session touched (R70), the lease renewed (R52). -/
def lookedUp (t : Nat) (h : Hdr) (sid : Nat) (s : State) : State := renewLease sid h.handle (touchSession sid (tick t s))

theorem touchSession_session {t sid : Nat} {s : State} {x : Session} (hx : mget s.ib.sessions sid = some x) :
    mget (touchSession sid (tick t s)).ib.sessions sid =
      some { x with last := time64 (tick t s), lastFab := (tick t s).clk.fab } := by
  have touched := mget_mmod_same s.ib.sessions sid fun x =>
    { x with last := time64 (tick t s), lastFab := (tick t s).clk.fab }
  rw [hx] at touched
  exact touched

section
variable {typ t sid : Nat} {nb : Bool} {h : Hdr} {op : Nat → Session → State → Answer} {a : Assoc} {x : Session} {s : State}
  (size : h.size ≤ 1200) (relay : relayBad s h = false) (ha : mget s.ib.assocs h.assoc = some a)
include size relay

/-- Its datagram is taken (R66, R72). -/
theorem datagram_taken : (decide (1200 < h.size) || relayBad (tick t s) h) = false := by
  rw [show relayBad (tick t s) h = false from relay]
  simpa using size

include ha

/-- An association without a session is DENIED (R69). -/
theorem request_noSession (free : a.session = none) :
    request typ nb h op (tick t s) = refusal h (rErr stDenied (be 1 0)) (tick t s) := by
  simp only [request, datagram_taken size relay, tick_frame, ha, free, Bool.false_eq_true, if_false]

variable (mine : a.session = some sid) (hx : mget s.ib.sessions sid = some x)
include mine hx

/-- Another session than the association's is DENIED (R69). -/
theorem request_otherSession (other : h.sid ≠ sid) :
    request typ nb h op (tick t s) = refusal h (rErr stDenied (be 1 0)) (touchSession sid (tick t s)) := by
  simp only [request, datagram_taken size relay, tick_frame, ha, mine, touchSession_session hx, bne_iff_ne.2 other,
    Bool.false_eq_true, if_false, if_true]

variable (own : h.sid = sid)
include own

/-- A new request with a bad header is refused with TYPE, and takes its place in the window (R72, R76). -/
theorem request_badHeader (fresh : freshSeq x h.seq = true) (bad : headerBad typ nb h = true) :
    request typ nb h op (tick t s) = answer sid h (opState t h sid s, some (rType 0)) := by
  simp only [request, datagram_taken size relay, tick_frame, ha, mine, touchSession_session hx, own, bne_self_eq_false,
    bad, Bool.false_eq_true, if_false, if_true]
  simp only [opState, touchSession_session hx, Option.getD_some]
  cases hh : x.hi with
  | none => simp [newHigh, renewLease]
  | some hi =>
    by_cases above : seqHigher h.seq hi = true
    · simp [newHigh, above, renewLease]
    · rw [Bool.not_eq_true] at above
      have new : seqBelow hi h.seq ≤ 63 ∧ x.cache.find? (fun e => e.1 == h.seq) = none := by
        simpa [freshSeq, hh, above] using fresh
      simp [newHigh, above, new.1, new.2, renewLease]

variable {hi : Nat} (high : x.hi = some hi) (old : seqHigher h.seq hi = false)
include high old

/-- A request below the window is STALE, with the lowest number of the window (R76). -/
theorem request_stale (below : 63 < seqBelow hi h.seq) : request typ nb h op (tick t s) =
    refusal h (rErr stStale (be 4 ((hi + 4294967296 - 63) % 4294967296))) (lookedUp t h sid s) := by
  simp only [request, datagram_taken size relay, tick_frame, ha, mine, touchSession_session hx, own, bne_self_eq_false,
    high, old, Nat.not_le.2 below, Bool.false_eq_true, if_false]
  rfl

/-- A request in the window that was executed is answered from the cache (R76, R77). -/
theorem request_repeated (inside : seqBelow hi h.seq ≤ 63) {q : Nat × Option Reply}
    (cached : x.cache.find? (fun e => e.1 == h.seq) = some q) : request typ nb h op (tick t s) =
      duplicate sid ((hi + 4294967296 - 63) % 4294967296) h q.2 (lookedUp t h sid s) := by
  simp only [request, datagram_taken size relay, tick_frame, ha, mine, touchSession_session hx, own, bne_self_eq_false,
    high, old, inside, cached, Bool.false_eq_true, if_false, if_true]
  rfl

end

/-! ### The replies -/

theorem canReach_tick (t : Nat) (s : State) (a : Nat) : canReach (tick t s) a = canReach s a :=
  canReach_congr rfl rfl (route_tick t s)

theorem canReach_touchSession (t sid : Nat) (s : State) (a : Nat) :
    canReach (touchSession sid (tick t s)) a = canReach s a :=
  canReach_congr rfl rfl fun _ => route_congr (u := touchSession sid (tick t s)) (s := s) rfl rfl rfl _

theorem canReach_lookedUp (t : Nat) (h : Hdr) (sid : Nat) (s : State) (a : Nat) :
    canReach (lookedUp t h sid s) a = canReach s a :=
  canReach_congr rfl rfl fun _ => route_congr (u := lookedUp t h sid s) (s := s) rfl rfl rfl _

/-- The state in which the reply of a request that was looked at is sent. -/
theorem canReach_answering (t sid : Nat) (h : Hdr) (r : Option Reply) (s : State) (a : Nat) :
    canReach (cacheReply sid h.seq r (opState t h sid s)) a = canReach s a :=
  canReach_congr ((wayOf_cacheReply ..).trans (wayOf_opState ..)) rfl fun _ =>
    route_congr (u := cacheReply sid h.seq r (opState t h sid s)) (s := s) rfl rfl rfl _

/-- A reply of one part leaves as one message, or waits. -/
theorem sendReply_whole_sent {s : State} {aid : Nat} (reach : canReach s aid = true) (tclass sid seq typ : Nat) {r : Reply}
    (parts : r.body.parts = [(0, r.body.bytes)]) (count : r.body.count = 1) :
    IbSent (sendReply aid tclass sid seq typ r s) (.reply sid seq typ 0 1 { r with body := .raw r.body.bytes }) := by
  have sent := sendReply_sent reach tclass sid seq typ r (0, r.body.bytes) (by simp [parts])
  rwa [replyPart, count] at sent

/-- A refusal leaves, or waits. -/
theorem refusal_sent {s : State} {h : Hdr} (reach : canReach s h.assoc = true) (st : Nat) (b : Bytes) :
    IbSent (refusal h (rErr st b) s) (.reply h.sid h.seq h.typ 0 1 { rErr st b with obj := h.obj }) :=
  sendReply_whole_sent reach h.tclass h.sid h.seq h.typ (r := { rErr st b with obj := h.obj }) rfl rfl

/-- A body that is no Survey is one part (R75). -/
theorem parts_of_ne_survey {b : Body} (hb : ∀ n only l, b ≠ .survey n only l) :
    b.parts = [(0, b.bytes)] ∧ b.count = 1 := by
  cases b with
  | survey n only l => exact absurd rfl (hb n only l)
  | _ => exact ⟨rfl, rfl⟩

/-- A cached reply that is no Survey is sent again with DUPLICATE and its first status (R76). -/
theorem duplicate_of_ne_survey {r : Reply} (hb : ∀ n only l, r.body ≠ .survey n only l) (sid lowest : Nat) (h : Hdr)
    (s : State) : duplicate sid lowest h (some r) s =
      sendReply h.assoc h.tclass sid h.seq h.typ { r with status := stDup, first := r.status } s := by
  unfold duplicate
  dsimp only
  split
  · next n only l body => exact absurd body (hb n only l)
  · rfl

/-- A READ answers at once and changes nothing (R34). -/
theorem readOp_answers (h : Hdr) (sid : Nat) (x : Session) (s : State) : ∃ r, readOp h sid x s = (s, some r) := by
  unfold readOp
  dsimp only
  repeat' split
  all_goals exact ⟨_, rfl⟩

/-- What is sent of a READ stands in the next state. -/
theorem runs_read_sent {t : Nat} {h : Hdr} {s v : State} {m : IbMsg} (he : request 1 false h (readOp h) (tick t s) = v)
    (sent : IbSent v m) : Runs (.read t h) s (fun u => IbSent u m) :=
  runs_ended (congrArg (done (tick t s)) he) fun _ hu => hu.sends.ibSent sent

/-- Settles O60: it holds. Each way that a request is taken sends one reply on an association that can be reached, and what is
sent leaves or waits. -/
theorem repliesLeave : Obligations.RepliesLeave := by
  unfold Obligations.RepliesLeave
  refine ⟨?answered, ?badHeader, ?repeated, ?stale, ?otherSession, ?noSession⟩
  case answered =>
    intro t sid h s arr reach
    obtain ⟨r, hr⟩ := readOp_answers h sid (caller t sid s) (opState t h sid s)
    have he : exec (.read t h) s = done (tick t s) (answer sid h (opState t h sid s, some r)) :=
      congrArg (done (tick t s)) ((request_arrives arr).trans (by rw [hr]))
    refine runs_ended he fun u hu => ⟨{ r with obj := h.obj }, ?_, fun q hq => ?_⟩
    · exact hu.answered.2 (answer_some (opState_session (sessions_of_arrives arr) t h) h r).2
    · exact hu.sends.ibSent (sendReply_sent ((canReach_answering ..).trans reach) _ _ _ _ { r with obj := h.obj } q hq)
  case badHeader =>
    intro t sid h a x s size relay ha reach mine hx own _ fresh bad
    refine runs_read_sent (request_badHeader size relay ha mine hx own fresh bad) ?_
    exact sendReply_whole_sent ((canReach_answering ..).trans reach) h.tclass sid h.seq h.typ
      (r := { rType 0 with obj := h.obj }) rfl rfl
  case repeated =>
    intro t sid hi q r h a x s size relay ha reach mine hx own high old inside cached whole
    have notSurvey (n only : Nat) (l : List Bytes) : r.body ≠ .survey n only l := fun body => by simp [body] at whole
    obtain ⟨parts, count⟩ := parts_of_ne_survey notSurvey
    have taken := request_repeated (typ := 1) (nb := false) (t := t) (op := readOp h) size relay ha mine hx own high old
      inside cached
    rw [duplicate_of_ne_survey notSurvey] at taken
    have he : exec (.read t h) s = done (tick t s) _ := congrArg (done (tick t s)) taken
    refine runs_ended he fun u hu => ⟨hu.sends.ibSent ?_, hu.answered.2 ?_⟩
    · exact sendReply_whole_sent ((canReach_lookedUp ..).trans reach) h.tclass sid h.seq h.typ
        (r := { r with status := stDup, first := r.status }) parts count
    · have kept : replyFor (lookedUp t h sid s) sid h.seq = some r := by
        simp [replyFor, lookedUp, renewLease, touchSession_session hx, cached]
      rw [Answered, ← kept]
      exact congrFun (congrFun (congrArg Prod.snd (unsent_sendReply ..)) sid) h.seq
  case stale =>
    intro t sid hi h a x s size relay ha reach mine hx own high old below
    exact runs_read_sent (request_stale size relay ha mine hx own high old below)
      (refusal_sent ((canReach_lookedUp ..).trans reach) ..)
  case otherSession =>
    intro t sid h a x s size relay ha reach mine hx other
    exact runs_read_sent (request_otherSession size relay ha mine hx other)
      (refusal_sent ((canReach_touchSession ..).trans reach) ..)
  case noSession =>
    intro t h a s size relay ha reach free
    exact runs_read_sent (request_noSession size relay ha free) (refusal_sent ((canReach_tick ..).trans reach) ..)

end Sys2Proof.Machine
end

section
/-!
PROOFS. What the closing of a step leaves of the units: admission, the radio, the epochs, the tracker and the COMPLETIONs.
-/
namespace Sys2Proof.Machine

open Sys2Proof.Safety

/-- The COMPLETIONs kept, and the number that the next one takes (R84). -/
def completions (s : State) : NMap Completion × Nat := (s.ib.comps, s.ib.compNext)

@[simp] theorem completions_sendIb (aid tclass : Nat) (m : IbMsg) (s : State) :
    completions (sendIb aid tclass m s) = completions s := by
  unfold sendIb
  split
  · dsimp only
    split <;> simp [completions]
  · rfl

@[simp] theorem completions_sendNotice (id : Nat) (b : Sub) (flags changes time obj : Nat) (body : Body) (urgent : Bool)
    (s : State) : completions (sendNotice id b flags changes time obj body urgent s) = completions s := by
  unfold sendNotice
  split
  · rfl
  · rw [completions_sendIb]
    simp [completions]

@[simp] theorem completions_flushSub (id : Nat) (s : State) : completions (flushSub id s) = completions s := by
  unfold flushSub
  split
  · rfl
  · split
    · rfl
    · exact (completions_sendNotice ..).trans rfl

theorem completions_settleSub (s s' acc : State) (p : Nat × Sub) :
    completions (settleSub s s' acc p) = completions acc := by
  unfold settleSub
  split
  · dsimp only
    split
    · rfl
    · split
      · split
        · exact (completions_flushSub ..).trans rfl
        · rfl
      · rfl
  · rfl

@[simp] theorem completions_settle (s s' : State) : completions (settle s s') = completions s' := by
  unfold settle
  split
  · exact foldl_keeps (completions_settleSub s s') ..
  · rfl

/-- What the closing of a step leaves of the state that its command made, its units included. -/
structure Settled (v u : State) : Prop extends Ended v u where
  adm : u.adm = v.adm
  mac : u.mac = v.mac
  epoch : u.epoch = v.epoch
  trk : u.trk = v.trk
  completions : completions u = completions v

theorem runs_settled {c : Instr} {s s0 v : State} {P : State → Prop} (he : exec c s = done s0 v)
    (hP : ∀ u, Settled v u → P u) : Runs c s P := by
  obtain ⟨u, hu, ended⟩ := runs_ended (P := Ended v) he fun _ => id
  refine ⟨u, hu, hP u { ended with adm := ?_, mac := ?_, epoch := ?_, trk := ?_, completions := ?kept }⟩
  all_goals obtain rfl := Host.Outcome.next.inj (hu.symm.trans he)
  case kept => exact completions_settle { s0 with clk := { s0.clk with fab := s0.clk.prev } } v
  all_goals simp

/-- What had left before the closing has left after it. -/
theorem Settled.left {v u : State} (h : Settled v u) {o : Out} (ho : o ∈ v.out) : o ∈ u.out := by
  obtain ⟨x, hx, -⟩ := h.sends.out
  rw [hx]
  exact List.mem_append_right x ho

end Sys2Proof.Machine
end

section
/-!
PROOFS. The state of links and paths (R116, R145, R146, R147), and the settlement of O23.
-/
namespace Sys2Proof.Machine

open Sys2Proof.Safety

/-! ### Clusters, nodes and transceivers -/

@[simp] theorem clOf_updCl_same (c : Nat) (f : Cluster → Cluster) (s : State) : clOf (updCl c f s) c = f (clOf s c) :=
  mgetD_mupd_same ..

@[simp] theorem nodeOf_updNode_same (n : Nat) (f : Node → Node) (s : State) : nodeOf (updNode n f s) n = f (nodeOf s n) :=
  mgetD_mupd_same ..

theorem clOf_of_mac {s u : State} (h : u.mac = s.mac) (c : Nat) : clOf u c = clOf s c := by rw [clOf, clOf, h]

theorem nodeOf_of_mac {s u : State} (h : u.mac = s.mac) (n : Nat) : nodeOf u n = nodeOf s n := by rw [nodeOf, nodeOf, h]

/-! ### Shocks (R116) -/

@[simp] theorem gourFaults_mac (l : Lane) (a r : Nat) (b : Arb) (s : State) : (gourFaults l a r b s).mac = s.mac := by
  unfold gourFaults gourAlarmLine
  dsimp only
  repeat' split
  all_goals simp

/-- A withdrawn request of an air arbiter is the arbiters' own affair. -/
@[simp] theorem airDrop_mac (x r : Nat) (s : State) : (airDrop x r s).mac = s.mac := by
  refine foldl_keeps (part := State.mac) (fun s l => ?_) ..
  dsimp only
  split <;> simp

theorem clearShock_mac (n : Nat) (s : State) : (clearShock n s).mac =
    (updMac (fun m => { m with probes := m.probes.filter (fun k => k != n) })
      (updNode n (fun x => { x with shock := none }) s)).mac := by
  unfold clearShock
  dsimp only
  split
  · rfl
  · refine foldl_keeps (part := State.mac) (fun s alt => ?_) ..
    split
    · rfl
    · exact airDrop_mac ..

theorem nodeOf_clearShock (n : Nat) (s : State) : nodeOf (clearShock n s) n = { nodeOf s n with shock := none } := by
  rw [nodeOf_of_mac (clearShock_mac n s)]
  exact nodeOf_updNode_same n (fun x => { x with shock := none }) s

theorem notMem_probes_clearShock (n : Nat) (s : State) : n ∉ (clearShock n s).mac.probes := by
  rw [clearShock_mac]
  simp [updMac]

/-! ### Paths (R147) -/

theorem swapPath_mac (c dir : Nat) (s : State) : (swapPath c dir s).mac =
    (updCl c (fun k => { k with servingAlt := !k.servingAlt, swaps := k.swaps + 1, swapDue := false, backDue := false,
                                restoreRun := 0 }) s).mac := by
  simp [swapPath]

theorem clOf_swapPath (c dir : Nat) (s : State) : clOf (swapPath c dir s) c =
    { clOf s c with servingAlt := !(clOf s c).servingAlt, swaps := (clOf s c).swaps + 1, swapDue := false, backDue := false,
                    restoreRun := 0 } :=
  (clOf_of_mac (swapPath_mac c dir s) c).trans (clOf_updCl_same c _ s)

/-- A record is no fault: no sticky bit moves. -/
theorem record_sticky (typ sev source : Nat) (p : Bytes) (s : State) :
    (record typ sev source p s).dict.sticky = s.dict.sticky := by
  unfold record submitRec
  dsimp only
  repeat' split
  · rfl
  · simp only [cntUp_frame]
    rfl
  · simp only [syncDrain_frame]

theorem swapPath_sticky (c dir : Nat) (s : State) : (swapPath c dir s).dict.sticky = s.dict.sticky := record_sticky ..

/-! ### Supervision (R146) -/

@[simp] theorem lostRecord_mac (n st : Nat) (s : State) : (lostRecord n st s).mac = s.mac := by simp [lostRecord]

/-- Settles O23: it holds. Each clause is the one change that its command makes of a node or a cluster; what is logged,
recorded and withdrawn beside it leaves the radio's state alone. -/
theorem linkState : Obligations.LinkState := by
  unfold Obligations.LinkState
  refine ⟨?shock, ?echo, ?swap, ?back, ?lost⟩
  case shock =>
    intro t n f k s shocked due
    have he : exec (.shockTimeout t n) s = done (tick t s) (clearShock n (tick t s)) := by
      have shocked : (nodeOf (tick t s) n).shock = some (f, k) := shocked
      change done _ (match (nodeOf (tick t s) n).shock with | some (f, _) => _ | none => _) = _
      rw [shocked]
      exact congrArg (done _) (if_pos due)
    refine runs_settled he fun u hu => ⟨?_, ?_⟩
    · rw [nodeOf_of_mac hu.mac, nodeOf_clearShock]
    · rw [hu.mac]
      exact notMem_probes_clearShock n _
  case echo =>
    intro t c s used joined
    refine runs_settled (congrArg (done (tick t s)) (if_neg ?_)) fun u hu => ?_
    · have used : inUse (tick t s) c.val = true := used
      have joined : members (tick t s) c.val ≠ [] := joined
      simp [used, joined]
    · rw [clOf_of_mac hu.mac, clOf_updCl_same]
      exact ⟨rfl, rfl⟩
  case swap =>
    intro t c s due used
    refine runs_settled (congrArg (done (tick t s)) (if_pos (Bool.and_eq_true_iff.2 ⟨due, used⟩))) fun u hu => ?_
    have mac : u.mac = (swapPath c.val 0 (tick t s)).mac := hu.mac.trans (by simp)
    rw [clOf_of_mac mac, clOf_swapPath, hu.dict]
    exact ⟨rfl, rfl, rfl, stickySet_getLsbD_same (by decide) ..⟩
  case back =>
    intro t c s due used
    refine runs_settled (congrArg (done (tick t s)) (if_pos (Bool.and_eq_true_iff.2 ⟨due, used⟩))) fun u hu => ?_
    rw [clOf_of_mac hu.mac, clOf_swapPath, hu.dict]
    exact ⟨rfl, rfl, rfl, swapPath_sticky ..⟩
  case lost =>
    intro t n c s home joined silent
    have he : exec (.supervisionExpiry t n) s =
        done (tick t s) (lostRecord n 2 (updNode n (fun k => { k with joined := 2 }) (tick t s))) := by
      have home : dirCluster (tick t s) n = some c := home
      change done _ (match dirCluster (tick t s) n with | some c => _ | none => _) = _
      rw [home]
      exact congrArg (done _) (if_pos ⟨joined, silent⟩)
    refine runs_settled he fun u hu => ?_
    have mac := hu.mac.trans (lostRecord_mac ..)
    rw [nodeOf_of_mac mac, nodeOf_updNode_same]

end Sys2Proof.Machine
end

section
/-!
PROOFS. What the radio and the epochs leave of the lanes: everything but their counters and interrupt controllers.
-/
namespace Sys2Proof.Machine

open Sys2Proof.Safety

/-- A lane but for its counters and its interrupt controller. -/
def LaneSt.bare (x : LaneSt) : LaneSt := { x with cnt := [], icu := LaneSt.init.icu }

/-- Both lanes but for their counters and their interrupt controllers. -/
def Pair.bare (p : Pair LaneSt) : LaneSt × LaneSt := (p.a.bare, p.b.bare)

theorem role_of_bare {s u : State} (h : u.lanes.bare = s.lanes.bare) (l : Lane) :
    (u.lanes.get l).role = (s.lanes.get l).role := by
  cases l
  · exact (congrArg (fun p => p.1.role) h :)
  · exact (congrArg (fun p => p.2.role) h :)

theorem active_of_bare {s u : State} (h : u.lanes.bare = s.lanes.bare) : active u = active s :=
  active_of_roles (role_of_bare h .A) (role_of_bare h .B)

@[simp] theorem ite_bare {c : Prop} [Decidable c] (s u : State) :
    (if c then s else u).lanes.bare = if c then s.lanes.bare else u.lanes.bare :=
  apply_ite (fun s : State => s.lanes.bare) c s u

@[simp] theorem foldl_bare {β : Type} {f : State → β → State} (h : ∀ s b, (f s b).lanes.bare = s.lanes.bare) (l : List β)
    (s : State) : (l.foldl f s).lanes.bare = s.lanes.bare := foldl_keeps (part := fun s => s.lanes.bare) h l s

@[simp] theorem updLane_bare {l : Lane} {f : LaneSt → LaneSt} (h : ∀ x, (f x).bare = x.bare) (s : State) :
    (updLane l f s).lanes.bare = s.lanes.bare := by
  cases l <;> simp [Pair.bare, Pair.upd, Pair.put, Pair.get, h]

@[simp] theorem cntUpAt_bare (n r c k : Nat) (s : State) : (cntUpAt n r c k s).lanes.bare = s.lanes.bare := by
  have counted (l : Lane) (s : State) : (cntLane l n r c k s).lanes.bare = s.lanes.bare :=
    updLane_bare (by exact fun _ => rfl) s
  simp [cntUpAt, counted]

@[simp] theorem cntUp_bare (n : Nat) (s : State) : (cntUp n s).lanes.bare = s.lanes.bare := by simp [cntUp]

@[simp] theorem icuRaise_bare (n : Nat) (s : State) : (icuRaise n s).lanes.bare = s.lanes.bare :=
  (updLane_bare (by exact fun _ => rfl) _).trans (updLane_bare (by exact fun _ => rfl) s)

@[simp] theorem record_bare (typ sev source : Nat) (payload : Bytes) (s : State) :
    (record typ sev source payload s).lanes.bare = s.lanes.bare := by simp [record, submitRec]

/-! ### The gate and the bookings -/

@[simp] theorem ledgerPut_bare (x ch sf : Nat) (f : Bucket → Bucket) (s : State) :
    (ledgerPut x ch sf f s).lanes.bare = s.lanes.bare := by simp [ledgerPut]
@[simp] theorem gateReserve_bare (x ch sf dur : Nat) (s : State) :
    (gateReserve x ch sf dur s).lanes.bare = s.lanes.bare := by simp [gateReserve]
@[simp] theorem gateRelease_bare (x ch sf dur : Nat) (s : State) :
    (gateRelease x ch sf dur s).lanes.bare = s.lanes.bare := by simp [gateRelease]
@[simp] theorem gateUse_bare (x ch sf dur : Nat) (s : State) : (gateUse x ch sf dur s).lanes.bare = s.lanes.bare := by
  simp [gateUse]
@[simp] theorem dropBookings_bare (p : Booking → Bool) (s : State) : (dropBookings p s).lanes.bare = s.lanes.bare := by
  simp [dropBookings]
@[simp] theorem loseBooking_bare (b : Booking) (s : State) : (loseBooking b s).lanes.bare = s.lanes.bare := by
  simp [loseBooking]

theorem bcastEach_bare {f : Nat → Nat → Nat → Nat → State → State}
    (h : ∀ x ch sf dur s, (f x ch sf dur s).lanes.bare = s.lanes.bare) (sf x : Nat) (s : State) :
    (bcastEach f sf x s).lanes.bare = s.lanes.bare := by
  refine foldl_bare (fun s a => ?_) _ s
  split
  · exact h ..
  · rfl

@[simp] theorem bcastReserve_bare (sf : Nat) (s : State) : (bcastReserve sf s).lanes.bare = s.lanes.bare := by
  simp [bcastReserve, bcastEach_bare gateReserve_bare]
@[simp] theorem bcastUnreserve_bare (sf : Nat) (s : State) : (bcastUnreserve sf s).lanes.bare = s.lanes.bare := by
  simp [bcastUnreserve, bcastEach_bare gateRelease_bare]

@[simp] theorem rechannel_bare (s : State) : (rechannel s).lanes.bare = s.lanes.bare := by
  refine foldl_bare (fun s b => ?_) _ s
  dsimp only
  split
  · split <;> simp
  · exact loseBooking_bare ..

/-! ### A change of epoch, a broadcast frame -/

@[simp] theorem switchEpoch_bare (s : State) : (switchEpoch s).lanes.bare = s.lanes.bare := by simp [switchEpoch]
@[simp] theorem endVerify_bare (s : State) : (endVerify s).lanes.bare = s.lanes.bare := by simp [endVerify]
@[simp] theorem verifyDone_bare (s : State) : (verifyDone s).lanes.bare = s.lanes.bare := by simp [verifyDone]
@[simp] theorem beaconsResume_bare (a : Nat) (s : State) : (beaconsResume a s).lanes.bare = s.lanes.bare := by
  simp [beaconsResume]
@[simp] theorem floorsOwed_bare (n : Nat) (s : State) : (floorsOwed n s).lanes.bare = s.lanes.bare := by simp [floorsOwed]
@[simp] theorem joined_bare (n : Nat) (s : State) : (joined n s).lanes.bare = s.lanes.bare := by simp [joined, joinFloors]

@[simp] theorem joinPart_bare (j : Join) (s : State) : (joinPart j s).1.lanes.bare = s.lanes.bare := by
  unfold joinPart
  dsimp only
  repeat' split
  all_goals simp

@[simp] theorem guardArgs_bare (endpoints func : Nat) (args : Bytes) (nodes : List Nat) (s : State) :
    (guardArgs endpoints func args nodes s).1.lanes.bare = s.lanes.bare := by
  fun_cases guardArgs <;> rfl

@[simp] theorem copyPayload_bare (c : GroupCopy) (s : State) : (copyPayload c s).1.lanes.bare = s.lanes.bare := by
  unfold copyPayload
  dsimp only
  split <;> simp

@[simp] theorem trajDue_bare (x a : Nat) (s : State) : (trajDue x a s).1.lanes.bare = s.lanes.bare := by
  unfold trajDue
  dsimp only
  split <;> simp

@[simp] theorem bcastPayload_bare (x a : Nat) (s : State) : (bcastPayload x a s).1.lanes.bare = s.lanes.bare := by
  unfold bcastPayload
  dsimp only
  repeat' split
  all_goals simp

@[simp] theorem urgOwners_bare (x : Nat) (l : List Nat) (s : State) : (urgOwners x l s).1.lanes.bare = s.lanes.bare := by
  induction l generalizing s with
  | nil => rfl
  | cons a r ih =>
    simp only [urgOwners, ih]
    split <;> simp

@[simp] theorem startupMark_bare (col : Nat) (s : State) : (startupMark col s).lanes.bare = s.lanes.bare := by
  unfold startupMark
  split
  · rfl
  · split <;> rfl

/-! ### A cluster frame -/

@[simp] theorem moveKey_bare (c : Nat) (s : State) : (moveKey c s).lanes.bare = s.lanes.bare := by simp [moveKey]
@[simp] theorem nextCounter_bare (c : Nat) (s : State) : (nextCounter c s).lanes.bare = s.lanes.bare := by
  simp [nextCounter]

end Sys2Proof.Machine
end

section
/-!
PROOFS. Positions, answers, superframes and blank channels (R103, R123, R130, R136, R141, R156, R190), and the settlement of
O22.
-/
namespace Sys2Proof.Machine

open Sys2Proof.Safety

/-! ### A frame leaves -/

/-- A frame on the air waits for no comparison (R282): with an active lane it leaves at once. -/
theorem emit_radio {s : State} (ha : (active s).isSome = true) (x a ch : Nat) (f : Air) (p : Bytes) :
    .radio x a ch f p ∈ (emit (.radio x a ch f p) s).out := by
  obtain ⟨o, rfl | ⟨_, _, _, _, _, _, ho, _⟩, out⟩ := emit_out ha (rfl : (heldBack (.radio x a ch f p) && _) = false)
  · simp [out]
  · cases ho

theorem keyBroadcast_leaves {x a ch : Nat} {s : State} (ha : (active s).isSome = true)
    (chan : chanBcast (beaconsResume a s) x a = some ch) (fits : beaconFits x a ch s = true) :
    ∃ v flags own pl p, .radio x a ch (beaconAt v x a flags own pl) p ∈ (keyBroadcast x a s).out := by
  unfold beaconFits at fits
  simp only [keyBroadcast, chan, fits, Bool.not_true, Bool.false_eq_true, if_false]
  refine ⟨_, _, _, _, _, emit_radio ?_ ..⟩
  rwa [active_of_bare (s := s) (by simp)]

theorem keyCluster_leaves {s : State} (ha : (active s).isSome = true) (x a n ch dur : Nat) (e : Expect) (f : Air) :
    ∃ p, .radio x a ch f p ∈ (keyCluster x a n ch dur e f s).out := by
  refine ⟨_, emit_radio ?_ ..⟩
  rwa [active_of_bare (s := s) (by simp)]

theorem keyBooked_leaves {b : Booking} {k : Ticket} {s : State} (ha : (active s).isSome = true)
    (hk : ticketOf s b.ticket = some k) (whole : b.seg = none) (lacking : missing k b.cluster ≠ [])
    (room : gateBooked s b.xcvr b.chan (b.asn / 256) = true) :
    ∃ ev cfs ex sq bits ep fn args alt p,
      .radio b.xcvr b.asn b.chan (.command b.cluster ev cfs ex sq bits ep fn args alt) p ∈ (keyBooked b s).out := by
  have lacking : (missing k b.cluster).isEmpty = false := by simpa using lacking
  simp only [keyBooked, hk, whole, lacking, room, Bool.not_true, Bool.false_eq_true, if_false]
  refine ⟨_, _, _, _, _, _, _, _, _, keyCluster_leaves ?_ ..⟩
  rwa [active_of_bare (s := s) (by simp)]

/-! ### What a position carries (R123) -/

/-- What a position carries whose transceiver may be keyed, with the booking that is due there (R103, R123). -/
def carried (x a : Nat) (due : Option Booking) (s : State) : State :=
  match roleAt s x a with
  | .broadcast => keyBroadcast x a s
  | .interior => s
  | .join => s
  | .urgent => due.elim (keyUnbooked x a s) (keyBooked · s)
  | .cluster => due.elim (keyUnbooked x a s) (keyBooked · s)

/-- With the radio up, a transceiver in service, prompt and idle is keyed (R21, R123). -/
theorem exec_slotPosition {t : Nat} {x : Fin 4} {s : State} (turn : (isQ s x.val && asn (tick t s) % 2 == 1) = false)
    (up : radioUp s = true) (serves : inService s x.val = true) (prompt : (xOf s x.val).lateAsn ≠ some (asn (tick t s)))
    (idle : (xOf s x.val).busy ≤ asn (tick t s)) :
    exec (.slotPosition t x) s = done (tick t s) (carried x.val (asn (tick t s))
      (s.adm.bookings.find? (fun b => b.xcvr == x.val && b.asn == asn (tick t s) && !b.sent))
      (icuRaise (64 + x.val) (tick t s))) := by
  have turn : (isQ (tick t s) x.val && asn (tick t s) % 2 == 1) = false := turn
  have up : radioUp (icuRaise (64 + x.val) (tick t s)) = true := up
  have serves : inService (icuRaise (64 + x.val) (tick t s)) x.val = true := serves
  have prompt : (xOf (icuRaise (64 + x.val) (tick t s)) x.val).lateAsn ≠ some (asn (tick t s)) := prompt
  have idle : ¬ asn (tick t s) < (xOf (icuRaise (64 + x.val) (tick t s)) x.val).busy := Nat.not_lt.2 idle
  change execSlotPosition t x s = _
  simp only [execSlotPosition, turn, up, serves, prompt, idle, tick_frame, Bool.not_true, Bool.or_false,
    Bool.false_eq_true, if_false, carried]
  cases s.adm.bookings.find? (fun b => b.xcvr == x.val && b.asn == asn (tick t s) && !b.sent) <;> rfl

theorem active_of_radioUp {s : State} (h : radioUp s = true) : (active s).isSome = true := by
  simp only [radioUp, Bool.and_eq_true] at h
  obtain ⟨⟨ha, -⟩, -⟩ := h
  exact ha

/-! ### Answers (R141) -/

theorem xOf_of_mac {s u : State} (h : u.mac = s.mac) (x : Nat) : xOf u x = xOf s x := by rw [xOf, xOf, h]

theorem lget_of_length_le {α : Type} {l : List α} {i : Nat} (h : l.length ≤ i) (d : α) : lget l i d = d := by
  induction l generalizing i with
  | nil => rfl
  | cons x r ih =>
    cases i with
    | zero => exact absurd h (by simp)
    | succ i => exact ih (by simpa using h)

/-- A transceiver that expects an answer is one of the module's. -/
theorem xcvr_of_expect {s : State} {x : Nat} {e : Expect} (h : e ∈ (xOf s x).expect) : x < s.mac.xcvrs.length := by
  by_contra none
  rw [xOf, lget_of_length_le (Nat.le_of_not_lt none)] at h
  exact absurd h List.not_mem_nil

theorem xOf_updX_same {x : Nat} {s : State} (h : x < s.mac.xcvrs.length) (f : Xcvr → Xcvr) :
    xOf (updX x f s) x = f (xOf s x) := lget_lmod_same _ _ _ _ h

@[simp] theorem heardFrom_xcvrs (n : Nat) (s : State) : (heardFrom n s).mac.xcvrs = s.mac.xcvrs := by
  unfold heardFrom
  dsimp only
  split
  · rw [lostRecord_mac]
    rfl
  · rfl

theorem controlAnswer_xcvrs (e : Expect) (ack : Bool) (n : Nat) (s : State) :
    (controlAnswer e ack n s).mac.xcvrs = s.mac.xcvrs := by
  unfold controlAnswer
  repeat' split
  all_goals rfl

/-- What a member answers changes no transceiver. -/
theorem memberEntry_xcvrs (e : Expect) (det : List (Nat × Bool)) (s : State) (n : Nat) :
    (memberEntry e det s n).mac.xcvrs = s.mac.xcvrs := by
  unfold memberEntry
  dsimp only
  split
  · rfl
  · split
    · rw [controlAnswer_xcvrs, heardFrom_xcvrs]
      rfl
    · rw [heardFrom_xcvrs]
      rfl

/-- What the answers to an ECHO leave before its path is marked (R141). -/
def echoEntered (x : Nat) (codes : List CodeObs) (e : Expect) (s : State) : State :=
  let v := cntUpAt 0x400F1 x 4 (detected codes).length
    (updX x (fun k => { k with expect := k.expect.filter (fun y => y != e) }) s)
  (members v e.cluster).foldl (memberEntry e (detected codes)) v

theorem exec_ackField_echo {t : Nat} {x : Fin 4} {codes : List CodeObs} {e : Expect} {s : State}
    (found : (xOf s x.val).expect.find? (fun e => e.last + 1 == asn (tick t s)) = some e) (kind : e.kind = .echo)
    (func : e.func = 0) (heard : detected codes ≠ []) :
    exec (.ackField t x codes) s = done (tick t s)
      (updCl e.cluster (fun k => if e.alt then { k with hitAlt := true } else { k with hitPri := true })
        (echoEntered x.val codes e (tick t s))) := by
  have found : (xOf (tick t s) x.val).expect.find? (fun e => e.last + 1 == asn (tick t s)) = some e := found
  have heard : (detected codes).isEmpty = false := by simpa using heard
  change execAckField t x codes s = _
  simp [execAckField, found, kind, func, heard, echoEntered]

theorem xOf_echoEntered {x : Nat} {codes : List CodeObs} {e : Expect} {s : State} (h : x < s.mac.xcvrs.length) :
    (xOf (echoEntered x codes e s) x).expect = (xOf s x).expect.filter (fun y => y != e) := by
  have kept : (echoEntered x codes e s).mac.xcvrs =
      (updX x (fun k => { k with expect := k.expect.filter (fun y => y != e) }) s).mac.xcvrs := by
    refine (foldl_keeps (part := fun s => s.mac.xcvrs) (memberEntry_xcvrs e (detected codes)) ..).trans ?_
    simp
  rw [xOf, kept]
  exact congrArg Xcvr.expect (xOf_updX_same h _)

/-! ### Superframes (R147, R190) -/

@[simp] theorem sumSample_frame (q : Nat) (v : Int) (s : State) :
    (sumSample q v s).clk = s.clk ∧ (sumSample q v s).mac = s.mac ∧ (sumSample q v s).adm = s.adm := by
  refine ⟨foldl_keeps (part := State.clk) ?_ .., foldl_keeps (part := State.mac) ?_ .., foldl_keeps (part := State.adm) ?_ ..⟩
  all_goals
    intro s r
    unfold sumRow
    dsimp only
    split <;> rfl

theorem foldl_blank {β : Type} {f : State → β → State} (h : ∀ s b, (f s b).mac.blank = s.mac.blank) (l : List β)
    (s : State) : (l.foldl f s).mac.blank = s.mac.blank := foldl_keeps (part := fun s => s.mac.blank) h l s

theorem updX_blank (x : Nat) (f : Xcvr → Xcvr) (s : State) : (updX x f s).mac.blank = s.mac.blank := rfl

theorem gateReserve_blank (x ch sf dur : Nat) (s : State) : (gateReserve x ch sf dur s).mac.blank = s.mac.blank := by
  unfold gateReserve ledgerPut
  exact (foldl_blank (by exact fun _ _ => rfl) ..).trans rfl

/-- Reservations of broadcast frames decide no blank channel. -/
theorem bcastReserve_blank (sf : Nat) (s : State) : (bcastReserve sf s).mac.blank = s.mac.blank := by
  have each (x : Nat) (s : State) : (bcastEach gateReserve sf x s).mac.blank = s.mac.blank := by
    unfold bcastEach
    refine foldl_blank (fun s a => ?_) _ s
    split
    · exact gateReserve_blank ..
    · rfl
  unfold bcastReserve
  refine foldl_blank (fun s x => ?_) _ s
  split
  · rw [updX_blank, each]
  · rfl

theorem blankNext_current {s : State} {band : Nat} {b : Blank} (hb : (if band = 0 then s.mac.blank.a else s.mac.blank.b) = b)
    (now : b.base = frame s) : (blankNext s band).cur = b.next ∧ (blankNext s band).closedCur = b.closedNext := by
  have later : frame s + 1 + 1 ≠ frame s := by omega
  simp [blankNext, blankOf, closedOf, hb, now, later]

theorem frame_of_clk {s u : State} (h : u.clk = s.clk) : frame u = frame s := by
  rw [frame, frame, asn, asn, h]

theorem sampleBooked_frame (s : State) :
    (sampleBooked s).clk = s.clk ∧ (sampleBooked s).mac = s.mac ∧ (sampleBooked s).adm = s.adm := by
  refine ⟨foldl_keeps (part := State.clk) (fun s c => ?_) [1, 2, 3, 4] s,
    foldl_keeps (part := State.mac) (fun s c => ?_) [1, 2, 3, 4] s,
    foldl_keeps (part := State.adm) (fun s c => ?_) [1, 2, 3, 4] s⟩
  all_goals simp only [sumSample_frame]

/-- Classing the paths of clusters moves neither the clock nor the superframe remembered. -/
theorem foldl_classPaths (l : List Nat) (s : State) :
    (l.foldl classPaths s).clk = s.clk ∧ (l.foldl classPaths s).mac.lastFrame = s.mac.lastFrame :=
  ⟨foldl_keeps (part := State.clk) (by exact fun _ _ => rfl) l s,
    foldl_keeps (part := fun s => s.mac.lastFrame) (by exact fun _ _ => rfl) l s⟩

/-- A superframe begins (R133, R147): it is sampled, and the paths of its clusters are classed. -/
def classed (s : State) : State :=
  let s := icuRaise 72 (sampleBooked (updMac (fun m => { m with lastFrame := frame s }) s))
  (clustersIn s).foldl classPaths s

/-- Bookings that passed without being sent are counted (R133). -/
def unsentCounted (s : State) : State :=
  cntUpAt 0x50016 0 0 ((s.adm.bookings.filter (fun b => decide (b.asn + b.len ≤ asn s))).filter (fun b => !b.sent)).length s

/-- What is booked for past superframes goes. -/
def bookingsPruned (s : State) : State :=
  updAdm (fun m => { m with bookings := m.bookings.filter (fun b => !decide (b.asn / 256 < frame s)) }) s

/-- What is reserved and charged for past superframes goes, and the broadcast keys move (R153). -/
def ledgersPruned (s : State) : State :=
  let s := pruneLedgers (bcastRatchet s)
  updMac (fun m => { m with xcvrs := m.xcvrs.map (fun k => { k with bres := k.bres.filter (fun f => decide (frame s ≤ f)) }) }) s

/-- An EPOCH_OPEN that waited takes effect (R180). -/
def openDue (s : State) : State :=
  match s.epoch.openAt with
  | some (a, img) => if a ≤ asn s then openEpoch img s else s
  | none => s

/-- The sets of the epoch are journalled (R190), and zones past their year are marked. -/
def setsKept (s : State) : State :=
  let s := updEp (fun p => { p with kept := (p.staged, p.armed, p.verified) }) s
  condSet 96 0 (zoneStale s) s

/-- A superframe that is not begun begins, stage by stage (R147, R180, R190). -/
theorem exec_superframeBoundary {t : Nat} {s : State} (new : s.mac.lastFrame < frame (tick t s)) :
    exec (.superframeBoundary t) s = done (tick t s)
      (setsKept (openDue (ledgersPruned (bookingsPruned (unsentCounted (classed (tick t s))))))) := by
  have new : ¬ frame (tick t s) ≤ (tick t s).mac.lastFrame := Nat.not_le.2 new
  change execSuperframeBoundary t s = _
  unfold execSuperframeBoundary
  extract_lets s0 s1 s2 past s3 s4 s5 s6
  rw [if_neg new]
  have h2 : s2 = classed s0 := rfl
  change _ = done s0 (setsKept (openDue (ledgersPruned (bookingsPruned (unsentCounted (classed s0))))))
  rw [← h2]
  clear_value s2
  have h3 : s3 = unsentCounted s2 := rfl
  rw [← h3]
  clear_value s3
  have h6 : s6 = ledgersPruned (bookingsPruned s3) := rfl
  rw [← h6]
  clear_value s6
  rfl

theorem setsKept_frame (s : State) : (setsKept s).mac = s.mac ∧ (setsKept s).adm = s.adm := by
  simp only [setsKept, condSet_frame]
  exact ⟨rfl, rfl⟩

theorem setsKept_kept (s : State) :
    (setsKept s).epoch.kept = ((setsKept s).epoch.staged, (setsKept s).epoch.armed, (setsKept s).epoch.verified) := by
  simp only [setsKept, condSet_frame]
  rfl

theorem classed_lastFrame (s : State) : (classed s).mac.lastFrame = frame s := by
  simp [classed, updMac, foldl_classPaths, sampleBooked_frame]

theorem classed_clk (s : State) : (classed s).clk = s.clk := by
  simp [classed, foldl_classPaths, sampleBooked_frame]

theorem ledgersPruned_lastFrame (s : State) :
    (ledgersPruned (bookingsPruned (unsentCounted s))).mac.lastFrame = s.mac.lastFrame := by
  have counted : (unsentCounted s).mac = s.mac := by simp [unsentCounted]
  exact (congrArg Mac.lastFrame counted :)

/-- Pruning leaves no booking of a past superframe. -/
theorem frame_le_of_pruned {s : State} {b : Booking} (h : b ∈ (ledgersPruned (bookingsPruned s)).adm.bookings) :
    frame s ≤ b.asn / 256 := by
  obtain ⟨-, kept⟩ := List.mem_filter.1 h
  simpa using kept

theorem openDue_frame (s : State) : (openDue s).mac = s.mac ∧ (openDue s).adm = s.adm := by
  unfold openDue
  split
  · split <;> exact ⟨rfl, rfl⟩
  · exact ⟨rfl, rfl⟩

/-- Both bands set up for the next superframe (R136). -/
def blanksSet (s : State) : State := updMac (fun m => { m with blank := { a := blankNext s 0, b := blankNext s 1 } }) s

/-- Settles O22: it holds. Each position carries one frame that the keying functions send at once with a lane active; the
answers, the late command, the boundary and the BLANK decision are followed through the fields that they set. -/
theorem slotsAndSuperframes : Obligations.SlotsAndSuperframes := by
  unfold Obligations.SlotsAndSuperframes
  refine ⟨?broadcast, ?cluster, ?answer, ?late, ?boundary, ?blank⟩
  case broadcast =>
    rintro t _ ch x s rfl turn up serves prompt idle role chan fits
    refine runs_settled (exec_slotPosition turn up serves prompt idle) fun u hu => ?_
    have role : roleAt (icuRaise (64 + x.val) (tick t s)) x.val (asn (tick t s)) = .broadcast := role
    have live : (active (icuRaise (64 + x.val) (tick t s))).isSome = true := active_of_radioUp up
    obtain ⟨v, flags, own, pl, p, sent⟩ := keyBroadcast_leaves live chan fits
    refine ⟨beaconAt v x.val (asn (tick t s)) flags own pl, p, hu.left ?_, rfl⟩
    rw [carried, role]
    exact sent
  case cluster =>
    intro t x b k s turn up serves prompt idle role due ticket whole lacking room
    refine runs_settled (exec_slotPosition turn up serves prompt idle) fun u hu => ?_
    have role : roleAt (icuRaise (64 + x.val) (tick t s)) x.val (asn (tick t s)) = .cluster := role
    have live : (active (icuRaise (64 + x.val) (tick t s))).isSome = true := active_of_radioUp up
    obtain ⟨ev, cfs, ex, sq, bits, ep, fn, args, alt, p, sent⟩ :=
      keyBooked_leaves (s := icuRaise (64 + x.val) (tick t s)) live ticket whole lacking room
    refine ⟨.command b.cluster ev cfs ex sq bits ep fn args alt, p, hu.left ?_, rfl⟩
    rw [carried, role, due]
    exact sent
  case answer =>
    intro t x codes e s found kind func heard
    refine runs_settled (exec_ackField_echo found kind func heard) fun u hu => ⟨?_, ?_⟩
    · rw [xOf_of_mac hu.mac]
      exact xOf_echoEntered (xcvr_of_expect (List.mem_of_find?_eq_some found))
    · rw [clOf_of_mac hu.mac, clOf_updCl_same]
      cases e.alt <;> rfl
  case late =>
    intro t x s serves present
    have serves : ¬ (!inService (tick t s) x.val) = true := by
      rw [show inService (tick t s) x.val = true from serves]
      decide
    refine runs_settled (congrArg (done (tick t s)) (if_neg serves)) fun u hu => ?_
    have mac : u.mac = (updX x.val (fun k => { k with lateAsn := some (asn (tick t s) + 1) }) (tick t s)).mac :=
      hu.mac.trans (by simp)
    rw [xOf_of_mac mac, xOf_updX_same (by exact present)]
  case boundary =>
    intro t s new
    refine runs_settled (exec_superframeBoundary new) fun u hu => ?_
    have now : frame (classed (tick t s)) = frame (tick t s) := frame_of_clk (classed_clk _)
    refine ⟨?_, fun b hb => ?_, ?_⟩
    · rw [hu.mac, (setsKept_frame _).1, (openDue_frame _).1]
      exact (ledgersPruned_lastFrame _).trans (classed_lastFrame _)
    · rw [hu.adm, (setsKept_frame _).2, (openDue_frame _).2] at hb
      rw [← now]
      refine (le_of_eq (frame_of_clk ?_)).trans (frame_le_of_pruned hb)
      simp [unsentCounted]
    · rw [hu.epoch]
      exact setsKept_kept _
  case blank =>
    intro t s fresh
    have he : exec (.blankDecision t) s = done (tick t s)
        (bcastReserve (frame (blanksSet (tick t s)) + 2) (blanksSet (tick t s))) :=
      congrArg (done (tick t s)) (if_neg fresh)
    refine runs_settled he fun u hu => ?_
    have decided : u.mac.blank = (blanksSet (tick t s)).mac.blank := by rw [hu.mac, bcastReserve_blank]
    rw [decided]
    exact ⟨rfl, rfl, fun now => blankNext_current (if_pos rfl) now, fun now => blankNext_current (if_neg (by decide)) now⟩

end Sys2Proof.Machine
end

section
/-!
PROOFS. What admission makes of a command that it accepts (R108, R111): its bookings, its ticket; and the settlement of O20.
-/
namespace Sys2Proof.Machine

open Sys2Proof.Safety

/-! ### Placement (R107) -/

/-- Of the state, only the bookings and what the radio keeps may have changed. -/
def BooksOnly (s u : State) : Prop := ∃ b m, u = { s with adm := { s.adm with bookings := b }, mac := m }

theorem BooksOnly.refl (s : State) : BooksOnly s s := ⟨s.adm.bookings, s.mac, rfl⟩

theorem BooksOnly.trans {s u v : State} : BooksOnly s u → BooksOnly u v → BooksOnly s v := by
  rintro ⟨_, _, rfl⟩ ⟨b, m, rfl⟩
  exact ⟨b, m, rfl⟩

theorem BooksOnly.ib {s u : State} : BooksOnly s u → u.ib = s.ib := by
  rintro ⟨_, _, rfl⟩
  rfl

theorem BooksOnly.lanes {s u : State} : BooksOnly s u → u.lanes = s.lanes := by
  rintro ⟨_, _, rfl⟩
  rfl

theorem BooksOnly.updMac (f : Mac → Mac) (s : State) : BooksOnly s (updMac f s) := ⟨s.adm.bookings, f s.mac, rfl⟩

theorem BooksOnly.foldl {β : Type} {f : State → β → State} (h : ∀ s b, BooksOnly s (f s b)) (l : List β) (s : State) :
    BooksOnly s (l.foldl f s) := by
  induction l generalizing s with
  | nil => exact .refl s
  | cons b r ih => exact (h s b).trans (ih _)

theorem book_booksOnly (b : Booking) (s : State) : BooksOnly s (book b s) := by
  have booked : BooksOnly s (updAdm (fun m => { m with bookings := m.bookings ++ [b] }) s) := ⟨_, s.mac, rfl⟩
  exact booked.trans ((BooksOnly.updMac ..).trans (.foldl (fun _ _ => .updMac ..) ..))

theorem placeFrames_booksOnly {tk cls deadline : Nat} {policy share : Bool} {c j a : Nat} {alt : Bool}
    {fr : List (Nat × Option Seg)} {last : Nat} {first : Option Nat} {s u : State} {st en : Nat}
    (h : placeFrames tk cls deadline policy share c j a alt fr last first s = some (u, st, en)) : BooksOnly s u := by
  induction fr generalizing last first s with
  | nil =>
    obtain ⟨rfl, -⟩ := Prod.mk.inj (Option.some.inj h)
    exact .refl s
  | cons p r ih =>
    simp only [placeFrames] at h
    split at h
    · cases h
    · split at h
      · cases h
      · exact (book_booksOnly ..).trans (ih h)

theorem placeAttempts_booksOnly (tk cls deadline : Nat) (policy share : Bool) (c : Nat) (fr : List (Nat × Option Seg))
    (k j a e : Nat) (s : State) : BooksOnly s (placeAttempts tk cls deadline policy share c fr k j a e s).1 := by
  induction k generalizing j a e s with
  | zero => exact .refl s
  | succ k ih =>
    unfold placeAttempts
    split
    · exact .refl s
    · next placed => exact (placeFrames_booksOnly placed).trans (ih ..)

theorem foldl_fst_booksOnly {α β : Type} {f : State × α → β → State × α} (h : ∀ x b, BooksOnly x.1 (f x b).1) (l : List β)
    (x : State × α) : BooksOnly x.1 (l.foldl f x).1 := by
  induction l generalizing x with
  | nil => exact .refl _
  | cons b r ih => exact (h x b).trans (ih _)

/-- A placement only books. -/
theorem placeAll_booksOnly (tk cls deadline : Nat) (policy share : Bool) (ld : Load) (ts : List Target) (s : State) :
    BooksOnly s (placeAll tk cls deadline policy share ld ts s).1 := by
  refine foldl_fst_booksOnly (fun x c => ?_) _ (s, 0, 0, true)
  exact placeAttempts_booksOnly ..

theorem takeCfs_booksOnly (l : List Nat) (s : State) : BooksOnly s (takeCfs l s).1 := by
  induction l generalizing s with
  | nil => exact .refl s
  | cons c r ih => exact (BooksOnly.updMac _ s).trans (ih _)

/-! ### The decision (R108, R111) -/

/-- The ticket table holds a command's ticket open. -/
def HoldsTicket (m : Admission) (tk obj cls due : Nat) (client : Bytes) (ld : Load) : Prop :=
  ∃ row k, mget m.tickets row = some k ∧ k.id = tk ∧ k.state = 1 ∧ k.obj = obj ∧ k.dclass = cls ∧ k.client = client ∧
    k.deadline = due ∧ k.frame = ld.frame ∧ k.job = ld.job

/-- The entry in the table, the counts, the copies and the journal concern neither the sessions nor a lane's role. -/
theorem opened_frame {s u : State} (placed : BooksOnly s u) (e : JEntry) (f : Mac → Mac) (g : Admission → Admission) :
    (journal e (updMac f (updAdm g (ropUp 0x50020 1 (cntUp 0x50011 u))))).ib = s.ib ∧
      (journal e (updMac f (updAdm g (ropUp 0x50020 1 (cntUp 0x50011 u))))).lanes.bare = s.lanes.bare := by
  have ib : (cntUp 0x50011 u).ib = s.ib := by rw [← placed.ib]; simp
  have lanes : (cntUp 0x50011 u).lanes.bare = s.lanes.bare := by rw [← placed.lanes, cntUp_bare]
  exact ⟨ib, lanes⟩

/-- A command that admission accepts has its ticket in the table, and neither its session nor a lane's role notices. -/
theorem decideAdmission_accepts {obj cls deadline tk : Nat} {tclass : Option Nat} {who : Submitter} {d : Desc} {ld : Load}
    {s v : State} (h : decideAdmission obj cls tclass deadline who d ld s = (v, .inr tk)) :
    HoldsTicket v.adm tk obj cls (s.clk.fab + deadline * Config.msCycles) who.client ld ∧ v.ib = s.ib ∧
      v.lanes.bare = s.lanes.bare := by
  unfold decideAdmission at h
  split at h
  · cases h
  · split at h
    · cases h
    · split at h
      · cases h
      · dsimp only at h
        split at h
        · cases h
        · split at h
          · cases h
          · next row _ =>
            split at h
            · cases h
            · obtain ⟨rfl, ticket⟩ := Prod.mk.inj h
              obtain rfl := Sum.inr.inj ticket
              exact ⟨⟨row, _, mget_mset_same .., rfl, rfl, rfl, rfl, rfl, rfl, rfl, rfl⟩,
                opened_frame ((placeAll_booksOnly ..).trans (takeCfs_booksOnly ..)) ..⟩

/-! ### A node-bound command (R173, R181, R193, R196) -/

/-- What admission is asked for a node-bound command. -/
def decided (obj : Nat) (c : NodeCmd) (t : Nat) (h : Hdr) (args : List TVal) (sid : Nat) (s : State) :
    State × (Reply ⊕ Nat) :=
  decideAdmission obj h.dclass (some h.tclass) h.deadline
    { who := 0, client := (caller t sid s).client, sid := sid, reqSeq := h.seq } (descOf args) (c.load args (opState t h sid s))
    (icuRaise 73 (opState t h sid s))

/-- A command that admission accepts is answered with its ticket. -/
theorem execNodeCmd_admits {obj : Nat} {c : NodeCmd} {t sid : Nat} {h : Hdr} {args : List TVal} {s : State}
    (ha : admits obj c t h args sid s = true) :
    passes obj (descCols args ++ c.extra) true t h args sid s = true ∧ ∃ v tk, decided obj c t h args sid s = (v, .inr tk) ∧
      execNodeCmd obj c h args (tick t s) = answer sid h (icuRaise 86 v, some (rTicket tk)) := by
  simp only [admits, Bool.and_eq_true, Bool.not_eq_true', Option.isNone_iff_eq_none] at ha
  obtain ⟨⟨⟨⟨pass, nodes⟩, vals⟩, long⟩, accepted⟩ := ha
  obtain ⟨arr, check⟩ := Bool.and_eq_true_iff.1 pass
  rw [Option.isNone_iff_eq_none] at check
  refine ⟨pass, ?_⟩
  rw [execNodeCmd, execNode, request_arrives arr]
  simp only [check, nodes, vals, long, Bool.false_eq_true, if_false]
  rcases found : decided obj c t h args sid s with ⟨v, r | tk⟩
  all_goals unfold decided at found
  · rw [found] at accepted
    cases accepted
  · refine ⟨v, tk, rfl, ?_⟩
    rw [found]

/-- A node-bound command that admission accepts opens its ticket; what the ticket carries is what the command loads. -/
theorem nodeCommand_opens {i : Instr} {obj : Nat} {c : NodeCmd} {t sid : Nat} {h : Hdr} {args : List TVal} {s : State}
    {P : Ticket → Prop} (ha : admits obj c t h args sid s = true)
    (he : exec i s = done (tick t s) (execNodeCmd obj c h args (tick t s)))
    (hP : ∀ k, k.frame = (c.load args (opState t h sid s)).frame → k.job = (c.load args (opState t h sid s)).job → P k) :
    Runs i s (fun u => ∃ tk row k, Answered u sid h { okReply obj with ticket := tk } ∧ mget u.adm.tickets row = some k ∧
      k.id = tk ∧ k.state = 1 ∧ k.obj = obj ∧ k.dclass = h.dclass ∧ k.client = (caller t sid s).client ∧
      k.deadline = max s.clk.fab t + h.deadline * Config.msCycles ∧ P k) := by
  obtain ⟨pass, v, tk, accepted, answered⟩ := execNodeCmd_admits ha
  obtain ⟨⟨row, k, found, id, opened, isObj, cls, client, due, frame, job⟩, ib, -⟩ := decideAdmission_accepts accepted
  obtain ⟨arr, -⟩ := Bool.and_eq_true_iff.1 pass
  have live : (mget (icuRaise 86 v).ib.sessions sid).isSome = true := by
    rw [show (icuRaise 86 v).ib = (opState t h sid s).ib by simpa using ib]
    exact opState_session (sessions_of_arrives arr) t h
  obtain ⟨-, kept⟩ := answer_some live h (rTicket tk)
  rw [obj_of_passes pass] at kept
  rw [answered] at he
  refine runs_settled he fun u hu => ⟨tk, row, k, hu.answered.2 kept, ?_, id, opened, isObj, cls, client, due, hP k frame job⟩
  have adm : u.adm = v.adm := hu.adm.trans (by simp)
  rw [adm, found]

/-- Settles O20: it holds. A command that admission accepts is answered with the ticket that the decision put into the
table; the five commands differ in what they load. -/
theorem nodeTickets : Obligations.NodeTickets := by
  unfold Obligations.NodeTickets
  refine ⟨?lightSet, ?lightResume, ?nodeFunc, ?epochStage, ?imageBlock⟩
  case lightSet => exact fun _ _ _ _ _ ha => nodeCommand_opens ha rfl fun _ frame _ => frame
  case lightResume => exact fun _ _ _ _ _ ha => nodeCommand_opens ha rfl fun _ frame _ => frame
  case nodeFunc => exact fun _ _ _ _ _ ha => nodeCommand_opens ha rfl fun _ frame _ => frame
  case epochStage => exact fun _ _ _ _ _ ha => nodeCommand_opens ha rfl fun _ _ job => job
  case imageBlock => exact fun _ _ _ _ _ ha => nodeCommand_opens ha rfl fun _ _ job => job

end Sys2Proof.Machine
end

section
/-!
PROOFS. The rules of the policy admission port: what a change of a half, a copy and a store leave of a lane, and what a
submission on the active lane comes to (R121, R226).
-/
namespace Sys2Proof.Machine

open Sys2Proof.Safety

/-! ### A half of the port and a copy -/

theorem updLane_lane_ne {l o : Lane} (h : o ≠ l) (f : LaneSt → LaneSt) (s : State) :
    (updLane o f s).lanes.get l = s.lanes.get l := by
  cases l with
  | A =>
    cases o with
    | A => exact absurd rfl h
    | B => rfl
  | B =>
    cases o with
    | A => rfl
    | B => exact absurd rfl h

/-- A change of a half is a change of its lane's port; its lines move in the lane's interrupt controller. -/
theorem updHalf_lane (l : Lane) (c : Core) (f : PortHalf → PortHalf) (s : State) :
    (updHalf l c f s).lanes.get l = { s.lanes.get l with
      ports := if c = .A3 then { (s.lanes.get l).ports with b := f (s.lanes.get l).ports.b }
        else { (s.lanes.get l).ports with a := f (s.lanes.get l).ports.a }
      icu := ((updHalf l c f s).lanes.get l).icu } := by
  simp [updHalf, icuLineAt, updIcu]

theorem updHalf_lane_ne {l o : Lane} (h : o ≠ l) (c : Core) (f : PortHalf → PortHalf) (s : State) :
    (updHalf o c f s).lanes.get l = s.lanes.get l := by
  simp only [updHalf, icuLineAt, updIcu, updLane_lane_ne h]

theorem halfOf_of_ports {l : Lane} {s u : State} (h : (u.lanes.get l).ports = (s.lanes.get l).ports) (c : Core) :
    halfOf l u c = halfOf l s c := by rw [halfOf, halfOf, h]

theorem copyOf_of_copies {l : Lane} {s u : State} (h : (u.lanes.get l).copies = (s.lanes.get l).copies) (c : Core) :
    copyOf l u c = copyOf l s c := by rw [copyOf, copyOf, h]

@[simp] theorem halfOf_updHalf_same (l : Lane) (c : Core) (f : PortHalf → PortHalf) (s : State) :
    halfOf l (updHalf l c f s) c = f (halfOf l s c) := by
  rw [halfOf, halfOf, updHalf_lane]
  split <;> rfl

@[simp] theorem copyOf_updHalf (l : Lane) (c c' : Core) (f : PortHalf → PortHalf) (s : State) :
    copyOf l (updHalf l c f s) c' = copyOf l s c' :=
  copyOf_of_copies (by rw [updHalf_lane]) c'

@[simp] theorem updHalf_role (l : Lane) (c : Core) (f : PortHalf → PortHalf) (s : State) :
    ((updHalf l c f s).lanes.get l).role = (s.lanes.get l).role := by rw [updHalf_lane]

@[simp] theorem updHalf_mem (l : Lane) (c : Core) (f : PortHalf → PortHalf) (s : State) :
    ((updHalf l c f s).lanes.get l).mem = (s.lanes.get l).mem := by rw [updHalf_lane]

@[simp] theorem copyOf_setCopy_same (l : Lane) (c : Core) (j : Option HistJob) (s : State) :
    copyOf l (setCopy l c j s) c = j := by
  simp only [copyOf, setCopy, updLane_lanes, Pair.get_upd_same]
  split <;> rfl

@[simp] theorem setCopy_mem (l : Lane) (c : Core) (j : Option HistJob) (s : State) :
    ((setCopy l c j s).lanes.get l).mem = (s.lanes.get l).mem := by simp [setCopy]

/-! ### A store (R121, R226) -/

/-- A lane's memory after bytes are written from an address on. -/
def stored (m : List Host.Cell) (addr : Nat) (b : Bytes) (k : Nat) : List Host.Cell :=
  (b.zipIdx k).foldl (fun m p => memWrite m (addr + p.2) p.1) m

theorem putMem_mem (l : Lane) (addr : Nat) (b : Bytes) (s : State) :
    ((putMem l addr b s).lanes.get l).mem = stored (s.lanes.get l).mem addr b 0 := by
  simp [putMem, stored]

theorem memRead_stored_outside (m : List Host.Cell) {addr a k : Nat} {b : Bytes}
    (h : a < addr + k ∨ addr + k + b.length ≤ a) : memRead (stored m addr b k) a = memRead m a := by
  induction b generalizing m k with
  | nil => rfl
  | cons v r ih =>
    rw [List.length_cons] at h
    have rest : memRead (stored (memWrite m (addr + k) v) addr r (k + 1)) a = memRead (memWrite m (addr + k) v) a :=
      ih (memWrite m (addr + k) v) (by omega)
    exact rest.trans (memRead_memWrite_ne m _ _ v (by omega))

theorem memRead_stored {m : List Host.Cell} (wf : Memory.wf m = true) (addr k : Nat) {b : Bytes} {i : Nat}
    (h : i < b.length) : memRead (stored m addr b k) (addr + (k + i)) = b.getD i 0 := by
  induction b generalizing m k i with
  | nil => cases h
  | cons v r ih =>
    change memRead (stored (memWrite m (addr + k) v) addr r (k + 1)) _ = _
    cases i with
    | zero => exact (memRead_stored_outside _ (by omega)).trans (memRead_memWrite_same m _ v wf)
    | succ i =>
      have rest := ih (memWrite_wf m (addr + k) v wf) (k + 1) (Nat.lt_of_succ_lt_succ h)
      rw [show k + 1 + i = k + (i + 1) by omega] at rest
      exact rest

/-- Bytes written to a lane's memory are read back, and no other byte moves. -/
theorem memRead_putMem {l : Lane} {addr : Nat} {b : Bytes} {s : State} {m : List Host.Cell}
    (hm : m = ((putMem l addr b s).lanes.get l).mem) (wf : Memory.wf (s.lanes.get l).mem = true) :
    (∀ i, i < b.length → memRead m (addr + i) = b.getD i 0) ∧
      ∀ a, a < addr ∨ addr + b.length ≤ a → memRead m a = memRead (s.lanes.get l).mem a := by
  rw [hm, putMem_mem]
  refine ⟨fun i hi => ?_, fun a ha => memRead_stored_outside _ (by simpa using ha)⟩
  simpa using memRead_stored wf addr 0 hi

/-! ### A submission on the active lane (R16, R121) -/

theorem takeVerdict_lane_ne {l o : Lane} (h : o ≠ l) (c : Core) (copy : Option HistJob) (r : Reply ⊕ Nat) (s : State) :
    (takeVerdict o c copy r s).lanes.get l = s.lanes.get l := by
  unfold takeVerdict
  split
  · rw [updHalf_lane_ne h, setCopy, updLane_lane_ne h]
  · rw [updHalf_lane_ne h]

theorem mirrorVerdict_lane_ne {l o : Lane} (h : o ≠ l) (c : Core) (r : Reply ⊕ Nat) (s : State) :
    (mirrorVerdict o c r s).lanes.get l = s.lanes.get l := by
  unfold mirrorVerdict
  dsimp only
  split
  · rw [takeVerdict_lane_ne h, updHalf_lane_ne h]
  · rw [updLane_lane_ne h]

@[simp] theorem takeVerdict_trk (l : Lane) (c : Core) (copy : Option HistJob) (r : Reply ⊕ Nat) (s : State) :
    (takeVerdict l c copy r s).trk = s.trk := by
  unfold takeVerdict
  split <;> simp [setCopy]

@[simp] theorem mirrorVerdict_trk (l : Lane) (c : Core) (r : Reply ⊕ Nat) (s : State) :
    (mirrorVerdict l c r s).trk = s.trk := by
  unfold mirrorVerdict
  dsimp only
  split <;> simp

theorem takeVerdict_role (l : Lane) (c : Core) (copy : Option HistJob) (r : Reply ⊕ Nat) (s : State) :
    ((takeVerdict l c copy r s).lanes.get l).role = (s.lanes.get l).role := by
  unfold takeVerdict
  split <;> simp [setCopy]

theorem standby_ne_of_active {l o : Lane} {s : State} (act : (s.lanes.get l).role = .active) (h : standby s = some o) :
    o ≠ l := by
  rintro rfl
  unfold standby at h
  split at h
  · next a =>
    cases h
    exact absurd (act.symm.trans a) (by decide)
  · split at h
    · next b =>
      cases h
      exact absurd (act.symm.trans b) (by decide)
    · cases h

/-- A submission on the active lane's half that is not BUSY takes its verdict; the standby's half of it touches neither that
lane nor the tracker. -/
theorem submit_active {l : Lane} {c : Core} {q : PolicyAsk} {s v : State} {r : Reply ⊕ Nat} (pol : isPolicy c = true)
    (act : (s.lanes.get l).role = .active) (idle : (halfOf l s c).busy = false)
    (verdict : (submissionOf c (halfOf l s c) q).decide s = (v, r)) (kept : (v.lanes.get l).role = .active) :
    (submit l c q s).lanes.get l = (takeVerdict l c (submissionOf c (halfOf l s c) q).copy r v).lanes.get l ∧
      (submit l c q s).trk = v.trk := by
  simp only [submit, pol, idle, act, verdict, Bool.not_true, Bool.or_false, Bool.false_eq_true, if_false, if_true]
  split
  · next o stands =>
    have other := standby_ne_of_active ((takeVerdict_role ..).trans kept) stands
    exact ⟨mirrorVerdict_lane_ne other .., by simp⟩
  · exact ⟨rfl, by simp⟩

/-- With no copy to begin, the half takes the verdict and is DONE. -/
theorem submit_done {l : Lane} {c : Core} {q : PolicyAsk} {f : State → State × (Reply ⊕ Nat)} {s v : State} {r : Reply ⊕ Nat}
    (pol : isPolicy c = true) (act : (s.lanes.get l).role = .active) (idle : (halfOf l s c).busy = false)
    (asked : submissionOf c (halfOf l s c) q = { decide := f, copy := none }) (verdict : f s = (v, r))
    (kept : (v.lanes.get l).role = .active) :
    halfOf l (submit l c q s) c = portResult r (halfOf l v c) ∧ (submit l c q s).trk = v.trk := by
  obtain ⟨lane, trk⟩ := submit_active (v := v) (r := r) pol act idle (by rw [asked]; exact verdict) kept
  have taken : takeVerdict l c none r v = updHalf l c (portResult r) v := by cases r <;> rfl
  rw [asked, taken] at lane
  refine ⟨?_, trk⟩
  rw [halfOf_of_ports (congrArg LaneSt.ports lane), halfOf_updHalf_same]

end Sys2Proof.Machine
end

section
/-!
PROOFS. Completions at the deadline, and what a submission of a policy core comes to (R118, R121, R226); the settlement of O21.
-/
namespace Sys2Proof.Machine

open Sys2Proof.Safety

/-! ### A ticket completes (R118) -/

/-- What a kept COMPLETION says, and the number that the next one takes. -/
def announced (s : State) (key : Nat) : Option (Bytes × Nat × Bytes) × Nat :=
  ((mget s.ib.comps key).map (fun c => (c.client, c.ticket, c.notice)), s.ib.compNext)

theorem announced_of_completions {s u : State} (h : completions u = completions s) (key : Nat) :
    announced u key = announced s key := by
  obtain ⟨comps, next⟩ := Prod.mk.inj h
  rw [announced, announced, comps, next]

/-- Sending a COMPLETION notes when it was sent first; it says what it said. -/
theorem announced_sendComp (key : Nat) (s : State) : announced (sendComp key s) key = announced s key := by
  unfold sendComp
  split
  · rfl
  · next c kept =>
    split
    · rfl
    · next sid _ =>
      dsimp only
      split
      · rw [announced_of_completions (completions_sendIb ..) key]
        simp [announced, kept]
      · simp [announced, kept]

theorem nextCompSeq_completions (client : Bytes) (s : State) :
    completions (nextCompSeq client s).1 = completions s := by
  unfold nextCompSeq
  split <;> rfl

theorem announced_complete (k : Ticket) (s : State) :
    announced (complete k s) s.ib.compNext = (some (k.client, k.id, noticeOf k), s.ib.compNext + 1) := by
  have next : (nextCompSeq k.client s).1.ib.compNext = s.ib.compNext :=
    congrArg Prod.snd (nextCompSeq_completions k.client s)
  unfold complete
  dsimp only
  rw [next, announced_sendComp]
  simp [announced]

theorem sendComp_adm (key : Nat) (s : State) : (sendComp key s).adm = s.adm := by
  unfold sendComp
  split
  · rfl
  · split
    · rfl
    · dsimp only
      split <;> simp

theorem nextCompSeq_adm (client : Bytes) (s : State) : (nextCompSeq client s).1.adm = s.adm := by
  unfold nextCompSeq
  split <;> rfl

theorem complete_adm (k : Ticket) (s : State) : (complete k s).adm = s.adm :=
  (sendComp_adm ..).trans (nextCompSeq_adm k.client s)

theorem ticketOf_of_adm {s u : State} (h : s.adm = u.adm) (tk : Nat) : ticketOf s tk = ticketOf u tk := by
  rw [ticketOf, ticketOf, h]

theorem ticketOf_updTicket {s : State} {tk : Nat} {k : Ticket} (h : ticketOf s tk = some k) {f : Ticket → Ticket}
    (id : ∀ x, (f x).id = x.id) : ticketOf (updTicket tk f s) tk = some (f k) := by
  obtain ⟨p, found, rfl⟩ := Option.map_eq_some_iff.1 h
  have same : ((fun p : Nat × Ticket => p.2.id == tk) ∘ fun p => if p.2.id = tk then (p.1, f p.2) else p) =
      fun p => p.2.id == tk := by
    funext q
    by_cases hq : q.2.id = tk <;> simp [hq, id]
  have mine : p.2.id = tk := by simpa using List.find?_some found
  rw [ticketOf, updTicket, updAdm]
  rw [List.find?_map, same, found]
  simp [mine]

theorem id_of_ticketOf {s : State} {tk : Nat} {k : Ticket} (h : ticketOf s tk = some k) : k.id = tk := by
  obtain ⟨p, found, rfl⟩ := Option.map_eq_some_iff.1 h
  simpa using List.find?_some found

/-- The open ticket of an Ibier client is closed, then its COMPLETION is formed. -/
theorem completeTicket_ibier {s : State} {tk : Nat} {k : Ticket} (h : ticketOf s tk = some k) (opened : k.state = 1)
    (ibier : k.submitter = 0) :
    ∃ v, completeTicket tk s = complete k v ∧ v.ib = s.ib ∧ (ticketOf v tk).map (fun x => x.state) = some 2 := by
  unfold completeTicket
  simp only [h, opened, ibier, ne_eq, not_true_eq_false, if_false, if_true]
  refine ⟨_, rfl, by simp, ?_⟩
  rw [ticketOf_of_adm (u := updTicket tk (fun x => { x with state := 2 }) s) (by simp),
    ticketOf_updTicket h (f := fun x => { x with state := 2 }) fun _ => rfl]
  rfl

/-! ### A half after the closing of a step -/

theorem Settled.halfOf {v u : State} (h : Settled v u) (l : Lane) (c : Core) : halfOf l u c = halfOf l v c :=
  halfOf_of_ports (by rw [h.lanes l]) c

theorem Settled.copyOf {v u : State} (h : Settled v u) (l : Lane) (c : Core) : copyOf l u c = copyOf l v c :=
  copyOf_of_copies (by rw [h.lanes l]) c

theorem Settled.mem {v u : State} (h : Settled v u) (l : Lane) : (u.lanes.get l).mem = (v.lanes.get l).mem := by
  rw [h.lanes l]

/-! ### What a submission decides (R222, R226) -/

/-- The selection of a class, as the zone keeps it (R222). -/
theorem selectClass_selects {z cls hold : Nat} {s : State} (may : rNat (getRow s 0x70120 z) 6 ≠ 0)
    (cl : classVals.contains cls = true) (allowed : bitOf (rNat (getRow s 0x70120 z) 1) cls = true) (lo : 1 ≤ hold)
    (hi : hold ≤ 86400) :
    ∃ v, selectClass z cls hold s = (v, .inr 0) ∧ v.lanes = s.lanes ∧
      (mget v.trk.zones z).map (fun x => (x.policy.map (fun p => (p.1, p.2.1)), x.policyChange)) =
        some (some (cls, s.clk.fab + hold * Config.secCycles), some (boundaryAfter s (20 * Config.msCycles))) := by
  have plain : cls ≠ 255 := by
    rintro rfl
    exact absurd cl (by decide)
  have lo : hold ≠ 0 := by omega
  have hi : ¬ 86400 < hold := by omega
  unfold selectClass
  simp only [may, cl, allowed, lo, hi, plain, Bool.true_or, Bool.not_true, Bool.or_false, decide_false, if_false,
    Bool.false_eq_true, and_false, ne_eq]
  exact ⟨_, rfl, rfl, by simp⟩

/-- A policy core's command that admission accepts leaves the lanes' roles. -/
theorem nodeSubmission_accepts {c : Core} {h : PortHalf} {s v : State} {tk : Nat}
    (accepted : nodeSubmission c h s = (v, .inr tk)) : v.lanes.bare = s.lanes.bare := by
  unfold nodeSubmission at accepted
  dsimp only at accepted
  split at accepted
  · cases accepted
  · split at accepted
    · cases accepted
    · split at accepted
      · cases accepted
      · split at accepted
        · cases accepted
        · split at accepted
          · cases accepted
          · split at accepted
            · cases accepted
            · split at accepted
              · cases accepted
              · split at accepted
                · cases accepted
                · obtain ⟨-, -, bare⟩ := decideAdmission_accepts accepted
                  exact bare.trans (icuRaise_bare 73 s)

/-- A selection that the zone allows, submitted on the active lane, becomes the zone's and is DONE. -/
theorem select_applies {i : Instr} {t z cls hold : Nat} {l : Lane} {c : Core} {q : PolicyAsk} {s : State}
    (pol : isPolicy c = true) (act : (s.lanes.get l).role = .active) (idle : (halfOf l s c).busy = false)
    (asked : submissionOf c (halfOf l s c) q = subSelect z cls hold) (may : rNat (getRow s 0x70120 z) 6 ≠ 0)
    (cl : classVals.contains cls = true) (allowed : bitOf (rNat (getRow s 0x70120 z) 1) cls = true) (lo : 1 ≤ hold)
    (hi : hold ≤ 86400) (he : exec i s = done (tick t s) (submit l c q (tick t s))) :
    Runs i s (fun u => (mget u.trk.zones z).map (fun x => (x.policy.map (fun p => (p.1, p.2.1)), x.policyChange)) =
        some (some (cls, max s.clk.fab t + hold * Config.secCycles), some (boundaryAfter (tick t s) (20 * Config.msCycles))) ∧
      (halfOf l u c).done = true ∧ (halfOf l u c).status = 0) := by
  obtain ⟨v, selects, lanes, zone⟩ := selectClass_selects (s := tick t s) may cl allowed lo hi
  have asked : submissionOf c (halfOf l (tick t s) c) q = subSelect z cls hold := asked
  have kept : (v.lanes.get l).role = .active := by rw [lanes]; exact act
  obtain ⟨half, trk⟩ := submit_done (s := tick t s) pol act idle asked selects kept
  refine runs_settled he fun u hu => ⟨?_, ?_⟩
  · rw [hu.trk, trk, zone]
    rfl
  · rw [hu.halfOf, half]
    exact ⟨rfl, rfl⟩

theorem histBad_false {k f n d : Nat} (kind : k ≤ 1) (least : 1 ≤ n) (most : n ≤ 512)
    (rows : f + n ≤ (if k = 0 then 57344 else 16384)) (aligned : d % 64 = 0) (lo : 0xA0000000 ≤ d)
    (hi : d + n * (if k = 0 then 192 else 128) ≤ 0xB0000000) : histBad k f n d = false := by
  simp only [histBad, decide_eq_false_iff_not]
  omega

/-! ### A POP (R121) -/

theorem compPop_takes {l : Lane} {c : Core} {b : Bytes} {r : List Bytes} {s : State} (pol : isPolicy c = true)
    (oldest : (halfOf l s c).pending = b :: r) (aligned : (halfOf l s c).compBuf % 64 = 0)
    (lo : 0xA0000000 ≤ (halfOf l s c).compBuf) (hi : (halfOf l s c).compBuf + max b.length 1 ≤ 0xB0000000) :
    compPop l c s = updHalf l c (fun h => { h with badbuf := false, ready := true, compLen := b.length, pending := r })
      (putMem l (halfOf l s c).compBuf b s) := by
  have good : ¬ ((halfOf l s c).compBuf % 64 ≠ 0 ∨ (halfOf l s c).compBuf < 0xA0000000 ∨
      0xB0000000 < (halfOf l s c).compBuf + max b.length 1) := by omega
  simp only [compPop, pol, oldest, List.headD_cons, good, Bool.not_true, Bool.false_eq_true, if_false]

/-- The rows that a HIST_COPY brings (R226). -/
def historyRows (j : HistJob) (s : State) : Bytes :=
  ((List.range j.rows).map (fun i => fit (if j.kind = 0 then 192 else 128)
    (rOct (getRow s (if j.kind = 0 then 0x70200 else 0x70202) (j.first + i)) 0))).flatten

/-- Settles O21: it holds. A ticket's completion is followed through the table and the COMPLETIONs; POP and HIST_COPY_DONE
are a store and a change of the half; a submission on the active lane takes the verdict that the decision gives. -/
theorem policyPort : Obligations.PolicyPort := by
  unfold Obligations.PolicyPort
  refine ⟨?deadline, ?pop, ?select, ?go, ?goSelect, ?copy, ?copyDone⟩
  case deadline =>
    intro t tk k s found opened ibier due live
    have found : ticketOf (tick t s) tk = some k := found
    have he : exec (.deadlineInstant t tk) s = done (tick t s) (completeTicket tk (tick t s)) := by
      change done _ (match ticketOf (tick t s) tk with | some k => _ | none => _) = _
      rw [found]
      exact congrArg (done _) (if_pos ⟨due, live⟩)
    obtain ⟨v, completes, ib, closed⟩ := completeTicket_ibier found opened ibier
    refine runs_settled he fun u hu => ⟨?_, ?_⟩
    · rw [ticketOf_of_adm (u := v) (hu.adm.trans (by rw [completes, complete_adm])), closed]
    · have said := announced_of_completions hu.completions v.ib.compNext
      rw [completes, announced_complete, id_of_ticketOf found, ib] at said
      exact Prod.mk.inj said
  case pop =>
    intro t l c b r s pol oldest aligned lo hi
    refine runs_settled (congrArg (done (tick t s)) (compPop_takes pol oldest aligned lo hi)) fun u hu => ?_
    rw [hu.halfOf, halfOf_updHalf_same]
    exact ⟨rfl, rfl, rfl, rfl, memRead_putMem ((hu.mem l).trans (updHalf_mem ..))⟩
  case select =>
    intro t z cls hold l c s pol act idle hz may cl allowed lo hi
    have asked : submissionOf c (halfOf l s c) (.select z cls hold) = subSelect z cls hold := if_neg (Nat.not_lt.2 hz)
    exact select_applies pol act idle asked may cl allowed lo hi rfl
  case go =>
    intro t l c s pol act idle node accepted
    rcases found : nodeSubmission c (halfOf l s c) (tick t s) with ⟨v, r | tk⟩
    · rw [found] at accepted
      cases accepted
    · have asked : submissionOf c (halfOf l (tick t s) c) .port = { decide := nodeSubmission c (halfOf l s c), copy := none } :=
        if_neg node
      have kept : (v.lanes.get l).role = .active := (role_of_bare (nodeSubmission_accepts found) l).trans act
      obtain ⟨half, -⟩ := submit_done (s := tick t s) pol act idle asked found kept
      refine runs_settled (s0 := tick t s) (v := submit l c .port (tick t s)) rfl fun u hu => ⟨tk, rfl, ?_⟩
      rw [hu.halfOf, half]
      exact ⟨rfl, rfl, rfl, rfl⟩
  case goSelect =>
    rintro t l c _ s pol act idle function obj rfl typed may cl allowed lo hi
    refine select_applies pol act idle ?_ may cl allowed lo hi rfl
    rw [Option.isNone_iff_eq_none] at typed
    simp only [submissionOf, function, policyFunction, obj, typed, if_true]
  case copy =>
    intro t k f n d l c s pol act idle kind least most rows aligned lo hi
    have verdict : (submissionOf c (halfOf l (tick t s) c) (.copy k f n d)).decide (tick t s) = (tick t s, .inr 0) := by
      simp only [submissionOf, subCopy, histBad_false kind least most rows aligned lo hi, Bool.false_eq_true, if_false]
    obtain ⟨lane, -⟩ := submit_active (s := tick t s) pol act idle verdict act
    change _ = (updHalf l c (fun h => { h with busy := true })
      (setCopy l c (some { kind := k, first := f, rows := n, dest := d }) (tick t s))).lanes.get l at lane
    refine runs_settled (s0 := tick t s) (v := submit l c (.copy k f n d) (tick t s)) rfl fun u hu => ⟨?_, ?_⟩
    · rw [hu.copyOf, copyOf_of_copies (congrArg LaneSt.copies lane), copyOf_updHalf, copyOf_setCopy_same]
    · rw [hu.halfOf, halfOf_of_ports (congrArg LaneSt.ports lane), halfOf_updHalf_same]
  case copyDone =>
    intro t l c j s pol running
    have he : exec (.histCopyDone t ⟨l, c⟩) s = done (tick t s) (updHalf l c (portResult (.inr 0)) (setCopy l c none
        (putMem l j.dest (historyRows j s) (tick t s)))) := by
      have running : copyOf l (tick t s) c = some j := running
      have pol : ¬ (!isPolicy c) = true := by simp [pol]
      change done _ (match copyOf l (tick t s) c with | some j => _ | none => _) = _
      rw [running]
      exact congrArg (done _) (if_neg pol)
    refine runs_settled he fun u hu => ?_
    rw [hu.halfOf, hu.copyOf, halfOf_updHalf_same, copyOf_updHalf, copyOf_setCopy_same]
    exact ⟨rfl, rfl, rfl, memRead_putMem ((hu.mem l).trans ((updHalf_mem ..).trans (setCopy_mem ..)))⟩

end Sys2Proof.Machine
end

section
/-!
PROOFS. What a charge of air time, a burst's events and the departure of a node leave alone (R133, R151, R158).
-/
namespace Sys2Proof.Machine

open Sys2Proof.Safety

/-! ### Air time, bookings and tickets -/

/-- A state but for its tickets, its bookings and the ledgers of its air time. -/
def offBooks (s : State) : State := { s with adm := State.reset.adm, mac := { s.mac with gate := [], duty := [] } }

@[simp] theorem updAdm_offBooks (f : Admission → Admission) (s : State) : offBooks (updAdm f s) = offBooks s := rfl

@[simp] theorem updTicket_offBooks (tk : Nat) (f : Ticket → Ticket) (s : State) : offBooks (updTicket tk f s) = offBooks s :=
  rfl

@[simp] theorem ledgerPut_offBooks (x ch sf : Nat) (f : Bucket → Bucket) (s : State) :
    offBooks (ledgerPut x ch sf f s) = offBooks s :=
  (foldl_keeps (part := offBooks) (by exact fun _ _ => rfl) ..).trans rfl

@[simp] theorem gateUse_offBooks (x ch sf dur : Nat) (s : State) : offBooks (gateUse x ch sf dur s) = offBooks s :=
  ledgerPut_offBooks ..

@[simp] theorem gateRelease_offBooks (x ch sf dur : Nat) (s : State) : offBooks (gateRelease x ch sf dur s) = offBooks s :=
  ledgerPut_offBooks ..

@[simp] theorem dropBookings_offBooks (p : Booking → Bool) (s : State) : offBooks (dropBookings p s) = offBooks s := by
  refine (foldl_keeps (part := offBooks) (fun s b => ?_) ..).trans (updAdm_offBooks ..)
  split
  · rfl
  · exact gateRelease_offBooks ..

@[simp] theorem release_offBooks (tk : Nat) (s : State) : offBooks (release tk s) = offBooks s := by
  unfold release
  split
  · rfl
  · dsimp only
    split <;> simp

/-! ### A node leaves (R114, R151) -/

@[simp] theorem gourFaults_ib (l : Lane) (a r : Nat) (b : Arb) (s : State) : (gourFaults l a r b s).ib = s.ib := by
  unfold gourFaults gourAlarmLine
  dsimp only
  repeat' split
  all_goals simp

@[simp] theorem airDrop_ib (x r : Nat) (s : State) : (airDrop x r s).ib = s.ib := by
  refine foldl_keeps (part := State.ib) (fun s l => ?_) ..
  dsimp only
  split <;> simp

theorem clearShock_ib (n : Nat) (s : State) : (clearShock n s).ib = s.ib := by
  unfold clearShock
  dsimp only
  split
  · rfl
  · refine (foldl_keeps (part := State.ib) (fun s alt => ?_) ..).trans rfl
    split
    · rfl
    · exact airDrop_ib ..

/-- The link state of a node that leaves goes, and what is due to it (R151). -/
def unlinked (n : Nat) (s : State) : State :=
  let s := dropJoins n (clearShock n s)
  let s := updMac (fun m => { m with nodes := mdel m.nodes n }) s
  let s := { s with trk := { s.trk with floors := s.trk.floors.filter (fun p => p.1 / 4 != n) } }
  updEp (fun p => { p with disarm := p.disarm.filter (fun k => k.1 != n) }) s

/-- Beside that, a departure moves tickets, bookings and air time only. -/
theorem leaveCluster_offBooks (n : Nat) (s : State) : offBooks (leaveCluster n s) = offBooks (unlinked n s) :=
  foldl_keeps (part := offBooks) (fun _ _ => (release_offBooks ..).trans (updTicket_offBooks ..)) ..

theorem leaveCluster_ib (n : Nat) (s : State) : (leaveCluster n s).ib = s.ib :=
  (congrArg State.ib (leaveCluster_offBooks n s) :).trans (clearShock_ib n s)

theorem leaveCluster_waiting (n : Nat) (s : State) : (leaveCluster n s).mac.waiting = s.mac.waiting :=
  (congrArg (fun s => s.mac.waiting) (leaveCluster_offBooks n s) :).trans (congrArg Mac.waiting (clearShock_mac n s) :)

theorem mget_nodes_leaveCluster (n : Nat) (s : State) : mget (leaveCluster n s).mac.nodes n = none := by
  have nodes : (leaveCluster n s).mac.nodes = mdel (clearShock n s).mac.nodes n :=
    (congrArg (fun s => s.mac.nodes) (leaveCluster_offBooks n s) :)
  rw [nodes, mget_mdel_same]

/-! ### A directory row goes (R151, R188) -/

/-- The end of a verification concerns neither the radio nor the sessions. -/
@[simp] theorem verifyDone_frame (s : State) : (verifyDone s).mac = s.mac ∧ (verifyDone s).ib = s.ib := by
  unfold verifyDone endVerify
  dsimp only
  repeat' split
  all_goals simp

theorem stickySet_sameRows {bit : Nat} (h : bit < 4294967296) (detail : Nat) (s : State) :
    SameRowsBut [0xB0101] s (stickySet bit detail s) := sameRowsBut_of_store h rfl rfl

theorem record_sameRows {sev : Nat} (h : sev < 4294967296) (typ source : Nat) (payload : Bytes) (s : State) :
    SameRowsBut [0xB0011] s (record typ sev source payload s) := submitRec_sameRows h s

/-- The end of a verification stores rows of its sticky bit and of REC_DROPPED only (R188). -/
theorem endVerify_sameRows (s : State) : SameRowsBut [0xB0101, 0xB0011] s (endVerify s) := by
  unfold endVerify
  extract_lets bad sw idle
  have quiet : SameRowsBut [0xB0101, 0xB0011] s idle := .of_dict rfl
  have stuck := (stickySet_sameRows (by decide : 98 < 4294967296) s.epoch.inForce idle).mono
    (by simp : [0xB0101] ⊆ [0xB0101, 0xB0011])
  have told := (record_sameRows (by decide : 4 < 4294967296) 0x6010 idle.epoch.inForce
    (be 1 1 ++ be 1 0 ++ be 2 bad ++ be 4 sw) (stickySet 98 idle.epoch.inForce idle)).mono
    (by simp : [0xB0011] ⊆ [0xB0101, 0xB0011])
  split
  · exact quiet
  · exact quiet.trans (stuck.trans told)

theorem verifyDone_sameRows (s : State) : SameRowsBut [0xB0101, 0xB0011] s (verifyDone s) := by
  unfold verifyDone
  split
  · exact endVerify_sameRows s
  · exact .of_dict rfl

/-- The row goes, and what the epochs know of its node. -/
def rowGone (n : Nat) (s : State) : State :=
  updEp (fun p => { p with
    held := mdel p.held n, progress := mdel p.progress n, staged := p.staged.filter (fun k => k != n)
    armed := p.armed.filter (fun k => k != n), verified := p.verified.filter (fun k => k != n) })
  { s with dict := { s.dict with store := mdel s.dict.store (okey 0x40500 n) } }

theorem removeRow_eq (n : Nat) (s : State) : removeRow n s = verifyDone (rowGone n (leaveCluster n s)) := rfl

theorem removeRow_ib (n : Nat) (s : State) : (removeRow n s).ib = s.ib := by
  rw [removeRow_eq, (verifyDone_frame _).2]
  exact leaveCluster_ib n s

theorem mget_nodes_removeRow (n : Nat) (s : State) : mget (removeRow n s).mac.nodes n = none := by
  rw [removeRow_eq, (verifyDone_frame _).1]
  exact mget_nodes_leaveCluster n s

theorem mget_store_removeRow {n : Nat} (h : n < 4294967296) (s : State) :
    mget (removeRow n s).dict.store (okey 0x40500 n) = none := by
  rw [removeRow_eq, (verifyDone_sameRows _).store _ n h (by decide)]
  exact mget_mdel_same ..

end Sys2Proof.Machine
end

section
/-!
PROOFS. A burst that is taken (R143, R158, R159).
-/
namespace Sys2Proof.Machine

open Sys2Proof.Safety

/-! ### What the directory's rows say -/

theorem inUse_of_dict {s u : State} (h : u.dict = s.dict) (c : Nat) : inUse u c = inUse s c := by
  simp only [inUse, crow, getRow_of_dict h]

theorem dirRow_of_dict {s u : State} (h : u.dict = s.dict) (n : Nat) : dirRow u n = dirRow s n := getRow_of_dict h ..

theorem dirCluster_of_dict {s u : State} (h : u.dict = s.dict) (n : Nat) : dirCluster u n = dirCluster s n := by
  simp only [dirCluster, dirRow_of_dict h]

theorem euiRow_of_dict {s u : State} (h : u.dict = s.dict) (eui : Bytes) : euiRow u eui = euiRow s eui := by
  simp only [euiRow, storedRows, dirRow_of_dict h, h]

theorem memberNode_congr {s u : State} (hd : u.dict = s.dict) (hm : u.mac = s.mac) (c m : Nat) :
    memberNode u c m = memberNode s c m := by
  simp only [memberNode, members, assigned, storedRows, dirMember, dirCluster_of_dict hd, dirRow_of_dict hd,
    nodeOf_of_mac hm, hd]

/-- A frame that a transceiver received is counted and raises its line. -/
def frameIn (x : Nat) (s : State) : State := icuRaise (22 + x) (cntUpAt 0x400F1 x 1 1 s)

@[simp] theorem frameIn_frame (x : Nat) (s : State) : (frameIn x s).dict = s.dict ∧ (frameIn x s).mac = s.mac ∧
    (frameIn x s).trk = s.trk ∧ (frameIn x s).clk = s.clk := by
  simp [frameIn]

/-! ### The events of a burst (R200, R202) -/

/-- What the tracker is told of an event. -/
def presenceOf (n start now : Nat) (e : BurstEvent) : Presence :=
  { vertex := n, kind := e.kind, data := e.data, at_ := start - e.age * Config.msCycles, arrived := now }

@[simp] theorem ingest_frame (n start : Nat) (s : State) (e : BurstEvent) :
    (ingest n start s e).mac = s.mac ∧ (ingest n start s e).clk = s.clk := by
  unfold ingest
  repeat' split
  all_goals simp

/-- With room in the tracker's queue, an event of endpoint 5 enters it. -/
theorem ingest_room {n start : Nat} {s : State} (room : s.trk.ingest.length < 1024) (e : BurstEvent) :
    (ingest n start s e).trk.ingest =
      s.trk.ingest ++ ([e].filter (fun e => e.endpoint == 5)).map (presenceOf n start s.clk.fab) := by
  unfold ingest
  split
  · next other => simp [other]
  · next here =>
    rw [if_neg (Nat.not_le.2 room)]
    simp [not_not.1 here, presenceOf]

/-- With room for all of them, the events of endpoint 5 enter the tracker's queue in order. -/
theorem foldl_ingest_room {n start : Nat} {l : List BurstEvent} {s : State} (room : s.trk.ingest.length + l.length ≤ 1024) :
    (l.foldl (ingest n start) s).trk.ingest =
      s.trk.ingest ++ (l.filter (fun e => e.endpoint == 5)).map (presenceOf n start s.clk.fab) := by
  induction l generalizing s with
  | nil => simp
  | cons e r ih =>
    rw [List.length_cons] at room
    have first := ingest_room (n := n) (start := start) (show s.trk.ingest.length < 1024 by omega) e
    have short : ([e].filter (fun e => e.endpoint == 5)).length ≤ 1 := List.length_filter_le ..
    have left : (ingest n start s e).trk.ingest.length + r.length ≤ 1024 := by
      rw [first, List.length_append, List.length_map]
      omega
    rw [List.foldl_cons, ih left, first, (ingest_frame ..).2, List.append_assoc, ← List.map_append, ← List.filter_append]
    rfl

/-! ### A burst is taken -/

/-- An authentic burst is noted: its node is heard, with a counter and a signal level (R153). -/
def burstNoted (b : Burst) (n : Nat) (s : State) : State :=
  updNode n (fun k => { k with upCounter := some b.counter, rssi := b.rssi }) (heardFrom n s)

/-- The events of a burst are passed on (R158). -/
def burstPassed (b : Burst) (n : Nat) (s : State) : State :=
  b.events.foldl (ingest n b.start) (updCl b.cluster (fun k => { k with more := bitOf b.flags 0 }) s)

/-- A new burst is answered where its channel has room, and then remembered (R143, R159). -/
def burstAnswered (b : Burst) (n : Nat) (s : State) : State :=
  match answerChan b s with
  | none => s
  | some ch =>
    if !gateRoom s b.xcvr ch (frame s) 640 then gateRefused b.xcvr s
    else updNode n (fun k => { k with bursts := (b.seq :: k.bursts).take 4 }) (answerBurst b ch s)

theorem heardFrom_mac (n : Nat) (s : State) : (heardFrom n s).mac = (updNode n (fun x =>
    { x with heardFab := s.clk.fab, heard := time64 s, joined := if x.joined = 2 then 1 else x.joined }) s).mac := by
  unfold heardFrom
  dsimp only
  split
  · exact lostRecord_mac ..
  · rfl

theorem bursts_heardFrom (n : Nat) (s : State) : (nodeOf (heardFrom n s) n).bursts = (nodeOf s n).bursts := by
  rw [nodeOf_of_mac (heardFrom_mac n s), nodeOf_updNode_same]

@[simp] theorem heardFrom_frame (n : Nat) (s : State) : (heardFrom n s).trk = s.trk ∧ (heardFrom n s).clk = s.clk := by
  unfold heardFrom lostRecord
  dsimp only
  split <;> simp

/-- A burst unlike the last four answered, of a counter far from 2^31, is noted, passed on and answered. -/
theorem takeBurst_new {b : Burst} {n : Nat} {s : State} (new : (nodeOf s n).bursts.contains b.seq = false)
    (far : b.counter + 65536 < 2147483648) :
    takeBurst b n s = burstAnswered b n (burstPassed b n (burstNoted b n s)) := by
  rw [← bursts_heardFrom] at new
  unfold takeBurst
  simp only [new, Bool.false_eq_true, if_false, if_neg (Nat.not_le.2 far)]
  rfl

/-- The marks of a burst: its node's counter and signal level, and the tracker's queue. -/
def taken (n : Nat) (s : State) : Option Nat × Int × List Presence :=
  ((nodeOf s n).upCounter, (nodeOf s n).rssi, s.trk.ingest)

theorem taken_of_mac {s u : State} (hm : u.mac = s.mac) (ht : u.trk = s.trk) (n : Nat) : taken n u = taken n s := by
  rw [taken, taken, nodeOf_of_mac hm, ht]

theorem taken_answerBurst (b : Burst) (ch n : Nat) (s : State) : taken n (answerBurst b ch s) = taken n s :=
  (taken_of_mac (s := gateUse b.xcvr ch (frame s) 640 s) (by simp [answerBurst]) (by simp [answerBurst]) n).trans
    (congrArg (taken n) (gateUse_offBooks b.xcvr ch (frame s) 640 s) :)

theorem taken_burstAnswered (b : Burst) (n : Nat) (s : State) : taken n (burstAnswered b n s) = taken n s := by
  have kept (f : List Nat → List Nat) (v : State) :
      taken n (updNode n (fun k => { k with bursts := f k.bursts }) v) = taken n v := by
    rw [taken, nodeOf_updNode_same]
    rfl
  unfold burstAnswered
  split
  · rfl
  · split
    · exact taken_of_mac (by simp [gateRefused]) (by simp [gateRefused]) n
    · exact (kept (fun l => (b.seq :: l).take 4) _).trans (taken_answerBurst ..)

theorem burstPassed_mac (b : Burst) (n : Nat) (s : State) :
    (burstPassed b n s).mac = (updCl b.cluster (fun k => { k with more := bitOf b.flags 0 }) s).mac :=
  foldl_keeps (part := State.mac) (fun s e => (ingest_frame n b.start s e).1) ..

/-- A new burst leaves its counter, its signal level and its events of endpoint 5 (R158). -/
theorem taken_takeBurst {b : Burst} {n : Nat} {s : State} (new : (nodeOf s n).bursts.contains b.seq = false)
    (far : b.counter + 65536 < 2147483648) (room : s.trk.ingest.length + b.events.length ≤ 1024) :
    taken n (takeBurst b n s) = (some b.counter, b.rssi, s.trk.ingest ++
      (b.events.filter (fun e => e.endpoint == 5)).map (presenceOf n b.start s.clk.fab)) := by
  have noted : nodeOf (burstPassed b n (burstNoted b n s)) n = nodeOf (burstNoted b n s) n := by
    rw [nodeOf_of_mac (burstPassed_mac ..)]
    rfl
  have queue : (burstNoted b n s).trk = s.trk ∧ (burstNoted b n s).clk = s.clk := heardFrom_frame n s
  have room : (burstNoted b n s).trk.ingest.length + b.events.length ≤ 1024 := by rwa [queue.1]
  have passed := foldl_ingest_room (n := n) (start := b.start) (l := b.events)
    (s := updCl b.cluster (fun k => { k with more := bitOf b.flags 0 }) (burstNoted b n s)) room
  rw [takeBurst_new new far, taken_burstAnswered, taken, noted, burstPassed, passed]
  rw [burstNoted, nodeOf_updNode_same]
  simp

/-- An authentic burst of a member of a cluster in use is taken, on a transceiver in service (R158). -/
theorem exec_eventBurst {t n : Nat} {b : Burst} {s : State} (serves : inService s b.xcvr = true)
    (live : (active s).isSome = true) (fcs : b.fcsOk = true) (hc : b.cluster < 256) (used : inUse s b.cluster = true)
    (member : memberNode s b.cluster b.member = some n) (mic : b.micOk = true)
    (fresh : (nodeOf s n).upCounter.all (fun k => decide (k < b.counter)) = true) :
    exec (.eventBurst t b) s = done (tick t s) (takeBurst b n (frameIn b.xcvr (tick t s))) := by
  obtain ⟨dict, mac, -, -⟩ := frameIn_frame b.xcvr (tick t s)
  have hears : ¬ (!inService (tick t s) b.xcvr || (active (tick t s)).isNone) = true := by
    have serves : inService (tick t s) b.xcvr = true := serves
    have live : (active (tick t s)).isSome = true := live
    simp [serves, Option.isSome_iff_ne_none.1 live]
  have used : inUse (frameIn b.xcvr (tick t s)) b.cluster = true := (inUse_of_dict (s := s) dict _).trans used
  have member : memberNode (frameIn b.xcvr (tick t s)) b.cluster b.member = some n :=
    (memberNode_congr (s := s) dict mac ..).trans member
  have node : nodeOf (frameIn b.xcvr (tick t s)) n = nodeOf s n := nodeOf_of_mac (s := s) mac n
  refine congrArg (done (tick t s)) ((if_neg hears).trans ((if_neg (by simp [fcs])).trans ?_))
  change (match (if b.cluster < 256 ∧ inUse (frameIn b.xcvr (tick t s)) b.cluster then
      memberNode (frameIn b.xcvr (tick t s)) b.cluster b.member else none) with | none => _ | some n => _) = _
  rw [if_pos ⟨hc, used⟩, member]
  refine if_neg ?_
  change ¬ (!b.micOk || (match (nodeOf (frameIn b.xcvr (tick t s)) n).upCounter with | some k => _ | none => _)) = true
  rw [node, mic]
  cases hk : (nodeOf s n).upCounter with
  | none => simp
  | some k => simpa [hk] using fresh

end Sys2Proof.Machine
end

section
/-!
PROOFS. Nodes ask to join, are approved and removed (R149, R150, R151), and the settlement of O24.
-/
namespace Sys2Proof.Machine

open Sys2Proof.Safety

/-! ### Joins (R149, R150) -/

/-- A join request as it is held. -/
def joinAsked (x : Nat) (ei no ke : Bytes) (a : Nat) (sg : Int) : Join :=
  { xcvr := x, eui := fit 8 ei, nonce := no, key := ke, asn := a, node := none, eph := 0, own := [], sig := [], parts := [],
    waited := 0, rssi := sg }

/-- A join request is held, in the place of one of the same node. -/
def joinHeld (j : Join) (s : State) : State :=
  updMac (fun m => { m with joins := (m.joins.filter (fun k => !(k.eui == j.eui && k.parts.isEmpty))) ++ [j] }) s

theorem exec_joinKey {t a : Nat} {x : Fin 4} {ei no ke : Bytes} {sg : Int} {s : State} (up : radioUp s = true)
    (serves : inService s x.val = true) (mode : xMode s x.val = 7 ∨ xMode s x.val = 8) (slot : a % 256 = 126) :
    exec (.joinKey t x ei no ke a sg) s =
      done (tick t s) (frameIn x.val (joinHeld (joinAsked x.val ei no ke a sg) (tick t s))) := by
  refine congrArg (done (tick t s)) (if_neg ?_)
  have up : radioUp (tick t s) = true := up
  have serves : inService (tick t s) x.val = true := serves
  have mode : xMode (tick t s) x.val = 7 ∨ xMode (tick t s) x.val = 8 := mode
  simpa [up, serves, slotOf, slot] using or_iff_not_imp_left.1 mode

/-- A join that proceeds for node `n`: the module's key, nonce and signature are drawn, and five parts are due. -/
def joinGranted (n : Nat) (j : Join) (s : State) : State :=
  let eph := freeNat s
  let s := draw s
  let own := fit 8 (freeBytes s)
  let s := draw s
  let j2 : Join := { j with node := some n, eph, own, sig := fit 96 (freeBytes s),
                            parts := [(4, 0), (4, 1), (4, 2), (5, 0), (5, 1)] }
  draw (updMac (fun m => { m with joins := m.joins.map (fun k => if k == j then j2 else k) }) s)

theorem exec_joinSig {t a n : Nat} {x : Fin 4} {ei no : Bytes} {j : Join} {s : State}
    (found : s.mac.joins.find? (fun j =>
      j.eui == fit 8 ei && j.nonce == no && j.xcvr == x.val && j.parts.isEmpty && j.asn / 256 == a / 256) = some j)
    (up : radioUp s = true) (slot : a % 256 = 254) (row : euiRow s j.eui = some n) (approved : rNat (dirRow s n) 4 ≠ 0)
    (home : (dirCluster s n).isSome = true) :
    exec (.joinSig t x ei no a true) s = done (tick t s) (joinGranted n j (frameIn x.val (tick t s))) := by
  obtain ⟨dict, -⟩ := frameIn_frame x.val (tick t s)
  have found : (tick t s).mac.joins.find? (fun j =>
      j.eui == fit 8 ei && j.nonce == no && j.xcvr == x.val && j.parts.isEmpty && j.asn / 256 == a / 256) = some j := found
  have heard : ¬ (!radioUp (tick t s) || slotOf a != 254) = true := by
    have up : radioUp (tick t s) = true := up
    simp [up, slotOf, slot]
  have row : euiRow (frameIn x.val (tick t s)) j.eui = some n := (euiRow_of_dict (s := s) dict _).trans row
  have approved : rNat (dirRow (frameIn x.val (tick t s)) n) 4 ≠ 0 := by rwa [dirRow_of_dict (s := s) dict]
  have home : (dirCluster (frameIn x.val (tick t s)) n).isSome = true := by rwa [dirCluster_of_dict (s := s) dict]
  change done (tick t s) (match (tick t s).mac.joins.find? _ with | none => _ | some j => _) = _
  rw [found]
  refine congrArg (done (tick t s)) ((if_neg heard).trans ?_)
  change (match euiRow (frameIn x.val (tick t s)) j.eui with | none => _ | some n => _) = _
  rw [row]
  refine (if_neg approved).trans (if_neg ?_)
  change ¬ (!true || (dirCluster (frameIn x.val (tick t s)) n).isNone) = true
  simp [Option.isSome_iff_ne_none.1 home]

/-! ### Commands of the directory (R43, R150, R151) -/

/-- An EXEC that passes its checks has each argument in range (R43, R507). -/
theorem argRange_of_passes {obj : Nat} {cols : List ColKind} {nb : Bool} {t sid : Nat} {h : Hdr} {args : List TVal}
    {s : State} (hp : passes obj cols nb t h args sid s = true) : argRange obj 0 cols args = none := by
  obtain ⟨-, hc⟩ := Bool.and_eq_true_iff.1 hp
  rw [Option.isNone_iff_eq_none] at hc
  cases hr : argRange obj 0 cols args with
  | none => rfl
  | some r =>
    simp only [execCheck, hr] at hc
    repeat' split at hc
    all_goals cases hc

theorem argN_le_of_argRange {obj tag : Nat} {lo : Int} {hi : Nat} {cols : List ColKind} {args : List TVal}
    (h : argRange obj 0 (.int tag lo hi :: cols) args = none) : argN args 0 ≤ hi := by
  rcases args with _ | ⟨⟨tag', n | b⟩, as⟩
  · exact Nat.zero_le hi
  · have inside : n ≤ hi := by
      by_contra above
      simp [argRange, ColKind.inRange, above] at h
    change n.toNat ≤ hi
    omega
  · exact Nat.zero_le hi

/-- As `runs_execCmd`; and the radio stands as the effect left it. -/
theorem runs_execCmd_mac {c : Instr} {obj t sid : Nat} {cols : List ColKind} {h : Hdr} {args : List TVal}
    {eff : Nat → Session → State → Answer} {s v : State} {r : Reply} (hp : passes obj cols false t h args sid s = true)
    (he : exec c s = done (tick t s) (execCmd obj cols h args eff (tick t s)))
    (hop : eff sid (caller t sid s) (opState t h sid s) = (v, some r))
    (hs : v.ib.sessions = (opState t h sid s).ib.sessions) : Runs c s (fun u => Replied v sid h r u ∧ u.mac = v.mac) := by
  refine runs_both (runs_execCmd hp he hop hs) (runs_settled he fun u hu => hu.mac.trans ?_)
  rw [execCmd_passes hp, hop]
  simp

/-- An approved row is stored, and its EUI-64 waits no more (R150). -/
def rowApproved (eui : Bytes) (n : Nat) (row : Row) (s : State) : State :=
  updMac (fun m => { m with waiting := m.waiting.filter (fun w => w.eui != eui) }) (putRow 0x40500 n row s)

/-- What a row that is about to be overwritten held ends: a node that moves leaves its cluster, a join of another row ends
(R151). -/
def rowVacated (moved : Bool) (n : Nat) (row : Row) (s : State) : State :=
  if moved then leaveCluster n s else if dirRow s n = row then s else dropJoins n s

theorem rowVacated_frame (moved : Bool) (n : Nat) (row : Row) (s : State) :
    (rowVacated moved n row s).ib = s.ib ∧ (rowVacated moved n row s).mac.waiting = s.mac.waiting := by
  unfold rowVacated
  repeat' split
  · exact ⟨leaveCluster_ib n s, leaveCluster_waiting n s⟩
  · exact ⟨rfl, rfl⟩
  · exact ⟨rfl, rfl⟩

theorem getRow_rowApproved (eui : Bytes) (n : Nat) (row : Row) (s : State) :
    getRow (rowApproved eui n row s) 0x40500 n = row := by
  have stored : mget (rowApproved eui n row s).dict.store (okey 0x40500 n) = some row := mget_mset_same ..
  rw [getRow, stored]

/-- Settles O24: it holds. Neither the answer to a burst nor the record of a node heard again touches the burst's marks; a
join is held or granted in one change; a departure of a node moves, beside its link state, only tickets, bookings and air
time. -/
theorem burstsAndJoins : Obligations.BurstsAndJoins := by
  unfold Obligations.BurstsAndJoins
  refine ⟨?burst, ?key, ?sig, ?pending, ?approve, ?remove⟩
  case burst =>
    intro t n b s serves live fcs hc used member mic fresh far new room
    refine runs_settled (exec_eventBurst serves live fcs hc used member mic fresh) fun u hu => ?_
    obtain ⟨-, mac, trk, clk⟩ := frameIn_frame b.xcvr (tick t s)
    have marks := taken_takeBurst (b := b) (n := n) (s := frameIn b.xcvr (tick t s))
      (by rwa [nodeOf_of_mac (s := s) mac]) far (by rwa [trk])
    rw [← taken_of_mac hu.mac hu.trk, trk, clk] at marks
    obtain ⟨counter, rest⟩ := Prod.mk.inj marks
    obtain ⟨level, queue⟩ := Prod.mk.inj rest
    exact ⟨counter, level, queue⟩
  case key =>
    intro t a x ei no ke sg s up serves mode slot
    refine runs_settled (exec_joinKey up serves mode slot) fun u hu => ?_
    obtain ⟨-, mac, -⟩ := frameIn_frame x.val (joinHeld (joinAsked x.val ei no ke a sg) (tick t s))
    rw [hu.mac, mac]
    exact List.mem_append_right _ (List.mem_singleton_self _)
  case sig =>
    intro t a n x ei no j s found up slot row approved home
    refine runs_settled (exec_joinSig found up slot row approved home) fun u hu => ?_
    obtain ⟨-, mac, -⟩ := frameIn_frame x.val (tick t s)
    rw [hu.mac, show s.mac = (frameIn x.val (tick t s)).mac from mac.symm]
    exact ⟨_, _, _, rfl⟩
  case pending => exact fun t ei s => runs_settled (s0 := tick t s) rfl fun u hu => by rw [hu.mac]; rfl
  case approve =>
    intro t sid h args s hp sound idle
    have sound : ¬ dirBad (opState t h sid s) (argN args 2) [.bytes (argB args 0), .bytes (argB args 1), vN (argN args 3),
        vN (argN args 4), vN 1] = true := Bool.eq_false_iff.1 sound
    have idle : ¬ radioEpochOpen (opState t h sid s) = true := Bool.eq_false_iff.1 idle
    have run := runs_execCmd_mac (c := .approveJoin t h args) hp rfl ((if_neg sound).trans (if_neg idle)) ?sessions
    case sessions => exact congrArg Ibier.sessions (rowVacated_frame _ _ _ (opState t h sid s)).1
    refine runs_mono run fun u ⟨⟨dict, _, reply⟩, mac⟩ => ⟨?row, ?waiting, ?reply⟩
    case row => exact (getRow_of_dict dict ..).trans (getRow_rowApproved ..)
    case waiting =>
      rw [mac]
      exact congrArg (List.filter _) (rowVacated_frame _ _ _ (opState t h sid s)).2
    case reply => exact obj_of_passes hp ▸ reply
  case remove =>
    intro t sid h args s hp
    have run := runs_execCmd_mac (c := .removeNode t h args) hp rfl rfl
      (congrArg Ibier.sessions (removeRow_ib (argN args 0) (opState t h sid s)))
    have small : argN args 0 ≤ 8191 := argN_le_of_argRange (hi := 8191) (argRange_of_passes hp)
    refine runs_mono run fun u ⟨⟨dict, _, reply⟩, mac⟩ => ⟨?row, ?node, ?reply⟩
    case row =>
      rw [dict]
      exact mget_store_removeRow (by omega) _
    case node =>
      rw [mac]
      exact mget_nodes_removeRow ..
    case reply => exact obj_of_passes hp ▸ reply

end Sys2Proof.Machine
end

section
/-!
PROOFS. What the cancellation, the switch and the verification of an epoch leave of the directory and of the epochs (R184,
R187, R188).
-/
namespace Sys2Proof.Machine

open Sys2Proof.Safety

/-! ### The nodes assigned -/

/-- A stored value that a selection of the store passes over changes nothing of what it selects. -/
theorem filterMap_mset {α β : Type} {f : Nat × α → Option β} {k : Nat} (h : ∀ v, f (k, v) = none) (v : α)
    (m : NMap α) : (mset m k v).filterMap f = m.filterMap f := by
  induction m with
  | nil => simp [mset, h]
  | cons p r ih =>
    obtain ⟨j, w⟩ := p
    unfold mset
    split
    · simp [h]
    · split
      · next same => simp [← same, h]
      · simp [List.filterMap_cons, ih]

theorem SameRowsBut.getRow {objs : List Nat} {s u : State} (h : SameRowsBut objs s u) (hm : 0x30101 ∉ objs) {n r : Nat}
    (hn : n ∉ objs) (hr : r < 4294967296) : getRow u n r = getRow s n r := by
  have default : defRow u n r = defRow s n r := by rw [defRow, defRow, h.modId hm]
  rw [Machine.getRow, Machine.getRow, h.store n r hr hn, h.logs, default]

theorem assigned_of_dict {s u : State} (h : u.dict = s.dict) : assigned u = assigned s := by
  simp only [assigned, storedRows, dirCluster_of_dict h, h]

/-- A row stored elsewhere than in the directory and the module's own identity assigns no node and frees none. -/
theorem assigned_of_store {n r : Nat} {v : Row} {s u : State} (hr : r < 4294967296) (dir : n ≠ 0x40500)
    (self : n ≠ 0x30101) (hs : u.dict.store = mset s.dict.store (okey n r) v) (hl : u.dict.logs = s.dict.logs) :
    assigned u = assigned s := by
  have rows : storedRows u 0x40500 = storedRows s 0x40500 := by
    rw [storedRows, storedRows, hs]
    exact filterMap_mset (by simp [okey_object hr, dir]) ..
  have same : SameRowsBut [n] s u := sameRowsBut_of_store hr hs hl
  rw [assigned, assigned, rows]
  refine List.filter_congr fun k hk => ?_
  obtain ⟨p, -, found⟩ := List.mem_filterMap.1 hk
  have small : k < 4294967296 := by
    split at found
    · exact Option.some.inj found ▸ Nat.mod_lt _ (by decide)
    · cases found
  rw [dirCluster, dirCluster, dirRow, dirRow, same.getRow (by simpa using self.symm) (by simpa using dir.symm) small]

theorem assigned_stickySet {bit : Nat} (h : bit < 4294967296) (detail : Nat) (s : State) :
    assigned (stickySet bit detail s) = assigned s := assigned_of_store h (by decide) (by decide) rfl rfl

theorem assigned_ropUp {n : Nat} (dir : n ≠ 0x40500) (self : n ≠ 0x30101) (k : Nat) (s : State) :
    assigned (ropUp n k s) = assigned s := assigned_of_store (r := 0) (by decide) dir self rfl rfl

theorem assigned_condSet {bit : Nat} (h : bit < 4294967296) (detail : Nat) (on : Bool) (s : State) :
    assigned (condSet bit detail on s) = assigned s := by
  unfold condSet
  split
  · split
    · rfl
    · exact assigned_stickySet h detail s
  · rfl

/-! ### A cancellation (R184) -/

/-- A value stored under each key of a list is read under each of them. -/
theorem mget_foldl_mset {α : Type} {l : List Nat} {n : Nat} (h : n ∈ l) (v : α) (m : NMap α) :
    mget (l.foldl (fun m n => mset m n v) m) n = some v := by
  have stored (l : List Nat) (m : NMap α) :
      mget (l.foldl (fun m n => mset m n v) m) n = if n ∈ l then some v else mget m n := by
    induction l generalizing m with
    | nil => rfl
    | cons k r ih =>
      rw [List.foldl_cons, ih]
      by_cases same : n = k
      · simp [same]
      · simp [same, mget_mset_ne m k n v same]
  rw [stored, if_pos h]

/-- The ARMED epoch of `p` is OPEN again: no node is armed, CANCELLED payloads and DISARM frames are due, and sticky bit 97
is set. -/
def BackToOpen (p : Epoch) (u : State) : Prop :=
  u.epoch.state = 1 ∧
  (u.epoch.cancel).map (fun c => (c.until_, c.epoch, c.switchAsn)) = some (p.switchAsn + 1024, p.next, p.switchAsn) ∧
  (∀ n, n ∈ p.armed → mget u.epoch.disarm n = some p.next) ∧ u.epoch.armed = [] ∧ u.dict.sticky.getLsbD 97 = true

theorem BackToOpen.congr {p : Epoch} {v u : State} (h : BackToOpen p v) (epoch : u.epoch = v.epoch)
    (sticky : u.dict.sticky = v.dict.sticky) : BackToOpen p u := by
  rwa [BackToOpen, epoch, sticky]

theorem backToOpen_cancelEpoch (s : State) : BackToOpen s.epoch (cancelEpoch s) := by
  unfold cancelEpoch
  extract_lets lack sw v
  have stuck : BackToOpen s.epoch (stickySet 97 v.epoch.next v) :=
    ⟨rfl, rfl, fun n hn => mget_foldl_mset hn .., rfl, stickySet_getLsbD_same (by decide) ..⟩
  exact stuck.congr (by simp) (record_sticky ..)

theorem cancelEpoch_ib (s : State) : (cancelEpoch s).ib = s.ib := by simp [cancelEpoch]

/-! ### The switch (R187) -/

/-- The epochs and the dictionary. -/
def epochDict (s : State) : Epoch × Dict := (s.epoch, s.dict)

theorem frame_of_epochDict {s u : State} (h : epochDict u = epochDict s) : u.epoch = s.epoch ∧ u.dict = s.dict :=
  Prod.mk.inj h

theorem epochDict_of_offBooks {s u : State} (h : offBooks u = offBooks s) : epochDict u = epochDict s :=
  (congrArg epochDict h :)

theorem updX_epochDict (x : Nat) (f : Xcvr → Xcvr) (s : State) : epochDict (updX x f s) = epochDict s := rfl

theorem updAdm_epochDict (f : Admission → Admission) (s : State) : epochDict (updAdm f s) = epochDict s := rfl

theorem bcastEach_offBooks {f : Nat → Nat → Nat → Nat → State → State}
    (h : ∀ x ch sf dur s, offBooks (f x ch sf dur s) = offBooks s) (sf x : Nat) (s : State) :
    offBooks (bcastEach f sf x s) = offBooks s := by
  refine foldl_keeps (part := offBooks) (fun s a => ?_) ..
  split
  · exact h ..
  · rfl

theorem gateReserve_offBooks (x ch sf dur : Nat) (s : State) : offBooks (gateReserve x ch sf dur s) = offBooks s :=
  ledgerPut_offBooks ..

theorem bcastReserve_epochDict (sf : Nat) (s : State) : epochDict (bcastReserve sf s) = epochDict s := by
  refine foldl_keeps (part := epochDict) (fun s x => ?_) ..
  split
  · exact (updX_epochDict ..).trans (epochDict_of_offBooks (bcastEach_offBooks gateReserve_offBooks ..))
  · rfl

theorem bcastUnreserve_epochDict (sf : Nat) (s : State) : epochDict (bcastUnreserve sf s) = epochDict s := by
  refine foldl_keeps (part := epochDict) (fun s x => ?_) ..
  split
  · exact (updX_epochDict ..).trans (epochDict_of_offBooks (bcastEach_offBooks gateRelease_offBooks ..))
  · rfl

theorem loseBooking_epochDict (b : Booking) (s : State) : epochDict (loseBooking b s) = epochDict s := by
  have counted (v : State) : epochDict (cntUp 0x50016 v) = epochDict v := by simp [epochDict]
  exact (counted _).trans (epochDict_of_offBooks (dropBookings_offBooks ..))

/-- Bookings that follow the hop function touch neither the epochs nor the dictionary. -/
theorem rechannel_epochDict (s : State) : epochDict (rechannel s) = epochDict s := by
  refine foldl_keeps (part := epochDict) (fun s b => ?_) ..
  dsimp only
  split
  · split
    · rfl
    · exact (updAdm_epochDict ..).trans
        (epochDict_of_offBooks ((gateReserve_offBooks ..).trans (gateRelease_offBooks ..)))
  · exact loseBooking_epochDict ..

/-- The epoch `p` announced as the next is in force in `q`, with its hash, content and segment part. -/
def InForce (p q : Epoch) : Prop :=
  q.inForce = p.next ∧ q.hashInForce = p.hashNext ∧ q.content = p.frozen ∧ q.segIn = p.segNext

/-- The switch brings the next epoch into force, to be verified, and assigns the same nodes as before. -/
theorem switchEpoch_switches (s : State) :
    (InForce s.epoch (switchEpoch s).epoch ∧ (switchEpoch s).epoch.state = 3) ∧
      assigned (switchEpoch s) = assigned s := by
  unfold switchEpoch
  extract_lets s1 s2 s3 s4 left trk s5
  obtain ⟨epoch1, dict1⟩ : s1.epoch = s.epoch ∧ s1.dict = s.dict :=
    frame_of_epochDict ((bcastUnreserve_epochDict ..).trans (bcastUnreserve_epochDict ..))
  clear_value s1
  have switched : InForce s.epoch s3.epoch ∧ s3.epoch.state = 3 := epoch1 ▸ ⟨⟨rfl, rfl, rfl, rfl⟩, rfl⟩
  obtain ⟨epoch, dict⟩ := frame_of_epochDict ((bcastReserve_epochDict (frame s3 + 1) _).trans
    ((bcastReserve_epochDict (frame s3) _).trans (rechannel_epochDict s3)))
  have epoch4 : s4.epoch = s3.epoch := by simpa [s4] using epoch
  have counted : assigned s4 = assigned s :=
    (assigned_ropUp (by decide) (by decide) ..).trans (assigned_of_dict (dict.trans dict1))
  clear_value s4
  refine ⟨?_, (assigned_condSet (by decide) ..).trans counted⟩
  rwa [show (condSet 96 0 (zoneStale s5) s5).epoch = s3.epoch by simpa using epoch4]

/-! ### The verification (R188) -/

/-- The end of the verification leaves the epochs IDLE, with the nodes not verified counted. -/
theorem endVerify_epoch (s : State) : (endVerify s).epoch = { s.epoch with
    state := 0, mismatched := ((assigned s).filter (fun n => !s.epoch.verified.contains n)).length } := by
  unfold endVerify
  extract_lets bad sw idle
  split
  · rfl
  · change _ = idle.epoch
    simp

theorem InForce.endVerify {p : Epoch} {s : State} (h : InForce p s.epoch) :
    InForce p (endVerify s).epoch ∧ (endVerify s).epoch.state = 0 := by
  rw [endVerify_epoch]
  exact ⟨h, rfl⟩

end Sys2Proof.Machine
end

section
/-!
PROOFS. The commands of the epoch changeover (R180, R182, R184, R187, R188, R195), and the settlement of O25.
-/
namespace Sys2Proof.Machine

open Sys2Proof.Safety

/-- As `runs_execCmd`; and the epochs stand as the effect left them. -/
theorem runs_execCmd_epoch {c : Instr} {obj t sid : Nat} {cols : List ColKind} {h : Hdr} {args : List TVal}
    {eff : Nat → Session → State → Answer} {s v : State} {r : Reply} (hp : passes obj cols false t h args sid s = true)
    (he : exec c s = done (tick t s) (execCmd obj cols h args eff (tick t s)))
    (hop : eff sid (caller t sid s) (opState t h sid s) = (v, some r))
    (hs : v.ib.sessions = (opState t h sid s).ib.sessions) :
    Runs c s (fun u => Replied v sid h r u ∧ u.epoch = v.epoch) := by
  refine runs_both (runs_execCmd hp he hop hs) (runs_settled he fun u hu => hu.epoch.trans ?_)
  rw [execCmd_passes hp, hop]
  simp

/-! ### Opening and arming (R180, R182) -/

/-- EPOCH_OPEN with no image or a READY one, in IDLE with no other waiting and the time known, waits for a commit's
boundary. -/
theorem runs_epochOpen {t sid : Nat} {h : Hdr} {args : List TVal} {s : State}
    (hp : passes 0x60300 [cU32] false t h args sid s = true)
    (image : argN args 0 = 0 ∨ s.epoch.store.any (fun k => k.id == argN args 0 && k.state == 2) = true)
    (known : timeQuality (opState t h sid s) ≠ 4) (idle : s.epoch.state = 0) (alone : s.epoch.openAt = none) :
    Runs (.epochOpen t h args) s (fun u => u.epoch.openAt = some (applyAsn (tick t s), argN args 0) ∧
      u.epoch.opener = (caller t sid s).client ∧
      Answered u sid h { okReply 0x60300 with applyAsn := applyAsn (tick t s) }) := by
  have ready : ¬ (argN args 0 ≠ 0 ∧ !s.epoch.store.any (fun k => k.id == argN args 0 && k.state == 2)) := by
    rintro ⟨named, missing⟩
    simp [image.resolve_left named] at missing
  have free : ¬ (s.epoch.state ≠ 0 ∨ s.epoch.openAt.isSome) := by simp [idle, alone]
  have run := runs_execCmd_epoch (c := .epochOpen t h args) hp rfl
    ((if_neg ready).trans ((if_neg known).trans (if_neg free))) rfl
  refine runs_mono run fun u ⟨⟨_, _, reply⟩, epoch⟩ => ?_
  rw [epoch]
  exact ⟨rfl, rfl, obj_of_passes hp ▸ reply⟩

/-- The earliest switch ASN is a superframe's first and within the limits (R182). -/
theorem armLimits_earliest {sw : Nat} {s : State} (h : sw = (armLimits s).1) :
    ¬ (sw % 256 ≠ 0 ∨ sw < (armLimits s).1 ∨ (armLimits s).2 < sw) := by
  have boundary : (armLimits s).1 % 256 = 0 := Nat.mul_mod_left ..
  have early : (armLimits s).1 ≤ (armLimits s).2 := by
    unfold armLimits
    split <;> omega
  omega

/-- An epoch whose assigned nodes are all staged is armed for the earliest switch (R182). -/
theorem runs_epochArm {t sid : Nat} {h : Hdr} {args : List TVal} {s : State}
    (hp : passes 0x60302 [cU64, .bool] false t h args sid s = true) (earliest : argN args 0 = 0) (opened : s.epoch.state = 1)
    (staged : (assigned s).all (fun n => s.epoch.staged.contains n) = true) :
    Runs (.epochArm t h args) s (fun u => u.epoch.state = 2 ∧
      u.epoch.switchAsn = (frame (tick t s) + (if s.epoch.radio then 8 else 4)) * 256 ∧ u.epoch.armed = [] ∧
      Answered u sid h (okReply 0x60302)) := by
  have due : (if argN args 0 = 0 then (armLimits (opState t h sid s)).1 else argN args 0) =
      (armLimits (opState t h sid s)).1 := if_pos earliest
  have whole : ¬ (((assigned s).filter (fun n => !s.epoch.staged.contains n)).length ≠ 0 ∧
      (s.epoch.radio ∨ argN args 1 = 0)) := by
    rw [List.filter_eq_nil_iff.2 (by simpa using staged)]
    simp
  have run := runs_execCmd_epoch (c := .epochArm t h args) hp rfl
    ((if_neg (armLimits_earliest due)).trans ((if_neg (not_not.2 opened)).trans (if_neg whole))) rfl
  refine runs_mono run fun u ⟨⟨_, _, reply⟩, epoch⟩ => ?_
  rw [epoch]
  exact ⟨rfl, due, rfl, obj_of_passes hp ▸ reply⟩

/-! ### Abandoning and cancelling (R184) -/

theorem mem_insertNat_self (n : Nat) (l : List Nat) : n ∈ insertNat n l := by
  induction l with
  | nil => exact List.mem_singleton_self n
  | cons x r ih =>
    unfold insertNat
    split
    · exact List.mem_cons_self
    · split
      · next same => exact same ▸ List.mem_cons_self
      · exact List.mem_cons_of_mem x ih

/-- An abandoned OPEN epoch is IDLE, its number used up and no node staged. -/
theorem runs_epochAbandon_open {t sid : Nat} {h : Hdr} {args : List TVal} {s : State}
    (hp : passes 0x60303 [] false t h args sid s = true) (opened : s.epoch.state = 1) :
    Runs (.epochAbandon t h args) s (fun u => u.epoch.state = 0 ∧ s.epoch.next ∈ u.epoch.abandoned ∧
      u.epoch.staged = [] ∧ Answered u sid h (okReply 0x60303)) := by
  have run := runs_execCmd_epoch (c := .epochAbandon t h args) hp rfl (if_pos opened) rfl
  refine runs_mono run fun u ⟨⟨_, _, reply⟩, epoch⟩ => ?_
  rw [epoch]
  exact ⟨rfl, mem_insertNat_self .., rfl, obj_of_passes hp ▸ reply⟩

/-- An ARMED epoch is abandoned by its cancellation, more than two superframes before its switch. -/
theorem runs_epochAbandon_armed {t sid : Nat} {h : Hdr} {args : List TVal} {s : State}
    (hp : passes 0x60303 [] false t h args sid s = true) (armed : s.epoch.state = 2)
    (early : asn (tick t s) + 512 < s.epoch.switchAsn) :
    Runs (.epochAbandon t h args) s (BackToOpen s.epoch) := by
  have unopened : ¬ s.epoch.state = 1 := by simp [armed]
  have run := runs_execCmd_epoch (c := .epochAbandon t h args) hp rfl
    ((if_neg unopened).trans ((if_pos armed).trans (if_pos early))) (congrArg Ibier.sessions (cancelEpoch_ib _))
  exact runs_mono run fun u ⟨⟨dict, _, _⟩, epoch⟩ =>
    (backToOpen_cancelEpoch (opState t h sid s)).congr epoch (congrArg Dict.sticky dict)

/-! ### The epoch's own instants (R184, R187, R188) -/

theorem exec_epochPreswitchCheck {t : Nat} {s : State} (armed : s.epoch.state = 2) (radio : s.epoch.radio = true)
    (beacons : s.epoch.resume = 0) (near : s.epoch.switchAsn ≤ asn (tick t s) + 512)
    (ahead : asn (tick t s) < s.epoch.switchAsn) (lacking : (assigned s).all (fun n => s.epoch.armed.contains n) = false) :
    exec (.epochPreswitchCheck t) s = done (tick t s) (cancelEpoch (tick t s)) := by
  have lacking : (assigned (tick t s)).all (fun n => (tick t s).epoch.armed.contains n) = false := lacking
  exact congrArg (done (tick t s)) (if_pos ⟨armed, radio, beacons, near, ahead, by rw [lacking]; rfl⟩)

theorem exec_cancelledPayloadEnd {t : Nat} {c : Cancelled} {s : State} (found : s.epoch.cancel = some c)
    (past : c.until_ ≤ asn (tick t s)) :
    exec (.cancelledPayloadEnd t) s = done (tick t s) (updEp (fun p => { p with cancel := none }) (tick t s)) := by
  have found : (tick t s).epoch.cancel = some c := found
  change execCancelledPayloadEnd t s = _
  simp only [execCancelledPayloadEnd, found, if_pos past]

/-- At its switch ASN an ARMED epoch comes into force; with no node to verify it, its verification ends at once. -/
theorem exec_epochSwitch {t : Nat} {s : State} (armed : s.epoch.state = 2) (due : s.epoch.switchAsn ≤ asn (tick t s)) :
    exec (.epochSwitch t) s = done (tick t s)
      (if (assigned s).isEmpty then endVerify (switchEpoch (tick t s)) else switchEpoch (tick t s)) := by
  have same : assigned (switchEpoch (tick t s)) = assigned s := (switchEpoch_switches (tick t s)).2
  rw [← same]
  exact congrArg (done (tick t s)) (if_pos ⟨armed, due⟩)

theorem exec_epochVerifyTimeout {t : Nat} {s : State} (switched : s.epoch.state = 3)
    (due : s.epoch.switchAsn + 64 * 256 ≤ asn (tick t s)) :
    exec (.epochVerifyTimeout t) s = done (tick t s) (endVerify (tick t s)) :=
  congrArg (done (tick t s)) (if_pos ⟨switched, due⟩)

/-- Settles O25: it holds. Each command sets the epoch machine in one change, which the answer and the closing of the step
leave as it is; the switch moves air time and bookings beside it, and no row of the directory. -/
theorem epochLife : Obligations.EpochLife := by
  unfold Obligations.EpochLife
  refine ⟨?openPlain, ?openImage, ?arm, ?switch, ?verify, ?abandon, ?cancel, ?check, ?payload, ?discard⟩
  case openPlain =>
    intro t sid h args s hp plain known idle alone
    exact runs_mono (runs_epochOpen hp (.inl plain) known idle alone) fun u ⟨waits, opener, reply⟩ =>
      ⟨plain ▸ waits, opener, reply⟩
  case openImage =>
    intro t sid h args s hp _ ready known idle alone
    exact runs_mono (runs_epochOpen hp (.inr ready) known idle alone) fun u ⟨waits, _, reply⟩ => ⟨waits, reply⟩
  case arm => exact fun t sid h args s hp earliest opened staged => runs_epochArm hp earliest opened staged
  case switch =>
    intro t s armed due
    refine runs_settled (exec_epochSwitch armed due) fun u hu => ?_
    obtain ⟨⟨inForce, state⟩, -⟩ := switchEpoch_switches (tick t s)
    rw [hu.epoch]
    split
    · next unassigned =>
      obtain ⟨⟨number, hash, content, segments⟩, idle⟩ := inForce.endVerify
      exact ⟨number, hash, content, segments, .inr ⟨List.isEmpty_iff.1 unassigned, idle⟩⟩
    · obtain ⟨number, hash, content, segments⟩ := inForce
      exact ⟨number, hash, content, segments, .inl state⟩
  case verify =>
    intro t s switched due
    refine runs_settled (exec_epochVerifyTimeout switched due) fun u hu => ?_
    rw [hu.epoch, endVerify_epoch]
    exact ⟨rfl, rfl⟩
  case abandon => exact fun t sid h args s hp opened => runs_epochAbandon_open hp opened
  case cancel => exact fun t sid h args s hp armed early => runs_epochAbandon_armed hp armed early
  case check =>
    intro t s armed radio beacons near ahead lacking
    exact runs_settled (exec_epochPreswitchCheck armed radio beacons near ahead lacking) fun u hu =>
      (backToOpen_cancelEpoch (tick t s)).congr hu.epoch (congrArg Dict.sticky hu.dict)
  case payload =>
    exact fun t c s found past => runs_settled (exec_cancelledPayloadEnd found past) fun u hu => by rw [hu.epoch]; rfl
  case discard =>
    intro t sid h args s hp unnamed slot
    have run := runs_execCmd_epoch (c := .imageDiscard t h args) hp rfl (if_neg (Bool.eq_false_iff.1 unnamed)) rfl
    refine runs_mono run fun u ⟨⟨_, _, reply⟩, epoch⟩ => ?_
    rw [epoch]
    exact ⟨lget_lset_same _ _ _ _ slot, obj_of_passes hp ▸ reply⟩

end Sys2Proof.Machine
end

section
/-!
PROOFS. Traffic history (R220, R221, R229), the lighting classes of the zones (R222, R223), and the settlement of O28.
-/
namespace Sys2Proof.Machine

open Sys2Proof.Safety

/-! ### The closing of a step and the clock -/

/-- As `runs_settled`, for a meaning that moves the clock by its own instant only. -/
theorem runs_settled_clk {c : Instr} {s s0 v : State} {P : State → Prop} (he : exec c s = done s0 v) (hc : v.clk = s0.clk)
    (hP : ∀ u, Settled v u → u.clk = v.clk → P u) : Runs c s P := by
  obtain ⟨u, hu, settled⟩ := runs_settled (P := Settled v) he fun _ => id
  refine ⟨u, hu, hP u settled ?_⟩
  rw [he, done_eq] at hu
  rw [← Host.Outcome.next.inj hu, hc]

theorem time64_of_clk {s u : State} (h : u.clk = s.clk) : time64 u = time64 s := by rw [time64, time64, tai, tai, h]

theorem taiSec_of_clk {s u : State} (h : u.clk = s.clk) : taiSec u = taiSec s := by rw [taiSec, taiSec, tai, tai, h]

theorem hourOfWeek_of_dict {s u : State} (h : u.dict = s.dict) (sec : Nat) : hourOfWeek u sec = hourOfWeek s sec := by
  rw [hourOfWeek, hourOfWeek, civilSec, civilSec, stdSec, stdSec, zoneRules, zoneRules, getI, getI, getRow_of_dict h,
    getRow_of_dict h]

theorem getN_of_dict {s u : State} (h : u.dict = s.dict) (n : Nat) : getN u n = getN s n := by
  rw [getN, getN, getRow_of_dict h]

theorem getN_putN (n k : Nat) (s : State) : getN (putN n (k : Nat) s) n = k := by
  simp [getN, getRow, putN, putRow, rNat, Val.toNat]

/-- A key that a selection leaves out is absent from what it leaves. -/
theorem mget_filter_none {α : Type} {p : Nat × α → Bool} {k : Nat} (h : ∀ v, p (k, v) = false) (m : NMap α) :
    mget (m.filter p) k = none := by
  cases found : mget (m.filter p) k with
  | none => rfl
  | some v =>
    have kept := (List.mem_filter.1 (mem_of_mget found)).2
    rw [h v] at kept
    cases kept

/-! ### A zone (R222) -/

theorem zoneOf_congr {s u : State} (dict : u.dict = s.dict) (zones : u.trk.zones = s.trk.zones) (z : Nat) :
    zoneOf u z = zoneOf s z := by
  rw [zoneOf, zoneOf, zones, getC, getC, getRow_of_dict dict]

theorem zoneAt_of_dict {s u : State} (h : u.dict = s.dict) (v : Nat) : zoneAt u v = zoneAt s v := by
  rw [zoneAt, zoneAt, getC, getC, getC, getC, getRow_of_dict h]

@[simp] theorem zoneOf_tick (t : Nat) (s : State) (z : Nat) : zoneOf (tick t s) z = zoneOf s z := rfl

/-- A zone whose row was set. -/
theorem zoneOf_of_mset_same {x : Zone} {z : Nat} {s u : State} (zones : u.trk.zones = mset s.trk.zones z x) :
    zoneOf u z = x := by
  rw [zoneOf, zones, mget_mset_same]

/-- Another zone's row stands. -/
theorem zoneOf_of_mset_ne {x : Zone} {y z : Nat} {s u : State} (dict : u.dict = s.dict)
    (zones : u.trk.zones = mset s.trk.zones z x) (other : y ≠ z) : zoneOf u y = zoneOf s y := by
  rw [zoneOf, zoneOf, zones, mget_mset_ne _ _ _ _ other, getC, getC, getRow_of_dict dict]

@[simp] theorem zoneOf_updZone_same (z : Nat) (f : Zone → Zone) (s : State) : zoneOf (updZone z f s) z = f (zoneOf s z) :=
  zoneOf_of_mset_same (s := s) rfl

/-- The order of R222 looks at the settings, the time, and what a zone holds of its adaptive choice, its policy selection
and its override. -/
theorem chooseClass_congr {s u : State} {z : Nat} (dict : u.dict = s.dict) (clk : u.clk = s.clk)
    (adaptive : (zoneOf u z).adaptive = (zoneOf s z).adaptive) (policy : (zoneOf u z).policyNow = (zoneOf s z).policyNow)
    (override : (zoneOf u z).ovrNow = (zoneOf s z).ovrNow) : chooseClass u z = chooseClass s z := by
  unfold chooseClass ladder getN
  dsimp only
  rw [getRow_of_dict dict, getRow_of_dict dict, time64_of_clk clk, clk, adaptive, policy, override]

/-! ### A class comes into force (R222) -/

/-- The zone with the class and source that the order of R222 gives. -/
def zoneClassed (s : State) (z : Nat) : Zone :=
  let c := chooseClass s z
  { zoneOf s z with cls := c.1, source := c.2, since := if c.1 = (zoneOf s z).cls then (zoneOf s z).since else time64 s }

/-- A class that comes into force leaves what waits for a boundary and what the order of R222 chooses from. -/
@[simp] theorem zoneClassed_keeps (s : State) (z : Nat) :
    (zoneClassed s z).change = (zoneOf s z).change ∧ (zoneClassed s z).ovrNow = (zoneOf s z).ovrNow ∧
      (zoneClassed s z).policyChange = (zoneOf s z).policyChange ∧
      (zoneClassed s z).policyNow = (zoneOf s z).policyNow ∧ (zoneClassed s z).adaptive = (zoneOf s z).adaptive ∧
      (zoneClassed s z).expected = (zoneOf s z).expected := ⟨rfl, rfl, rfl, rfl, rfl, rfl⟩

/-- A state but for the SET_FLOOR distributions still to answer (R225). -/
def unfloored (s : State) : State := updTrk (fun t => { t with floors := [] }) s

/-- A class that comes into force sets its zone's row; the rest are floors. -/
theorem unfloored_applyClass (z : Nat) (s : State) :
    unfloored (applyClass z s) = unfloored (updTrk (fun t => { t with zones := mset t.zones z (zoneClassed s z) }) s) := by
  unfold applyClass
  exact foldl_keeps (part := unfloored) (fun _ _ => foldl_keeps (part := unfloored) (by exact fun _ _ => rfl) ..) ..

theorem applyClass_dict (z : Nat) (s : State) : (applyClass z s).dict = s.dict :=
  (congrArg State.dict (unfloored_applyClass z s) :)

theorem applyClass_clk (z : Nat) (s : State) : (applyClass z s).clk = s.clk :=
  (congrArg State.clk (unfloored_applyClass z s) :)

theorem applyClass_zones (z : Nat) (s : State) : (applyClass z s).trk.zones = mset s.trk.zones z (zoneClassed s z) :=
  (congrArg (fun u => u.trk.zones) (unfloored_applyClass z s) :)

theorem zoneOf_applyClass_same (z : Nat) (s : State) : zoneOf (applyClass z s) z = zoneClassed s z :=
  zoneOf_of_mset_same (applyClass_zones z s)

theorem zoneOf_applyClass_ne {y z : Nat} (other : y ≠ z) (s : State) : zoneOf (applyClass z s) y = zoneOf s y :=
  zoneOf_of_mset_ne (applyClass_dict z s) (applyClass_zones z s) other

/-- The class and source in force are those that the order of R222 gives then. -/
theorem chooseClass_applyClass (z : Nat) (s : State) : chooseClass (applyClass z s) z = chooseClass s z := by
  refine chooseClass_congr (applyClass_dict z s) (applyClass_clk z s) ?_ ?_ ?_
  all_goals simp [zoneOf_applyClass_same]

/-- A command that ends with a class coming into force leaves the zone with it. -/
theorem runs_applyClass {c : Instr} {t z : Nat} {s v : State} (he : exec c s = done (tick t s) (applyClass z v))
    (hc : v.clk = (tick t s).clk) :
    Runs c s (fun u => zoneOf u z = zoneClassed v z ∧ ((zoneOf u z).cls, (zoneOf u z).source) = chooseClass u z) := by
  refine runs_settled_clk he ((applyClass_clk z v).trans hc) fun u hu clk => ?_
  have zone : zoneOf u z = zoneOf (applyClass z v) z := zoneOf_congr hu.dict (by rw [hu.trk]) z
  have chosen : chooseClass u z = chooseClass v z :=
    (chooseClass_congr hu.dict clk (by rw [zone]) (by rw [zone]) (by rw [zone])).trans (chooseClass_applyClass z v)
  rw [chosen, zone, zoneOf_applyClass_same]
  exact ⟨rfl, rfl⟩

/-- A boundary that something waits for has come. -/
def boundaryPast (s : State) (a : Option Nat) : Bool := a.any (fun a => decide (a ≤ asn s))

theorem boundaryPast_some {s : State} {c : Option Nat} {a : Nat} (waits : c = some a) (past : a ≤ asn s) :
    boundaryPast s c = true := by
  rw [waits]
  exact decide_eq_true past

/-- A policy selection whose boundary has come is the one in force (R222). -/
def policyApplied (z : Nat) (s : State) : State :=
  if boundaryPast s (zoneOf s z).policyChange then
    updZone z (fun x => { x with policyNow := x.policy, policyChange := none }) s
  else s

/-- The override that ZONE_OVERRIDE holds is the one in force (R222). -/
def overrideApplied (z : Nat) (s : State) : State :=
  updZone z (fun x => { x with ovrNow := overrideOf s z, change := none }) s

theorem exec_classApply (t : Nat) (z : Fin 256) (s : State) : exec (.classApply t z) s = done (tick t s)
    (if !boundaryPast (tick t s) (zoneOf s z.val).change && !boundaryPast (tick t s) (zoneOf s z.val).policyChange then
       tick t s
     else if boundaryPast (tick t s) (zoneOf s z.val).change then
       applyClass z.val (overrideApplied z.val (policyApplied z.val (tick t s)))
     else applyClass z.val (policyApplied z.val (tick t s))) := by
  change execClassApply t z s = _
  unfold execClassApply
  extract_lets s0 x due
  have due_eq : due = boundaryPast (tick t s) := funext fun c => by cases c <;> rfl
  clear_value due
  subst due_eq
  rfl

theorem policyApplied_frame (z : Nat) (s : State) :
    (policyApplied z s).dict = s.dict ∧ (policyApplied z s).clk = s.clk := by
  unfold policyApplied
  split <;> exact ⟨rfl, rfl⟩

theorem zoneOf_policyApplied {z : Nat} {s : State} (due : boundaryPast s (zoneOf s z).policyChange = true) :
    zoneOf (policyApplied z s) z = { zoneOf s z with policyNow := (zoneOf s z).policy, policyChange := none } := by
  rw [policyApplied, if_pos due, zoneOf_updZone_same]

theorem zoneOf_overrideApplied (z : Nat) (s : State) :
    zoneOf (overrideApplied z s) z = { zoneOf s z with ovrNow := overrideOf s z, change := none } := by
  rw [overrideApplied, zoneOf_updZone_same]

theorem overrideOf_of_dict {s u : State} (h : u.dict = s.dict) (z : Nat) : overrideOf u z = overrideOf s z := by
  rw [overrideOf, overrideOf, getC, getC, getC, getC, getRow_of_dict h]

/-- A selection in force that has expired goes, and the class falls back (R222). -/
theorem exec_classHoldExpiry {t : Nat} {z : Fin 256} {p : Nat × Nat × Nat} {s : State}
    (now : (zoneOf s z.val).policyNow = some p) (past : p.2.1 ≤ max s.clk.fab t) :
    ∃ f, (f (zoneOf s z.val)).policyNow = none ∧
      exec (.classHoldExpiry t z) s = done (tick t s) (applyClass z.val (updZone z.val f (tick t s))) := by
  change ∃ f, _ ∧ execClassHoldExpiry t z s = _
  unfold execClassHoldExpiry
  extract_lets s0 x gone out left
  have ended : gone x.policyNow = true := by
    have now : x.policyNow = some p := now
    rw [now]
    exact decide_eq_true past
  rw [if_pos (by rw [ended, Bool.or_true, Bool.true_or])]
  exact ⟨_, if_pos ended, rfl⟩

/-! ### The adaptive choice (R223) -/

theorem expectedOf_of_dict {s u : State} (h : u.dict = s.dict) (z k : Nat) : expectedOf u z k = expectedOf s z k := by
  simp only [expectedOf, storedRows, getC, getRow_of_dict h, zoneAt_of_dict h, h]

/-- The expected traffic of a zone for the local hour that runs. -/
def expectedNow (s : State) (z : Nat) : Nat := expectedOf s z (hourOfWeek s (taiSec s))

theorem expectedNow_congr {s u : State} (dict : u.dict = s.dict) (clk : u.clk = s.clk) (z : Nat) :
    expectedNow u z = expectedNow s z := by
  rw [expectedNow, expectedNow, expectedOf_of_dict dict, hourOfWeek_of_dict dict, taiSec_of_clk clk]

/-- An adaptive choice takes the expected traffic into its zone's row; the rest of the row is the class in force. -/
theorem adaptZone_adapts (s : State) (z : Nat) :
    (adaptZone s z).dict = s.dict ∧ (adaptZone s z).clk = s.clk ∧ (∀ y, y ≠ z → zoneOf (adaptZone s z) y = zoneOf s y) ∧
      (zoneOf (adaptZone s z) z).expected = expectedNow s z := by
  unfold adaptZone
  extract_lets e l x a v
  have row : zoneOf v z = { x with adaptive := a, expected := e } := zoneOf_of_mset_same (s := s) rfl
  have same : (zoneOf v z).expected = e := by rw [row]
  have others (y : Nat) (other : y ≠ z) : zoneOf v y = zoneOf s y := zoneOf_of_mset_ne rfl rfl other
  split
  · refine ⟨applyClass_dict z v, applyClass_clk z v, fun y other => ?_, ?_⟩
    · exact (zoneOf_applyClass_ne other v).trans (others y other)
    · exact (congrArg Zone.expected (zoneOf_applyClass_same z v)).trans same
  · exact ⟨rfl, rfl, others, same⟩

/-- Each zone of a list takes its expected traffic, and no other zone changes it. -/
theorem foldl_adaptZone (l : List Nat) (s : State) (z : Nat) :
    (zoneOf (l.foldl adaptZone s) z).expected = if z ∈ l then expectedNow s z else (zoneOf s z).expected := by
  induction l generalizing s with
  | nil => rfl
  | cons y r ih =>
    obtain ⟨dict, clk, others, same⟩ := adaptZone_adapts s y
    rw [List.foldl_cons, ih, expectedNow_congr dict clk]
    by_cases here : z = y
    · subst here
      simp [same]
    · simp [here, others z here]

/-- A new local hour chooses anew for every zone. -/
theorem exec_adaptiveClassChange {t : Nat} {s : State} (new : civilHour (tick t s) ≠ s.trk.adaptHour) :
    exec (.adaptiveClassChange t) s = done (tick t s) (updTrk (fun k => { k with adaptHour := civilHour (tick t s) })
      ((List.range 256).foldl adaptZone (tick t s))) := if_neg new

theorem zoneOf_adaptHour (k : Nat) (s : State) (z : Nat) :
    zoneOf (updTrk (fun x => { x with adaptHour := k }) s) z = zoneOf s z := rfl

/-! ### Traffic history (R220, R221, R229) -/

theorem exec_historyHourEnd {t : Nat} {s : State} (ended : civilHour (tick t s) ≠ s.trk.hour) : ∃ v,
    exec (.historyHourEnd t) s = done (tick t s)
      (updTrk (fun k => { k with passages := [], nowCount := [], hour := civilHour (tick t s) }) v) :=
  ⟨_, if_neg ended⟩

theorem exec_turnsWeekEnd {t : Nat} {s : State} (ended : civilWeek (tick t s) ≠ s.trk.week) : ∃ v,
    exec (.turnsWeekEnd t) s = done (tick t s) (updTrk (fun k => { k with turnsNow := [], week := civilWeek (tick t s) })
      (putN 0x70201 (min 65535 (getN s 0x70201 + 1) : Nat) v)) :=
  ⟨_, if_neg ended⟩

/-- Whether a key of the store holds history of a vertex that a HIST_CLEAR names. -/
def historyOf (z : Nat) (s : State) (k : Nat) : Bool :=
  let n := k / 4294967296
  let r := k % 4294967296
  let v := if n = 0x70200 then r / 7 else r
  (n == 0x70200 || n == 0x70202) && (z == 255 || zoneAt s v == z)

/-- The history of a zone's vertices, or of all, goes, and no week of it is held (R229). -/
def historyCleared (z : Nat) (s : State) : State :=
  putN 0x70201 (0 : Nat) { s with dict := { s.dict with store := s.dict.store.filter (fun p => !historyOf z s p.1) } }

theorem runs_histClear {t sid : Nat} {h : Hdr} {args : List TVal} {s : State}
    (hp : passes 0x70210 [cU8] false t h args sid s = true) :
    Runs (.histClear t h args) s (Replied (historyCleared (argN args 0) (opState t h sid s)) sid h (rOk .empty)) :=
  runs_execCmd (c := .histClear t h args) hp rfl rfl rfl

/-- A row of history that a HIST_CLEAR names is not stored after it. -/
theorem mget_historyCleared {z n r : Nat} {s : State} (named : historyOf z s (okey n r) = true)
    (other : okey n r ≠ okey 0x70201 0) : mget (historyCleared z s).dict.store (okey n r) = none :=
  (mget_mset_ne _ _ _ _ other).trans (mget_filter_none (fun _ => by rw [named]; rfl) _)

theorem okey_row {n r : Nat} (h : r < 4294967296) : okey n r % 4294967296 = r := by
  unfold okey
  omega

theorem historyOf_turns {z v : Nat} {s : State} (small : v < 4294967296) (named : z = 255 ∨ zoneAt s v = z) :
    historyOf z s (okey 0x70202 v) = true := by
  simp [historyOf, okey_object small, okey_row small, named]

theorem historyOf_histogram {z r : Nat} {s : State} (small : r < 4294967296) (named : z = 255 ∨ zoneAt s (r / 7) = z) :
    historyOf z s (okey 0x70200 r) = true := by
  simp [historyOf, okey_object small, okey_row small, named]

/-- Settles O28: it holds. A class that comes into force is chosen by what the settings, the clock and the rest of its zone's
row say, and it changes none of these; history is cleared key by key. -/
theorem historyAndClasses : Obligations.HistoryAndClasses := by
  unfold Obligations.HistoryAndClasses
  refine ⟨?hour, ?week, ?override, ?policy, ?expiry, ?adaptive, ?clear⟩
  case hour =>
    intro t s ended
    obtain ⟨v, he⟩ := exec_historyHourEnd ended
    exact runs_settled he fun u hu => by rw [hu.trk]; exact ⟨rfl, rfl, rfl⟩
  case week =>
    intro t s ended
    obtain ⟨v, he⟩ := exec_turnsWeekEnd ended
    refine runs_settled he fun u hu => ?_
    rw [hu.trk, getN_of_dict hu.dict]
    exact ⟨rfl, rfl, getN_putN ..⟩
  case override =>
    intro t a z s due past
    have turn := boundaryPast_some (s := tick t s) due past
    obtain ⟨dict, clk⟩ := policyApplied_frame z.val (tick t s)
    have dict : (policyApplied z.val (tick t s)).dict = s.dict := dict
    have he := exec_classApply t z s
    rw [turn, if_neg (by simp), if_pos rfl] at he
    refine runs_mono (runs_applyClass he clk) fun u ⟨zone, chosen⟩ => ⟨?_, ?_, chosen⟩
    · simp [zone, zoneOf_overrideApplied]
    · simpa [zone, zoneOf_overrideApplied] using overrideOf_of_dict dict z.val
  case policy =>
    intro t a z s due past
    have turn := boundaryPast_some (s := tick t s) due past
    have applied : zoneOf (policyApplied z.val (tick t s)) z.val =
        { zoneOf s z.val with policyNow := (zoneOf s z.val).policy, policyChange := none } := zoneOf_policyApplied turn
    obtain ⟨-, clk⟩ := policyApplied_frame z.val (tick t s)
    have he := exec_classApply t z s
    rw [turn, if_neg (by simp)] at he
    split at he
    · refine runs_mono (runs_applyClass he clk) fun u ⟨zone, chosen⟩ => ⟨?_, ?_, chosen⟩
      all_goals simp [zone, zoneOf_overrideApplied, applied]
    · refine runs_mono (runs_applyClass he clk) fun u ⟨zone, chosen⟩ => ⟨?_, ?_, chosen⟩
      all_goals simp [zone, applied]
  case expiry =>
    intro t z p s now past
    obtain ⟨f, gone, he⟩ := exec_classHoldExpiry now past
    refine runs_mono (runs_applyClass he rfl) fun u ⟨zone, chosen⟩ => ⟨?_, chosen⟩
    simpa [zone] using gone
  case adaptive =>
    intro t s new
    refine runs_settled (exec_adaptiveClassChange new) fun u hu => ⟨congrArg Traffic.adaptHour hu.trk, fun z hz => ?_⟩
    rw [zoneOf_congr hu.dict (congrArg Traffic.zones hu.trk), zoneOf_adaptHour, foldl_adaptZone,
      if_pos (List.mem_range.2 hz), expectedNow]
  case clear =>
    intro t sid h args s hp
    refine runs_mono (runs_histClear hp) fun u ⟨dict, _, reply⟩ => ⟨?_, fun v hv named => ?_, fun r hr named => ?_, ?_⟩
    · exact (getN_of_dict dict _).trans (getN_putN ..)
    · rw [dict]
      refine mget_historyCleared (historyOf_turns hv named) fun same => ?_
      exact absurd (okey_inj_object hv (by decide) same) (by decide)
    · rw [dict]
      refine mget_historyCleared (historyOf_histogram hr named) fun same => ?_
      exact absurd (okey_inj_object hr (by decide) same) (by decide)
    · exact obj_of_passes hp ▸ reply

end Sys2Proof.Machine
end

section
/-!
PROOFS. What the tracker's shared operations leave alone: the settings, the clock, the ways to other modules, what was sent,
and of the traffic all but the tracks and their frames (R203 to R210, R219).
-/
namespace Sys2Proof.Machine

open Sys2Proof.Safety

/-! ### Work on the tracks -/

/-- The traffic but for the tracks, what they send, and the passages and turns they are counted for. -/
def besideTracks (s : State) : Traffic :=
  { s.trk with tracks := [], queues := [], clamps := 0, hseq := 0, gen := 0, trkAsn := 0, passages := [], turnsNow := [] }

/-- From `s` to `u` the tracker worked on its tracks: neither a setting nor the clock moved, the same lane is active, the
same ways lead to other modules, what was sent stays sent, and the rest of the traffic stands. -/
structure TrackWork (s u : State) : Prop where
  dict : u.dict = s.dict
  clk : u.clk = s.clk
  active : active u = active s
  route : ∀ d, route u d = route s d
  sent : ∀ dst cls m, TrunkSent s dst cls m → TrunkSent u dst cls m
  beside : besideTracks u = besideTracks s

theorem trunkSent_congr {s u : State} (trunk : u.trunk = s.trunk) (out : u.out = s.out) (lp : u.lp = s.lp) {dst cls : Nat}
    {m : TMsg} (h : TrunkSent s dst cls m) : TrunkSent u dst cls m := by
  simpa only [TrunkSent, SentOn, Sent, trunk, out, lp] using h

namespace TrackWork

variable {s v u : State}

theorem refl (s : State) : TrackWork s s := ⟨rfl, rfl, rfl, fun _ => rfl, fun _ _ _ h => h, rfl⟩

theorem trans (h : TrackWork s v) (k : TrackWork v u) : TrackWork s u where
  dict := k.dict.trans h.dict
  clk := k.clk.trans h.clk
  active := k.active.trans h.active
  route d := (k.route d).trans (h.route d)
  sent dst cls m hm := k.sent dst cls m (h.sent dst cls m hm)
  beside := k.beside.trans h.beside

/-- Nothing of it moves where at most tracks, counters and interrupt controllers do. -/
theorem of_frame (dict : u.dict = s.dict) (clk : u.clk = s.clk) (lanes : u.lanes.bare = s.lanes.bare)
    (trunk : u.trunk = s.trunk) (out : u.out = s.out) (lp : u.lp = s.lp) (beside : besideTracks u = besideTracks s) :
    TrackWork s u where
  dict := dict
  clk := clk
  active := active_of_bare lanes
  route d := route_congr (by rw [trunk]) (by rw [trunk]) (by rw [modId, modId, dict]) d
  sent _ _ _ := trunkSent_congr trunk out lp
  beside := beside

theorem of_updTrk {f : Traffic → Traffic} (h : besideTracks (updTrk f s) = besideTracks s) : TrackWork s (updTrk f s) :=
  of_frame rfl rfl rfl rfl rfl rfl h

theorem ingest (h : TrackWork s u) : u.trk.ingest = s.trk.ingest := (congrArg Traffic.ingest h.beside :)
theorem secEvents (h : TrackWork s u) : u.trk.secEvents = s.trk.secEvents := (congrArg Traffic.secEvents h.beside :)
theorem nowCount (h : TrackWork s u) : u.trk.nowCount = s.trk.nowCount := (congrArg Traffic.nowCount h.beside :)
theorem lists (h : TrackWork s u) : u.trk.lists = s.trk.lists := (congrArg Traffic.lists h.beside :)
theorem buffers (h : TrackWork s u) : u.trk.buffers = s.trk.buffers := (congrArg Traffic.buffers h.beside :)

end TrackWork

theorem updTrack_work (n : Nat) (f : Track → Track) (s : State) : TrackWork s (updTrack n f s) := .of_updTrk rfl

theorem cntUp_work (n : Nat) (s : State) : TrackWork s (cntUp n s) := by
  refine .of_frame ?_ ?_ ?_ ?_ ?_ ?_ ?_ <;> simp [besideTracks]

theorem icuRaise_work (n : Nat) (s : State) : TrackWork s (icuRaise n s) := by
  refine .of_frame ?_ ?_ ?_ ?_ ?_ ?_ ?_ <;> simp [besideTracks]

theorem trunkSend_work (dst cls : Nat) {m : TMsg} (plain : m.ib = none) (s : State) :
    TrackWork s (trunkSend dst cls m s) := by
  have sends : Sends (fun _ => True) s (trunkSend dst cls m s) := trunkSend_sends (by simp [plain]) dst cls s
  exact ⟨sends.dict, by simp, sends.active, sends.route, fun _ _ _ => sends.trunkSent, by simp [besideTracks]⟩

/-! ### What the frames and hand-offs of tracks change of them -/

/-- A track but for what sending its frames and hand-offs changes. -/
def Track.place (k : Track) : Track := { k with tseq := 0, frames := [], handoff := none, version := 0 }

/-- From `s` to `u` the tracker sent frames and hand-offs of its tracks: each track stands where it stood. -/
structure TrackSends (s u : State) : Prop extends TrackWork s u where
  place : ∀ n, (trackOf u n).place = (trackOf s n).place

namespace TrackSends

variable {s v u : State}

theorem refl (s : State) : TrackSends s s := ⟨.refl s, fun _ => rfl⟩

theorem trans (h : TrackSends s v) (k : TrackSends v u) : TrackSends s u :=
  ⟨h.toTrackWork.trans k.toTrackWork, fun n => (k.place n).trans (h.place n)⟩

theorem foldl {β : Type} {f : State → β → State} (hf : ∀ s b, TrackSends s (f s b)) (l : List β) (s : State) :
    TrackSends s (l.foldl f s) := by
  induction l generalizing s with
  | nil => exact refl s
  | cons b r ih => exact (hf s b).trans (ih (f s b))

theorem of_tracks (h : TrackWork s u) (tracks : u.trk.tracks = s.trk.tracks) : TrackSends s u :=
  ⟨h, fun n => by rw [trackOf, trackOf, tracks]⟩

theorem fromModule (h : TrackSends s u) (n : Nat) : (trackOf u n).fromModule = (trackOf s n).fromModule :=
  (congrArg Track.fromModule (h.place n) :)
theorem fromTrack (h : TrackSends s u) (n : Nat) : (trackOf u n).fromTrack = (trackOf s n).fromTrack :=
  (congrArg Track.fromTrack (h.place n) :)
theorem dead (h : TrackSends s u) (n : Nat) : (trackOf u n).dead = (trackOf s n).dead :=
  (congrArg Track.dead (h.place n) :)

end TrackSends

/-- A track row after its change (R227). -/
theorem trackOf_updTrack_same (n : Nat) (f : Track → Track) (s : State) : trackOf (updTrack n f s) n =
    { f (trackOf s n) with version := ((trackOf s n).version + 2) % 4294967296 } :=
  mgetD_mupd_same s.trk.tracks n Track.init fun k => { f k with version := (k.version + 2) % 4294967296 }

theorem trackOf_updTrack_ne {m n : Nat} (h : m ≠ n) (f : Track → Track) (s : State) :
    trackOf (updTrack n f s) m = trackOf s m := mgetD_mset_ne _ _ _ _ _ h

theorem updTrack_sends {f : Track → Track} (h : ∀ k, (f k).place = k.place) (n : Nat) (s : State) :
    TrackSends s (updTrack n f s) := by
  refine ⟨updTrack_work n f s, fun m => ?_⟩
  by_cases same : m = n
  · subst same
    rw [trackOf_updTrack_same]
    exact h _
  · rw [trackOf_updTrack_ne same]

theorem trkBatch_tracks (s0 s : State) : (trkBatch s0 s).trk.tracks = s.trk.tracks := by
  unfold trkBatch
  split
  · rfl
  · simp [updTrk]

/-- A batch is numbered and told to the policy cores (R227). -/
theorem trkBatch_sends (s0 s : State) : TrackSends s (trkBatch s0 s) := by
  refine .of_tracks ?_ (trkBatch_tracks s0 s)
  unfold trkBatch
  split
  · exact .refl s
  · exact .trans (.of_updTrk rfl) ((icuRaise_work ..).trans (icuRaise_work ..))

theorem trackOf_of_tracks {s u : State} (h : u.trk.tracks = s.trk.tracks) (n : Nat) : trackOf u n = trackOf s n := by
  rw [trackOf, trackOf, h]

theorem trackOf_cntUp (k : Nat) (s : State) (n : Nat) : trackOf (cntUp k s) n = trackOf s n :=
  trackOf_of_tracks (by simp) n

theorem trackOf_trkBatch (s0 s : State) (n : Nat) : trackOf (trkBatch s0 s) n = trackOf s n :=
  trackOf_of_tracks (trkBatch_tracks s0 s) n

/-- A frame enters a queue, and the tracks stand (R210). -/
theorem enqueue_queues (f : TrajFrame) (s : State) (x : Nat) :
    TrackWork s (enqueue f s x) ∧ (enqueue f s x).trk.tracks = s.trk.tracks := by
  unfold enqueue
  extract_lets q same q2 v
  have counted : TrackWork s v ∧ v.trk.tracks = s.trk.tracks := by
    unfold v
    split
    · exact ⟨cntUp_work .., by simp⟩
    · exact ⟨.refl s, rfl⟩
  exact ⟨counted.1.trans (.of_updTrk rfl), counted.2⟩

theorem enqueue_sends (f : TrajFrame) (s : State) (x : Nat) : TrackSends s (enqueue f s x) :=
  .of_tracks (enqueue_queues f s x).1 (enqueue_queues f s x).2

/-- The frame of a branch leaves (R209 to R212). -/
theorem sendBranch_sends (n b : Nat) (hops : List Hop) (s : State) : TrackSends s (sendBranch n b hops s) := by
  unfold sendBranch
  dsimp only
  split
  · exact .refl s
  · split
    · exact .refl s
    · refine .trans (.of_tracks (.of_updTrk rfl) rfl) ((updTrack_sends ?_ ..).trans (.foldl (enqueue_sends _) ..))
      exact fun _ => rfl

theorem issue_sends (n : Nat) (s : State) : TrackSends s (issue n s) :=
  (updTrack_sends (by exact fun _ => rfl) n s).trans
    (.foldl (fun s (p : List Hop × Nat) => sendBranch_sends n p.2 p.1 s) ..)

theorem sendEnd_sends (n b : Nat) (hops : List Hop) (s : State) : TrackSends s (sendEnd n b hops s) :=
  (updTrack_sends (by exact fun _ => rfl) n s).trans (.foldl (enqueue_sends _) ..)

theorem sendHandoff_trk (n hseq v dist : Nat) (s : State) : (sendHandoff n hseq v dist s).trk = s.trk := by
  simp [sendHandoff]

theorem sendHandoff_work (n hseq v dist : Nat) (s : State) : TrackWork s (sendHandoff n hseq v dist s) :=
  trunkSend_work _ _ rfl s

/-- A hand-off leaves where the path reaches a MATCHED boundary (R219). -/
theorem tryHandoff_sends (n : Nat) (s : State) : TrackSends s (tryHandoff n s) := by
  unfold tryHandoff
  dsimp only
  split
  · exact .refl s
  · split
    · exact .refl s
    · refine .trans (.of_tracks (.of_updTrk rfl) rfl) ((updTrack_sends ?_ ..).trans (.of_tracks (sendHandoff_work ..) ?_))
      · exact fun _ => rfl
      · rw [sendHandoff_trk]

theorem tryHandoffs_sends (s : State) : TrackSends s (tryHandoffs s) :=
  .foldl (fun s (p : Nat × Track) => tryHandoff_sends p.1 s) ..

/-! ### Tracks that end, merge, begin and take events -/

theorem endTrack_work (n : Nat) (s : State) : TrackWork s (endTrack n s) := updTrack_work ..

theorem endMerged_work (n : Nat) (s : State) : TrackWork s (endMerged n s) :=
  (TrackSends.foldl (fun s (p : List Hop × Nat) => sendEnd_sends n p.2 p.1 s) _ s).toTrackWork.trans (endTrack_work ..)

theorem mergeTrack_work (n : Nat) (s : State) : TrackWork s (mergeTrack n s).1 := by
  unfold mergeTrack
  split
  · exact .refl s
  · exact (endMerged_work ..).trans ((updTrack_work ..).trans ((updTrack_work ..).trans
      ((issue_sends ..).toTrackWork.trans ((tryHandoff_sends ..).toTrackWork.trans (cntUp_work ..)))))

/-- A track that nothing merges with stays as it is. -/
theorem mergeTrack_none {n : Nat} {s v : State} (h : mergeTrack n s = (v, none)) : v = s := by
  unfold mergeTrack at h
  split at h <;> cases h
  rfl

/-- A frame where R209 asks for one, and a hand-off where the path reaches a boundary. -/
def trackAnnounced (n : Nat) (send : Bool) (s : State) : State := tryHandoff n (if send then issue n s else s)

theorem trackAnnounced_sends (n : Nat) (send : Bool) (s : State) : TrackSends s (trackAnnounced n send s) := by
  refine .trans ?_ (tryHandoff_sends ..)
  split
  · exact issue_sends n s
  · exact .refl s

theorem settleTrack_alone {n : Nat} {s : State} (alone : mergeTrack n s = (s, none)) (send : Bool) :
    settleTrack n send s = trackAnnounced n send s := by
  rw [settleTrack, alone]
  rfl

theorem settleTrack_work (n : Nat) (send : Bool) (s : State) : TrackWork s (settleTrack n send s) := by
  cases merged : mergeTrack n s with
  | mk v survivor =>
    cases survivor with
    | none =>
      obtain rfl := mergeTrack_none merged
      rw [settleTrack_alone merged]
      exact (trackAnnounced_sends ..).toTrackWork
    | some lo =>
      have work := mergeTrack_work n s
      rw [settleTrack, merged]
      rwa [merged] at work

theorem passage_sends (v cls : Nat) (s : State) : TrackSends s (passage v cls s) := .of_tracks (.of_updTrk rfl) rfl

theorem countTurn_sends (cls : Nat) (s : State) (x : Nat × Nat × Nat) : TrackSends s (countTurn cls s x) := by
  unfold countTurn
  split
  · exact .refl s
  · exact .of_tracks (.of_updTrk rfl) rfl

theorem passage_if_sends {c : Prop} [Decidable c] (v cls : Nat) (s : State) :
    TrackSends s (if c then passage v cls s else s) := by
  split
  · exact passage_sends ..
  · exact .refl s

theorem takeEvent_work (n : Nat) (p : Presence) (s : State) : TrackWork s (takeEvent n p s) :=
  (updTrack_work ..).trans ((updTrack_work ..).trans ((TrackSends.foldl (countTurn_sends _) ..).toTrackWork.trans
    ((passage_if_sends ..).toTrackWork.trans (settleTrack_work ..))))

theorem startTrack_work (p : Presence) (s : State) : TrackWork s (startTrack p s) := by
  unfold startTrack
  split
  · exact (passage_if_sends ..).toTrackWork.trans (cntUp_work ..)
  · exact (updTrack_work ..).trans ((updTrack_work ..).trans
      ((passage_if_sends ..).toTrackWork.trans (settleTrack_work ..)))

end Sys2Proof.Machine
end

section
/-!
PROOFS. A track begins, is kept fresh, coasts, ends and is released (R201 to R205, R209), and the settlement of O26.
-/
namespace Sys2Proof.Machine

open Sys2Proof.Safety

/-- A command that ends with a batch of track updates leaves the tracks as the updates made them. -/
theorem runs_trkBatch {c : Instr} {s s0 s1 v : State} (he : exec c s = done s0 (trkBatch s1 v)) :
    Runs c s (fun u => ∀ n, trackOf u n = trackOf v n) :=
  runs_settled he fun _ hu n => (trackOf_of_tracks (congrArg Traffic.tracks hu.trk) n).trans (trackOf_trkBatch ..)

/-! ### Fresh frames (R209) -/

/-- A branch adds at most a frame that is built now. -/
theorem frames_sendBranch (n b : Nat) (hops : List Hop) (s : State) :
    ∀ g ∈ (trackOf (sendBranch n b hops s) n).frames, g ∈ (trackOf s n).frames ∨ g.built = s.clk.fab := by
  intro g hg
  unfold sendBranch at hg
  dsimp only at hg
  split at hg
  · exact .inl hg
  · split at hg
    · exact .inl hg
    · rw [trackOf, foldl_keeps (part := fun s => s.trk.tracks) (fun s x => (enqueue_queues _ s x).2), ← trackOf,
        trackOf_updTrack_same] at hg
      refine (List.mem_append.1 hg).imp_right fun new => ?_
      rw [List.mem_singleton.1 new]

theorem frames_foldl_sendBranch (n : Nat) (l : List (List Hop × Nat)) {s : State}
    (fresh : ∀ g ∈ (trackOf s n).frames, g.built = s.clk.fab) :
    ∀ g ∈ (trackOf (l.foldl (fun s p => sendBranch n p.2 p.1 s) s) n).frames, g.built = s.clk.fab := by
  induction l generalizing s with
  | nil => exact fresh
  | cons p r ih =>
    have clk := (sendBranch_sends n p.2 p.1 s).clk
    intro g hg
    rw [← clk]
    exact ih (fun g hg => by rw [clk]; exact (frames_sendBranch n p.2 p.1 s g hg).elim (fresh g) id) g hg

/-- A track that issues has no frame but those built now. -/
theorem frames_issue (n : Nat) (s : State) : ∀ g ∈ (trackOf (issue n s) n).frames, g.built = s.clk.fab := by
  refine frames_foldl_sendBranch n _ (s := updTrack n (fun k => { k with frames := [] }) s) fun g hg => ?_
  rw [trackOf_updTrack_same] at hg
  cases hg

/-- The midpoint between a moving frame's first and last time has passed since it was built: its track issues anew. -/
theorem exec_midpointRefresh {t n : Nat} {f : LastFrame} {e : Nat × Nat} {s : State} (live : isLive (trackOf s n) = true)
    (moves : (trackOf s n).speed ≠ 0) (only : (trackOf s n).frames = [f]) (last : f.entries.getLast? = some e)
    (moved : f.speed ≠ 0) (built : f.built < f.eta0 + travelAt f.speed e.2 / 2)
    (past : f.eta0 + travelAt f.speed e.2 / 2 ≤ max s.clk.fab t) :
    exec (.midpointRefresh t n) s = done (tick t s) (trkBatch (tick t s) (issue n (tick t s))) := by
  change execMidpointRefresh t n s = _
  unfold execMidpointRefresh
  extract_lets s0 k passed
  have mid : passed f = true := by
    have past : f.eta0 + travelAt f.speed e.2 / 2 ≤ s0.clk.fab := past
    simp [passed, last, moved, built, past]
  have live : isLive k = true := live
  have moves : k.speed ≠ 0 := moves
  have only : k.frames = [f] := only
  rw [if_pos (by simp [live, moves, only, mid])]

/-! ### Presence events (R201, R202, R204) -/

/-- What is left of the ingest queue, and the events of the second. -/
def intake (s : State) : List Presence × Nat := (s.trk.ingest, s.trk.secEvents)

theorem TrackWork.intake {s u : State} (h : TrackWork s u) : intake u = intake s := by
  rw [Machine.intake, Machine.intake, h.ingest, h.secEvents]

theorem intake_of_trk {s u : State} (h : u.trk = s.trk) : intake u = intake s := by rw [Machine.intake, Machine.intake, h]

/-- Whatever an event is, it is taken from the queue once and counted once. -/
theorem exec_presenceEventIngest_intake {t : Nat} {p : Presence} {r : List Presence} {s : State}
    (queue : s.trk.ingest = p :: r) : ∃ v, exec (.presenceEventIngest t) s = done (tick t s) v ∧
      intake v = (r, s.trk.secEvents + 1) := by
  change ∃ v, execPresenceEventIngest t s = _ ∧ _
  unfold execPresenceEventIngest
  extract_lets s0
  split
  · next empty => cases queue.symm.trans empty
  next q l found =>
  obtain ⟨rfl, rfl⟩ := List.cons.inj (queue.symm.trans found)
  extract_lets s1 s2 s3
  have pop : intake s1 = (r, s.trk.secEvents + 1) := rfl
  have late : intake s2 = intake s1 := by
    unfold s2
    split
    · exact (cntUp_work ..).intake
    · rfl
  have tally : intake s3 = (r, s.trk.secEvents + 1) := by
    unfold s3
    split <;> rfl
  split
  · exact ⟨_, rfl, (cntUp_work ..).intake.trans pop⟩
  split
  · exact ⟨_, rfl, (intake_of_trk (by simp)).trans (late.trans pop)⟩
  split
  · split
    · exact ⟨_, rfl, tally⟩
    split
    · exact ⟨_, rfl, (cntUp_work ..).intake.trans ((passage_if_sends ..).intake.trans tally)⟩
    split
    · exact ⟨_, rfl, (passage_if_sends ..).intake.trans tally⟩
    · refine ⟨_, rfl, (trkBatch_sends ..).intake.trans ?_⟩
      split
      · exact (takeEvent_work ..).intake.trans tally
      · exact (startTrack_work ..).intake.trans tally
  · exact ⟨_, rfl, pop⟩

/-- An ENTER leaves the queue, and counts in its second and in the running count of its lantern and class (R202, R220). -/
def entered (p : Presence) (r : List Presence) (s : State) : State :=
  updTrk (fun k => { k with nowCount := mupd k.nowCount (p.vertex * 4 + evClass p) 0 (· + 1) })
    (updTrk (fun k => { k with ingest := r, secEvents := k.secEvents + 1 }) s)

/-- A fresh ENTER at a lantern that no track takes starts one, while tracking is enabled (R201, R204). -/
theorem exec_presenceEventIngest_enter {t : Nat} {p : Presence} {r : List Presence} {s : State}
    (queue : s.trk.ingest = p :: r) (lantern : getC s 0x70100 p.vertex 0 = 1) (small : p.vertex < 8192)
    (enter : p.kind = 1) (fresh : p.arrived ≤ p.at_ + getN s 0x70132 * Config.msCycles) (enabled : getB s 0x70135 = true)
    (new : taker (entered p r (tick t s)) p = none) : exec (.presenceEventIngest t) s =
      done (tick t s) (trkBatch (entered p r (tick t s)) (startTrack p (entered p r (tick t s)))) := by
  change execPresenceEventIngest t s = _
  unfold execPresenceEventIngest
  extract_lets s0
  split
  · next empty => cases queue.symm.trans empty
  next q l found =>
  obtain ⟨rfl, rfl⟩ := List.cons.inj (queue.symm.trans found)
  extract_lets s1 s2 s3
  have lantern : getC s1 0x70100 p.vertex 0 = 1 := lantern
  have here : ¬ (getC s1 0x70100 p.vertex 0 ≠ 1 ∨ 8192 ≤ p.vertex) := by simp [lantern, small]
  have counted : s3 = entered p r s0 := if_neg (by simp [enter])
  rw [if_neg here, if_neg (by simp [enter]), if_pos (.inl enter), if_neg (by simp [enter]), counted]
  have fresh : ¬ p.at_ + getN (entered p r s0) 0x70132 * Config.msCycles < p.arrived := Nat.not_lt.2 fresh
  have enabled : getB (entered p r s0) 0x70135 = true := enabled
  rw [if_neg fresh, enabled, if_neg (by decide), new]

/-! ### A track begins (R204, R205) -/

/-- A stored entry is the one that was set, or stood before. -/
theorem of_mem_mset {α : Type} {q : Nat × α} {k : Nat} {v : α} {m : NMap α} (h : q ∈ mset m k v) :
    q = (k, v) ∨ q ∈ m := by
  induction m with
  | nil => exact .inl (List.mem_singleton.1 h)
  | cons p r ih =>
    unfold mset at h
    split at h
    · exact (List.mem_cons.1 h)
    · split at h
      · exact (List.mem_cons.1 h).imp_right (List.mem_cons_of_mem p)
      · obtain rfl | later := List.mem_cons.1 h
        · exact .inr List.mem_cons_self
        · exact (ih later).imp_right (List.mem_cons_of_mem p)

/-- The table holds no track but that of row `n`. -/
def OnlyTrack (n : Nat) (s : State) : Prop := ∀ q ∈ s.trk.tracks, q.1 = n

theorem OnlyTrack.updTrack {n : Nat} {s : State} (h : OnlyTrack n s) (f : Track → Track) : OnlyTrack n (updTrack n f s) :=
  fun q hq => (of_mem_mset hq).elim (fun set => by rw [set]) (h q)

theorem mergeTrack_only {n : Nat} {s : State} (h : OnlyTrack n s) : mergeTrack n s = (s, none) := by
  have alone : s.trk.tracks.find? (fun p => p.1 != n && merges p.2 (trackOf s n)) = none := by
    refine List.find?_eq_none.2 fun q hq => ?_
    simp [h q hq]
  rw [mergeTrack, alone]

theorem newRow_of_no_tracks {s : State} (h : s.trk.tracks = []) : newRow s = some 0 := by
  have free : freeTrack s = some 0 := by
    have first : trackOf s 0 = Track.init := by rw [trackOf, h]; rfl
    rw [freeTrack, List.find?_range_eq_some, first]
    exact ⟨rfl, List.mem_range.2 (Nat.zero_lt_succ _), fun j hj => absurd hj j.not_lt_zero⟩
  unfold newRow
  split
  · next n found => exact found.symm.trans free
  · next full => cases full.symm.trans free

/-- In an empty table a track starts in row 0, at the event's vertex, with its time and class and one event. -/
theorem startTrack_first {s : State} (h : s.trk.tracks = []) (p : Presence) :
    (trackOf (startTrack p s) 0).vertex = p.vertex ∧ (trackOf (startTrack p s) 0).lastAt = p.at_ ∧
      (trackOf (startTrack p s) 0).cls = evClass p ∧ (trackOf (startTrack p s) 0).events = 1 := by
  have only : OnlyTrack 0 s := fun q hq => by rw [h] at hq; cases hq
  generalize started : startTrack p s = v
  unfold startTrack at started
  split at started
  · next full => cases (newRow_of_no_tracks h).symm.trans full
  next n found =>
  obtain rfl : 0 = n := Option.some.inj ((newRow_of_no_tracks h).symm.trans found)
  extract_lets cls speed blank s1 s2 s3 at started
  have only : OnlyTrack 0 s3 := by
    unfold s3
    split <;> exact (only.updTrack _).updTrack _
  rw [settleTrack_alone (mergeTrack_only only)] at started
  have announced : TrackSends s2 v := by
    rw [← started]
    exact (passage_if_sends p.vertex cls s2).trans (trackAnnounced_sends ..)
  have place : (trackOf v 0).place = (rebuilt s1 (trackOf s1 0)).place := by
    rw [announced.place, trackOf_updTrack_same]
    rfl
  rw [trackOf_updTrack_same] at place
  have vertex : (trackOf v 0).vertex = p.vertex := (congrArg Track.vertex place :)
  have lastAt : (trackOf v 0).lastAt = p.at_ := (congrArg Track.lastAt place :)
  have cls : (trackOf v 0).cls = evClass p := (congrArg Track.cls place :)
  have events : (trackOf v 0).events = 1 := (congrArg Track.events place :)
  exact ⟨vertex, lastAt, cls, events⟩

/-! ### The ends of a track (R203) -/

theorem exec_handedEnd {t n v d : Nat} {s : State} (state : (trackOf s n).state = .handed)
    (boundary : (trackOf s n).boundary = some (v, d))
    (past : (trackOf s n).lastAt + travel (tick t s) (trackOf s n) d + 5 * Config.secCycles ≤ max s.clk.fab t) :
    exec (.handedEnd t n) s = done (tick t s) (trkBatch (tick t s) (endTrack n (tick t s))) := by
  change execHandedEnd t n s = _
  unfold execHandedEnd
  extract_lets s0 k far
  have distance : far = d := by
    have boundary : k.boundary = some (v, d) := boundary
    unfold far
    rw [boundary]
  rw [distance, if_pos ⟨state, past⟩]

theorem trackOf_endTrack (n : Nat) (s : State) :
    (trackOf (endTrack n s) n).state = .ended ∧ (trackOf (endTrack n s) n).endedAt = s.clk.fab := by
  rw [endTrack, trackOf_updTrack_same]
  exact ⟨rfl, rfl⟩

/-- A command that ends a track leaves it ENDED, now. -/
theorem runs_endTrack {c : Instr} {t n : Nat} {s : State}
    (he : exec c s = done (tick t s) (trkBatch (tick t s) (endTrack n (tick t s)))) :
    Runs c s (fun u => (trackOf u n).state = .ended ∧ (trackOf u n).endedAt = max s.clk.fab t) :=
  runs_mono (runs_trkBatch he) fun u tracks => by rw [tracks]; exact trackOf_endTrack ..

/-- Settles O26: it holds. What a track sends changes nothing of where it stands, and the tracker's work leaves the ingest
queue and the running counts alone; the rest is the change of the track's own row. -/
theorem trackLife : Obligations.TrackLife := by
  unfold Obligations.TrackLife
  refine ⟨?start, ?intake, ?refresh, ?tentative, ?coast, ?limit, ?handed, ?release⟩
  case start =>
    rintro t n p r s queue lantern small enter fresh enabled empty rfl
    have empty : (entered p r (tick t s)).trk.tracks = [] := empty
    have new : taker (entered p r (tick t s)) p = none := by
      rw [taker, empty]
      rfl
    have he := exec_presenceEventIngest_enter queue lantern small enter fresh enabled new
    have work := (startTrack_work p (entered p r (tick t s))).trans (trkBatch_sends (entered p r (tick t s)) _).toTrackWork
    obtain ⟨vertex, lastAt, cls, events⟩ := startTrack_first empty p
    refine runs_mono (runs_both (runs_trkBatch he) (runs_settled he fun u hu => hu.trk)) fun u ⟨tracks, trk⟩ => ?_
    rw [tracks, trk, work.ingest, work.nowCount]
    exact ⟨rfl, vertex, lastAt, cls, events, mgetD_mupd_same ..⟩
  case intake =>
    intro t p r s queue
    obtain ⟨v, he, taken⟩ := exec_presenceEventIngest_intake queue
    refine runs_settled he fun u hu => ?_
    exact Prod.mk.inj ((intake_of_trk hu.trk).trans taken)
  case refresh =>
    intro t n f e s live moves only last moved built past
    refine runs_mono (runs_trkBatch (exec_midpointRefresh live moves only last moved built past)) fun u tracks => ?_
    rw [tracks]
    exact frames_issue n (tick t s)
  case tentative =>
    exact fun t n s state past => runs_endTrack (congrArg (done (tick t s)) (if_pos ⟨state, past⟩))
  case coast =>
    intro t n s state missed
    refine runs_mono (runs_trkBatch (congrArg (done (tick t s)) (if_pos ⟨state, missed⟩))) fun u tracks => ?_
    rw [tracks, trackOf_updTrack_same]
  case limit =>
    intro t n s state past
    exact runs_mono (runs_endTrack (congrArg (done (tick t s)) (if_pos ⟨state, .inl past⟩))) fun u ended => ended.1
  case handed =>
    intro t n v d s state boundary past
    exact runs_mono (runs_endTrack (exec_handedEnd state boundary past)) fun u ended => ended.1
  case release =>
    intro t n s state past
    refine runs_mono (runs_trkBatch (congrArg (done (tick t s)) (if_pos ⟨state, past⟩))) fun u tracks => ?_
    rw [tracks, trackOf_updTrack_same]
    exact ⟨rfl, rfl, rfl⟩

end Sys2Proof.Machine
end

section
/-!
PROOFS. Tracks are handed off and boundary rows matched (R217, R218, R219), and the settlement of O27.
-/
namespace Sys2Proof.Machine

open Sys2Proof.Safety

/-! ### Answers (R219) -/

theorem answerHandoff_trk (m : HandoffMsg) (k st : Nat) (s : State) : (answerHandoff m k st s).trk =
    { s.trk with answered := ((m.source, m.hseq, k, st) :: s.trk.answered).take 256 } := by
  simp [answerHandoff, updTrk]

/-- With a lane active and a route to the sender, its answer leaves in class U. -/
theorem answerHandoff_sent {m : HandoffMsg} {s : State} (live : (active s).isSome = true)
    (way : (route s m.source).isSome = true) (k st : Nat) :
    TrunkSent (answerHandoff m k st s) m.source 1 (.handoffAck (modId s) m.hseq k st) := by
  obtain ⟨p, hp⟩ := Option.isSome_iff_exists.1 way
  unfold answerHandoff
  refine trunkSend_sent (s := updTrk _ s) (p := p) ?_ ?_ ..
  · exact live
  · exact (route_congr (s := s) (u := updTrk _ s) rfl rfl rfl _).trans hp

/-- The repeat of a HANDOFF is answered as before (R219). -/
theorem exec_handoff_repeat {t : Nat} {m : HandoffMsg} {an : Nat × Nat × Nat × Nat} {s : State}
    (answered : s.trk.answered.find? (fun a => a.1 == m.source && a.2.1 == m.hseq) = some an) :
    exec (.handoff t m) s = done (tick t s)
      (trunkSend m.source 1 (.handoffAck (modId s) m.hseq an.2.2.1 an.2.2.2) (tick t s)) := by
  have answered : (tick t s).trk.answered.find? (fun a => a.1 == m.source && a.2.1 == m.hseq) = some an := answered
  change execHandoff t m s = _
  simp only [execHandoff, answered]
  rfl

/-- A new HANDOFF over a MATCHED boundary, with a row free, is answered with status 1 where its track merges, else with
status 0 and the row, which names where the track came from (R218, R219). -/
theorem exec_handoff_takes {t ve n : Nat} {m : HandoffMsg} {s : State}
    (new : (s.trk.answered.find? (fun a => a.1 == m.source && a.2.1 == m.hseq)).isNone = true)
    (boundary : (boundRows s).find? (fun v => getC s 0x70100 v 15 == m.source && getC s 0x70100 v 16 == m.bkey &&
      boundState s v == 2) = some ve) (enabled : getB s 0x70135 = true) (free : freeTrack s = some n) :
    ∃ k st v, exec (.handoff t m) s = done (tick t s) (answerHandoff m k st v) ∧ TrackWork (tick t s) v ∧ st ≤ 1 ∧
      (st = 0 → k = n ∧ (trackOf v n).fromModule = m.source ∧ (trackOf v n).fromTrack = m.track) := by
  have new : (tick t s).trk.answered.find? (fun a => a.1 == m.source && a.2.1 == m.hseq) = none :=
    Option.isNone_iff_eq_none.1 new
  have boundary : (boundRows (tick t s)).find? (fun v => getC (tick t s) 0x70100 v 15 == m.source &&
    getC (tick t s) 0x70100 v 16 == m.bkey && boundState (tick t s) v == 2) = some ve := boundary
  change ∃ k st v, execHandoff t m s = _ ∧ _
  unfold execHandoff
  extract_lets s0
  split
  · next answered => cases new.symm.trans answered
  split
  · next unmatched => cases boundary.symm.trans unmatched
  next ve' matched =>
  split
  · next full => cases ((if_pos enabled).trans free).symm.trans full
  next row found =>
  obtain rfl : n = row := Option.some.inj (((if_pos enabled).trans free).symm.trans found)
  extract_lets s1 s2
  have work : TrackWork s0 s2 := (updTrack_work ..).trans ((updTrack_work ..).trans (cntUp_work ..))
  have came : (trackOf s2 n).fromModule = m.source ∧ (trackOf s2 n).fromTrack = m.track := by
    unfold s2
    rw [trackOf_cntUp, trackOf_updTrack_same]
    unfold s1
    rw [trackOf_updTrack_same]
    exact ⟨rfl, rfl⟩
  clear_value s2
  split
  · next s3 lo merged =>
    have merges := mergeTrack_work n s2
    rw [merged] at merges
    refine ⟨lo, 1, _, rfl, work.trans (merges.trans (trkBatch_sends ..).toTrackWork), le_refl 1, ?_⟩
    exact fun zero => absurd zero Nat.one_ne_zero
  · next s3 merged =>
    obtain rfl := mergeTrack_none merged
    have sends : TrackSends s3 (trkBatch s0 (tryHandoff n (issue n s3))) :=
      (issue_sends ..).trans ((tryHandoff_sends ..).trans (trkBatch_sends ..))
    refine ⟨n, 0, _, rfl, work.trans sends.toTrackWork, Nat.zero_le 1, fun _ => ⟨rfl, ?_, ?_⟩⟩
    · exact (sends.fromModule n).trans came.1
    · exact (sends.fromTrack n).trans came.2

/-! ### Hand-offs that wait for their answer (R219) -/

/-- Whether a track's open hand-off has an HSEQ. -/
def handsAs (q : Nat) (k : Track) : Bool := match k.handoff with | some x => x.hseq == q | none => false

/-- A hand-off accepted makes its track HANDED. -/
theorem exec_handoffAck_accepts {t src q tr st n : Nat} {k : Track} {s : State}
    (found : s.trk.tracks.find? (fun p => handedTo s src q p.2) = some (n, k)) (accepts : st ≤ 1) :
    ∃ v, exec (.handoffAck t src q tr st) s = done (tick t s) (trkBatch (tick t s) v) ∧
      (trackOf v n).state = .handed ∧ (trackOf v n).handoff = none := by
  have opened : handedTo s src q k = true := List.find?_some (p := fun p : Nat × Track => handedTo s src q p.2) found
  change ∃ v, execHandoffAck t src q tr st s = _ ∧ _
  unfold execHandoffAck
  extract_lets s0
  split
  · next absent => cases found.symm.trans absent
  next p there =>
  obtain rfl : (n, k) = p := Option.some.inj (found.symm.trans there)
  split
  · next closed =>
    have closed : k.handoff = none := closed
    simp [handedTo, closed] at opened
  next h handing =>
  extract_lets far
  rw [if_pos accepts]
  refine ⟨_, rfl, ?_⟩
  rw [trackOf_cntUp, trackOf_updTrack_same]
  exact ⟨rfl, rfl⟩

/-- A hand-off that is sent again, with its HSEQ. -/
def handoffResent (n : Nat) (h : Handing) (s : State) : State :=
  sendHandoff n h.hseq h.vertex h.dist
    (updTrack n (fun k => { k with handoff := some { h with tries := h.tries + 1, at_ := s.clk.fab } }) s)

/-- A hand-off that was not answered in time is sent again, up to three times. -/
theorem exec_handoffRetry {t q n : Nat} {k : Track} {h : Handing} {s : State}
    (found : s.trk.tracks.find? (fun p => handsAs q p.2) = some (n, k)) (handing : k.handoff = some h)
    (late : h.at_ + 100 * Config.msCycles ≤ max s.clk.fab t) :
    exec (.handoffRetry t q) s = done (tick t s) (trkBatch (tick t s) (if h.tries < 3 then
        handoffResent n h (tick t s) else handoffLost n h (tick t s))) := by
  change execHandoffRetry t q s = _
  unfold execHandoffRetry
  extract_lets s0
  split
  · next absent => cases found.symm.trans absent
  next p there =>
  obtain rfl : (n, k) = p := Option.some.inj (found.symm.trans there)
  split
  · next closed => cases handing.symm.trans closed
  next h' opened =>
  obtain rfl : h = h' := Option.some.inj (handing.symm.trans opened)
  have late : ¬ s0.clk.fab < h.at_ + 100 * Config.msCycles := Nat.not_lt.2 late
  rw [if_neg late]
  split <;> rfl

/-! ### A hand-off sent, a hand-off lost (R219) -/

theorem handoff_handoffResent (n : Nat) (h : Handing) (s : State) : (trackOf (handoffResent n h s) n).handoff =
    some { h with tries := h.tries + 1, at_ := s.clk.fab } := by
  rw [handoffResent, trackOf_of_tracks (congrArg Traffic.tracks (sendHandoff_trk ..)), trackOf_updTrack_same]

/-- With a lane active and a route, the HANDOFF leaves again in class U, with its HSEQ and the track's number. -/
theorem handoffResent_sent {h : Handing} {s : State} (live : (active s).isSome = true)
    (way : (route s (getC s 0x70100 h.vertex 15)).isSome = true) (n : Nat) :
    ∃ m : HandoffMsg, m.hseq = h.hseq ∧ m.track = n ∧
      TrunkSent (handoffResent n h s) (getC s 0x70100 h.vertex 15) 1 (.handoff m) := by
  obtain ⟨p, hp⟩ := Option.isSome_iff_exists.1 way
  have work := updTrack_work n (fun k => { k with handoff := some { h with tries := h.tries + 1, at_ := s.clk.fab } }) s
  exact ⟨_, rfl, rfl, trunkSend_sent (work.active ▸ live) ((work.route _).trans hp) ..⟩

/-- A track whose path ends at a dead end opens no hand-off. -/
theorem tryHandoff_dead {n v : Nat} {s : State} (path : (trackOf s n).boundary.map (fun b => b.1) = some v)
    (dead : v ∈ (trackOf s n).dead) : tryHandoff n s = s := by
  unfold tryHandoff
  extract_lets k
  split
  · rfl
  · next w d boundary =>
    have boundary : (trackOf s n).boundary = some (w, d) := boundary
    rw [boundary] at path
    obtain rfl : w = v := Option.some.inj path
    rw [if_pos (by simp [k, dead])]

/-- A hand-off that is lost makes its boundary vertex a dead end, and is over where the path still ends there. -/
theorem trackOf_handoffLost (n : Nat) (h : Handing) (s : State) : h.vertex ∈ (trackOf (handoffLost n h s) n).dead ∧
    ((trackOf s n).boundary.map (fun b => b.1) = some h.vertex → (trackOf (handoffLost n h s) n).handoff = none) := by
  unfold handoffLost
  generalize hv : cntUp 0x70019 (updTrack n (fun k => { k with handoff := none, dead := insertNat h.vertex k.dead }) s) = v
  have row : trackOf v n = { trackOf s n with
      handoff := none, dead := insertNat h.vertex (trackOf s n).dead
      version := ((trackOf s n).version + 2) % 4294967296 } := by
    rw [← hv, trackOf_cntUp, trackOf_updTrack_same]
  have dead : h.vertex ∈ (trackOf v n).dead := by
    rw [row]
    exact mem_insertNat_self ..
  refine ⟨by rwa [(tryHandoff_sends n v).dead], fun path => ?_⟩
  rw [tryHandoff_dead (v := h.vertex) (by rw [row]; exact path) dead, row]

/-! ### Boundary rows (R217) -/

/-- A complete BOUNDARY_LIST of one part is taken. -/
theorem exec_boundaryList {t src parts : Nat} {es : List (Nat × Nat × Nat)} {s : State} (whole : parts ≤ 1) :
    ∃ v, exec (.boundaryList t src 0 parts es) s = done (tick t s) v ∧ mget v.trk.lists src = some es ∧
      mget v.trk.buffers src = none := by
  change ∃ v, execBoundaryList t src 0 parts es s = _ ∧ _
  unfold execBoundaryList
  extract_lets s0 old buf
  have first : buf = some { parts := parts, got := 1, entries := es } := if_pos rfl
  clear_value buf
  split
  · cases first
  obtain rfl := Option.some.inj first
  rw [if_pos whole]
  extract_lets s1 s2 bad
  have work : TrackWork (boundSync bad s2) (trkBatch s0 (tryHandoffs (boundSync bad s2))) :=
    ((tryHandoffs_sends ..).trans (trkBatch_sends ..)).toTrackWork
  have trk : (boundSync bad s2).trk = s2.trk := by simp [boundSync]
  refine ⟨_, rfl, ?_, ?_⟩
  · rw [work.lists, trk]
    exact mget_mset_same ..
  · rw [work.buffers, trk]
    exact mget_mdel_same ..

/-- A condition that holds of a boundary row holds the condition bit (R217). -/
theorem live_boundSync {v : Nat} {b : Boundary} {s : State} (row : mget s.trk.bounds v = some b) (unmatched : b.state = 3)
    (detail : Nat) : (boundSync detail s).dict.live.getLsbD 113 = true := by
  have holds : s.trk.bounds.any (fun p => p.2.state == 3) = true :=
    List.any_eq_true.2 ⟨(v, b), mem_of_mget row, by simp [unmatched]⟩
  rw [boundSync, holds]
  exact live_condSet (by decide) ..

/-- A row whose neighbour sent no list in time is UNMATCHED. -/
def unmatchedRow (v : Nat) (s : State) : State :=
  updTrk (fun k => { k with bounds := mset k.bounds v { state := 3, nVertex := 0, nLength := 0, since := none } }) s

theorem exec_boundaryUnmatchedTimeout {t v f : Nat} {b : Boundary} {s : State} (row : mget s.trk.bounds v = some b)
    (since : b.since = some f) (past : f + 10 * Config.secCycles ≤ max s.clk.fab t) :
    exec (.boundaryUnmatchedTimeout t v) s = done (tick t s) (boundSync v (unmatchedRow v (tick t s))) := by
  have row : mget (tick t s).trk.bounds v = some b := row
  change execBoundaryUnmatchedTimeout t v s = _
  simp only [execBoundaryUnmatchedTimeout, row, since]
  exact if_pos past

/-- Settles O27: it holds. The tracker's work moves neither the ways to other modules nor the active lane, so what answers or
repeats a hand-off can leave; what is said of a track is the change of its own row, and of a boundary row likewise. -/
theorem handOffs : Obligations.HandOffs := by
  unfold Obligations.HandOffs
  refine ⟨?fresh, ?again, ?accepted, ?retry, ?lost, ?list, ?unmatched⟩
  case fresh =>
    intro t ve n m s new boundary enabled free way
    obtain ⟨k, st, v, he, work, small, taken⟩ := exec_handoff_takes new boundary enabled free
    refine runs_settled he fun u hu => ⟨k, st, (v.trk.answered).take 255, ?_, small, fun live => ?_, fun zero => ?_⟩
    · rw [hu.trk, answerHandoff_trk]
      rfl
    · have way : (route v m.source).isSome = true := (work.route m.source).trans (route_tick ..) ▸ way
      have sent := answerHandoff_sent (work.active ▸ live) way k st
      have self : modId v = modId s := by rw [modId, modId, work.dict]; rfl
      rw [self] at sent
      exact hu.sends.trunkSent sent
    · have tracks : u.trk.tracks = v.trk.tracks := by rw [hu.trk, answerHandoff_trk]
      rw [trackOf_of_tracks tracks]
      exact taken zero
  case again =>
    intro t m an s answered way
    obtain ⟨p, hp⟩ := Option.isSome_iff_exists.1 way
    refine runs_settled (exec_handoff_repeat answered) fun u hu => ⟨?_, fun live => ?_⟩
    · rw [hu.trk]
      simp
    · exact hu.sends.trunkSent (trunkSend_sent (s := tick t s) live ((route_tick ..).trans hp) ..)
  case accepted =>
    intro t src q tr st n k s found accepts
    obtain ⟨v, he, handed⟩ := exec_handoffAck_accepts (t := t) (tr := tr) found accepts
    exact runs_mono (runs_trkBatch he) fun u tracks => by rwa [tracks]
  case retry =>
    intro t q n k h s found handing few late way
    have he := exec_handoffRetry (t := t) found handing late
    rw [if_pos few] at he
    have hseq : h.hseq = q := by
      have same : handsAs q k = true := List.find?_some (p := fun p : Nat × Track => handsAs q p.2) found
      simpa [handsAs, handing] using same
    refine runs_mono (runs_both (runs_trkBatch he) (runs_settled he fun u hu => hu.sends)) fun u ⟨tracks, sends⟩ =>
      ⟨?_, fun live => ?_⟩
    · rw [tracks]
      exact handoff_handoffResent n h (tick t s)
    · obtain ⟨m, same, track, sent⟩ := handoffResent_sent (s := tick t s) live ((route_tick ..).symm ▸ way) n
      exact ⟨m, same.trans hseq, track, sends.trunkSent ((trkBatch_sends ..).sent _ _ _ sent)⟩
  case lost =>
    intro t q n k h s found row handing many late
    have he := exec_handoffRetry (t := t) found handing late
    rw [if_neg (Nat.not_lt.2 many)] at he
    refine runs_mono (runs_trkBatch he) fun u tracks => ?_
    rw [tracks, ← row]
    exact trackOf_handoffLost n h (tick t s)
  case list =>
    intro t src parts es s whole
    obtain ⟨v, he, kept⟩ := exec_boundaryList (t := t) (src := src) (es := es) (s := s) whole
    exact runs_settled he fun u hu => by rwa [hu.trk]
  case unmatched =>
    intro t v f b s row since past
    refine runs_settled (exec_boundaryUnmatchedTimeout row since past) fun u hu => ⟨?_, ?_⟩
    · have bounds : u.trk.bounds = (unmatchedRow v (tick t s)).trk.bounds := by rw [hu.trk]; simp [boundSync]
      rw [bounds, unmatchedRow, updTrk, mget_mset_same]
      rfl
    · rw [hu.dict]
      exact live_boundSync (mget_mset_same ..) rfl v

end Sys2Proof.Machine
end

section
/-!
PROOFS. The closing of a step and metering, the phases' crossings (R234), energy intervals and measurement periods (R235 to
R238).
-/
namespace Sys2Proof.Machine

open Sys2Proof.Safety

/-- The closing of a step leaves metering, the dictionary and the sequences as its command made them. -/
theorem runs_metered {c : Instr} {s s0 v : State} {P : State → Prop} (he : exec c s = done s0 v)
    (hP : ∀ u, u.met = v.met → u.dict = v.dict → u.ib.seqs = v.ib.seqs → P u) : Runs c s P :=
  ⟨_, he, hP _ (by simp) (by simp) (by simp)⟩

/-! ### Crossings (R234) -/

theorem cntUp_met (n : Nat) (s : State) : (cntUp n s).met = s.met := by simp

theorem icuRaise_met (n : Nat) (s : State) : (icuRaise n s).met = s.met := by simp

@[simp] theorem phaseRec_met (x : Nat) (absent : Bool) (s : State) : (phaseRec x absent s).met = s.met := by
  simp [phaseRec]

@[simp] theorem refSync_phases (s : State) : (refSync s).met.phases = s.met.phases := by
  unfold refSync
  split <;> rfl

@[simp] theorem countCycle_phases (x : Nat) (s : State) : (countCycle x s).met.phases = s.met.phases := by
  unfold countCycle
  dsimp only
  repeat' split
  all_goals rfl

/-- A phase after a valid crossing at `z` that makes or leaves it present. -/
def crossed (s : State) (z : Nat) : Phase :=
  { absent := false, last := z, lastTime := timeOf s z, run := 0, base := some z }

/-- A valid crossing of a phase that is present, or ABSENT with two valid ones before. -/
theorem exec_zeroCrossing_valid {t z b : Nat} {x : Fin 3} {low : List Int} {p : Phase} {s : State}
    (found : crossAt (max s.clk.fab t) low = some z) (phase : lget s.met.phases x.val Phase.init = p)
    (base : p.base = some b) (lo : zcLow ≤ z - b) (hi : z - b ≤ zcHigh)
    (runs : s.lanes.a.running = true ∨ s.lanes.b.running = true) (third : p.absent = true → p.run = 2) :
    ∃ v, exec (.zeroCrossing t ⟨x, low⟩) s = done (tick t s) v ∧
      v.met.phases = lset s.met.phases x.val (crossed (tick t s) z) := by
  have found : crossAt (tick t s).clk.fab low = some z := found
  have phase : lget (tick t s).met.phases x.val Phase.init = p := phase
  have some_runs : (!((tick t s).lanes.a.running || (tick t s).lanes.b.running)) = false := by
    rcases runs with on | on <;> simp [on]
  have valid : zcLow ≤ z - b ∧ z - b ≤ zcHigh := ⟨lo, hi⟩
  change ∃ v, execZeroCrossing t ⟨x, low⟩ s = done (tick t s) v ∧ _
  simp only [execZeroCrossing, found, phase, base, some_runs, Bool.false_eq_true, if_false, if_pos valid]
  refine ⟨_, rfl, ?_⟩
  rw [countCycle_phases, apply_ite (fun v : State => v.met.phases), refSync_phases, phaseRec_met, ite_self]
  cases absent : p.absent with
  | false => simp [updMet, crossed]
  | true => simp [updMet, crossed, third absent]

theorem runs_zeroCrossing_valid {t z b : Nat} {x : Fin 3} {low : List Int} {p : Phase} {s : State}
    (found : crossAt (max s.clk.fab t) low = some z) (three : s.met.phases.length = 3)
    (phase : lget s.met.phases x.val Phase.init = p) (base : p.base = some b) (lo : zcLow ≤ z - b) (hi : z - b ≤ zcHigh)
    (runs : s.lanes.a.running = true ∨ s.lanes.b.running = true) (third : p.absent = true → p.run = 2) :
    Runs (.zeroCrossing t ⟨x, low⟩) s (fun u => phaseAbsent u x.val = false ∧
      (lget u.met.phases x.val Phase.init).last = z ∧ (lget u.met.phases x.val Phase.init).base = some z) := by
  obtain ⟨v, he, phases⟩ := exec_zeroCrossing_valid found phase base lo hi runs third
  refine runs_metered he fun u met _ _ => ?_
  rw [phaseAbsent, met, phases, lget_lset_same _ _ _ _ (by rw [three]; exact x.isLt)]
  exact ⟨rfl, rfl, rfl⟩

/-- A phase whose last valid crossing is older than ZC_TIMEOUT is ABSENT. -/
theorem exec_zcTimeout_late {t : Nat} {x : Fin 3} {s : State}
    (present : (lget s.met.phases x.val Phase.init).absent = false)
    (late : (lget s.met.phases x.val Phase.init).last + getN s 0x80104 * Config.msCycles < max s.clk.fab t) :
    ∃ v, exec (.zcTimeout t x) s = done (tick t s) v ∧ v.met.phases = lset s.met.phases x.val
      { lget s.met.phases x.val Phase.init with absent := true, run := 0 } :=
  ⟨_, if_pos ⟨by simp [present], late⟩, by rw [refSync_phases, phaseRec_met]; rfl⟩

/-! ### Energy intervals and measurement periods (R235, R238) -/

/-- A state with other metering of the lanes. -/
def putLanes (p : Pair LaneMeter) (s : State) : State := updMet (fun m => { m with lanes := p }) s

/-- The samples of a lane change nothing but the lanes' metering. -/
theorem feedCuts_eq (l : Lane) (xs : List (List Int)) (at_ : Nat) (cuts : List (Nat × Scale)) (s : State) :
    ∃ p, feedCuts l xs at_ cuts s = putLanes p s := by
  induction cuts generalizing xs at_ s with
  | nil => exact ⟨_, rfl⟩
  | cons c r ih =>
    obtain ⟨p, hp⟩ := ih (xs.map (List.drop (c.1 - at_))) (max at_ c.1)
      (updLM l (fun x => { x with wave := List.replicate 11 [] }) (feed l c.2 (xs.map (List.take (c.1 - at_))) s))
    exact ⟨p, hp⟩

/-- What the close of an energy interval notes of itself. -/
def closedAt (now : Nat) (top : List Nat) (m : Meter) : Meter := { m with cuts := [], lastClose := now, top := top }

/-- The close of an energy interval changes the lanes' metering, the floor of what is reported (R244), and what it notes of
itself. -/
theorem closeInterval_eq (a b : Samples) (s : State) : ∃ p top,
    closeInterval a b s = updMet (closedAt s.clk.fab top) (putLanes p s) := by
  have fed (l : Lane) (m : Samples) (s : State) : ∃ p,
      (if (s.lanes.get l).running then feedCuts l m.raw 0 s.met.cuts s else s) = putLanes p s := by
    split
    · exact feedCuts_eq ..
    · exact ⟨s.met.lanes, rfl⟩
  obtain ⟨pa, ha⟩ := fed .A a s
  obtain ⟨pb, hb⟩ := fed .B b (putLanes pa s)
  unfold closeInterval holdTop
  dsimp only
  rw [ha, hb]
  exact ⟨pb, _, rfl⟩

/-- A lane's metering after the end of a period, with the frequency and the temperature flag of that period (R235 to R237). -/
def periodEnded (s : State) (hot : Bool) (x : LaneMeter) : LaneMeter :=
  { x with
    live := if (lget x.wave 0 []).isEmpty then x.live else liveOf s x.wave (freqOf s x.live.freq) hot
    wave := List.replicate 11 [] }

theorem periodEnd_running {l : Lane} {s : State} (runs : (s.lanes.get l).running = true) (hot : Bool) :
    periodEnd l hot s = updLM l (periodEnded s hot) s := if_pos runs

/-- What a period shows depends on no lane's metering but on the samples it is given. -/
theorem periodEnded_updLM (l : Lane) (f : LaneMeter → LaneMeter) (s : State) :
    periodEnded (updLM l f s) = periodEnded s := rfl

theorem updLM_get_same (l : Lane) (f : LaneMeter → LaneMeter) (s : State) :
    (updLM l f s).met.lanes.get l = f (s.met.lanes.get l) := Pair.get_upd_same ..

theorem updLM_get_other (l : Lane) (f : LaneMeter → LaneMeter) (s : State) :
    (updLM l f s).met.lanes.get (otherLane l) = s.met.lanes.get (otherLane l) := Pair.get_upd_other ..

/-- Running or not, a lane's end of a period changes that lane's metering only. -/
theorem periodEnd_eq (l : Lane) (hot : Bool) (s : State) : ∃ f, periodEnd l hot s = updLM l f s := by
  unfold periodEnd
  split
  · exact ⟨_, rfl⟩
  · exact ⟨id, by cases l <;> rfl⟩

theorem periodEnd_get_other (l : Lane) (hot : Bool) (s : State) :
    (periodEnd l hot s).met.lanes.get (otherLane l) = s.met.lanes.get (otherLane l) := by
  obtain ⟨f, changed⟩ := periodEnd_eq l hot s
  rw [changed, updLM_get_other]

theorem periodEnded_periodEnd (l : Lane) (hot : Bool) (s : State) : periodEnded (periodEnd l hot s) = periodEnded s := by
  obtain ⟨f, changed⟩ := periodEnd_eq l hot s
  rw [changed, periodEnded_updLM]

theorem periodEnd_lanes (l : Lane) (hot : Bool) (s : State) : (periodEnd l hot s).lanes = s.lanes := by
  obtain ⟨f, changed⟩ := periodEnd_eq l hot s
  simp [changed]

theorem periodEnd_clk (l : Lane) (hot : Bool) (s : State) : (periodEnd l hot s).clk = s.clk := by
  obtain ⟨f, changed⟩ := periodEnd_eq l hot s
  simp [changed]

/-- What a lane's side gives of a pair of values. -/
def ofLane {α : Type} (l : Lane) (a b : α) : α := match l with | .A => a | .B => b

/-- Each lane that runs ends its period by its own samples. -/
theorem periodEnds_get {l : Lane} {s : State} (runs : (s.lanes.get l).running = true) (ha hb : Bool) :
    (periodEnd .B hb (periodEnd .A ha s)).met.lanes.get l = periodEnded s (ofLane l ha hb) (s.met.lanes.get l) := by
  cases l with
  | A =>
    refine (periodEnd_get_other .B hb (periodEnd .A ha s)).trans ?_
    rw [periodEnd_running runs]
    exact updLM_get_same ..
  | B =>
    have still : ((periodEnd .A ha s).lanes.get .B).running = true := by rwa [periodEnd_lanes]
    rw [periodEnd_running still, updLM_get_same, periodEnded_periodEnd]
    exact congrArg (periodEnded s hb) (periodEnd_get_other .A ha s)

theorem periodBegin_lanes (s : State) : (periodBegin s).met.lanes = s.met.lanes := rfl

/-- A period that is due ends on each lane that runs, and the next begins (R235). -/
theorem exec_measurementPeriodEnd {t : Nat} {a b : Samples} {s : State}
    (runs : s.lanes.a.running = true ∨ s.lanes.b.running = true) (due : periodDue (tick t s) = true) :
    ∃ v, exec (.measurementPeriodEnd t a b) s = done (tick t s) v ∧ v.met =
      (periodBegin (periodEnd .B b.hot (periodEnd .A a.hot (closeInterval a b (tick t s))))).met := by
  have ready : ((s.lanes.a.running || s.lanes.b.running) && periodDue (tick t s)) = true := by
    rcases runs with on | on <;> simp [on, due]
  exact ⟨_, if_pos ready, by simp⟩

end Sys2Proof.Machine
end

section
/-!
PROOFS. The metering saves (R246, R247, R248), and the settlement of O29.
-/
namespace Sys2Proof.Machine

open Sys2Proof.Safety

/-! ### The slots of a save -/

/-- The slot of a save in a lane's ring holds the lane's billing values. -/
def HoldsSave (seq : Nat) (final : Bool) (x : LaneMeter) : Prop :=
  (mget x.ring (seq % 16)).map (fun g => (g.seq, g.final, g.acc)) = some (seq, final, x.bill)

theorem writeSlot_holds (l : Lane) (g : SaveSlot) (s : State) :
    HoldsSave g.seq g.final ((writeSlot l g s).met.lanes.get l) := by
  have written : (writeSlot l g s).met.lanes.get l = { s.met.lanes.get l with
      bill := g.acc, inc := List.replicate 7 0, whole := true, pmaxImp := 0, pmaxExp := 0
      ring := mset (s.met.lanes.get l).ring (g.seq % 16) g } := Pair.get_upd_same ..
  rw [HoldsSave, written, mget_mset_same]
  rfl

theorem writeSlot_get_other (l : Lane) (g : SaveSlot) (s : State) :
    (writeSlot l g s).met.lanes.get (otherLane l) = s.met.lanes.get (otherLane l) := Pair.get_upd_other ..

theorem running_of_bare {s u : State} (h : u.lanes.bare = s.lanes.bare) (l : Lane) :
    (u.lanes.get l).running = (s.lanes.get l).running := by
  cases l
  · exact (congrArg (fun p => p.1.running) h :)
  · exact (congrArg (fun p => p.2.running) h :)

/-- Of metering, what a save leaves: the numbers and instants of the saves, and each lane's billing values and ring. -/
def Meter.saves (m : Meter) : Nat × Nat × Nat × Nat × (Lane → List Nat × NMap SaveSlot) :=
  (m.saveSeq, m.lastSave, m.lastFinal, m.nextSave, fun l => ((m.lanes.get l).bill, (m.lanes.get l).ring))

/-- What a save does: its number and instant, the next one's instant as it was, and its slot on each lane that runs. -/
structure Saved (final : Bool) (s u : State) : Prop where
  seq : u.met.saveSeq = (s.met.saveSeq + 1) % 4294967296
  lastSave : u.met.lastSave = s.clk.fab
  lastFinal : final = true → u.met.lastFinal = s.clk.fab
  nextSave : u.met.nextSave = s.met.nextSave
  holds : ∀ l, (s.lanes.get l).running = true →
    HoldsSave ((s.met.saveSeq + 1) % 4294967296) final (u.met.lanes.get l)

theorem Saved.congr {final : Bool} {s u v : State} (h : Saved final s u) (same : v.met.saves = u.met.saves) :
    Saved final s v := by
  simp only [Meter.saves, Prod.mk.injEq] at same
  obtain ⟨seq, lastSave, lastFinal, nextSave, lanes⟩ := same
  refine ⟨seq.trans h.seq, lastSave.trans h.lastSave, fun f => lastFinal.trans (h.lastFinal f), nextSave.trans h.nextSave,
    fun l hl => ?_⟩
  obtain ⟨bill, ring⟩ := Prod.mk.inj (congrFun lanes l)
  rw [HoldsSave, bill, ring]
  exact h.holds l hl

theorem saveSlot_saved (final : Bool) (s : State) : Saved final s (saveSlot final s) := by
  unfold saveSlot
  extract_lets s1 seq from_ slot one
  have met : s1.met = s.met := by simp only [s1]; split <;> simp
  have clk : s1.clk = s.clk := by simp only [s1]; split <;> simp
  have runs (l : Lane) : (s1.lanes.get l).running = (s.lanes.get l).running :=
    running_of_bare (by simp only [s1]; split <;> simp) l
  have nextSave (l : Lane) (v : State) : (one l v).met.nextSave = v.met.nextSave := by
    simp only [one]
    split <;> rfl
  have own {l : Lane} (hl : (s.lanes.get l).running = true) (v : State) :
      HoldsSave seq final ((one l v).met.lanes.get l) := by
    simp only [one, runs, hl, if_true]
    exact writeSlot_holds l (slot l) v
  have other (l : Lane) (v : State) : (one l v).met.lanes.get (otherLane l) = v.met.lanes.get (otherLane l) := by
    simp only [one]
    split
    · exact writeSlot_get_other ..
    · rfl
  have number : seq = (s.met.saveSeq + 1) % 4294967296 := by simp only [seq, met]
  refine .congr (u := updMet _ (one .B (one .A s1))) ?_ (by rw [cntUp_met])
  exact {
    seq := number
    lastSave := congrArg Clock.fab clk
    lastFinal := by rintro rfl; exact congrArg Clock.fab clk
    nextSave := (nextSave ..).trans ((nextSave ..).trans (congrArg Meter.nextSave met))
    holds := fun l hl => by
      rw [← number]
      cases l with
      | A => exact (other .B _).symm ▸ own hl s1
      | B => exact own hl _ }

/-! ### The commands that save -/

@[simp] theorem cwvRecord_met (e : Cwv) (s : State) : (cwvRecord e s).met = s.met := by simp [cwvRecord]

theorem cwvLane_saves (rms : List Nat) (s : State) (x : Nat) : (cwvLane rms s x).met.saves = s.met.saves := by
  unfold cwvLane
  dsimp only
  repeat' split
  all_goals simp [Meter.saves, updMet]

/-- The window of a second leaves the saves and the rings. -/
theorem cwvWindow_saves (s : State) : (cwvWindow s).met.saves = s.met.saves := by
  unfold cwvWindow
  extract_lets x rms v clear
  have kept : v.met.saves = s.met.saves := foldl_keeps (part := fun s => s.met.saves) (cwvLane_saves rms) _ s
  refine Eq.trans ?_ kept
  simp only [Meter.saves, updMet]
  congr
  funext l
  cases l <;> rfl

/-- A save that follows the close of an interval is the save of the state before the close. -/
theorem Saved.of_closeInterval {final : Bool} {a b : Samples} {s u : State} (h : Saved final (closeInterval a b s) u) :
    Saved final s u := by
  obtain ⟨p, top, closed⟩ := closeInterval_eq a b s
  rw [closed] at h
  exact ⟨h.seq, h.lastSave, h.lastFinal, h.nextSave, h.holds⟩

/-- A periodic save that is due (R247). -/
theorem exec_periodicSave {t : Nat} {a b : Samples} {s : State} (act : (active s).isSome = true)
    (due : s.met.nextSave ≤ max s.clk.fab t) : ∃ v w, exec (.periodicSave t a b) s = done (tick t s) v ∧
      Saved false (tick t s) w ∧ v.met = { w.met with nextSave := s.met.nextSave + Config.secCycles } := by
  let w := cwvWindow (saveSlot false (closeInterval a b (tick t s)))
  have saved : Saved false (tick t s) w := ((saveSlot_saved ..).congr (cwvWindow_saves _)).of_closeInterval
  have ready : ((active (tick t s)).isSome && decide ((tick t s).met.nextSave ≤ (tick t s).clk.fab)) = true := by
    rw [Bool.and_eq_true, decide_eq_true_eq]
    exact ⟨act, due⟩
  refine ⟨_, w, if_pos ready, saved, ?_⟩
  have next : w.met.nextSave = s.met.nextSave := saved.nextSave
  rw [apply_ite (fun v : State => v.met), cntUp_met, ite_self, ← next, ← icuRaise_met 97 w]
  rfl

/-- A FINAL save that is due again, with an active lane (R248). -/
theorem exec_finalSaveRepeat {t : Nat} {a b : Samples} {s : State} (warned : s.power.warning = true)
    (act : (active s).isSome = true) (runs : s.lanes.a.running = true ∨ s.lanes.b.running = true)
    (due : s.met.lastFinal + 5 * Config.msCycles ≤ max s.clk.fab t) :
    ∃ v, exec (.finalSaveRepeat t a b) s = done (tick t s) v ∧ Saved true (tick t s) v := by
  have ready : ((tick t s).power.warning && ((tick t s).lanes.a.running || (tick t s).lanes.b.running)
      && decide ((tick t s).met.lastFinal + 5 * Config.msCycles ≤ (tick t s).clk.fab)) = true := by
    rw [Bool.and_eq_true, Bool.and_eq_true, Bool.or_eq_true, decide_eq_true_eq]
    exact ⟨⟨warned, runs⟩, due⟩
  have live : (active (closeInterval a b (tick t s))).isSome = true := by
    obtain ⟨p, top, closed⟩ := closeInterval_eq a b (tick t s)
    rw [closed]
    exact act
  refine ⟨_, if_pos ready, ?_⟩
  rw [finalSave, if_pos live]
  exact (saveSlot_saved ..).of_closeInterval

/-- Settles O29: it holds. A valid crossing and a missed one set their phase once; a period's end reads of the metering only
what no lane's end of it changes; and a save writes each lane's slot with the values that the lane then bills. -/
theorem meterPhases : Obligations.MeterPhases := by
  unfold Obligations.MeterPhases
  refine ⟨?back, ?present, ?timeout, ?period, ?periodic, ?final⟩
  case back =>
    intro t z b x low p s found three phase base lo hi runs _ second
    exact runs_zeroCrossing_valid found three phase base lo hi runs fun _ => second
  case present =>
    intro t z b x low p s found three phase base lo hi runs present
    exact runs_zeroCrossing_valid found three phase base lo hi runs fun absent => by simp [present] at absent
  case timeout =>
    rintro t x _ s three rfl present late
    obtain ⟨v, he, phases⟩ := exec_zcTimeout_late present late
    refine runs_metered he fun u met _ _ => ?_
    rw [phaseAbsent, met, phases, lget_lset_same _ _ _ _ (by rw [three]; exact x.isLt)]
  case period =>
    intro t a b s runs due
    obtain ⟨v, he, period⟩ := exec_measurementPeriodEnd (a := a) (b := b) runs due
    obtain ⟨p, top, closed⟩ := closeInterval_eq a b (tick t s)
    refine runs_metered he fun u met _ _ => ?_
    rw [met, period]
    refine ⟨rfl, ?began, fun l running => ?lane⟩
    case began =>
      change (periodEnd .B b.hot (periodEnd .A a.hot (closeInterval a b (tick t s)))).clk.fab = _
      rw [periodEnd_clk, periodEnd_clk, closed]
      rfl
    case lane =>
      have still : ((closeInterval a b (tick t s)).lanes.get l).running = true := by rw [closed]; exact running
      rw [periodBegin_lanes, periodEnds_get still]
      refine ⟨rfl, rfl, fun sampled => ?_⟩
      rw [periodEnded, if_neg (by simpa using sampled)]
      cases l <;> rfl
  case periodic =>
    intro t a b s act due
    obtain ⟨v, w, he, saved, met⟩ := exec_periodicSave (a := a) (b := b) act due
    refine runs_metered he fun u same _ _ => ?_
    rw [same, met]
    exact ⟨saved.seq, saved.lastSave, rfl, saved.holds⟩
  case final =>
    intro t a b s warned act runs due
    obtain ⟨v, he, saved⟩ := exec_finalSaveRepeat (a := a) (b := b) warned act runs due
    refine runs_metered he fun u same _ _ => ?_
    rw [same]
    exact ⟨saved.seq, saved.lastFinal rfl, saved.holds⟩

end Sys2Proof.Machine
end

section
/-!
PROOFS. Calibration measurements (R242, R255), the battery domain's metering (R250, R251), and the settlement of O30.
-/
namespace Sys2Proof.Machine

open Sys2Proof.Safety

/-! ### The start of a measurement (R242) -/

theorem answer_met (sid : Nat) (h : Hdr) (a : Answer) : (answer sid h a).met = a.1.met := by simp

/-- A CAL_MEASURE that nothing refuses starts its measurement, and the answer is to come. -/
theorem exec_calMeasure {t sid : Nat} {h : Hdr} {args : List TVal} {s : State} {q : Sequence}
    (ha : arrives 3 false h sid s = true) (cls : h.tclass = 0)
    (checks : (execCheck 0x80210 calShape false h args sid (caller t sid s) (opState t h sid s)).isNone = true)
    (hq : mget (opState t h sid s).ib.seqs h.handle = some q) (h0 : h.handle ≠ 0) (mine : q.sid = sid)
    (isOpen : q.commit = none) (group : q.groups.contains 19 = true)
    (range : (argRange 0x80210 0 calRange args).isNone = true) (fits : (calBad s args).isNone = true) :
    ∃ j, exec (.calMeasure t h args) s = done (tick t s)
        (answer sid h (updMet (fun m => { m with cal := some j }) (opState t h sid s), none)) ∧
      j.sid = sid ∧ j.reqSeq = h.seq ∧ j.handle = h.handle ∧ j.phase = argN args 0 - 1 ∧ j.step = argN args 1 ∧
      j.vref = argN args 2 ∧ j.iref = argN args 3 ∧ j.ends = max s.clk.fab t + argN args 5 * Config.secCycles ∧
      j.leaseLeft = q.leaseEnd - max s.clk.fab t := by
  rw [Option.isNone_iff_eq_none] at checks range fits
  have plain : ({ h with tclass := 0 } : Hdr) = h := by rw [← cls]
  have fits : calBad (opState t h sid s) args = none := fits
  change ∃ j, execCalMeasure t h args s = _ ∧ _
  simp only [execCalMeasure, request_arrives ha, plain, checks, named_own hq h0 mine isOpen, group, range, cls, fits,
    Bool.not_true, Bool.false_eq_true, if_false, ne_eq, not_true_eq_false]
  exact ⟨_, rfl, rfl, rfl, rfl, rfl, rfl, rfl, rfl, rfl, rfl⟩

/-! ### The end of a measurement (R242) -/

@[simp] theorem lateReply_seqs (sid seq obj : Nat) (r : Reply) (s : State) :
    (lateReply sid seq obj r s).ib.seqs = s.ib.seqs := by
  unfold lateReply
  dsimp only
  split
  · exact foldl_keeps (part := fun s => s.ib.seqs) (fun _ _ => sendIb_seqs ..) ..
  · rfl

theorem lateReply_met (sid seq obj : Nat) (r : Reply) (s : State) : (lateReply sid seq obj r s).met = s.met := by simp

theorem lateReply_dict (sid seq obj : Nat) (r : Reply) (s : State) : (lateReply sid seq obj r s).dict = s.dict := by simp

/-- A sequence's lease, and what it shadows under a key. -/
def shadowAt (s : State) (hd k : Nat) : Option (Nat × Option Row) :=
  (mget s.ib.seqs hd).map (fun q => (q.leaseEnd, mget q.shadows k))

theorem shadowAt_shadowPut_same {s : State} {hd : Nat} {q : Sequence} (hq : mget s.ib.seqs hd = some q) (n r : Nat)
    (f : Row → Row) :
    shadowAt (shadowPut hd n r f s) hd (okey n r) = some (q.leaseEnd, some (f (shadowRow q s n r))) := by
  simp [shadowAt, shadowPut, mget_mmod_same, hq]

theorem shadowAt_shadowPut_ne {n r k : Nat} (other : k ≠ okey n r) (hd : Nat) (f : Row → Row) (s : State) :
    shadowAt (shadowPut hd n r f s) hd k = shadowAt s hd k := by
  cases hq : mget s.ib.seqs hd <;> simp [shadowAt, shadowPut, mget_mmod_same, hq, mget_mset_ne _ _ _ _ other]

/-- A step's value goes into its shadow (R242). -/
def fillShadow (hd : Nat) (s : State) (p : Nat × Nat × Nat × Int) : State :=
  shadowPut hd p.1 p.2.1 (fun r =>
    if p.1 = 0x80200 then calRow s p.2.1 p.2.2.1 (.num p.2.2.2) r else lset r p.2.2.1 (.num p.2.2.2)) s

/-- Values for other rows leave a shadow and the lease. -/
theorem shadowAt_fillShadows {fills : List (Nat × Nat × Nat × Int)} {k : Nat}
    (other : ∀ p ∈ fills, k ≠ okey p.1 p.2.1) (hd : Nat) (s : State) :
    shadowAt (fills.foldl (fillShadow hd) s) hd k = shadowAt s hd k := by
  induction fills generalizing s with
  | nil => rfl
  | cons p r ih =>
    rw [List.foldl_cons, ih fun x hx => other x (List.mem_cons_of_mem _ hx)]
    exact shadowAt_shadowPut_ne (other p List.mem_cons_self) ..

/-- A measurement ended: the lease runs on with what was left of it. -/
def calEnded (j : CalJob) (q : Sequence) (s : State) : State :=
  { s with met := { s.met with cal := none }
           ib := { s.ib with seqs := mset s.ib.seqs j.handle { q with leaseEnd := s.clk.fab + j.leaseLeft } } }

/-- A step that ends close enough to its references fills its shadows and is answered. -/
theorem exec_calMeasureDone {t v i freq : Nat} {angle voff ioff : Int} {j : CalJob} {q : Sequence} {s : State}
    (cal : s.met.cal = some j) (past : j.ends ≤ max s.clk.fab t) (hq : mget s.ib.seqs j.handle = some q)
    (near : (calFar j v i angle).isNone = true) : ∃ r, exec (.calMeasureDone t v i angle freq voff ioff) s =
      done (tick t s) (lateReply j.sid j.reqSeq 0x80210 r
        ((calFills (calEnded j q (tick t s)) q j v i angle freq voff ioff).foldl (fillShadow j.handle)
          (calEnded j q (tick t s)))) := by
  rw [Option.isNone_iff_eq_none] at near
  have cal : (tick t s).met.cal = some j := cal
  have past : ¬ (tick t s).clk.fab < j.ends := Nat.not_lt.2 past
  have hq : mget (updMet (fun m => { m with cal := none }) (tick t s)).ib.seqs j.handle = some q := hq
  change ∃ r, execCalMeasureDone t v i angle freq voff ioff s = _
  simp only [execCalMeasureDone, cal, if_neg past, hq, near]
  exact ⟨_, rfl⟩

/-- The gain of a voltage channel stands in column 0 of its row. -/
theorem rNat_calRow_gain {x : Nat} (voltage : x < 3) (s : State) (gain : Nat) {r : Row} (cells : 0 < r.length) :
    rNat (calRow s x 0 (.num gain) r) 0 = gain := by
  cases r with
  | nil => simp at cells
  | cons c r => simp [calRow, voltage, lset, rNat, Val.toNat]

/-- A gain step fills the voltage channel's row of CAL_MAIN once, and nothing else of that key. -/
theorem shadowAt_gainStep {j : CalJob} {s : State} {q : Sequence} (hq : mget s.ib.seqs j.handle = some q)
    (step : j.step = 1) (v i freq : Nat) (angle voff ioff : Int) (old : Sequence) :
    shadowAt ((calFills s old j v i angle freq voff ioff).foldl (fillShadow j.handle) s) j.handle (okey 0x80200 j.phase) =
      some (q.leaseEnd, some (calRow s j.phase 0 (.num (calGain j.vref v)) (shadowRow q s 0x80200 j.phase))) := by
  simp only [calFills, step, Nat.one_ne_zero, if_false, if_true]
  rw [List.foldl_cons, shadowAt_fillShadows]
  · exact shadowAt_shadowPut_same hq ..
  · simp only [List.forall_mem_cons, List.not_mem_nil, false_implies, implies_true, and_true, okey]
    omega

/-- A gain step that ends close enough (R242): what it leaves of the measurement, the lease and the channel's gain. -/
theorem runs_gainStep {t v i freq : Nat} {angle voff ioff : Int} {j : CalJob} {q : Sequence} {s : State}
    (cal : s.met.cal = some j) (past : j.ends ≤ max s.clk.fab t) (hq : mget s.ib.seqs j.handle = some q)
    (step : j.step = 1) (voltage : j.phase < 3) (cells : (shadowRow q s 0x80200 j.phase).length = 7)
    (near : (calFar j v i angle).isNone = true) :
    Runs (.calMeasureDone t v i angle freq voff ioff) s (fun u => u.met.cal = none ∧ (mget u.ib.seqs j.handle).map
      (fun y => (y.leaseEnd, rNat (shadowRow y u 0x80200 j.phase) 0)) = some (max s.clk.fab t + j.leaseLeft, calGain
      j.vref v) ∧ u.dict.store = s.dict.store) := by
  obtain ⟨r, he⟩ := exec_calMeasureDone (freq := freq) (voff := voff) (ioff := ioff) cal past hq near
  let s1 := calEnded j q (tick t s)
  let fills := calFills s1 q j v i angle freq voff ioff
  have met : (fills.foldl (fillShadow j.handle) s1).met = s1.met :=
    foldl_keeps (part := fun s => s.met) (f := fillShadow j.handle) (fun _ _ => rfl) ..
  have dict : (fills.foldl (fillShadow j.handle) s1).dict = s.dict :=
    foldl_keeps (part := fun s => s.dict) (f := fillShadow j.handle) (fun _ _ => rfl) ..
  have shadow := shadowAt_gainStep (s := s1) (mget_mset_same ..) step v i freq angle voff ioff q
  refine runs_metered he fun u hmet hdict hseqs => ⟨?ended, ?gain, ?stored⟩
  case ended =>
    rw [hmet, lateReply_met, met]
    rfl
  case stored => rw [hdict, lateReply_dict, dict]
  case gain =>
    rw [hseqs, lateReply_seqs]
    obtain ⟨y, hy, filled⟩ := Option.map_eq_some_iff.1 shadow
    obtain ⟨lease, row⟩ := Prod.mk.inj filled
    rw [hy, Option.map_some, shadowRow, row, Option.getD_some, lease]
    have gain := rNat_calRow_gain voltage s1 (calGain j.vref v) (r := shadowRow q s 0x80200 j.phase) (by omega)
    exact congrArg (fun g => some (max s.clk.fab t + j.leaseLeft, g)) gain

/-! ### The battery domain (R250, R251) -/

@[simp] theorem battStore_running (e : Cwv) (b : BattMeter) : (battStore e b).running = b.running := by
  unfold battStore
  split <;> rfl

@[simp] theorem battStore_amps (e : Cwv) (b : BattMeter) : (battStore e b).amps = b.amps := by
  unfold battStore
  split <;> rfl

/-- The currents of a window, corrected by the fall-back (R240, R250). -/
def windowAmps (s : State) (rms : List Nat) : List Nat := (List.range 4).map (fun x => fallRms s (x + 3) (cN rms x))

/-- A window of the battery domain, while it meters. -/
theorem exec_battWindow {t : Nat} {rms : List Nat} {vs : List Bool} {s : State} (runs : s.met.batt.running = true) :
    ∃ b, exec (.battWindow t rms vs) s = done (tick t s) (ropUp 0x80064 1 (putN 0x80063 (getN s 0x80063 + 1 : Nat)
        (updMet (fun m => { m with batt := b }) (tick t s)))) ∧
      b.running = true ∧ b.amps = addList s.met.batt.amps (windowAmps (tick t s) rms) := by
  change ∃ b, execBattWindow t rms vs s = _ ∧ _
  unfold execBattWindow
  extract_lets s0 b v i hit b1 above mask b2
  have on : (!b.running) = false := by rw [show b.running = true from runs]; rfl
  rw [on]
  refine ⟨b2, rfl, ?_⟩
  have kept : b2.running = b1.running ∧ b2.amps = b1.amps := by
    simp only [b2]
    split
    · split <;> simp
    · split <;> exact ⟨rfl, rfl⟩
  obtain ⟨running, amps⟩ := kept
  exact ⟨running.trans runs, amps⟩

theorem condSet_met (bit detail : Nat) (on : Bool) (s : State) : (condSet bit detail on s).met = s.met := by simp

/-- Metering that stops while it runs is marked by why it stops (R250). -/
theorem battStop_batt {s : State} (runs : s.met.batt.running = true) (budget : Bool) :
    (battStop budget s).met.batt.running = false ∧ (battStop budget s).met.batt.hit = budget := by
  simp [battStop, runs, updMet]

/-- A condition that holds already, or ends, stores no row (R384). -/
theorem condSet_sameRows {bit : Nat} {on : Bool} {s : State} (held : on = true → s.dict.live.getLsbD bit = true)
    (detail : Nat) : SameRowsBut [] s (condSet bit detail on s) := by
  cases on with
  | false => exact ⟨rfl, fun _ _ _ _ => rfl⟩
  | true => exact .of_dict (by simp [condSet, held rfl])

/-- The budget renewed: no second of it is used, and its condition holds on where none is left of it (R250). -/
def budgetRenewed (s : State) : State :=
  let s := putN 0x80063 0 s
  condSet 130 0 (battSpent s && s.dict.live.getLsbD 130) s

theorem getN_budgetRenewed (s : State) : getN (budgetRenewed s) 0x80063 = 0 := by
  have kept : SameRowsBut [] (putN 0x80063 0 s) (budgetRenewed s) :=
    condSet_sameRows (fun on => (Bool.and_eq_true_iff.1 on).2) 0
  rw [kept.getN (by decide) (by decide)]
  exact getN_putN 0x80063 0 s

/-- Settles O30: it holds. The late answer of a measurement changes neither metering nor sequences, and one value only of a
gain step goes to the voltage channel's row of CAL_MAIN; whether its event opens, goes on or is stored, a window of the
battery domain adds its currents once; and the condition of the budget stores no row where the budget is renewed. -/
theorem calibrationAndBattery : Obligations.CalibrationAndBattery := by
  unfold Obligations.CalibrationAndBattery
  refine ⟨?starts, ?gain, ?battery, ?window, ?spent, ?renew⟩
  case starts =>
    intro t sid h args s q ha cls checks hq h0 mine isOpen group range fits
    obtain ⟨j, he, job⟩ := exec_calMeasure ha cls checks hq h0 mine isOpen group range fits
    refine runs_metered he fun u met _ seqs => ⟨⟨j, ?_, job⟩, ?_⟩
    · rw [met, answer_met]
      rfl
    · rw [seqs, answer_seqs]
      rfl
  case gain =>
    intro t v i freq angle voff ioff j q s cal past hq step voltage _ cells near
    exact runs_gainStep cal past hq step voltage cells near
  case battery =>
    intro t s a b main enabled cell0 cell1 left idle
    have ready : (!(tick t s).lanes.a.running && !(tick t s).lanes.b.running && !(tick t s).power.mainOn
        && getB (tick t s) 0x80107 && getC (tick t s) 0x00410 0 0 != 3 && getC (tick t s) 0x00410 1 0 != 3
        && !battSpent (tick t s) && !(tick t s).met.batt.running) = true := by
      change (!s.lanes.a.running && !s.lanes.b.running && !s.power.mainOn && getB s 0x80107 && getC s 0x00410 0 0 != 3
        && getC s 0x00410 1 0 != 3 && !battSpent s && !s.met.batt.running) = true
      simp [a, b, main, enabled, cell0, cell1, left, idle]
    exact runs_metered (if_pos ready) fun u met _ _ => by rw [met]; rfl
  case window =>
    intro t rms vs s runs
    obtain ⟨b, he, running, amps⟩ := exec_battWindow (t := t) (rms := rms) (vs := vs) runs
    refine runs_metered he fun u met dict _ => ⟨?_, ?_, ?_⟩
    · have total (v : State) : SameRowsBut [0x80064] v (ropUp 0x80064 1 v) := sameRowsBut_of_store (by decide) rfl rfl
      rw [getN_of_dict dict, (total _).getN (by decide) (by decide), getN_putN]
    · rw [met]
      exact running
    · rw [met]
      exact amps
  case spent =>
    intro t s runs spent
    have due : ((tick t s).met.batt.running && battSpent (tick t s)) = true := Bool.and_eq_true_iff.2 ⟨runs, spent⟩
    obtain ⟨stopped, hit⟩ := battStop_batt (s := tick t s) runs true
    refine runs_metered (if_pos due) fun u met dict _ => ?_
    rw [met, dict, condSet_met]
    exact ⟨stopped, hit, live_condSet (by decide) ..⟩
  case renew =>
    intro t sid h args s hp
    have run := runs_execCmd (c := .battMetRenew t h args) (v := budgetRenewed (opState t h sid s)) hp rfl rfl
      (by simp [budgetRenewed])
    refine runs_mono run fun u ⟨dict, _, reply⟩ => ⟨?_, obj_of_passes hp ▸ reply⟩
    rw [getN_of_dict dict, getN_budgetRenewed]

end Sys2Proof.Machine
end

section
/-!
PROOFS. The strings of the anchor drive: sensors, cuts, clamps, faults and the retest (R267, R268, R271, R272, R274), and the
settlement of O32.
-/
namespace Sys2Proof.Machine

open Sys2Proof.Safety

theorem length_lmod {α : Type} (l : List α) (i : Nat) (f : α → α) : (lmod l i f).length = l.length := by
  induction l generalizing i with
  | nil => rfl
  | cons x r ih =>
    cases i with
    | zero => rfl
    | succ i => simp [lmod, ih]

/-! ### The closing of a step and the strings -/

/-- The closing of a step leaves the anchor drive and the dictionary as its command made them. -/
theorem runs_led {c : Instr} {s s0 v : State} {P : State → Prop} (he : exec c s = done s0 v)
    (hP : ∀ u, u.led = v.led → u.dict = v.dict → P u) : Runs c s P := ⟨_, he, hP _ (by simp) (by simp)⟩

/-- As `runs_execCmd`; and the anchor drive stands as the effect left it. -/
theorem runs_execCmd_led {c : Instr} {obj t sid : Nat} {cols : List ColKind} {h : Hdr} {args : List TVal}
    {eff : Nat → Session → State → Answer} {s v : State} {r : Reply} (hp : passes obj cols false t h args sid s = true)
    (he : exec c s = done (tick t s) (execCmd obj cols h args eff (tick t s)))
    (hop : eff sid (caller t sid s) (opState t h sid s) = (v, some r))
    (hs : v.ib.sessions = (opState t h sid s).ib.sessions) : Runs c s (fun u => Replied v sid h r u ∧ u.led = v.led) := by
  refine runs_both (runs_execCmd hp he hop hs) (runs_led he fun u led _ => led.trans ?_)
  rw [execCmd_passes hp, hop]
  simp

theorem strOf_of_led {s u : State} (h : u.led = s.led) (k : Nat) : strOf u k = strOf s k := by rw [strOf, strOf, h]

@[simp] theorem strOf_updStr_same {k : Nat} {s : State} (hk : k < s.led.strings.length) (f : StringSt → StringSt) :
    strOf (updStr k f s) k = f (strOf s k) := lget_lmod_same _ _ _ _ hk

/-- A string that was changed, and moved by nothing since. -/
theorem strOf_changed {k : Nat} {f : StringSt → StringSt} {s u : State} (led : u.led = (updStr k f s).led)
    (hk : k < s.led.strings.length) : strOf u k = f (strOf s k) := (strOf_of_led led k).trans (strOf_updStr_same hk f)

theorem strOf_updStr_ne {j k : Nat} (other : j ≠ k) (f : StringSt → StringSt) (s : State) :
    strOf (updStr k f s) j = strOf s j := lget_lmod_ne _ _ _ _ _ other

theorem ledFault_led (sev k pos fault : Nat) (s : State) : (ledFault sev k pos fault s).led = s.led := by simp [ledFault]

/-- The record of a fault moves no sticky bit. -/
theorem ledFault_sticky (sev k pos fault : Nat) (s : State) :
    (ledFault sev k pos fault s).dict.sticky = s.dict.sticky := record_sticky ..

/-- The bit that is set before a fault's record reads 1 after it. -/
theorem ledFault_stickySet {bit : Nat} (h : bit < 256) (sev k pos fault detail : Nat) (s : State) :
    (ledFault sev k pos fault (stickySet bit detail s)).dict.sticky.getLsbD bit = true := by
  rw [ledFault_sticky]
  exact stickySet_getLsbD_same h ..

/-- The bit and the record of a fault leave the strings. -/
theorem strOf_ledFault_stickySet (bit detail sev k pos fault : Nat) (s : State) (j : Nat) :
    strOf (ledFault sev k pos fault (stickySet bit detail s)) j = strOf s j :=
  strOf_of_led (by rw [ledFault_led]; simp) j

/-! ### The pad sensor and the comparator (R267, R268) -/

theorem condSet_led (bit detail : Nat) (on : Bool) (s : State) : (condSet bit detail on s).led = s.led := by simp

theorem record_stickySet_led (typ sev source : Nat) (payload : Bytes) (bit detail : Nat) (s : State) :
    (record typ sev source payload (stickySet bit detail s)).led = s.led := by simp

/-- A sensor whose reading has not moved for 60 s is in fault, where it was not before; no code moves. -/
theorem runs_padSensorStuck {t : Nat} {k : Fin 4} {s : State} (hk : k.val < s.led.strings.length)
    (lit : (strOf s k.val).code ≠ 0) (late : (strOf s k.val).padAt + 60 * Config.secCycles ≤ max s.clk.fab t) :
    Runs (.padSensorStuck t k) s
      (fun u => (strOf u k.val).sensorBad = true ∧ (strOf u k.val).code = (strOf s k.val).code) := by
  by_cases sound : (!(strOf s k.val).sensorBad) = true
  · refine runs_led (if_pos ⟨lit, late, sound⟩) fun u led _ => ?_
    rw [strOf_changed (led.trans (condSet_led ..)) hk]
    exact ⟨rfl, rfl⟩
  · have bad : (strOf s k.val).sensorBad = true := by simpa using sound
    refine runs_led (if_neg fun found => sound found.2.2) fun u led _ => ?_
    rw [strOf_of_led led]
    exact ⟨bad, rfl⟩

theorem runs_hwOvertempCut {t : Nat} {k : Fin 4} {pad : Int} {s : State} (hk : k.val < s.led.strings.length)
    (isOn : (strOf s k.val).hwCut = false) (hot : 1270 ≤ pad) : Runs (.hwOvertempCut t k pad) s (fun u =>
      (strOf u k.val).hwCut = true ∧ (strOf u k.val).code = 0 ∧ u.dict.sticky.getLsbD 145 = true) := by
  have uncut : (!(strOf s k.val).hwCut) = true := by rw [isOn]; rfl
  refine runs_led (if_pos ⟨hot, uncut⟩) fun u led dict => ?_
  rw [strOf_changed (led.trans (record_stickySet_led ..)) hk]
  refine ⟨rfl, rfl, ?_⟩
  rw [dict]
  exact (congrArg (·.getLsbD 145) (record_sticky ..)).trans (stickySet_getLsbD_same (by decide) ..)

/-- A string whose comparator has let go: its regulator may run again. -/
def uncut (k : Nat) (s : State) : State := updStr k (fun x => { x with hwCut := false }) s

/-- The comparator gives back the code that the set, the supply and the string's fault leave (R268). -/
theorem runs_hwOvertempRelease {t : Nat} {k : Fin 4} {pad : Int} {s : State} (hk : k.val < s.led.strings.length)
    (cut : (strOf s k.val).hwCut = true) (cool : pad < 1150) : Runs (.hwOvertempRelease t k pad) s (fun u =>
      (strOf u k.val).hwCut = false ∧ (strOf u k.val).code =
        if ledUp s && !(strOf s k.val).fault then lget s.led.set.code k.val 0 else 0) := by
  have freed : strOf (uncut k.val (tick t s)) k.val = { strOf s k.val with hwCut := false } :=
    strOf_updStr_same (s := tick t s) hk _
  have hk1 : k.val < (uncut k.val (tick t s)).led.strings.length := hk.trans_eq (length_lmod ..).symm
  have code : stageCode (uncut k.val (tick t s)) k.val =
      if ledUp s && !(strOf s k.val).fault then lget s.led.set.code k.val 0 else 0 := by
    rw [stageCode, freed, show ledUp (uncut k.val (tick t s)) = ledUp s from rfl]
    cases ledUp s <;> cases (strOf s k.val).fault <;> rfl
  refine runs_led (if_pos ⟨cool, cut⟩) fun u led _ => ?_
  rw [strOf_changed led hk1, ← code]
  exact ⟨congrArg StringSt.hwCut freed, rfl⟩

/-! ### Clamps (R271, R272) -/

/-- A position that is marked is faulty, and no other string moves. -/
theorem markPos_faulty {k p : Nat} {s : State} (hk : k < s.led.strings.length) (hp : p < 24) :
    (strOf (markPos true k p s) k).faulty.getLsbD p = true ∧
      (strOf (markPos true k p s) k).clamped = (strOf s k).clamped ∧
      ((strOf s k).faulty.getLsbD p = false → (strOf (markPos true k p s) k).opens.getLsbD p = true ∧
        (markPos true k p s).dict.sticky.getLsbD 146 = true) ∧
      ∀ j, j ≠ k → strOf (markPos true k p s) j = strOf s j := by
  unfold markPos
  split
  · next marked => exact ⟨marked, rfl, fun unmarked => by simp [marked] at unmarked, fun _ _ => rfl⟩
  · have bit (m : BitVec 24) : (m ||| BitVec.twoPow 24 p).getLsbD p = true := by simp [hp]
    simp only [strOf_ledFault_stickySet, strOf_updStr_same hk]
    exact ⟨bit _, trivial, fun _ => ⟨bit _, ledFault_stickySet (by decide) ..⟩,
      fun j other => strOf_updStr_ne other ..⟩

/-- A string with a switch that its clamp holds closed, and that position's lit interval empty. -/
def clampedAt (k p : Nat) (s : State) : State :=
  updLed (fun d => { d with lit := d.lit.mapIdx (fun i x => if i = 24 * k + p then (x.1, 0) else x) })
    (updStr k (fun x => { x with clamped := x.clamped ||| BitVec.twoPow 24 p }) s)

theorem strOf_clampedAt (k p j : Nat) (s : State) : strOf (clampedAt k p s) j =
    strOf (updStr k (fun x => { x with clamped := x.clamped ||| BitVec.twoPow 24 p }) s) j := rfl

theorem runs_bypassClamp {t v : Nat} {k : Fin 4} {p : Fin 24} {s : State} (hk : k.val < s.led.strings.length)
    (up : ledUp s = true) (high : 16000 < v) : Runs (.bypassClamp t k p v) s (fun u =>
      (strOf u k.val).clamped.getLsbD p.val = true ∧ (strOf u k.val).faulty.getLsbD p.val = true ∧
      ((strOf s k.val).faulty.getLsbD p.val = false →
        (strOf u k.val).opens.getLsbD p.val = true ∧ u.dict.sticky.getLsbD 146 = true) ∧
      ∀ j, j ≠ k.val → strOf u j = strOf s j) := by
  have hk1 : k.val < (clampedAt k.val p.val (tick t s)).led.strings.length := hk.trans_eq (length_lmod ..).symm
  have closed := strOf_updStr_same (s := tick t s) hk (fun x => { x with clamped := x.clamped ||| BitVec.twoPow 24 p.val })
  obtain ⟨faulty, kept, onset, others⟩ := markPos_faulty hk1 p.isLt
  rw [strOf_clampedAt, closed] at kept onset
  refine runs_led (v := markPos true k.val p.val (clampedAt k.val p.val (tick t s))) (if_pos ⟨high, up⟩)
    fun u led dict => ?_
  simp only [strOf_of_led led, dict]
  refine ⟨?_, faulty, onset, fun j other => ?_⟩
  · rw [kept]
    simp [p.isLt]
  · rw [others j other, strOf_clampedAt, strOf_updStr_ne other]
    rfl

/-! ### Faults of a string's current (R272) -/

/-- A string that the fault of an open circuit switches off. -/
def opened (k : Nat) (s : State) : State :=
  updStr k (fun x => { x with fault := true, code := 0, openSince := none, complSince := none }) s

/-- A string whose current has been missing for 10 ms (STRING_OPEN). -/
theorem exec_stringCurrentFault_open {t f : Nat} {k : Fin 4} {s : State} (up : ledUp s = true)
    (sound : (strOf s k.val).fault = false) (since : (strOf s k.val).openSince = some f)
    (late : f + 10 * Config.msCycles ≤ max s.clk.fab t) : exec (.stringCurrentFault t k) s =
      done (tick t s) (ledFault 5 k.val 255 3 (stickySet 148 k.val (opened k.val (tick t s)))) := by
  change execStringCurrentFault t k s = _
  unfold execStringCurrentFault
  extract_lets s0 x due
  have watched : (!ledUp s0 || x.fault) = false := by
    rw [show ledUp s0 = true from up, show x.fault = false from sound]
    rfl
  have passed : due x.openSince = true := by
    rw [show x.openSince = some f from since]
    exact decide_eq_true late
  rw [watched, passed]
  rfl

/-- A string out of compliance for 10 ms that was not told yet (COMPLIANCE). -/
theorem exec_stringCurrentFault_compliance {t f : Nat} {k : Fin 4} {s : State} (up : ledUp s = true)
    (sound : (strOf s k.val).fault = false) (flows : (strOf s k.val).openSince = none)
    (since : (strOf s k.val).complSince = some f) (late : f + 10 * Config.msCycles ≤ max s.clk.fab t)
    (untold : (strOf s k.val).complTold = false) : exec (.stringCurrentFault t k) s =
      done (tick t s) (ledFault 4 k.val 255 2 (stickySet 147 k.val
        (updStr k.val (fun x => { x with complTold := true }) (tick t s)))) := by
  change execStringCurrentFault t k s = _
  unfold execStringCurrentFault
  extract_lets s0 x due
  have watched : (!ledUp s0 || x.fault) = false := by
    rw [show ledUp s0 = true from up, show x.fault = false from sound]
    rfl
  have closed : due x.openSince = false := by
    rw [show x.openSince = none from flows]
  have passed : (due x.complSince && !x.complTold) = true := by
    rw [show x.complSince = some f from since, show x.complTold = false from untold, Bool.not_false, Bool.and_true]
    exact decide_eq_true late
  rw [watched, closed, passed]
  rfl

/-- A command that changes a string and then records its fault leaves the string as changed and the fault's bit set. -/
theorem runs_ledFault {c : Instr} {t k bit sev pos fault detail : Nat} {f : StringSt → StringSt} {s : State}
    (he : exec c s = done (tick t s) (ledFault sev k pos fault (stickySet bit detail (updStr k f (tick t s)))))
    (hk : k < s.led.strings.length) (hb : bit < 256) :
    Runs c s (fun u => strOf u k = f (strOf s k) ∧ u.dict.sticky.getLsbD bit = true) := by
  refine runs_led he fun u led dict => ⟨?_, ?_⟩
  · rw [strOf_of_led led, strOf_ledFault_stickySet]
    exact strOf_updStr_same (s := tick t s) hk f
  · rw [dict]
    exact ledFault_stickySet hb ..

/-! ### The retest (R274) -/

/-- A string as LED_RETEST leaves it at `now`: no fault, no mark, no clamp, and 2 s of test light. -/
def retested (now : Nat) (x : StringSt) : StringSt :=
  { x with
    fault := false, faulty := 0, opens := 0, shorts := 0, clamped := 0, cross := 255, openRun := List.replicate 24 0
    shortRun := List.replicate 24 0, complSince := none, complTold := false, openSince := none
    retest := some (now + 2 * Config.secCycles) }

theorem runs_ledRetest {t sid : Nat} {h : Hdr} {args : List TVal} {s : State}
    (hp : passes 0x90220 [.int 2 0 3] false t h args sid s = true) (four : s.led.strings.length = 4) :
    Runs (.ledRetest t h args) s (fun u =>
      strOf u (argN args 0) = retested (max s.clk.fab t) (strOf s (argN args 0)) ∧ Answered u sid h (okReply 0x90220)) := by
  have small : argN args 0 ≤ 3 := argN_le_of_argRange (hi := 3) (argRange_of_passes hp)
  have run := runs_execCmd_led (c := .ledRetest t h args) hp rfl rfl rfl
  refine runs_mono run fun u ⟨⟨_, _, reply⟩, led⟩ => ⟨?_, obj_of_passes hp ▸ reply⟩
  exact strOf_changed (s := opState t h sid s) led (show argN args 0 < s.led.strings.length by omega)

/-- At the end of its test light a string keeps all else. -/
theorem exec_ledRetestEnd {t f : Nat} {k : Fin 4} {s : State} (lit : (strOf s k.val).retest = some f)
    (past : f ≤ max s.clk.fab t) : exec (.ledRetestEnd t k) s =
      done (tick t s) (updStr k.val (fun x => { x with retest := none }) (tick t s)) := by
  have lit : (strOf (tick t s) k.val).retest = some f := lit
  change execLedRetestEnd t k s = _
  simp only [execLedRetestEnd, lit]
  exact if_pos past

/-- Settles O32: it holds. Each rule changes its string once, and neither the bit of a fault nor its record moves a string or
takes a bit back. -/
theorem ledFaults : Obligations.LedFaults := by
  unfold Obligations.LedFaults
  have within {s : State} (four : s.led.strings.length = 4) (k : Fin 4) : k.val < s.led.strings.length := by
    rw [four]
    exact k.isLt
  refine ⟨?pad, ?cut, ?release, ?clamp, ?missing, ?compliance, ?retest, ?retestEnd⟩
  case pad => exact fun t k s four lit late => runs_padSensorStuck (within four k) lit late
  case cut => exact fun t k pad s four isOn hot => runs_hwOvertempCut (within four k) isOn hot
  case release => exact fun t k pad s four cut cool => runs_hwOvertempRelease (within four k) cut cool
  case clamp => exact fun t v k p s four up high => runs_bypassClamp (within four k) up high
  case missing =>
    intro t f k s four up sound since late
    refine runs_mono (runs_ledFault (exec_stringCurrentFault_open up sound since late) (within four k) (by decide))
      fun u ⟨str, bit⟩ => ?_
    rw [str]
    exact ⟨rfl, rfl, bit⟩
  case compliance =>
    intro t f k s four up sound flows since late untold
    refine runs_mono (runs_ledFault (exec_stringCurrentFault_compliance up sound flows since late untold) (within four k)
      (by decide)) fun u ⟨str, bit⟩ => ?_
    rw [str]
    exact ⟨sound, rfl, bit⟩
  case retest =>
    intro t sid h args s hp four
    refine runs_mono (runs_ledRetest hp four) fun u ⟨str, reply⟩ => ?_
    rw [str]
    exact ⟨rfl, rfl, rfl, rfl, reply⟩
  case retestEnd =>
    intro t f k s four lit past
    refine runs_led (exec_ledRetestEnd lit past) fun u led _ => ?_
    rw [strOf_changed led (within four k)]
    exact ⟨rfl, rfl, rfl⟩

end Sys2Proof.Machine
end

section
/-!
PROOFS. Flowstone engines (R275 to R279), and the settlement of O33.
-/
namespace Sys2Proof.Machine

open Sys2Proof.Safety

/-! ### Engines of a lane -/

theorem engOf_of_engines {l : Lane} {s u : State} (h : (u.lanes.get l).engines = (s.lanes.get l).engines) (e : Nat) :
    engOf l u e = engOf l s e := by rw [engOf, engOf, h]

theorem engines_updEng (l : Lane) (e : Nat) (f : Engine → Engine) (s : State) :
    ((updEng l e f s).lanes.get l).engines = lmod (s.lanes.get l).engines e f := by simp [updEng]

theorem engOf_updEng_same {l : Lane} {e : Nat} {s : State} (he : e < (s.lanes.get l).engines.length) (f : Engine → Engine) :
    engOf l (updEng l e f s) e = f (engOf l s e) := by
  rw [engOf, engines_updEng]
  exact lget_lmod_same _ _ _ _ he

/-- From `s` to `u` engines of lane `l` worked: no other lane's engine moved, and neither did the dictionary, the sessions,
the anchor drive or what decides which lanes compute. -/
structure EngineWork (l : Lane) (s u : State) : Prop where
  dict : u.dict = s.dict
  ib : u.ib = s.ib
  led : u.led = s.led
  standing : ∀ o, (u.lanes.get o).running = (s.lanes.get o).running ∧ (u.lanes.get o).role = (s.lanes.get o).role
  others : ∀ o, o ≠ l → (u.lanes.get o).engines = (s.lanes.get o).engines

namespace EngineWork

theorem refl (l : Lane) (s : State) : EngineWork l s s := ⟨rfl, rfl, rfl, fun _ => ⟨rfl, rfl⟩, fun _ _ => rfl⟩

theorem trans {l : Lane} {s v u : State} (h : EngineWork l s v) (k : EngineWork l v u) : EngineWork l s u where
  dict := k.dict.trans h.dict
  ib := k.ib.trans h.ib
  led := k.led.trans h.led
  standing o := ⟨(k.standing o).1.trans (h.standing o).1, (k.standing o).2.trans (h.standing o).2⟩
  others o ho := (k.others o ho).trans (h.others o ho)

theorem foldl {β : Type} {l : Lane} {f : State → β → State} (hf : ∀ s b, EngineWork l s (f s b)) (bs : List β) (s : State) :
    EngineWork l s (bs.foldl f s) := by
  induction bs generalizing s with
  | nil => exact refl l s
  | cons b r ih => exact (hf s b).trans (ih (f s b))

/-- Which lanes compute does not change while engines work. -/
theorem consumes {l : Lane} {s u : State} (h : EngineWork l s u) (o : Lane) : consumes o u = consumes o s := by
  have act : active u = active s := active_of_roles (h.standing .A).2 (h.standing .B).2
  rw [Machine.consumes, Machine.consumes, (h.standing o).1, (h.standing o).2, act]

end EngineWork

theorem updEng_work (l : Lane) (e : Nat) (f : Engine → Engine) (s : State) : EngineWork l s (updEng l e f s) where
  dict := rfl
  ib := rfl
  led := rfl
  standing o := by cases l <;> cases o <;> exact ⟨rfl, rfl⟩
  others o ho := by rw [updEng, updLane_lane_ne ho.symm]

theorem icuRaiseAt_work (l : Lane) (n : Nat) (s : State) : EngineWork l s (icuRaiseAt l n s) where
  dict := rfl
  ib := rfl
  led := rfl
  standing o := by cases l <;> cases o <;> exact ⟨rfl, rfl⟩
  others o ho := by rw [icuRaiseAt, updIcu, updLane_lane_ne ho.symm]

theorem icuRaiseAt_engines (l o : Lane) (n : Nat) (s : State) :
    ((icuRaiseAt l n s).lanes.get o).engines = (s.lanes.get o).engines := by cases l <;> cases o <;> rfl

/-! ### Each lane that computes works on its own engines (R16) -/

/-- A lane's part in the work of the lanes that compute. -/
def onLane (f : Lane → State → State) (l : Lane) (s : State) : State := if consumes l s then f l s else s

theorem onLanes_eq (f : Lane → State → State) (s : State) : onLanes f s = onLane f .B (onLane f .A s) := rfl

theorem onLane_computes {f : Lane → State → State} {l : Lane} {s : State} (hc : consumes l s = true) :
    onLane f l s = f l s := if_pos hc

section
variable {f : Lane → State → State} (work : ∀ l s, EngineWork l s (f l s))
include work

theorem onLane_work (l : Lane) (s : State) : EngineWork l s (onLane f l s) := by
  unfold onLane
  split
  · exact work l s
  · exact .refl l s

/-- What a lane that computes does to its engines it does from a state with the same engines of its own and the same
settings. -/
theorem engines_onLanes {l : Lane} {s : State} (hc : consumes l s = true) : ∃ v, v.dict = s.dict ∧
    (v.lanes.get l).engines = (s.lanes.get l).engines ∧
      ((onLanes f s).lanes.get l).engines = ((f l v).lanes.get l).engines := by
  rw [onLanes_eq]
  cases l with
  | A =>
    refine ⟨s, rfl, rfl, ?_⟩
    rw [(onLane_work work .B _).others .A (by decide), onLane_computes hc]
  | B =>
    have first := onLane_work work .A s
    refine ⟨onLane f .A s, first.dict, first.others .B (by decide), ?_⟩
    rw [onLane_computes ((first.consumes .B).trans hc)]

/-- What the lanes do to their engines leaves the settings, the sessions and the anchor drive. -/
theorem onLanes_keeps (s : State) :
    (onLanes f s).dict = s.dict ∧ (onLanes f s).ib = s.ib ∧ (onLanes f s).led = s.led := by
  have first := onLane_work work .A s
  have second := onLane_work work .B (onLane f .A s)
  exact ⟨second.dict.trans first.dict, second.ib.trans first.ib, second.led.trans first.led⟩

end

/-! ### START, STOP, triggers and programs (R275, R276, R278) -/

/-- What an engine itself owns does not keep it from starting. -/
theorem any_others_lmod (q : Engine → Bool) (f : Engine → Engine) (xs : List Engine) (e n : Nat) :
    ((lmod xs e f).zipIdx n).any (fun p => p.2 != n + e && q p.1) = (xs.zipIdx n).any (fun p => p.2 != n + e && q p.1) := by
  induction xs generalizing e n with
  | nil => rfl
  | cons x r ih =>
    cases e with
    | zero => simp [lmod]
    | succ e =>
      have later := ih e (n + 1)
      rw [show n + 1 + e = n + (e + 1) by omega] at later
      simp only [lmod, List.zipIdx_cons, List.any_cons, later]

theorem ownBad_of_engines {l : Lane} {s u : State} (h : (u.lanes.get l).engines = (s.lanes.get l).engines) (e : Nat)
    (own : BitVec 4) : ownBad l u e own = ownBad l s e own := by rw [ownBad, ownBad, h]

theorem ownBad_updEng (l : Lane) (e : Nat) (own : BitVec 4) (f : Engine → Engine) (s : State) :
    ownBad l (updEng l e f s) e own = ownBad l s e own := by
  have others := any_others_lmod (fun x => engRuns x && (x.own &&& own) != 0) f (s.lanes.get l).engines e 0
  rw [Nat.zero_add] at others
  simp only [ownBad, engines_updEng, Bool.and_assoc, others]

/-- An engine that has started with `own` on the program `prog`. -/
def started (own : BitVec 4) (prog : List Word32) : Engine :=
  { Engine.init with own := own, mask := own, state := 1, prog := prog }

theorem engOf_engStart {l : Lane} {e : Nat} {own : BitVec 4} {s : State} (he : e < (s.lanes.get l).engines.length)
    (fits : ownBad l s e own = false) : engOf l (engStart l e own s) e = started own (engOf l s e).prog := by
  rw [engStart, fits]
  exact engOf_updEng_same he _

theorem engOf_engStart_bad {l : Lane} {e : Nat} {own : BitVec 4} {s : State} (he : e < (s.lanes.get l).engines.length)
    (bad : ownBad l s e own = true) :
    engOf l (engStart l e own s) e = { engOf l s e with own := own, state := 3, fault := 1 } := by
  rw [engStart, bad]
  exact engOf_updEng_same he _

theorem engStart_work (l : Lane) (e : Nat) (own : BitVec 4) (s : State) : EngineWork l s (engStart l e own s) := by
  unfold engStart
  split <;> exact updEng_work ..

/-- The program that an engine loads is that of FLOWSTONE_PROG. -/
theorem engLoad_prog {l : Lane} {e : Nat} {s u : State} (dict : u.dict = s.dict)
    (engines : (u.lanes.get l).engines = (s.lanes.get l).engines) (he : e < (s.lanes.get l).engines.length) :
    (engOf l (engLoad l e u) e).prog = (engOf l (engLoad l e s) e).prog := by
  rw [engLoad, engLoad, engOf_updEng_same he, engOf_updEng_same (by rwa [engines]), getRow_of_dict dict]

/-- A lane loads and starts an engine. -/
theorem engOf_load_start {l : Lane} {e : Nat} {own : BitVec 4} {s : State} (he : e < (s.lanes.get l).engines.length)
    (fits : ownBad l s e own = false) : engOf l (engStart l e own (engLoad l e s)) e =
      started own (engOf l (engLoad l e s) e).prog := by
  refine engOf_engStart ?_ ((ownBad_updEng ..).trans fits)
  rwa [engLoad, engines_updEng, length_lmod]

theorem engOf_engStop {l : Lane} {e : Nat} {s : State} (he : e < (s.lanes.get l).engines.length) :
    engOf l (engStop l e s) e = { engOf l s e with state := 0, waitKind := 0, ramp := none, left := 0 } :=
  engOf_updEng_same he _

theorem engOf_engTrig {l : Lane} {e : Nat} {s : State} (he : e < (s.lanes.get l).engines.length) (bits : Nat) :
    engOf l (engTrig l e bits s) e = { engOf l s e with trig := (engOf l s e).trig ||| BitVec.ofNat 4 bits } :=
  engOf_updEng_same he _

theorem getElem?_lset_ne {α : Type} (l : List α) {i j : Nat} (h : j ≠ i) (v : α) : (lset l i v)[j]? = l[j]? := by
  induction l generalizing i j with
  | nil => rfl
  | cons x r ih =>
    cases i <;> cases j
    case zero.zero => exact absurd rfl h
    case succ.succ => exact ih (by omega)
    all_goals rfl

/-! ### The commands (R275, R279) -/

/-- As `runs_execCmd`; and each lane's engines stand as the effect left them. -/
theorem runs_execCmd_engines {c : Instr} {obj t sid : Nat} {cols : List ColKind} {h : Hdr} {args : List TVal}
    {eff : Nat → Session → State → Answer} {s v : State} {r : Reply} (hp : passes obj cols false t h args sid s = true)
    (he : exec c s = done (tick t s) (execCmd obj cols h args eff (tick t s)))
    (hop : eff sid (caller t sid s) (opState t h sid s) = (v, some r)) (hs : v.ib = (opState t h sid s).ib) :
    Runs c s (fun u => Replied v sid h r u ∧ ∀ l, (u.lanes.get l).engines = (v.lanes.get l).engines) := by
  have live : (mget v.ib.sessions sid).isSome = true := by
    rw [hs]
    exact opState_session (sessions_of_arrives (Bool.and_eq_true_iff.1 hp).1) t h
  refine runs_both (runs_execCmd hp he hop (by rw [hs])) (runs_of_done he fun u sent l => ?_)
  rw [execCmd_passes hp, hop] at sent
  rw [((answer_some live h r).1.trans sent).lanes l]

/-- A command that each computing lane carries out on its engines is answered OK, and leaves them as that lane made them. -/
theorem runs_onLanes {c : Instr} {obj t sid : Nat} {cols : List ColKind} {h : Hdr} {args : List TVal}
    {eff : Nat → Session → State → Answer} {f : Lane → State → State} {s : State}
    (hp : passes obj cols false t h args sid s = true)
    (he : exec c s = done (tick t s) (execCmd obj cols h args eff (tick t s)))
    (hop : eff sid (caller t sid s) (opState t h sid s) = okEmpty (onLanes f (opState t h sid s)))
    (work : ∀ l s, EngineWork l s (f l s)) :
    Runs c s (fun u => (∀ l, consumes l s = true → ∃ v, v.dict = s.dict ∧
      (v.lanes.get l).engines = (s.lanes.get l).engines ∧ (u.lanes.get l).engines = ((f l v).lanes.get l).engines) ∧
      Answered u sid h (okReply obj)) := by
  obtain ⟨_, ib, _⟩ := onLanes_keeps work (opState t h sid s)
  refine runs_mono (runs_execCmd_engines hp he hop ib) fun u ⟨⟨_, _, reply⟩, engines⟩ => ⟨fun l hc => ?_, ?_⟩
  · obtain ⟨v, dict, same, made⟩ := engines_onLanes work (s := opState t h sid s) hc
    exact ⟨v, dict, same, (engines l).trans made⟩
  · exact obj_of_passes hp ▸ reply

/-! ### The registers (R278) -/

/-- A register write of a core other than a policy core closes with its effect; sending after it moves no engine. -/
theorem runs_engWrite {c : Instr} {t a : Nat} {l : Lane} {k : Core} {eff : State → State} {s : State} {P : State → Prop}
    (he : exec c s = done (tick t s) (engWrite l k a eff (tick t s))) (runtime : isPolicy k = false)
    (hP : ∀ u, (u.lanes.get l).engines = ((eff (tick t s)).lanes.get l).engines → P u) : Runs c s P := by
  refine runs_of_done (v := eff (tick t s)) (by rw [he, engWrite, runtime]; rfl) fun u sent => hP u ?_
  rw [sent.lanes l]

/-- A bus error is all that such a command answers with, and no engine moves. -/
theorem runs_busErr {c : Instr} {t a : Nat} {l : Lane} {k : Core} {fence : Bool} {s : State}
    (he : exec c s = done (tick t s) (busErr l k a fence (tick t s))) :
    Runs c s (fun u => (u.lanes.get l).engines = (s.lanes.get l).engines ∧ Sent u (.busError l k a)) := by
  refine runs_of_done he fun u sent => ⟨?_, sent.sent _ (busErr_sent ..)⟩
  rw [sent.lanes l, busErr_lanes]
  rfl

/-- PROG is fenced from policy cores, and locked unless STATE is 00b. -/
theorem runs_flsProgWrite_refused {t : Nat} {l : Lane} {c : Core} {e : Fin 8} {i : Fin 64} {w : Word32} {s : State}
    (barred : isPolicy c = true ∨ (engOf l s e.val).state ≠ 0) : Runs (.flsProgWrite t l c e i w) s (fun u =>
      (u.lanes.get l).engines = (s.lanes.get l).engines ∧ Sent u (.busError l c (engBase e.val + 0x100 + 4 * i.val))) := by
  by_cases policy : isPolicy c = true
  · exact runs_busErr (congrArg (done (tick t s)) (if_pos policy))
  · exact runs_busErr (congrArg (done (tick t s)) ((if_neg policy).trans (if_neg (barred.resolve_left policy))))

/-! ### The tick (R276, R277) -/

/-- An engine of a lane runs one tick; its SIG words raise its interrupt. -/
def tickEngine (ms : Nat) (l : Lane) (s : State) (e : Nat) : State :=
  (List.range (engTick ms (engOf l s e)).2).foldl (fun s _ => icuRaiseAt l (104 + e) s)
    (updEng l e (fun _ => (engTick ms (engOf l s e)).1) s)

theorem tickEngine_work (ms : Nat) (l : Lane) (s : State) (e : Nat) : EngineWork l s (tickEngine ms l s e) :=
  (updEng_work ..).trans (.foldl (fun _ _ => icuRaiseAt_work ..) _ _)

theorem engines_tickEngine (ms : Nat) (l : Lane) (s : State) (e : Nat) : ((tickEngine ms l s e).lanes.get l).engines =
    lmod (s.lanes.get l).engines e (fun _ => (engTick ms (engOf l s e)).1) :=
  (foldl_keeps (part := fun s => (s.lanes.get l).engines) (fun _ _ => icuRaiseAt_engines ..) _ _).trans
    (engines_updEng ..)

/-- The first `n` engines of a lane run one tick each. -/
def tickEngines (ms n : Nat) (l : Lane) (s : State) : State := (List.range n).foldl (tickEngine ms l) s

theorem tickEngines_succ (ms n : Nat) (l : Lane) (s : State) :
    tickEngines ms (n + 1) l s = tickEngine ms l (tickEngines ms n l s) n := by
  rw [tickEngines, List.range_succ, List.foldl_append]
  rfl

/-- Each engine is ticked once, by itself: those from `n` on have not moved. -/
theorem engOf_tickEngines (ms n : Nat) (l : Lane) (s : State) :
    ((tickEngines ms n l s).lanes.get l).engines.length = (s.lanes.get l).engines.length ∧
      ∀ e, e < (s.lanes.get l).engines.length →
        engOf l (tickEngines ms n l s) e = if e < n then (engTick ms (engOf l s e)).1 else engOf l s e := by
  induction n with
  | zero => exact ⟨rfl, fun e _ => rfl⟩
  | succ n ih =>
    obtain ⟨length, ticked⟩ := ih
    rw [tickEngines_succ]
    refine ⟨by rw [engines_tickEngine, length_lmod, length], fun e he => ?_⟩
    rw [engOf, engines_tickEngine]
    by_cases last : e = n
    · subst last
      rw [lget_lmod_same _ _ _ _ (by rwa [length]), ticked e he, if_neg (lt_irrefl e), if_pos (lt_add_one e)]
    · rw [lget_lmod_ne _ _ _ _ _ last, ← engOf, ticked e he]
      exact if_congr (by omega) rfl rfl

/-- The tick of a new TAI millisecond, taken from an even period, with a lane active. -/
theorem exec_flowstoneTick {t : Nat} {s : State} (act : (active s).isSome = true) (even : s.led.index % 2 = 0)
    (new : s.led.second * 1000 + s.led.index / 2 ≠ s.led.tickAt) : exec (.flowstoneTick t) s = done (tick t s)
      (updLed (fun d => { d with tickAt := s.led.second * 1000 + s.led.index / 2 })
        (onLanes (tickEngines (s.led.second * 1000 + s.led.index / 2) 8) (tick t s))) := if_pos ⟨even, new, act⟩

/-- Settles O33: it holds. Each lane that computes changes its own engines alone, from the same engines and settings as
before the command, whatever the other lane did; and an engine's own strings do not keep it from starting. -/
theorem flowstone : Obligations.Flowstone := by
  unfold Obligations.Flowstone
  have within {l : Lane} {s : State} (eight : (s.lanes.get l).engines.length = 8) (e : Fin 8) :
      e.val < (s.lanes.get l).engines.length := by
    rw [eight]
    exact e.isLt
  refine ⟨?start, ?startBad, ?stop, ?trigger, ?ctrlStart, ?ctrlStop, ?trigSet, ?prog, ?progRefused, ?tick⟩
  case start =>
    intro t sid h args s hp fits
    have small : argN args 0 ≤ 7 := argN_le_of_argRange (hi := 7) (argRange_of_passes hp)
    have fits : ¬ ownBad (servedBy s) s (argN args 0) (BitVec.ofNat 4 (getC s 0x90200 (argN args 0) 0)) = true := by
      rw [fits]
      decide
    have run := runs_onLanes (c := .flsStart t h args) hp rfl (if_neg fits) fun l v =>
      (updEng_work ..).trans (engStart_work ..)
    refine runs_mono run fun u ⟨engines, reply⟩ => ⟨fun l hc eight own => ?_, reply⟩
    obtain ⟨v, dict, same, made⟩ := engines l hc
    have he : argN args 0 < (s.lanes.get l).engines.length := by omega
    have begun := engOf_load_start (by rwa [same]) ((ownBad_of_engines same ..).trans own)
    exact (engOf_of_engines made _).trans (begun.trans (congrArg (started _) (engLoad_prog dict same he)))
  case startBad =>
    intro t sid h args s hp bad
    have run := runs_execCmd_engines (c := .flsStart t h args) hp rfl (if_pos bad) rfl
    exact runs_mono run fun u ⟨⟨_, _, reply⟩, engines⟩ => ⟨engines, obj_of_passes hp ▸ reply⟩
  case stop =>
    intro t sid h args s hp
    have small : argN args 0 ≤ 7 := argN_le_of_argRange (hi := 7) (argRange_of_passes hp)
    have run := runs_onLanes (c := .flsStop t h args) hp rfl rfl fun l v => updEng_work ..
    refine runs_mono run fun u ⟨engines, reply⟩ => ⟨fun l hc eight => ?_, reply⟩
    obtain ⟨v, _, same, made⟩ := engines l hc
    rw [engOf_of_engines made, engOf_engStop (by rw [same]; omega), engOf_of_engines same]
    exact ⟨rfl, rfl⟩
  case trigger =>
    intro t sid h args s hp
    have small : argN args 0 ≤ 7 := argN_le_of_argRange (hi := 7) (argRange_of_passes hp)
    have run := runs_onLanes (c := .flsTrigger t h args) hp rfl rfl fun l v => updEng_work ..
    refine runs_mono run fun u ⟨engines, reply⟩ => ⟨fun l hc eight => ?_, reply⟩
    obtain ⟨v, _, same, made⟩ := engines l hc
    rw [engOf_of_engines made, engOf_engTrig (by rw [same]; omega), engOf_of_engines same]
  case ctrlStart =>
    intro t own l c e s eight runtime idle
    refine runs_engWrite rfl runtime fun u engines => ?_
    have idle : engRuns (engOf l (tick t s) e.val) = false := idle
    simp only [idle, Bool.false_eq_true, if_false] at engines
    rw [engOf_of_engines engines]
    refine ⟨engOf_engStart (s := tick t s) (within eight e), fun bad => ?_⟩
    rw [engOf_engStart_bad (s := tick t s) (within eight e) bad]
    exact ⟨rfl, rfl⟩
  case ctrlStop =>
    intro t l c e s eight runtime
    refine runs_engWrite rfl runtime fun u engines => ?_
    rw [engOf_of_engines engines, engOf_engStop (s := tick t s) (within eight e)]
  case trigSet =>
    intro t bits l c e s eight runtime
    refine runs_engWrite rfl runtime fun u engines => ?_
    rw [engOf_of_engines engines, engOf_engTrig (s := tick t s) (within eight e)]
    rfl
  case prog =>
    intro t l c e i w s eight runtime stopped words
    refine runs_engWrite rfl runtime fun u engines => ?_
    have stopped : (engOf l (tick t s) e.val).state = 0 := stopped
    simp only [stopped, if_true] at engines
    rw [engOf_of_engines engines, engOf_updEng_same (s := tick t s) (within eight e)]
    exact ⟨getElem?_lset_same (i.isLt.trans_eq words.symm) w, fun j other => getElem?_lset_ne _ other w⟩
  case progRefused => exact fun t l c e i w s => runs_flsProgWrite_refused
  case tick =>
    intro t s act even new
    have work (l : Lane) (v : State) : EngineWork l v (tickEngines (s.led.second * 1000 + s.led.index / 2) 8 l v) :=
      .foldl (fun v e => tickEngine_work _ l v e) _ v
    refine runs_mono (runs_both (runs_led (exec_flowstoneTick act even new) fun u led _ => led)
      (runs_of_done (exec_flowstoneTick act even new) fun u sent => sent)) fun u ⟨led, sent⟩ => ⟨by rw [led]; rfl, ?_⟩
    intro l hc eight e he
    obtain ⟨v, _, same, made⟩ := engines_onLanes work (s := tick t s) hc
    have same : (v.lanes.get l).engines = (s.lanes.get l).engines := same
    have closed : (u.lanes.get l).engines =
        ((onLanes (tickEngines (s.led.second * 1000 + s.led.index / 2) 8) (tick t s)).lanes.get l).engines := by
      rw [sent.lanes l]
      rfl
    rw [engOf_of_engines (closed.trans made), (engOf_tickEngines ..).2 e (by rw [same]; omega), if_pos he,
      engOf_of_engines same]

end Sys2Proof.Machine
end

section
/-!
PROOFS. A slice's drive of a string that stands with no slice under test (R261, R431), and the refutation of O31.
-/
namespace Sys2Proof.Machine

open Sys2Proof.Safety

/-- Lane A is active after reset, and a slice's drive stands on string 0: every position lit over the whole period from
cycle 0, what the stage drove held in the slice's copy. No slice is under test; the LED supply is down, which suspends the
fault rules of a period (R440). -/
def strayDrive : State :=
  sliceString true 0 (updPower (fun p => { p with ledOk := false })
    (updLane .A (fun x => { x with role := .active }) State.reset))

/-- The boundary leaves the drive on the string that the copy names: position 1 is lit from cycle 0 on. -/
theorem lit_of_strayDrive {u : State} (h : exec (.ledPeriodBoundary 0 true 0 0 []) strayDrive = .next u) :
    u.led.lit[1]? = some (0, 25000) := by
  rw [← Host.Outcome.next.inj h]
  decide

/-- A position that the stage itself drives is lit from its own start on (R261). -/
theorem start_of_mapIdx_litStart {α : Type} {l : List α} {f : Nat → α → Nat} {i : Nat} {d : Nat × Nat}
    (h : (l.mapIdx (fun i x => (litStart i, f i x)))[i]? = some d) : d.1 = litStart i := by
  rw [List.getElem?_mapIdx] at h
  obtain ⟨x, -, rfl⟩ := Option.map_eq_some_iff.1 h
  rfl

/-- Refutes O31: its first clause asks that no slice is under test, not that the slices' copy of the strings is empty. A
slice's start and return fill and empty the two together, but on a state whose copy names string 0 with no slice under test
the boundary keeps that string's drive (R431): its position 1 is lit from cycle 0 on, where the set's own interval starts at
cycle 260. -/
theorem not_lightSets : ¬ Obligations.LightSets := by
  unfold Obligations.LightSets
  rintro ⟨boundary, _⟩
  obtain ⟨u, hu, _, _, _, _, lit⟩ := boundary 0 0 0 [] strayDrive (by decide) (by decide) (.inr rfl) rfl
  have stays := lit_of_strayDrive hu
  rw [lit] at stays
  exact absurd (start_of_mapIdx_litStart stays) (by decide)

end Sys2Proof.Machine
end

section
/-!
PROOFS. The role, the start report and the units of the lanes under the shared operations: what an operation does to the
rest of the state leaves them as they are.
-/
namespace Sys2Proof.Machine

open Sys2Proof.Safety

/-- What a lane is to the pair: its role, the report of its start, and how its units stand. -/
structure Duty where
  role : Role
  report : Option (Nat × Bool)
  units : List UnitSt

/-- A lane's duty. -/
def LaneSt.duty (x : LaneSt) : Duty := ⟨x.role, x.report, x.units⟩

/-- What both lanes are to the pair. -/
def Pair.duties (p : Pair LaneSt) : Pair Duty := ⟨p.a.duty, p.b.duty⟩

@[simp] theorem Pair.get_duties (p : Pair LaneSt) (l : Lane) : p.duties.get l = (p.get l).duty := by cases l <;> rfl

theorem Pair.duties_upd_eq {f : LaneSt → LaneSt} {g : Duty → Duty} (h : ∀ x, (f x).duty = g x.duty) (l : Lane)
    (p : Pair LaneSt) : (p.upd l f).duties = p.duties.upd l g := by
  cases l
  · exact congrArg (Pair.mk · p.b.duty) (h p.a)
  · exact congrArg (Pair.mk p.a.duty) (h p.b)

@[simp] theorem Pair.duties_upd {l : Lane} {p : Pair LaneSt} {f : LaneSt → LaneSt} (h : ∀ x, (f x).role = x.role)
    (k : ∀ x, (f x).report = x.report) (j : ∀ x, (f x).units = x.units) : (p.upd l f).duties = p.duties := by
  rw [Pair.duties_upd_eq (g := id) fun x => by simp [LaneSt.duty, h, k, j]]
  cases l <;> rfl

@[simp] theorem ite_role {c : Prop} [Decidable c] (x y : LaneSt) :
    (if c then x else y).role = if c then x.role else y.role :=
  apply_ite ..

@[simp] theorem ite_report {c : Prop} [Decidable c] (x y : LaneSt) :
    (if c then x else y).report = if c then x.report else y.report := apply_ite ..

@[simp] theorem ite_units {c : Prop} [Decidable c] (x y : LaneSt) :
    (if c then x else y).units = if c then x.units else y.units := apply_ite ..

@[simp] theorem ite_duties {c : Prop} [Decidable c] (s u : State) :
    (if c then s else u).lanes.duties = if c then s.lanes.duties else u.lanes.duties :=
  apply_ite (fun s : State => s.lanes.duties) c s u

@[simp] theorem foldl_duties {β : Type} {f : State → β → State} (h : ∀ s b, (f s b).lanes.duties = s.lanes.duties)
    (l : List β) (s : State) : (l.foldl f s).lanes.duties = s.lanes.duties := by
  induction l generalizing s with
  | nil => rfl
  | cons b r ih => exact (ih _).trans (h s b)

theorem foldl_fst_duties {α β : Type} {f : State × α → β → State × α}
    (h : ∀ x b, (f x b).1.lanes.duties = x.1.lanes.duties) (l : List β) (x : State × α) :
    (l.foldl f x).1.lanes.duties = x.1.lanes.duties := by
  induction l generalizing x with
  | nil => rfl
  | cons b r ih => exact (ih _).trans (h x b)

@[simp] theorem updLane_duties {l : Lane} {f : LaneSt → LaneSt} (h : ∀ x, (f x).role = x.role)
    (k : ∀ x, (f x).report = x.report) (j : ∀ x, (f x).units = x.units) (s : State) :
    (updLane l f s).lanes.duties = s.lanes.duties := Pair.duties_upd h k j
@[simp] theorem cntLane_duties (l : Lane) (n r c k : Nat) (s : State) :
    (cntLane l n r c k s).lanes.duties = s.lanes.duties := by
  simp [cntLane]
@[simp] theorem cntUpAt_duties (n r c k : Nat) (s : State) : (cntUpAt n r c k s).lanes.duties = s.lanes.duties := by
  simp [cntUpAt]
@[simp] theorem cntUp_duties (n : Nat) (s : State) : (cntUp n s).lanes.duties = s.lanes.duties := by simp [cntUp]
@[simp] theorem leave_duties (o : Out) (s : State) : (leave o s).lanes.duties = s.lanes.duties := by
  unfold leave; split <;> simp
@[simp] theorem emit_duties (o : Out) (s : State) : (emit o s).lanes.duties = s.lanes.duties := by
  fun_cases emit <;> simp_all
@[simp] theorem submitRec_duties (r : Record) (s : State) : (submitRec r s).lanes.duties = s.lanes.duties := by
  simp [submitRec]
@[simp] theorem record_duties (typ sev source : Nat) (payload : Bytes) (s : State) :
    (record typ sev source payload s).lanes.duties = s.lanes.duties := by simp [record]
@[simp] theorem updIcu_duties (l : Lane) (f : Icu → Icu) (s : State) :
    (updIcu l f s).lanes.duties = s.lanes.duties := by
  simp [updIcu]
@[simp] theorem icuRaise_duties (n : Nat) (s : State) : (icuRaise n s).lanes.duties = s.lanes.duties := by
  simp [icuRaise]
@[simp] theorem icuLine_duties (n : Nat) (on : Bool) (s : State) : (icuLine n on s).lanes.duties = s.lanes.duties := by
  simp [icuLine]
@[simp] theorem icuLineAt_duties (l : Lane) (n : Nat) (on : Bool) (s : State) :
    (icuLineAt l n on s).lanes.duties = s.lanes.duties := by simp [icuLineAt]
@[simp] theorem icuRaiseAt_duties (l : Lane) (n : Nat) (s : State) :
    (icuRaiseAt l n s).lanes.duties = s.lanes.duties := by
  simp [icuRaiseAt]
@[simp] theorem busErr_duties (l : Lane) (c : Core) (addr : Nat) (fence : Bool) (s : State) :
    (busErr l c addr fence s).lanes.duties = s.lanes.duties := by simp [busErr]
@[simp] theorem icuStuckSync_duties (detail : Nat) (s : State) :
    (icuStuckSync detail s).lanes.duties = s.lanes.duties := by
  simp [icuStuckSync]
@[simp] theorem cwvRecord_duties (e : Cwv) (s : State) : (cwvRecord e s).lanes.duties = s.lanes.duties := by
  simp [cwvRecord]
@[simp] theorem cwvEnd_duties (ends : Cwv → Bool) (s : State) : (cwvEnd ends s).lanes.duties = s.lanes.duties := by
  simp [cwvEnd]
@[simp] theorem cwvStop_duties (s : State) : (cwvStop s).lanes.duties = s.lanes.duties := by simp [cwvStop]
@[simp] theorem cwvLaneStop_duties (l : Lane) (s : State) : (cwvLaneStop l s).lanes.duties = s.lanes.duties := by
  simp [cwvLaneStop]
@[simp] theorem meterLoad_duties (l : Lane) (s : State) : (meterLoad l s).lanes.duties = s.lanes.duties := by
  simp [meterLoad]
@[simp] theorem startupMark_duties (col : Nat) (s : State) : (startupMark col s).lanes.duties = s.lanes.duties := by
  unfold startupMark; split <;> simp
@[simp] theorem holdRecord_duties (l : Lane) (r : Record) (s : State) :
    (holdRecord l r s).lanes.duties = s.lanes.duties := by
  simp [holdRecord]
@[simp] theorem laneRecord_duties (l : Lane) (typ sev source : Nat) (payload : Bytes) (s : State) :
    (laneRecord l typ sev source payload s).lanes.duties = s.lanes.duties := by simp [laneRecord]
@[simp] theorem laneStateRec_duties (l : Lane) (event unit : Nat) (s : State) :
    (laneStateRec l event unit s).lanes.duties = s.lanes.duties := by simp [laneStateRec]
@[simp] theorem switchLog_duties (sev : Nat) (src : Lane) (cause result hf ht : Nat) (s : State) :
    (switchLog sev src cause result hf ht s).lanes.duties = s.lanes.duties := by simp [switchLog]
@[simp] theorem voidPlanned_duties (s : State) : (voidPlanned s).lanes.duties = s.lanes.duties := by
  unfold voidPlanned; split <;> simp
@[simp] theorem degradedSync_duties (s : State) : (degradedSync s).lanes.duties = s.lanes.duties := by
  unfold degradedSync; split <;> simp
@[simp] theorem updHalf_duties (l : Lane) (c : Core) (f : PortHalf → PortHalf) (s : State) :
    (updHalf l c f s).lanes.duties = s.lanes.duties := by simp [updHalf]
@[simp] theorem dropGo_duties (l : Lane) (c : Core) (s : State) : (dropGo l c s).lanes.duties = s.lanes.duties := by
  simp [dropGo]
@[simp] theorem dropGoes_duties (l : Lane) (s : State) : (dropGoes l s).lanes.duties = s.lanes.duties := by
  simp [dropGoes]
@[simp] theorem releaseAll_duties (s : State) : (releaseAll s).lanes.duties = s.lanes.duties := by simp [releaseAll]
@[simp] theorem fwEvent_duties (event sev failStep : Nat) (l : Lane) (bank : Nat) (s : State) :
    (fwEvent event sev failStep l bank s).lanes.duties = s.lanes.duties := by simp [fwEvent]
@[simp] theorem bankFail_duties (l : Lane) (bank step : Nat) (s : State) :
    (bankFail l bank step s).lanes.duties = s.lanes.duties := by simp [bankFail]
@[simp] theorem fwMixedSync_duties (s : State) : (fwMixedSync s).lanes.duties = s.lanes.duties := by simp [fwMixedSync]
@[simp] theorem bootStart_duties (l : Lane) (bank : Nat) (trial : Bool) (retries : Nat) (s : State) :
    (bootStart l bank trial retries s).lanes.duties = s.lanes.duties := by simp [bootStart]
@[simp] theorem bootRecovery_duties (l : Lane) (s : State) : (bootRecovery l s).lanes.duties = s.lanes.duties := by
  simp [bootRecovery]
@[simp] theorem bootTrial_duties (l : Lane) (s : State) : (bootTrial l s).lanes.duties = s.lanes.duties := by
  simp [bootTrial]
@[simp] theorem bootSelect_duties (l : Lane) (s : State) : (bootSelect l s).lanes.duties = s.lanes.duties := by
  simp [bootSelect]
@[simp] theorem laneRowsGone_duties (l : Lane) (s : State) : (laneRowsGone l s).lanes.duties = s.lanes.duties := by
  simp [laneRowsGone]

@[simp] theorem decideSwitch_duties (target : Lane) (cause : Nat) (s : State) :
    (decideSwitch target cause s).lanes.duties = s.lanes.duties := by simp [decideSwitch]
@[simp] theorem healthEvent_duties (l : Lane) (c : HealthCause) (s : State) :
    (healthEvent l c s).lanes.duties = s.lanes.duties := by simp [healthEvent]
@[simp] theorem updArb_duties (l : Lane) (a : Nat) (f : Arb → Arb) (s : State) :
    (updArb l a f s).lanes.duties = s.lanes.duties := by simp [updArb]
@[simp] theorem gourAlarmLine_duties (l : Lane) (s : State) : (gourAlarmLine l s).lanes.duties = s.lanes.duties := by
  simp [gourAlarmLine]
@[simp] theorem updSump_duties (l : Lane) (q : Nat) (f : SumpQ → SumpQ) (s : State) :
    (updSump l q f s).lanes.duties = s.lanes.duties := by simp [updSump]
@[simp] theorem ledgerPut_duties (x ch sf : Nat) (f : Bucket → Bucket) (s : State) :
    (ledgerPut x ch sf f s).lanes.duties = s.lanes.duties := by simp [ledgerPut]
@[simp] theorem gateReserve_duties (x ch sf dur : Nat) (s : State) :
    (gateReserve x ch sf dur s).lanes.duties = s.lanes.duties := by simp [gateReserve]
@[simp] theorem gateRelease_duties (x ch sf dur : Nat) (s : State) :
    (gateRelease x ch sf dur s).lanes.duties = s.lanes.duties := by simp [gateRelease]
@[simp] theorem gateUse_duties (x ch sf dur : Nat) (s : State) :
    (gateUse x ch sf dur s).lanes.duties = s.lanes.duties := by
  simp [gateUse]
@[simp] theorem gateRefused_duties (x : Nat) (s : State) : (gateRefused x s).lanes.duties = s.lanes.duties := by
  simp [gateRefused]
@[simp] theorem pruneLedgers_duties (s : State) : (pruneLedgers s).lanes.duties = s.lanes.duties := by
  simp [pruneLedgers]

@[simp] theorem guardArgs_duties (endpoints func : Nat) (args : Bytes) (nodes : List Nat) (s : State) :
    (guardArgs endpoints func args nodes s).1.lanes.duties = s.lanes.duties := by
  fun_cases guardArgs <;> simp_all

@[simp] theorem openEpoch_duties (imageId : Nat) (s : State) : (openEpoch imageId s).lanes.duties = s.lanes.duties := by
  simp [openEpoch]
@[simp] theorem updEng_duties (l : Lane) (e : Nat) (f : Engine → Engine) (s : State) :
    (updEng l e f s).lanes.duties = s.lanes.duties := by simp [updEng]

@[simp] theorem onLanes_duties {f : Lane → State → State} (h : ∀ l s, (f l s).lanes.duties = s.lanes.duties) (s : State) :
    (onLanes f s).lanes.duties = s.lanes.duties := by
  simp [onLanes, h]

@[simp] theorem copySafe_duties (s : State) : (copySafe s).lanes.duties = s.lanes.duties := by simp [copySafe]
@[simp] theorem driveString_duties (k : Nat) (d : Nat × List (Nat × Nat)) (s : State) :
    (driveString k d s).lanes.duties = s.lanes.duties := by simp [driveString]
@[simp] theorem keepSlice_duties (s0 s : State) : (keepSlice s0 s).lanes.duties = s.lanes.duties := by simp [keepSlice]
@[simp] theorem drivePeriod_duties (s : State) : (drivePeriod s).lanes.duties = s.lanes.duties := by simp [drivePeriod]
@[simp] theorem shedStrings_duties (s : State) : (shedStrings s).lanes.duties = s.lanes.duties := by simp [shedStrings]
@[simp] theorem ledFault_duties (sev k pos fault : Nat) (s : State) :
    (ledFault sev k pos fault s).lanes.duties = s.lanes.duties := by simp [ledFault]
@[simp] theorem markPos_duties (isOpen : Bool) (k p : Nat) (s : State) :
    (markPos isOpen k p s).lanes.duties = s.lanes.duties := by simp [markPos]
@[simp] theorem markCross_duties (pair : Nat) (s : State) : (markCross pair s).lanes.duties = s.lanes.duties := by
  simp [markCross]
@[simp] theorem checkTaps_duties (k : Nat) (x : StringSample) (s : State) :
    (checkTaps k x s).lanes.duties = s.lanes.duties := by
  simp [checkTaps]
@[simp] theorem sampleString_duties (s : State) (p : StringSample × Nat) :
    (sampleString s p).lanes.duties = s.lanes.duties := by
  simp [sampleString]
@[simp] theorem checkCurrent_duties (k : Nat) (x : StringSample) (s : State) :
    (checkCurrent k x s).lanes.duties = s.lanes.duties := by simp [checkCurrent]
@[simp] theorem checkPair_duties (xs : List StringSample) (s : State) (pair : Nat) :
    (checkPair xs s pair).lanes.duties = s.lanes.duties := by simp [checkPair]
@[simp] theorem checkPeriod_duties (xs : List StringSample) (s : State) :
    (checkPeriod xs s).lanes.duties = s.lanes.duties := by
  simp [checkPeriod]
@[simp] theorem tickString_duties (s : State) (p : StringSample × Nat) :
    (tickString s p).lanes.duties = s.lanes.duties := by
  simp [tickString]
@[simp] theorem capPower_duties (s : State) : (capPower s).lanes.duties = s.lanes.duties := by simp [capPower]
@[simp] theorem floorSync_duties (s : State) (k : Nat) : (floorSync s k).lanes.duties = s.lanes.duties := by
  simp [floorSync]
@[simp] theorem controlTick_duties (xs : List StringSample) (s : State) :
    (controlTick xs s).lanes.duties = s.lanes.duties := by
  simp [controlTick]
@[simp] theorem engStart_duties (l : Lane) (e : Nat) (own : BitVec 4) (s : State) :
    (engStart l e own s).lanes.duties = s.lanes.duties := by simp [engStart]
@[simp] theorem engStop_duties (l : Lane) (e : Nat) (s : State) : (engStop l e s).lanes.duties = s.lanes.duties := by
  simp [engStop]
@[simp] theorem engLoad_duties (l : Lane) (e : Nat) (s : State) : (engLoad l e s).lanes.duties = s.lanes.duties := by
  simp [engLoad]
@[simp] theorem engTrig_duties (l : Lane) (e bits : Nat) (s : State) :
    (engTrig l e bits s).lanes.duties = s.lanes.duties := by
  simp [engTrig]
@[simp] theorem holdTop_duties (s : State) : (holdTop s).lanes.duties = s.lanes.duties := by simp [holdTop]
@[simp] theorem addInterval_duties (l : Lane) (k : Scale) (w : List (List Int)) (s : State) :
    (addInterval l k w s).lanes.duties = s.lanes.duties := by simp [addInterval]
@[simp] theorem feed_duties (l : Lane) (k : Scale) (xs : List (List Int)) (s : State) :
    (feed l k xs s).lanes.duties = s.lanes.duties := by simp [feed]

@[simp] theorem feedCuts_duties (l : Lane) (xs : List (List Int)) (at_ : Nat) (cuts : List (Nat × Scale)) (s : State) :
    (feedCuts l xs at_ cuts s).lanes.duties = s.lanes.duties := by
  induction cuts generalizing xs at_ s with
  | nil => simp [feedCuts]
  | cons p r ih => simp [feedCuts, ih]

@[simp] theorem closeInterval_duties (a b : Samples) (s : State) :
    (closeInterval a b s).lanes.duties = s.lanes.duties := by
  simp [closeInterval]
@[simp] theorem periodEnd_duties (l : Lane) (hot : Bool) (s : State) :
    (periodEnd l hot s).lanes.duties = s.lanes.duties := by
  simp [periodEnd]
@[simp] theorem periodBegin_duties (s : State) : (periodBegin s).lanes.duties = s.lanes.duties := by simp [periodBegin]
@[simp] theorem cwvLane_duties (rms : List Nat) (s : State) (x : Nat) :
    (cwvLane rms s x).lanes.duties = s.lanes.duties := by
  unfold cwvLane; split <;> simp
@[simp] theorem cwvWindow_duties (s : State) : (cwvWindow s).lanes.duties = s.lanes.duties := by simp [cwvWindow]
@[simp] theorem battStop_duties (budget : Bool) (s : State) : (battStop budget s).lanes.duties = s.lanes.duties := by
  simp [battStop]
@[simp] theorem battAway_duties (s : State) : (battAway s).lanes.duties = s.lanes.duties := by simp [battAway]
@[simp] theorem battReturn_duties (s : State) : (battReturn s).lanes.duties = s.lanes.duties := by simp [battReturn]
@[simp] theorem battCopy_duties (s : State) : (battCopy s).lanes.duties = s.lanes.duties := by simp [battCopy]
@[simp] theorem meterBoot_duties (s : State) : (meterBoot s).lanes.duties = s.lanes.duties := by simp [meterBoot]
@[simp] theorem meterStart_duties (l : Lane) (s : State) : (meterStart l s).lanes.duties = s.lanes.duties := by
  unfold meterStart; dsimp only; split <;> simp
@[simp] theorem sendFree_duties (p dst cls : Nat) (m : TMsg) (s : State) :
    (sendFree p dst cls m s).lanes.duties = s.lanes.duties := by simp [sendFree]
@[simp] theorem flood_duties (p : Nat) (m : TMsg) (s : State) : (flood p m s).lanes.duties = s.lanes.duties := by
  simp [flood]
@[simp] theorem imageLeft_duties (m : TMsg) (s : State) : (imageLeft m s).lanes.duties = s.lanes.duties := by
  unfold imageLeft; split <;> simp
@[simp] theorem sendNow_duties (p dst cls : Nat) (m : TMsg) (s : State) :
    (sendNow p dst cls m s).lanes.duties = s.lanes.duties := by simp [sendNow]

@[simp] theorem trunkSend_duties (dst cls : Nat) (m : TMsg) (s : State) :
    (trunkSend dst cls m s).lanes.duties = s.lanes.duties := by
  fun_cases trunkSend <;> simp_all

@[simp] theorem sendIb_duties (aid tclass : Nat) (m : IbMsg) (s : State) :
    (sendIb aid tclass m s).lanes.duties = s.lanes.duties := by
  unfold sendIb
  dsimp only
  repeat' split
  all_goals simp

@[simp] theorem sendReply_duties (aid tclass sid seq typ : Nat) (r : Reply) (s : State) :
    (sendReply aid tclass sid seq typ r s).lanes.duties = s.lanes.duties := by simp [sendReply]

@[simp] theorem sendNotice_duties (id : Nat) (b : Sub) (flags changes time obj : Nat) (body : Body) (urgent : Bool)
    (s : State) : (sendNotice id b flags changes time obj body urgent s).lanes.duties = s.lanes.duties := by
  unfold sendNotice; split <;> simp

@[simp] theorem flushSub_duties (id : Nat) (s : State) : (flushSub id s).lanes.duties = s.lanes.duties := by
  unfold flushSub; split <;> simp

@[simp] theorem settleSub_duties (s s' acc : State) (p : Nat × Sub) :
    (settleSub s s' acc p).lanes.duties = acc.lanes.duties := by
  unfold settleSub
  dsimp only
  repeat' split
  all_goals simp

@[simp] theorem settle_duties (s s' : State) : (settle s s').lanes.duties = s'.lanes.duties := by simp [settle]

theorem done_duties {s v u : State} (h : done s v = .next u) : u.lanes.duties = v.lanes.duties := by
  cases h
  simp

@[simp] theorem breakSeq_duties (hd cause : Nat) (s : State) : (breakSeq hd cause s).lanes.duties = s.lanes.duties := by
  unfold breakSeq; split <;> simp
@[simp] theorem breakAllSeqs_duties (cause : Nat) (s : State) :
    (breakAllSeqs cause s).lanes.duties = s.lanes.duties := by
  simp [breakAllSeqs]

@[simp] theorem duplicate_duties (sid lowest : Nat) (h : Hdr) (c : Option Reply) (s : State) :
    (duplicate sid lowest h c s).lanes.duties = s.lanes.duties := by
  fun_cases duplicate <;> simp_all

@[simp] theorem answer_duties (sid : Nat) (h : Hdr) (a : Answer) :
    (answer sid h a).lanes.duties = a.1.lanes.duties := by
  unfold answer
  dsimp only
  split <;> simp

@[simp] theorem lateReply_duties (sid seq obj : Nat) (r : Reply) (s : State) :
    (lateReply sid seq obj r s).lanes.duties = s.lanes.duties := by
  unfold lateReply; dsimp only; split <;> simp

@[simp] theorem refusal_duties (h : Hdr) (r : Reply) (s : State) : (refusal h r s).lanes.duties = s.lanes.duties := by
  simp [refusal]
@[simp] theorem book_duties (b : Booking) (s : State) : (book b s).lanes.duties = s.lanes.duties := by simp [book]

theorem placeFrames_duties {tk cls deadline : Nat} {policy share : Bool} {c j a : Nat} {alt : Bool}
    {fr : List (Nat × Option Seg)} {last : Nat} {first : Option Nat} {s u : State} {st en : Nat}
    (h : placeFrames tk cls deadline policy share c j a alt fr last first s = some (u, st, en)) :
    u.lanes.duties = s.lanes.duties := by
  induction fr generalizing last first s with
  | nil =>
    simp only [placeFrames, Option.some.injEq, Prod.mk.injEq] at h
    rw [← h.1]
  | cons p r ih =>
    simp only [placeFrames] at h
    split at h
    · cases h
    · split at h
      · cases h
      · exact (ih h).trans (book_duties ..)

@[simp] theorem placeAttempts_duties (tk cls deadline : Nat) (policy share : Bool) (c : Nat) (fr : List (Nat × Option Seg))
    (k j a e : Nat) (s : State) :
    (placeAttempts tk cls deadline policy share c fr k j a e s).1.lanes.duties = s.lanes.duties := by
  induction k generalizing j a e s with
  | zero => rfl
  | succ k ih =>
    unfold placeAttempts
    split
    · rfl
    · next h => exact (ih ..).trans (placeFrames_duties h)

@[simp] theorem placeAll_duties (tk cls deadline : Nat) (policy share : Bool) (ld : Load) (ts : List Target) (s : State) :
    (placeAll tk cls deadline policy share ld ts s).1.lanes.duties = s.lanes.duties := by
  refine foldl_fst_duties (fun x c => ?_) _ _
  exact placeAttempts_duties ..

@[simp] theorem countRefusal_duties (n cls : Nat) (s : State) :
    (countRefusal n cls s).lanes.duties = s.lanes.duties := by
  simp [countRefusal]
@[simp] theorem takeCfs_duties (z0 : List Nat) (z1 : State) : (takeCfs z0 z1).1.lanes.duties = z1.lanes.duties := by
  fun_induction takeCfs <;> simp_all

@[simp] theorem decideAdmission_duties (obj cls : Nat) (tclass : Option Nat) (deadline : Nat) (who : Submitter) (d : Desc)
    (ld : Load)
    (s : State) : (decideAdmission obj cls tclass deadline who d ld s).1.lanes.duties = s.lanes.duties := by
  unfold decideAdmission
  dsimp only
  repeat' split
  all_goals simp

@[simp] theorem sendComp_duties (key : Nat) (s : State) : (sendComp key s).lanes.duties = s.lanes.duties := by
  unfold sendComp
  dsimp only
  repeat' split
  all_goals simp

@[simp] theorem nextCompSeq_duties (client : Bytes) (s : State) :
    (nextCompSeq client s).1.lanes.duties = s.lanes.duties := by
  unfold nextCompSeq; split <;> simp
@[simp] theorem complete_duties (t : Ticket) (s : State) : (complete t s).lanes.duties = s.lanes.duties := by
  simp [complete]
@[simp] theorem completeTicket_duties (tk : Nat) (s : State) : (completeTicket tk s).lanes.duties = s.lanes.duties := by
  unfold completeTicket; split <;> simp
@[simp] theorem setCopy_duties (l : Lane) (c : Core) (j : Option HistJob) (s : State) :
    (setCopy l c j s).lanes.duties = s.lanes.duties := by simp [setCopy]

theorem nodeSubmission_duties (c : Core) (h : PortHalf) (s : State) :
    (nodeSubmission c h s).1.lanes.duties = s.lanes.duties := by
  unfold nodeSubmission
  dsimp only
  repeat' split
  all_goals simp

theorem selectClass_duties (zone cls hold : Nat) (s : State) :
    (selectClass zone cls hold s).1.lanes.duties = s.lanes.duties := by
  unfold selectClass
  dsimp only
  repeat' split
  all_goals rfl

@[simp] theorem submissionOf_duties (c : Core) (h : PortHalf) (q : PolicyAsk) (s : State) :
    ((submissionOf c h q).decide s).1.lanes.duties = s.lanes.duties := by
  have select (z k hold : Nat) :
    ((subSelect z k hold).decide s).1.lanes.duties = s.lanes.duties := selectClass_duties ..
  have node : (nodeSubmission c h s).1.lanes.duties = s.lanes.duties := nodeSubmission_duties ..
  unfold submissionOf policyFunction
  dsimp only
  repeat' split
  all_goals simp [select, node, subRefuse, subCopy]

@[simp] theorem takeVerdict_duties (l : Lane) (c : Core) (copy : Option HistJob) (r : Reply ⊕ Nat) (s : State) :
    (takeVerdict l c copy r s).lanes.duties = s.lanes.duties := by
  unfold takeVerdict; split <;> simp

@[simp] theorem mirrorVerdict_duties (l : Lane) (c : Core) (r : Reply ⊕ Nat) (s : State) :
    (mirrorVerdict l c r s).lanes.duties = s.lanes.duties := by
  unfold mirrorVerdict; dsimp only; split <;> simp

@[simp] theorem submit_duties (l : Lane) (c : Core) (q : PolicyAsk) (s : State) :
    (submit l c q s).lanes.duties = s.lanes.duties := by
  unfold submit
  dsimp only
  repeat' split
  all_goals simp

@[simp] theorem resumeGo_duties (l : Lane) (c : Core) (s : State) : (resumeGo l c s).lanes.duties = s.lanes.duties := by
  unfold resumeGo; split <;> simp
@[simp] theorem resumeGoes_duties (l : Lane) (s : State) : (resumeGoes l s).lanes.duties = s.lanes.duties := by
  simp [resumeGoes]

@[simp] theorem claimRead_duties (l : Lane) (c : Core) (tn : Nat) (s : State) :
    (claimRead l c tn s).lanes.duties = s.lanes.duties := by
  unfold claimRead; dsimp only; split <;> simp

@[simp] theorem completeEff_duties (l : Lane) (tn n : Nat) (s : State) :
    (completeEff l tn n s).lanes.duties = s.lanes.duties := by simp [completeEff]

@[simp] theorem icuAccess_duties (l : Lane) (c : Core) (addr : Nat) (f : State → State) (s : State)
    (h3 : ∀ s, (f s).lanes.duties = s.lanes.duties) : (icuAccess l c addr f s).lanes.duties = s.lanes.duties := by
  fun_cases icuAccess <;> simp_all

@[simp] theorem semTake_duties (l : Lane) (c : Core) (n : Nat) (s : State) :
    (semTake l c n s).lanes.duties = s.lanes.duties := by
  simp [semTake]
@[simp] theorem semFree_duties (l : Lane) (c : Core) (n : Nat) (s : State) :
    (semFree l c n s).lanes.duties = s.lanes.duties := by
  simp [semFree]
@[simp] theorem latchTime_duties (l : Lane) (c : Core) (s : State) :
    (latchTime l c s).lanes.duties = s.lanes.duties := by
  simp [latchTime]
@[simp] theorem pendRead_duties (l : Lane) (c : Core) (w : Nat) (s : State) :
    (pendRead l c w s).lanes.duties = s.lanes.duties := by simp [pendRead]
@[simp] theorem gourFaults_duties (l : Lane) (a r : Nat) (before : Arb) (s : State) :
    (gourFaults l a r before s).lanes.duties = s.lanes.duties := by simp [gourFaults]
@[simp] theorem airLanes_duties (a r : Nat) (f : Arb → Arb) (s : State) :
    (airLanes a r f s).lanes.duties = s.lanes.duties := by
  simp [airLanes]
@[simp] theorem airAsk_duties (x r : Nat) (s : State) : (airAsk x r s).lanes.duties = s.lanes.duties := by simp [airAsk]
@[simp] theorem airGrant_duties (x r n : Nat) (s : State) : (airGrant x r n s).lanes.duties = s.lanes.duties := by
  simp [airGrant]
@[simp] theorem airReturn_duties (x r : Nat) (s : State) : (airReturn x r s).lanes.duties = s.lanes.duties := by
  simp [airReturn]
@[simp] theorem airDrop_duties (x r : Nat) (s : State) : (airDrop x r s).lanes.duties = s.lanes.duties := by
  simp [airDrop]
@[simp] theorem refillWrite_duties (l : Lane) (c : Core) (a r v : Nat) (s : State) :
    (refillWrite l c a r v s).lanes.duties = s.lanes.duties := by simp [refillWrite]
@[simp] theorem serviceRxLine_duties (l : Lane) (s : State) : (serviceRxLine l s).lanes.duties = s.lanes.duties := by
  simp [serviceRxLine]
@[simp] theorem flushAt_duties (l : Lane) (q : Nat) (s : State) : (flushAt l q s).lanes.duties = s.lanes.duties := by
  simp [flushAt]
@[simp] theorem sumpNotice_duties (l : Lane) (q : Nat) (s : State) :
    (sumpNotice l q s).lanes.duties = s.lanes.duties := by
  simp [sumpNotice]
@[simp] theorem dropBookings_duties (p : Booking → Bool) (s : State) :
    (dropBookings p s).lanes.duties = s.lanes.duties := by
  simp [dropBookings]
@[simp] theorem release_duties (tk : Nat) (s : State) : (release tk s).lanes.duties = s.lanes.duties := by
  unfold release; split <;> simp
@[simp] theorem loseBooking_duties (b : Booking) (s : State) : (loseBooking b s).lanes.duties = s.lanes.duties := by
  simp [loseBooking]
@[simp] theorem lostRecord_duties (n st : Nat) (s : State) : (lostRecord n st s).lanes.duties = s.lanes.duties := by
  simp [lostRecord]
@[simp] theorem heardFrom_duties (n : Nat) (s : State) : (heardFrom n s).lanes.duties = s.lanes.duties := by
  simp [heardFrom]
@[simp] theorem pushHist_duties (n : Nat) (ok : Bool) (s : State) :
    (pushHist n ok s).lanes.duties = s.lanes.duties := by
  simp [pushHist]
@[simp] theorem clearShock_duties (n : Nat) (s : State) : (clearShock n s).lanes.duties = s.lanes.duties := by
  simp [clearShock]
@[simp] theorem linkShock_duties (tk : Nat) (x : Target) (run : Nat) (s : State) :
    (linkShock tk x run s).lanes.duties = s.lanes.duties := by simp [linkShock]
@[simp] theorem markStaged_duties (c n : Nat) (s : State) : (markStaged c n s).lanes.duties = s.lanes.duties := by
  simp [markStaged]
@[simp] theorem floorsOwed_duties (n : Nat) (s : State) : (floorsOwed n s).lanes.duties = s.lanes.duties := by
  simp [floorsOwed]

@[simp] theorem targetAnswer_duties (k : Ticket) (e : Expect) (hit ack lastOf : Bool) (x : Target) (s : State) :
    (targetAnswer k e hit ack lastOf x s).lanes.duties = s.lanes.duties := by
  unfold targetAnswer
  dsimp only
  repeat' split
  all_goals simp

@[simp] theorem ticketAnswers_duties (e : Expect) (det : List (Nat × Bool)) (s : State) :
    (ticketAnswers e det s).lanes.duties = s.lanes.duties := by
  unfold ticketAnswers; split <;> simp

@[simp] theorem endVerify_duties (s : State) : (endVerify s).lanes.duties = s.lanes.duties := by simp [endVerify]
@[simp] theorem verifyDone_duties (s : State) : (verifyDone s).lanes.duties = s.lanes.duties := by simp [verifyDone]
@[simp] theorem controlAnswer_duties (e : Expect) (ack : Bool) (n : Nat) (s : State) :
    (controlAnswer e ack n s).lanes.duties = s.lanes.duties := by simp [controlAnswer]
@[simp] theorem dropJoins_duties (n : Nat) (s : State) : (dropJoins n s).lanes.duties = s.lanes.duties := by
  simp [dropJoins]
@[simp] theorem leaveCluster_duties (n : Nat) (s : State) : (leaveCluster n s).lanes.duties = s.lanes.duties := by
  simp [leaveCluster]

@[simp] theorem bcastEach_duties {f : Nat → Nat → Nat → Nat → State → State}
    (h : ∀ x ch sf dur s, (f x ch sf dur s).lanes.duties = s.lanes.duties) (sf x : Nat) (s : State) :
    (bcastEach f sf x s).lanes.duties = s.lanes.duties := by
  unfold bcastEach
  refine foldl_duties (fun s a => ?_) _ s
  split <;> simp [h]

@[simp] theorem bcastReserve_duties (sf : Nat) (s : State) : (bcastReserve sf s).lanes.duties = s.lanes.duties := by
  simp [bcastReserve]
@[simp] theorem bcastUnreserve_duties (sf : Nat) (s : State) : (bcastUnreserve sf s).lanes.duties = s.lanes.duties := by
  simp [bcastUnreserve]
@[simp] theorem gateFault_duties (x ch a : Nat) (s : State) : (gateFault x ch a s).lanes.duties = s.lanes.duties := by
  simp [gateFault]
@[simp] theorem moveKey_duties (c : Nat) (s : State) : (moveKey c s).lanes.duties = s.lanes.duties := by simp [moveKey]
@[simp] theorem nextCounter_duties (c : Nat) (s : State) : (nextCounter c s).lanes.duties = s.lanes.duties := by
  simp [nextCounter]
@[simp] theorem keyCluster_duties (x a n ch dur : Nat) (e : Expect) (f : Air) (s : State) :
    (keyCluster x a n ch dur e f s).lanes.duties = s.lanes.duties := by simp [keyCluster]

@[simp] theorem rechannel_duties (s : State) : (rechannel s).lanes.duties = s.lanes.duties := by
  refine foldl_duties (fun s b => ?_) _ s
  dsimp only
  repeat' split
  all_goals simp

@[simp] theorem switchEpoch_duties (s : State) : (switchEpoch s).lanes.duties = s.lanes.duties := by simp [switchEpoch]

@[simp] theorem urgOwners_duties (x : Nat) (l : List Nat) (s : State) :
    (urgOwners x l s).1.lanes.duties = s.lanes.duties := by
  induction l generalizing s with
  | nil => rfl
  | cons a r ih =>
    simp only [urgOwners, ih]
    split <;> simp

@[simp] theorem beaconsResume_duties (a : Nat) (s : State) : (beaconsResume a s).lanes.duties = s.lanes.duties := by
  simp [beaconsResume]
@[simp] theorem joinFloors_duties (n : Nat) (s : State) : (joinFloors n s).lanes.duties = s.lanes.duties := by
  simp [joinFloors]
@[simp] theorem joined_duties (n : Nat) (s : State) : (joined n s).lanes.duties = s.lanes.duties := by simp [joined]

@[simp] theorem joinPart_duties (j : Join) (s : State) : (joinPart j s).1.lanes.duties = s.lanes.duties := by
  unfold joinPart
  dsimp only
  repeat' split
  all_goals simp

@[simp] theorem copyPayload_duties (c : GroupCopy) (s : State) : (copyPayload c s).1.lanes.duties = s.lanes.duties := by
  unfold copyPayload; dsimp only; split <;> simp
@[simp] theorem trajDue_duties (x a : Nat) (s : State) : (trajDue x a s).1.lanes.duties = s.lanes.duties := by
  unfold trajDue; dsimp only; split <;> simp

@[simp] theorem bcastPayload_duties (x a : Nat) (s : State) : (bcastPayload x a s).1.lanes.duties = s.lanes.duties := by
  unfold bcastPayload
  dsimp only
  repeat' split
  all_goals simp

@[simp] theorem keyBroadcast_duties (x a : Nat) (s : State) : (keyBroadcast x a s).lanes.duties = s.lanes.duties := by
  unfold keyBroadcast; dsimp only; split <;> simp

@[simp] theorem keyBooked_duties (b : Booking) (s : State) : (keyBooked b s).lanes.duties = s.lanes.duties := by
  unfold keyBooked
  dsimp only
  repeat' split
  all_goals simp

theorem airRounds_duties (x a n : Nat) (cs : List Cand)
    (h : ∀ c ∈ cs, ∀ s, (c.2.2 s).lanes.duties = s.lanes.duties) (s : State) :
    (airRounds x a n cs s).lanes.duties = s.lanes.duties := by
  induction n generalizing cs s with
  | zero => rfl
  | succ n ih =>
    unfold airRounds
    split
    · rfl
    · split
      · rfl
      · next hf =>
        split
        · rfl
        · dsimp only
          split
          · simp [h _ (List.mem_of_find?_eq_some hf)]
          · rw [ih _ (fun c hc => h c (List.mem_of_mem_eraseP hc))]
            simp

@[simp] theorem keyUnbooked_duties (x a : Nat) (s : State) : (keyUnbooked x a s).lanes.duties = s.lanes.duties := by
  unfold keyUnbooked
  dsimp only
  rw [airRounds_duties]
  · simp
  · simp only [List.mem_filter, List.mem_append]
    rintro c ⟨(hc | hc) | hc, -⟩ s
    · simp only [List.mem_filterMap, Option.map_eq_some_iff] at hc
      obtain ⟨_, _, _, _, rfl⟩ := hc
      simp
    · split at hc
      · cases hc
      · rw [List.mem_singleton] at hc
        subst hc
        simp
    · simp only [List.mem_flatten, List.mem_map] at hc
      obtain ⟨_, ⟨_, _, rfl⟩, hc⟩ := hc
      simp only [List.mem_filterMap, Option.map_eq_some_iff] at hc
      obtain ⟨_, _, _, _, rfl⟩ := hc
      simp

@[simp] theorem memberEntry_duties (e : Expect) (det : List (Nat × Bool)) (s : State) (n : Nat) :
    (memberEntry e det s n).lanes.duties = s.lanes.duties := by simp [memberEntry]

@[simp] theorem probeEntry_duties (e : Expect) (det : List (Nat × Bool)) (s : State) :
    (probeEntry e det s).lanes.duties = s.lanes.duties := by
  unfold probeEntry
  dsimp only
  repeat' split
  all_goals simp

@[simp] theorem refillTokens_duties (s : State) : (refillTokens s).lanes.duties = s.lanes.duties := by
  simp [refillTokens]
@[simp] theorem payToken_duties (sev : Nat) (s : State) : (payToken sev s).lanes.duties = s.lanes.duties := by
  simp [payToken]
@[simp] theorem sumRow_duties (q : Nat) (v : Int) (s : State) (r : Nat) :
    (sumRow q v s r).lanes.duties = s.lanes.duties := by
  simp [sumRow]
@[simp] theorem sumSample_duties (q : Nat) (v : Int) (s : State) : (sumSample q v s).lanes.duties = s.lanes.duties := by
  simp [sumSample]
@[simp] theorem sumEnd_duties (interval : Nat) (s : State) (r : Nat) :
    (sumEnd interval s r).lanes.duties = s.lanes.duties := by
  unfold sumEnd; split <;> simp
@[simp] theorem classPaths_duties (s : State) (c : Nat) : (classPaths s c).lanes.duties = s.lanes.duties := by
  simp [classPaths]
@[simp] theorem sampleBooked_duties (s : State) : (sampleBooked s).lanes.duties = s.lanes.duties :=
  foldl_duties (fun _ _ => sumSample_duties ..) _ s
@[simp] theorem bcastRatchet_duties (s : State) : (bcastRatchet s).lanes.duties = s.lanes.duties := by
  simp [bcastRatchet]
@[simp] theorem swapPath_duties (c dir : Nat) (s : State) : (swapPath c dir s).lanes.duties = s.lanes.duties := by
  simp [swapPath]
@[simp] theorem ingest_duties (node start : Nat) (s : State) (e : BurstEvent) :
    (ingest node start s e).lanes.duties = s.lanes.duties := by simp [ingest]
@[simp] theorem answerBurst_duties (b : Burst) (ch : Nat) (s : State) :
    (answerBurst b ch s).lanes.duties = s.lanes.duties := by
  simp [answerBurst]

@[simp] theorem takeBurst_duties (b : Burst) (n : Nat) (s : State) :
    (takeBurst b n s).lanes.duties = s.lanes.duties := by
  unfold takeBurst
  dsimp only
  repeat' split
  all_goals simp

@[simp] theorem holdJoin_duties (j : Join) (s : State) : (holdJoin j s).lanes.duties = s.lanes.duties := by
  simp [holdJoin]
@[simp] theorem removeRow_duties (n : Nat) (s : State) : (removeRow n s).lanes.duties = s.lanes.duties := by
  simp [removeRow]
@[simp] theorem cancelEpoch_duties (s : State) : (cancelEpoch s).lanes.duties = s.lanes.duties := by simp [cancelEpoch]
@[simp] theorem katRun_duties (l : Lane) (bad : Bool) (s : State) : (katRun l bad s).lanes.duties = s.lanes.duties := by
  simp [katRun]
@[simp] theorem releaseOne_duties (seq : Nat) (s : State) : (releaseOne seq s).lanes.duties = s.lanes.duties := by
  unfold releaseOne; split <;> simp
@[simp] theorem mismatch_duties (seq kind hashA hashB : Nat) (s : State) :
    (mismatch seq kind hashA hashB s).lanes.duties = s.lanes.duties := by simp [mismatch]
@[simp] theorem verdict_duties (l : Lane) (by_ : Bool) (s : State) :
    (verdict l by_ s).lanes.duties = s.lanes.duties := by
  simp [verdict]
@[simp] theorem countFlap_duties (s : State) : (countFlap s).1.lanes.duties = s.lanes.duties := by simp [countFlap]

@[simp] theorem releaseDiffering_duties (s : State) : (releaseDiffering s).lanes.duties = s.lanes.duties := by
  simp [releaseDiffering]

@[simp] theorem answerAsked_duties (s : State) (q : Nat × Nat) : (answerAsked s q).lanes.duties = s.lanes.duties := by
  have planned : (evalSwitchover s).1.lanes.duties = s.lanes.duties := by
    unfold evalSwitchover
    split
    · rfl
    · split <;> rfl
  unfold answerAsked
  dsimp only
  split <;> simp [planned]

@[simp] theorem settleLayout_duties (l : Lane) (s : State) : (settleLayout l s).1.lanes.duties = s.lanes.duties := by
  fun_cases settleLayout <;> simp_all

@[simp] theorem setLink_duties (k : Fin 2) (up : Bool) (s : State) :
    (setLink k up s).lanes.duties = s.lanes.duties := by
  simp [setLink]

@[simp] theorem bridgeWorks_duties (k : Fin 2) (s : State) : (bridgeWorks k s).lanes.duties = s.lanes.duties := by
  refine Eq.trans ?_ (setLink_duties k true s)
  simp [bridgeWorks, Pair.duties, LaneSt.duty]

@[simp] theorem foldSlew_duties (s : State) : (foldSlew s).lanes.duties = s.lanes.duties := by simp [foldSlew]
@[simp] theorem foldAslew_duties (s : State) : (foldAslew s).lanes.duties = s.lanes.duties := by simp [foldAslew]
@[simp] theorem startSlew_duties (corr : Int) (s : State) : (startSlew corr s).lanes.duties = s.lanes.duties := by
  simp [startSlew]
@[simp] theorem timeLog_duties (source : Nat) (corr : Int) (stepped : Bool) (client : Bytes) (s : State) :
    (timeLog source corr stepped client s).lanes.duties = s.lanes.duties := by simp [timeLog]
@[simp] theorem alarmFireRow_duties (r last next : Nat) (stepped : Bool) (skipped : Nat) (s : State) :
    (alarmFireRow r last next stepped skipped s).lanes.duties = s.lanes.duties := by simp [alarmFireRow]
@[simp] theorem alarmMoved_duties (s : State) (r : Nat) : (alarmMoved s r).lanes.duties = s.lanes.duties := by
  simp [alarmMoved]
@[simp] theorem alarmsMoved_duties (s : State) : (alarmsMoved s).lanes.duties = s.lanes.duties := by simp [alarmsMoved]
@[simp] theorem alarmWritten_duties (r : Nat) (s : State) : (alarmWritten r s).lanes.duties = s.lanes.duties := by
  simp [alarmWritten]
@[simp] theorem stepTai_duties (corr : Int) (source : Nat) (client : Bytes) (s : State) :
    (stepTai corr source client s).lanes.duties = s.lanes.duties := by simp [stepTai]
@[simp] theorem asnMoved_duties (s : State) : (asnMoved s).lanes.duties = s.lanes.duties := by simp [asnMoved]
@[simp] theorem asnFromZero_duties (s : State) : (asnFromZero s).lanes.duties = s.lanes.duties := by simp [asnFromZero]
@[simp] theorem adoptAsn_duties (anchor : Int) (s : State) : (adoptAsn anchor s).lanes.duties = s.lanes.duties := by
  simp [adoptAsn]
@[simp] theorem freeIngress_duties (p cls vc units : Nat) (s : State) :
    (freeIngress p cls vc units s).lanes.duties = s.lanes.duties := by simp [freeIngress]
@[simp] theorem passOn_duties (p : Nat) (f : TrunkFrame) (s : State) :
    (passOn p f s).lanes.duties = s.lanes.duties := by
  simp [passOn]
@[simp] theorem serveQueue_duties (p : Nat) (q : Nat × Nat × TMsg) (s : State) :
    (serveQueue p q s).lanes.duties = s.lanes.duties := by simp [serveQueue]

theorem serveClass_duties {p cls : Nat} {s u : State} (h : serveClass p cls s = some u) :
    u.lanes.duties = s.lanes.duties := by
  simp only [serveClass] at h
  split at h
  case h_1 => cases h
  case h_2 => cases h; simp
  all_goals
    next own =>
      have kept : ∀ s, (‹State → State› s).lanes.duties = s.lanes.duties := by
        split at own
        · split at own <;> cases own
          simp
        · obtain ⟨_, _, rfl⟩ := Option.map_eq_some_iff.mp own
          simp
      cases h
      simp [kept]

@[simp] theorem serveEgress_duties (p n : Nat) (s : State) : (serveEgress p n s).lanes.duties = s.lanes.duties := by
  induction n generalizing s with
  | zero => rfl
  | succ n ih =>
    unfold serveEgress
    split
    · next h =>
      obtain ⟨c, -, hc⟩ := List.exists_of_findSome?_eq_some h
      exact (ih _).trans (serveClass_duties hc)
    · rfl

@[simp] theorem retryPort_duties (p : Nat) (s : State) : (retryPort p s).lanes.duties = s.lanes.duties := by
  simp [retryPort]
@[simp] theorem dropLost_duties (s : State) : (dropLost s).lanes.duties = s.lanes.duties := by simp [dropLost]
@[simp] theorem retryVoq_duties (s : State) : (retryVoq s).lanes.duties = s.lanes.duties := by simp [retryVoq]
@[simp] theorem listPort_duties (m : TopoMsg) (p : Nat) (s : State) :
    (listPort m p s).lanes.duties = s.lanes.duties := by
  simp [listPort]
@[simp] theorem sendDcredit_duties (reset : Bool) (s : State) (n : Nat) :
    (sendDcredit reset s n).lanes.duties = s.lanes.duties := by simp [sendDcredit]
@[simp] theorem resetDcredits_duties (m : TopoMsg) (s : State) : (resetDcredits m s).lanes.duties = s.lanes.duties := by
  simp [resetDcredits]
@[simp] theorem ringOpens_duties (s : State) : (ringOpens s).lanes.duties = s.lanes.duties := by simp [ringOpens]
@[simp] theorem sendList_duties (s : State) (m : Nat) : (sendList s m).lanes.duties = s.lanes.duties := by
  simp [sendList]
@[simp] theorem moduleReached_duties (s : State) (m : Nat) : (moduleReached s m).lanes.duties = s.lanes.duties := by
  simp [moduleReached]
@[simp] theorem adoptTopo_duties (m : TopoMsg) (s0 : State) : (adoptTopo m s0).lanes.duties = s0.lanes.duties := by
  simp [adoptTopo]
@[simp] theorem floodTopo_duties (m : TopoMsg) (s : State) : (floodTopo m s).lanes.duties = s.lanes.duties := by
  simp [floodTopo]
@[simp] theorem issueTopo_duties (m : TopoMsg) (atOnce : Bool) (s : State) :
    (issueTopo m atOnce s).lanes.duties = s.lanes.duties := by simp [issueTopo]

@[simp] theorem masterTopo_duties (s : State) : (masterTopo s).lanes.duties = s.lanes.duties := by
  unfold masterTopo
  dsimp only
  repeat' split
  all_goals simp

@[simp] theorem reportLinks_duties (s : State) : (reportLinks s).lanes.duties = s.lanes.duties := by simp [reportLinks]
@[simp] theorem sendHello_duties (p : Nat) (s : State) : (sendHello p s).lanes.duties = s.lanes.duties := by
  simp [sendHello]
@[simp] theorem sendProof_duties (isAccept : Bool) (p : Nat) (h : HelloMsg) (s : State) :
    (sendProof isAccept p h s).lanes.duties = s.lanes.duties := by simp [sendProof]
@[simp] theorem linkStart_duties (p : Nat) (m : OfferMsg) (s : State) :
    (linkStart p m s).lanes.duties = s.lanes.duties := by
  simp [linkStart]
@[simp] theorem portConds_duties (p : Nat) (s : State) : (portConds p s).lanes.duties = s.lanes.duties := by
  simp [portConds]
@[simp] theorem turnFrame_duties (p : Nat) (s : State) (f : TrunkFrame) :
    (turnFrame p s f).lanes.duties = s.lanes.duties := by
  simp [turnFrame]
@[simp] theorem ringBreakRec_duties (a b port : Nat) (s : State) :
    (ringBreakRec a b port s).lanes.duties = s.lanes.duties := by
  simp [ringBreakRec]
@[simp] theorem linkEnds_duties (p : Nat) (s : State) : (linkEnds p s).lanes.duties = s.lanes.duties := by
  simp [linkEnds]
@[simp] theorem switchPin_duties (k : Nat) (v : Bool) (s : State) :
    (switchPin k v s).lanes.duties = s.lanes.duties := by
  simp [switchPin]
@[simp] theorem setPin_duties (k : Nat) (v : Bool) (s : State) : (setPin k v s).lanes.duties = s.lanes.duties := by
  simp [setPin]
@[simp] theorem diEdge_duties (n : Nat) (on : Bool) (s : State) : (diEdge n on s).lanes.duties = s.lanes.duties := by
  simp [diEdge]
@[simp] theorem driveOut_duties (k : Nat) (v : Bool) (s : State) : (driveOut k v s).lanes.duties = s.lanes.duties := by
  simp [driveOut]
@[simp] theorem outSync_duties (s : State) : (outSync s).lanes.duties = s.lanes.duties := by simp [outSync]
@[simp] theorem updVault_duties (l : Lane) (f : Vault → Vault) (s : State) :
    (updVault l f s).lanes.duties = s.lanes.duties := by
  simp [updVault]
@[simp] theorem lcLog_duties (a b : Lc) (client : Bytes) (cause : Nat) (s : State) :
    (lcLog a b client cause s).lanes.duties = s.lanes.duties := by simp [lcLog]
@[simp] theorem lcMove_duties (b : Lc) (client : Bytes) (cause : Nat) (s : State) :
    (lcMove b client cause s).lanes.duties = s.lanes.duties := by simp [lcMove]
@[simp] theorem tamperLog_duties (r : TamperRec) (s : State) : (tamperLog r s).lanes.duties = s.lanes.duties := by
  simp [tamperLog]
@[simp] theorem sampleInputs_duties (s : State) : (sampleInputs s).lanes.duties = s.lanes.duties := by
  simp [sampleInputs]
@[simp] theorem zeroLane_duties (l : Lane) (f : Vault → Vault) (s : State) :
    (zeroLane l f s).lanes.duties = s.lanes.duties := by
  unfold zeroLane; dsimp only; split <;> simp
@[simp] theorem dropSessions_duties (s : State) : (dropSessions s).lanes.duties = s.lanes.duties := by
  simp [dropSessions]
@[simp] theorem tripRecord_duties (n zeroised : Nat) (s : State) :
    (tripRecord n zeroised s).lanes.duties = s.lanes.duties := by
  simp [tripRecord]
@[simp] theorem enterTampered_duties (cause : Nat) (s : State) :
    (enterTampered cause s).lanes.duties = s.lanes.duties := by
  simp [enterTampered]
@[simp] theorem moduleTrip_duties (n : Nat) (s : State) : (moduleTrip n s).lanes.duties = s.lanes.duties := by
  unfold moduleTrip; split <;> simp
@[simp] theorem sleepRecord_duties (src : BitVec 16) (time : Nat) (s : State) :
    (sleepRecord src time s).lanes.duties = s.lanes.duties := by simp [sleepRecord]
@[simp] theorem suspendEntry_duties (time tripped : Nat) (inForce : Bool) (s : State) :
    (suspendEntry time tripped inForce s).lanes.duties = s.lanes.duties := by simp [suspendEntry]
@[simp] theorem endSuspend_duties (s : State) : (endSuspend s).lanes.duties = s.lanes.duties := by
  unfold endSuspend; split <;> simp

@[simp] theorem vaultGo_duties (l : Lane) (c : Core) (op : VaultOp) (s : State) :
    (vaultGo l c op s).lanes.duties = s.lanes.duties := by
  unfold vaultGo; split <;> simp

@[simp] theorem markInput_duties (n : Nat) (s : State) : (markInput n s).lanes.duties = s.lanes.duties := by
  simp [markInput]

@[simp] theorem sleepTrip_duties (n : Nat) (s : State) : (sleepTrip n s).lanes.duties = s.lanes.duties := by
  unfold sleepTrip
  dsimp only
  repeat' split
  all_goals simp

@[simp] theorem sleepOpen_duties (n : Nat) (s : State) : (sleepOpen n s).lanes.duties = s.lanes.duties := by
  simp [sleepOpen]
@[simp] theorem wrongClaim_duties (s : State) : (wrongClaim s).lanes.duties = s.lanes.duties := by simp [wrongClaim]
@[simp] theorem newOwnerRoot_duties (imported : Bool) (blob : Bytes) (s : State) :
    (newOwnerRoot imported blob s).lanes.duties = s.lanes.duties := by simp [newOwnerRoot]
@[simp] theorem recordOpen_duties (sev : Nat) (s : State) : (recordOpen sev s).lanes.duties = s.lanes.duties := by
  simp [recordOpen]
@[simp] theorem cellBit_duties (k old st : Nat) (s : State) (b : Nat) :
    (cellBit k old st s b).lanes.duties = s.lanes.duties := by
  simp [cellBit]
@[simp] theorem cellPut_duties (k : Nat) (row : Row) (s : State) : (cellPut k row s).lanes.duties = s.lanes.duties := by
  simp [cellPut]
@[simp] theorem loadTest_duties (k mv : Nat) (s : State) : (loadTest k mv s).lanes.duties = s.lanes.duties := by
  simp [loadTest]
@[simp] theorem latchLost_duties (s : State) : (latchLost s).lanes.duties = s.lanes.duties := by simp [latchLost]

@[simp] theorem dipEnd_duties (s : State) : (dipEnd s).lanes.duties = s.lanes.duties := by
  unfold dipEnd
  dsimp only
  repeat' split
  all_goals simp

@[simp] theorem outReturn_duties (s : State) (k : Nat) : (outReturn s k).lanes.duties = s.lanes.duties := by
  simp [outReturn]
@[simp] theorem backupSwitch_duties (s : State) : (backupSwitch s).lanes.duties = s.lanes.duties := by
  simp [backupSwitch]
@[simp] theorem setCommand_duties (value : Nat) (s : State) (k : Nat) :
    (setCommand value s k).lanes.duties = s.lanes.duties := by
  simp [setCommand]
@[simp] theorem emitAs_duties (rom : Bool) (o : Out) (s : State) : (emitAs rom o s).lanes.duties = s.lanes.duties := by
  simp [emitAs]
@[simp] theorem streamReply_duties (h : StreamHdr) (styp status next : Nat) (s : State) :
    (streamReply h styp status next s).lanes.duties = s.lanes.duties := by simp [streamReply]

@[simp] theorem discardRow_duties (sticky : Bool) (s : State) (r : Nat) :
    (discardRow sticky s r).lanes.duties = s.lanes.duties := by
  unfold discardRow
  dsimp only
  repeat' split
  all_goals simp

@[simp] theorem streamTake_duties (styp : Nat) (h : StreamHdr) (body : Bytes) (eff : State → State) (s : State)
    (h3 : ∀ s, (eff s).lanes.duties = s.lanes.duties) :
    (streamTake styp h body eff s).lanes.duties = s.lanes.duties := by
  fun_cases streamTake <;> simp_all

@[simp] theorem openRow_duties (h : StreamHdr) (sha : Bytes) (s : State) (r : Nat) :
    (openRow h sha s r).lanes.duties = s.lanes.duties := by
  unfold openRow
  dsimp only
  repeat' split
  all_goals simp

@[simp] theorem noTransfer_duties (styp : Nat) (h : StreamHdr) (s : State) :
    (noTransfer styp h s).lanes.duties = s.lanes.duties := by simp [noTransfer]

@[simp] theorem endRow_duties (img : ImageHdr) (s : State) (r : Nat) :
    (endRow img s r).lanes.duties = s.lanes.duties := by
  unfold endRow
  dsimp only
  repeat' split
  all_goals simp

@[simp] theorem recoveryFail_duties (img : ImageHdr) (s : State) (r : Nat) :
    (recoveryFail img s r).lanes.duties = s.lanes.duties := by simp [recoveryFail]
@[simp] theorem commitBank_duties (l : Lane) (s : State) (k : Nat) :
    (commitBank l s k).lanes.duties = s.lanes.duties := by
  unfold commitBank; dsimp only; split <;> simp
@[simp] theorem commitLane_duties (s : State) (l : Lane) : (commitLane s l).lanes.duties = s.lanes.duties := by
  simp [commitLane]

@[simp] theorem engWrite_duties (l : Lane) (c : Core) (addr : Nat) (eff : State → State) (s : State)
    (h3 : ∀ s, (eff s).lanes.duties = s.lanes.duties) : (engWrite l c addr eff s).lanes.duties = s.lanes.duties := by
  fun_cases engWrite <;> simp_all

@[simp] theorem refSync_duties (s : State) : (refSync s).lanes.duties = s.lanes.duties := by simp [refSync]
@[simp] theorem phaseRec_duties (x : Nat) (absent : Bool) (s : State) :
    (phaseRec x absent s).lanes.duties = s.lanes.duties := by
  simp [phaseRec]
@[simp] theorem countCycle_duties (x : Nat) (s : State) : (countCycle x s).lanes.duties = s.lanes.duties := by
  simp [countCycle]
@[simp] theorem shadowPut_duties (hd n r : Nat) (f : Row → Row) (s : State) :
    (shadowPut hd n r f s).lanes.duties = s.lanes.duties := by simp [shadowPut]
@[simp] theorem loseRecords_duties (rs : List Record) (s : State) :
    (loseRecords rs s).lanes.duties = s.lanes.duties := by
  simp [loseRecords]
@[simp] theorem putRecord_duties (r : Record) (s : State) : (putRecord r s).lanes.duties = s.lanes.duties := by
  unfold putRecord; split <;> simp
@[simp] theorem openPageAt_duties (p : Nat) (s : State) : (openPageAt p s).lanes.duties = s.lanes.duties := by
  unfold openPageAt; split <;> simp
@[simp] theorem placeRecord_duties (r : Record) (s : State) : (placeRecord r s).1.lanes.duties = s.lanes.duties := by
  fun_cases placeRecord <;> simp_all
@[simp] theorem setWin_duties (w : NoticeWin) (s : State) : (setWin w s).lanes.duties = s.lanes.duties := by
  simp [setWin]
@[simp] theorem noticeRec_duties (r : Record) (s : State) (p : Nat × Sub) :
    (noticeRec r s p).lanes.duties = s.lanes.duties := by
  simp [noticeRec]
@[simp] theorem writeRecord.newRecord_duties (r : Record) (s : State) :
    (writeRecord.newRecord r s).lanes.duties = s.lanes.duties := by simp [writeRecord.newRecord]
@[simp] theorem writeRecord_duties (r : Record) (s : State) : (writeRecord r s).lanes.duties = s.lanes.duties := by
  unfold writeRecord; split <;> simp

@[simp] theorem tearRec_duties (s : State) : (tearRec s).lanes.duties = s.lanes.duties := by
  unfold tearRec
  dsimp only
  repeat' split
  all_goals simp

@[simp] theorem sendOrDrop_duties (id : Nat) (b : Sub) (sev flags changes time : Nat) (body : Bytes) (s : State) :
    (sendOrDrop id b sev flags changes time body s).lanes.duties = s.lanes.duties := by simp [sendOrDrop]

@[simp] theorem repeatNotice_duties (id : Nat) (b : Sub) (s : State) (g : Nat × Nat) :
    (repeatNotice id b s g).lanes.duties = s.lanes.duties := by
  unfold repeatNotice; split <;> simp

@[simp] theorem foldNotice_duties (s : State) (w : NoticeWin) : (foldNotice s w).lanes.duties = s.lanes.duties := by
  unfold foldNotice; split <;> simp
@[simp] theorem repeatNotices_duties (s : State) (p : Nat × Sub) :
    (repeatNotices s p).lanes.duties = s.lanes.duties := by
  simp [repeatNotices]
@[simp] theorem trkBatch_duties (s0 s : State) : (trkBatch s0 s).lanes.duties = s.lanes.duties := by simp [trkBatch]
@[simp] theorem enqueue_duties (f : TrajFrame) (s : State) (x : Nat) :
    (enqueue f s x).lanes.duties = s.lanes.duties := by
  simp [enqueue]

@[simp] theorem sendBranch_duties (n b : Nat) (hops : List Hop) (s : State) :
    (sendBranch n b hops s).lanes.duties = s.lanes.duties := by
  unfold sendBranch
  dsimp only
  split
  · rfl
  · split
    · rfl
    · exact foldl_duties (enqueue_duties _) _ _

@[simp] theorem issue_duties (n : Nat) (s : State) : (issue n s).lanes.duties = s.lanes.duties := by simp [issue]
@[simp] theorem sendEnd_duties (n b : Nat) (hops : List Hop) (s : State) :
    (sendEnd n b hops s).lanes.duties = s.lanes.duties := by simp [sendEnd]
@[simp] theorem endTrack_duties (n : Nat) (s : State) : (endTrack n s).lanes.duties = s.lanes.duties := by
  simp [endTrack]
@[simp] theorem endMerged_duties (n : Nat) (s : State) : (endMerged n s).lanes.duties = s.lanes.duties := by
  simp [endMerged]
@[simp] theorem endAllTracks_duties (s : State) : (endAllTracks s).lanes.duties = s.lanes.duties := by
  simp [endAllTracks]
@[simp] theorem sendHandoff_duties (n hseq v dist : Nat) (s : State) :
    (sendHandoff n hseq v dist s).lanes.duties = s.lanes.duties := by simp [sendHandoff]
@[simp] theorem tryHandoff_duties (n : Nat) (s : State) : (tryHandoff n s).lanes.duties = s.lanes.duties := by
  unfold tryHandoff; dsimp only; split <;> simp
@[simp] theorem tryHandoffs_duties (s : State) : (tryHandoffs s).lanes.duties = s.lanes.duties := by simp [tryHandoffs]
@[simp] theorem mergeTrack_duties (n : Nat) (s : State) : (mergeTrack n s).1.lanes.duties = s.lanes.duties := by
  unfold mergeTrack; split <;> simp
@[simp] theorem boundSync_duties (detail : Nat) (s : State) : (boundSync detail s).lanes.duties = s.lanes.duties := by
  simp [boundSync]
@[simp] theorem boundCommit_duties (s0 s : State) : (boundCommit s0 s).lanes.duties = s.lanes.duties := by
  simp [boundCommit]
@[simp] theorem clearHistory_duties (s : State) (v : Nat) : (clearHistory s v).lanes.duties = s.lanes.duties := by
  simp [clearHistory]
@[simp] theorem graphCommit_duties (rows : List Nat) (s0 s : State) :
    (graphCommit rows s0 s).lanes.duties = s.lanes.duties := by
  simp [graphCommit]
@[simp] theorem giveReg_duties (l : Lane) (c : Core) (a v : Nat) (s : State) :
    (giveReg l c a v s).lanes.duties = s.lanes.duties := by simp [giveReg]

@[simp] theorem giveOr_duties (l : Lane) (c : Core) (a : Nat) (v : Option Nat) (s : State) :
    (giveOr l c a v s).lanes.duties = s.lanes.duties := by
  unfold giveOr; split <;> simp

@[simp] theorem giveFree_duties (l : Lane) (c : Core) (a : Nat) (s : State) :
    (giveFree l c a s).lanes.duties = s.lanes.duties := by simp [giveFree]

@[simp] theorem mramRead_duties (l : Lane) (c : Core) (a : Nat) (s : State) :
    (mramRead l c a s).lanes.duties = s.lanes.duties := by
  fun_cases mramRead <;> simp_all

@[simp] theorem flashRead_duties (l : Lane) (c : Core) (a : Nat) (s : State) :
    (flashRead l c a s).lanes.duties = s.lanes.duties := by
  unfold flashRead
  dsimp only
  repeat' split
  all_goals simp

@[simp] theorem lcbRead_duties (l : Lane) (c : Core) (off : Nat) (s : State) :
    (lcbRead l c off s).lanes.duties = s.lanes.duties := by simp [lcbRead]
@[simp] theorem icuRead_duties (l : Lane) (c : Core) (off : Nat) (s : State) :
    (icuRead l c off s).lanes.duties = s.lanes.duties := by simp [icuRead]

theorem icuWriteEff_duties {l : Lane} {off v : Nat} {s : State} :
    ∀ u, icuWriteEff l off v s = some u → u.lanes.duties = s.lanes.duties := by
  fun_cases icuWriteEff l off v s
  all_goals rintro _ ⟨⟩
  all_goals simp

@[simp] theorem icuWrite_duties (l : Lane) (c : Core) (off v : Nat) (s : State) :
    (icuWrite l c off v s).lanes.duties = s.lanes.duties := by
  unfold icuWrite
  dsimp only
  split
  · simp
  · split
    · next h => exact icuWriteEff_duties _ h
    · simp

@[simp] theorem gourWrite_duties (l : Lane) (c : Core) (off v : Nat) (s : State) :
    (gourWrite l c off v s).lanes.duties = s.lanes.duties := by
  unfold gourWrite; split <;> simp

@[simp] theorem busWdWrite_duties (l : Lane) (k v : Nat) (s : State) :
    (busWdWrite l k v s).lanes.duties = s.lanes.duties := by
  simp [busWdWrite]
@[simp] theorem engCtrl_duties (l : Lane) (e v : Nat) (s : State) :
    (engCtrl l e v s).lanes.duties = s.lanes.duties := by
  simp [engCtrl]

@[simp] theorem engRegWrite_duties (l : Lane) (c : Core) (a v : Nat) (s : State) :
    (engRegWrite l c a v s).lanes.duties = s.lanes.duties := by
  unfold engRegWrite; dsimp only; split <;> simp

@[simp] theorem vaultWrite_duties (l : Lane) (c : Core) (off v : Nat) (s : State) :
    (vaultWrite l c off v s).lanes.duties = s.lanes.duties := by
  unfold vaultWrite
  dsimp only
  repeat' split
  all_goals simp

@[simp] theorem sliceCharge_duties (r : Nat) (s : State) : (sliceCharge r s).1.lanes.duties = s.lanes.duties := by
  fun_cases sliceCharge <;> simp_all
@[simp] theorem sliceString_duties (on : Bool) (k : Nat) (s : State) :
    (sliceString on k s).lanes.duties = s.lanes.duties := by
  simp [sliceString]
@[simp] theorem sliceDrive_duties (r : Nat) (s : State) : (sliceDrive r s).lanes.duties = s.lanes.duties := by
  simp [sliceDrive]
@[simp] theorem markSlice_duties (k : Nat) (o : SliceObs) (s : State) :
    (markSlice k o s).lanes.duties = s.lanes.duties := by
  simp [markSlice]

@[simp] theorem passEffect_duties (r : Nat) (s : State) : (passEffect r s).lanes.duties = s.lanes.duties := by
  simp [passEffect]
@[simp] theorem selfTestRec_duties (r res : Nat) (m : Int) (s : State) :
    (selfTestRec r res m s).lanes.duties = s.lanes.duties := by simp [selfTestRec]
@[simp] theorem classBit_duties (c row : Nat) (s : State) : (classBit c row s).lanes.duties = s.lanes.duties := by
  simp [classBit]
@[simp] theorem stResult_duties (r res : Nat) (m : Int) (transient : Bool) (s : State) :
    (stResult r res m transient s).lanes.duties = s.lanes.duties := by simp [stResult]
@[simp] theorem suspectSync_duties (s : State) : (suspectSync s).lanes.duties = s.lanes.duties := by simp [suspectSync]

@[simp] theorem sliceReturn_duties (s : State) : (sliceReturn s).lanes.duties = s.lanes.duties := by simp [sliceReturn]
@[simp] theorem sliceAbort_duties (s : State) : (sliceAbort s).lanes.duties = s.lanes.duties := by
  unfold sliceAbort; dsimp only; split <;> simp
@[simp] theorem testEnabled_duties (s : State) : (testEnabled s).lanes.duties = s.lanes.duties := by simp [testEnabled]
@[simp] theorem passage_duties (v cls : Nat) (s : State) : (passage v cls s).lanes.duties = s.lanes.duties := by
  simp [passage]
@[simp] theorem countTurn_duties (cls : Nat) (s : State) (x : Nat × Nat × Nat) :
    (countTurn cls s x).lanes.duties = s.lanes.duties := by simp [countTurn]

@[simp] theorem settleTrack_duties (n : Nat) (send : Bool) (s : State) :
    (settleTrack n send s).lanes.duties = s.lanes.duties := by
  have merged := mergeTrack_duties n s
  unfold settleTrack
  split <;> simp_all

@[simp] theorem takeEvent_duties (n : Nat) (p : Presence) (s : State) :
    (takeEvent n p s).lanes.duties = s.lanes.duties := by
  simp [takeEvent]
@[simp] theorem startTrack_duties (p : Presence) (s : State) : (startTrack p s).lanes.duties = s.lanes.duties := by
  unfold startTrack; split <;> simp
@[simp] theorem handoffLost_duties (n : Nat) (h : Handing) (s : State) :
    (handoffLost n h s).lanes.duties = s.lanes.duties := by
  simp [handoffLost]
@[simp] theorem answerHandoff_duties (m : HandoffMsg) (track status : Nat) (s : State) :
    (answerHandoff m track status s).lanes.duties = s.lanes.duties := by simp [answerHandoff]
@[simp] theorem ageHour_duties (day hour : Nat) (s : State) (v : Nat) :
    (ageHour day hour s v).lanes.duties = s.lanes.duties := by
  simp [ageHour]
@[simp] theorem ageTurns_duties (s : State) (v : Nat) : (ageTurns s v).lanes.duties = s.lanes.duties := by
  simp [ageTurns]
@[simp] theorem updZone_duties (z : Nat) (f : Zone → Zone) (s : State) :
    (updZone z f s).lanes.duties = s.lanes.duties := by
  simp [updZone]
@[simp] theorem applyClass_duties (z : Nat) (s : State) : (applyClass z s).lanes.duties = s.lanes.duties := by
  simp [applyClass]
@[simp] theorem applyOverride_duties (z : Nat) (s : State) : (applyOverride z s).lanes.duties = s.lanes.duties := by
  simp [applyOverride]
@[simp] theorem adaptZone_duties (s : State) (z : Nat) : (adaptZone s z).lanes.duties = s.lanes.duties := by
  simp [adaptZone]
@[simp] theorem zonesChanged_duties (s0 s : State) (z : Nat) : (zonesChanged s0 s z).lanes.duties = s.lanes.duties := by
  simp [zonesChanged]
@[simp] theorem withRows_duties (m : NMap Row) (s : State) : (withRows m s).lanes.duties = s.lanes.duties := by
  simp [withRows]
@[simp] theorem restoreBank_duties (b : Nat) (s : State) : (restoreBank b s).lanes.duties = s.lanes.duties := by
  simp [restoreBank]
@[simp] theorem overlay_duties (q : Sequence) (s : State) : (overlay q s).lanes.duties = s.lanes.duties := by
  simp [overlay]
@[simp] theorem calSource_duties (s : State) (r : Nat) : (calSource s r).lanes.duties = s.lanes.duties := by
  simp [calSource]
@[simp] theorem recalRange_duties (s0 s : State) (c : Nat) : (recalRange s0 s c).lanes.duties = s.lanes.duties := by
  simp [recalRange]
@[simp] theorem calUnused_duties (s : State) (r : Nat) : (calUnused s r).lanes.duties = s.lanes.duties := by
  simp [calUnused]
@[simp] theorem ratioCut_duties (s0 : State) (ks : List Nat) (s : State) :
    (ratioCut s0 ks s).lanes.duties = s.lanes.duties := by
  simp [ratioCut]
@[simp] theorem calSettle_duties (s0 : State) (ks : List Nat) (s : State) :
    (calSettle s0 ks s).lanes.duties = s.lanes.duties := by simp [calSettle]
@[simp] theorem wearWord_duties (s : State) (k : Nat) : (wearWord s k).lanes.duties = s.lanes.duties := by
  simp [wearWord]
@[simp] theorem rebook_duties (s : State) (b : Booking) : (rebook s b).lanes.duties = s.lanes.duties := by
  unfold rebook; dsimp only; split <;> simp
@[simp] theorem xcvrChanged_duties (s0 s : State) (x : Nat) : (xcvrChanged s0 s x).lanes.duties = s.lanes.duties := by
  simp [xcvrChanged]
@[simp] theorem clusterChanged_duties (s0 s : State) (c : Nat) :
    (clusterChanged s0 s c).lanes.duties = s.lanes.duties := by
  simp [clusterChanged]
@[simp] theorem strayBookings_duties (s : State) : (strayBookings s).lanes.duties = s.lanes.duties := by
  simp [strayBookings]
@[simp] theorem directoryChanged_duties (s0 s : State) (n : Nat) :
    (directoryChanged s0 s n).lanes.duties = s.lanes.duties := by
  simp [directoryChanged]
@[simp] theorem floorsChanged_duties (s0 s : State) : (floorsChanged s0 s).lanes.duties = s.lanes.duties := by
  simp [floorsChanged]
@[simp] theorem overrideWaits_duties (s : State) (z : Nat) : (overrideWaits s z).lanes.duties = s.lanes.duties := by
  simp [overrideWaits]
@[simp] theorem engineChanged_duties (s : State) (e : Nat) : (engineChanged s e).lanes.duties = s.lanes.duties := by
  simp [engineChanged]
@[simp] theorem busChanged_duties (s : State) (k : Nat) : (busChanged s k).lanes.duties = s.lanes.duties := by
  simp [busChanged]
@[simp] theorem alarmChanged_duties (s : State) (a : Nat) : (alarmChanged s a).lanes.duties = s.lanes.duties := by
  simp [alarmChanged]
@[simp] theorem effectsSys_duties (s0 : State) (ks : List Nat) (client : Bytes) (s : State) :
    (effectsSys s0 ks client s).lanes.duties = s.lanes.duties := by simp [effectsSys]
@[simp] theorem effectsStreet_duties (s0 : State) (ks : List Nat) (plain : Bool) (s : State) :
    (effectsStreet s0 ks plain s).lanes.duties = s.lanes.duties := by simp [effectsStreet]
@[simp] theorem effectsUnits_duties (s0 : State) (ks : List Nat) (s : State) :
    (effectsUnits s0 ks s).lanes.duties = s.lanes.duties := by simp [effectsUnits]

@[simp] theorem changeSettings_duties {f : State → State} {s : State} (h :
    (f s).lanes.duties = s.lanes.duties) (ks : List Nat)
    (client : Bytes) (plain : Bool) : (changeSettings f ks client plain s).lanes.duties = s.lanes.duties := by
  simp [changeSettings, h]

@[simp] theorem applyCommit_duties (hd : Nat) (s : State) : (applyCommit hd s).lanes.duties = s.lanes.duties := by
  unfold applyCommit; split <;> simp
@[simp] theorem settingsGone_duties (s : State) : (settingsGone s).lanes.duties = s.lanes.duties := by
  simp [settingsGone]
@[simp] theorem ownerGone_duties (s : State) : (ownerGone s).lanes.duties = s.lanes.duties := by simp [ownerGone]
@[simp] theorem endSession_duties (sid : Nat) (s : State) : (endSession sid s).lanes.duties = s.lanes.duties := by
  simp [endSession]

@[simp] theorem dropAssoc_duties (a : Nat) (s : State) : (dropAssoc a s).lanes.duties = s.lanes.duties := by
  unfold dropAssoc
  dsimp only
  repeat' split
  all_goals simp

@[simp] theorem openSession_duties (h : Hdr) (a : Assoc) (client : Bytes) (idle : Nat) (s : State) :
    (openSession h a client idle s).lanes.duties = s.lanes.duties := by simp [openSession]

@[simp] theorem takeAck_duties (sid compSeq : Nat) (h : Hdr) (s : State) :
    (takeAck sid compSeq h s).lanes.duties = s.lanes.duties := by
  unfold takeAck; split <;> simp

@[simp] theorem sendHeld_duties (s : State) (p : Nat × Completion) : (sendHeld s p).lanes.duties = s.lanes.duties := by
  simp [sendHeld]
@[simp] theorem applyDue_duties (s : State) : (applyDue s).lanes.duties = s.lanes.duties := by simp [applyDue]
@[simp] theorem enterHoldover_duties (s : State) : (enterHoldover s).lanes.duties = s.lanes.duties := by
  simp [enterHoldover]
@[simp] theorem endHoldover_duties (s : State) : (endHoldover s).lanes.duties = s.lanes.duties := by simp [endHoldover]
@[simp] theorem relock_duties (corr : Int) (slewAsn : Bool) (s : State) :
    (relock corr slewAsn s).lanes.duties = s.lanes.duties := by simp [relock]

@[simp] theorem lockCheckPtp_duties (offset : Int) (s : State) :
    (lockCheckPtp offset s).lanes.duties = s.lanes.duties := by
  unfold lockCheckPtp
  dsimp only
  repeat' split
  all_goals simp

@[simp] theorem syncHeard_duties (offset : Int) (s : State) : (syncHeard offset s).lanes.duties = s.lanes.duties := by
  simp [syncHeard]
@[simp] theorem realign_duties (l : Lane) (s : State) : (realign l s).lanes.duties = s.lanes.duties := by simp [realign]

@[simp] theorem secondSamples_duties (s : State) : (secondSamples s).lanes.duties = s.lanes.duties := by
  simp only [secondSamples, ite_duties, sumSample_duties, ite_self]
  repeat' split
  all_goals simp only [sumSample_duties]

@[simp] theorem setTrim_duties (source : Nat) (v : Int) (s : State) :
    (setTrim source v s).lanes.duties = s.lanes.duties := by
  simp [setTrim]
@[simp] theorem beginCorrection_duties (corr : Int) (src : Nat) (client : Bytes) (s : State) :
    (beginCorrection corr src client s).lanes.duties = s.lanes.duties := by simp [beginCorrection]
@[simp] theorem noticeHeard_duties (p node : Nat) (n : Bytes) (s : State) :
    (noticeHeard p node n s).lanes.duties = s.lanes.duties := by simp [noticeHeard]

@[simp] theorem handshake_duties (isOffer : Bool) (p : Nat) (m : OfferMsg) (s : State) :
    (handshake isOffer p m s).lanes.duties = s.lanes.duties := by
  unfold handshake; dsimp only; split <;> simp

@[simp] theorem storeFrame_duties (p : Nat) (f : TrunkFrame) (s : State) :
    (storeFrame p f s).lanes.duties = s.lanes.duties := by
  simp [storeFrame]
@[simp] theorem spoilFrame_duties (p : Nat) (f : TrunkFrame) (s : State) :
    (spoilFrame p f s).lanes.duties = s.lanes.duties := by
  unfold spoilFrame; split <;> simp
@[simp] theorem forwardFrame_duties (p e : Nat) (f : TrunkFrame) (s : State) :
    (forwardFrame p e f s).lanes.duties = s.lanes.duties := by simp [forwardFrame]
@[simp] theorem noteHead_duties (peer : Peer) (src : Nat) (s : State) :
    (noteHead peer src s).lanes.duties = s.lanes.duties := by
  simp [noteHead]
@[simp] theorem relayTo_duties (dst : Nat) (peer : Peer) (module tclass size : Nat) (s : State) :
    (relayTo dst peer module tclass size s).lanes.duties = s.lanes.duties := by simp [relayTo]
@[simp] theorem silentSync_duties (detail : Nat) (s : State) : (silentSync detail s).lanes.duties = s.lanes.duties := by
  simp [silentSync]
@[simp] theorem wipe_duties (s : State) : (wipe s).lanes.duties = s.lanes.duties := by simp [wipe]

@[simp] theorem foldRealigned_duties (s : State) : (foldRealigned s).lanes.duties = s.lanes.duties := by
  simp [foldRealigned]
@[simp] theorem scanRec_duties (s : State) : (scanRec s).lanes.duties = s.lanes.duties := by
  unfold scanRec; dsimp only; split <;> simp
@[simp] theorem unsealVault_duties (s : State) (l : Lane) : (unsealVault s l).lanes.duties = s.lanes.duties := by
  simp [unsealVault]
@[simp] theorem resumeEpoch_duties (s : State) : (resumeEpoch s).lanes.duties = s.lanes.duties := by
  unfold resumeEpoch; split <;> simp

@[simp] theorem readEntry_duties (s : State) (e : JEntry) : (readEntry s e).lanes.duties = s.lanes.duties := by
  unfold readEntry
  dsimp only
  repeat' split
  all_goals simp

@[simp] theorem readJournal_duties (s : State) : (readJournal s).lanes.duties = s.lanes.duties := by simp [readJournal]
@[simp] theorem lateSuspend_duties (s : State) : (lateSuspend s).lanes.duties = s.lanes.duties := by
  unfold lateSuspend; split <;> simp
@[simp] theorem copyStores_duties (s : State) : (copyStores s).lanes.duties = s.lanes.duties := by simp [copyStores]
@[simp] theorem ratchet_duties (s : State) : (ratchet s).lanes.duties = s.lanes.duties := by simp [ratchet]
@[simp] theorem zoneAnew_duties (s : State) (z : Nat) : (zoneAnew s z).lanes.duties = s.lanes.duties := by
  simp [zoneAnew]
@[simp] theorem startTraffic_duties (s : State) : (startTraffic s).lanes.duties = s.lanes.duties := by
  simp [startTraffic]
@[simp] theorem startLed_duties (s : State) : (startLed s).lanes.duties = s.lanes.duties := by simp [startLed]
@[simp] theorem startPorts_duties (s : State) : (startPorts s).lanes.duties = s.lanes.duties := by simp [startPorts]
@[simp] theorem startService_duties (l : Lane) (s : State) : (startService l s).lanes.duties = s.lanes.duties := by
  simp [startService]

@[simp] theorem markSwitch_duties (s : State) : (markSwitch s).lanes.duties = s.lanes.duties := by simp [markSwitch]
@[simp] theorem refuseB_duties (s : State) : (refuseB s).lanes.duties = s.lanes.duties := by simp [refuseB]

@[simp] theorem endDrain_duties (s : State) : (endDrain s).lanes.duties = s.lanes.duties := by
  unfold endDrain; dsimp only; split <;> simp
@[simp] theorem retentionLoss_duties (canaryOk : Bool) (s : State) :
    (retentionLoss canaryOk s).lanes.duties = s.lanes.duties := by simp [retentionLoss]
@[simp] theorem settleRetention_duties (canaryOk : Bool) (s : State) :
    (settleRetention canaryOk s).lanes.duties = s.lanes.duties := by simp [settleRetention]
@[simp] theorem awaitSnap_duties (a : Nat) (w : List (Nat × Nat)) (s : State) :
    (awaitSnap a w s).lanes.duties = s.lanes.duties := by simp [awaitSnap]
@[simp] theorem answerSurvey_duties (v : CascadeSurvey) (s : State) :
    (answerSurvey v s).lanes.duties = s.lanes.duties := by
  unfold answerSurvey; split <;> simp
@[simp] theorem answerFull_duties (s : State) : (answerFull s).lanes.duties = s.lanes.duties := by simp [answerFull]
@[simp] theorem serveSnap_duties (seq : Nat) (one own : Bytes) (s : State) (w : Nat × Nat) :
    (serveSnap seq one own s w).lanes.duties = s.lanes.duties := by simp [serveSnap]
@[simp] theorem takeSnap_duties (p : Nat × List (Nat × Nat)) (s : State) :
    (takeSnap p s).lanes.duties = s.lanes.duties := by
  simp [takeSnap]

end Sys2Proof.Machine
end

section
/-!
PROOFS. The operations that take a role away: where a lane lags, stops or restarts, no lane is active that was not.
-/
namespace Sys2Proof.Machine

open Sys2Proof.Safety

@[simp] theorem ite_fst_duties {α : Type} {c : Prop} [Decidable c] (x y : State × α) :
    (if c then x else y).1.lanes.duties = if c then x.1.lanes.duties else y.1.lanes.duties :=
  apply_ite (fun x : State × α => x.1.lanes.duties) c x y

@[simp] theorem clearSticky_duties (rows : List (Nat × Row)) (s : State) :
    (clearSticky rows s).lanes.duties = s.lanes.duties := by
  simp [clearSticky]

@[simp] theorem clearBits_duties (n : Nat) (rows : List (Nat × Row)) (s : State) :
    (clearBits n rows s).lanes.duties = s.lanes.duties := by
  simp [clearBits]

@[simp] theorem openSeq_duties (mask lease sid : Nat) (x : Session) (n : Named) (s : State) :
    (openSeq mask lease sid x n s).1.lanes.duties = s.lanes.duties := by
  cases n <;> rfl

@[simp] theorem writeOp_duties (h : Hdr) (rows : List (Nat × Row)) (sid : Nat) (x : Session) (d : ObjDesc) (s : State) :
    (writeOp h rows sid x d s).1.lanes.duties = s.lanes.duties := by
  unfold writeOp
  dsimp only
  repeat' split
  all_goals simp

@[simp] theorem commitOp_duties (hd : Nat) (q : Sequence) (s : State) :
    (commitOp hd q s).1.lanes.duties = s.lanes.duties := by
  unfold commitOp
  dsimp only
  split <;> simp

@[simp] theorem readOp_duties (h : Hdr) (sid : Nat) (x : Session) (s : State) :
    (readOp h sid x s).1.lanes.duties = s.lanes.duties := by
  unfold readOp
  dsimp only
  repeat' split
  all_goals simp

@[simp] theorem putSub_duties (sid : Nat) (h : Hdr) (subId mode minSev interval : Nat) (s : State) :
    (putSub sid h subId mode minSev interval s).1.lanes.duties = s.lanes.duties := by
  simp [putSub]

/-- No lane is active that was not. -/
structure NoRise (m r : Pair Duty) : Prop where
  active : ∀ l, (r.get l).role = .active → (m.get l).role = .active

@[simp] theorem NoRise.refl (m : Pair Duty) : NoRise m m := ⟨fun _ => id⟩

theorem NoRise.trans {m r q : Pair Duty} (h : NoRise m r) (k : NoRise r q) : NoRise m q :=
  ⟨fun l => h.active l ∘ k.active l⟩

@[simp] theorem noRise_ite {c : Prop} [Decidable c] {m x y : Pair Duty} :
    NoRise m (if c then x else y) ↔ if c then NoRise m x else NoRise m y := by
  split <;> rfl

@[simp] theorem upd_noRise {m : Pair Duty} {p : Pair LaneSt} {f : LaneSt → LaneSt}
    (hf : ∀ x, (f x).role = .active → x.role = .active) (h : NoRise m p.duties) (l : Lane) :
    NoRise m (p.upd l f).duties := by
  refine ⟨fun k => ?_⟩
  cases l <;> cases k
  · exact h.active .A ∘ hf _
  · exact h.active .B
  · exact h.active .A
  · exact h.active .B ∘ hf _

theorem foldl_noRise {m : Pair Duty} {s : State} (h : NoRise m s.lanes.duties) {β : Type} {f : State → β → State}
    (hf : ∀ s b, NoRise s.lanes.duties (f s b).lanes.duties) (l : List β) : NoRise m (l.foldl f s).lanes.duties := by
  induction l generalizing s with
  | nil => exact h
  | cons b r ih => exact ih (h.trans (hf s b))

@[simp] theorem upd_resetLaneSt_noRise {m : Pair Duty} {p : Pair LaneSt} (h : NoRise m p.duties) (l : Lane)
    (now t64 : Nat) : NoRise m (p.upd l (resetLaneSt now t64)).duties :=
  upd_noRise (fun _ e => nomatch (e : Role.undecided = .active)) h l

section
variable {m : Pair Duty} {s : State} (h : NoRise m s.lanes.duties)
include h

@[simp] theorem markLagging_noRise (l : Lane) : NoRise m (markLagging l s).lanes.duties := by
  simp [markLagging, h]
@[simp] theorem setResync_noRise (l : Lane) : NoRise m (setResync l s).lanes.duties := by
  simp [setResync, h]
@[simp] theorem flapHold_noRise (l : Lane) : NoRise m (flapHold l s).lanes.duties := by
  simp [flapHold, h]
@[simp] theorem stayLagging_noRise (l : Lane) (c : Condemn) : NoRise m (stayLagging l c s).lanes.duties := by
  simp [stayLagging, h]
@[simp] theorem unitReport_noRise (l : Lane) (u r : Nat) : NoRise m (unitReport l u r s).lanes.duties := by
  simp [unitReport, h]

omit h in
@[simp] theorem stopLanes_noRise : NoRise m (stopLanes s).lanes.duties := by
  refine ⟨fun l e => ?_⟩
  cases l <;> exact nomatch (e : Role.undecided = .active)

@[simp] theorem bridgeFails_noRise (k : Fin 2) : NoRise m (bridgeFails k s).lanes.duties := by
  unfold bridgeFails
  extract_lets s1 stop s2
  have stopped : s2.lanes.duties = s.lanes.duties := by
    simp [s2, stop, s1, setLink, Pair.duties, LaneSt.duty]
  split
  · simp [s1, h]
  · split <;> simp [stopped, h]

@[simp] theorem failEffect_noRise (r : Nat) (o : SliceObs) : NoRise m (failEffect r o s).lanes.duties := by
  unfold failEffect
  dsimp only
  repeat' split
  all_goals simp [h]

@[simp] theorem sliceFound_noRise (x : Slice) (o : SliceObs) : NoRise m (sliceFound x o s).lanes.duties := by
  simp [sliceFound, h]

@[simp] theorem scrapStop_noRise : NoRise m (scrapStop s).lanes.duties := by
  simp [scrapStop, h]
@[simp] theorem restartLane_noRise (l : Lane) : NoRise m (restartLane l s).lanes.duties := by
  simp [restartLane, h]
@[simp] theorem condemn_noRise (l : Lane) (c : Condemn) : NoRise m (condemn l c s).lanes.duties := by
  simp [condemn, h]
@[simp] theorem eccUncorrectable_noRise (l : Lane) : NoRise m (eccUncorrectable l s).lanes.duties := by
  simp [eccUncorrectable, h]
@[simp] theorem eccCorrected_noRise (l : Lane) : NoRise m (eccCorrected l s).lanes.duties := by
  simp [eccCorrected, h]
@[simp] theorem sumpPoison_noRise (l : Lane) (q n : Nat) : NoRise m (sumpPoison l q n s).lanes.duties := by
  simp [sumpPoison, h]
@[simp] theorem bootLane_noRise (l : Lane) : NoRise m (bootLane s l).lanes.duties := by
  simp [bootLane, h]
@[simp] theorem bootModule_noRise (c : StartCause) : NoRise m (bootModule c s).lanes.duties := by
  simp [bootModule, h]
omit h in
@[simp] theorem restartModule_noRise (c : StartCause) : NoRise m (restartModule c s).lanes.duties := by
  simp [restartModule]

@[simp] theorem activeLost_noRise (l : Lane) : NoRise m (activeLost l s).lanes.duties := by
  unfold activeLost
  repeat' split
  all_goals simp [h]

@[simp] theorem afterReply_noRise : NoRise m (afterReply s).lanes.duties := by
  unfold afterReply
  split <;> simp [h]

@[simp] theorem decide289_noRise (l : Lane) : NoRise m (decide289 l s).1.lanes.duties := by
  simp [decide289, h]

@[simp] theorem engineTake_noRise (l : Lane) (q : Nat) : NoRise m (engineTake l q s).lanes.duties := by
  unfold engineTake
  dsimp only
  have fixed (n : Nat) (s : State) (h : NoRise m s.lanes.duties) :
      NoRise m ((List.range n).foldl (fun s _ => eccCorrected l (icuRaiseAt l 153 s)) s).lanes.duties :=
    foldl_noRise h (fun s _ => by simp) _
  split
  · exact h
  · split <;> simp [fixed, h]

@[simp] theorem sumpRead_noRise (l : Lane) (c : Core) (q : Nat) (pair : Bool) :
    NoRise m (sumpRead l c q pair s).lanes.duties := by
  unfold sumpRead
  dsimp only
  split <;> simp [h]

@[simp] theorem sumpPeek_noRise (l : Lane) (c : Core) (q : Nat) : NoRise m (sumpPeek l c q s).lanes.duties := by
  unfold sumpPeek
  dsimp only
  split <;> simp [h]

@[simp] theorem sumpRegRead_noRise (l : Lane) (c : Core) (off : Nat) :
    NoRise m (sumpRegRead l c off s).lanes.duties := by
  simp [sumpRegRead, h]

@[simp] theorem wdataWrite_noRise (l : Lane) (c : Core) (q : Nat) (v : Word32) :
    NoRise m (wdataWrite l c q v s).lanes.duties := by
  unfold wdataWrite
  dsimp only
  repeat' split
  all_goals simp [h]

@[simp] theorem sumpRegWrite_noRise (l : Lane) (c : Core) (off v : Nat) :
    NoRise m (sumpRegWrite l c off v s).lanes.duties := by
  unfold sumpRegWrite
  dsimp only
  repeat' split
  all_goals simp [h]

@[simp] theorem unstall_noRise (l : Lane) (q : Nat) : NoRise m (unstall l q s).lanes.duties := by
  unfold unstall
  split <;> simp [h]

@[simp] theorem localTrip_noRise (l : Lane) (n : Nat) : NoRise m (localTrip l n s).lanes.duties := by
  unfold localTrip
  dsimp only
  split <;> simp [h]

@[simp] theorem voidSwitch_noRise (w : Switch) : NoRise m (voidSwitch w s).lanes.duties := by
  simp [voidSwitch, h]
@[simp] theorem parityScan_noRise (l : Lane) (ok : Bool) : NoRise m (parityScan l ok s).lanes.duties := by
  simp [parityScan, h]

@[simp] theorem regRead_noRise (l : Lane) (c : Core) (a : Nat) : NoRise m (regRead l c a s).lanes.duties := by
  simp only [regRead, ite_duties, busErr_duties, giveReg_duties, mramRead_duties, flashRead_duties, lcbRead_duties,
    icuRead_duties, giveOr_duties, semTake_duties, noRise_ite, sumpRegRead_noRise h, h, ite_self]

@[simp] theorem execute_noRise {op : State → Answer} (ho : ∀ s, NoRise s.lanes.duties (op s).1.lanes.duties) (sid : Nat)
    (hd : Hdr) :
    NoRise m (execute sid hd op s).lanes.duties := by
  have := h.trans (ho s)
  unfold execute
  split <;> simp [h, this]

@[simp] theorem request_noRise {op : Nat → Session → State → Answer} (ho : ∀ sid x s, NoRise s.lanes.duties
    (op sid x s).1.lanes.duties)
    (typ : Nat) (nb : Bool) (hd : Hdr) : NoRise m (request typ nb hd op s).lanes.duties := by
  unfold request
  dsimp only
  repeat' split
  all_goals simp [h, ho]

@[simp] theorem execCmd_noRise {eff : Nat → Session → State → Answer} (he : ∀ sid x s, NoRise s.lanes.duties
    (eff sid x s).1.lanes.duties)
    (obj : Nat) (cols : List ColKind) (hd : Hdr) (args : List TVal) :
      NoRise m (execCmd obj cols hd args eff s).lanes.duties := by
  refine request_noRise h (fun sid x s => ?_) ..
  split <;> simp [he]

@[simp] theorem execNode_noRise (obj : Nat) (extra : List ColKind) (hd : Hdr) (args : List TVal)
    (vals : State → Nat → Option Reply)
    (load : State → Load) : NoRise m (execNode obj extra hd args vals load s).lanes.duties := by
  refine request_noRise h (fun sid x s => ?_) ..
  dsimp only
  split
  · simp
  · split
    · simp
    · split
      · simp
      · split
        · simp
        · split
          all_goals
            next hd =>
              have kept := (congrArg (fun x : State × (Reply ⊕ Nat) => x.1.lanes.duties) hd).symm.trans
                (decideAdmission_duties ..)
              simp [kept]

@[simp] theorem execNodeCmd_noRise (obj : Nat) (c : NodeCmd) (hd : Hdr) (args : List TVal) :
    NoRise m (execNodeCmd obj c hd args s).lanes.duties := execNode_noRise h ..
end

@[simp] theorem evalSwitchover_duties (s : State) : (evalSwitchover s).1.lanes.duties = s.lanes.duties := by
  unfold evalSwitchover
  split
  · rfl
  · split <;> rfl

/-- In the next state that a command answers no lane is active that was not. -/
def Rests (s : State) (o : Host.Outcome State Fault Refusal) : Prop :=
  ∀ u, o = .next u → NoRise s.lanes.duties u.lanes.duties

@[simp] theorem rests_done (s s0 v : State) : Rests s (done s0 v) ↔ NoRise s.lanes.duties v.lanes.duties := by
  constructor
  · intro h
    have := h _ rfl
    rwa [done_duties rfl] at this
  · intro h u hu
    rwa [done_duties hu]

@[simp] theorem rests_fault (s : State) (r : Fault) : Rests s (.fault r) := by
  simp [Rests]

@[simp] theorem rests_ite (s : State) {c : Prop} [Decidable c] (x y : Host.Outcome State Fault Refusal) :
    Rests s (if c then x else y) ↔ if c then Rests s x else Rests s y := by
  split <;> rfl

theorem Rests.ite {s : State} {c : Prop} [Decidable c] {x y : Host.Outcome State Fault Refusal}
    (hx : Rests s x) (hy : Rests s y) : Rests s (if c then x else y) := by
  split <;> assumption

theorem streamTake_noRise {m : Pair Duty} {eff : State → State} {s : State}
    (h : NoRise m s.lanes.duties)
    (he : ∀ s, NoRise s.lanes.duties (eff s).lanes.duties) (styp : Nat) (hd : StreamHdr) (body : Bytes) :
    NoRise m (streamTake styp hd body eff s).lanes.duties := by
  have := h.trans (he s)
  unfold streamTake
  repeat' split
  all_goals simp [h, this]

section
variable {t : Nat} {s : State}

theorem rests_request {typ : Nat} {nb : Bool} {h : Hdr} {op : Nat → Session → State → Answer}
    (ho : ∀ sid x s, NoRise s.lanes.duties (op sid x s).1.lanes.duties) :
      Rests s (done (tick t s) (request typ nb h op (tick t s))) :=
  (rests_done ..).2 (request_noRise (by simp) ho ..)

theorem rests_execCmd {obj : Nat} {cols : List ColKind} {h : Hdr} {args : List TVal} {eff : Nat → Session → State → Answer}
    (he : ∀ sid x s, NoRise s.lanes.duties (eff sid x s).1.lanes.duties) :
    Rests s (done (tick t s) (execCmd obj cols h args eff (tick t s))) :=
  (rests_done ..).2 (execCmd_noRise (by simp) he ..)

theorem rests_streamTake {styp : Nat} {h : StreamHdr} {body : Bytes} {eff : State → State}
    (he : ∀ s, NoRise s.lanes.duties (eff s).lanes.duties) :
      Rests s (done (tick t s) (streamTake styp h body eff (tick t s))) :=
  (rests_done ..).2 (streamTake_noRise (by simp) he ..)

end

@[simp] theorem vaultCmd_rests (op : VaultOp) (t : Nat) (l : Lane) (c : Core) (s : State) :
    Rests s (vaultCmd op t l c s) := by
  simp [vaultCmd]

end Sys2Proof.Machine
end

section
/-!
PROOFS. The commands that branch before they act and make no lane active.
-/
namespace Sys2Proof.Machine

open Sys2Proof.Safety

@[simp] theorem execDeadlineInstant_rests (t ticket : Nat) (s : State) :
    Rests s (execDeadlineInstant t ticket s) := by
  unfold execDeadlineInstant; dsimp only; split <;> simp

@[simp] theorem execGourGrant_rests (t : Nat) (l : Lane) (a : Fin 23) (s : State) :
    Rests s (execGourGrant t l a s) := by
  unfold execGourGrant; dsimp only; split <;> simp

@[simp] theorem execGourWithdraw_rests (t : Nat) (l : Lane) (a : Fin 23) (r : Fin 16) (slotQueued : Bool) (s : State) :
    Rests s (execGourWithdraw t l a r slotQueued s) := by
  unfold execGourWithdraw; dsimp only; split <;> simp

@[simp] theorem execBusWatchdogAbort_rests (t : Nat) (l : Lane) (c : Core) (s : State) :
    Rests s (execBusWatchdogAbort t l c s) := by
  unfold execBusWatchdogAbort; dsimp only; split <;> simp

@[simp] theorem execSlotPosition_rests (t : Nat) (x : Fin 4) (s : State) : Rests s (execSlotPosition t x s) := by
  unfold execSlotPosition
  dsimp only
  repeat' split
  all_goals simp

@[simp] theorem execAckField_rests (t : Nat) (x : Fin 4) (codes : List CodeObs) (s : State) :
    Rests s (execAckField t x codes s) := by
  unfold execAckField; dsimp only; split <;> simp

@[simp] theorem execShockTimeout_rests (t node : Nat) (s : State) : Rests s (execShockTimeout t node s) := by
  unfold execShockTimeout; dsimp only; split <;> simp

@[simp] theorem execSuperframeBoundary_rests (t : Nat) (s : State) : Rests s (execSuperframeBoundary t s) := by
  unfold execSuperframeBoundary
  dsimp only
  repeat' split
  all_goals simp

@[simp] theorem execSupervisionExpiry_rests (t node : Nat) (s : State) :
    Rests s (execSupervisionExpiry t node s) := by
  unfold execSupervisionExpiry; dsimp only; split <;> simp

@[simp] theorem execEventBurst_rests (t : Nat) (b : Burst) (s : State) : Rests s (execEventBurst t b s) := by
  unfold execEventBurst
  dsimp only
  repeat' split
  all_goals simp

@[simp] theorem execJoinSig_rests (t : Nat) (x : Fin 4) (eui nonce : Bytes) (a : Nat) (sigOk : Bool) (s : State) :
    Rests s (execJoinSig t x eui nonce a sigOk s) := by
  unfold execJoinSig
  dsimp only
  repeat' split
  all_goals simp

@[simp] theorem execCancelledPayloadEnd_rests (t : Nat) (s : State) : Rests s (execCancelledPayloadEnd t s) := by
  unfold execCancelledPayloadEnd; dsimp only; split <;> simp

@[simp] theorem execOrderTag_rests (t seq source hash : Nat) (s : State) :
    Rests s (execOrderTag t seq source hash s) := by
  unfold execOrderTag; dsimp only; split <;> simp

@[simp] theorem execOrphanTimeout_rests (t hash : Nat) (s : State) : Rests s (execOrphanTimeout t hash s) := by
  unfold execOrphanTimeout; dsimp only; split <;> simp

@[simp] theorem execComparisonRecord_rests (t : Nat) (l : Lane) (seq kind hash : Nat) (s : State) :
    Rests s (execComparisonRecord t l seq kind hash s) := by
  unfold execComparisonRecord
  dsimp only
  repeat' split
  all_goals simp

@[simp] theorem execOutputReleaseTimeout_rests (t seq : Nat) (s : State) :
    Rests s (execOutputReleaseTimeout t seq s) := by
  unfold execOutputReleaseTimeout; dsimp only; split <;> simp

@[simp] theorem execLagDetect_rests (t : Nat) (s : State) : Rests s (execLagDetect t s) := by
  unfold execLagDetect; dsimp only; split <;> simp

@[simp] theorem execSelfCheckDone_rests (t : Nat) (condemnA condemnB : Bool) (s : State) :
    Rests s (execSelfCheckDone t condemnA condemnB s) := by
  unfold execSelfCheckDone; dsimp only; split <;> simp

@[simp] theorem execSwitchover_rests (t : Nat) (h : Hdr) (args : List TVal) (s : State) :
    Rests s (execSwitchover t h args s) := by
  refine rests_execCmd (fun _ _ _ => ?_)
  dsimp only
  repeat' split
  all_goals simp

@[simp] theorem execRestartStandby_rests (t : Nat) (h : Hdr) (args : List TVal) (s : State) :
    Rests s (execRestartStandby t h args s) := by
  refine rests_execCmd (fun _ _ _ => ?_)
  repeat' split
  all_goals simp

@[simp] theorem execResync_rests (t : Nat) (h : Hdr) (args : List TVal) (s : State) :
    Rests s (execResync t h args s) := by
  refine rests_execCmd (fun _ _ _ => ?_)
  repeat' split
  all_goals simp

@[simp] theorem execVaultOpDone_rests (t : Nat) (l : Lane) (checkOk : Bool) (s : State) :
    Rests s (execVaultOpDone t l checkOk s) := by
  unfold execVaultOpDone; dsimp only; split <;> simp

@[simp] theorem execEncSuspend_rests (t : Nat) (h : Hdr) (args : List TVal) (s : State) :
    Rests s (execEncSuspend t h args s) := by
  refine rests_execCmd (fun _ _ _ => ?_)
  dsimp only
  repeat' split
  all_goals simp

@[simp] theorem execEncSuspendExpiry_rests (t : Nat) (s : State) : Rests s (execEncSuspendExpiry t s) := by
  unfold execEncSuspendExpiry; dsimp only; split <;> simp
@[simp] theorem execClaimLockoutExpiry_rests (t : Nat) (s : State) : Rests s (execClaimLockoutExpiry t s) := by
  unfold execClaimLockoutExpiry; dsimp only; split <;> simp
@[simp] theorem execVbdDip_rests (t : Nat) (s : State) : Rests s (execVbdDip t s) := by
  unfold execVbdDip; dsimp only; split <;> simp

@[simp] theorem execKeepTimeExpiry_rests (t : Nat) (below16 : Bool) (s : State) :
    Rests s (execKeepTimeExpiry t below16 s) := by
  unfold execKeepTimeExpiry; dsimp only; split <;> simp

@[simp] theorem execOutputGapEnd_rests (t : Nat) (k : Fin 4) (s : State) : Rests s (execOutputGapEnd t k s) := by
  unfold execOutputGapEnd; dsimp only; split <;> simp

@[simp] theorem execStreamData_rests (t : Nat) (h : StreamHdr) (data : Bytes) (s : State) :
    Rests s (execStreamData t h data s) := by
  refine rests_streamTake (fun s => ?_)
  dsimp only
  repeat' split
  all_goals simp

@[simp] theorem execStreamAbort_rests (t : Nat) (h : StreamHdr) (s : State) : Rests s (execStreamAbort t h s) := by
  refine rests_streamTake (fun s => ?_)
  split <;> simp

@[simp] theorem execStreamTimeout_rests (t : Nat) (row : Fin 3) (s : State) :
    Rests s (execStreamTimeout t row s) := by
  unfold execStreamTimeout; dsimp only; split <;> simp

@[simp] theorem execBankProgramDone_rests (t : Nat) (l : Lane) (s : State) :
    Rests s (execBankProgramDone t l s) := by
  unfold execBankProgramDone
  dsimp only
  repeat' split
  all_goals simp

@[simp] theorem execFwActivate_rests (t : Nat) (h : Hdr) (args : List TVal) (s : State) :
    Rests s (execFwActivate t h args s) := by
  refine rests_execCmd (fun _ _ _ => ?_)
  dsimp only
  repeat' split
  all_goals simp

@[simp] theorem execFwCommitApply_rests (t : Nat) (s : State) : Rests s (execFwCommitApply t s) := by
  unfold execFwCommitApply; dsimp only; split <;> simp

@[simp] theorem execFlowstoneTick_rests (t : Nat) (s : State) : Rests s (execFlowstoneTick t s) := by
  have raised (l : Lane) (n k : Nat) (s : State) :
      ((List.range n).foldl (fun s _ => icuRaiseAt l k s) s).lanes.duties = s.lanes.duties := by simp
  have ticked (l : Lane) (g : State → Nat → Engine × Nat) (s : State) : ((List.range 8).foldl (fun s e =>
      (List.range (g s e).2).foldl (fun s _ => icuRaiseAt l (104 + e) s) (updEng l e (fun _ => (g s e).1) s)) s).lanes.duties
        =
      s.lanes.duties := foldl_duties (fun s e => by simp) _ _
  simp [execFlowstoneTick, ticked]

@[simp] theorem execLedRetest_rests (t : Nat) (h : Hdr) (args : List TVal) (s : State) :
    Rests s (execLedRetest t h args s) := by
  refine rests_execCmd (fun _ _ _ => ?_)
  dsimp only
  simp

@[simp] theorem execLedRetestEnd_rests (t : Nat) (k : Fin 4) (s : State) : Rests s (execLedRetestEnd t k s) := by
  unfold execLedRetestEnd; dsimp only; split <;> simp

@[simp] theorem execZeroCrossing_rests (t : Nat) (c : Crossing) (s : State) :
    Rests s (execZeroCrossing t c s) := by
  unfold execZeroCrossing; dsimp only; split <;> simp

@[simp] theorem execCalMeasure_rests (t : Nat) (h : Hdr) (args : List TVal) (s : State) :
    Rests s (execCalMeasure t h args s) := by
  refine rests_request (fun _ _ _ => ?_)
  dsimp only
  repeat' split
  all_goals simp

@[simp] theorem execCalMeasureDone_rests (t v i : Nat) (angle : Int) (freq : Nat) (voff ioff : Int) (s : State) :
    Rests s (execCalMeasureDone t v i angle freq voff ioff s) := by
  unfold execCalMeasureDone
  dsimp only
  repeat' split
  all_goals simp

@[simp] theorem execRecordWrite_rests (t : Nat) (s : State) : Rests s (execRecordWrite t s) := by
  unfold execRecordWrite; dsimp only; split <;> simp

@[simp] theorem execRecRead_rests (t : Nat) (h : Hdr) (args : List TVal) (s : State) :
    Rests s (execRecRead t h args s) := by
  refine rests_execCmd (fun _ _ _ => ?_)
  simp

@[simp] theorem execSliceTick_rests (t : Nat) (s : State) : Rests s (execSliceTick t s) := by
  unfold execSliceTick
  dsimp only
  repeat' split
  all_goals simp

@[simp] theorem execSliceRestore_rests (t : Nat) (obs : SliceObs) (readback1 readback2 : Bool) (s : State) :
    Rests s (execSliceRestore t obs readback1 readback2 s) := by
  unfold execSliceRestore; dsimp only; split <;> simp

@[simp] theorem execSweepEnd_rests (t : Nat) (s : State) : Rests s (execSweepEnd t s) := by
  unfold execSweepEnd; dsimp only; split <;> simp

@[simp] theorem execPresenceEventIngest_rests (t : Nat) (s : State) : Rests s (execPresenceEventIngest t s) := by
  unfold execPresenceEventIngest
  dsimp only
  split
  · simp
  · refine .ite (by simp) (.ite (by simp) (.ite (.ite (by simp) (.ite (by simp) (.ite (by simp) ?_))) (by simp)))
    rw [rests_done, trkBatch_duties]
    split <;> simp

@[simp] theorem execHandoffRetry_rests (t hseq : Nat) (s : State) : Rests s (execHandoffRetry t hseq s) := by
  unfold execHandoffRetry
  dsimp only
  repeat' split
  all_goals simp

@[simp] theorem execHandoff_rests (t : Nat) (m : HandoffMsg) (s : State) : Rests s (execHandoff t m s) := by
  unfold execHandoff
  dsimp only
  split
  · simp
  · split
    · simp
    · split
      · simp
      · split
        all_goals
          next merged =>
            have kept := (congrArg (fun x : State × Option Nat => x.1.lanes.duties) merged).symm.trans (mergeTrack_duties ..)
            simp [kept]

@[simp] theorem execHandoffAck_rests (t source hseq z3 status : Nat) (s : State) :
    Rests s (execHandoffAck t source hseq z3 status s) := by
  unfold execHandoffAck
  dsimp only
  repeat' split
  all_goals simp

@[simp] theorem execBoundaryList_rests (t source part parts : Nat) (entries : List (Nat × Nat × Nat)) (s : State) :
    Rests s (execBoundaryList t source part parts entries s) := by
  unfold execBoundaryList; dsimp only; split <;> simp

@[simp] theorem execBoundaryUnmatchedTimeout_rests (t vertex : Nat) (s : State) :
    Rests s (execBoundaryUnmatchedTimeout t vertex s) := by
  unfold execBoundaryUnmatchedTimeout
  dsimp only
  repeat' split
  all_goals simp

@[simp] theorem execSetup_rests (t : Nat) (h : Hdr) (client : Bytes) (idle : Nat) (s : State) :
    Rests s (execSetup t h client idle s) := by
  unfold execSetup
  dsimp only
  repeat' split
  all_goals simp

@[simp] theorem execClose_rests (t : Nat) (h : Hdr) (s : State) : Rests s (execClose t h s) := by
  refine rests_request (fun _ _ _ => ?_)
  repeat' split
  all_goals simp

@[simp] theorem execCloseSession_rests (t : Nat) (h : Hdr) (args : List TVal) (s : State) :
    Rests s (execCloseSession t h args s) := by
  refine rests_execCmd (fun _ _ _ => ?_)
  repeat' split
  all_goals simp

@[simp] theorem execSessionIdleTimeout_rests (t sid : Nat) (s : State) :
    Rests s (execSessionIdleTimeout t sid s) := by
  unfold execSessionIdleTimeout; dsimp only; split <;> simp

@[simp] theorem execSubscribe_rests (t : Nat) (h : Hdr) (subId mode minSev interval : Nat) (s : State) :
    Rests s (execSubscribe t h subId mode minSev interval s) := by
  refine rests_request (fun _ _ _ => ?_)
  repeat' split
  all_goals simp

@[simp] theorem execSubIntervalExpiry_rests (t sub : Nat) (s : State) :
    Rests s (execSubIntervalExpiry t sub s) := by
  unfold execSubIntervalExpiry; dsimp only; split <;> simp

@[simp] theorem execSubPeriodExpiry_rests (t sub : Nat) (s : State) : Rests s (execSubPeriodExpiry t sub s) := by
  unfold execSubPeriodExpiry; dsimp only; split <;> simp

@[simp] theorem execAck_rests (t : Nat) (h : Hdr) (compSeq : Nat) (s : State) :
    Rests s (execAck t h compSeq s) := by
  unfold execAck
  dsimp only
  repeat' split
  all_goals simp

@[simp] theorem execCompletionResend_rests (t comp : Nat) (s : State) :
    Rests s (execCompletionResend t comp s) := by
  unfold execCompletionResend
  dsimp only
  repeat' split
  all_goals simp

@[simp] theorem execHeldCompletionSend_rests (t sid : Nat) (s : State) :
    Rests s (execHeldCompletionSend t sid s) := by
  unfold execHeldCompletionSend; dsimp only; split <;> simp

@[simp] theorem execCompletionHoldExpiry_rests (t comp : Nat) (s : State) :
    Rests s (execCompletionHoldExpiry t comp s) := by
  unfold execCompletionHoldExpiry; dsimp only; split <;> simp

@[simp] theorem execTicketResult_rests (t : Nat) (h : Hdr) (args : List TVal) (s : State) :
    Rests s (execTicketResult t h args s) := by
  refine rests_execCmd (fun _ _ _ => ?_)
  repeat' split
  all_goals simp

@[simp] theorem execDescribe_rests (t : Nat) (h : Hdr) (args : List TVal) (s : State) :
    Rests s (execDescribe t h args s) := by
  refine rests_execCmd (fun _ _ _ => ?_)
  repeat' split
  all_goals simp

@[simp] theorem execWrite_rests (t : Nat) (h : Hdr) (tag : Nat) (rows : List (Nat × Row)) (s : State) :
    Rests s (execWrite t h tag rows s) := by
  refine rests_request (fun _ _ _ => ?_)
  repeat' split
  all_goals simp

@[simp] theorem execSeqOpen_rests (t : Nat) (h : Hdr) (mask lease : Nat) (s : State) :
    Rests s (execSeqOpen t h mask lease s) := by
  refine rests_request (fun _ _ _ => ?_)
  dsimp only
  repeat' split
  all_goals simp

@[simp] theorem execSeqCommit_rests (t : Nat) (h : Hdr) (s : State) : Rests s (execSeqCommit t h s) := by
  refine rests_request (fun _ _ _ => ?_)
  repeat' split
  all_goals simp

@[simp] theorem execSeqAbort_rests (t : Nat) (h : Hdr) (s : State) : Rests s (execSeqAbort t h s) := by
  refine rests_request (fun _ _ _ => ?_)
  dsimp only
  repeat' split
  all_goals simp

@[simp] theorem execLeaseExpiry_rests (t hd : Nat) (s : State) : Rests s (execLeaseExpiry t hd s) := by
  unfold execLeaseExpiry; dsimp only; split <;> simp

@[simp] theorem execBreakLock_rests (t : Nat) (h : Hdr) (args : List TVal) (s : State) :
    Rests s (execBreakLock t h args s) := by
  refine rests_execCmd (fun _ _ _ => ?_)
  dsimp only
  repeat' split
  all_goals simp

@[simp] theorem execRestoreDefaults_rests (t : Nat) (h : Hdr) (args : List TVal) (s : State) :
    Rests s (execRestoreDefaults t h args s) := by
  refine rests_execCmd (fun _ _ _ => ?_)
  dsimp only
  repeat' split
  all_goals simp

@[simp] theorem execAsnConflictTimeout_rests (t : Nat) (s : State) : Rests s (execAsnConflictTimeout t s) := by
  unfold execAsnConflictTimeout; dsimp only; split <;> simp
@[simp] theorem execTimeStep_rests (t : Nat) (s : State) : Rests s (execTimeStep t s) := by
  unfold execTimeStep; dsimp only; split <;> simp
@[simp] theorem execSlewComplete_rests (t : Nat) (s : State) : Rests s (execSlewComplete t s) := by
  unfold execSlewComplete; dsimp only; split <;> simp

@[simp] theorem execHello_rests (t : Nat) (p : Fin 2) (m : HelloMsg) (s : State) :
    Rests s (execHello t p m s) := by
  unfold execHello; split <;> simp

@[simp] theorem execPassThrough_rests (t : Nat) (p : Fin 2) (f : TrunkFrame) (s : State) :
    Rests s (execPassThrough t p f s) := by
  unfold execPassThrough
  dsimp only
  repeat' split
  all_goals simp

@[simp] theorem execTopo_rests (t : Nat) (p : Fin 2) (m : TopoMsg) (s : State) : Rests s (execTopo t p m s) := by
  unfold execTopo
  dsimp only
  repeat' split
  all_goals simp

@[simp] theorem execTopoDeferredAdopt_rests (t : Nat) (s : State) : Rests s (execTopoDeferredAdopt t s) := by
  unfold execTopoDeferredAdopt; dsimp only; split <;> simp
@[simp] theorem execTopoFlood_rests (t : Nat) (s : State) : Rests s (execTopoFlood t s) := by
  unfold execTopoFlood; dsimp only; split <;> simp

@[simp] theorem execIbierFrame_rests (t : Nat) (way : Way) (rhVersion module tclass reserved size : Nat) (s : State) :
    Rests s (execIbierFrame t way rhVersion module tclass reserved size s) := by
  unfold execIbierFrame
  dsimp only
  repeat' split
  all_goals simp

@[simp] theorem execMemberSilentTimeout_rests (t module : Nat) (s : State) :
    Rests s (execMemberSilentTimeout t module s) := by
  unfold execMemberSilentTimeout; dsimp only; split <;> simp

@[simp] theorem execHandoverApply_rests (t : Nat) (s : State) : Rests s (execHandoverApply t s) := by
  unfold execHandoverApply; dsimp only; split <;> simp

@[simp] theorem execPor_rests (t : Nat) (canaryOk parityA parityB : Bool) (s : State) :
    Rests s (execPor t canaryOk parityA parityB s) := by
  unfold execPor
  dsimp only
  split
  · simp
  · refine (rests_done ..).2 (parityScan_noRise (parityScan_noRise ?_ _ _) _ _)
    simp

@[simp] theorem execStreamEnd_rests (t : Nat) (h : StreamHdr) (sigOk : Bool) (policyKey : Bytes) (s : State) :
    Rests s (execStreamEnd t h sigOk policyKey s) := by
  refine rests_streamTake (fun s => ?_)
  dsimp only
  repeat' split
  all_goals simp

end Sys2Proof.Machine
end

section
/-!
PROOFS. The stores, and every command but the three that make a lane active.
-/
namespace Sys2Proof.Machine

open Sys2Proof.Safety

@[simp] theorem putMem_duties (l : Lane) (addr : Nat) (b : Bytes) (s : State) :
    (putMem l addr b s).lanes.duties = s.lanes.duties := by
  simp [putMem]
@[simp] theorem compPop_duties (l : Lane) (c : Core) (s : State) : (compPop l c s).lanes.duties = s.lanes.duties := by
  unfold compPop
  dsimp only
  repeat' split
  all_goals simp
@[simp] theorem portWrite_duties (l : Lane) (c : Core) (off v : Nat) (s : State) :
    (portWrite l c off v s).lanes.duties = s.lanes.duties := by
  simp [portWrite]
@[simp] theorem writeSlot_duties (l : Lane) (g : SaveSlot) (s : State) :
    (writeSlot l g s).lanes.duties = s.lanes.duties := by
  simp [writeSlot]
@[simp] theorem saveSlot_duties (final : Bool) (s : State) : (saveSlot final s).lanes.duties = s.lanes.duties := by
  simp [saveSlot]
@[simp] theorem bootSave_duties (l : Lane) (s : State) : (bootSave l s).lanes.duties = s.lanes.duties := by
  simp [bootSave]
@[simp] theorem finalSave_duties (a b : Samples) (s : State) : (finalSave a b s).lanes.duties = s.lanes.duties := by
  simp [finalSave]

theorem NoRise.ite {m : Pair Duty} {c : Prop} [Decidable c] {x y : State} (hx : NoRise m x.lanes.duties)
    (hy : NoRise m y.lanes.duties) : NoRise m (if c then x else y).lanes.duties := by
  split <;> assumption

theorem regWrite_noRise {m : Pair Duty} {s : State} (h : NoRise m s.lanes.duties) (l : Lane) (c : Core) (a : Nat)
    (w : Word32) : NoRise m (regWrite l c a w s).lanes.duties := by
  unfold regWrite
  dsimp only
  with_reducible repeat' apply NoRise.ite
  all_goals try split
  all_goals with_reducible repeat' apply NoRise.ite
  all_goals simp [h]

theorem coreWrite_noRise {m : Pair Duty} {s : State} (h : NoRise m s.lanes.duties) (l : Lane) (c : Core) (a : Nat)
    (w : Word32) : NoRise m (coreWrite l c a w s).lanes.duties := by
  have own := regWrite_noRise h l c a w
  unfold coreWrite
  extract_lets same again
  have later (n : Nat) {u : State} (hu : NoRise m u.lanes.duties) : NoRise m (again n u).lanes.duties := by
    simp only [again]
    split
    · exact .ite (regWrite_noRise hu ..) hu
    · exact hu
  have all := later 5 (later 4 (later 3 (later 2 (later 1 own))))
  refine .ite (.ite all ?_) own
  exact upd_noRise (by exact fun _ => id) all l

@[simp] theorem execRegisterWrite_rests (t : Nat) (l : Lane) (c : Core) (a : Nat) (w : Word32) (s : State) :
    Rests s (execRegisterWrite t l c a w s) := by
  simp [execRegisterWrite, coreWrite_noRise]

@[simp] theorem execHistCopyDone_rests (t : Nat) (p : LaneCore) (s : State) : Rests s (execHistCopyDone t p s) := by
  unfold execHistCopyDone
  dsimp only
  repeat' split
  all_goals simp

@[simp] theorem execStateTransferDone_rests (t : Nat) (l : Lane) (s : State) :
    Rests s (execStateTransferDone t l s) := by
  have moved : NoRise s.lanes.duties (transferred l (tick t s)).lanes.duties := by simp
  rw [execStateTransferDone_eq]
  refine (rests_done ..).2 (.ite (.ite ?_ ?_) (by simp))
  · simp [comparing]
  · refine stayLagging_noRise ?_ l .layout
    rwa [settleLayout_duties]

@[simp] theorem execClassApply_rests (t : Nat) (z : Fin 256) (s : State) : Rests s (execClassApply t z s) := by
  refine (rests_done ..).2 (.ite (by simp) ?_)
  dsimp only
  repeat' split
  all_goals simp

/-- Every command but the three that give a lane the role ACTIVE leaves every lane that is not active so. -/
theorem exec_rests {c : Instr} (take : ∀ t, c ≠ .switchoverTakeEffect t) (agree : ∀ t, c ≠ .lanesAgree t)
    (alone : ∀ t l, c ≠ .agreementTimeout t l) (s : State) : Rests s (exec c s) := by
  cases c
  case switchoverTakeEffect t => exact absurd rfl (take t)
  case lanesAgree t => exact absurd rfl (agree t)
  case agreementTimeout t l => exact absurd rfl (alone t l)
  all_goals simp [exec, execLightSet, execLightResume, execNodeFunc, execSubGo, execSelectClass, execHistCopy,
    execIcuSourceEvent, execIcuClaim, execIcuComplete, execEnableSet, execEnableClr, execSgiSet, execIcuStuckTimeout,
    execCoreReset, execLaneReset, execStopEntry, execWakeEdge, execSemaphoreAcquire, execSemaphoreRelease, execTimeLoRead,
    execPendingRead, execGourWindowStart, execGourRequest, execGourRefillWrite, execSumpFlush, execSumpDataRead,
    execSumpWdataWrite, execSumpWordArrival, execSlotCommandLate, execBlankDecision, execEchoInsert, execPathSwap,
    execPathSwapBack, execJoinKey, execJoinPendingExpiry, execApproveJoin, execRemoveNode, execEpochOpen, execEpochStage,
    execEpochArm, execEpochAbandon, execEpochPreswitchCheck, execEpochSwitch, execEpochVerifyTimeout, execImageDiscard,
    execImageBlock, execInputArrival, execForwardedInput, execEccError, execLaneWatchdogExpiry, execCoreCheckerFire,
    execResyncRequest, execResyncCompareEnd, execLaneBridgeLinkFail, execLaneBridgeLinkUp, execLaneStartReport,
    execUnitTest, execDerive, execLoadSlot, execSign, execVerify, execEcdh, execAeadSeal, execAeadOpen, execHmac,
    execWrapExport, execUnwrapImport, execRootCopy, execTamperTrip, execLaneLocalTrip, execSleepTrip, execCommission,
    execEscrowExport, execTrunkKeyInstall, execReturnToStock, execFactoryRootsInstall, execCellLoadTest, execCellRemoval,
    execCellReplaced, execCellTest, execVbdRecovery, execCoilSupplyLoss, execCoilSupplyReturn, execLedSupplyFail,
    execKeepaliveFail, execInputRange, execBaseplateHot, execBaseplateCool, execOutputSet, execOutputTrip, execDiEdge,
    execStreamOpen, execTrialConfirm, execFwCommit, execBankErase, execLedPeriodBoundary, execSafeLightTimeout,
    execLedControlTick, execPadSensorStuck, execHwOvertempCut, execHwOvertempRelease, execBypassClamp,
    execStringCurrentFault, execFlsStart, execFlsStop, execFlsTrigger, execFlsCtrlStart, execFlsCtrlStop, execFlsTrigSet,
    execFlsProgWrite, execZcTimeout, execMeasurementPeriodEnd, execBattMetStart, execBattWindow, execBattBudgetSpent,
    execBattMetRenew, execRecordSubmit, execRecorderNoticeWindowEnd, execSummaryIntervalEnd, execBusErrorRead, execStSweep,
    execTentativeTimeout, execCoastStart, execCoastLimitExpiry, execHandedEnd, execEndedRelease, execMidpointRefresh,
    execHistoryHourEnd, execTurnsWeekEnd, execClassHoldExpiry, execAdaptiveClassChange, execHistClear,
    execReturnModule, execDtlsHandshake, execDatagramDrop, execDtlsTeardown, execRead, execCommitApply, execPtpSync,
    execPtpSyncSend, execPdelayExchange, execSyncMiss, execAsnSlewDone, execRtcRealign, execRtcCompensation,
    execPtpTrimUpdate, execMainsTrimWindow, execOscStopDetect, execTimeSet, execLeapInstant, execAlarmFire, execSfpInsert,
    execAutonegDone, execAutonegTimeout, execHelloRetry, execTamperHello, execOffer, execAccept, execLinkDown, execCredit,
    execCreditSend, execDcredit, execDcreditSend, execLinkReport, execLinkReportPeriodic, execBreakMsg, execStatus,
    execStatusSend, execPauseFrame, execMasterHandover, execPortRestart, execAliveLoss,
    execRecommission, execScrap, execBrownoutRecovery, execVStop, execFwRestartAll, execSurvey,
    execSurveySnap, execSnapshot, execSurveyRec, execSurveyMemberTimeout, execPeriodicSave, execFinalSaveRepeat,
    execPowerFailWarning, execCompPop]

end Sys2Proof.Machine
end

section
/-!
PROOFS. The commands that make a lane active (R281, R292), and the settlement of O4 and O7.
-/
namespace Sys2Proof.Machine

open Sys2Proof.Safety

/-! ### What an operation makes of a lane's duty -/

/-- A lane that restarts has no role and no report; its units stand as they did (R295, R299). -/
def Duty.restarted (d : Duty) : Duty := { role := .undecided, report := none, units := d.units }

/-- A lane that takes the role it starts with has no report left (R281). -/
def Duty.started (r : Role) (d : Duty) : Duty := { role := r, report := none, units := d.units }

theorem duty_of_duties {s u : State} (h : u.lanes.duties = s.lanes.duties) (l : Lane) :
    (u.lanes.get l).duty = (s.lanes.get l).duty := by
  rw [← Pair.get_duties, h, Pair.get_duties]

theorem role_of_duties {s u : State} (h : u.lanes.duties = s.lanes.duties) (l : Lane) :
    (u.lanes.get l).role = (s.lanes.get l).role := congrArg Duty.role (duty_of_duties h l)

theorem active_of_duties {s u : State} (h : u.lanes.duties = s.lanes.duties) : active u = active s :=
  active_of_roles (role_of_duties h .A) (role_of_duties h .B)

theorem restartLane_duties (l : Lane) (s : State) :
    (restartLane l s).lanes.duties = s.lanes.duties.upd l Duty.restarted := by
  unfold restartLane
  extract_lets s1 rel d s2 s3 lp s4
  have start : s2.lanes.duties = s.lanes.duties := by simp [s2, s1]
  calc (degradedSync (bootSelect l s4)).lanes.duties
      = (updLane l (resetLaneSt s2.clk.fab (time64 s2)) (cwvLaneStop l s2)).lanes.duties := by simp [s4, s3]
    _ = (cwvLaneStop l s2).lanes.duties.upd l Duty.restarted := Pair.duties_upd_eq (fun _ => rfl) l _
    _ = s.lanes.duties.upd l Duty.restarted := by rw [cwvLaneStop_duties, start]

theorem setResync_duties (l : Lane) (s : State) :
    (setResync l s).lanes.duties = s.lanes.duties.upd l (fun d => { d with role := .lagging }) := by
  unfold setResync
  extract_lets s1 auto s2
  have start : s1.lanes.duties = s.lanes.duties := by simp [s1]
  exact (Pair.duties_upd_eq (fun _ => rfl) l s1.lanes).trans (by rw [start])

theorem startRole_duties (l : Lane) (r : Role) (s : State) :
    (startRole l r s).lanes.duties = s.lanes.duties.upd l (Duty.started r) := Pair.duties_upd_eq (fun _ => rfl) l s.lanes

theorem startAlone_duties (l : Lane) (s : State) :
    (startAlone l s).lanes.duties = s.lanes.duties.upd l (Duty.started .active) :=
  (startService_duties ..).trans (startRole_duties ..)

/-! ### At most one active lane -/

theorem oneActive_iff {s : State} : oneActive s = true ↔ ∃ l, (s.lanes.get l).role ≠ .active := by
  simp only [oneActive, Bool.not_eq_true', Bool.and_eq_false_iff, beq_eq_false_iff_ne]
  exact ⟨fun h => h.elim (⟨.A, ·⟩) (⟨.B, ·⟩), fun ⟨l, h⟩ => by cases l <;> simp_all [Pair.get]⟩

theorem NoRise.ne_active {s u : State} (h : NoRise s.lanes.duties u.lanes.duties) {l : Lane}
    (idle : (s.lanes.get l).role ≠ .active) : (u.lanes.get l).role ≠ .active := by
  have := h.active l
  simp only [Pair.get_duties] at this
  exact fun e => idle (this e)

theorem NoRise.oneActive {s u : State} (h : NoRise s.lanes.duties u.lanes.duties) (ok : oneActive s = true) :
    oneActive u = true :=
  let ⟨l, idle⟩ := oneActive_iff.1 ok
  oneActive_iff.2 ⟨l, h.ne_active idle⟩

theorem oneActive_of_duties {s u : State} (h : u.lanes.duties = s.lanes.duties) (ok : oneActive s = true) :
    oneActive u = true := NoRise.oneActive (h ▸ .refl _) ok

theorem role_of_active_none {s : State} (h : active s = none) (l : Lane) : (s.lanes.get l).role ≠ .active := by
  unfold active at h
  split at h
  · cases h
  · split at h
    · cases h
    · cases l <;> assumption

theorem role_of_upd {l : Lane} {f : Duty → Duty} {s u : State} (h : u.lanes.duties = s.lanes.duties.upd l f) :
    (u.lanes.get l).role = (f (s.lanes.get l).duty).role ∧
      (u.lanes.get (otherLane l)).role = (s.lanes.get (otherLane l)).role := by
  have own := congrArg (fun p => (p.get l).role) h
  have other := congrArg (fun p => (p.get (otherLane l)).role) h
  simp only [Pair.get_duties, Pair.get_upd_same, Pair.get_upd_other] at own other
  exact ⟨own, other⟩

/-- What the former active lane becomes, it is not active (R289, R291, R298). -/
theorem oldActive_role (old : Lane) (cause : Nat) (s : State) :
    ((oldActive old cause s).lanes.get old).role ≠ .active := by
  unfold oldActive
  split
  · simp
  · split
    · rw [(role_of_upd (setResync_duties ..)).1]
      exact nofun
    · split
      · rw [(role_of_upd (restartLane_duties ..)).1]
        exact nofun
      · assumption

/-- The lane that takes over is active, owns the outputs and has the held inputs, before the former active lane leaves its
role (R292, R293). -/
def seized (n : Lane) (cause : Nat) (s : State) : State :=
  let s := if cause = 1 then { s with lp := { s.lp with planned := none } } else voidPlanned s
  let s := releaseDiffering s
  let s := if cause = 1 then s else releaseAll s
  let s := updLane n (fun x => { x with role := .active }) s
  { s with lp := { s.lp with
    switch := none, owner := some n, ownerReq := some (n, s.clk.fab), held := [], tags := [], records := both []
    checking := none } }

/-- What a switchover writes once both lanes have their roles (R292, R301). -/
def switchNoted (n : Lane) (cause hf ht : Nat) (s : State) : State :=
  let s := { s with lp := { s.lp with matched := activeSeq s } }
  let s := putN 0xA0018 cause (putN 0xA0017 (time64 s) (ropUp 0xA0012 1 s))
  let s := stickySet 160 cause (switchLog 5 (otherLane n) cause 0 hf ht s)
  let s := if (s.time.rtcs.get n).stopped then updTime (fun x => { x with oscStopped := true }) s else s
  degradedSync (outSync (markSwitch s))

/-- What a switchover starts again: the submissions and requests that waited for it (R292, R298). -/
def tookOver (n : Lane) (cause hf ht : Nat) (s : State) : State :=
  let s := switchNoted n cause hf ht s
  s.lp.asked.foldl answerAsked (resumeGoes n { s with lp := { s.lp with asked := [] } })

theorem takeOver_eq (n : Lane) (cause : Nat) (s : State) : takeOver n cause s =
    tookOver n cause (healthOf s (otherLane n)) (healthOf s n) (oldActive (otherLane n) cause (seized n cause s)) := rfl

theorem tookOver_duties (n : Lane) (cause hf ht : Nat) (s : State) :
    (tookOver n cause hf ht s).lanes.duties = s.lanes.duties := by
  simp [tookOver, switchNoted]

/-- Of the lane that takes over and the former active lane, the latter is not active (R292). -/
theorem takeOver_oneActive (n : Lane) (cause : Nat) (s : State) : oneActive (takeOver n cause s) = true := by
  rw [takeOver_eq]
  exact oneActive_of_duties (tookOver_duties ..) (oneActive_iff.2 ⟨otherLane n, oldActive_role _ _ _⟩)

/-- A lane that starts alone where none is active is the one active lane (R281). -/
theorem startAlone_oneActive {s : State} (none_ : active s = none) (l : Lane) : oneActive (startAlone l s) = true := by
  refine oneActive_iff.2 ⟨otherLane l, ?_⟩
  rw [(role_of_upd (startAlone_duties ..)).2]
  exact role_of_active_none none_ _

/-- The other lane that reported is standby or lagging (R281, R296). -/
theorem startOther_role (o : Lane) (s : State) : ((startOther o s).lanes.get o).role ≠ .active := by
  unfold startOther stayLagging startRole
  repeat' split
  all_goals simp

theorem startOther_oneActive (o : Lane) (s : State) : oneActive (startOther o s) = true :=
  oneActive_iff.2 ⟨o, startOther_role o s⟩

theorem yieldToA_oneActive (s : State) : oneActive (yieldToA s) = true := by
  refine oneActive_iff.2 ⟨.B, ?_⟩
  simp [yieldToA, refuseB, startRole, Pair.get, Pair.upd, Pair.put]

theorem retryOwner_oneActive {s : State} (ok : oneActive s = true) : oneActive (retryOwner s) = true := by
  unfold retryOwner
  split
  · exact ok
  · split
    · exact ok
    · dsimp only
      split
      · next free =>
        simp only [Bool.and_eq_true, Option.isNone_iff_eq_none] at free
        obtain ⟨⟨none_, _⟩, _⟩ := free
        refine startAlone_oneActive ?_ .B
        rw [← none_]
        rfl
      · exact ok

theorem effectSwitch_oneActive {s : State} (w : Switch) (ok : oneActive s = true) : oneActive (effectSwitch w s) = true := by
  unfold effectSwitch
  split
  · exact takeOver_oneActive ..
  · exact (voidSwitch_noRise (.refl _) w).oneActive ok

/-! ### The commands that make a lane active -/

theorem oneActive_of_done {s0 v u : State} (h : done s0 v = .next u) (ok : oneActive v = true) : oneActive u = true :=
  oneActive_of_duties (done_duties h) ok

theorem execSwitchoverTakeEffect_oneActive {t : Nat} {s u : State} (ok : oneActive s = true)
    (h : execSwitchoverTakeEffect t s = .next u) : oneActive u = true := by
  have ok : oneActive (tick t s) = true := ok
  unfold execSwitchoverTakeEffect at h
  dsimp only at h
  split at h
  · split at h
    · exact oneActive_of_done h (effectSwitch_oneActive _ ok)
    · exact oneActive_of_done h ok
  · split at h
    · split at h
      · exact oneActive_of_done h ok
      · split at h
        · exact oneActive_of_done h (takeOver_oneActive ..)
        · exact oneActive_of_done h (oneActive_of_duties (voidPlanned_duties _) ok)
    · exact oneActive_of_done h (retryOwner_oneActive ok)

theorem execLanesAgree_oneActive {t : Nat} {s u : State} (ok : oneActive s = true) (h : execLanesAgree t s = .next u) :
    oneActive u = true := by
  unfold execLanesAgree at h
  dsimp only at h
  split at h
  · exact oneActive_of_done h (oneActive_of_duties (startService_duties ..) (startOther_oneActive ..))
  · exact oneActive_of_done h ok

theorem execAgreementTimeout_oneActive {t : Nat} {l : Lane} {s u : State} (ok : oneActive s = true)
    (h : execAgreementTimeout t l s = .next u) : oneActive u = true := by
  have ok : oneActive (tick t s) = true := ok
  unfold execAgreementTimeout at h
  extract_lets s1 x due at h
  split at h
  · split at h
    · next free =>
      simp only [Bool.and_eq_true, Option.isNone_iff_eq_none] at free
      exact oneActive_of_done h (startAlone_oneActive free.1 l)
    · split at h
      · exact oneActive_of_done h (yieldToA_oneActive _)
      · split at h
        · exact oneActive_of_done h ok
        · exact oneActive_of_done h ok
  · exact oneActive_of_done h ok

theorem exec_oneActive {c : Instr} {s u : State} (ok : oneActive s = true) (h : exec c s = .next u) :
    oneActive u = true := by
  by_cases take : ∃ t, c = .switchoverTakeEffect t
  · obtain ⟨t, rfl⟩ := take
    exact execSwitchoverTakeEffect_oneActive ok h
  by_cases agree : ∃ t, c = .lanesAgree t
  · obtain ⟨t, rfl⟩ := agree
    exact execLanesAgree_oneActive ok h
  by_cases alone : ∃ t l, c = .agreementTimeout t l
  · obtain ⟨t, l, rfl⟩ := alone
    exact execAgreementTimeout_oneActive ok h
  exact (exec_rests (fun t e => take ⟨t, e⟩) (fun t e => agree ⟨t, e⟩) (fun t l e => alone ⟨t, l, e⟩) s u h).oneActive ok

/-- Settles O7: it holds. Only a switchover and the two ends of a start make a lane active, each one lane whose partner is
not active then; every other command leaves a lane that is not active so, by `exec_rests`. -/
theorem oneActiveLane : Obligations.OneActiveLane := by
  unfold Obligations.OneActiveLane
  intro s u ok h
  unfold step at h
  split at h
  · cases h
    exact ok
  · next c rest _ => exact exec_oneActive (s := { s with pending := rest }) ok h

/-- Settles O4: it holds. The reset state has an empty queue and empty memories, and both lanes start from `LaneSt.init`,
without a role. -/
theorem invariantsAtReset : Obligations.InvariantsAtReset := by
  unfold Obligations.InvariantsAtReset
  exact ⟨rfl, rfl, rfl⟩

end Sys2Proof.Machine
end

section
/-!
PROOFS. The course of the lane pair: who owns the outputs, what it checks, which switchover is decided, under the shared
operations that only send, log, record or count.
-/
namespace Sys2Proof.Machine

open Sys2Proof.Safety

/-- The lane pair without its outputs, the records that are compared and a planned switchover. -/
def LanePair.course (p : LanePair) : LanePair :=
  { p with outSeq := 0, waiting := [], released := 0, records := both [], matched := 0, planned := none }

theorem course_of_unsent {s u : State} (h : unsent u = unsent s) : u.lp.course = s.lp.course := by
  rw [lp_of_unsent h]
  rfl

theorem checking_of_course {p q : LanePair} (h : q.course = p.course) : q.checking = p.checking :=
  (congrArg LanePair.checking h :)
theorem asked_of_course {p q : LanePair} (h : q.course = p.course) : q.asked = p.asked :=
  (congrArg LanePair.asked h :)
theorem switch_of_course {p q : LanePair} (h : q.course = p.course) : q.switch = p.switch :=
  (congrArg LanePair.switch h :)
theorem owner_of_course {p q : LanePair} (h : q.course = p.course) : q.owner = p.owner :=
  (congrArg LanePair.owner h :)
theorem agreedAt_of_course {p q : LanePair} (h : q.course = p.course) : q.agreedAt = p.agreedAt :=
  (congrArg LanePair.agreedAt h :)

@[simp] theorem ite_course {c : Prop} [Decidable c] (s u : State) :
    (if c then s else u).lp.course = if c then s.lp.course else u.lp.course :=
  apply_ite (fun s : State => s.lp.course) c s u

@[simp] theorem foldl_course {β : Type} {f : State → β → State} (h : ∀ s b, (f s b).lp.course = s.lp.course) (l : List β)
    (s : State) : (l.foldl f s).lp.course = s.lp.course := foldl_keeps (part := fun s => s.lp.course) h l s

/-! ### What is sent -/

@[simp] theorem emit_course (o : Out) (s : State) : (emit o s).lp.course = s.lp.course :=
  course_of_unsent (unsent_emit ..)
@[simp] theorem sendIb_course (aid tclass : Nat) (m : IbMsg) (s : State) :
    (sendIb aid tclass m s).lp.course = s.lp.course := course_of_unsent (unsent_sendIb ..)
@[simp] theorem sendReply_course (aid tclass sid seq typ : Nat) (r : Reply) (s : State) :
    (sendReply aid tclass sid seq typ r s).lp.course = s.lp.course := course_of_unsent (unsent_sendReply ..)
@[simp] theorem releaseOne_course (seq : Nat) (s : State) : (releaseOne seq s).lp.course = s.lp.course := by
  unfold releaseOne
  split
  · rfl
  · simp [LanePair.course]
@[simp] theorem releaseAll_course (s : State) : (releaseAll s).lp.course = s.lp.course :=
  foldl_course (fun s w => by simp [LanePair.course]) ..
@[simp] theorem releaseDiffering_course (s : State) : (releaseDiffering s).lp.course = s.lp.course := by
  unfold releaseDiffering
  extract_lets qs drop s1
  have released : s1.lp.course = s.lp.course := foldl_course (fun s q => releaseOne_course q s) ..
  exact released
@[simp] theorem lateReply_course (sid seq obj : Nat) (r : Reply) (s : State) :
    (lateReply sid seq obj r s).lp.course = s.lp.course := by
  unfold lateReply
  dsimp only
  split <;> simp
@[simp] theorem answerAsked_course (s : State) (q : Nat × Nat) : (answerAsked s q).lp.course = s.lp.course := by
  have evaluated : (evalSwitchover s).1.lp.course = s.lp.course := by
    unfold evalSwitchover
    split
    · rfl
    · split <;> rfl
  unfold answerAsked
  dsimp only
  split <;> simp [evaluated]

/-! ### What is logged and recorded -/

@[simp] theorem laneRecord_lp (l : Lane) (typ sev source : Nat) (payload : Bytes) (s : State) :
    (laneRecord l typ sev source payload s).lp = s.lp := by
  unfold laneRecord holdRecord
  dsimp only
  repeat' split
  all_goals simp
@[simp] theorem laneStateRec_lp (l : Lane) (event unit : Nat) (s : State) :
    (laneStateRec l event unit s).lp = s.lp := by
  unfold laneStateRec
  dsimp only
  split <;> simp
@[simp] theorem degradedSync_lp (s : State) : (degradedSync s).lp = s.lp := by
  unfold degradedSync
  split <;> simp
@[simp] theorem switchLog_lp (sev : Nat) (src : Lane) (cause result hf ht : Nat) (s : State) :
    (switchLog sev src cause result hf ht s).lp = s.lp := by simp [switchLog]
@[simp] theorem voidPlanned_course (s : State) : (voidPlanned s).lp.course = s.lp.course := by
  unfold voidPlanned
  split
  · rfl
  · simp [LanePair.course]
theorem voidPlanned_planned (s : State) : (voidPlanned s).lp.planned = none := by
  unfold voidPlanned
  split
  · assumption
  · rfl
@[simp] theorem katRun_lp (l : Lane) (bad : Bool) (s : State) : (katRun l bad s).lp = s.lp := by simp [katRun]
@[simp] theorem verdict_lp (l : Lane) (by_ : Bool) (s : State) : (verdict l by_ s).lp = s.lp := by simp [verdict]

/-! ### A lane that leaves its role -/

@[simp] theorem fwEvent_lp (event sev failStep : Nat) (l : Lane) (bank : Nat) (s : State) :
    (fwEvent event sev failStep l bank s).lp = s.lp := by
  unfold fwEvent
  dsimp only
  split <;> simp
@[simp] theorem bankFail_lp (l : Lane) (bank step : Nat) (s : State) : (bankFail l bank step s).lp = s.lp := by
  simp [bankFail]
@[simp] theorem bootRecovery_lp (l : Lane) (s : State) : (bootRecovery l s).lp = s.lp := by simp [bootRecovery]
@[simp] theorem bootTrial_lp (l : Lane) (s : State) : (bootTrial l s).lp = s.lp := by
  unfold bootTrial
  dsimp only
  repeat' split
  all_goals simp
@[simp] theorem bootSelect_lp (l : Lane) (s : State) : (bootSelect l s).lp = s.lp := by
  unfold bootSelect
  dsimp only
  repeat' split
  all_goals simp [fwMixedSync, bootStart]
@[simp] theorem cwvLaneStop_course (l : Lane) (s : State) : (cwvLaneStop l s).lp.course = s.lp.course := by
  simp [cwvLaneStop, cwvEnd, cwvRecord]
@[simp] theorem restartLane_course (l : Lane) (s : State) : (restartLane l s).lp.course = s.lp.course := by
  unfold restartLane
  extract_lets s1 rel d s2 s3 lp s4
  have start : s2.lp.course = s.lp.course := by simp [s2, s1, laneRowsGone]
  have stopped : s3.lp.course = s2.lp.course := by simp [s3, meterLoad]
  have kept : s4.lp.course = s3.lp.course := rfl
  simp [kept, stopped, start]
@[simp] theorem setResync_course (l : Lane) (s : State) : (setResync l s).lp.course = s.lp.course := by
  unfold setResync
  extract_lets s1 auto s2
  have start : s1.lp.course = s.lp.course := by simp [s1, dropGoes_lp]
  exact start
@[simp] theorem flapHold_course (l : Lane) (s : State) : (flapHold l s).lp.course = s.lp.course := by
  unfold flapHold
  extract_lets s1 s2 p s3
  have start : s1.lp.course = s.lp.course := by simp [s1, dropGoes_lp]
  have kept : s3.lp.course = s1.lp.course := rfl
  simp [kept, start]

end Sys2Proof.Machine
end

section
/-!
PROOFS. Objects of the dictionary whose rows stand, whatever is logged, recorded and raised beside them.
-/
namespace Sys2Proof.Machine

open Sys2Proof.Safety

/-- States whose dictionaries differ at most in the rows and the logs of some objects. -/
structure RowsKept (objs : List Nat) (s u : State) : Prop where
  logs : ∀ n, n ∉ objs → mget u.dict.logs n = mget s.dict.logs n
  store : ∀ n r, r < 4294967296 → n ∉ objs → mget u.dict.store (okey n r) = mget s.dict.store (okey n r)

namespace RowsKept

variable {objs more : List Nat} {s v u : State}

theorem of_dict (h : u.dict = s.dict) : RowsKept objs s u := ⟨fun _ _ => by rw [h], fun _ _ _ _ => by rw [h]⟩

theorem of_same (h : SameRowsBut objs s u) : RowsKept objs s u := ⟨fun _ _ => by rw [h.logs], h.store⟩

theorem trans (h : RowsKept objs s v) (k : RowsKept objs v u) : RowsKept objs s u :=
  ⟨fun n hn => (k.logs n hn).trans (h.logs n hn), fun n r hr hn => (k.store n r hr hn).trans (h.store n r hr hn)⟩

theorem mono (h : RowsKept objs s u) (sub : objs ⊆ more) : RowsKept more s u :=
  ⟨fun n hn => h.logs n fun hin => hn (sub hin), fun n r hr hn => h.store n r hr fun hin => hn (sub hin)⟩

theorem getN (h : RowsKept objs s u) (module : 0x30101 ∉ objs) {n : Nat} (hn : n ∉ objs) : getN u n = getN s n := by
  have same : modId u = modId s := by rw [Machine.modId, Machine.modId, h.store _ _ (by decide) module]
  have default : defRow u n 0 = defRow s n 0 := by rw [defRow, defRow, same]
  rw [Machine.getN, Machine.getN, getRow, getRow, h.store n 0 (by decide) hn, h.logs n hn, default]

theorem getB (h : RowsKept objs s u) (module : 0x30101 ∉ objs) {n : Nat} (hn : n ∉ objs) : getB u n = getB s n := by
  rw [Machine.getB, Machine.getB, h.getN module hn]

end RowsKept

theorem logPush_rowsKept (n cap : Nat) (v : Row) (s : State) : RowsKept [n] s (logPush n cap v s) :=
  ⟨fun _ hm => mget_mset_ne _ _ _ _ (by simpa using hm), fun _ _ _ _ => rfl⟩

/-- A planned switchover that is void leaves its row of SWITCH_LOG and its record (R298). -/
theorem switchLog_rowsKept {sev : Nat} (hs : sev < 4294967296) (src : Lane) (cause result hf ht : Nat) (s : State) :
    RowsKept [0xA0020, 0xB0011] s (switchLog sev src cause result hf ht s) :=
  .trans ((logPush_rowsKept ..).mono (by simp)) ((RowsKept.of_same (submitRec_sameRows hs _)).mono (by simp))

theorem voidPlanned_rowsKept (s : State) : RowsKept [0xA0020, 0xB0011] s (voidPlanned s) := by
  unfold voidPlanned
  split
  · exact .of_dict rfl
  · exact .trans (switchLog_rowsKept (by decide) ..) (.of_dict rfl)

theorem releaseAll_dict (s : State) : (releaseAll s).dict = s.dict :=
  foldl_keeps (part := State.dict) (fun s w => by simp) ..

theorem voidPlanned_releaseAll_getB {n : Nat} (hn : n ∉ [0xA0020, 0xB0011]) (s : State) :
    getB (voidPlanned (releaseAll s)) n = getB s n := by
  rw [(voidPlanned_rowsKept _).getB (by decide) hn, getB, getB, getN_of_dict (releaseAll_dict s)]

end Sys2Proof.Machine
end

section
/-!
PROOFS. Outputs compared, released and decided on (R282, R283, R284, R286, R289), and the settlement of O35.
-/
namespace Sys2Proof.Machine

open Sys2Proof.Safety

/-! ### Records and releases -/

theorem standby_of_duties {s u : State} (h : u.lanes.duties = s.lanes.duties) : standby u = standby s := by
  have a : u.lanes.a.role = s.lanes.a.role := role_of_duties h .A
  have b : u.lanes.b.role = s.lanes.b.role := role_of_duties h .B
  rw [standby, standby, a, b]

theorem releaseOne_lp (seq : Nat) (s : State) : (releaseOne seq s).lp =
    { s.lp with waiting := (releaseOne seq s).lp.waiting, released := (releaseOne seq s).lp.released } := by
  unfold releaseOne
  split
  · rfl
  · simp

/-- A mismatch begins a self-check where none runs (R286). -/
theorem mismatch_checking {s : State} (idle : s.lp.checking = none) (seq kind hashA hashB : Nat) :
    (mismatch seq kind hashA hashB s).lp.checking = some (seq, min kind 4, hashA, hashB, (standby s).isSome) := by
  unfold mismatch
  extract_lets s1 s2 s3
  have kept : s3.lp = s.lp := by simp [s3, s2, s1]
  have pair : s3.lanes.duties = s.lanes.duties := by simp [s3, s2, s1]
  rw [if_neg (by simp [kept, idle]), standby_of_duties pair]

/-- An output that waits and is released has left (R283). -/
theorem releaseOne_out {seq : Nat} {w : Nat × Nat × Out} {s : State}
    (hw : s.lp.waiting.find? (fun x => x.1 == seq) = some w) :
    ∃ o', Reframed w.2.2 o' ∧ o' ∈ (releaseOne seq s).out := by
  unfold releaseOne
  rw [hw]
  obtain ⟨o', same, out⟩ := leave_out w.2.2 { s with lp := { s.lp with
    waiting := s.lp.waiting.filter (fun w => w.1 != seq), released := max s.lp.released seq } }
  exact ⟨o', same, by simp [out]⟩

/-! ### A standby that lags -/

/-- A standby marked LAGGING waits for a copy where RESYNC_AUTO and a link allow it, and nothing is compared or planned with
it any more (R284). -/
theorem markLagging_lags (l : Lane) (s : State) :
    standing (markLagging l s) l = (.lagging, if getB s 0xA0100 && bridgeUp s then .waiting else .idle) ∧
    (markLagging l s).lp.records = both [] ∧ (markLagging l s).lp.planned = none ∧
    (markLagging l s).dict.sticky.getLsbD 161 = true := by
  unfold markLagging
  extract_lets s1 auto s2 s3 p s4
  have may : auto = (getB s 0xA0100 && bridgeUp s) := by
    have links : s1.lp.links = s.lp.links := (voidPlanned_links _).trans (releaseAll_links s)
    simp only [auto, links, s1, voidPlanned_releaseAll_getB (n := 0xA0100) (by decide)]
    rfl
  have lags : standing s4 l = (.lagging, if auto then .waiting else .idle) := by
    cases l <;> rfl
  have recorded (v : State) : standing (laneStateRec l 0 0 v) = standing v := standing_submitRec _ v
  have planned : s4.lp.planned = none := by
    have : s2.lp = s1.lp := by simp [s2, dropGoes_lp]
    exact (congrArg LanePair.planned this).trans (voidPlanned_planned _)
  refine ⟨?_, by simp [s4, p], by simpa using planned, ?_⟩
  · rw [standing_icuRaise, recorded, standing_of_lanes (s := s4) (by simp), lags, may]
  · have recorded (v : State) : (laneStateRec l 0 0 v).dict.sticky = v.dict.sticky := record_sticky ..
    simp only [icuRaise_frame, recorded]
    exact stickySet_getLsbD_same (by decide) ..

/-! ### The end of a self-check -/

theorem decide289_checking (l : Lane) (s : State) : (decide289 l s).1.lp.checking = s.lp.checking := by
  have flaps : (countFlap s).1.lp.checking = s.lp.checking := rfl
  have released (v : State) : (releaseDiffering v).lp.checking = v.lp.checking :=
    checking_of_course (releaseDiffering_course v)
  have held (o : Lane) (v : State) :
    (flapHold o v).lp.checking = v.lp.checking := checking_of_course (flapHold_course o v)
  have again (o : Lane) (v : State) : (setResync o v).lp.checking = v.lp.checking :=
    checking_of_course (setResync_course o v)
  have restarts (o : Lane) (v : State) : (restartLane o v).lp.checking = v.lp.checking :=
    checking_of_course (restartLane_course o v)
  unfold decide289
  extract_lets o ca cs v
  split
  · rfl
  · split
    · split
      next x hit hx =>
      have counted : x.lp.checking = s.lp.checking := by rw [← flaps, hx]
      split
      · exact counted
      · dsimp only
        split <;> simp [held, again, released, counted]
    · dsimp only
      split <;> simp [v, restarts, released]

theorem condemned_of_cause {x y : LaneSt} (h : y.cause = x.cause) : condemned y = condemned x := by
  rw [condemned, condemned, h]

/-- A lane's verdict condemns it where its self-check does or where it was condemned (R287). -/
theorem condemned_verdict (l : Lane) (by_ : Bool) (s : State) :
    condemned ((verdict l by_ s).lanes.get l) = (by_ || condemned (s.lanes.get l)) := by
  have found (now : Nat) (x : LaneSt) : selfCause now x ≠ .none ∧ selfCause now x ≠ .layout := by
    unfold selfCause
    repeat' split
    all_goals exact ⟨nofun, nofun⟩
  rw [verdict, updLane_lanes, Pair.get_upd_same]
  by_cases new : (by_ && !condemned (s.lanes.get l)) = true
  · have judged : by_ = true := (Bool.and_eq_true_iff.1 new).1
    have cause (x : LaneSt) (h : x.cause = selfCause s.clk.fab (s.lanes.get l)) : condemned x = true := by
      simp [condemned, h, found]
    rw [judged, Bool.true_or]
    exact cause _ (if_pos (judged ▸ new))
  · have : (by_ || condemned (s.lanes.get l)) = condemned (s.lanes.get l) := by
      cases by_ <;> simp_all
    rw [this]
    exact condemned_of_cause (if_neg new)

theorem condemned_verdict_other (l : Lane) (by_ : Bool) (s : State) :
    condemned ((verdict l by_ s).lanes.get (otherLane l)) = condemned (s.lanes.get (otherLane l)) := by
  rw [verdict, updLane_lanes, Pair.get_upd_other]

theorem cause_updLane {f : LaneSt → LaneSt} (h : ∀ x, (f x).cause = x.cause) (k l : Lane) (s : State) :
    ((updLane k f s).lanes.get l).cause = (s.lanes.get l).cause := by
  cases k <;> cases l
  · exact h s.lanes.a
  · rfl
  · rfl
  · exact h s.lanes.b

theorem condemned_katRun (k l : Lane) (bad : Bool) (s : State) :
    condemned ((katRun k bad s).lanes.get l) = condemned (s.lanes.get l) :=
  condemned_of_cause (cause_updLane (by exact fun _ => rfl) ..)

/-- The verdicts of both lanes (R287). -/
def verdicts (ca cb : Bool) (s : State) : State := verdict .B cb (verdict .A ca s)

/-- The verdicts of both lanes and their vaults' self-tests end the self-check (R287). -/
def judged (ca cb : Bool) (s : State) : State :=
  let v := verdicts ca cb s
  let w := katRun .A (v.lanes.a.cause = .vault) (katRun .B (v.lanes.b.cause = .vault) v)
  { w with lp := { w.lp with checking := none } }

theorem condemned_verdicts (ca cb : Bool) (l : Lane) (s : State) :
    condemned ((verdicts ca cb s).lanes.get l) = ((if l = .A then ca else cb) || condemned (s.lanes.get l)) := by
  cases l with
  | A => exact (condemned_verdict_other .B cb _).trans (condemned_verdict .A ca s)
  | B =>
    refine (condemned_verdict .B cb _).trans ?_
    exact congrArg (cb || ·) (condemned_verdict_other .A ca s)

theorem condemned_judged (ca cb : Bool) (l : Lane) (s : State) :
    condemned ((judged ca cb s).lanes.get l) = ((if l = .A then ca else cb) || condemned (s.lanes.get l)) := by
  unfold judged
  extract_lets v w
  exact (condemned_katRun ..).trans ((condemned_katRun ..).trans (condemned_verdicts ca cb l s))

theorem judged_duties (ca cb : Bool) (s : State) : (judged ca cb s).lanes.duties = s.lanes.duties := by
  simp [judged, verdicts]

/-- The outcome written into MISMATCH_LOG beside the verdicts (R286). -/
def verdictLogged (seq : Nat) (va vb : Bool) (outcome : Nat) (s : State) : State :=
  { s with dict := { s.dict with
      logs := mset s.dict.logs 0xA0030 (logVerdict seq va vb outcome (mgetD s.dict.logs 0xA0030 [])) }
           lp := { s.lp with asked := [] } }

/-- The state that a finished self-check of the active lane `l` leaves, before the SWITCHOVER requests that waited for it are
evaluated (R286, R289). -/
def selfChecked (seq : Nat) (ca cb : Bool) (l : Lane) (s : State) : State :=
  let v := judged ca cb s
  verdictLogged seq (condemned v.lanes.a) (condemned v.lanes.b) (decide289 l v).2 (decide289 l v).1

theorem execSelfCheckDone_eq {ca cb : Bool} {c : Nat × Nat × Nat × Nat × Bool} {l : Lane} {s : State}
    (hc : s.lp.checking = some c) (ha : active s = some l) (t : Nat) :
    execSelfCheckDone t ca cb s = done (tick t s)
      ((decide289 l (judged ca cb (tick t s))).1.lp.asked.foldl answerAsked (selfChecked c.1 ca cb l (tick t s))) := by
  unfold execSelfCheckDone
  have hc : (tick t s).lp.checking = some c := hc
  have ha : active (tick t s) = some l := ha
  dsimp only
  rw [hc, ha]
  rfl

/-- Where the self-check condemns the active lane and not the other, a switchover to the other is decided (R289). -/
theorem decide289_switches {l : Lane} {s : State} (own : condemned (s.lanes.get l) = true)
    (other : condemned (s.lanes.get (otherLane l)) = false) : decide289 l s = (decideSwitch (otherLane l) 2 s, 0) := by
  simp [decide289, own, other]

/-! ### The commands -/

section
variable {q : Nat} {l : Lane} {s : State} (sb : (standby s).isSome = true) (act : (active s).isSome = true)
  (up : bridgeUp s = true) (new : (s.lp.records.get l).any (fun r => r.1 == q) = false)
include sb act up new

/-- A record new to its lane is looked up among its partner's, once there is a standby to compare with (R282). -/
theorem execComparisonRecord_new {o : Option (Nat × Nat × Nat × Nat)}
    (partner : (s.lp.records.get (otherLane l)).find? (fun r => r.1 == q) = o) (t k hash : Nat) :
    execComparisonRecord t l q k hash s = match o with
      | none => done (tick t s) { tick t s with lp := { s.lp with
          records := s.lp.records.upd l (fun r => r ++ [(q, k, hash, max s.clk.fab t)]) } }
      | some o =>
        if sameContent o k hash then
          done (tick t s) (releaseOne q { tick t s with lp := { s.lp with
            records := s.lp.records.upd (otherLane l) (fun r => r.filter (fun r => r.1 != q))
            matched := max s.lp.matched q } })
        else
          done (tick t s) (mismatch q k (if l = .A then hash else o.2.2.1) (if l = .A then o.2.2.1 else hash)
            { tick t s with lp := { s.lp with
              records := s.lp.records.upd l (fun r => r ++ [(q, k, hash, max s.clk.fab t)]) } }) := by
  have taken : ¬((standby (tick t s)).isNone || (active (tick t s)).isNone || !bridgeUp (tick t s) ||
      ((tick t s).lp.records.get l).any (fun r => r.1 == q)) = true := by
    change ¬((standby s).isNone || (active s).isNone || !bridgeUp s ||
      (s.lp.records.get l).any (fun r => r.1 == q)) = true
    have sb : (standby s).isNone = false := by simpa using sb
    have act : (active s).isNone = false := by simpa using act
    simp [sb, act, up, new]
  have partner : ((tick t s).lp.records.get (otherLane l)).find? (fun r => r.1 == q) = o := partner
  refine (if_neg taken).trans ?_
  rw [partner]
  cases o with
  | none => rfl
  | some o =>
    cases same : sameContent o k hash
    · cases l <;> simp [same] <;> rfl
    · simp [same]

end

theorem execLagDetect_far {l : Lane} {s : State} {t : Nat} (hs : standby s = some l)
    (far : 256 < lagE (tick t s) ∨ 20 * Config.msCycles < lagT (tick t s)) :
    execLagDetect t s = done (tick t s) (markLagging l (tick t s)) := by
  have hs : standby (tick t s) = some l := hs
  unfold execLagDetect
  dsimp only
  rw [hs]
  exact if_pos far

theorem execOutputReleaseTimeout_due {q t : Nat} {w : Nat × Nat × Out} {s : State}
    (hw : s.lp.waiting.find? (fun x => x.1 == q) = some w) (due : w.2.1 + 2 * Config.msCycles ≤ max s.clk.fab t)
    (same : differs q s = false) :
    execOutputReleaseTimeout t q s = done (tick t s) (cntUp 0xA0016 (releaseOne q (tick t s))) := by
  have hw : (tick t s).lp.waiting.find? (fun x => x.1 == q) = some w := hw
  have same : differs q (tick t s) = false := same
  have due : w.2.1 + 2 * Config.msCycles ≤ (tick t s).clk.fab := due
  unfold execOutputReleaseTimeout
  dsimp only
  rw [hw]
  exact if_pos (by simp [same, due])

/-- Settles O35: it holds. A record is kept, matched or raises a mismatch as its partner stands; what is sent, logged and
recorded beside that leaves the course of the pair alone. -/
theorem comparison : Obligations.Comparison := by
  unfold Obligations.Comparison
  refine ⟨?alone, ?equal, ?unequal, ?released, ?lags, ?checked, ?condemns⟩
  case alone =>
    intro t q k hash l s sb act up new partner
    refine runs_closed (execComparisonRecord_new sb act up new partner t k hash) fun u hu => ?_
    rw [hu.lp]
    exact ⟨Pair.get_upd_same .., Pair.get_upd_other .., rfl⟩
  case equal =>
    intro t q k hash at_ l s sb act up new partner
    have he := (execComparisonRecord_new sb act up new partner t k hash).trans
      (if_pos (show sameContent (q, k, hash, at_) k hash = true by simp [sameContent]))
    refine runs_closed he fun u hu => ?_
    rw [hu.lp, releaseOne_lp]
    refine ⟨rfl, ?_, Pair.get_upd_same .., rfl⟩
    cases l <;> rfl
  case unequal =>
    intro t q k hash o l s sb act up new partner differ idle
    have he := (execComparisonRecord_new sb act up new partner t k hash).trans
      (if_neg (by simp [differ]))
    refine runs_closed he fun u hu => ?_
    rw [checking_of_course (course_of_unsent hu.unsent), mismatch_checking (by exact idle)]
    exact congrArg (fun b => some (q, min k 4, _, _, b)) sb
  case released =>
    intro t q w s hw due same
    obtain ⟨o', reframed, left⟩ := releaseOne_out (s := tick t s) hw
    refine runs_settled (execOutputReleaseTimeout_due hw due same) fun u hu => ?_
    have left : o' ∈ u.out := hu.left (by simpa using left)
    obtain rfl | ⟨p, f, m, tag, n, tag', ho, rfl⟩ := reframed
    · split
      · next p f m tag ho => exact ⟨f.fcnt, tag, ho ▸ left⟩
      · exact left
    · rw [ho]
      exact ⟨n, tag', left⟩
  case lags =>
    intro t l s hs far
    obtain ⟨stand, records, planned, sticky⟩ := markLagging_lags l (tick t s)
    refine runs_closed (execLagDetect_far hs far) fun u hu => ?_
    have stand := (congrFun hu.standing l).trans stand
    rw [hu.lp, hu.dict, records, planned]
    exact ⟨congrArg Prod.fst stand, congrArg Prod.snd stand, rfl, rfl, rfl, sticky⟩
  case checked =>
    intro t ca cb c l s hc ha
    refine runs_closed (execSelfCheckDone_eq hc ha t) fun u hu => ?_
    have kept : u.lp.course = (selfChecked c.1 ca cb l (tick t s)).lp.course :=
      (course_of_unsent hu.unsent).trans (foldl_course answerAsked_course ..)
    exact ⟨(checking_of_course kept).trans (decide289_checking ..), asked_of_course kept⟩
  case condemns =>
    intro t ca cb c l s hc ha healthy own other asked
    have condemnsOwn : condemned ((judged ca cb (tick t s)).lanes.get l) = true := by
      rw [condemned_judged]
      exact Bool.or_eq_true_iff.2 own
    have sparesOther : condemned ((judged ca cb (tick t s)).lanes.get (otherLane l)) = false := by
      have fine : condemned ((tick t s).lanes.get (otherLane l)) = false := by
        rw [condemned, show ((tick t s).lanes.get (otherLane l)).cause = .none from healthy]
        rfl
      rw [condemned_judged, fine, Bool.or_false]
      cases l <;> exact other
    have decided := decide289_switches condemnsOwn sparesOther
    have he := execSelfCheckDone_eq (ca := ca) (cb := cb) hc ha t
    have none_ : (decide289 l (judged ca cb (tick t s))).1.lp.asked = [] := by
      rw [decided]
      exact asked
    rw [none_] at he
    have switch : (selfChecked c.1 ca cb l (tick t s)).lp.switch =
        some { target := otherLane l, cause := 2, applyAsn := asn (tick t s) + 1 } := by
      have : (decide289 l (judged ca cb (tick t s))).1.lp.switch =
          some { target := otherLane l, cause := 2, applyAsn := asn (judged ca cb (tick t s)) + 1 } := by
        rw [decided]
        rfl
      exact this
    have pair : (selfChecked c.1 ca cb l (tick t s)).lanes.duties = s.lanes.duties :=
      (congrArg (fun x => x.1.lanes.duties) decided).trans (judged_duties ca cb (tick t s))
    refine runs_closed he fun u hu => ⟨?_, ?_, ?_⟩
    · exact (switch_of_course (course_of_unsent hu.unsent)).trans switch
    · exact (congrArg Prod.fst (congrFun hu.standing .A)).trans (role_of_duties pair .A)
    · exact (congrArg Prod.fst (congrFun hu.standing .B)).trans (role_of_duties pair .B)

end Sys2Proof.Machine
end

section
/-!
PROOFS. A lane that fails condemns itself (R285, R287, R288, R291, R299), and the settlement of O36.
-/
namespace Sys2Proof.Machine

open Sys2Proof.Safety

/-! ### What a condemnation does -/

theorem asn_of_clk {s u : State} (h : u.clk = s.clk) : asn u = asn s := by rw [asn, asn, h]

/-- The lane with its condemn cause, before the pair acts on it (R287). -/
def marked (l : Lane) (c : Condemn) (s : State) : State :=
  updLane l (fun x => { x with cause := if condemned x then x.cause else c }) s

theorem marked_duties (l : Lane) (c : Condemn) (s : State) : (marked l c s).lanes.duties = s.lanes.duties := by
  simp [marked]

theorem condemn_eq (l : Lane) (c : Condemn) (s : State) : condemn l c s =
    if active s = some l then
      if standby s = some (otherLane l) then
        if s.lp.switch.isSome then marked l c s else decideSwitch (otherLane l) 4 (marked l c s)
      else laneStateRec l 1 0 (degradedSync (marked l c s))
    else if (s.lanes.get l).role = .undecided then marked l c s
    else restartLane l (marked l c s) := by
  have pair : (marked l c s).lanes.duties = s.lanes.duties := marked_duties l c s
  unfold condemn
  dsimp only
  rw [← active_of_duties pair, ← standby_of_duties pair, ← role_of_duties pair]
  rfl

theorem marked_cause (l : Lane) (c : Condemn) (s : State) : ((marked l c s).lanes.get l).cause =
    if condemned (s.lanes.get l) then (s.lanes.get l).cause else c := by
  rw [marked, updLane_lanes, Pair.get_upd_same]

theorem cause_of_bare {s u : State} (h : u.lanes.bare = s.lanes.bare) (l : Lane) :
    (u.lanes.get l).cause = (s.lanes.get l).cause := by
  cases l
  · exact (congrArg (fun p => p.1.cause) h :)
  · exact (congrArg (fun p => p.2.cause) h :)

/-- LANE_DEGRADED and its record change nothing of a lane but its counters (R291). -/
theorem degraded_bare (l : Lane) (s : State) : (laneStateRec l 1 0 (degradedSync s)).lanes.bare = s.lanes.bare := by
  have degraded : (degradedSync s).lanes = s.lanes := by
    unfold degradedSync
    split <;> simp
  exact (record_bare ..).trans (by rw [degraded])

/-- A lane that goes on in its role after a failure has the condemn cause it had, or that of the failure (R287). -/
theorem condemn_cause {l : Lane} {c : Condemn} {s : State}
    (stays : ((condemn l c s).lanes.get l).role = (s.lanes.get l).role) :
    ((condemn l c s).lanes.get l).cause = if condemned (s.lanes.get l) then (s.lanes.get l).cause else c := by
  rw [condemn_eq] at stays ⊢
  split
  · split
    · split
      · exact marked_cause ..
      · exact marked_cause ..
    · exact (cause_of_bare (degraded_bare ..) l).trans (marked_cause ..)
  · next idle =>
    rw [if_neg idle] at stays
    split
    · exact marked_cause ..
    · next role =>
      rw [if_neg role, (role_of_upd (restartLane_duties ..)).1] at stays
      exact absurd stays.symm role

/-- A failing active lane is replaced by a standby in sync (R287, R292). -/
theorem condemn_switch {l : Lane} {s : State} (ha : active s = some l) (hs : standby s = some (otherLane l))
    (free : s.lp.switch = none) (c : Condemn) :
    condemn l c s = decideSwitch (otherLane l) 4 (marked l c s) := by
  rw [condemn_eq, if_pos ha, if_pos hs, free]
  rfl

/-- A failing lane that is not active has no role afterwards (R285, R287). -/
theorem condemn_role {l : Lane} {s : State} (idle : active s ≠ some l) (c : Condemn) :
    ((condemn l c s).lanes.get l).role = .undecided := by
  rw [condemn_eq, if_neg idle]
  split
  · next role =>
    rw [marked, updLane_lanes, Pair.get_upd_same]
    exact role
  · exact (role_of_upd (restartLane_duties ..)).1

/-- How a lane's units stand does not move when it is condemned (R299). -/
theorem condemn_units (l : Lane) (c : Condemn) (s : State) :
    ((condemn l c s).lanes.get l).units = (s.lanes.get l).units := by
  have pair : (marked l c s).lanes.duties = s.lanes.duties := marked_duties l c s
  have units {u : State} (h : u.lanes.duties = s.lanes.duties) : (u.lanes.get l).units = (s.lanes.get l).units :=
    congrArg Duty.units (duty_of_duties h l)
  rw [condemn_eq]
  split
  · split
    · split
      · exact units pair
      · exact units pair
    · exact units (by simp [pair])
  · split
    · exact units pair
    · have restarted := congrArg (fun p => (p.get l).units) (restartLane_duties l (marked l c s))
      simp only [Pair.get_duties, Pair.get_upd_same] at restarted
      exact restarted.trans (units pair)

/-- What a failure of cause `c` of lane `l` leads to (R285, R287). -/
def Condemns (l : Lane) (c : Condemn) (slot : Nat) (s u : State) : Prop :=
  ((u.lanes.get l).running = true → (u.lanes.get l).role = (s.lanes.get l).role →
    (u.lanes.get l).cause = (if condemned (s.lanes.get l) then (s.lanes.get l).cause else c)) ∧
  (active s = some l → standby s = some (otherLane l) → s.lp.switch = none →
    u.lp.switch = some { target := otherLane l, cause := 4, applyAsn := slot + 1 }) ∧
  (active s ≠ some l → (u.lanes.get l).role = .undecided)

/-- The failure noted in `v` condemns the lane that it is of. -/
theorem runs_condemn {i : Instr} {t : Nat} {l : Lane} {c : Condemn} {s v : State}
    (he : exec i s = done (tick t s) (condemn l c v)) (pair : v.lanes.duties = s.lanes.duties)
    (cause : (v.lanes.get l).cause = (s.lanes.get l).cause) (lp : v.lp = s.lp) (clk : v.clk = (tick t s).clk) :
    Runs i s (Condemns l c (asn (tick t s)) s) := by
  have act : active v = active s := active_of_duties pair
  have role : (v.lanes.get l).role = (s.lanes.get l).role := role_of_duties pair l
  refine runs_closed he fun u hu => ⟨fun _ stays => ?_, fun ha hs free => ?_, fun idle => ?_⟩
  · rw [hu.lanes l] at stays ⊢
    rw [← condemned_of_cause cause, ← cause]
    exact condemn_cause (stays.trans role.symm)
  · have decided := condemn_switch (act.trans ha) ((standby_of_duties pair).trans hs) ((congrArg _ lp).trans free) c
    rw [switch_of_course (course_of_unsent hu.unsent), decided, ← asn_of_clk clk]
    rfl
  · rw [hu.lanes l]
    exact condemn_role (act ▸ idle) c

/-! ### Corrected errors -/

/-- Up to 64 corrected errors within a second condemn no lane (R288). -/
theorem eccCorrected_few {l : Lane} {s : State} (few : (s.lanes.get l).ecc.length < 64) : eccCorrected l s =
    updLane l (fun x => { x with ecc := (s.clk.fab :: x.ecc).filter (fun f => decide (s.clk.fab < f + Config.secCycles)) })
      (healthEvent l .ecc s) := by
  unfold eccCorrected
  extract_lets s1 keep s2
  refine if_neg ?_
  have kept : (s2.lanes.get l).ecc = (s.clk.fab :: (s.lanes.get l).ecc).filter keep := by
    simp only [s2, s1, healthEvent, updLane_lanes, Pair.get_upd_same]
    rfl
  have := List.length_filter_le keep (s.clk.fab :: (s.lanes.get l).ecc)
  simp only [kept, List.length_cons] at this ⊢
  omega

/-! ### The units' reports -/

/-- A unit with the result and the time of its test (R299). -/
def UnitSt.reported (r now : Nat) (y : UnitSt) : UnitSt :=
  { y with state := r, tested := now, failures := if r = 2 then y.failures + 1 else y.failures }

theorem unitReport_duties (l : Lane) (u r : Nat) (s : State) : (unitReport l u r s).lanes.duties =
    s.lanes.duties.upd l (fun d => { d with units := lmod d.units u (UnitSt.reported r (time64 s)) }) := by
  unfold unitReport
  extract_lets old s1 s2 detail s3 keep
  have kept (bit : Nat) (on : Bool) (v : State) : (keep bit on v).lanes.duties = v.lanes.duties := rfl
  have reported : s1.lanes.duties = s.lanes.duties.upd l
      (fun d => { d with units := lmod d.units u (UnitSt.reported r (time64 s)) }) :=
    Pair.duties_upd_eq (fun _ => rfl) l s.lanes
  rw [kept, kept, ← reported]
  simp [s3, s2]

theorem getElem?_lmod_same {α : Type} (l : List α) (i : Nat) (f : α → α) : (lmod l i f)[i]? = l[i]?.map f := by
  induction l generalizing i with
  | nil => rfl
  | cons x r ih =>
    cases i with
    | zero => rfl
    | succ i => simpa [lmod] using ih i

theorem unitReport_units (l : Lane) (u r : Nat) (s : State) : ((unitReport l u r s).lanes.get l).units =
    lmod (s.lanes.get l).units u (UnitSt.reported r (time64 s)) := by
  have := congrArg (fun p => (p.get l).units) (unitReport_duties l u r s)
  simpa only [Pair.get_duties, Pair.get_upd_same, LaneSt.duty] using this

theorem unitReport_role (l : Lane) (u r : Nat) (s : State) (k : Lane) :
    ((unitReport l u r s).lanes.get k).role = (s.lanes.get k).role := by
  obtain ⟨own, other⟩ := role_of_upd (unitReport_duties l u r s)
  obtain rfl | rfl : k = l ∨ k = otherLane l := by cases k <;> cases l <;> simp [otherLane]
  · exact own
  · exact other

theorem unitReport_lp (l : Lane) (u r : Nat) (s : State) : (unitReport l u r s).lp = s.lp := by
  unfold unitReport
  dsimp only
  repeat' split
  all_goals simp

theorem unitReport_clk (l : Lane) (u r : Nat) (s : State) : (unitReport l u r s).clk = s.clk := by
  have state (event : Nat) (v : State) : (laneStateRec l event u v).clk = v.clk := by
    unfold laneStateRec laneRecord holdRecord
    dsimp only
    repeat' split
    all_goals simp
  unfold unitReport
  dsimp only
  repeat' split
  all_goals simp [state, katRun]

/-- A running lane takes the report of its unit, and may be condemned by it or wait for a copy again (R296, R299). -/
theorem execUnitTest_running {l : Lane} {s : State} (run : (s.lanes.get l).running = true) (t : Nat) (k : Fin 5)
    (r : Fin 3) : ∃ v, execUnitTest t l k r s = done (tick t s) v ∧
      (v.lanes.get l).units = ((unitReport l k.val r.val (tick t s)).lanes.get l).units := by
  unfold execUnitTest
  extract_lets s0 s1 x
  have run : (s0.lanes.get l).running = true := run
  rw [if_neg (by simp [run])]
  split
  · split
    · exact ⟨_, rfl, rfl⟩
    · exact ⟨_, rfl, condemn_units ..⟩
  · split
    · refine ⟨_, rfl, ?_⟩
      rw [updLane_lanes, Pair.get_upd_same]
    · exact ⟨_, rfl, rfl⟩

theorem role_of_active {s : State} {l : Lane} (h : active s = some l) : (s.lanes.get l).role = .active := by
  unfold active at h
  split at h
  · next role =>
    cases h
    exact role
  · split at h
    · next role =>
      cases h
      exact role
    · cases h

/-- A unit that fails and condemns its lane, the active one (R287, R299). -/
theorem execUnitTest_failed {l : Lane} {s : State} (run : (s.lanes.get l).running = true) (ha : active s = some l)
    {k : Fin 5} (fatal : unitCondemns k.val = true) (t : Nat) :
    execUnitTest t l k 2 s = done (tick t s) (condemn l .unitFail (unitReport l k.val 2 (tick t s))) := by
  have role : ((unitReport l k.val 2 (tick t s)).lanes.get l).role ≠ .lagging := by
    rw [unitReport_role, show ((tick t s).lanes.get l).role = .active from role_of_active ha]
    exact nofun
  refine (if_neg ?_).trans ((if_pos ⟨rfl, fatal⟩).trans (if_neg ?_))
  · simpa using run
  · exact fun lags => role lags.1

/-- Settles O36: it holds. A failure of a lane is a condemnation, whose three outcomes `condemn_cause`, `condemn_switch` and
`condemn_role` name; a unit's report is one besides. -/
theorem continuousSelfTest : Obligations.ContinuousSelfTest := by
  unfold Obligations.ContinuousSelfTest
  refine ⟨?uncorrectable, ?corrected, ?checker, ?watchdog, ?policy, ?reported, ?failed⟩
  case uncorrectable =>
    intro t l s
    refine runs_condemn (l := l) (c := .uncorrectable) rfl (by simp) ?_ (by simp) (by simp)
    exact (cause_updLane (by exact fun _ => rfl) ..).trans (cause_updLane (by exact fun _ => rfl) ..)
  case corrected =>
    intro t l s few
    obtain ⟨icu, raised⟩ : ∃ icu, icuRaiseAt l 256 (tick t s) = updIcu l icu (tick t s) := ⟨_, rfl⟩
    have few : ((icuRaiseAt l 256 (tick t s)).lanes.get l).ecc.length < 64 := by
      simpa [icuRaiseAt, updIcu] using few
    refine runs_closed (congrArg (done (tick t s)) (eccCorrected_few few)) fun u hu => ?_
    rw [hu.lanes l, raised]
    have second : 0 < Config.secCycles := by decide
    rw [show max s.clk.fab t = (tick t s).clk.fab from rfl]
    simp [healthEvent, updIcu, second]
  case checker =>
    intro t l c s run
    refine runs_condemn (l := l) (c := .lockstep) (if_neg (by simpa using run)) (by simp) ?_ rfl rfl
    exact cause_updLane (by exact fun _ => rfl) ..
  case watchdog =>
    intro t l c s run core
    refine runs_condemn (l := l) (c := .watchdog) (if_neg ?_) (by simp) ?_ rfl rfl
    · simpa [core] using run
    · exact cause_updLane (by exact fun _ => rfl) ..
  case policy =>
    intro t l m c s core
    refine runs_closed (if_pos (by simp [core])) fun u hu => ?_
    rw [hu.lanes m, hu.lp]
    exact ⟨rfl, rfl, rfl⟩
  case reported =>
    intro t l k r s run five
    obtain ⟨v, he, units⟩ := execUnitTest_running run t k r
    refine runs_closed he fun u hu => ?_
    have tested : k.val < (s.lanes.get l).units.length := by omega
    have five : ((tick t s).lanes.get l).units[k.val]? = some (s.lanes.get l).units[k.val] :=
      List.getElem?_eq_getElem tested
    rw [hu.lanes l]
    simp only [units, unitReport_units, getElem?_lmod_same, five]
    rfl
  case failed =>
    intro t l k s ha hs run free fatal
    have roles := unitReport_role l k.val 2 (tick t s)
    have act : active (unitReport l k.val 2 (tick t s)) = some l := (active_of_roles (roles .A) (roles .B)).trans ha
    have spare : standby (unitReport l k.val 2 (tick t s)) = some (otherLane l) := by
      rw [standby, show (State.lanes _).a.role = _ from roles .A, show (State.lanes _).b.role = _ from roles .B]
      exact hs
    have decided := condemn_switch act spare ((congrArg _ (unitReport_lp ..)).trans free) .unitFail
    refine runs_closed (execUnitTest_failed run ha fatal t) fun u hu => ⟨?_, ?_⟩
    · rw [switch_of_course (course_of_unsent hu.unsent), decided, ← asn_of_clk (unitReport_clk l k.val 2 (tick t s))]
      rfl
    · rw [hu.lanes l, decided]
      refine (marked_cause ..).trans_ne ?_
      split
      · next bad => exact fun e => by simp [condemned, e] at bad
      · exact nofun

end Sys2Proof.Machine
end

section
/-!
PROOFS. The course of the lane pair at a start (R281, R452) and at a switchover (R292): nothing that either does besides
moves it.
-/
namespace Sys2Proof.Machine

open Sys2Proof.Safety

/-! ### A start -/

@[simp] theorem startupMark_lp (col : Nat) (s : State) : (startupMark col s).lp = s.lp := by
  unfold startupMark
  repeat' split
  all_goals rfl
@[simp] theorem meterStart_lp (l : Lane) (s : State) : (meterStart l s).lp = s.lp := by
  unfold meterStart
  dsimp only
  repeat' split
  all_goals simp [holdTop]
@[simp] theorem tamperLog_lp (r : TamperRec) (s : State) : (tamperLog r s).lp = s.lp := by simp [tamperLog]
@[simp] theorem copyStores_course (s : State) : (copyStores s).lp.course = s.lp.course := by
  have late (v : State) : (lateSuspend v).lp = v.lp := by
    unfold lateSuspend
    repeat' split
    all_goals simp [suspendEntry]
  simp [copyStores, battCopy, cwvRecord, late]
@[simp] theorem startTraffic_course (s : State) : (startTraffic s).lp.course = s.lp.course := by
  have anew (v : State) (z : Nat) : (zoneAnew v z).lp.course = v.lp.course := by simp [zoneAnew, applyClass, adaptZone]
  simp [startTraffic, anew]
@[simp] theorem ratchet_lp (s : State) : (ratchet s).lp = s.lp := by
  unfold ratchet
  split <;> simp
@[simp] theorem onLanes_course {f : Lane → State → State} (h : ∀ l s, (f l s).lp.course = s.lp.course) (s : State) :
    (onLanes f s).lp.course = s.lp.course := by simp [onLanes, h]
@[simp] theorem engLoad_lp (l : Lane) (e : Nat) (s : State) : (engLoad l e s).lp = s.lp := by simp [engLoad]
@[simp] theorem engStart_lp (l : Lane) (e : Nat) (own : BitVec 4) (s : State) : (engStart l e own s).lp = s.lp := by
  unfold engStart
  split <;> simp
@[simp] theorem startLed_course (s : State) : (startLed s).lp.course = s.lp.course := by
  simp [startLed, copySafe]
@[simp] theorem alarmsMoved_course (s : State) : (alarmsMoved s).lp.course = s.lp.course := by
  simp [alarmsMoved, alarmMoved, alarmFireRow]

@[simp] theorem ledgerPut_course (x ch sf : Nat) (f : Bucket → Bucket) (s : State) :
    (ledgerPut x ch sf f s).lp.course = s.lp.course := by simp [ledgerPut]
@[simp] theorem dropBookings_course (p : Booking → Bool) (s : State) : (dropBookings p s).lp.course = s.lp.course := by
  simp [dropBookings, gateRelease]
@[simp] theorem rechannel_course (s : State) : (rechannel s).lp.course = s.lp.course := by
  refine foldl_course (fun s b => ?_) _ s
  dsimp only
  repeat' split
  all_goals simp [gateReserve, gateRelease, loseBooking]
@[simp] theorem bcastEach_course {f : Nat → Nat → Nat → Nat → State → State}
    (h : ∀ x ch sf dur s, (f x ch sf dur s).lp.course = s.lp.course) (sf x : Nat) (s : State) :
    (bcastEach f sf x s).lp.course = s.lp.course := by
  unfold bcastEach
  refine foldl_course (fun s a => ?_) _ s
  split <;> simp [h]
@[simp] theorem switchEpoch_course (s : State) : (switchEpoch s).lp.course = s.lp.course := by
  simp [switchEpoch, bcastReserve, bcastUnreserve, gateReserve, gateRelease]
@[simp] theorem sendComp_course (key : Nat) (s : State) : (sendComp key s).lp.course = s.lp.course := by
  unfold sendComp
  dsimp only
  repeat' split
  all_goals simp
@[simp] theorem complete_course (t : Ticket) (s : State) : (complete t s).lp.course = s.lp.course := by
  have next : (nextCompSeq t.client s).1.lp = s.lp := by
    unfold nextCompSeq
    split <;> rfl
  simp [complete, next]
@[simp] theorem completeTicket_course (tk : Nat) (s : State) : (completeTicket tk s).lp.course = s.lp.course := by
  unfold completeTicket
  split <;> simp
@[simp] theorem readEntry_course (s : State) (e : JEntry) : (readEntry s e).lp.course = s.lp.course := by
  unfold readEntry
  dsimp only
  repeat' split
  all_goals simp [startSlew, foldSlew, recordOpen]
@[simp] theorem readJournal_course (s : State) : (readJournal s).lp.course = s.lp.course := by
  have resumed (v : State) : (resumeEpoch v).lp.course = v.lp.course := by
    unfold resumeEpoch
    split <;> simp [verifyDone, endVerify]
  simp [readJournal, resumed]

/-- A start makes its lane the owner of the outputs and notes the moment (R281, R452). -/
theorem startService_course (l : Lane) (s : State) :
    (startService l s).lp.course = { s.lp with owner := some l, agreedAt := some s.clk.fab }.course := by
  simp only [startService, degradedSync_lp, outSync_frame, alarmsMoved_course, startLed_course, startTraffic_course,
    readJournal_course, ratchet_lp, meterStart_lp, copyStores_course, startPorts, startupMark_lp, updMac_frame]
  rfl

/-! ### A core's submission that goes on -/

/-- The lane pair and the dictionary, which placing a ticket's frames leaves alone. -/
def aside (s : State) : LanePair × Dict := (s.lp, s.dict)

@[simp] theorem book_aside (b : Booking) (s : State) : aside (book b s) = aside s := by
  have spent (v : State) (l : List Nat) (f : Nat → Mac → Mac) :
      aside (l.foldl (fun s r => updMac (f r) s) v) = aside v :=
    foldl_keeps (part := aside) (f := fun s r => updMac (f r) s) (fun _ _ => rfl) l v
  exact (spent ..).trans rfl

theorem placeFrames_aside {tk cls deadline : Nat} {policy share : Bool} {c j a : Nat} {alt : Bool}
    {fr : List (Nat × Option Seg)} {last : Nat} {first : Option Nat} {s u : State} {st en : Nat}
    (h : placeFrames tk cls deadline policy share c j a alt fr last first s = some (u, st, en)) : aside u = aside s := by
  induction fr generalizing last first s with
  | nil =>
    simp only [placeFrames, Option.some.injEq, Prod.mk.injEq] at h
    rw [← h.1]
  | cons p r ih =>
    simp only [placeFrames] at h
    split at h
    · cases h
    · split at h
      · cases h
      · exact (ih h).trans (book_aside ..)

theorem placeAttempts_aside (tk cls deadline : Nat) (policy share : Bool) (c : Nat) (fr : List (Nat × Option Seg))
    (k j a e : Nat) (s : State) : aside (placeAttempts tk cls deadline policy share c fr k j a e s).1 = aside s := by
  induction k generalizing j a e s with
  | zero => rfl
  | succ k ih =>
    unfold placeAttempts
    split
    · rfl
    · next h => exact (ih ..).trans (placeFrames_aside h)

theorem foldl_fst_aside {α β : Type} {f : State × α → β → State × α} (h : ∀ x b, aside (f x b).1 = aside x.1) (l : List β)
    (x : State × α) : aside (l.foldl f x).1 = aside x.1 := by
  induction l generalizing x with
  | nil => rfl
  | cons b r ih => exact (ih _).trans (h x b)

theorem placeAll_aside (tk cls deadline : Nat) (policy share : Bool) (ld : Load) (ts : List Target) (s : State) :
    aside (placeAll tk cls deadline policy share ld ts s).1 = aside s := by
  refine foldl_fst_aside (fun x c => ?_) ..
  exact placeAttempts_aside ..

theorem takeCfs_aside (cs : List Nat) (s : State) : aside (takeCfs cs s).1 = aside s := by
  induction cs generalizing s with
  | nil => rfl
  | cons c r ih => exact (ih _).trans rfl

/-- What a core's submission leaves of the lane pair and of the dictionary: only the count of tickets moves there. -/
structure Submits (s u : State) : Prop where
  lp : u.lp = s.lp
  rows : RowsKept [0x50020] s u

namespace Submits

variable {s v u : State}

theorem of_aside (h : aside u = aside s) : Submits s u := ⟨congrArg Prod.fst h, .of_dict (congrArg Prod.snd h)⟩

theorem of_eq (lp : u.lp = s.lp) (dict : u.dict = s.dict) : Submits s u := ⟨lp, .of_dict dict⟩

theorem refl (s : State) : Submits s s := of_eq rfl rfl

theorem trans (h : Submits s v) (k : Submits v u) : Submits s u := ⟨k.lp.trans h.lp, h.rows.trans k.rows⟩

end Submits

theorem countRefusal_submits (n cls : Nat) (s : State) : Submits s (countRefusal n cls s) :=
  .of_eq (by simp [countRefusal]) (by simp [countRefusal])

theorem decideAdmission_submits (obj cls : Nat) (tclass : Option Nat) (deadline : Nat) (who : Submitter) (d : Desc)
    (ld : Load) (s : State) : Submits s (decideAdmission obj cls tclass deadline who d ld s).1 := by
  have admitted (f : Mac → Mac) (g : Admission → Admission) (e : JEntry) (v : State) (h : aside v = aside s) :
      Submits s (journal e (updMac f (updAdm g (ropUp 0x50020 1 (cntUp 0x50011 v))))) := by
    refine (Submits.of_aside h).trans ⟨by simp, ?_⟩
    have counted : RowsKept [0x50020] (cntUp 0x50011 v) (ropUp 0x50020 1 (cntUp 0x50011 v)) :=
      .of_same (sameRowsBut_of_store (r := 0) (by decide) rfl rfl)
    exact (RowsKept.of_dict (by simp)).trans (counted.trans ⟨fun _ _ => rfl, fun _ _ _ _ => rfl⟩)
  unfold decideAdmission
  extract_lets policy ts fails
  split
  · exact countRefusal_submits ..
  split
  · exact .refl s
  split
  · exact .refl s
  split
  · exact countRefusal_submits ..
  split
  · exact countRefusal_submits ..
  split
  next s2 n e ok placed =>
  split
  · exact countRefusal_submits ..
  split
  next s3 cfs taken =>
  refine admitted _ _ _ s3 ?_
  have placed := congrArg (fun x => aside x.1) placed
  have taken := congrArg (fun x => aside x.1) taken
  exact (taken.symm.trans (takeCfs_aside ..)).trans (placed.symm.trans (placeAll_aside ..))

theorem nodeSubmission_submits (c : Core) (h : PortHalf) (s : State) : Submits s (nodeSubmission c h s).1 := by
  have raised (v : State) : Submits v (icuRaise 73 v) := .of_eq (by simp) (by simp)
  unfold nodeSubmission
  dsimp only
  split
  · exact .refl s
  split
  · exact .refl s
  split
  · exact .refl s
  split
  · exact .refl s
  split
  · exact .refl s
  split
  · exact .refl s
  split
  · exact .refl s
  split
  · exact .refl s
  exact (raised s).trans (decideAdmission_submits ..)

theorem submissionOf_submits (c : Core) (h : PortHalf) (q : PolicyAsk) (s : State) :
    Submits s ((submissionOf c h q).decide s).1 := by
  have select (z k hold : Nat) : Submits s ((subSelect z k hold).decide s).1 := by
    change Submits s (selectClass z k hold s).1
    unfold selectClass
    dsimp only
    repeat' split
    all_goals exact .of_eq rfl rfl
  have refused (r : Reply) : Submits s ((subRefuse r).decide s).1 := .refl s
  have copied (k f n d : Nat) : Submits s ((subCopy k f n d).decide s).1 := .refl s
  have function (h : PortHalf) : Submits s ((policyFunction h).decide s).1 := by
    unfold policyFunction
    dsimp only
    repeat' split
    all_goals simp [select, refused, copied]
  unfold submissionOf
  repeat' split
  all_goals simp [select, refused, copied, function, nodeSubmission_submits]

theorem updLane_submits (l : Lane) (f : LaneSt → LaneSt) (s : State) : Submits s (updLane l f s) := .of_eq rfl rfl

theorem updHalf_submits (l : Lane) (c : Core) (f : PortHalf → PortHalf) (s : State) : Submits s (updHalf l c f s) :=
  .of_eq (by simp) (by simp)

theorem takeVerdict_submits (l : Lane) (c : Core) (copy : Option HistJob) (r : Reply ⊕ Nat) (s : State) :
    Submits s (takeVerdict l c copy r s) := by
  unfold takeVerdict
  split
  · exact (updLane_submits ..).trans (updHalf_submits ..)
  · exact updHalf_submits ..

theorem mirrorVerdict_submits (l : Lane) (c : Core) (r : Reply ⊕ Nat) (s : State) :
    Submits s (mirrorVerdict l c r s) := by
  unfold mirrorVerdict
  dsimp only
  split
  · exact (updHalf_submits ..).trans (takeVerdict_submits ..)
  · exact updLane_submits ..

theorem submit_submits (l : Lane) (c : Core) (q : PolicyAsk) (s : State) : Submits s (submit l c q s) := by
  unfold submit
  extract_lets x h b a v
  have taken : Submits s v := (submissionOf_submits ..).trans (takeVerdict_submits ..)
  split
  · exact .refl s
  split
  · split
    · exact taken.trans (mirrorVerdict_submits ..)
    · exact taken
  split
  · split
    · exact (updLane_submits ..).trans (takeVerdict_submits ..)
    · exact updHalf_submits ..
  · exact updHalf_submits ..

theorem resumeGoes_submits (l : Lane) (s : State) : Submits s (resumeGoes l s) := by
  have one (c : Core) (v : State) : Submits v (resumeGo l c v) := by
    unfold resumeGo
    split
    · exact (updHalf_submits ..).trans (submit_submits ..)
    · exact .refl v
  exact (updLane_submits l _ s).trans ((one .A2 _).trans (one .A3 _))

end Sys2Proof.Machine
end

section
/-!
PROOFS. The lanes report, agree, switch over and restart (R281, R291, R292, R298, R301, R452), and the settlement of O38.
-/
namespace Sys2Proof.Machine

open Sys2Proof.Safety

@[simp] theorem otherLane_otherLane (l : Lane) : otherLane (otherLane l) = l := by cases l <;> rfl

/-! ### A switchover takes effect -/

theorem outSync_dict (s : State) : (outSync s).dict = s.dict := by
  have pin (k : Nat) (v : Bool) (s : State) : (setPin k v s).dict = s.dict := by
    unfold setPin switchPin
    repeat' split
    all_goals simp
  have driven (s : State) (k : Nat) : (driveOut k (outWanted s k) s).dict = s.dict := by
    unfold driveOut
    repeat' split
    all_goals simp [pin]
  unfold outSync
  split
  · exact foldl_keeps (fun s k => pin k false s) ..
  · split
    · rfl
    · exact foldl_keeps driven ..

theorem degradedSync_rowsKept (s : State) : RowsKept [0xB0101] s (degradedSync s) := by
  have cond (detail : Nat) (on : Bool) (v : State) : RowsKept [0xB0101] v (condSet 162 detail on v) := by
    unfold condSet
    split
    · split
      · exact .of_dict rfl
      · exact (RowsKept.of_same (stickySet_sameRows (by decide) ..)).trans ⟨fun _ _ => rfl, fun _ _ _ _ => rfl⟩
    · exact ⟨fun _ _ => rfl, fun _ _ _ _ => rfl⟩
  unfold degradedSync
  split <;> exact cond ..

theorem switchNoted_lp (n : Lane) (cause hf ht : Nat) (s : State) :
    (switchNoted n cause hf ht s).lp = { s.lp with matched := activeSeq s } := by
  unfold switchNoted
  extract_lets p s1 s2 s3 s4
  calc (degradedSync (outSync (markSwitch s4))).lp
      = s4.lp := by simp [markSwitch]
    _ = s3.lp := by simp only [s4]; split <;> simp
    _ = s1.lp := by simp [s3, s2]

/-- The last cause of a switchover stands in A:0018; what is logged and set after it leaves that row (R301). -/
theorem getN_switchNoted (n : Lane) (cause hf ht : Nat) (s : State) :
    getN (switchNoted n cause hf ht s) 0xA0018 = cause := by
  unfold switchNoted
  extract_lets p s1 s2 s3 s4
  have log := switchLog_rowsKept (sev := 5) (by decide) (otherLane n) cause 0 hf ht s2
  have stuck : RowsKept [0xB0101] _ s3 := .of_same (stickySet_sameRows (bit := 160) (by decide) cause _)
  have same : (outSync (markSwitch s4)).dict = s3.dict := by
    rw [outSync_dict]
    simp only [s4]
    split <;> simp [markSwitch]
  rw [(degradedSync_rowsKept _).getN (by decide) (by decide), getN_of_dict same, stuck.getN (by decide) (by decide),
    log.getN (by decide) (by decide)]
  exact getN_putN ..

/-- What a switchover starts again moves the requests that waited for it, and no more of the pair's course (R298). -/
theorem tookOver_course (n : Lane) (cause hf ht : Nat) (s : State) :
    (tookOver n cause hf ht s).lp.course = { s.lp with asked := [] }.course := by
  have resumed (v : State) : (resumeGoes n { v with lp := { v.lp with asked := [] } }).lp.course =
      { v.lp with asked := [] }.course := congrArg LanePair.course (resumeGoes_submits ..).lp
  refine (foldl_course answerAsked_course ..).trans ((resumed _).trans ?_)
  rw [switchNoted_lp]
  rfl

theorem getN_tookOver {s : State} (asked : s.lp.asked = []) (n : Lane) (cause hf ht : Nat) :
    getN (tookOver n cause hf ht s) 0xA0018 = cause := by
  have none_ : (switchNoted n cause hf ht s).lp.asked = [] := (congrArg LanePair.asked (switchNoted_lp ..)).trans asked
  unfold tookOver
  dsimp only
  rw [none_, List.foldl_nil, (resumeGoes_submits ..).rows.getN (by decide) (by decide)]
  exact getN_switchNoted ..

theorem oldActive_course (old : Lane) (cause : Nat) (s : State) : (oldActive old cause s).lp.course = s.lp.course := by
  unfold oldActive
  split
  · rfl
  split
  · simp
  split
  · simp
  · rfl

theorem oldActive_other (old : Lane) (cause : Nat) (s : State) :
    ((oldActive old cause s).lanes.get (otherLane old)).role = (s.lanes.get (otherLane old)).role := by
  unfold oldActive
  split
  · simp
  split
  · rw [(role_of_upd (setResync_duties ..)).2]
    simp
  split
  · exact (role_of_upd (restartLane_duties ..)).2
  · rfl

/-- The lane that takes over is active and owns the outputs; no switchover waits and no self-check runs (R292, R293). -/
theorem seized_course (n : Lane) (cause : Nat) (s : State) : (seized n cause s).lp.switch = none ∧
    (seized n cause s).lp.owner = some n ∧ (seized n cause s).lp.checking = none ∧
    (seized n cause s).lp.asked = s.lp.asked := by
  refine ⟨rfl, rfl, rfl, ?_⟩
  unfold seized
  extract_lets p s1 s2 s3 s4 q
  have planned : s1.lp.course = s.lp.course := by
    simp only [s1]
    split
    · rfl
    · exact voidPlanned_course s
  have released : s3.lp.course = s2.lp.course := by
    simp only [s3]
    split
    · rfl
    · exact releaseAll_course s2
  have kept : s3.lp.course = s.lp.course := released.trans ((releaseDiffering_course s1).trans planned)
  exact (asked_of_course kept :)

theorem seized_role (n : Lane) (cause : Nat) (s : State) : ((seized n cause s).lanes.get n).role = .active := by
  simp [seized]

/-- The lane that takes over is active and owns the outputs; no switchover waits, no self-check runs, and the cause stands
in A:0018 (R292, R301). -/
theorem takeOver_takes {s : State} (asked : s.lp.asked = []) (n : Lane) (cause : Nat) :
    ((takeOver n cause s).lanes.get n).role = .active ∧ (takeOver n cause s).lp.switch = none ∧
    (takeOver n cause s).lp.owner = some n ∧ (takeOver n cause s).lp.checking = none ∧
    getN (takeOver n cause s) 0xA0018 = cause := by
  obtain ⟨switch, owner, checking, waits⟩ := seized_course n cause s
  have old := oldActive_course (otherLane n) cause (seized n cause s)
  have took := tookOver_course n cause (healthOf s (otherLane n)) (healthOf s n)
    (oldActive (otherLane n) cause (seized n cause s))
  have none_ : (oldActive (otherLane n) cause (seized n cause s)).lp.asked = [] :=
    (asked_of_course old).trans (waits.trans asked)
  rw [takeOver_eq]
  refine ⟨?_, ?_, ?_, ?_, getN_tookOver none_ ..⟩
  · rw [role_of_duties (tookOver_duties ..)]
    have kept := oldActive_other (otherLane n) cause (seized n cause s)
    rw [otherLane_otherLane] at kept
    exact kept.trans (seized_role n cause s)
  · exact (switch_of_course took).trans ((switch_of_course old).trans switch)
  · exact (owner_of_course took).trans ((owner_of_course old).trans owner)
  · exact (checking_of_course took).trans ((checking_of_course old).trans checking)

/-! ### Starts -/

theorem active_of_role {s : State} {l : Lane} (own : (s.lanes.get l).role = .active)
    (other : (s.lanes.get (otherLane l)).role ≠ .active) : active s = some l := by
  unfold active
  cases l
  · exact if_pos own
  · exact (if_neg other).trans (if_pos own)

/-- A lane that starts alone is active and owns the outputs from now on (R281). -/
theorem startAlone_starts {s : State} (none_ : active s = none) (l : Lane) :
    active (startAlone l s) = some l ∧ (startAlone l s).lp.owner = some l ∧
    (startAlone l s).lp.agreedAt = some s.clk.fab := by
  obtain ⟨own, other⟩ := role_of_upd (startAlone_duties l s)
  refine ⟨active_of_role own ?_, ?_, ?_⟩
  · rw [other]
    exact role_of_active_none none_ _
  · rw [startAlone]
    exact owner_of_course (startService_course ..)
  · rw [startAlone]
    exact agreedAt_of_course (startService_course ..)

/-- The other lane starts as the standby or LAGGING; the one that is active is not touched (R281, R296). -/
theorem startOther_other (o : Lane) (s : State) :
    ((startOther o s).lanes.get (otherLane o)).role = (s.lanes.get (otherLane o)).role := by
  unfold startOther stayLagging startRole
  repeat' split
  all_goals simp

/-- The chosen lane starts, and the other beside it (R281). -/
theorem lanesAgree_starts (l : Lane) (s : State) :
    active (startService l (startOther (otherLane l) (startRole l .active s))) = some l ∧
    (startService l (startOther (otherLane l) (startRole l .active s))).lp.owner = some l ∧
    ((startService l (startOther (otherLane l) (startRole l .active s))).lanes.get (otherLane l)).role ≠ .active := by
  have duties := startService_duties l (startOther (otherLane l) (startRole l .active s))
  have started : ((startRole l .active s).lanes.get l).role = .active := (role_of_upd (startRole_duties ..)).1
  have own : ((startOther (otherLane l) (startRole l .active s)).lanes.get l).role = .active := by
    have kept := startOther_other (otherLane l) (startRole l .active s)
    rw [otherLane_otherLane] at kept
    exact kept.trans started
  rw [active_of_duties duties, role_of_duties duties]
  exact ⟨active_of_role own (startOther_role _ _), owner_of_course (startService_course ..), startOther_role _ _⟩

/-! ### Requests -/

theorem answer_planned (sid : Nat) (h : Hdr) (v : State) (r : Reply) :
    (answer sid h (v, some r)).lp.planned = v.lp.planned := by
  have sent := lp_of_unsent (unsent_sendReply h.assoc h.tclass sid h.seq h.typ { r with obj := h.obj }
    (cacheReply sid h.seq (some { r with obj := h.obj }) v))
  exact (congrArg LanePair.planned sent).trans (by simp)

/-- A SWITCHOVER with a standby and none planned is planned for the apply ASN (R298). -/
theorem evalSwitchover_planned {l : Lane} {s : State} (ha : active s = some l)
    (role : (s.lanes.get (otherLane l)).role = .standby) (free : s.lp.planned = none) :
    evalSwitchover s = okAsn (applyAsn s) { s with lp := { s.lp with
      planned := some { target := otherLane l, cause := 1, applyAsn := applyAsn s } } } := by
  unfold evalSwitchover
  rw [ha]
  exact if_neg (by simp [role, free])

theorem releaseAll_ib (s : State) : (releaseAll s).ib = s.ib :=
  foldl_keeps (part := State.ib) (fun s w => by simp) ..

theorem voidPlanned_ib (s : State) : (voidPlanned s).ib = s.ib := by
  unfold voidPlanned switchLog
  split <;> simp

@[simp] theorem fwEvent_ib (event sev failStep : Nat) (l : Lane) (bank : Nat) (s : State) :
    (fwEvent event sev failStep l bank s).ib = s.ib := by
  unfold fwEvent laneRecord holdRecord
  dsimp only
  repeat' split
  all_goals simp

theorem bootSelect_ib (l : Lane) (s : State) : (bootSelect l s).ib = s.ib := by
  have trial (v : State) : (bootTrial l v).ib = v.ib := by
    unfold bootTrial
    dsimp only
    repeat' split
    all_goals simp [bankFail]
  unfold bootSelect
  dsimp only
  repeat' split
  all_goals simp [fwMixedSync, bootStart, bankFail, bootRecovery, trial]

theorem degradedSync_ib (s : State) : (degradedSync s).ib = s.ib := by
  unfold degradedSync
  split <;> simp

/-- A lane's restart is none of the sessions' (R70). -/
theorem restartLane_ib (l : Lane) (s : State) : (restartLane l s).ib = s.ib := by
  unfold restartLane
  extract_lets s1 rel d s2 s3 lp s4
  have start : s1.ib = s.ib := by
    simp only [s1]
    split
    · exact (voidPlanned_ib _).trans (releaseAll_ib s)
    · rfl
  have ended : (cwvLaneStop l s2).ib = s2.ib := foldl_keeps (part := State.ib) (fun s e => by simp [cwvRecord]) ..
  calc (degradedSync (bootSelect l s4)).ib
      = s3.ib := by rw [degradedSync_ib, bootSelect_ib]
    _ = (cwvLaneStop l s2).ib := by simp [s3, meterLoad]
    _ = s1.ib := by rw [ended]; simp only [s2, laneRowsGone]
    _ = s.ib := start

theorem LaneSt.duty_report (x : LaneSt) : x.duty.report = x.report := rfl

theorem report_restartLane (l : Lane) (s : State) : ((restartLane l s).lanes.get l).report = none := by
  rw [← LaneSt.duty_report, ← Pair.get_duties, restartLane_duties, Pair.get_upd_same]
  rfl

/-! ### The commands -/

theorem startupMark_lanes (col : Nat) (s : State) : (startupMark col s).lanes = s.lanes := by
  unfold startupMark
  repeat' split
  all_goals rfl

theorem execLaneStartReport_reports {l : Lane} {s : State} (ha : active s = some (otherLane l))
    (role : (s.lanes.get l).role = .undecided) (run : (s.lanes.get l).running = true) (t r : Nat) :
    execLaneStartReport t l r s = done (tick t s) (startupMark 2 (updLane l (fun x =>
      { x with report := some (1000 - 400 * r, x.wasActive), bootAt := some (tick t s).clk.fab }) (tick t s))) := by
  have ha : active (tick t s) = some (otherLane l) := ha
  unfold execLaneStartReport
  dsimp only
  rw [if_pos (by exact ⟨role, run⟩), ha]
  rfl

theorem execAgreementTimeout_alone {t f : Nat} {l : Lane} {s : State} (none_ : active s = none) (sb : standby s = none)
    (rep : (s.lanes.get l).report.isSome = true) (other : (s.lanes.get (otherLane l)).report = none)
    (run : (s.lanes.get l).running = true) (role : (s.lanes.get l).role = .undecided)
    (boot : (s.lanes.get l).bootAt = some f) (due : f + Config.secCycles ≤ max s.clk.fab t) :
    execAgreementTimeout t l s = done (tick t s) (startAlone l (tick t s)) := by
  have none_ : active (tick t s) = none := none_
  have sb : standby (tick t s) = none := sb
  unfold execAgreementTimeout
  extract_lets s1 x late
  have free : late = true := by
    have boot : x.bootAt = some f := boot
    have due : f + Config.secCycles ≤ s1.clk.fab := due
    simp [late, boot, due]
  have first : (x.report.isSome && x.running && x.role == .undecided && late && (standby s1).isNone) = true := by
    have rep : x.report.isSome = true := rep
    have run : x.running = true := run
    have role : x.role = .undecided := role
    simp [rep, run, role, free, s1, sb]
  have second : ((active s1).isNone && (s1.lanes.get (otherLane l)).report.isNone) = true := by
    have other : (s1.lanes.get (otherLane l)).report = none := other
    rw [other, none_]
    rfl
  rw [if_pos first, if_pos second]

theorem execSwitchoverTakeEffect_due {t : Nat} {w : Switch} {s : State} (hw : s.lp.switch = some w)
    (due : w.applyAsn ≤ asn (tick t s)) (role : (s.lanes.get w.target).role = .standby) :
    execSwitchoverTakeEffect t s = done (tick t s) (takeOver w.target w.cause (tick t s)) := by
  have hw : (tick t s).lp.switch = some w := hw
  unfold execSwitchoverTakeEffect
  dsimp only
  rw [hw]
  exact (if_pos due).trans (congrArg (done (tick t s)) (if_pos role))

theorem execRestartStandby_passes {t sid : Nat} {h : Hdr} {args : List TVal} {s : State} {l : Lane}
    (hp : passes 0xA0301 [] false t h args sid s = true) (ha : active s = some l) :
    execRestartStandby t h args s =
      done (tick t s) (answer sid h (restartLane (otherLane l) (opState t h sid s), some (rOk .empty))) := by
  have ha : active (opState t h sid s) = some l := ha
  unfold execRestartStandby
  dsimp only
  rw [execCmd_passes hp, ha]
  rfl

section
variable {t : Nat} {l : Lane} {s : State} (on : s.power.mainOn = true) (live : s.life.state ≠ .scrapped)
include on live

theorem execAliveLoss_active (ha : active s = some l) (hs : standby s = some (otherLane l)) (free : s.lp.switch = none) :
    execAliveLoss t l s = done (tick t s) (decideSwitch (otherLane l) 5
      (updLane l (fun x => { x with alive := false }) (icuRaiseAt (otherLane l) 18 (tick t s)))) := by
  generalize hv : updLane l (fun x => { x with alive := false }) (icuRaiseAt (otherLane l) 18 (tick t s)) = v
  have standing : standby v = some (otherLane l) := by
    rw [← hs, ← hv]
    exact standby_of_duties (by simp)
  have none_ : v.lp.switch = none := by
    rw [← free, ← hv]
    simp
  have lost : activeLost l v = decideSwitch (otherLane l) 5 v := by
    rw [activeLost, if_pos standing, none_]
  refine (if_neg ?_).trans ((if_pos (.inl ha)).trans ?_)
  · change ¬(!s.power.mainOn || s.life.state == .scrapped) = true
    simp [on, live]
  · rw [← lost, ← hv]

theorem execAliveLoss_other (ha : active s = some (otherLane l)) (run : (s.lanes.get l).running = true) :
    execAliveLoss t l s = done (tick t s) (restartLane l (icuRaiseAt (otherLane l) 18 (tick t s))) := by
  have other : otherLane l ≠ l := by cases l <;> exact nofun
  refine (if_neg ?_).trans ((if_neg ?_).trans (if_pos ?_))
  · change ¬(!s.power.mainOn || s.life.state == .scrapped) = true
    simp [on, live]
  · change ¬(active s = some l ∨ ((active s).isNone = true ∧ _))
    simp [ha, other]
  · change ((s.lanes.get l).running && (active s).isSome) = true
    simp [run, ha]

end

/-- Settles O38: it holds. A start, a switchover and a restart each set the roles as `startAlone_starts`,
`lanesAgree_starts`, `takeOver_takes` and `restartLane_duties` say; what they write besides leaves the pair's course
alone. -/
theorem rolesDecided : Obligations.RolesDecided := by
  unfold Obligations.RolesDecided
  refine ⟨?report, ?agree, ?alone, ?effect, ?switchover, ?restart, ?activeLost, ?otherLost⟩
  case report =>
    intro t r l s ha role run
    refine runs_closed (execLaneStartReport_reports ha role run t r) fun u hu => ?_
    rw [hu.lanes l, startupMark_lanes, updLane_lanes, Pair.get_upd_same]
    exact ⟨rfl, rfl⟩
  case agree =>
    intro t s none_ ra rb runA runB roleA roleB
    have he : exec (.lanesAgree t) s = done (tick t s) (startService (chooseLane s)
        (startOther (otherLane (chooseLane s)) (startRole (chooseLane s) .active (tick t s)))) := by
      refine if_pos ?_
      have none_ : active (tick t s) = none := none_
      simp [none_, ra, rb, runA, runB, roleA, roleB]
    obtain ⟨act, owner, other⟩ := lanesAgree_starts (chooseLane s) (tick t s)
    refine runs_closed he fun u hu => ⟨hu.active.trans act, ?_, ?_⟩
    · exact (owner_of_course (course_of_unsent hu.unsent)).trans owner
    · exact (congrArg Prod.fst (congrFun hu.standing _)).trans_ne other
  case alone =>
    intro t f l s none_ sb rep other run role boot due
    obtain ⟨act, owner, agreed⟩ := startAlone_starts (s := tick t s) none_ l
    have course (u : State) (hu : Closed (startAlone l (tick t s)) u) := course_of_unsent hu.unsent
    have he : exec (.agreementTimeout t l) s = done (tick t s) (startAlone l (tick t s)) :=
      execAgreementTimeout_alone none_ sb rep other run role boot due
    refine runs_closed he fun u hu => ⟨hu.active.trans act, ?_, ?_⟩
    · exact (owner_of_course (course u hu)).trans owner
    · exact (agreedAt_of_course (course u hu)).trans agreed
  case effect =>
    intro t w s hw due role asked
    obtain ⟨act, switch, owner, checking, cause⟩ := takeOver_takes (s := tick t s) asked w.target w.cause
    refine runs_closed (execSwitchoverTakeEffect_due hw due role) fun u hu => ?_
    have course := course_of_unsent hu.unsent
    refine ⟨(switch_of_course course).trans switch, ?_, (owner_of_course course).trans owner,
      (checking_of_course course).trans checking, (getN_of_dict hu.dict _).trans cause⟩
    exact (congrArg Prod.fst (congrFun hu.standing w.target)).trans act
  case switchover =>
    intro t sid h args s l hp idle ha role free
    have live := opState_session (sessions_of_arrives (Bool.and_eq_true_iff.1 hp).1) t h
    have planned := evalSwitchover_planned (s := opState t h sid s) ha role free
    have he : exec (.switchover t h args) s = done (tick t s) (answer sid h (evalSwitchover (opState t h sid s))) := by
      refine congrArg (done (tick t s)) ((execCmd_passes hp _).trans (congrArg (answer sid h) (if_neg ?_)))
      simp [show (opState t h sid s).lp.checking = none from idle]
    rw [planned] at he
    obtain ⟨-, answered⟩ := answer_some (v := (okAsn (applyAsn (tick t s)) { opState t h sid s with lp := { s.lp with
      planned := some { target := otherLane l, cause := 1, applyAsn := applyAsn (tick t s) } } }).1) live h
      { rOk .empty with applyAsn := applyAsn (tick t s) }
    refine runs_closed he fun u hu => ⟨?_, hu.answered.2 ?_⟩
    · rw [hu.lp]
      exact answer_planned ..
    · rwa [obj_of_passes hp] at answered
  case restart =>
    intro t sid h args s l hp ha
    have live := opState_session (sessions_of_arrives (Bool.and_eq_true_iff.1 hp).1) t h
    obtain ⟨own, other⟩ := role_of_upd (restartLane_duties (otherLane l) (opState t h sid s))
    have report := report_restartLane (otherLane l) (opState t h sid s)
    obtain ⟨sent, answered⟩ := answer_some (v := restartLane (otherLane l) (opState t h sid s))
      (by rwa [restartLane_ib]) h (rOk .empty)
    refine runs_closed (execRestartStandby_passes hp ha) fun u hu => ?_
    have all := sent.trans hu.toOnlySends
    refine ⟨?_, ?_, ?_, hu.answered.2 ?_⟩
    · rw [all.lanes]
      exact own
    · rw [all.lanes]
      exact report
    · rw [all.lanes]
      rw [otherLane_otherLane] at other
      exact other.trans (role_of_active ha)
    · rwa [obj_of_passes hp] at answered
  case activeLost =>
    intro t l s on live ha hs free
    refine runs_closed (execAliveLoss_active on live ha hs free) fun u hu => ⟨?_, ?_⟩
    · rw [switch_of_course (course_of_unsent hu.unsent)]
      rfl
    · rw [hu.lanes l]
      exact congrArg LaneSt.alive (Pair.get_upd_same ..)
  case otherLost =>
    intro t l s on live ha _ run
    obtain ⟨own, other⟩ := role_of_upd (restartLane_duties l (icuRaiseAt (otherLane l) 18 (tick t s)))
    have report := report_restartLane l (icuRaiseAt (otherLane l) 18 (tick t s))
    refine runs_closed (execAliveLoss_other on live ha run) fun u hu => ⟨?_, ?_, ?_⟩
    · rw [hu.lanes l]
      exact own
    · rw [hu.lanes l]
      exact report
    · rw [hu.lanes (otherLane l)]
      exact other.trans ((role_of_duties (icuRaiseAt_duties ..) _).trans (role_of_active ha))

end Sys2Proof.Machine
end

section
/-!
PROOFS. Every command closes with `done` on a state whose clock is the command's own instant and whose queue is the one it
found (log entries 1 and 2), and the settlement of O1, O2 and O5.
-/
namespace Sys2Proof.Machine

open Sys2Proof.Safety

/-- An outcome that closes a meaning: `done`, on a state with the queue of `s` and a FAB count that has not run backward. -/
def Finishes (s : State) (o : Host.Outcome State Fault Refusal) : Prop :=
  ∃ s0 v, o = done s0 v ∧ s0.pending = s.pending ∧ s.clk.fab ≤ s0.clk.fab

theorem finishes_done {s s0 : State} (queue : s0.pending = s.pending) (clock : s.clk.fab ≤ s0.clk.fab) (v : State) :
    Finishes s (done s0 v) :=
  ⟨s0, v, rfl, queue, clock⟩

theorem finishes_tick (t : Nat) (s v : State) : Finishes s (done (tick t s) v) :=
  finishes_done (s := s) (s0 := tick t s) rfl (Nat.le_max_left ..) v

theorem Finishes.ite {s : State} {p : Prop} [Decidable p] {x y : Host.Outcome State Fault Refusal} (hx : Finishes s x)
    (hy : Finishes s y) : Finishes s (if p then x else y) := by
  split <;> assumption

theorem Finishes.next {s : State} {o : Host.Outcome State Fault Refusal} (h : Finishes s o) :
    ∃ u, o = .next u ∧ s.clk.fab ≤ u.clk.fab ∧ u.pending = s.pending := by
  obtain ⟨s0, v, rfl, queue, clock⟩ := h
  exact ⟨_, rfl, clock, queue⟩

theorem execSetup_finishes (t : Nat) (h : Hdr) (client : Bytes) (idle : Nat) (s : State) :
    Finishes s (execSetup t h client idle s) := by
  unfold execSetup
  extract_lets s1
  refine .ite (finishes_tick ..) ?_
  split
  · exact finishes_tick ..
  · next a _ =>
    extract_lets s2
    have same : s2.pending = s.pending ∧ s2.clk = s1.clk := by
      dsimp only [s2]
      split <;> exact ⟨rfl, rfl⟩
    have taken (v : State) : Finishes s (done s2 v) :=
      finishes_done same.1 (same.2 ▸ Nat.le_max_left ..) v
    split
    · exact taken _
    · split <;> exact taken _

theorem execIbierFrame_finishes (t : Nat) (way : Way) (rhVersion module tclass reserved size : Nat) (s : State) :
    Finishes s (execIbierFrame t way rhVersion module tclass reserved size s) := by
  unfold execIbierFrame
  extract_lets s1 src peer s2
  have same : s2.pending = s.pending ∧ s2.clk = s1.clk := by
    dsimp only [s2]
    split <;> exact ⟨rfl, rfl⟩
  have routed (v : State) : Finishes s (done s2 v) := finishes_done same.1 (same.2 ▸ Nat.le_max_left ..) v
  refine .ite (finishes_tick ..) (.ite (.ite (finishes_tick ..) ?_) (.ite (routed _) (.ite (routed _) ?_)))
  · split <;> exact finishes_tick ..
  · split <;> exact routed _

/-- Every well-formed command closes its meaning. Only an address beyond 32 bits would not (log entry 14). -/
theorem exec_finishes {c : Instr} (ok : instrOk c = true) (s : State) : Finishes s (exec c s) := by
  cases c
  case setup => exact execSetup_finishes ..
  case ibierFrame => exact execIbierFrame_finishes ..
  case registerWrite =>
    exact (congrArg (Finishes s) (if_neg (Nat.not_le_of_lt (of_decide_eq_true ok)))).mpr (finishes_tick ..)
  case busErrorRead =>
    exact (congrArg (Finishes s) (if_neg (Nat.not_le_of_lt (of_decide_eq_true ok)))).mpr (finishes_tick ..)
  case dtlsHandshake | ack | sessionIdleTimeout | leaseExpiry | subIntervalExpiry | subPeriodExpiry |
    completionResend | heldCompletionSend | completionHoldExpiry | presenceEventIngest | handoffRetry | handoff |
    handoffAck | boundaryList | boundaryUnmatchedTimeout | zeroCrossing | calMeasureDone | stringCurrentFault |
    ledRetestEnd | orderTag | orphanTimeout | comparisonRecord | outputReleaseTimeout | lagDetect | selfCheckDone |
    aliveLoss | switchoverTakeEffect | resyncRequest | stateTransferDone | resyncCompareEnd | laneStartReport |
    agreementTimeout | unitTest | hello | passThrough | topo | topoDeferredAdopt | topoFlood | breakMsg |
    memberSilentTimeout | handoverApply | ptpSync | ptpSyncSend | syncMiss | asnConflictTimeout | mainsTrimWindow |
    timeStep | slewComplete | vaultOpDone | encSuspendExpiry | claimLockoutExpiry | recordSubmit | recordWrite |
    gourGrant | gourWithdraw | sumpDataRead | busWatchdogAbort | sliceTick | sliceRestore | sweepEnd |
    powerFailWarning | vbdDip | keepTimeExpiry | outputGapEnd | diEdge | streamTimeout | bankProgramDone |
    trialConfirm | fwCommitApply =>
    simp only [exec, execDtlsHandshake, execAck, execSessionIdleTimeout, execLeaseExpiry, execSubIntervalExpiry,
          execSubPeriodExpiry, execCompletionResend, execHeldCompletionSend, execCompletionHoldExpiry,
          execPresenceEventIngest, execHandoffRetry, execHandoff, execHandoffAck, execBoundaryList,
          execBoundaryUnmatchedTimeout, execZeroCrossing, execCalMeasureDone, execStringCurrentFault,
          execLedRetestEnd, execOrderTag, execOrphanTimeout, execComparisonRecord, execOutputReleaseTimeout,
          execLagDetect, execSelfCheckDone, execAliveLoss, execSwitchoverTakeEffect, execResyncRequest,
          execStateTransferDone, execResyncCompareEnd, execLaneStartReport, execAgreementTimeout, execUnitTest,
          execHello, execPassThrough, execTopo, execTopoDeferredAdopt, execTopoFlood, execBreakMsg,
          execMemberSilentTimeout, execHandoverApply, execPtpSync, execPtpSyncSend, execSyncMiss,
          execAsnConflictTimeout, execMainsTrimWindow, execTimeStep, execSlewComplete, execVaultOpDone,
          execEncSuspendExpiry, execClaimLockoutExpiry, execRecordSubmit, execRecordWrite, execGourGrant,
          execGourWithdraw, execSumpDataRead, execBusWatchdogAbort, execSliceTick, execSliceRestore, execSweepEnd,
          execPowerFailWarning, execVbdDip, execKeepTimeExpiry, execOutputGapEnd, execDiEdge, execStreamTimeout,
          execBankProgramDone, execTrialConfirm, execFwCommitApply]
    with_reducible repeat' first | exact finishes_tick .. | apply Finishes.ite | split
  case datagramDrop | snapshot | historyHourEnd | turnsWeekEnd | adaptiveClassChange | classHoldExpiry | zcTimeout |
    measurementPeriodEnd | periodicSave | finalSaveRepeat | battMetStart | battWindow | battBudgetSpent |
    ledPeriodBoundary | safeLightTimeout | ledControlTick | padSensorStuck | hwOvertempCut | hwOvertempRelease |
    bypassClamp | flowstoneTick | inputArrival | forwardedInput | eccError | laneWatchdogExpiry | lanesAgree |
    autonegDone | autonegTimeout | helloRetry | tamperHello | linkDown | credit | creditSend | dcreditSend |
    linkReport | linkReportPeriodic | surveySnap | surveyRec | status | statusSend | pdelayExchange | asnSlewDone |
    ptpTrimUpdate | leapInstant | alarmFire | derive | loadSlot | sign | verify | ecdh | aeadSeal | aeadOpen | hmac |
    wrapExport | unwrapImport | rootCopy | tamperTrip | laneLocalTrip | sleepTrip | scrap | factoryRootsInstall |
    icuClaim | icuComplete | icuStuckTimeout | stopEntry | wakeEdge | semaphoreAcquire | semaphoreRelease |
    gourRequest | sumpFlush | sumpWordArrival | brownoutRecovery | vStop | por | cellLoadTest | coilSupplyLoss |
    coilSupplyReturn | keepaliveFail | baseplateHot | baseplateCool | outputTrip | coreCheckerFire |
    laneBridgeLinkUp | pendingRead =>
    exact .ite (finishes_tick ..) (finishes_tick ..)
  all_goals exact finishes_tick ..

/-- Settles O1: it holds, by the two cases of `step`. -/
theorem stepRunsFront : Obligations.StepRunsFront := by
  unfold Obligations.StepRunsFront
  refine ⟨fun c l s front => ?_, fun s empty => ?_⟩
  · rw [step, front]
  · rw [step, empty]

/-- Settles O2: it holds, by `exec_finishes`. -/
theorem commandsComplete : Obligations.CommandsComplete := by
  unfold Obligations.CommandsComplete
  exact fun c s ok => (exec_finishes ok s).next

/-- Settles O5: it holds. The front of a well-formed queue is a well-formed command, which finishes, and the rest of the
queue is well formed too. -/
theorem queueAndClock : Obligations.QueueAndClock := by
  unfold Obligations.QueueAndClock
  intro s u ok h
  unfold step at h
  split at h
  · next empty =>
    cases h
    exact ⟨by rw [empty]; rfl, ok, le_rfl⟩
  · next c rest front =>
    rw [queueOk, front, List.all_cons, Bool.and_eq_true] at ok
    obtain ⟨u', he, clock, queue⟩ := (exec_finishes ok.1 { s with pending := rest }).next
    cases he.symm.trans h
    exact ⟨by rw [front]; exact queue, by rw [queueOk, queue]; exact ok.2, clock⟩

end Sys2Proof.Machine
end

section
/-!
PROOFS. What the closing of a step leaves of every part of the state: all but what notices are made of.
-/
namespace Sys2Proof.Machine

open Sys2Proof.Safety

/-- What the closing of a step leaves of the state that its command made, every unit included. The clock keeps its offsets
and slews; with no subscription the closing sends nothing. -/
structure Final (v u : State) : Prop extends Settled v u where
  met : u.met = v.met
  led : u.led = v.led
  time : u.time = v.time
  life : u.life = v.life
  test : u.test = v.test
  power : u.power = v.power
  fw : u.fw = v.fw
  clk : u.clk = { v.clk with fab := u.clk.fab, prev := u.clk.prev }
  ib : v.ib.subs = [] → u.ib = v.ib

/-- A command whose meaning closes with `v` on `s0` runs; its next state is `v` but for what the closing sends, at the
instant of `s0`. -/
theorem runs_final_at {c : Instr} {s s0 v : State} {P : State → Prop} (he : exec c s = done s0 v)
    (hP : ∀ u, Final v u → u.clk.fab = s0.clk.fab → P u) : Runs c s P := by
  obtain ⟨u, hu, settled⟩ := runs_settled (P := Settled v) he fun _ => id
  refine ⟨u, hu, hP u { settled with
    met := ?_, led := ?_, time := ?_, life := ?_, test := ?_, power := ?_, fw := ?_, clk := ?clk, ib := ?ib } ?_⟩
  all_goals obtain rfl := Host.Outcome.next.inj (hu.symm.trans he)
  case clk => simp
  case ib =>
    intro none
    simp [settle, none]
  all_goals simp

theorem runs_final {c : Instr} {s s0 v : State} {P : State → Prop} (he : exec c s = done s0 v)
    (hP : ∀ u, Final v u → P u) : Runs c s P :=
  runs_final_at he fun u hu _ => hP u hu

end Sys2Proof.Machine
end

section
/-!
PROOFS. What the restart and the condemnation of a lane, the metering and the trunk leave alone: the clock, the anchor
drive, the time base, the life cycle, the self-test, the supplies and the cabinet.
-/
namespace Sys2Proof.Machine

open Sys2Proof.Safety

section
variable {c : Prop} [Decidable c] (s u : State)

@[simp] theorem ite_clk : (if c then s else u).clk = if c then s.clk else u.clk := apply_ite State.clk c s u
@[simp] theorem ite_ib : (if c then s else u).ib = if c then s.ib else u.ib := apply_ite State.ib c s u
@[simp] theorem ite_led : (if c then s else u).led = if c then s.led else u.led := apply_ite State.led c s u
@[simp] theorem ite_time : (if c then s else u).time = if c then s.time else u.time := apply_ite State.time c s u
@[simp] theorem ite_life : (if c then s else u).life = if c then s.life else u.life := apply_ite State.life c s u
@[simp] theorem ite_test : (if c then s else u).test = if c then s.test else u.test := apply_ite State.test c s u
@[simp] theorem ite_power : (if c then s else u).power = if c then s.power else u.power := apply_ite State.power c s u
@[simp] theorem ite_io : (if c then s else u).io = if c then s.io else u.io := apply_ite State.io c s u

end

/-! ### One lane, and the metering -/

/-- The units that nothing done to one lane reaches stand as they were. -/
@[simp] abbrev Quiet (s u : State) : Prop :=
  u.clk = s.clk ∧ u.led = s.led ∧ u.time = s.time ∧ u.life = s.life ∧ u.test = s.test ∧ u.power = s.power ∧ u.io = s.io

@[simp] theorem foldl_quiet {β : Type} {f : State → β → State} (h : ∀ s b, Quiet s (f s b)) (l : List β) (s : State) :
    Quiet s (l.foldl f s) := by
  induction l generalizing s with
  | nil => simp
  | cons b r ih => simp [ih, h]

@[simp] theorem holdRecord_quiet (l : Lane) (r : Record) (s : State) : Quiet s (holdRecord l r s) := by simp [holdRecord]
@[simp] theorem laneRecord_quiet (l : Lane) (typ sev source : Nat) (payload : Bytes) (s : State) :
    Quiet s (laneRecord l typ sev source payload s) := by simp [laneRecord]
@[simp] theorem laneStateRec_quiet (l : Lane) (event unit : Nat) (s : State) : Quiet s (laneStateRec l event unit s) := by
  simp [laneStateRec]
@[simp] theorem switchLog_quiet (sev : Nat) (src : Lane) (cause result hf ht : Nat) (s : State) :
    Quiet s (switchLog sev src cause result hf ht s) := by simp [switchLog]

@[simp] theorem voidPlanned_quiet (s : State) : Quiet s (voidPlanned s) := by
  unfold voidPlanned
  split <;> simp

@[simp] theorem releaseAll_quiet (s : State) : Quiet s (releaseAll s) := by simp [releaseAll]

@[simp] theorem degradedSync_quiet (s : State) : Quiet s (degradedSync s) := by
  unfold degradedSync
  split <;> simp

@[simp] theorem cwvRecord_quiet (e : Cwv) (s : State) : Quiet s (cwvRecord e s) := by simp [cwvRecord]
@[simp] theorem cwvEnd_quiet (ends : Cwv → Bool) (s : State) : Quiet s (cwvEnd ends s) := by simp [cwvEnd]
@[simp] theorem meterLoad_quiet (l : Lane) (s : State) : Quiet s (meterLoad l s) := by simp [meterLoad]
@[simp] theorem fwEvent_quiet (event sev failStep : Nat) (l : Lane) (bank : Nat) (s : State) :
    Quiet s (fwEvent event sev failStep l bank s) := by simp [fwEvent]
@[simp] theorem bankFail_quiet (l : Lane) (bank step : Nat) (s : State) : Quiet s (bankFail l bank step s) := by
  simp [bankFail]
@[simp] theorem bootStart_quiet (l : Lane) (bank : Nat) (trial : Bool) (retries : Nat) (s : State) :
    Quiet s (bootStart l bank trial retries s) := by simp [bootStart]
@[simp] theorem bootRecovery_quiet (l : Lane) (s : State) : Quiet s (bootRecovery l s) := by simp [bootRecovery]
@[simp] theorem bootTrial_quiet (l : Lane) (s : State) : Quiet s (bootTrial l s) := by simp [bootTrial]
@[simp] theorem bootSelect_quiet (l : Lane) (s : State) : Quiet s (bootSelect l s) := by simp [bootSelect, fwMixedSync]
@[simp] theorem restartLane_quiet (l : Lane) (s : State) : Quiet s (restartLane l s) := by
  simp [restartLane, cwvLaneStop, laneRowsGone]

@[simp] theorem condemn_quiet (l : Lane) (c : Condemn) (s : State) : Quiet s (condemn l c s) := by
  simp [condemn, decideSwitch]

@[simp] theorem feed_quiet (l : Lane) (k : Scale) (xs : List (List Int)) (s : State) : Quiet s (feed l k xs s) := by
  simp [feed, addInterval]

@[simp] theorem feedCuts_quiet (l : Lane) (xs : List (List Int)) (n : Nat) (cuts : List (Nat × Scale)) (s : State) :
    Quiet s (feedCuts l xs n cuts s) := by
  induction cuts generalizing xs n s with
  | nil => simp [feedCuts]
  | cons c r ih => simp [feedCuts, ih]

@[simp] theorem closeInterval_quiet (a b : Samples) (s : State) : Quiet s (closeInterval a b s) := by
  simp [closeInterval, holdTop]
@[simp] theorem writeSlot_quiet (l : Lane) (g : SaveSlot) (s : State) : Quiet s (writeSlot l g s) := by simp [writeSlot]
@[simp] theorem saveSlot_quiet (final : Bool) (s : State) : Quiet s (saveSlot final s) := by simp [saveSlot]
@[simp] theorem bootSave_quiet (l : Lane) (s : State) : Quiet s (bootSave l s) := by simp [bootSave]
@[simp] theorem finalSave_quiet (a b : Samples) (s : State) : Quiet s (finalSave a b s) := by simp [finalSave]

/-! ### The trunk -/

/-- The units that nothing done on the trunk reaches stand as they were, the Ibier service among them. -/
@[simp] abbrev Wired (s u : State) : Prop :=
  u.ib = s.ib ∧ u.led = s.led ∧ u.life = s.life ∧ u.test = s.test ∧ u.power = s.power ∧ u.io = s.io

@[simp] theorem foldl_wired {β : Type} {f : State → β → State} (h : ∀ s b, Wired s (f s b)) (l : List β) (s : State) :
    Wired s (l.foldl f s) := by
  induction l generalizing s with
  | nil => simp
  | cons b r ih => simp [ih, h]

@[simp] theorem freeIngress_wired (p cls vc units : Nat) (s : State) : Wired s (freeIngress p cls vc units s) := by
  simp [freeIngress]
@[simp] theorem passOn_wired (p : Nat) (f : TrunkFrame) (s : State) : Wired s (passOn p f s) := by simp [passOn]
@[simp] theorem serveQueue_wired (p : Nat) (q : Nat × Nat × TMsg) (s : State) : Wired s (serveQueue p q s) := by
  simp [serveQueue]

theorem serveClass_wired {p cls : Nat} {s u : State} (h : serveClass p cls s = some u) : Wired s u := by
  simp only [serveClass] at h
  split at h
  case h_1 => cases h
  case h_2 => cases h; simp
  all_goals
    next own =>
      have kept : ∀ s, Wired s (‹State → State› s) := by
        split at own
        · split at own <;> cases own
          simp
        · obtain ⟨_, _, rfl⟩ := Option.map_eq_some_iff.mp own
          simp
      cases h
      simp [kept]

@[simp] theorem serveEgress_wired (p n : Nat) (s : State) : Wired s (serveEgress p n s) := by
  induction n generalizing s with
  | zero => simp [serveEgress]
  | succ n ih =>
    unfold serveEgress
    split
    · next h =>
      obtain ⟨c, -, hc⟩ := List.exists_of_findSome?_eq_some h
      simp [ih, serveClass_wired hc]
    · simp

@[simp] theorem retryPort_wired (p : Nat) (s : State) : Wired s (retryPort p s) := by simp [retryPort]
@[simp] theorem dropLost_wired (s : State) : Wired s (dropLost s) := by simp [dropLost]
@[simp] theorem retryVoq_wired (s : State) : Wired s (retryVoq s) := by simp [retryVoq]

@[simp] theorem startupMark_wired (col : Nat) (s : State) : Wired s (startupMark col s) := by
  unfold startupMark
  split
  · simp
  · split <;> simp

@[simp] theorem listPort_wired (m : TopoMsg) (p : Nat) (s : State) : Wired s (listPort m p s) := by simp [listPort]
@[simp] theorem sendDcredit_wired (reset : Bool) (s : State) (n : Nat) : Wired s (sendDcredit reset s n) := by
  simp [sendDcredit]
@[simp] theorem resetDcredits_wired (m : TopoMsg) (s : State) : Wired s (resetDcredits m s) := by simp [resetDcredits]
@[simp] theorem ringOpens_wired (s : State) : Wired s (ringOpens s) := by simp [ringOpens]
@[simp] theorem sendList_wired (s : State) (m : Nat) : Wired s (sendList s m) := by simp [sendList]
@[simp] theorem moduleReached_wired (s : State) (m : Nat) : Wired s (moduleReached s m) := by simp [moduleReached]
@[simp] theorem alarmFireRow_wired (r last next : Nat) (stepped : Bool) (skipped : Nat) (s : State) :
    Wired s (alarmFireRow r last next stepped skipped s) := by simp [alarmFireRow]
@[simp] theorem alarmMoved_wired (s : State) (r : Nat) : Wired s (alarmMoved s r) := by simp [alarmMoved]
@[simp] theorem alarmsMoved_wired (s : State) : Wired s (alarmsMoved s) := by simp [alarmsMoved]
@[simp] theorem stepTai_wired (corr : Int) (source : Nat) (client : Bytes) (s : State) :
    Wired s (stepTai corr source client s) := by simp [stepTai, timeLog, foldSlew]
@[simp] theorem adoptTopo_wired (m : TopoMsg) (s : State) : Wired s (adoptTopo m s) := by simp [adoptTopo]
@[simp] theorem flood_wired (p : Nat) (m : TMsg) (s : State) : Wired s (flood p m s) := by simp [flood]
@[simp] theorem issueTopo_wired (m : TopoMsg) (atOnce : Bool) (s : State) : Wired s (issueTopo m atOnce s) := by
  simp [issueTopo, floodTopo]

@[simp] theorem masterTopo_wired (s : State) : Wired s (masterTopo s) := by
  unfold masterTopo
  dsimp only
  repeat' split
  all_goals simp

@[simp] theorem reportLinks_wired (s : State) : Wired s (reportLinks s) := by simp [reportLinks]
@[simp] theorem portConds_wired (p : Nat) (s : State) : Wired s (portConds p s) := by simp [portConds]
@[simp] theorem turnFrame_wired (p : Nat) (s : State) (f : TrunkFrame) : Wired s (turnFrame p s f) := by
  simp [turnFrame]
@[simp] theorem ringBreakRec_wired (a b port : Nat) (s : State) : Wired s (ringBreakRec a b port s) := by
  simp [ringBreakRec]
@[simp] theorem linkEnds_wired (p : Nat) (s : State) : Wired s (linkEnds p s) := by simp [linkEnds]

end Sys2Proof.Machine
end

section
/-!
PROOFS. The power path (R438 to R443, R458, R503), and the settlement of O39.
-/
namespace Sys2Proof.Machine

open Sys2Proof.Safety

/-- A condition bit reads whether its condition holds (R384). -/
theorem live_condSet_same {bit : Nat} (h : bit < 256) (detail : Nat) (on : Bool) (s : State) :
    (condSet bit detail on s).dict.live.getLsbD bit = on := by
  cases on
  · simp [condSet, h]
  · exact live_condSet h detail s

/-! ### The warning and the end of main power -/

theorem shedStrings_power (s : State) : (shedStrings s).power = s.power := by
  simp [shedStrings, foldl_keeps (part := State.power)]

theorem shedStrings_dict (s : State) : (shedStrings s).dict = s.dict := by
  unfold shedStrings
  split
  · rfl
  · exact foldl_keeps (part := State.dict) (fun s k => by simp) ..

@[simp] theorem diEdge_power (n : Nat) (on : Bool) (s : State) : (diEdge n on s).power = s.power := by simp [diEdge]

theorem sliceAbort_power (s : State) : (sliceAbort s).power = s.power := by
  unfold sliceAbort
  extract_lets s1
  split
  · rfl
  · simp [stResult, classBit, selfTestRec, sliceReturn, driveString, foldl_keeps (part := State.power), s1]

theorem syncDrain_draining (s : State) : (syncDrain s).recd.draining = s.recd.draining := by
  unfold syncDrain
  split
  · split <;> rfl
  · rfl

theorem stopped_wipe_stopLanes (s : State) (l : Lane) :
    ((wipe (stopLanes s)).lanes.get l).role = .undecided ∧ ((wipe (stopLanes s)).lanes.get l).running = false := by
  cases l <;> exact ⟨rfl, rfl⟩


/-! ### Main power comes back -/

@[simp] theorem bootLane_quiet (s : State) (l : Lane) : Quiet s (bootLane s l) := by simp [bootLane, laneRowsGone]

@[simp] theorem meterBoot_quiet (s : State) : Quiet s (meterBoot s) := by simp [meterBoot]

@[simp] theorem scanRec_quiet (s : State) : Quiet s (scanRec s) := by
  unfold scanRec
  extract_lets s1 s2
  have same : Quiet s s2 := by simp [s1, s2]
  split
  · exact same
  · split <;> simpa using same

/-- Both lanes boot without a role (R26, R452). -/
theorem bootLane_duties (s : State) (l : Lane) : (bootLane s l).lanes.duties = s.lanes.duties.upd l Duty.restarted := by
  have booted (v : State) : (bootSelect l (updLane l (resetLaneSt v.clk.fab (time64 v)) v)).lanes.duties =
      v.lanes.duties.upd l Duty.restarted := by
    rw [bootSelect_duties]
    exact Pair.duties_upd_eq (fun _ => rfl) l _
  simp [bootLane, booted]

theorem bootModule_undecided (c : StartCause) (s : State) (l : Lane) :
    ((bootModule c s).lanes.get l).role = .undecided := by
  have duties : (bootModule c s).lanes.duties = (s.lanes.duties.upd .A Duty.restarted).upd .B Duty.restarted := by
    simp [bootModule, bootLane_duties]
  have h : ((bootModule c s).lanes.duties.get l).role = .undecided := by
    rw [duties]
    cases l <;> rfl
  rwa [Pair.get_duties] at h

@[simp] theorem bootLane_ib (s : State) (l : Lane) : (bootLane s l).ib = s.ib := by
  simp [bootLane, laneRowsGone, bootSelect_ib]

@[simp] theorem scanRec_ib (s : State) : (scanRec s).ib = s.ib := by
  unfold scanRec
  extract_lets s1 s2
  have same : s2.ib = s.ib := by simp [s1, s2]
  split
  · exact same
  · split <;> simpa using same

/-- Booting changes nothing of the supplies but what names the start. -/
theorem bootModule_units (c : StartCause) (s : State) :
    (bootModule c s).led = s.led ∧ (bootModule c s).life = s.life ∧ (bootModule c s).ib = s.ib ∧
    (bootModule c s).power = { s.power with cause := c, porFab := s.clk.fab, restart := none } := by
  simp [bootModule, meterBoot, meterLoad, updPower]

/-- No session lives, and nothing is subscribed to. -/
def NoSessions (b : Ibier) : Prop := b.sessions = [] ∧ b.subs = []

/-- What the start of main power sets of the supplies and nothing after it moves. -/
def Power.rails (p : Power) : Bool × Bool × Bool × Nat := (p.mainOn, p.warning, p.ledShed, p.porFab)

theorem dipEnd_units (s : State) : (dipEnd s).led = s.led ∧ (dipEnd s).ib = s.ib ∧ (dipEnd s).power.rails = s.power.rails := by
  unfold dipEnd
  split
  · exact ⟨rfl, rfl, rfl⟩
  · split
    · simp [latchLost, updPower, Power.rails]
    · extract_lets s1
      have same : s1.led = s.led ∧ s1.ib = s.ib ∧ s1.power.rails = s.power.rails := by
        simp [s1, updPower, Power.rails]
      split
      · exact same
      · simpa [sleepRecord, updPower, Power.rails] using same

theorem zeroLane_quiet (l : Lane) (f : Vault → Vault) (s : State) : Quiet s (zeroLane l f s) := by
  unfold zeroLane
  dsimp only
  split <;> simp

theorem enterTampered_units (cause : Nat) (s : State) :
    (enterTampered cause s).led = s.led ∧ NoSessions (enterTampered cause s).ib ∧
    (enterTampered cause s).power = s.power := by
  have h := zeroLane_quiet
  simp [enterTampered, lcMove, lcLog, dropSessions, NoSessions, h]

theorem retentionLoss_units (canaryOk : Bool) (s : State) (none : NoSessions s.ib) :
    (retentionLoss canaryOk s).led = s.led ∧ NoSessions (retentionLoss canaryOk s).ib ∧
    (retentionLoss canaryOk s).power.rails = s.power.rails := by
  unfold retentionLoss
  extract_lets tampered s1 s2 d clk s3 s4 s5 s6 s7
  have lost : s7.led = s.led ∧ s7.ib = s.ib ∧ s7.power.rails = s.power.rails := by
    simp [s7, s6, s5, s4, s3, s2, s1, updPower, Power.rails]
  obtain ⟨led, ib, rails⟩ := lost
  clear_value s7
  split
  · simp [enterTampered_units, led, rails]
  · exact ⟨led, ib ▸ none, rails⟩

/-- The verdict on the battery domain's retention (R449 to R451) leaves the lamp and the supplies, and opens no session. -/
theorem settleRetention_units (canaryOk : Bool) (s : State) (none : NoSessions s.ib) :
    (settleRetention canaryOk s).led = s.led ∧ NoSessions (settleRetention canaryOk s).ib ∧
    (settleRetention canaryOk s).power.rails = s.power.rails := by
  obtain ⟨led, ib, rails⟩ := dipEnd_units s
  unfold settleRetention
  extract_lets s1
  split
  · generalize e : (if s1.power.lost then s1 else addC 0x00411 0 4 1 s1) = s2
    have counted : s2.led = s.led ∧ s2.ib = s.ib ∧ s2.power.rails = s.power.rails := by
      simp [← e, s1, led, ib, rails]
    obtain ⟨led, ib, rails⟩ := counted
    obtain ⟨led', none', rails'⟩ := retentionLoss_units canaryOk s2 (ib ▸ none)
    exact ⟨led'.trans led, none', rails'.trans rails⟩
  · split
    · simp [enterTampered_units, s1, led, rails]
    · exact ⟨led, ib ▸ none, rails⟩

theorem condemn_ib (l : Lane) (c : Condemn) (s : State) : (condemn l c s).ib = s.ib := by
  simp [condemn, decideSwitch, laneStateRec, restartLane_ib, degradedSync_ib]

theorem parityScan_units (l : Lane) (ok : Bool) (s : State) :
    (parityScan l ok s).led = s.led ∧ (parityScan l ok s).ib = s.ib ∧ (parityScan l ok s).power = s.power := by
  unfold parityScan
  split
  · simp [unsealVault]
  · simp [condemn_ib]

theorem active_none_of_undecided {s : State} (none : ∀ k, (s.lanes.get k).role = .undecided) : active s = Option.none := by
  have a : s.lanes.a.role = .undecided := none .A
  have b : s.lanes.b.role = .undecided := none .B
  simp [active, a, b]

/-- A lane with no role that fails its parity scan stays without one. -/
theorem parityScan_undecided {l k : Lane} {s : State} (none : ∀ k, (s.lanes.get k).role = .undecided) (ok : Bool) :
    ((parityScan l ok s).lanes.get k).role = .undecided := by
  have kept : (parityScan l ok s).lanes.duties = s.lanes.duties := by
    unfold parityScan
    split
    · simp [unsealVault]
    · rw [condemn_eq, active_none_of_undecided none, if_neg nofun, if_pos (none l), marked_duties]
  rw [role_of_duties kept, none k]

/-! ### The coil supply and the outputs -/

theorem outOf_switchPin_ne {j k : Nat} (h : j ≠ k) (v : Bool) (s : State) : outOf (switchPin k v s) j = outOf s j := by
  unfold switchPin
  split <;> simp [outOf, updOut, lget_lmod_ne _ _ _ _ _ h]

theorem pin_switchPin {k : Nat} {s : State} (h : k < s.io.outs.length) (v : Bool) : (outOf (switchPin k v s) k).pin = v := by
  unfold switchPin
  split
  · simpa [outOf, updOut, h]
  · simp [outOf, updOut, h]

/-- Driving outputs leaves alone what the wanted state of another output rests on (R361, R365, R443, R496). -/
structure SameWants (s u : State) : Prop where
  scrap : u.io.scrap = s.io.scrap
  life : u.life = s.life
  dict : u.dict = s.dict
  active : active u = active s
  test : u.test = s.test
  count : u.io.outs.length = s.io.outs.length

theorem SameWants.wanted {s u : State} (h : SameWants s u) {k : Nat} (own : outOf u k = outOf s k) :
    outWanted u k = outWanted s k := by
  simp [outWanted, isTampered, own, h.scrap, h.life, getC, getRow_of_dict h.dict]

theorem switchPin_sameWants (k : Nat) (v : Bool) (s : State) : SameWants s (switchPin k v s) := by
  refine ⟨?_, by simp, ?_, active_of_duties (switchPin_duties k v s), ?_, ?_⟩
  all_goals
    unfold switchPin
    split <;> simp [updOut, length_lmod]

/-- With an active lane and no slice under test, each output takes the state wanted of it as its supply returns (R443). -/
theorem foldl_outReturn {l : List Nat} (once : l.Nodup) {s : State} (act : (active s).isSome = true)
    (free : s.test.slice = none) (inside : ∀ k ∈ l, k < s.io.outs.length) :
    (∀ k ∈ l, (outOf (l.foldl outReturn s) k).pin = outWanted s k) ∧
    (∀ k, k ∉ l → outOf (l.foldl outReturn s) k = outOf s k) ∧ (l.foldl outReturn s).dict = s.dict := by
  induction l generalizing s with
  | nil => simp
  | cons j r ih =>
    have now : outReturn s j = switchPin j (outWanted s j) s := by simp [outReturn, act, setPin, inSlice, free]
    have same := switchPin_sameWants j (outWanted s j) s
    obtain ⟨fresh, once⟩ := List.nodup_cons.mp once
    obtain ⟨own, other, dict⟩ := ih once (by rw [same.active, act]) (by rw [same.test, free])
      (fun k hk => by rw [same.count]; exact inside k (List.mem_cons_of_mem _ hk))
    rw [List.foldl_cons, now]
    refine ⟨fun k hk => ?_, fun k hk => ?_, dict.trans same.dict⟩
    · rcases List.mem_cons.mp hk with rfl | hk
      · rw [other _ fresh]
        exact pin_switchPin (inside _ hk) _
      · rw [own k hk]
        exact same.wanted (outOf_switchPin_ne (ne_of_mem_of_not_mem hk fresh) _ _)
    · rw [List.mem_cons, not_or] at hk
      rw [other k hk.2, outOf_switchPin_ne hk.1]

theorem getRow_condSet_off (bit d : Nat) (s : State) (n r : Nat) : getRow (condSet bit d false s) n r = getRow s n r := rfl

/-! ### The commands -/

/-- The warning comes into force, and with an active lane the recorder drains (R381, R440). -/
theorem exec_powerFailWarning {t : Nat} {a b : Samples} {s : State} (on : s.power.mainOn = true)
    (calm : s.power.warning = false) : ∃ v, exec (.powerFailWarning t a b) s = done (tick t s) v ∧
      v.power = { s.power with warning := true, warnTime := some (time64 (tick t s)), warnFab := max s.clk.fab t
                               ledShed := true } ∧
      ((active s).isSome = true → v.recd.draining = true) := by
  change ∃ v, execPowerFailWarning t a b s = done (tick t s) v ∧ _
  unfold execPowerFailWarning
  extract_lets s0 s1 s2 s3 s4
  have power : s2.power = { s.power with
      warning := true, warnTime := some (time64 (tick t s)), warnFab := max s.clk.fab t, ledShed := true } := by
    simp [s2, s1, shedStrings_power, updPower, tick, s0]
  have act : active s2 = active s := active_of_duties (by simp [s2, s1, s0])
  rw [if_neg (by simp [s0, on, calm])]
  split
  · exact ⟨_, rfl, .trans (by simp [s4, s3, sliceAbort_power]) power, fun _ => syncDrain_draining _⟩
  · next idle => exact ⟨_, rfl, .trans (by simp) power, fun h => absurd (act ▸ h) idle⟩

/-- The recorder drains no more, and its supplies and journal aside nothing else moves (R379, R441). -/
theorem endDrain_units (s : State) : (endDrain s).recd.draining = false ∧ (endDrain s).power = s.power := by
  unfold endDrain
  extract_lets s1
  split <;> exact ⟨rfl, rfl⟩

theorem backupSwitch_units (s : State) :
    (backupSwitch s).power = s.power ∧ (backupSwitch s).dict.live = s.dict.live ∧ (backupSwitch s).lanes = s.lanes ∧
    (backupSwitch s).ib = s.ib ∧ (backupSwitch s).lp = s.lp := by
  unfold backupSwitch
  split <;> exact ⟨rfl, rfl, rfl, rfl, rfl⟩

theorem exec_vStop {t : Nat} {s : State} (on : s.power.mainOn = true) : ∃ v, exec (.vStop t) s = done (tick t s) v ∧
    v.power.mainOn = false ∧ v.power.keepaliveOk = false ∧ (∀ l, (v.lanes.get l).role = .undecided ∧
      (v.lanes.get l).running = false) ∧ NoSessions v.ib ∧ v.lp.owner = none := by
  obtain ⟨w, e⟩ : ∃ w, w = wipe (stopLanes (foldRealigned (tearRec (cwvStop (tick t s))))) := ⟨_, rfl⟩
  have lanes := stopped_wipe_stopLanes (foldRealigned (tearRec (cwvStop (tick t s))))
  have ib : NoSessions w.ib := by rw [e]; exact ⟨rfl, rfl⟩
  have owner : w.lp.owner = none := by rw [e]; rfl
  rw [← e] at lanes
  refine ⟨_, (if_neg (by simp [on])).trans (by rw [← e]), ?_⟩
  simp [backupSwitch_units, battAway, updPower, lanes, ib, owner]

/-- What the start of the module on the rails `r` leaves of the supplies, the lamp, the roles and the sessions (R452). -/
structure Started (r : Bool × Bool × Bool × Nat) (lamp : Led) (u : State) : Prop where
  rails : u.power.rails = r
  led : u.led = lamp
  idle : ∀ l, (u.lanes.get l).role = .undecided
  none : NoSessions u.ib

theorem started_bootModule (cause : StartCause) (s : State) :
    Started (s.power.mainOn, s.power.warning, s.power.ledShed, s.clk.fab) (wipeLed s.led) (bootModule cause (wipe s)) := by
  obtain ⟨led, -, ib, power⟩ := bootModule_units cause (wipe s)
  refine ⟨by rw [power]; rfl, led, bootModule_undecided cause (wipe s), by rw [ib]; exact ⟨rfl, rfl⟩⟩

theorem Started.settleRetention {r lamp} {s : State} (h : Started r lamp s) (c : Bool) :
    Started r lamp (settleRetention c s) := by
  obtain ⟨led, ib, rails⟩ := settleRetention_units c s h.none
  exact ⟨rails.trans h.rails, led.trans h.led, fun l => (role_of_duties (settleRetention_duties c s) l).trans (h.idle l), ib⟩

theorem Started.parityScan {r lamp} {s : State} (h : Started r lamp s) (l : Lane) (ok : Bool) :
    Started r lamp (parityScan l ok s) := by
  obtain ⟨led, ib, power⟩ := parityScan_units l ok s
  exact ⟨by rw [power, h.rails], led.trans h.led, fun k => parityScan_undecided h.idle ok, by rw [ib]; exact h.none⟩

theorem Started.trunk {r lamp} {s : State} (h : Started r lamp s) (k : Trunk) : Started r lamp { s with trunk := k } :=
  ⟨h.rails, h.led, h.idle, h.none⟩

/-- At POR main power is on with no warning, the lamp's safe set is the reset one, and no lane has a role (R263, R452). -/
theorem exec_por {t : Nat} {c pa pb : Bool} {s : State} (off : s.power.mainOn = false) :
    ∃ v lamp, exec (.por t c pa pb) s = done (tick t s) v ∧ lamp.safeOn = true ∧ lamp.safe = State.reset.led.safe ∧
      Started (true, false, false, max s.clk.fab t) lamp v := by
  change ∃ v lamp, execPor t c pa pb s = done (tick t s) v ∧ _
  unfold execPor
  extract_lets s0 s1 s2 s3 s4 trunk s5
  have begun : (s3.power.mainOn, s3.power.warning, s3.power.ledShed, s3.clk.fab) = (true, false, false, max s.clk.fab t) := by
    simp [s3, s2, s1, s0, battReturn, battStop, updPower, updLed, tick]
  have lamp : s3.led.safeOn = true ∧ s3.led.safe = State.reset.led.safe := by
    simp [s3, updLed]
  clear_value s3
  have boot := started_bootModule s3.power.cause s3
  rw [begun] at boot
  have settled : Started (true, false, false, max s.clk.fab t) (wipeLed s3.led) s4 := boot.settleRetention c
  have start : Started (true, false, false, max s.clk.fab t) (wipeLed s3.led) s5 := settled.trunk _
  clear_value s5
  exact ⟨_, wipeLed s3.led, if_neg (by simp [s0, off]), lamp.1, lamp.2, (start.parityScan .A pa).parityScan .B pb⟩

/-- Settles O39: it holds. -/
theorem powerPath : Obligations.PowerPath := by
  unfold Obligations.PowerPath
  refine ⟨?warning, ?recovery, ?stop, ?por, ?coilLoss, ?coilReturn, ?led, ?keepalive, ?range, ?hot, ?cool⟩
  case warning =>
    intro t a b s on calm
    obtain ⟨v, he, power, drains⟩ := exec_powerFailWarning (t := t) (a := a) (b := b) on calm
    refine runs_final he fun u hu => ?_
    rw [hu.power, hu.recd, power]
    exact ⟨rfl, rfl, rfl, rfl, drains⟩
  case recovery =>
    intro t s on warned back
    refine runs_final (if_pos (by simp [on, warned]; simpa [tick] using back)) fun u hu => ?_
    rw [hu.power, hu.recd, hu.dict]
    exact ⟨by simp [endDrain_units, updPower], by simp [endDrain_units, updPower], by simp [endDrain_units, updPower],
      by simp [endDrain_units], stickySet_getLsbD_same (by decide) ..⟩
  case stop =>
    intro t s on
    obtain ⟨v, he, main, keepalive, lanes, ib, owner⟩ := exec_vStop (t := t) on
    refine runs_final he fun u hu => ?_
    have running (l : Lane) : (u.lanes.get l).running = false :=
      (congrArg LaneSt.running (hu.lanes l)).trans (lanes l).2
    rw [hu.power, hu.ib ib.2, owner_of_course (course_of_unsent hu.unsent)]
    exact ⟨main, keepalive, running .A, running .B, (hu.role .A).trans (lanes .A).1, (hu.role .B).trans (lanes .B).1, ib.1,
      owner⟩
  case por =>
    intro t c pa pb s off
    obtain ⟨v, lamp, he, safeOn, safe, start⟩ := exec_por (t := t) (c := c) (pa := pa) (pb := pb) off
    have rails := start.rails
    simp only [Power.rails, Prod.mk.injEq] at rails
    obtain ⟨main, warning, shed, fab⟩ := rails
    refine runs_final he fun u hu => ?_
    rw [hu.power, hu.led, hu.ib start.none.2, start.led]
    exact ⟨main, warning, shed, fab, safeOn, safe, (hu.role .A).trans (start.idle .A),
      (hu.role .B).trans (start.idle .B), start.none.1⟩
  case coilLoss =>
    intro t dv s on low
    refine runs_final (if_pos ⟨on, low⟩) fun u hu => ?_
    rw [hu.power, hu.io, hu.dict]
    exact ⟨by simp [updPower], by simp [updPower], by simp [updPower, tick], by simp, live_condSet_same (by decide) ..⟩
  case coilReturn =>
    intro t dv s off high count free act
    refine runs_final (if_neg (by simp [off]; omega)) fun u hu => ?_
    obtain ⟨w, e⟩ : ∃ w, w = condSet 2 dv false (updPower (fun p => { p with coil := true, coilDv := dv }) (tick t s)) :=
      ⟨_, rfl⟩
    have act' : active w = active s := active_of_duties (by simp [e])
    obtain ⟨pins, -, dict⟩ := foldl_outReturn (l := List.range 4) (s := w) List.nodup_range (by rwa [act'])
      (by simpa [e] using free) (by simp [e, count])
    rw [hu.power, hu.dict, ← e, dict, foldl_keeps (part := State.power) (fun s k => by simp [outReturn])]
    refine ⟨by simp [e, updPower], by rw [e]; exact live_condSet_same (by decide) .., fun k hk => ?_⟩
    have out : outOf u k = outOf ((List.range 4).foldl outReturn w) k := by
      rw [outOf, hu.io, ← e]
      rfl
    rw [out, pins k (List.mem_range.mpr hk)]
    have row (n r : Nat) : getRow w n r = getRow s n r := by
      rw [e, getRow_condSet_off, getRow_of_dict (show (updPower _ (tick t s)).dict = s.dict by simp)]
    have units : w.io = s.io ∧ w.life = s.life := by simp [e]
    simp [outWanted, outOf, isTampered, getC, row, units]
  case led =>
    intro t s on
    refine runs_final rfl fun u hu => ?_
    rw [hu.power, hu.dict, shedStrings_power, shedStrings_dict]
    exact ⟨by simp [updPower], live_condSet_same (by decide) ..⟩
  case keepalive =>
    intro t s ok on
    refine runs_final (if_pos ⟨ok, on⟩) fun u hu => ?_
    obtain ⟨power, live, -⟩ := backupSwitch_units (condSet 245 0 true (updPower (fun p => { p with keepaliveOk := false })
      (tick t s)))
    rw [hu.power, hu.dict, power, live]
    exact ⟨by simp [updPower], live_condSet_same (by decide) .., by simp [updPower, on]⟩
  case range =>
    intro t dv s
    refine runs_final rfl fun u hu => ?_
    rw [hu.power, hu.dict]
    exact ⟨by simp [updPower], live_condSet_same (by decide) ..⟩
  case hot =>
    intro t temp s hot calm
    refine runs_final (if_pos ⟨hot, by simp [calm]⟩) fun u hu => ?_
    rw [ledUp, hu.power, hu.dict, shedStrings_power, shedStrings_dict]
    exact ⟨by simp [updPower], by simp [updPower], live_condSet_same (by decide) ..⟩
  case cool =>
    intro t temp s cool shed
    refine runs_final (if_pos ⟨cool, by simp [shed]⟩) fun u hu => ?_
    rw [hu.power, hu.dict]
    exact ⟨by simp [updPower], live_condSet_same (by decide) ..⟩

end Sys2Proof.Machine
end

section
/-!
PROOFS. An executed command: what is left of every unit once its operation is answered and the step is closed.
-/
namespace Sys2Proof.Machine

open Sys2Proof.Safety

/-- What an answered request leaves of the state that its operation made: every unit, and the trunk but for what was sent; and
the reply that stands for it (R74, R76). -/
structure Executed (v : State) (sid : Nat) (h : Hdr) (r : Reply) (u : State) : Prop extends Sends (fun _ => True) v u where
  lp : u.lp = { v.lp with outSeq := u.lp.outSeq, waiting := u.lp.waiting, released := u.lp.released }
  recd : u.recd = v.recd
  adm : u.adm = v.adm
  mac : u.mac = v.mac
  epoch : u.epoch = v.epoch
  trk : u.trk = v.trk
  met : u.met = v.met
  led : u.led = v.led
  time : u.time = v.time
  life : u.life = v.life
  test : u.test = v.test
  power : u.power = v.power
  fw : u.fw = v.fw
  clk : u.clk = { v.clk with fab := u.clk.fab, prev := u.clk.prev }
  answered : Answered u sid h r

theorem Sends.mono {P Q : IbMsg → Prop} {s u : State} (h : Sends P s u) (sub : ∀ m, P m → Q m) : Sends Q s u :=
  { h with
    out := h.out.imp fun _ ⟨e, hx⟩ => ⟨e, fun o ho m hm => sub m (hx o ho m hm)⟩
    waiting := h.waiting.imp fun _ ⟨e, hx⟩ => ⟨e, fun o ho m hm => sub m (hx o ho m hm)⟩
    voq := h.voq.imp fun _ ⟨e, hx⟩ => ⟨e, fun o ho m hm => sub m (hx o ho m hm)⟩ }

theorem cacheReply_sends (sid seq : Nat) (r : Option Reply) (s : State) : Sends (fun _ => True) s (cacheReply sid seq r s) where
  toOnlySends := .of_eq rfl rfl rfl rfl rfl
  out := ⟨[], by simp⟩
  waiting := ⟨[], by simp⟩
  voq := ⟨[], by simp⟩
  trunk := by simp [trunkKept, portsOf]
  living := by
    funext i
    by_cases hi : i = sid
    · simp [living, cacheReply, hi, mget_mmod_same]
    · simp [living, cacheReply, mget_mmod_ne _ _ _ _ hi]
  ways _ := rfl
  counters _ _ _ := rfl

/-- A reply only sends. -/
theorem answer_sends (sid : Nat) (h : Hdr) (v : State) (r : Reply) : Sends (fun _ => True) v (answer sid h (v, some r)) :=
  (cacheReply_sends sid h.seq (some { r with obj := h.obj }) v).trans (sendReply_sends (fun _ _ => trivial) ..)

theorem answer_lp (sid : Nat) (h : Hdr) (v : State) (r : Reply) : ∃ n w k,
    (answer sid h (v, some r)).lp = { v.lp with outSeq := n, waiting := w, released := k } := by
  have sent := lp_of_unsent (unsent_sendReply h.assoc h.tclass sid h.seq h.typ { r with obj := h.obj }
    (cacheReply sid h.seq (some { r with obj := h.obj }) v))
  exact ⟨_, _, _, sent⟩

/-- A request that was let through runs: its operation is answered, and the closing leaves the rest. -/
theorem runs_answered {c : Instr} {t sid : Nat} {h : Hdr} {s v : State} {r : Reply} {P : State → Prop}
    (live : (mget v.ib.sessions sid).isSome = true) (he : exec c s = done (tick t s) (answer sid h (v, some r)))
    (hP : ∀ u, Executed v sid h { r with obj := h.obj } u → P u) : Runs c s P := by
  obtain ⟨-, answered⟩ := answer_some live h r
  obtain ⟨n, w, k, lp⟩ := answer_lp sid h v r
  refine runs_final he fun u hu => hP u
    { (answer_sends sid h v r).trans (hu.sends.mono fun _ _ => trivial) with
      lp := hu.lp.trans (by rw [lp]), recd := hu.recd.trans (by simp), adm := hu.adm.trans (by simp)
      mac := hu.mac.trans (by simp), epoch := hu.epoch.trans (by simp), trk := hu.trk.trans (by simp)
      met := hu.met.trans (by simp), led := hu.led.trans (by simp), time := hu.time.trans (by simp)
      life := hu.life.trans (by simp), test := hu.test.trans (by simp), power := hu.power.trans (by simp)
      fw := hu.fw.trans (by simp), clk := hu.clk.trans (by simp), answered := hu.answered.2 answered }

/-- A command object's EXEC that passes its checks runs: what its effect makes of the state is answered under its object. -/
theorem runs_executed {c : Instr} {obj t sid : Nat} {cols : List ColKind} {h : Hdr} {args : List TVal}
    {eff : Nat → Session → State → Answer} {s v : State} {r : Reply} {P : State → Prop}
    (hp : passes obj cols false t h args sid s = true)
    (he : exec c s = done (tick t s) (execCmd obj cols h args eff (tick t s)))
    (hop : eff sid (caller t sid s) (opState t h sid s) = (v, some r)) (live : (mget v.ib.sessions sid).isSome = true)
    (hP : ∀ u, Executed v sid h { r with obj := obj } u → P u) : Runs c s P := by
  rw [execCmd_passes hp, hop] at he
  refine runs_answered live he fun u hu => hP u ?_
  rwa [obj_of_passes hp] at hu

/-- Before an EXEC takes effect its session lives. -/
theorem live_of_passes {obj t sid : Nat} {cols : List ColKind} {nb : Bool} {h : Hdr} {args : List TVal} {s : State}
    (hp : passes obj cols nb t h args sid s = true) : (mget (opState t h sid s).ib.sessions sid).isSome = true :=
  opState_session (sessions_of_arrives (Bool.and_eq_true_iff.1 hp).1) t h

end Sys2Proof.Machine
end

section
/-!
PROOFS. Rows that are written and kept, and condition bits under the operations that a command closes with.
-/
namespace Sys2Proof.Machine

open Sys2Proof.Safety

/-! ### Rows -/

@[simp] theorem getRow_putRow_same (n r : Nat) (v : Row) (s : State) : getRow (putRow n r v s) n r = v := by
  simp [getRow, putRow, mget_mset_same]

theorem getRow_putRow_ne {n r m k : Nat} (other : okey m k ≠ okey n r) (module : okey 0x30101 0 ≠ okey n r) (v : Row)
    (s : State) : getRow (putRow n r v s) m k = getRow s m k := by
  have same : modId (putRow n r v s) = modId s := by simp [modId, putRow, mget_mset_ne _ _ _ _ module]
  have default : defRow (putRow n r v s) m k = defRow s m k := by rw [defRow, defRow, same]
  simp [getRow, default]
  simp [putRow, mget_mset_ne _ _ _ _ other]

theorem RowsKept.getRow {objs : List Nat} {s u : State} (h : RowsKept objs s u) (module : 0x30101 ∉ objs) {n r : Nat}
    (hn : n ∉ objs) (hr : r < 4294967296) : getRow u n r = getRow s n r := by
  have same : modId u = modId s := by rw [modId, modId, h.store _ _ (by decide) module]
  have default : defRow u n r = defRow s n r := by rw [defRow, defRow, same]
  rw [Machine.getRow, Machine.getRow, h.store n r hr hn, h.logs n hn, default]

theorem RowsKept.getC {objs : List Nat} {s u : State} (h : RowsKept objs s u) (module : 0x30101 ∉ objs) {n r : Nat}
    (hn : n ∉ objs) (hr : r < 4294967296) (c : Nat) : getC u n r c = getC s n r c := by
  rw [Machine.getC, Machine.getC, h.getRow module hn hr]

theorem condSet_rowsKept {bit : Nat} (h : bit < 4294967296) (detail : Nat) (on : Bool) (s : State) :
    RowsKept [0xB0101] s (condSet bit detail on s) := by
  unfold condSet
  split
  · split
    · exact .of_dict rfl
    · exact (RowsKept.of_same (stickySet_sameRows h detail s)).trans ⟨fun _ _ => rfl, fun _ _ _ _ => rfl⟩
  · exact ⟨fun _ _ => rfl, fun _ _ _ _ => rfl⟩

theorem RowsKept.foldl {β : Type} {objs : List Nat} {f : State → β → State} {l : List β}
    (hf : ∀ b ∈ l, ∀ s, RowsKept objs s (f s b)) (s : State) : RowsKept objs s (l.foldl f s) := by
  induction l generalizing s with
  | nil => exact .of_dict rfl
  | cons b r ih =>
    exact (hf b List.mem_cons_self s).trans (ih (fun c hc => hf c (List.mem_cons_of_mem _ hc)) (f s b))

/-! ### A counted row -/

theorem rNat_lset_same {r : Row} {c : Nat} (hc : c < r.length) (v : Val) : rNat (lset r c v) c = v.toNat := by
  simp [rNat, getElem?_lset_same hc]

theorem rNat_lset_ne {r : Row} {c j : Nat} (h : j ≠ c) (v : Val) : rNat (lset r c v) j = rNat r j := by
  rw [rNat, rNat, getElem?_lset_ne _ h]

/-! ### Condition bits -/

@[simp] theorem record_live (typ sev source : Nat) (p : Bytes) (s : State) :
    (record typ sev source p s).dict.live = s.dict.live := by
  unfold record submitRec
  dsimp only
  repeat' split
  · rfl
  · simp only [cntUp_frame]
    rfl
  · simp only [syncDrain_frame]

@[simp] theorem stickySet_live (bit detail : Nat) (s : State) : (stickySet bit detail s).dict.live = s.dict.live := rfl

theorem live_condSet_ne {bit k : Nat} (h : k ≠ bit) (detail : Nat) (on : Bool) (s : State) :
    (condSet bit detail on s).dict.live.getLsbD k = s.dict.live.getLsbD k := by
  unfold condSet
  split
  · split
    · rfl
    · simp [BitVec.getLsbD_twoPow, Ne.symm h]
  · by_cases hk : k < 256
    · simp only [BitVec.getLsbD_and, BitVec.getLsbD_not, BitVec.getLsbD_twoPow]
      simp [h, Ne.symm h, hk]
    · simp [BitVec.getLsbD_of_ge s.dict.live k (by omega)]

end Sys2Proof.Machine
end

section
/-!
PROOFS. The backup cells, the keep latch, the cabinet outputs and inputs (R443, R446 to R449, R496, R497), and the settlement
of O40.
-/
namespace Sys2Proof.Machine

open Sys2Proof.Safety

/-! ### The cells -/

theorem cellBit_rowsKept {b : Nat} (hb : b < 4) (k old st : Nat) (s : State) :
    RowsKept [0xB0101, 0xB0011] s (cellBit k old st s b) := by
  unfold cellBit
  dsimp only
  split
  · exact (RowsKept.of_same (stickySet_sameRows (by omega) k s)).mono (by simp)
  · exact (condSet_rowsKept (by omega) ..).mono (by simp)

theorem draw_ib (s : State) : (draw s).ib = s.ib := by simp

theorem draw_dict (s : State) : (draw s).dict = s.dict := by simp

theorem recordOpen_rowsKept {sev : Nat} (h : sev < 4294967296) (s : State) :
    RowsKept [0xB0101, 0xB0011] s (recordOpen sev s) :=
  .trans ((RowsKept.of_same (record_sameRows h (freeNat s % 65536) (freeNat s / 65536 % 65536) _ s)).mono (by simp))
    (.of_dict (draw_dict _))

/-- A cell's row is what is put there; what follows writes sticky bits and counts a record. -/
theorem cellPut_rowsKept (k : Nat) (row : Row) (s : State) :
    RowsKept [0xB0101, 0xB0011] (putRow 0x00410 k row s) (cellPut k row s) := by
  unfold cellPut
  extract_lets old st s1 s2 s3 s4
  have bits : RowsKept [0xB0101, 0xB0011] s1 s2 :=
    .foldl (fun b hb s => cellBit_rowsKept (by simp at hb; omega) k old st s) s1
  have cond : RowsKept [0xB0101, 0xB0011] s2 s3 := (condSet_rowsKept (by decide) ..).mono (by simp)
  have line : RowsKept [0xB0101, 0xB0011] s1 s4 := (bits.trans cond).trans (.of_dict (by simp [s4]))
  split
  · exact line.trans (recordOpen_rowsKept (by split <;> decide) s4)
  · exact line

theorem cellBit_ib (k old st : Nat) (s : State) (b : Nat) : (cellBit k old st s b).ib = s.ib := by
  unfold cellBit
  dsimp only
  split <;> simp

theorem cellPut_ib (k : Nat) (row : Row) (s : State) : (cellPut k row s).ib = s.ib := by
  unfold cellPut
  dsimp only
  split <;> simp [recordOpen, cellBit_ib]

theorem getRow_cellPut {k : Nat} (hk : k < 4294967296) (row : Row) (s : State) : getRow (cellPut k row s) 0x00410 k = row := by
  rw [(cellPut_rowsKept k row s).getRow (by decide) (by decide) hk, getRow_putRow_same]

theorem getRow_cellPut_ne {k j : Nat} (hk : k < 4294967296) (hj : j < 4294967296) (other : j ≠ k) (row : Row) (s : State) :
    getRow (cellPut k row s) 0x00410 j = getRow s 0x00410 j := by
  rw [(cellPut_rowsKept k row s).getRow (by decide) (by decide) hj]
  exact getRow_putRow_ne (by simp only [okey]; omega) (by simp only [okey]; omega) row s

/-- A cell that is ABSENT holds its bit. -/
theorem live_cellBit_three (k : Fin 2) (old st : Nat) {s : State} (absent : getC s 0x00410 k.val 0 = 3) :
    (cellBit k.val old st s 3).dict.live.getLsbD 243 = true := by
  unfold cellBit
  extract_lets any
  split
  · next set => exact set.2.2
  · have holds : any := by
      rcases Fin.exists_fin_two.mp ⟨k, rfl⟩ with rfl | rfl
      · exact .inl absent
      · exact .inr absent
    rw [decide_eq_true holds]
    exact live_condSet_same (by decide) ..

/-- A cell put ABSENT raises CELL_ABSENT, and nothing after it takes that back (R384, R446). -/
theorem live_cellPut_absent (k : Fin 2) {row : Row} (absent : rNat row 0 = 3) (s : State) :
    (cellPut k.val row s).dict.live.getLsbD 243 = true := by
  unfold cellPut
  extract_lets old st s1 s2 s3 s4
  have kept : RowsKept [0xB0101, 0xB0011] s1 ([1, 2].foldl (cellBit k.val old st) s1) :=
    .foldl (fun b hb s => cellBit_rowsKept (by simp at hb; omega) k.val old st s) s1
  have bit : s2.dict.live.getLsbD 243 = true := by
    refine live_cellBit_three k old st (s := [1, 2].foldl (cellBit k.val old st) s1) ?_
    rw [kept.getC (by decide) (by decide) (by omega)]
    simpa [getC, s1] using absent
  have line : s4.dict.live.getLsbD 243 = true := by
    simp only [s4, icuLine_frame]
    rwa [live_condSet_ne (by decide)]
  split
  · simpa [recordOpen] using line
  · exact line

/-- What a load test enters of a cell: the loaded voltage and the state that it and the charge give. -/
theorem loadTest_enters {k mv : Nat} (hk : k < 4294967296) (hv : mv ≤ 65535) (s : State) :
    getC (loadTest k mv s) 0x00410 k 1 = mv ∧
    getC (loadTest k mv s) 0x00410 k 0 = cellState mv (getC (loadTest k mv s) 0x00410 k 3) ∧
    min (getC s 0x00410 k 3) 4294967295 ≤ getC (loadTest k mv s) 0x00410 k 3 := by
  have charge : min (getC s 0x00410 k 3) 4294967295 ≤ min (getC s 0x00410 k 3 + freeNat s) 4294967295 := by omega
  simp only [getC, loadTest, getRow_cellPut hk]
  exact ⟨by simp [rNat, v16, hv, Val.toNat], rfl, charge⟩

theorem getRow_loadTest_ne {k j : Nat} (hk : k < 4294967296) (hj : j < 4294967296) (other : j ≠ k) (mv : Nat) (s : State) :
    getRow (loadTest k mv s) 0x00410 j = getRow s 0x00410 j := by
  rw [loadTest, getRow_cellPut_ne hk hj other, getRow_of_dict (draw_dict s)]

/-- What a replaced cell's row reads. -/
theorem freshCell_reads (state : Nat) {mv : Nat} (hv : mv ≤ 65535) (now : Nat) :
    rNat [vN state, v16 mv, vN now, vN 0, vN now] 0 = state ∧ rNat [vN state, v16 mv, vN now, vN 0, vN now] 1 = mv ∧
    rNat [vN state, v16 mv, vN now, vN 0, vN now] 3 = 0 ∧ rNat [vN state, v16 mv, vN now, vN 0, vN now] 4 = now := by
  simp [rNat, vN, v16, Val.toNat, hv]

/-- A request takes no time before it is executed. -/
theorem time64_opState (t sid : Nat) (h : Hdr) (s : State) : time64 (opState t h sid s) = time64 (tick t s) := rfl

/-! ### The keep latch -/

theorem sleepRecord_dict (src : BitVec 16) (time : Nat) (s : State) : (sleepRecord src time s).dict = s.dict := by
  simp [sleepRecord]

/-- A dip that the battery domain outlasts ends: the latch is as it was, and KEEP_DIPS counts it (R448). -/
theorem dipEnd_recovered {d : Nat × Bool} {s : State} (dip : s.power.dip = some d) (soon : s.clk.fab < d.1 + 880000)
    (len : (getRow s 0x00411 0).length = 5) : (dipEnd s).power.dip = none ∧ (dipEnd s).power.lost = s.power.lost ∧
      (dipEnd s).power.tamperPending = none ∧ getC (dipEnd s) 0x00411 0 3 = (getC s 0x00411 0 3 + 1) % 4294967296 := by
  obtain ⟨v, e⟩ : ∃ v, v = stickySet 246 0 (addC 0x00411 0 3 1 (updPower (fun p => { p with dip := none }) s)) := ⟨_, rfl⟩
  have rows : RowsKept [0xB0101] (addC 0x00411 0 3 1 (updPower (fun p => { p with dip := none }) s)) v := by
    rw [e]
    exact .of_same (stickySet_sameRows (by decide) ..)
  have counted : getC v 0x00411 0 3 = (getC s 0x00411 0 3 + 1) % 4294967296 := by
    rw [rows.getC (by decide) (by decide) (by decide), getC, addC, putC, getRow_putRow_same, rNat_lset_same]
    · rfl
    · exact lt_of_lt_of_eq (by decide) len.symm
  have power : v.power = { s.power with dip := none } := by simp [e, addC, putC, updPower]
  have ended : dipEnd s = match v.power.tamperPending with
      | none => v
      | some p => sleepRecord p.1 p.2 (updPower (fun p => { p with tamperPending := none }) v) := by
    rw [dipEnd, dip, e]
    exact if_neg (by omega)
  rw [ended]
  split
  · next none => exact ⟨by rw [power], by rw [power], none, counted⟩
  · next p _ =>
    refine ⟨by simp [sleepRecord, updPower, power], by simp [sleepRecord, updPower, power],
      by simp [sleepRecord, updPower], .trans ?_ counted⟩
    rw [getC, getC, getRow_of_dict (sleepRecord_dict ..)]
    rfl

/-! ### The outputs -/

/-- What is commanded of output `k`, and whether it tripped. -/
def orderOf (s : State) (k : Nat) : Bool × Bool := ((outOf s k).cmd, (outOf s k).tripped)

theorem outOf_updOut_same {k : Nat} {s : State} (h : k < s.io.outs.length) (f : Output → Output) :
    outOf (updOut k f s) k = f (outOf s k) := by simp [outOf, updOut, h]

theorem outOf_updOut_ne {j k : Nat} (h : j ≠ k) (f : Output → Output) (s : State) : outOf (updOut k f s) j = outOf s j := by
  simp [outOf, updOut, lget_lmod_ne _ _ _ _ _ h]

theorem cntUpAt_io (n r c k : Nat) (s : State) : (cntUpAt n r c k s).io = s.io := by simp

theorem outOf_of_io {s u : State} (h : u.io = s.io) (k : Nat) : outOf u k = outOf s k := by rw [outOf, outOf, h]

theorem lget_lmod_of_le {α : Type} {l : List α} {k : Nat} (h : l.length ≤ k) (f : α → α) (j : Nat) (d : α) :
    lget (lmod l k f) j d = lget l j d := by
  induction l generalizing j k with
  | nil => rfl
  | cons x r ih =>
    cases k with
    | zero => simp at h
    | succ k =>
      cases j with
      | zero => rfl
      | succ j => exact ih (by simpa using h) j

/-- A change of an output that is no order leaves every order. -/
theorem orderOf_updOut {f : Output → Output} (hf : ∀ o, ((f o).cmd, (f o).tripped) = (o.cmd, o.tripped)) (k : Nat) (s : State) :
    orderOf (updOut k f s) = orderOf s := by
  funext j
  by_cases hj : j = k
  · subst hj
    by_cases h : j < s.io.outs.length
    · rw [orderOf, outOf_updOut_same h, hf]
      rfl
    · rw [orderOf, outOf, updOut, lget_lmod_of_le (by omega)]
      rfl
  · rw [orderOf, outOf_updOut_ne hj]
    rfl

theorem orderOf_of_io {s u : State} (h : u.io = s.io) : orderOf u = orderOf s := by
  funext k
  rw [orderOf, orderOf, outOf_of_io h]

@[simp] theorem orderOf_switchPin (k : Nat) (v : Bool) (s : State) : orderOf (switchPin k v s) = orderOf s := by
  unfold switchPin
  split
  · exact orderOf_updOut (by intro; rfl) k s
  · exact (orderOf_of_io (cntUpAt_io ..)).trans (orderOf_updOut (by intro; rfl) k s)

@[simp] theorem orderOf_setPin (k : Nat) (v : Bool) (s : State) : orderOf (setPin k v s) = orderOf s := by
  unfold setPin
  split
  · exact (orderOf_updOut (by intro; rfl) k _).trans (orderOf_of_io rfl)
  · exact orderOf_switchPin k v s

@[simp] theorem orderOf_driveOut (k : Nat) (v : Bool) (s : State) : orderOf (driveOut k v s) = orderOf s := by
  unfold driveOut
  split
  · exact orderOf_setPin k v s
  · split
    · exact orderOf_updOut (by intro; rfl) k s
    · exact orderOf_setPin k v s

/-- Bringing the outputs to what they shall show changes no order (R496). -/
@[simp] theorem orderOf_outSync (s : State) : orderOf (outSync s) = orderOf s := by
  unfold outSync
  split
  · exact foldl_keeps (fun s k => orderOf_setPin k false s) ..
  · split
    · rfl
    · exact foldl_keeps (fun s k => orderOf_driveOut k _ s) ..

theorem setPin_ib (k : Nat) (v : Bool) (s : State) : (setPin k v s).ib = s.ib := by simp

theorem driveOut_ib (k : Nat) (v : Bool) (s : State) : (driveOut k v s).ib = s.ib := by simp

theorem outSync_ib (s : State) : (outSync s).ib = s.ib := by simp

/-- OUTPUT_SET commands the outputs of its mask; switching one on re-arms it (R496). -/
theorem orderOf_setCommands (value : Nat) {l : List Nat} (once : l.Nodup) (s : State) (inside : ∀ k ∈ l, k < s.io.outs.length)
    (k : Nat) : orderOf (l.foldl (setCommand value) s) k =
      if k ∈ l then (bitOf value k, (outOf s k).tripped && !bitOf value k) else orderOf s k := by
  induction l generalizing s with
  | nil => simp
  | cons j r ih =>
    obtain ⟨fresh, once⟩ := List.nodup_cons.mp once
    have hj : j < s.io.outs.length := inside j List.mem_cons_self
    rw [List.foldl_cons, ih once _ fun i hi => by
      simpa [setCommand, updOut, length_lmod] using inside i (List.mem_cons_of_mem _ hi)]
    by_cases hk : k = j
    · subst hk
      simp [fresh, orderOf, setCommand, outOf_updOut_same hj]
    · simp [hk, orderOf, setCommand, outOf_updOut_ne hk]

theorem pend_switchPin {k : Nat} {s : State} (h : k < s.io.outs.length) (v : Bool) :
    (outOf (switchPin k v s) k).pend = none := by
  unfold switchPin
  split
  · simp [outOf_updOut_same h]
  · rw [outOf_of_io (cntUpAt_io ..), outOf_updOut_same h]

/-! ### The inputs -/

/-- An edge reaches its own input only (R497). -/
theorem diEdge_inputs {n : Nat} (hn : n < 8) (b : Bool) (s : State) (m : Nat) :
    (diEdge n b s).io.inputs.getLsbD m = if m = n then b else s.io.inputs.getLsbD m := by
  have io : (diEdge n b s).io.inputs =
      if b then s.io.inputs ||| BitVec.twoPow 8 n else s.io.inputs &&& ~~~BitVec.twoPow 8 n := by
    simp [diEdge, putC]
  rw [io]
  by_cases hm : m < 8
  · by_cases h : m = n
    · cases b <;> simp [h, hn]
    · cases b
      · simp only [Bool.false_eq_true, if_false, BitVec.getLsbD_and, BitVec.getLsbD_not, BitVec.getLsbD_twoPow]
        simp [h, Ne.symm h, hm]
      · simp [h, Ne.symm h]
  · have other : m ≠ n := by omega
    rw [if_neg other, BitVec.getLsbD_of_ge _ m (by omega), BitVec.getLsbD_of_ge _ m (by omega)]

/-- Settles O40: it holds. A cell's row is the one put last, an output is what its own switching left, and an order stands
until the next OUTPUT_SET. -/
theorem cellsAndCabinet : Obligations.CellsAndCabinet := by
  unfold Obligations.CellsAndCabinet
  refine ⟨?loadTest, ?removal, ?replaced, ?test, ?dip, ?recovery, ?expiry, ?set, ?gapEnd, ?trip, ?edge, ?aside⟩
  case loadTest =>
    intro t mv k s on _ hv
    refine runs_final (if_pos on) fun u hu => ?_
    simp only [getC, getRow_of_dict hu.dict]
    exact loadTest_enters (by omega) hv (tick t s)
  case removal =>
    intro t k s len
    refine runs_final rfl fun u hu => ?_
    have row : getRow (tick t s) 0x00410 k.val = getRow s 0x00410 k.val := getRow_of_dict (by simp) ..
    simp only [getC, getRow_of_dict hu.dict, getRow_cellPut (Nat.lt_trans k.isLt (by decide)), hu.dict, row]
    have absent : rNat (lset (getRow s 0x00410 k.val) 0 (vN 3)) 0 = 3 := rNat_lset_same (len ▸ by decide) _
    exact ⟨absent, rNat_lset_ne (by decide) _, live_cellPut_absent k absent _⟩
  case replaced =>
    intro t sid h args s mv hp present hv
    have k : argN args 0 ≤ 1 := argN_le_of_argRange (argRange_of_passes hp)
    have row : getC (opState t h sid s) 0x00410 (argN args 0) 0 = getC s 0x00410 (argN args 0) 0 := by
      rw [getC, getC, getRow_of_dict (u := opState t h sid s) (s := s) (by simp [opState])]
    refine runs_executed hp rfl (if_neg (row.trans_ne present)) (by rw [cellPut_ib]; exact live_of_passes hp) fun u hu => ?_
    simp only [getC, getRow_of_dict hu.dict, getRow_cellPut (show argN args 0 < 4294967296 by omega)]
    obtain ⟨state, volts, charge, since⟩ := freshCell_reads (cellState mv 0) hv (time64 (opState t h sid s))
    exact ⟨state, volts, charge, since.trans (time64_opState ..), hu.answered⟩
  case test =>
    intro t sid h args s ma mb hp on calm _ _ ha hb
    refine runs_executed hp rfl (if_neg (by simp [opState, on, calm])) ?_ fun u hu => ?_
    · rw [loadTest, cellPut_ib, draw_ib, loadTest, cellPut_ib, draw_ib]
      exact live_of_passes hp
    · obtain ⟨first, -, -⟩ := loadTest_enters (k := 0) (by decide) ha (opState t h sid s)
      obtain ⟨second, -, -⟩ := loadTest_enters (k := 1) (by decide) hb (loadTest 0 ma (opState t h sid s))
      refine ⟨.trans ?_ first, .trans ?_ second, hu.answered⟩
      · rw [getC, getRow_of_dict hu.dict, getRow_loadTest_ne (by decide) (by decide) (by decide), getC]
      · rw [getC, getRow_of_dict hu.dict, getC]
  case dip =>
    intro t s none
    refine runs_final (v := updPower (fun p => { p with dip := some (max s.clk.fab t, false) }) (tick t s)) (s0 := tick t s) ?_
      fun u hu => ?_
    · change execVbdDip t s = _
      simp [execVbdDip, none, tick]
    · rw [hu.power]
      exact ⟨rfl, rfl⟩
  case recovery =>
    intro t d s dip soon len
    refine runs_final rfl fun u hu => ?_
    have row : getRow (tick t s) 0x00411 0 = getRow s 0x00411 0 := getRow_of_dict (by simp) ..
    obtain ⟨none, lost, pending, count⟩ := dipEnd_recovered (s := tick t s) dip soon (by rw [row, len])
    rw [hu.power, getC, getRow_of_dict hu.dict]
    refine ⟨none, lost, pending, count.trans (by rw [getC, getC, row])⟩
  case expiry =>
    intro t b d s dip late
    refine runs_final (s0 := tick t s) (v := latchLost (tick t s)) ?_ fun u hu => ?_
    · change execKeepTimeExpiry t b s = _
      simp only [execKeepTimeExpiry, tick_frame, dip]
      exact if_pos (by simpa [tick] using late)
    · rw [hu.power]
      simp [latchLost, addC, putC, updPower]
  case set =>
    intro t sid h args s hp count
    have ib : (((List.range 4).filter (bitOf (argN args 0))).foldl (setCommand (argN args 1)) (opState t h sid s)).ib =
      (opState t h sid s).ib := foldl_keeps (part := State.ib) (by intro s k; rfl) ..
    refine runs_executed hp rfl rfl (by rw [outSync_ib, ib]; exact live_of_passes hp) fun u hu => ⟨fun k hk => ?_, hu.answered⟩
    have io : (opState t h sid s).io = s.io := by simp [opState]
    have order := orderOf_setCommands (argN args 1) (l := (List.range 4).filter (bitOf (argN args 0)))
      (List.nodup_range.filter _) (opState t h sid s) (fun k hk => by
        rw [io, count]
        exact List.mem_range.mp (List.mem_filter.mp hk).1) k
    rw [← orderOf_outSync, ← orderOf_of_io hu.io] at order
    simp only [orderOf, outOf_of_io io, List.mem_filter, List.mem_range, hk, true_and] at order
    split at order
    · next set =>
      obtain ⟨cmd, tripped⟩ := Prod.mk.inj order
      simp [cmd, tripped, set]
    · next unset =>
      obtain ⟨cmd, tripped⟩ := Prod.mk.inj order
      simp [cmd, tripped, unset]
  case gapEnd =>
    intro t k v s count pend gap act coil free
    have he : exec (.outputGapEnd t k) s = done (tick t s) (switchPin k.val v (tick t s)) := by
      change execOutputGapEnd t k s = _
      unfold execOutputGapEnd
      extract_lets s0
      have gap : inGap s0 k.val = false := gap
      have pend : (outOf s0 k.val).pend = some v := pend
      have act : (active s0).isSome = true := act
      have coil : s0.power.coil = true := coil
      have free : inSlice s0 (10 + k.val) = false := free
      change _ = done s0 (switchPin k.val v s0)
      simp only [pend, gap, act, coil, setPin, free]
      rfl
    have inside : k.val < (tick t s).io.outs.length := lt_of_lt_of_eq k.isLt count.symm
    refine runs_final he fun u hu => ?_
    rw [outOf_of_io hu.io]
    exact ⟨pin_switchPin inside v, pend_switchPin inside v⟩
  case trip =>
    intro t ma dv k s count pin coil
    have inside : k.val < (switchPin k.val false (tick t s)).io.outs.length := by
      rw [(switchPin_sameWants k.val false (tick t s)).count]
      exact lt_of_lt_of_eq k.isLt count.symm
    have order : orderOf (switchPin k.val false (tick t s)) k.val = orderOf s k.val := congrFun (orderOf_switchPin ..) _
    refine runs_final (if_pos (Bool.and_eq_true_iff.mpr ⟨pin, coil⟩)) fun u hu => ?_
    have out (j : Nat) : outOf u j = outOf (updOut k.val (fun o => { o with tripped := true })
      (switchPin k.val false (tick t s))) j := outOf_of_io (hu.io.trans (by simp)) j
    refine ⟨?_, ?_, ?_, ?_, fun j hj => ?_⟩
    · rw [out, outOf_updOut_same inside]
      exact pin_switchPin (s := tick t s) (lt_of_lt_of_eq k.isLt count.symm) false
    · rw [out, outOf_updOut_same inside]
    · rw [out, outOf_updOut_same inside]
      exact congrArg Prod.fst order
    · rw [hu.dict, record_sticky]
      exact stickySet_getLsbD_same (by decide) ..
    · rw [out, outOf_updOut_ne hj, outOf_switchPin_ne hj]
      rfl
  case edge =>
    intro t n b s free
    have free : ¬inSlice (tick t s) 14 = true := fun slice => Bool.false_ne_true (free.symm.trans slice)
    by_cases same : s.io.inputs.getLsbD n.val = b
    · refine runs_final ((if_neg free).trans (if_pos same)) fun u hu => ?_
      rw [hu.io]
      exact ⟨same, fun _ _ => rfl⟩
    · refine runs_final ((if_neg free).trans (if_neg same)) fun u hu => ?_
      rw [hu.io]
      exact ⟨by rw [diEdge_inputs n.isLt, if_pos rfl], fun m hm => by rw [diEdge_inputs n.isLt, if_neg hm]; rfl⟩
  case aside =>
    intro t n b s inside
    refine runs_final (if_pos inside) fun u hu => ?_
    rw [hu.io, hu.test]
    exact ⟨rfl, mget_mset_same ..⟩

end Sys2Proof.Machine
end

section
/-!
PROOFS. What sending on the trunk leaves of the books: the grants of destinations, and the counts of what was refused.
-/
namespace Sys2Proof.Machine

open Sys2Proof.Safety

/-- The counters between 3:0014 and 3:0020 count what is refused; sending moves none of them. -/
abbrev Refused (n : Nat) : Prop := 0x30014 < n ∧ n < 0x30020

/-- What destinations granted and freed, and the counts of what was refused, are as they were. -/
structure SameBooks (s u : State) : Prop where
  grant : ∀ d, (destOf u d).grant = (destOf s d).grant
  freed : ∀ d, (destOf u d).freed = (destOf s d).freed
  refused : ∀ l n, Refused n → mgetD (u.lanes.get l).cnt (ckey n 0 0) 0 = mgetD (s.lanes.get l).cnt (ckey n 0 0) 0

namespace SameBooks

variable {s v u : State}

theorem of_cnt (dests : u.trunk.dests = s.trunk.dests) (cnt : ∀ l, (u.lanes.get l).cnt = (s.lanes.get l).cnt) :
    SameBooks s u :=
  ⟨fun d => by simp [destOf, dests], fun d => by simp [destOf, dests], fun l n _ => by rw [cnt]⟩

theorem of_eq (dests : u.trunk.dests = s.trunk.dests) (lanes : u.lanes = s.lanes) : SameBooks s u :=
  .of_cnt dests fun l => by rw [lanes]

theorem refl (s : State) : SameBooks s s := .of_eq rfl rfl

theorem trans (h : SameBooks s v) (k : SameBooks v u) : SameBooks s u :=
  ⟨fun d => (k.grant d).trans (h.grant d), fun d => (k.freed d).trans (h.freed d),
    fun l n hn => (k.refused l n hn).trans (h.refused l n hn)⟩

theorem foldl {β : Type} {f : State → β → State} {l : List β} (hf : ∀ b ∈ l, ∀ s, SameBooks s (f s b)) (s : State) :
    SameBooks s (l.foldl f s) := by
  induction l generalizing s with
  | nil => exact refl s
  | cons b r ih =>
    exact (hf b List.mem_cons_self s).trans (ih (fun c hc => hf c (List.mem_cons_of_mem _ hc)) (f s b))

end SameBooks

/-- A counter that counts nothing refused rises. -/
theorem cntUpAt_sameBooks {n r c : Nat} (hn : ¬Refused n) (hc : c < 16) (hr : r < 4294967296 ∨ 0 < c) (k : Nat)
    (s : State) : SameBooks s (cntUpAt n r c k s) := by
  refine ⟨fun d => by simp [destOf], fun d => by simp [destOf], fun l m hm => ?_⟩
  have key : ckey m 0 0 ≠ ckey n r c := by
    unfold Refused at hn hm
    simp only [ckey, okey]
    omega
  have one (i : Lane) (v : State) :
      mgetD ((cntLane i n r c k v).lanes.get l).cnt (ckey m 0 0) 0 = mgetD (v.lanes.get l).cnt (ckey m 0 0) 0 := by
    by_cases hi : l = i
    · simp [cntLane, hi, mgetD_mset_ne _ _ _ _ _ key]
    · obtain rfl : l = otherLane i := by cases i <;> cases l <;> simp_all [otherLane]
      simp [cntLane]
  unfold cntUpAt
  dsimp only
  repeat' split
  all_goals simp only [one]

theorem cntUp_sameBooks {n : Nat} (hn : ¬Refused n) (s : State) : SameBooks s (cntUp n s) :=
  cntUpAt_sameBooks hn (by decide) (.inl (by decide)) 1 s

/-- The books of a destination change but for its grants. -/
theorem sameBooks_putDest {d : Nat} {c : DestCredit} {s : State} (grant : c.grant = (destOf s d).grant)
    (freed : c.freed = (destOf s d).freed) :
    SameBooks s { s with trunk := { s.trunk with dests := mset s.trunk.dests d c } } := by
  have own (e : Nat) (h : e ≠ d) :
      destOf { s with trunk := { s.trunk with dests := mset s.trunk.dests d c } } e = destOf s e := by
    simp [destOf, mgetD_mset_ne _ _ _ _ _ h]
  refine ⟨fun e => ?_, fun e => ?_, fun _ _ _ => rfl⟩
  all_goals
    by_cases he : e = d
    · subst he
      simp [destOf, mgetD_mset_same, grant, freed]
    · rw [own e he]

theorem chargeDest_sameBooks (d cls bytes : Nat) (s : State) : SameBooks s (chargeDest d cls bytes s) := by
  unfold chargeDest
  split
  · exact .refl s
  · exact sameBooks_putDest rfl rfl

theorem noteSent_sameBooks (d cls bytes : Nat) (m : TMsg) (s : State) : SameBooks s (noteSent d cls bytes m s) := by
  unfold noteSent
  split
  · exact sameBooks_putDest rfl rfl
  · exact .refl s

theorem leave_sameBooks (o : Out) (s : State) : SameBooks s (leave o s) := by
  unfold leave
  split
  · refine .trans ?_ (cntUpAt_sameBooks (n := 0x30020) (c := 6) (by decide) (by decide) (.inr (by decide)) ..)
    exact .of_eq rfl rfl
  · exact .of_eq rfl rfl

theorem emit_sameBooks (o : Out) (s : State) : SameBooks s (emit o s) := by
  unfold emit
  split
  · split
    · exact .refl s
    · dsimp only
      split
      · exact .of_eq rfl rfl
      · refine .trans ?_ (leave_sameBooks ..)
        exact .of_eq rfl rfl
  · exact .of_eq rfl rfl

theorem imageLeft_sameBooks (m : TMsg) (s : State) : SameBooks s (imageLeft m s) := by
  unfold imageLeft
  split
  · split
    · exact .refl s
    · exact emit_sameBooks ..
  · exact .refl s

theorem sendNow_sameBooks (p dst cls : Nat) (m : TMsg) (s : State) : SameBooks s (sendNow p dst cls m s) := by
  have credit (units : Nat) : SameBooks s (useCredit p cls 0 units s) := .of_eq rfl rfl
  exact (credit _).trans ((chargeDest_sameBooks ..).trans ((noteSent_sameBooks ..).trans
    ((emit_sameBooks ..).trans (imageLeft_sameBooks ..))))

theorem trunkSend_sameBooks (dst cls : Nat) (m : TMsg) (s : State) : SameBooks s (trunkSend dst cls m s) := by
  unfold trunkSend
  split
  · exact cntUp_sameBooks (by decide) s
  · split
    · split
      · exact .of_eq rfl rfl
      · exact sendNow_sameBooks ..
    · exact .of_eq rfl rfl

theorem sendIb_sameBooks (aid tclass : Nat) (m : IbMsg) (s : State) : SameBooks s (sendIb aid tclass m s) := by
  unfold sendIb
  split
  · dsimp only
    split
    · refine .trans ?_ (emit_sameBooks ..)
      exact .of_eq rfl rfl
    · refine .trans ?_ (trunkSend_sameBooks ..)
      exact .of_eq rfl rfl
  · exact .refl s

theorem sendNotice_sameBooks (id : Nat) (b : Sub) (flags changes time obj : Nat) (body : Body) (urgent : Bool) (s : State) :
    SameBooks s (sendNotice id b flags changes time obj body urgent s) := by
  unfold sendNotice
  split
  · exact .refl s
  · refine .trans ?_ ((cntUp_sameBooks (n := kNoticesSent) (by decide) _).trans (sendIb_sameBooks ..))
    exact .of_eq rfl rfl

theorem flushSub_sameBooks (id : Nat) (s : State) : SameBooks s (flushSub id s) := by
  unfold flushSub
  split
  · exact .refl s
  · split
    · exact .refl s
    · exact (sendNotice_sameBooks ..).trans (.of_eq rfl rfl)

theorem settleSub_sameBooks (s s' acc : State) (p : Nat × Sub) : SameBooks acc (settleSub s s' acc p) := by
  unfold settleSub
  split
  · dsimp only
    split
    · exact .refl acc
    · split
      · split
        · refine .trans ?_ (flushSub_sameBooks ..)
          exact .of_eq rfl rfl
        · exact .of_eq rfl rfl
      · exact .of_eq rfl rfl
  · exact .refl acc

/-- The closing of a step sends NOTICEs only. -/
theorem settle_sameBooks (s s' : State) : SameBooks s' (settle s s') := by
  unfold settle
  split
  · exact .foldl (fun p _ acc => settleSub_sameBooks s s' acc p) s'
  · exact .refl s'

end Sys2Proof.Machine
end

section
/-!
PROOFS. What serving the trunk keeps: what was sent stays sent, what waits to be flooded waits on or leaves, and of a port
nothing changes but its queues, its credit, and its state among the states with the handshake done.
-/
namespace Sys2Proof.Machine

open Sys2Proof.Safety

/-! ### Ports -/

/-- A port but for its state, its queues, its frame count and the credit that frames use and free. -/
def Port.link (x : Port) : Port :=
  { x with state := 0, sent := [], inFreed := [], firstFree := none, fcntTx := 0, wait := [], waitSince := none, flood := []
           lastOwn := [] }

/-- A port is the one it was; with its handshake done it stays so, and not done it stays in its state. -/
structure PortKept (x y : Port) : Prop where
  link : y.link = x.link
  low : x.state < 3 → y.state = x.state
  high : 3 ≤ x.state → 3 ≤ y.state

theorem PortKept.refl (x : Port) : PortKept x x := ⟨rfl, fun _ => rfl, id⟩

/-- What is read of a port's link is as it was. -/
theorem PortKept.same {α : Type} {x y : Port} (h : PortKept x y) (f : Port → α) (hf : ∀ x : Port, f x.link = f x) :
    f y = f x := by rw [← hf y, h.link, hf]

theorem PortKept.of_same {x y : Port} (link : y.link = x.link) (state : y.state = x.state) : PortKept x y :=
  ⟨link, fun _ => state, fun h => state ▸ h⟩

theorem PortKept.trans {x y z : Port} (h : PortKept x y) (k : PortKept y z) : PortKept x z where
  link := k.link.trans h.link
  low hx := (k.low (by rw [h.low hx]; exact hx)).trans (h.low hx)
  high hx := k.high (h.high hx)

theorem portOf_updPort_ne {p q : Nat} (h : q ≠ p) (f : Port → Port) (s : State) : portOf (updPort p f s) q = portOf s q := by
  simp [portOf, updPort, lget_lmod_ne _ _ _ _ _ h]

theorem portOf_updPort_same {p : Nat} {s : State} (h : p < s.trunk.ports.length) (f : Port → Port) :
    portOf (updPort p f s) p = f (portOf s p) := by
  simp [portOf, updPort, h]

/-- A port is changed, or there is none. -/
theorem portOf_updPort_or (p : Nat) (f : Port → Port) (s : State) (q : Nat) :
    portOf (updPort p f s) q = portOf s q ∨ q = p ∧ portOf (updPort p f s) q = f (portOf s q) := by
  by_cases hq : q = p
  · subst hq
    by_cases h : q < s.trunk.ports.length
    · exact .inr ⟨rfl, portOf_updPort_same h f⟩
    · exact .inl (by simp [portOf, updPort, lget_lmod_of_le (Nat.le_of_not_lt h)])
  · exact .inl (portOf_updPort_ne hq f s)

@[simp] theorem length_updPort (p : Nat) (f : Port → Port) (s : State) :
    (updPort p f s).trunk.ports.length = s.trunk.ports.length := length_lmod ..

theorem portOf_of_trunk {s u : State} (h : u.trunk.ports = s.trunk.ports) (p : Nat) : portOf u p = portOf s p := by
  rw [portOf, portOf, h]

/-- A port but for what sending moves of it. -/
def Port.unsent (x : Port) : Port := { x with sent := [], fcntTx := 0 }

theorem lget_map {α : Type} (f : α → α) (l : List α) (i : Nat) (d : α) : lget (l.map f) i (f d) = f (lget l i d) := by
  induction l generalizing i with
  | nil => rfl
  | cons x r ih =>
    cases i with
    | zero => rfl
    | succ i => exact ih i

theorem unsent_of_portsOf {s u : State} (h : portsOf u = portsOf s) (p : Nat) : (portOf u p).unsent = (portOf s p).unsent := by
  have both (v : State) : (portOf v p).unsent = lget (portsOf v) p Port.init.unsent := (lget_map Port.unsent _ p _).symm
  rw [both, both, h]

/-! ### The two relations -/

/-- The trunk but for its ports and the queues and books that sending moves. -/
def ringOf (s : State) : Trunk := { s.trunk with ports := [], dests := [], srcs := [], voq := [], turn := [] }

/-- From `s` to `u` the trunk was worked on: what was sent stays sent, what waits to be flooded waits on or leaves, and each
port is the one it was. -/
structure Carries (s u : State) : Prop where
  fab : u.clk.fab = s.clk.fab
  act : active u = active s
  sent : ∀ o, Sent s o → Sent u o
  count : u.trunk.ports.length = s.trunk.ports.length
  port : ∀ p, PortKept (portOf s p) (portOf u p)
  flood : (active s).isSome = true → ∀ p m, m ∈ (portOf s p).flood → Flooded u p m
  books : SameBooks s u
  sticky : ∀ k, s.dict.sticky.getLsbD k = true → u.dict.sticky.getLsbD k = true

/-- From `s` to `u` the trunk was served: moreover the ring stands as it was, and each port in its state. -/
structure Serves (s u : State) : Prop extends Carries s u where
  ring : ringOf u = ringOf s
  state : ∀ p, (portOf u p).state = (portOf s p).state
  dict : u.dict = s.dict

namespace Carries

variable {s v u : State}

theorem sentOn (h : Carries s u) {p dst cls : Nat} {m : TMsg} (hm : SentOn s p dst cls m) : SentOn u p dst cls m := by
  obtain ⟨f, tag, hd, hc, sent⟩ := hm
  exact ⟨f, tag, hd, hc, h.sent _ sent⟩

theorem flooded (h : Carries s u) (act : (active s).isSome = true) {p : Nat} {m : TMsg} (hm : Flooded s p m) : Flooded u p m :=
  hm.elim (fun sent => .inl (h.sentOn sent)) (h.flood act p m)

theorem trans (h : Carries s v) (k : Carries v u) : Carries s u where
  fab := k.fab.trans h.fab
  act := k.act.trans h.act
  sent o ho := k.sent o (h.sent o ho)
  count := k.count.trans h.count
  port p := (h.port p).trans (k.port p)
  flood act p m hm := k.flooded (h.act ▸ act) (h.flood act p m hm)
  books := h.books.trans k.books
  sticky n hn := k.sticky n (h.sticky n hn)

/-- Where no port moves and nothing is sent. -/
theorem of_still (fab : u.clk.fab = s.clk.fab) (act : active u = active s) (out : u.out = s.out)
    (waiting : u.lp.waiting = s.lp.waiting) (ports : u.trunk.ports = s.trunk.ports) (books : SameBooks s u)
    (sticky : ∀ k, s.dict.sticky.getLsbD k = true → u.dict.sticky.getLsbD k = true) : Carries s u where
  fab := fab
  act := act
  sent o ho := by rwa [Sent, out, waiting]
  count := by rw [ports]
  port p := by rw [portOf_of_trunk ports]; exact .refl _
  flood _ p m hm := .inr (by rwa [portOf_of_trunk ports])
  books := books
  sticky := sticky

theorem refl (s : State) : Carries s s := of_still rfl rfl rfl rfl rfl (.refl s) fun _ => id

theorem foldl {β : Type} {f : State → β → State} {l : List β} (hf : ∀ b ∈ l, ∀ s, Carries s (f s b)) (s : State) :
    Carries s (l.foldl f s) := by
  induction l generalizing s with
  | nil => exact refl s
  | cons b r ih =>
    exact (hf b List.mem_cons_self s).trans (ih (fun c hc => hf c (List.mem_cons_of_mem _ hc)) (f s b))

theorem unit (h : Carries s u) (p : Nat) : (portOf u p).link = (portOf s p).link := (h.port p).link

end Carries

namespace Serves

variable {s v u : State}

theorem trans (h : Serves s v) (k : Serves v u) : Serves s u where
  toCarries := h.toCarries.trans k.toCarries
  ring := k.ring.trans h.ring
  state p := (k.state p).trans (h.state p)
  dict := k.dict.trans h.dict

theorem of_still (fab : u.clk.fab = s.clk.fab) (act : active u = active s) (out : u.out = s.out)
    (waiting : u.lp.waiting = s.lp.waiting) (trunk : u.trunk = s.trunk) (books : SameBooks s u) (dict : u.dict = s.dict) :
    Serves s u where
  toCarries := .of_still fab act out waiting (by rw [trunk]) books (by rw [dict]; exact fun _ => id)
  ring := by rw [ringOf, trunk, ringOf]
  state p := by rw [portOf_of_trunk (s := s) (by rw [trunk])]
  dict := dict

theorem refl (s : State) : Serves s s := of_still rfl rfl rfl rfl rfl (.refl s) rfl

theorem foldl {β : Type} {f : State → β → State} {l : List β} (hf : ∀ b ∈ l, ∀ s, Serves s (f s b)) (s : State) :
    Serves s (l.foldl f s) := by
  induction l generalizing s with
  | nil => exact refl s
  | cons b r ih =>
    exact (hf b List.mem_cons_self s).trans (ih (fun c hc => hf c (List.mem_cons_of_mem _ hc)) (f s b))

/-- What only sends serves. -/
theorem of_sends {P : IbMsg → Prop} (h : Sends P s u) (fab : u.clk.fab = s.clk.fab) (books : SameBooks s u) :
    Serves s u := by
  have unsent := unsent_of_portsOf h.ports
  have link (p : Nat) : (portOf u p).link = (portOf s p).link := (congrArg Port.link (unsent p) :)
  have state (p : Nat) : (portOf u p).state = (portOf s p).state := (congrArg Port.state (unsent p) :)
  refine { fab := fab, act := h.active, sent := h.sent, count := ?_, port := fun p => .of_same (link p) (state p), flood := ?_
           books := books, sticky := ?_, ring := ?_, state := state, dict := h.dict }
  · simpa [portsOf] using congrArg List.length h.ports
  · intro _ p m hm
    right
    rwa [show (portOf u p).flood = (portOf s p).flood from (congrArg Port.flood (unsent p) :)]
  · rw [h.dict]
    exact fun _ => id
  · exact (congrArg (fun k : Trunk => { k with ports := [], srcs := [], turn := [] }) h.trunk :)

/-- A port's queues and credit change, and what no longer waits there to be flooded has left in the end. -/
theorem after_updPort {f : Port → Port} {p : Nat} (k : Serves (Machine.updPort p f s) u) (link : ∀ x, (f x).link = x.link)
    (state : ∀ x, (f x).state = x.state) (flood : (active s).isSome = true → ∀ m ∈ (portOf s p).flood,
      m ∈ (f (portOf s p)).flood ∨ SentOn u p 255 0 m) : Serves s u where
  fab := k.fab
  act := k.act
  sent := k.sent
  count := k.count.trans (length_updPort ..)
  port q := by
    refine .trans ?_ (k.port q)
    rcases portOf_updPort_or p f s q with h | ⟨-, h⟩
    · rw [h]
      exact .refl _
    · rw [h]
      exact .of_same (link _) (state _)
  flood act q m hm := by
    rcases portOf_updPort_or p f s q with h | ⟨rfl, h⟩
    · exact k.flood act q m (by rwa [h])
    · exact (flood act m hm).elim (fun waits => k.flood act q m (by rwa [h])) .inl
  books := .trans (v := Machine.updPort p f s) (.of_eq rfl rfl) k.books
  sticky := k.sticky
  ring := k.ring
  state q := by
    refine (k.state q).trans ?_
    rcases portOf_updPort_or p f s q with h | ⟨-, h⟩
    · rw [h]
    · rw [h, state]
  dict := k.dict

/-- A port's queues and credit change. -/
theorem updPort {f : Port → Port} (link : ∀ x, (f x).link = x.link) (state : ∀ x, (f x).state = x.state)
    (flood : ∀ x : Port, ∀ m ∈ x.flood, m ∈ (f x).flood) (p : Nat) (s : State) : Serves s (updPort p f s) :=
  after_updPort (.refl _) link state fun _ m hm => .inl (flood _ m hm)

/-- What a source holds of this node's store changes. -/
theorem srcs (m : NMap SrcShare) (s : State) : Serves s { s with trunk := { s.trunk with srcs := m } } where
  fab := rfl
  act := rfl
  sent _ h := h
  count := rfl
  port _ := .refl _
  flood _ _ _ h := .inr h
  books := .of_eq rfl rfl
  sticky _ := id
  ring := rfl
  state _ := rfl
  dict := rfl

/-- The queue of this node's own messages and the turn of the destinations change. -/
theorem queues (voq : List (Nat × Nat × TMsg)) (turn : List Nat) (s : State) :
    Serves s { s with trunk := { s.trunk with voq := voq, turn := turn } } where
  fab := rfl
  act := rfl
  sent _ h := h
  count := rfl
  port _ := .refl _
  flood _ _ _ h := .inr h
  books := .of_eq rfl rfl
  sticky _ := id
  ring := rfl
  state _ := rfl
  dict := rfl

end Serves

/-! ### The operations that serve -/

theorem emit_serves (o : Out) (s : State) : Serves s (emit o s) :=
  .of_sends (P := fun _ => True) (emit_sends (fun _ _ => trivial) s) (by simp) (emit_sameBooks o s)

theorem sendFree_serves (p dst cls : Nat) (m : TMsg) (s : State) : Serves s (sendFree p dst cls m s) := emit_serves ..

theorem trunkSend_serves (dst cls : Nat) (m : TMsg) (s : State) : Serves s (trunkSend dst cls m s) :=
  .of_sends (P := fun _ => True) (trunkSend_sends (fun _ _ => trivial) ..) (by simp) (trunkSend_sameBooks ..)

theorem sendNow_serves (p dst cls : Nat) (m : TMsg) (s : State) : Serves s (sendNow p dst cls m s) :=
  .of_sends (P := fun _ => True) (sendNow_sends (fun _ _ => trivial) ..) (by simp) (sendNow_sameBooks ..)

theorem settle_serves (s s' : State) : Serves s' (settle s s') := 
  .of_sends (settle_sends s s') (by simp) (settle_sameBooks s s')

theorem cntUpAt_serves {n r c : Nat} (hn : ¬Refused n) (hc : c < 16) (hr : r < 4294967296 ∨ 0 < c) (k : Nat) (s : State) :
    Serves s (cntUpAt n r c k s) :=
  .of_still (by simp) (cntUpAt_onlySends ..).active (by simp) (by simp) (by simp) (cntUpAt_sameBooks hn hc hr k s) (by simp)

theorem cntUp_serves {n : Nat} (hn : ¬Refused n) (s : State) : Serves s (cntUp n s) :=
  cntUpAt_serves hn (by decide) (.inl (by decide)) 1 s

theorem useCredit_serves (p cls vc units : Nat) (s : State) : Serves s (useCredit p cls vc units s) :=
  .updPort (by intro _; rfl) (by intro _; rfl) (by intro _ _ h; exact h) p s

theorem freeIngress_serves (p cls vc units : Nat) (s : State) : Serves s (freeIngress p cls vc units s) :=
  .updPort (by intro _; rfl) (by intro _; rfl) (by intro _ _ h; exact h) p s

theorem passOn_serves (p : Nat) (f : TrunkFrame) (s : State) : Serves s (passOn p f s) :=
  (useCredit_serves ..).trans ((freeIngress_serves ..).trans (emit_serves ..))

theorem serveQueue_serves (p : Nat) (q : Nat × Nat × TMsg) (s : State) : Serves s (serveQueue p q s) :=
  (Serves.queues _ _ s).trans (sendNow_serves ..)

/-- With an active lane what is sent of a port's own flood has left (R316). -/
theorem sendFree_sent {s : State} (act : (active s).isSome = true) (p dst cls : Nat) (m : TMsg) :
    SentOn (sendFree p dst cls m s) p dst cls m := by
  obtain ⟨o', rfl | ⟨_, f, _, _, n, tag, ho, rfl⟩, sent⟩ :=
    emit_sent act (rfl : outside (.trunk p (ownFrame s dst cls m) m []) = true)
  · exact ⟨_, _, rfl, rfl, sent⟩
  · cases ho
    exact ⟨_, _, rfl, rfl, sent⟩

/-- The first message that waits to be flooded leaves. -/
def floodFirst (p : Nat) (m : TMsg) (s : State) : State :=
  sendFree p 255 0 m (useCredit p 0 0 (frameUnits (tmsgLen m)) (updPort p (fun x => { x with flood := x.flood.drop 1 }) s))

theorem floodFirst_serves {p : Nat} {m : TMsg} {s : State} (first : (portOf s p).flood.head? = some m) :
    Serves s (floodFirst p m s) := by
  refine .after_updPort ((useCredit_serves ..).trans (sendFree_serves ..)) (by intro _; rfl) (by intro _; rfl)
    fun act n hn => ?_
  cases hf : (portOf s p).flood with
  | nil => simp [hf] at hn
  | cons x r =>
    obtain rfl : x = m := by simpa [hf] using first
    rcases List.mem_cons.mp (hf ▸ hn) with rfl | later
    · refine .inr (sendFree_sent ?_ ..)
      exact act
    · exact .inl later

theorem serveClass_serves {p cls : Nat} {s u : State} (h : serveClass p cls s = some u) : Serves s u := by
  unfold serveClass at h
  extract_lets q pass own mark goPass at h
  have marked (b : Bool) (v : State) : Serves v (mark b v) :=
    .updPort (by intro _; rfl) (by intro _; rfl) (by intro _ _ h; exact h) p v
  have passed (f : TrunkFrame) : Serves s (goPass f) :=
    .trans (.updPort (by intro _; rfl) (by intro _; rfl) (by intro _ _ h; exact h) p s) ((passOn_serves ..).trans (marked ..))
  have served (g : State → State) (hg : own = some g) : Serves s (mark true (g s)) := by
    refine .trans ?_ (marked true _)
    simp only [own] at hg
    split at hg
    · next first =>
      split at hg <;> cases hg
      refine floodFirst_serves ?_
      split at first
      · exact first
      · cases first
    · obtain ⟨_, _, rfl⟩ := Option.map_eq_some_iff.mp hg
      exact serveQueue_serves ..
  clear_value own pass
  split at h
  case h_1 => cases h
  case h_2 => cases h; exact passed _
  case h_3 g => cases h; exact served g rfl
  case h_4 g =>
    obtain rfl := Option.some.inj h
    split
    · exact passed _
    · exact served g rfl

theorem serveEgress_serves (p n : Nat) (s : State) : Serves s (serveEgress p n s) := by
  induction n generalizing s with
  | zero => exact .refl s
  | succ n ih =>
    unfold serveEgress
    split
    · next h =>
      obtain ⟨c, -, hc⟩ := List.exists_of_findSome?_eq_some h
      exact (serveClass_serves hc).trans (ih _)
    · exact .refl s

theorem retryPort_serves (p : Nat) (s : State) : Serves s (retryPort p s) :=
  (serveEgress_serves ..).trans (.updPort (by intro _; rfl) (by intro _; rfl) (by intro _ _ h; exact h) p _)

theorem dropLost_serves (s : State) : Serves s (dropLost s) :=
  (Serves.queues _ s.trunk.turn s).trans (.foldl (fun _ _ => cntUp_serves (by decide)) _)

theorem retryVoq_serves (s : State) : Serves s (retryVoq s) :=
  (dropLost_serves s).trans ((retryPort_serves ..).trans (retryPort_serves ..))

theorem sendDcredit_serves (reset : Bool) (s : State) (n : Nat) : Serves s (sendDcredit reset s n) := by
  refine .trans ?_ (trunkSend_serves ..)
  exact .srcs _ s

theorem resetDcredits_serves (m : TopoMsg) (s : State) : Serves s (resetDcredits m s) :=
  .foldl (fun n _ s => sendDcredit_serves true s n) s

theorem flood_serves (p : Nat) (m : TMsg) (s : State) : Serves s (flood p m s) := by
  unfold flood
  dsimp only
  split
  · exact .refl s
  · split
    · exact (useCredit_serves ..).trans (sendFree_serves ..)
    · exact .updPort (by intro _; rfl) (by intro _; rfl) (by intro _ _ h; exact List.mem_append_left _ h) p s

theorem floodTopo_serves (m : TopoMsg) (s : State) : Serves s (floodTopo m s) :=
  (flood_serves ..).trans (flood_serves ..)

theorem sendList_serves (s : State) (m : Nat) : Serves s (sendList s m) := by
  unfold sendList
  dsimp only
  repeat' split
  · exact .refl s
  · exact trunkSend_serves ..
  · exact (trunkSend_serves ..).trans (trunkSend_serves ..)

theorem moduleReached_serves (s : State) (m : Nat) : Serves s (moduleReached s m) := by
  refine .trans ?_ (sendList_serves ..)
  exact .of_still rfl rfl rfl rfl rfl (.of_eq rfl rfl) rfl

/-- The closing of a step serves the state that its command made. -/
theorem runs_served {c : Instr} {s s0 v : State} {P : State → Prop} (he : exec c s = done s0 v)
    (fab : v.clk.fab = s0.clk.fab) (hP : ∀ u, Final v u → Serves v u → P u) : Runs c s P := by
  obtain ⟨u, hu, final⟩ := runs_final (P := Final v) he fun _ => id
  refine ⟨u, hu, hP u final ?_⟩
  obtain rfl := Host.Outcome.next.inj (hu.symm.trans he)
  refine (settle_serves { s0 with clk := { s0.clk with fab := s0.clk.prev } } v).trans ?_
  exact .of_still (by simpa using fab.symm) rfl rfl rfl rfl (.of_eq rfl rfl) rfl

end Sys2Proof.Machine
end

section
/-!
PROOFS. A TOPO that comes into force, a link that starts and one that ends carry the trunk on (R309, R316 to R318).
-/
namespace Sys2Proof.Machine

open Sys2Proof.Safety

/-! ### What moves nothing of the trunk -/

/-- From `s` to `u` nothing of the trunk moved and nothing was sent; a sticky bit may have been set. -/
structure Aside (s u : State) : Prop where
  fab : u.clk.fab = s.clk.fab
  act : active u = active s
  out : u.out = s.out
  lp : u.lp = s.lp
  trunk : u.trunk = s.trunk
  books : SameBooks s u
  sticky : ∀ k, s.dict.sticky.getLsbD k = true → u.dict.sticky.getLsbD k = true

namespace Aside

variable {s v u : State}

theorem trans (h : Aside s v) (k : Aside v u) : Aside s u :=
  ⟨k.fab.trans h.fab, k.act.trans h.act, k.out.trans h.out, k.lp.trans h.lp, k.trunk.trans h.trunk,
    h.books.trans k.books, fun n hn => k.sticky n (h.sticky n hn)⟩

/-- Where lanes stand too. -/
theorem of_eq (fab : u.clk.fab = s.clk.fab) (lanes : u.lanes = s.lanes) (out : u.out = s.out) (lp : u.lp = s.lp)
    (trunk : u.trunk = s.trunk) (sticky : u.dict.sticky = s.dict.sticky) : Aside s u :=
  ⟨fab, by rw [active, active, lanes], out, lp, trunk, .of_eq (by rw [trunk]) lanes, fun k => by rw [sticky]; exact id⟩

theorem refl (s : State) : Aside s s := of_eq rfl rfl rfl rfl rfl rfl

theorem foldl {β : Type} {f : State → β → State} (hf : ∀ s b, Aside s (f s b)) (l : List β) (s : State) :
    Aside s (l.foldl f s) := by
  induction l generalizing s with
  | nil => exact refl s
  | cons b r ih => exact (hf s b).trans (ih (f s b))

theorem carries (h : Aside s u) : Carries s u :=
  .of_still h.fab h.act h.out (by rw [h.lp]) (by rw [h.trunk]) h.books h.sticky

end Aside

theorem sticky_stickySet {k : Nat} {s : State} (h : s.dict.sticky.getLsbD k = true) (bit detail : Nat) :
    (stickySet bit detail s).dict.sticky.getLsbD k = true := by
  have sticky : (stickySet bit detail s).dict.sticky = s.dict.sticky ||| BitVec.twoPow 256 bit := rfl
  simp [sticky, h]

theorem Carries.of_eq {s u : State} (fab : u.clk.fab = s.clk.fab) (lanes : u.lanes = s.lanes) (out : u.out = s.out)
    (lp : u.lp = s.lp) (trunk : u.trunk = s.trunk) (sticky : u.dict.sticky = s.dict.sticky) : Carries s u :=
  (Aside.of_eq fab lanes out lp trunk sticky).carries

theorem stickySet_aside (bit detail : Nat) (s : State) : Aside s (stickySet bit detail s) where
  fab := by simp
  act := active_of_duties (by simp)
  out := by simp
  lp := by simp
  trunk := by simp
  books := .of_eq (by simp) (by simp)
  sticky k hk := sticky_stickySet hk bit detail

theorem condSet_aside (bit detail : Nat) (on : Bool) (s : State) : Aside s (condSet bit detail on s) := by
  unfold condSet
  split
  · split
    · exact .refl s
    · exact (stickySet_aside ..).trans (.of_eq rfl rfl rfl rfl rfl rfl)
  · exact .of_eq rfl rfl rfl rfl rfl rfl

theorem icuRaise_aside (n : Nat) (s : State) : Aside s (icuRaise n s) where
  fab := by simp
  act := active_of_duties (by simp)
  out := by simp
  lp := by simp
  trunk := by simp
  books := .of_cnt (by simp) fun l => by cases l <;> rfl
  sticky k hk := by simpa using hk

theorem alarmFireRow_aside (r last next : Nat) (stepped : Bool) (skipped : Nat) (s : State) :
    Aside s (alarmFireRow r last next stepped skipped s) := by
  refine .trans ?_ ((icuRaise_aside ..).trans (icuRaise_aside ..))
  exact .of_eq rfl rfl rfl rfl rfl rfl

theorem alarmMoved_aside (s : State) (r : Nat) : Aside s (alarmMoved s r) := by
  unfold alarmMoved
  extract_lets cfg st t nx p
  split
  · exact .refl s
  · split
    · exact alarmFireRow_aside ..
    · split
      · exact .refl s
      · exact .of_eq rfl rfl rfl rfl rfl rfl

theorem stepTai_aside (corr : Int) (source : Nat) (client : Bytes) (s : State) : Aside s (stepTai corr source client s) := by
  obtain ⟨v, hv⟩ : ∃ v, v = timeLog source corr true client (ropUp 0x20019 1
      { foldSlew s with clk := { (foldSlew s).clk with taiOff := (foldSlew s).clk.taiOff + corr } }) := ⟨_, rfl⟩
  have logged : Aside s v := hv ▸ .of_eq (by simp [timeLog, foldSlew]) rfl rfl rfl rfl rfl
  have moved : stepTai corr source client s = alarmsMoved v := by rw [hv]; rfl
  rw [moved]
  unfold alarmsMoved
  split
  · exact logged
  · exact logged.trans (.foldl alarmMoved_aside _ v)

theorem startupMark_aside (col : Nat) (s : State) : Aside s (startupMark col s) := by
  unfold startupMark
  split
  · exact .refl s
  · split
    · exact .of_eq rfl rfl rfl rfl rfl rfl
    · exact .refl s

theorem record_aside (typ sev source : Nat) (payload : Bytes) (s : State) : Aside s (record typ sev source payload s) where
  fab := by simp
  act := active_of_duties (by simp)
  out := by simp
  lp := by simp
  trunk := by simp
  books := by
    unfold record submitRec
    split
    · exact .refl s
    · split
      · refine .trans ?_ (cntUp_sameBooks (n := 0xB0014) (by decide) _)
        exact .of_eq rfl rfl
      · exact .of_eq (by simp) (by simp)
  sticky k hk := by rwa [record_sticky]

/-! ### Ports and the ring -/

/-- What is not of the ports and the books of the trunk changes. -/
theorem carries_ring {k : Trunk} {s : State} (ports : k.ports = s.trunk.ports) (dests : k.dests = s.trunk.dests) :
    Carries s { s with trunk := k } :=
  .of_still rfl rfl rfl rfl ports (.of_eq dests rfl) fun _ => id

/-- A port changes and stays the one it was. -/
theorem updPort_carries {f : Port → Port} (kept : ∀ x, PortKept x (f x)) (flood : ∀ x, (f x).flood = x.flood) (p : Nat)
    (s : State) : Carries s (updPort p f s) where
  fab := rfl
  act := rfl
  sent _ h := h
  count := length_updPort ..
  port q := by
    rcases portOf_updPort_or p f s q with h | ⟨-, h⟩
    · rw [h]
      exact .refl _
    · rw [h]
      exact kept _
  flood _ q m hm := by
    right
    rcases portOf_updPort_or p f s q with h | ⟨-, h⟩
    · rwa [h]
    · rwa [h, flood]
  books := .of_eq rfl rfl
  sticky _ := id

theorem listPort_carries (m : TopoMsg) (p : Nat) (s : State) : Carries s (listPort m p s) := by
  unfold listPort
  extract_lets on s1
  have marked : Carries s s1 := by
    simp only [s1]
    split
    · exact (startupMark_aside 4 s).carries
    · exact .refl s
  refine marked.trans (updPort_carries (fun x => ?_) (fun x => ?_) p s1)
  · split
    · exact .refl x
    · next up =>
      refine ⟨rfl, fun low => absurd low up, fun _ => ?_⟩
      cases on <;> simp
  · split <;> rfl

theorem ringOpens_aside (s : State) : Aside s (ringOpens s) := stickySet_aside ..

theorem adoptTopo_carries (m : TopoMsg) (s : State) : Carries s (adoptTopo m s) := by
  unfold adoptTopo
  extract_lets s0 old opened d trunk s1 s2 s3 stepped time s4 s5
  have begun : Carries s s1 := carries_ring rfl rfl
  have listed : Carries s s2 := begun.trans ((listPort_carries ..).trans (listPort_carries ..))
  have marked : Carries s s3 := by
    simp only [s3]
    split
    · exact listed.trans (ringOpens_aside s2).carries
    · exact listed
  have anchored : Carries s s4 := by
    simp only [s4]
    split
    · refine (marked.trans (stepTai_aside d 5 noClient s3).carries).trans ?_
      exact .of_eq rfl rfl rfl rfl rfl rfl
    · exact marked
  have served : Carries s s5 := anchored.trans ((resetDcredits_serves m s4).trans (retryVoq_serves _)).toCarries
  exact served.trans (.foldl (fun n _ s => (moduleReached_serves s n).toCarries) s5)

theorem issueTopo_carries (m : TopoMsg) (atOnce : Bool) (s : State) : Carries s (issueTopo m atOnce s) := by
  refine .trans ?_ (floodTopo_serves ..).toCarries
  split
  · exact adoptTopo_carries m s
  · exact carries_ring rfl rfl

theorem masterTopo_carries (s : State) : Carries s (masterTopo s) := by
  unfold masterTopo
  extract_lets m last
  clear_value last
  split
  · exact .refl s
  · split
    · extract_lets gone s1
      split
      · exact .refl s
      · refine .trans ?_ (issueTopo_carries m gone s1)
        simp only [s1]
        split
        · refine (cntUp_serves (n := 0x30012) (by decide) s).toCarries.trans ?_
          exact .of_eq rfl rfl rfl rfl rfl rfl
        · exact .refl s
    · exact issueTopo_carries m true s

theorem reportLinks_carries (s : State) : Carries s (reportLinks s) := by
  unfold reportLinks
  split
  · exact masterTopo_carries s
  · exact (trunkSend_serves ..).toCarries

/-! ### The end of a link -/

theorem portConds_aside (p : Nat) (s : State) : Aside s (portConds p s) :=
  (condSet_aside ..).trans ((condSet_aside ..).trans (condSet_aside ..))

theorem turnFrame_carries (p : Nat) (s : State) (f : TrunkFrame) : Carries s (turnFrame p s f) := by
  unfold turnFrame
  split
  · refine .trans ?_ (retryPort_serves ..).toCarries
    exact (Serves.updPort (by intro _; rfl) (by intro _; rfl) (by intro _ _ h; exact h) _ s).toCarries
  · exact (cntUp_serves (by decide) s).toCarries

/-- A port whose link ends begins at state 1, or at 0 with no SFP (R305). -/
def Port.ended (x : Port) : Port :=
  { x with state := if x.present then 1 else 0, negotiated := false, miswired := false, dup := false, peer := none
           long := false, wait := [], waitSince := none, flood := [] }

/-- The link's end as the conditions stand before its neighbours hear of it (R302, R306). -/
def linkFell (p : Nat) (s : State) : State :=
  let s1 := updPort p Port.ended s
  portConds p (if (portOf s p).state < 2 then s1 else emit (.remoteFault p) s1)

theorem linkFell_carries (p : Nat) (s : State) : Carries (updPort p Port.ended s) (linkFell p s) := by
  unfold linkFell
  extract_lets s1
  refine .trans ?_ (portConds_aside p _).carries
  split
  · exact .refl s1
  · exact (emit_serves ..).toCarries

/-- What a link that had its handshake done does as it ends: BREAK, RING_OPEN, its frames turned, the master told (R317,
R318). -/
def linkBroken (p : Nat) (q : Port) (s : State) : State :=
  let a := modId s
  let b := neighbour q
  let s := { s with trunk := { s.trunk with cut := (a, b) :: s.trunk.cut } }
  let s := flood (1 - p) (.breakMsg a b s.trunk.tgen) s
  let s := ringBreakRec a b p (ringOpens s)
  let s := if actsMaster s then s else putN 0x30013 (time64 s) (cntUp 0x30012 s)
  reportLinks (q.wait.foldl (turnFrame p) s)

theorem linkEnds_eq (p : Nat) (s : State) :
    linkEnds p s = if (portOf s p).state < 3 then linkFell p s else linkBroken p (portOf s p) (linkFell p s) := rfl

/-- A message to every node leaves a port with its handshake done, or waits there (R311, R316, R317). -/
theorem flood_flooded {p : Nat} {s : State} (act : (active s).isSome = true) (inside : p < s.trunk.ports.length)
    (up : 3 ≤ (portOf s p).state) (m : TMsg) : Flooded (flood p m s) p m := by
  unfold flood
  dsimp only
  rw [if_neg (by omega)]
  split
  · refine .inl (sendFree_sent ?_ ..)
    exact act
  · right
    rw [portOf_updPort_same inside]
    exact List.mem_append_right _ List.mem_cons_self

/-- What follows the BREAK of a link carries the trunk on. -/
theorem linkBroken_carries (p : Nat) (q : Port) (s : State) : Carries s (linkBroken p q s) ∧
    (linkBroken p q s).dict.sticky.getLsbD 52 = true ∧
    ((active s).isSome = true → 1 - p < s.trunk.ports.length → 3 ≤ (portOf s (1 - p)).state →
      Flooded (linkBroken p q s) (1 - p) (.breakMsg (modId s) (neighbour q) s.trunk.tgen)) := by
  unfold linkBroken
  extract_lets a b trunk s1 s2 s3 s4
  have cut : Carries s s1 := carries_ring rfl rfl
  have told : Carries s1 s2 := (flood_serves ..).toCarries
  have opened : Carries s2 s3 := (ringOpens_aside s2).carries.trans (record_aside ..).carries
  have noted : Carries s3 s4 := by
    simp only [s4]
    split
    · exact .refl s3
    · refine (cntUp_serves (n := 0x30012) (by decide) s3).toCarries.trans ?_
      exact .of_eq rfl rfl rfl rfl rfl rfl
  have ended : Carries s4 (reportLinks (q.wait.foldl (turnFrame p) s4)) :=
    .trans (.foldl (fun f _ s => turnFrame_carries p s f) s4) (reportLinks_carries _)
  refine ⟨cut.trans (told.trans (opened.trans (noted.trans ended))), ?_, fun act inside up => ?_⟩
  · refine (noted.trans ended).sticky 52 ?_
    rw [show s3.dict.sticky = (ringOpens s2).dict.sticky from record_sticky ..]
    exact stickySet_getLsbD_same (by decide) ..
  · exact ((opened.trans noted).trans ended).flooded (told.act ▸ act) (flood_flooded (s := s1) act inside up _)

/-- The end of a link takes its port back, and carries the rest of the trunk on. -/
theorem linkEnds_carries (p : Nat) (s : State) : Carries (updPort p Port.ended s) (linkEnds p s) := by
  rw [linkEnds_eq]
  split
  · exact linkFell_carries p s
  · exact (linkFell_carries p s).trans (linkBroken_carries ..).1

/-- A port whose link ended stands at its first state (R305). -/
theorem portOf_linkEnds {p : Nat} {s : State} (inside : p < s.trunk.ports.length) :
    (portOf (linkEnds p s) p).link = (portOf s p).ended.link ∧
    (portOf (linkEnds p s) p).state = if (portOf s p).present then 1 else 0 := by
  have kept := (linkEnds_carries p s).port p
  rw [portOf_updPort_same inside] at kept
  refine ⟨kept.link, kept.low ?_⟩
  unfold Port.ended
  dsimp only
  split <;> decide

/-! ### The start of a link -/

/-- A port whose link starts: counters and credit anew (R309, R312). -/
def Port.begun (m : OfferMsg) (now : Nat) (x : Port) : Port :=
  { x with state := 3, started := now, wasUp := true, grant := m.grant, sent := List.replicate 8 0
           freed := List.replicate 8 0, inFreed := List.replicate 8 0, reported := List.replicate 8 0, firstFree := none
           lastCredit := now, announced := none, exchanges := 0, fcntTx := 0, fcntRx := 0 }

theorem asnMoved_carries (s : State) : Carries s (asnMoved s) := by
  unfold asnMoved
  extract_lets a due late lost
  refine .trans ?_ (cntUpAt_serves (n := 0x50016) (by decide) (by decide) (.inl (by decide)) lost _).toCarries
  exact .of_still rfl rfl rfl rfl rfl (.of_eq rfl rfl) fun _ => id

theorem linkStart_carries (p : Nat) (m : OfferMsg) (s : State) :
    Carries (updPort p (Port.begun m s.clk.fab) s) (linkStart p m s) := by
  unfold linkStart
  extract_lets s1 s2 s3 clk s4
  have counted : Carries s1 s2 := (cntUpAt_serves (by decide) (by decide) (.inr (by decide)) 1 s1).toCarries
  have timed : Carries s2 s4 := by
    simp only [s4]
    split
    · refine .trans ?_ (asnMoved_carries _)
      exact .of_eq rfl rfl rfl rfl rfl rfl
    · exact .refl s2
  exact counted.trans (timed.trans (reportLinks_carries s4))

end Sys2Proof.Machine
end

section
/-!
PROOFS. How a port comes up and falls (R303, R305, R306, R309, R318, R366), and the settlement of O41.
-/
namespace Sys2Proof.Machine

open Sys2Proof.Safety

/-! ### What this node says of itself -/

theorem modId_congr {s u : State} (dict : u.dict = s.dict) : modId u = modId s := by rw [modId, modId, dict]

/-- Whether this node acts as master rests on the ring and the rows. -/
theorem actsMaster_congr {s u : State} (dict : u.dict = s.dict) (ring : ringOf u = ringOf s) : actsMaster u = actsMaster s := by
  have topo : u.trunk.topo = s.trunk.topo := (congrArg Trunk.topo ring :)
  have moved : u.trunk.moved = s.trunk.moved := (congrArg Trunk.moved ring :)
  unfold actsMaster
  rw [modId_congr dict, topo, moved]

theorem getN_congr {s u : State} (dict : u.dict = s.dict) (n : Nat) : getN u n = getN s n := by
  rw [getN, getN, getRow_of_dict dict]

theorem commissioned_congr {s u : State} (dict : u.dict = s.dict) : commissioned u = commissioned s := by
  rw [commissioned, commissioned, modId_congr dict, getN_congr dict]

/-- HELLO is made of the rows, the life cycle, the ring and the port's nonce (R309, R366). -/
theorem ownHello_congr {p : Nat} {s u : State} (dict : u.dict = s.dict) (life : u.life = s.life) (ring : ringOf u = ringOf s)
    (nonce : (portOf u p).nonce = (portOf s p).nonce) : ownHello p u = ownHello p s := by
  have moved : u.trunk.moved = s.trunk.moved := (congrArg Trunk.moved ring :)
  have role : helloRole u = helloRole s := by
    unfold helloRole
    rw [commissioned_congr dict, actsMaster_congr dict ring, modId_congr dict, moved]
  unfold ownHello isTampered tamperNotice
  rw [role, modId_congr dict, getN_congr dict, life, dict, nonce]

/-- The clock but for the instant before. -/
def Clock.now (c : Clock) : Clock := { c with prev := 0 }

theorem tai_congr {s u : State} (clk : u.clk.now = s.clk.now) : tai u = tai s := by
  have fab : u.clk.fab = s.clk.fab := (congrArg Clock.fab clk :)
  have off : u.clk.taiOff = s.clk.taiOff := (congrArg Clock.taiOff clk :)
  have slew : u.clk.slew = s.clk.slew := (congrArg Clock.slew clk :)
  rw [tai, tai, taiAt, taiAt, fab, off, slew]

theorem anchorOf_congr {s u : State} (clk : u.clk.now = s.clk.now) : anchorOf u = anchorOf s := by
  have fab : u.clk.fab = s.clk.fab := (congrArg Clock.fab clk :)
  have tai : u.clk.taiOff = s.clk.taiOff := (congrArg Clock.taiOff clk :)
  have asn : u.clk.asnOff = s.clk.asnOff := (congrArg Clock.asnOff clk :)
  have slew : u.clk.aslew = s.clk.aslew := (congrArg Clock.aslew clk :)
  rw [anchorOf, anchorOf, fab, tai, asn, slew]

theorem timeQuality_congr {s u : State} (dict : u.dict = s.dict) (ring : ringOf u = ringOf s) (time : u.time = s.time)
    (clk : u.clk.now = s.clk.now) : timeQuality u = timeQuality s := by
  unfold timeQuality taiSec
  simp only [getN_congr dict, actsMaster_congr dict ring, time, tai_congr clk]

/-- OFFER and ACCEPT are made of that, the time and what was agreed of the trunk key (R309). -/
theorem ownProof_congr {p : Nat} {s u : State} (dict : u.dict = s.dict) (life : u.life = s.life) (ring : ringOf u = ringOf s)
    (nonce : (portOf u p).nonce = (portOf s p).nonce) (time : u.time = s.time) (clk : u.clk.now = s.clk.now) (h : HelloMsg) :
    ownProof p h u = ownProof p h s := by
  have topo : u.trunk.topo = s.trunk.topo := (congrArg Trunk.topo ring :)
  have master : masterId u = masterId s := by rw [masterId, masterId, topo]
  unfold ownProof linkProof time64
  rw [ownHello_congr dict life ring nonce, tai_congr clk, anchorOf_congr clk, timeQuality_congr dict ring time clk, master, life]

/-- The clock after a command. -/
theorem Final.now {v u : State} (h : Final v u) (fab : u.clk.fab = v.clk.fab) : u.clk.now = v.clk.now := by
  rw [h.clk, fab]
  rfl

/-! ### HELLO -/

theorem sendHello_serves (p : Nat) (s : State) : Serves s (sendHello p s) := sendFree_serves ..

/-- What HELLO said of this node holds after it. -/
theorem hello_sent {p : Nat} {s v u : State} (act : (active s).isSome = true) (later : Serves (sendHello p s) v)
    (served : Serves v u) (life : u.life = s.life) : SentOn u p 254 0 (.hello (ownHello p u)) := by
  have all := ((sendHello_serves p s).trans later).trans served
  have same : ownHello p u = ownHello p s :=
    ownHello_congr all.dict life all.ring (congrArg Port.nonce ((all.port p).link) :)
  rw [same]
  exact served.sentOn (later.sentOn (sendFree_sent act ..))

/-- A frame, an offer or a HELLO that is refused is counted, and the ports and the ring stand (R305, R309). -/
theorem runs_refused {c : Instr} {t n : Nat} {s : State} (hn : Refused n) (served : counts s = true)
    (he : exec c s = done (tick t s) (cntUp n (tick t s))) :
    Runs c s (fun u => portsOf u = portsOf s ∧ u.trunk.topo = s.trunk.topo ∧
      cntRead u n 0 0 = (cntRead s n 0 0 + 1) % 4294967296) := by
  refine runs_served he (by simp) fun u hu kept => ⟨hu.sends.ports.trans ?_, hu.sends.topo.trans ?_, ?_⟩
  · simp [portsOf]
  · simp
  · have counted := cntRead_cntUp (s := tick t s) served n
    rw [cntRead, servedBy, kept.act, kept.books.refused _ _ hn]
    exact counted

/-- A handshake answer that passes starts the link, and where it was an OFFER the ACCEPT leaves before (R309). -/
theorem handshake_starts {isOffer : Bool} {p : Nat} {m : OfferMsg} {y : HelloMsg} {s : State} (state : (portOf s p).state = 2)
    (peer : (portOf s p).peer = some y) (mine : (if isOffer then decide (modId s ≤ y.node) else decide (y.node < modId s)) = false)
    (calm : isTampered s = false) (proof : m.proofOk = true) (nonce : m.nonceOk = true) :
    handshake isOffer p m s = linkStart p m (if isOffer then sendProof true p y s else s) := by
  unfold handshake
  simp only [peer]
  rw [if_neg (by simp [state, mine, calm]), if_neg (by simp [proof, nonce])]

theorem handshake_refused {isOffer : Bool} {p : Nat} {m : OfferMsg} {y : HelloMsg} {s : State} (state : (portOf s p).state = 2)
    (peer : (portOf s p).peer = some y) (mine : (if isOffer then decide (modId s ≤ y.node) else decide (y.node < modId s)) = false)
    (calm : isTampered s = false) (bad : m.proofOk = false ∨ m.nonceOk = false) :
    handshake isOffer p m s = cntUp 0x30015 s := by
  unfold handshake
  simp only [peer]
  rw [if_neg (by simp [state, mine, calm]), if_pos (by simpa using bad)]

/-- The conditions of a port write sticky bits only. -/
theorem portConds_modId (p : Nat) (s : State) : modId (portConds p s) = modId s := by
  have rows : RowsKept [0xB0101] s (portConds p s) :=
    (condSet_rowsKept (by decide) ..).trans ((condSet_rowsKept (by decide) ..).trans (condSet_rowsKept (by decide) ..))
  rw [modId, modId, rows.store _ _ (by decide) (by decide)]

/-- A link's end leaves this node's ID and the generation of the ring. -/
theorem linkFell_names (p : Nat) (s : State) :
    modId (linkFell p s) = modId s ∧ (linkFell p s).trunk.tgen = s.trunk.tgen := by
  unfold linkFell
  extract_lets s1
  rw [portConds_modId, (portConds_aside ..).trunk]
  split
  · exact ⟨rfl, rfl⟩
  · have left := emit_serves (.remoteFault p) s1
    exact ⟨modId_congr left.dict, (congrArg Trunk.tgen left.ring :)⟩

/-- A HELLO of this cascade names the peer in state 2, and only a node of the higher ID is offered (R302, R303, R309). -/
theorem exec_hello {t : Nat} {p : Fin 2} {m : HelloMsg} {s : State} (ports : s.trunk.ports.length = 2)
    (state : (portOf s p.val).state = 2) (notice : m.notice = none) (role : m.role ≠ 4) (node : m.node ≠ 255)
    (part : ¬(m.part = 1 ∧ m.role = 0)) (own : m.cascade = getN s 0x30100) (comm : commissioned s = true) :
    ∃ v, exec (.hello t p m) s = done (tick t s)
        (if modId v < m.node ∧ !isTampered v then sendProof false p.val m v else v) ∧
      portOf v p.val = { portOf s p.val with peer := some m, miswired := m.port == p.val, dup := dupId s p.val m.node } ∧
      Aside (updPort p.val (fun x => { x with
        peer := some m, miswired := m.port == p.val, dup := dupId s p.val m.node }) (tick t s)) v ∧
      modId v = modId s ∧ v.life = s.life := by
  refine ⟨portConds p.val (updPort p.val (fun x => { x with
    peer := some m, miswired := m.port == p.val, dup := dupId s p.val m.node }) (tick t s)), ?_, ?_, portConds_aside .., ?_, ?_⟩
  · have state : (portOf (tick t s) p.val).state = 2 := state
    have own : m.cascade = getN (tick t s) 0x30100 := own
    have comm : commissioned (tick t s) = true := comm
    change execHello t p m s = _
    unfold execHello
    simp only [state, notice, Nat.reduceLeDiff, if_false]
    rw [if_neg (by decide), if_neg (by simp [role, node, part]), if_neg (by simp [own, comm])]
    exact (apply_ite (done (tick t s)) ..).symm
  · rw [portOf_of_trunk (congrArg Trunk.ports (portConds_aside p.val _).trunk)]
    exact portOf_updPort_same (s := tick t s) (lt_of_lt_of_eq p.isLt ports.symm) _
  · exact portConds_modId ..
  · simp

/-- Settles O41: it holds. What a command makes of a port is carried to the end of the step, and what was sent stays sent. -/
theorem portsComeUp : Obligations.PortsComeUp := by
  unfold Obligations.PortsComeUp
  refine ⟨?insert, ?negotiated, ?timeout, ?hello, ?otherCascade, ?retry, ?tampered, ?offer, ?badOffer, ?accept, ?down, ?restart, ?pause⟩
  case insert =>
    intro t p is1000X heavy s ports
    have ended := linkEnds_carries p.val (tick t s)
    have inside : p.val < (linkEnds p.val (tick t s)).trunk.ports.length := by
      rw [ended.count, length_updPort]
      exact lt_of_lt_of_eq p.isLt ports.symm
    obtain ⟨v, hv⟩ : ∃ v, v = updPort p.val (fun x => { x with
        present := true, state := 1, negotiated := false, started := (linkEnds p.val (tick t s)).clk.fab
        unsuit := !(is1000X && !heavy) }) (linkEnds p.val (tick t s)) := ⟨_, rfl⟩
    have he : exec (.sfpInsert t p is1000X heavy) s = done (tick t s)
        (icuRaise (14 + p.val) (condSet 50 p.val ((portOf v 0).unsuit || (portOf v 1).unsuit) v)) := by rw [hv]; rfl
    have shown := (condSet_aside 50 p.val ((portOf v 0).unsuit || (portOf v 1).unsuit) v).trans
      (icuRaise_aside (14 + p.val) _)
    have fab : v.clk.fab = max s.clk.fab t := by rw [hv]; exact ended.fab
    refine runs_served he (shown.fab.trans fab) fun u hu served => ?_
    have kept := (shown.carries.trans served.toCarries).port p.val
    rw [hv, portOf_updPort_same inside] at kept
    exact ⟨kept.same Port.present fun _ => rfl, kept.low (by simp), kept.same Port.unsuit fun _ => rfl,
      kept.same Port.negotiated fun _ => rfl, (kept.same Port.started fun _ => rfl).trans ended.fab⟩
  case negotiated =>
    intro t p s ports act state present suits
    obtain ⟨v, hv⟩ : ∃ v, v = updPort p.val (fun x => { x with
        state := 2, negotiated := true, started := max s.clk.fab t, nonce := freeNat (tick t s) % 2 ^ 64 })
        (draw (tick t s)) := ⟨_, rfl⟩
    have suits : ¬(portOf (tick t s) p.val).unsuit = true := fun h => Bool.false_ne_true (suits.symm.trans h)
    have he : exec (.autonegDone t p) s = done (tick t s) (sendHello p.val v) := by
      rw [hv]
      exact if_pos ⟨state, present, by simpa using suits⟩
    have actV : (active v).isSome = true := by
      rw [show active v = active s from active_of_duties (by simp [hv])]
      exact act
    refine runs_served he ((sendHello_serves p.val v).fab.trans (by simp [hv])) fun u hu served => ?_
    have kept := ((sendHello_serves p.val v).trans served).port p.val
    rw [hv, portOf_updPort_same (by simp; omega)] at kept
    refine ⟨kept.low (by simp), kept.same Port.negotiated fun _ => rfl, kept.same Port.started fun _ => rfl, ?_⟩
    exact hello_sent actV (.refl _) served (hu.life.trans (by simp [sendHello]))
  case timeout =>
    intro t p s ports state present due
    refine runs_served (v := updPort p.val (fun x => { x with started := max s.clk.fab t, negotiated := false }) (tick t s))
      (if_pos ⟨state, present, due⟩) rfl fun u hu served => ?_
    have kept := served.port p.val
    rw [portOf_updPort_same (s := tick t s) (lt_of_lt_of_eq p.isLt ports.symm)] at kept
    have low := kept.low (show (portOf s p.val).state < 3 by omega)
    exact ⟨low.trans state, kept.same Port.started fun _ => rfl, kept.same Port.negotiated fun _ => rfl⟩
  case hello =>
    intro t p m s ports state notice role node part own comm act
    obtain ⟨v, he, port, aside, rows, units⟩ := exec_hello (t := t) ports state notice role node part own comm
    have fab : v.clk.fab = (tick t s).clk.fab := aside.fab
    have said (u : State) (served : Serves v u) : (portOf u p.val).peer = some m ∧
        (portOf u p.val).miswired = (m.port == p.val) ∧ (portOf u p.val).dup = dupId s p.val m.node ∧
        (portOf u p.val).state = 2 := by
      have kept := served.port p.val
      rw [port] at kept
      exact ⟨kept.same Port.peer fun _ => rfl, kept.same Port.miswired fun _ => rfl, kept.same Port.dup fun _ => rfl,
        (kept.low (by simp [state])).trans state⟩
    split at he
    · next low =>
      have sent := sendFree_serves p.val 254 0 (.offer (ownProof p.val m v)) v
      refine runs_served he (sent.fab.trans fab) fun u hu served => ?_
      obtain ⟨peer, wired, dup, two⟩ := said u (sent.trans served)
      refine ⟨peer, wired, dup, two, fun _ _ => ?_⟩
      have all := sent.trans served
      have same : ownProof p.val m u = ownProof p.val m v :=
        ownProof_congr all.dict (hu.life.trans (by simp [sendProof])) all.ring (congrArg Port.nonce ((all.port p.val).link) :)
          (hu.time.trans (by simp [sendProof]))
          ((hu.now (served.fab)).trans (by simp [sendProof])) m
      rw [same]
      refine served.sentOn (sendFree_sent ?_ ..)
      rw [aside.act]
      exact act
    · next high =>
      refine runs_served he fab fun u hu served => ?_
      obtain ⟨peer, wired, dup, two⟩ := said u served
      refine ⟨peer, wired, dup, two, fun low calm => absurd ⟨?_, ?_⟩ high⟩
      · rwa [rows]
      · simpa [isTampered, units] using calm
  case otherCascade =>
    intro t p m s ports state notice role node part other served
    refine runs_refused (t := t) (by decide) served ?_
    have state : (portOf (tick t s) p.val).state = 2 := state
    have other : m.cascade ≠ getN (tick t s) 0x30100 := other
    change execHello t p m s = _
    unfold execHello
    simp only [state, notice]
    rw [if_neg (by decide), if_neg (by simp [role, node, part])]
    exact if_pos (by simp [other])
  case retry =>
    intro t p s ports act state due
    obtain ⟨v, hv⟩ : ∃ v, v = updPort p.val (fun x => { x with started := max s.clk.fab t }) (tick t s) := ⟨_, rfl⟩
    have he : exec (.helloRetry t p) s = done (tick t s) (sendHello p.val v) := by
      rw [hv]
      exact if_pos ⟨state, due⟩
    have actV : (active v).isSome = true := by rw [hv]; exact act
    refine runs_served he ((sendHello_serves p.val v).fab.trans (by simp [hv])) fun u hu served => ⟨?_, ?_⟩
    · exact hello_sent actV (.refl _) served (hu.life.trans (by simp [sendHello]))
    · have kept := ((sendHello_serves p.val v).trans served).port p.val
      rw [hv, portOf_updPort_same (s := tick t s) (lt_of_lt_of_eq p.isLt ports.symm)] at kept
      exact kept.same Port.started fun _ => rfl
  case tampered =>
    intro t s tampered act
    have first := sendHello_serves 0 (tick t s)
    have second := sendHello_serves 1 (sendHello 0 (tick t s))
    refine runs_served (if_pos tampered) (first.trans second).fab fun u hu served => ⟨?_, ?_⟩
    · exact hello_sent (s := tick t s) act second served (hu.life.trans (by simp [sendHello]))
    · refine hello_sent ?_ (.refl _) served (hu.life.trans (by simp [sendHello]))
      rw [first.act]
      exact act
  case offer =>
    intro t p m y s ports state peer higher calm proof nonce act
    have he : exec (.offer t p m) s = done (tick t s) (linkStart p.val m (sendProof true p.val y (tick t s))) :=
      congrArg (done (tick t s)) (handshake_starts (s := tick t s) state peer (decide_eq_false (Nat.not_le_of_lt higher))
        calm proof nonce)
    have sent : Serves (tick t s) (sendProof true p.val y (tick t s)) := sendFree_serves ..
    have begun := linkStart_carries p.val m (sendProof true p.val y (tick t s))
    refine runs_served he (begun.fab.trans sent.fab) fun u hu served => ?_
    have kept := (begun.trans served.toCarries).port p.val
    rw [portOf_updPort_same (by rw [sent.count]; exact lt_of_lt_of_eq p.isLt ports.symm)] at kept
    refine ⟨kept.high (by simp [Port.begun]), kept.same Port.grant fun _ => rfl, kept.same Port.wasUp fun _ => rfl,
      kept.same Port.fcntRx fun _ => rfl, ?_⟩
    refine (begun.trans served.toCarries).sentOn ?_
    exact sendFree_sent (s := tick t s) act ..
  case badOffer =>
    intro t p m y s state peer higher calm bad served
    refine runs_refused (by decide) served (congrArg (done (tick t s)) ?_)
    exact handshake_refused (s := tick t s) state peer (decide_eq_false (Nat.not_le_of_lt higher)) calm bad
  case accept =>
    intro t p m y s ports state peer lower calm proof nonce
    have he : exec (.accept t p m) s = done (tick t s) (linkStart p.val m (tick t s)) :=
      congrArg (done (tick t s)) (handshake_starts (s := tick t s) state peer (decide_eq_false (Nat.not_lt_of_le lower))
        calm proof nonce)
    have begun := linkStart_carries p.val m (tick t s)
    refine runs_served he begun.fab fun u hu served => ?_
    have kept := (begun.trans served.toCarries).port p.val
    rw [portOf_updPort_same (s := tick t s) (lt_of_lt_of_eq p.isLt ports.symm)] at kept
    exact ⟨kept.high (by simp [Port.begun]), kept.same Port.grant fun _ => rfl, kept.same Port.wasUp fun _ => rfl,
      kept.same Port.fcntRx fun _ => rfl⟩
  case down =>
    intro t p s ports act up
    have he : exec (.linkDown t p) s = done (tick t s) (linkEnds p.val (tick t s)) :=
      if_neg (show ¬(portOf s p.val).state < 2 by omega)
    obtain ⟨link, state⟩ := portOf_linkEnds (p := p.val) (s := tick t s) (lt_of_lt_of_eq p.isLt ports.symm)
    refine runs_served he (linkEnds_carries ..).fab fun u hu served => ⟨?_, ?_, ?_, fun far => ?_⟩
    · exact (served.state p.val).trans state
    · exact (congrArg Port.peer ((served.unit p.val).trans link) :)
    · refine served.sticky 52 ?_
      rw [linkEnds_eq, if_neg (show ¬(portOf (tick t s) p.val).state < 3 from Nat.not_lt_of_le up)]
      exact (linkBroken_carries ..).2.1
    · have fell := linkFell_carries p.val (tick t s)
      have other : 1 - p.val ≠ p.val := by omega
      have same : portOf (updPort p.val Port.ended (tick t s)) (1 - p.val) = portOf s (1 - p.val) :=
        portOf_updPort_ne other ..
      have broken := (linkBroken_carries p.val (portOf s p.val) (linkFell p.val (tick t s))).2.2 (by rw [fell.act]; exact act)
        (by rw [fell.count, length_updPort]; simp [ports]) ((fell.port _).high (by rw [same]; exact far))
      obtain ⟨mod, tgen⟩ := linkFell_names p.val (tick t s)
      rw [mod, tgen] at broken
      refine served.flooded ?_ ?_
      · rw [(linkEnds_carries p.val (tick t s)).act]
        exact act
      · rw [linkEnds_eq, if_neg (show ¬(portOf (tick t s) p.val).state < 3 from Nat.not_lt_of_le up)]
        exact broken
  case restart =>
    intro t sid h args s hp ports
    have inside : argN args 0 < (opState t h sid s).trunk.ports.length := by
      have small : argN args 0 ≤ 1 := argN_le_of_argRange (argRange_of_passes hp)
      rw [show (opState t h sid s).trunk.ports.length = 2 from ports]
      omega
    obtain ⟨link, state⟩ := portOf_linkEnds inside
    refine runs_executed hp rfl rfl (by simpa using live_of_passes hp) fun u hu => ⟨?_, ?_, hu.answered⟩
    · exact (congrArg Port.state (unsent_of_portsOf hu.ports _) :).trans state
    · exact (congrArg Port.peer (unsent_of_portsOf hu.ports _) :).trans (congrArg Port.peer link :)
  case pause =>
    intro t p s served
    exact runs_refused (by decide) served rfl

end Sys2Proof.Machine
end

section
/-!
PROOFS. Frames stored, passed on and refused, and the credits told (R307, R308, R311, R312, R314, R315), and the settlement of
O42.
-/
namespace Sys2Proof.Machine

open Sys2Proof.Safety

/-! ### A frame refused -/

theorem OnlySends.counts {s u : State} (h : OnlySends s u) : counts u = counts s := by
  have served : servedBy u = servedBy s := by rw [servedBy, servedBy, h.active]
  unfold Safety.counts
  rw [served, h.lanes (servedBy s)]

/-- What is refused on the way is counted once, whatever was sent before. -/
theorem cntRead_refused {n : Nat} {s v u : State} (hn : Refused n) (served : counts s = true) (sent : OnlySends s v)
    (books : SameBooks s v) (later : SameBooks (cntUp n v) u) (act : active u = active v) :
    cntRead u n 0 0 = (cntRead s n 0 0 + 1) % 4294967296 := by
  have before : cntRead v n 0 0 = cntRead s n 0 0 := by
    rw [cntRead, cntRead, servedBy, servedBy, sent.active, books.refused _ _ hn]
  have counted : cntRead (cntUp n v) n 0 0 = _ := cntRead_cntUp (sent.counts.trans served) n
  rw [← before, ← counted, cntRead, cntRead, servedBy, servedBy, show active (cntUp n v) = active v from (cntUpAt_onlySends n 0 0 1 v).active, act, later.refused _ _ hn]

/-- The frame count of a port's ingress rises with every frame (R306). -/
theorem arrived_onlySends (p : Nat) (s : State) : OnlySends s (cntUpAt 0x30020 p 7 1 s) := cntUpAt_onlySends ..

theorem spoilFrame_serves (p : Nat) (f : TrunkFrame) (s : State) :
    Serves s (spoilFrame p f s) ∧ OnlySends s (spoilFrame p f s) := by
  unfold spoilFrame
  split
  · exact ⟨.refl s, .refl s⟩
  · dsimp only
    split
    · refine ⟨(useCredit_serves ..).trans (emit_serves ..), .trans ?_ (emit_onlySends ..)⟩
      exact .of_eq rfl rfl rfl rfl rfl
    · exact ⟨.refl s, .refl s⟩

/-! ### A frame passed on -/

theorem nextQueue_none {s : State} (empty : s.trunk.voq = []) (p cls : Nat) : nextQueue s p cls = none := by
  have heads : ((List.range 66).map (fun d => [false, true].filterMap (fun k =>
      s.trunk.voq.find? (fun q => q.1 == d && q.2.1 == cls && isNote q.2.2 == k)))).flatten = [] := by
    simp [empty]
  simp only [nextQueue, heads]
  rfl

/-- Where nothing else waits a port serves the one frame that passes through, in its class (R310, R311). -/
theorem serveClass_alone {e cls : Nat} {f : TrunkFrame} {s : State} (wait : (portOf s e).wait = [f])
    (flood : (portOf s e).flood = []) (voq : s.trunk.voq = [])
    (credit : linkCredit (portOf s e) f.cls f.vc (frameUnits f.len) = true) :
    serveClass e cls s = if f.cls = cls then
      some (updPort e (fun x => { x with lastOwn := lset x.lastOwn cls false })
        (passOn e f (updPort e (fun x => { x with wait := dropFirst (· == f) x.wait }) s))) else none := by
  unfold serveClass
  simp only [wait, flood, nextQueue_none voq]
  by_cases h : f.cls = cls
  · subst h
    simp [credit]
  · simp [h]

/-- A frame served by pass-through (R311, R314). -/
def passedOn (e : Nat) (f : TrunkFrame) (s : State) : State :=
  updPort e (fun x => { x with lastOwn := lset x.lastOwn f.cls false })
    (passOn e f (updPort e (fun x => { x with wait := dropFirst (· == f) x.wait }) s))

theorem served_alone {e : Nat} {f : TrunkFrame} {s : State} (wait : (portOf s e).wait = [f]) (flood : (portOf s e).flood = [])
    (voq : s.trunk.voq = []) (credit : linkCredit (portOf s e) f.cls f.vc (frameUnits f.len) = true) (cls : f.cls ≤ 3) :
    [0, 1, 2, 3].findSome? (fun c => serveClass e c s) = some (passedOn e f s) := by
  have order : f.cls = 0 ∨ f.cls = 1 ∨ f.cls = 2 ∨ f.cls = 3 := by omega
  simp only [serveClass_alone wait flood voq credit, passedOn]
  rcases order with h | h | h | h <;> simp [h]

/-- A frame that is passed on leaves with an active lane, one hop less (R314). -/
theorem passedOn_sent {e : Nat} {s : State} (act : (active s).isSome = true) (f : TrunkFrame) :
    ∃ g tag, g.dst = f.dst ∧ g.cls = f.cls ∧ g.src = f.src ∧ g.vc = f.vc ∧ g.hops = f.hops - 1 ∧
      Sent (passedOn e f s) (.trunk e g .passed tag) := by
  have leaves : outside (.trunk e { f with hops := f.hops - 1 } .passed []) = true := rfl
  obtain ⟨o', rfl | ⟨_, g, _, _, n, tag, ho, rfl⟩, sent⟩ := emit_sent (s := freeIngress (1 - e) f.cls f.vc (frameUnits f.len)
    (useCredit e f.cls f.vc (frameUnits f.len) (updPort e (fun x => { x with wait := dropFirst (· == f) x.wait }) s))) act leaves
  · exact ⟨{ f with hops := f.hops - 1 }, [], rfl, rfl, rfl, rfl, rfl, sent⟩
  · cases ho
    exact ⟨{ f with hops := f.hops - 1, fcnt := n }, tag, rfl, rfl, rfl, rfl, rfl, sent⟩

/-- With an active lane the one frame that waits leaves. -/
theorem retryPort_passes {e : Nat} {f : TrunkFrame} {s : State} (act : (active s).isSome = true)
    (wait : (portOf s e).wait = [f]) (flood : (portOf s e).flood = []) (voq : s.trunk.voq = [])
    (credit : linkCredit (portOf s e) f.cls f.vc (frameUnits f.len) = true) (cls : f.cls ≤ 3) :
    ∃ g tag, g.dst = f.dst ∧ g.cls = f.cls ∧ g.src = f.src ∧ g.vc = f.vc ∧ g.hops = f.hops - 1 ∧
      Sent (retryPort e s) (.trunk e g .passed tag) := by
  have one : serveEgress e ((portOf s e).wait.length + (portOf s e).flood.length + s.trunk.voq.length) s = passedOn e f s := by
    rw [wait, flood, voq]
    change serveEgress e 1 s = _
    rw [serveEgress, served_alone wait flood voq credit cls]
    rfl
  have retried : retryPort e s =
      updPort e (fun x => { x with waitSince := if x.wait.isEmpty then none else x.waitSince }) (passedOn e f s) := by
    rw [← one]
    rfl
  rw [retried]
  exact passedOn_sent act f

theorem forwardFrame_serves (p e : Nat) (f : TrunkFrame) (s : State) : Serves s (forwardFrame p e f s) := by
  unfold forwardFrame
  extract_lets date g s1
  split
  · exact freeIngress_serves ..
  · split
    · exact (freeIngress_serves ..).trans (cntUp_serves (by decide) _)
    · refine .trans ?_ (retryPort_serves ..)
      exact .updPort (by intro _; rfl) (by intro _; rfl) (by intro _ _ h; exact h) e s

theorem le_of_mtypeClasses {m c : Nat} (h : (mtypeClasses m).contains c = true) : c ≤ 3 := by
  unfold mtypeClasses at h
  repeat' split at h
  all_goals simp at h
  all_goals omega

/-- The frame count received is set, and the frame is on its way (R306, R307). -/
def frameTaken (p : Nat) (f : TrunkFrame) (s : State) : State :=
  updPort p (fun x => { x with fcntRx := f.fcnt }) (cntUpAt 0x30020 p 7 1 s)

section
variable {t : Nat} {p : Fin 2} {f : TrunkFrame} {s : State} (up : 3 ≤ (portOf s p.val).state)
include up

theorem execPassThrough_old (old : f.fcnt ≤ (portOf s p.val).fcntRx) :
    exec (.passThrough t p f) s = done (tick t s) (cntUp 0x30015 (cntUpAt 0x30020 p.val 7 1 (tick t s))) :=
  (if_neg (Nat.not_lt_of_le up)).trans (if_pos old)

theorem execPassThrough_bad (new : ¬f.fcnt ≤ (portOf s p.val).fcntRx) (bad : f.tagOk = false) :
    exec (.passThrough t p f) s =
      done (tick t s) (cntUp 0x30015 (spoilFrame p.val f (cntUpAt 0x30020 p.val 7 1 (tick t s)))) :=
  (if_neg (Nat.not_lt_of_le up)).trans ((if_neg new).trans (if_pos (by simp [bad])))

variable (good : f.tagOk = true) (new : (portOf s p.val).fcntRx < f.fcnt) (cls : (mtypeClasses f.mtype).contains f.cls = true)
  (master : f.cls = 3 → f.src = masterId s)
include good new cls master

/-- A good frame goes where its destination says. -/
theorem execPassThrough_good : exec (.passThrough t p f) s =
    (let s1 := frameTaken p.val f (tick t s)
    if f.dst = modId s1 ∨ f.dst = 254 then done (tick t s) (storeFrame p.val f s1)
    else if f.hops ≤ 1 then done (tick t s) (freeIngress p.val f.cls f.vc (frameUnits f.len) s1)
    else if f.dst = 255 then
      if f.src = modId s1 then done (tick t s) (freeIngress p.val f.cls f.vc (frameUnits f.len) s1)
      else done (tick t s) (forwardFrame p.val (1 - p.val) f s1)
    else match route s1 f.dst with
      | none => done (tick t s) (cntUp 0x30014 (freeIngress p.val f.cls f.vc (frameUnits f.len) s1))
      | some e => done (tick t s) (forwardFrame p.val e f s1)) := by
  have same : masterId (frameTaken p.val f (tick t s)) = masterId s := by
    simp only [masterId, frameTaken, updPort, cntUpAt_frame, tick]
  refine (if_neg (Nat.not_lt_of_le up)).trans ((if_neg (Nat.not_le_of_lt new)).trans ((if_neg (by simp [good])).trans
    (if_neg ?_)))
  have kept : ¬(f.cls = 3 ∧ f.src ≠ masterId (frameTaken p.val f (tick t s))) := by
    rw [same]
    exact fun h => h.2 (master h.1)
  rw [cls]
  change ¬((!true || (f.cls == 3 && f.src != masterId (frameTaken p.val f (tick t s)))) = true)
  simpa using kept

end

/-- A frame taken sets the count received and leaves the rest of the trunk. -/
structure Taken (p : Nat) (f : TrunkFrame) (s v : State) : Prop where
  port : portOf v p = { portOf s p with fcntRx := f.fcnt }
  other : ∀ e, e ≠ p → portOf v e = portOf s e
  count : v.trunk.ports.length = s.trunk.ports.length
  act : active v = active s
  fab : v.clk.fab = s.clk.fab
  mod : modId v = modId s
  ring : ringOf v = ringOf s
  srcs : v.trunk.srcs = s.trunk.srcs
  voq : v.trunk.voq = s.trunk.voq
  dict : v.dict = s.dict

theorem taken_frameTaken {p : Nat} {s : State} (inside : p < s.trunk.ports.length) (f : TrunkFrame) :
    Taken p f s (frameTaken p f s) := by
  have counted (e : Nat) : portOf (cntUpAt 0x30020 p 7 1 s) e = portOf s e := portOf_of_trunk (by simp) e
  have dict : (frameTaken p f s).dict = s.dict := by simp [frameTaken]
  refine ⟨?_, fun e he => ?_, ?_, ?_, ?_, modId_congr dict, ?_, ?_, ?_, dict⟩
  · rw [frameTaken, portOf_updPort_same (by simpa using inside), counted]
  · rw [frameTaken, portOf_updPort_ne he, counted]
  · rw [frameTaken, length_updPort]
    simp
  · exact (cntUpAt_onlySends 0x30020 p 7 1 s).active
  · simp [frameTaken]
  all_goals simp [frameTaken, ringOf, updPort]

theorem Taken.route {p : Nat} {f : TrunkFrame} {s v : State} (h : Taken p f s v) (d : Nat) : route v d = route s d :=
  route_congr (congrArg Trunk.topo h.ring :) (congrArg Trunk.cut h.ring :) h.mod d

theorem Taken.masterId {p : Nat} {f : TrunkFrame} {s v : State} (h : Taken p f s v) : masterId v = masterId s := by
  rw [Machine.masterId, Machine.masterId, show v.trunk.topo = s.trunk.topo from (congrArg Trunk.topo h.ring :)]

/-- A frame for this node within its source's share is held in the store (R315). -/
theorem storeFrame_holds {p : Nat} {f : TrunkFrame} {s : State} (cls : f.cls ≠ 0)
    (room : cN (srcOf s f.src).held (dcls f.cls) + frameBytes f.len ≤ shareOf s f.src (dcls f.cls))
    (held : dcls f.cls < (srcOf s f.src).held.length) :
    cN (srcOf (storeFrame p f s) f.src).held (dcls f.cls) = cN (srcOf s f.src).held (dcls f.cls) + frameBytes f.len ∧
    (storeFrame p f s).clk = s.clk ∧
    Serves s (storeFrame p f s) := by
  obtain ⟨v, hv⟩ : ∃ v, v = freeIngress p f.cls f.vc (frameUnits f.len) s := ⟨_, rfl⟩
  have stored : storeFrame p f s = { v with trunk := { v.trunk with srcs := (mset v.trunk.srcs f.src
      { srcOf s f.src with held := lmod (srcOf s f.src).held (dcls f.cls) (· + frameBytes f.len) }) } } := by
    rw [hv]
    refine (if_neg cls).trans (if_neg ?_)
    exact Nat.not_lt_of_le room
  have freed : Serves s v := hv ▸ freeIngress_serves ..
  rw [stored]
  refine ⟨?_, by rw [hv]; rfl, freed.trans (.srcs _ v)⟩
  simp only [srcOf, mgetD_mset_same]
  exact lget_lmod_same _ _ _ _ held

/-- Settles O42: it holds. What a frame or a credit message makes of the books is made before anything is served, and serving
keeps it. -/
theorem framesAndCredit : Obligations.FramesAndCredit := by
  unfold Obligations.FramesAndCredit
  refine ⟨?stored, ?passed, ?old, ?bad, ?credit, ?told, ?granted, ?freed⟩
  case stored =>
    intro t p f s ports up good new cls master own user room held
    have he := execPassThrough_good (t := t) up good new cls master
    have inside : p.val < (tick t s).trunk.ports.length := lt_of_lt_of_eq p.isLt ports.symm
    have taken := taken_frameTaken inside f
    generalize frameTaken p.val f (tick t s) = v at he taken
    have own : f.dst = modId v := own.trans taken.mod.symm
    rw [if_pos (.inl own)] at he
    have srcs : srcOf v f.src = srcOf s f.src := by rw [srcOf, taken.srcs]; rfl
    have share : shareOf v f.src (dcls f.cls) = shareOf s f.src (dcls f.cls) := by
      simp only [shareOf, taken.masterId, show v.trunk.topo = s.trunk.topo from (congrArg Trunk.topo taken.ring :)]
      rfl
    obtain ⟨sum, clk, stored⟩ := storeFrame_holds (p := p.val) (f := f) (s := v) user (by rw [srcs, share]; exact room)
      (by rw [srcs]; exact held)
    refine runs_served he (by rw [clk, taken.fab]) fun u hu served => ⟨?_, ?_⟩
    · have kept := (stored.trans served).port p.val
      rw [taken.port] at kept
      exact kept.same Port.fcntRx fun _ => rfl
    · have same : srcOf u f.src = srcOf (storeFrame p.val f v) f.src := by
        rw [srcOf, srcOf, show u.trunk.srcs = (storeFrame p.val f v).trunk.srcs from (congrArg Trunk.srcs hu.sends.trunk :)]
      rw [same, sum, srcs]
  case passed =>
    intro t e p f s ports up good new cls master other notLink notAll hops way date act upE wait flood voq credit
    have he := execPassThrough_good (t := t) up good new cls master
    have inside : p.val < (tick t s).trunk.ports.length := lt_of_lt_of_eq p.isLt ports.symm
    have taken := taken_frameTaken inside f
    generalize frameTaken p.val f (tick t s) = v at he taken
    have route : route v f.dst = some e := (taken.route f.dst).trans ((route_tick t s f.dst).trans way)
    simp only [route] at he
    rw [if_neg (by rw [taken.mod]; exact fun h => h.elim other notLink), if_neg (by omega), if_neg notAll] at he
    refine runs_served he ((forwardFrame_serves ..).fab.trans taken.fab) fun u hu served => ⟨?_, ?_⟩
    · have kept := ((forwardFrame_serves p.val e f v).trans served).port p.val
      rw [taken.port] at kept
      exact kept.same Port.fcntRx fun _ => rfl
    · have portE : portOf v e = { portOf s e with fcntRx := (portOf v e).fcntRx } := by
        by_cases he : e = p.val
        · rw [he, taken.port]
          rfl
        · rw [taken.other e he]
          rfl
      have straight : (masterId v == modId v && e != p.val) = false := by
        rw [taken.masterId, taken.mod]
        rcases date with h | h
        · simp [show masterId (tick t s) = masterId s from rfl, show modId (tick t s) = modId s from rfl, h]
        · simp [h]
      obtain ⟨w, hw⟩ : ∃ w, w = updPort e (fun x => { x with
        wait := x.wait ++ [f], waitSince := some (x.waitSince.getD v.clk.fab) }) v := ⟨_, rfl⟩
      have forwarded : forwardFrame p.val e f v = retryPort e w := by
        rw [hw]
        simp only [forwardFrame, straight]
        rw [if_neg (by rw [portE]; exact Nat.not_lt_of_le upE), if_neg (by simp)]
        rfl
      have portW : portOf w e = { portOf v e with wait := [f], waitSince := some ((portOf v e).waitSince.getD v.clk.fab) } := by
        rw [hw, portOf_updPort_same ?_]
        · rw [show (portOf v e).wait = [] by rw [portE]; exact wait]
          rfl
        · rw [taken.count]
          rcases route_port way with h | h <;> simp [h, ports]
      have actW : (active w).isSome = true := by
        rw [hw]
        exact taken.act ▸ act
      have voqW : w.trunk.voq = [] := by
        rw [hw]
        exact taken.voq.trans voq
      obtain ⟨g, tag, dst, same, src, vc, hops, sent⟩ := retryPort_passes (e := e) (f := f) actW (by rw [portW])
        (by rw [portW, portE]; exact flood) voqW (by rw [portW, portE]; exact credit) (le_of_mtypeClasses cls)
      rw [forwarded] at served
      exact ⟨g, tag, dst, same, src, vc, hops, served.sent _ sent⟩
  case old =>
    intro t p f s ports up old served
    have sent := arrived_onlySends p.val (tick t s)
    have kept : Serves (tick t s) (cntUpAt 0x30020 p.val 7 1 (tick t s)) :=
      cntUpAt_serves (by decide) (by decide) (.inr (by decide)) ..
    refine runs_served (execPassThrough_old up old) (by simp) fun u hu later => ⟨?_, ?_, ?_⟩
    · exact hu.sends.ports.trans (by simp [portsOf])
    · exact hu.sends.topo.trans (by simp)
    · refine cntRead_refused (s := tick t s) (by decide) served sent kept.books later.books (later.act.trans ?_)
      exact (cntUpAt_onlySends ..).active
  case bad =>
    intro t p f s ports up bad served
    have arrived := arrived_onlySends p.val (tick t s)
    have kept : Serves (tick t s) (cntUpAt 0x30020 p.val 7 1 (tick t s)) :=
      cntUpAt_serves (by decide) (by decide) (.inr (by decide)) ..
    obtain ⟨v, he, sent, kept⟩ : ∃ v, exec (.passThrough t p f) s = done (tick t s) (cntUp 0x30015 v) ∧
        OnlySends (tick t s) v ∧ Serves (tick t s) v := by
      by_cases old : f.fcnt ≤ (portOf s p.val).fcntRx
      · exact ⟨_, execPassThrough_old up old, arrived, kept⟩
      · obtain ⟨spoiled, only⟩ := spoilFrame_serves p.val f (cntUpAt 0x30020 p.val 7 1 (tick t s))
        exact ⟨_, execPassThrough_bad up old bad, arrived.trans only, kept.trans spoiled⟩
    refine runs_served he (by simpa using kept.fab) fun u hu later => ⟨?_, ?_⟩
    · have same : portOf (cntUp 0x30015 v) p.val = portOf v p.val := portOf_of_trunk (by simp) _
      refine ((later.port p.val).same Port.fcntRx fun _ => rfl).trans ?_
      rw [same]
      exact (kept.port p.val).same Port.fcntRx fun _ => rfl
    · refine cntRead_refused (s := tick t s) (by decide) served sent kept.books later.books (later.act.trans ?_)
      exact (cntUpAt_onlySends ..).active
  case credit =>
    intro t p fr s ports up
    obtain ⟨v, hv⟩ : ∃ v, v = updPort p.val (fun x => { x with freed := (List.range 8).map (fun i => cN fr i % 65536) })
      (tick t s) := ⟨_, rfl⟩
    have he : exec (.credit t p fr) s = done (tick t s) (retryVoq (retryPort p.val v)) := by
      rw [hv]
      exact if_neg (Nat.not_lt_of_le up)
    have retried := (retryPort_serves p.val v).trans (retryVoq_serves _)
    refine runs_served he (retried.fab.trans (by simp [hv])) fun u hu served => ?_
    have kept := (retried.trans served).port p.val
    rw [hv, portOf_updPort_same (s := tick t s) (lt_of_lt_of_eq p.isLt ports.symm)] at kept
    exact kept.same Port.freed fun _ => rfl
  case told =>
    intro t p s ports act up due
    obtain ⟨c, e⟩ : ∃ c, c = (if decide ((portOf s p.val).lastCredit + Config.msCycles ≤ max s.clk.fab t) &&
        (portOf s p.val).waitSince.any (fun f => decide (f + Config.msCycles / 2 < max s.clk.fab t))
      then cntUpAt 0x30020 p.val 4 1 (tick t s) else tick t s) := ⟨_, rfl⟩
    have trunk : c.trunk = s.trunk := by rw [e]; split <;> simp
    have fab : c.clk.fab = max s.clk.fab t := by rw [e]; split <;> simp [tick]
    have actC : active c = active s := by
      rw [e]
      split
      · exact (cntUpAt_onlySends ..).active
      · rfl
    obtain ⟨v, hv⟩ : ∃ v, v = updPort p.val (fun x => { x with
      reported := x.inFreed, firstFree := none, lastCredit := max s.clk.fab t }) c := ⟨_, rfl⟩
    have he : exec (.creditSend t p) s =
        done (tick t s) (sendFree p.val 254 0 (.credit (portOf s p.val).inFreed) v) := by
      rw [hv, e]
      refine if_neg ?_
      rintro (low | quiet)
      · exact Nat.not_lt_of_le up low
      · rw [Bool.not_eq_true', Bool.or_eq_false_iff, Bool.or_eq_false_iff, decide_eq_false_iff_not] at quiet
        obtain ⟨⟨-, first⟩, last⟩ := quiet
        rcases due with h | h
        · exact last h
        · exact Bool.false_ne_true (first.symm.trans h)
    have port : portOf v p.val = { portOf s p.val with
        reported := (portOf s p.val).inFreed, firstFree := none, lastCredit := max s.clk.fab t } := by
      rw [hv, portOf_updPort_same (by rw [trunk, ports]; exact p.isLt), portOf_of_trunk (congrArg Trunk.ports trunk)]
    have left := emit_sends (P := fun _ => True) (o := .trunk p.val (ownFrame v 254 0 (.credit (portOf s p.val).inFreed))
      (.credit (portOf s p.val).inFreed) []) (fun _ _ => trivial) v
    refine runs_served he ((sendFree_serves ..).fab.trans (by rw [hv]; exact fab)) fun u hu served => ?_
    have same : (portOf u p.val).unsent = (portOf v p.val).unsent :=
      (unsent_of_portsOf hu.sends.ports p.val).trans (unsent_of_portsOf left.ports p.val)
    rw [port] at same
    refine ⟨(congrArg Port.reported same :), (congrArg Port.firstFree same :), (congrArg Port.lastCredit same :), ?_⟩
    refine served.sentOn (sendFree_sent ?_ ..)
    rw [hv]
    exact actC ▸ act
  case granted =>
    intro t src fr hl gr rs s
    refine runs_served rfl (retryVoq_serves _).fab fun u hu served => ?_
    have books := (retryVoq_serves _).books.trans served.books
    rw [books.grant, books.freed]
    simp [destOf]
  case freed =>
    intro t dst s act way due
    obtain ⟨p, way⟩ := Option.isSome_iff_exists.1 way
    obtain ⟨x, hx⟩ : ∃ x : SrcShare, x = { srcOf s dst with
      held := [0, 0, 0]
      freed := (List.range 3).map (fun i => (cN (srcOf s dst).freed i + cN (srcOf s dst).held i) % 4294967296) } := ⟨_, rfl⟩
    obtain ⟨v, hv⟩ : ∃ v, v = { tick t s with trunk := { s.trunk with srcs := mset s.trunk.srcs dst x } } := ⟨_, rfl⟩
    have he : exec (.dcreditSend t dst) s = done (tick t s) (sendDcredit false v dst) := by
      rw [hv, hx]
      exact if_pos due
    obtain ⟨w, hw⟩ : ∃ w, w = { v with trunk := { v.trunk with srcs := (mset v.trunk.srcs dst
      { x with reported := x.freed, sentAt := v.clk.fab }) } } := ⟨_, rfl⟩
    have own : srcOf v dst = x := by
      rw [hv]
      exact mgetD_mset_same ..
    have sending : sendDcredit false v dst = trunkSend dst 0 (.dcredit false x.freed x.held
        [shareOf v dst 0 / 64, shareOf v dst 1 / 64, shareOf v dst 2 / 64]) w := by
      rw [hw, sendDcredit, own]
    have wayW : route w dst = some p := by
      rw [← way]
      exact route_congr (by rw [hw, hv]) (by rw [hw, hv]) (by rw [hw, hv]; rfl) dst
    have actW : (active w).isSome = true := by
      rw [hw, hv]
      exact act
    have sent := trunkSend_sends (P := fun _ => True) (m := .dcredit false x.freed x.held
        [shareOf v dst 0 / 64, shareOf v dst 1 / 64, shareOf v dst 2 / 64]) (fun _ _ => trivial) dst 0 w
    rw [sending] at he
    refine runs_served he ((trunkSend_serves ..).fab.trans (by rw [hw, hv])) fun u hu served => ?_
    have all := sent.trans (hu.sends.mono fun _ _ => trivial)
    have share : srcOf u dst = { x with reported := x.freed, sentAt := v.clk.fab } := by
      rw [srcOf, show u.trunk.srcs = w.trunk.srcs from (congrArg Trunk.srcs all.trunk :), hw]
      exact mgetD_mset_same ..
    rw [share]
    refine ⟨by rw [hx], by rw [hx], by rw [hv]; rfl, [shareOf v dst 0 / 64, shareOf v dst 1 / 64, shareOf v dst 2 / 64], ?_⟩
    have left := hu.sends.trunkSent (trunkSend_sent actW wayW 0 (.dcredit false x.freed x.held
        [shareOf v dst 0 / 64, shareOf v dst 1 / 64, shareOf v dst 2 / 64]))
    rwa [show x.held = [0, 0, 0] by rw [hx]] at left

end Sys2Proof.Machine
end

section
/-!
PROOFS. The ring's topology (R304, R316, R317, R324, R334), and the settlement of O43.
-/
namespace Sys2Proof.Machine

open Sys2Proof.Safety

/-! ### What a TOPO in force makes of the ring -/

theorem ringOf_of_trunk {s u : State} (h : u.trunk = s.trunk) : ringOf u = ringOf s := by rw [ringOf, ringOf, h]

theorem listPort_ring (m : TopoMsg) (p : Nat) (s : State) : ringOf (listPort m p s) = ringOf s := by
  unfold listPort
  extract_lets on s1
  have marked : ringOf s1 = ringOf s := by
    simp only [s1]
    split
    · exact ringOf_of_trunk (startupMark_aside 4 s).trunk
    · rfl
  exact marked

/-- A TOPO in force is the ring, with its generation and nothing deferred or cut (R316, R317). -/
theorem adoptTopo_ring (m : TopoMsg) (s : State) : ringOf (adoptTopo m s) = { ringOf s with
    topo := some m, tgen := m.tgen, later := none, cut := []
    moved := if modId s = 0 then m.dateline != 0 else s.trunk.moved } := by
  unfold adoptTopo
  extract_lets s0 old opened d trunk s1 s2 s3 stepped time s4 s5
  have listed : ringOf s2 = ringOf s1 := (listPort_ring ..).trans (listPort_ring ..)
  have marked : ringOf s3 = ringOf s2 := by
    simp only [s3]
    split
    · exact ringOf_of_trunk (ringOpens_aside s2).trunk
    · rfl
  have anchored : ringOf s4 = ringOf s3 := by
    simp only [s4]
    split
    · exact ringOf_of_trunk (stepTai_aside d 5 noClient s3).trunk
    · rfl
  have served : ringOf s5 = ringOf s4 := ((resetDcredits_serves m s4).trans (retryVoq_serves _)).ring
  refine ((Serves.foldl (fun n _ s => moduleReached_serves s n) s5).ring.trans (served.trans (anchored.trans
    (marked.trans listed)))).trans ?_
  rfl

theorem issueTopo_reports (m : TopoMsg) (atOnce : Bool) (s : State) :
    (issueTopo m atOnce s).trunk.reports = s.trunk.reports := by
  refine (congrArg Trunk.reports (floodTopo_serves ..).ring :).trans ?_
  split
  · exact (congrArg Trunk.reports (adoptTopo_ring m s) :)
  · rfl

theorem masterTopo_reports (s : State) : (masterTopo s).trunk.reports = s.trunk.reports := by
  unfold masterTopo
  extract_lets m last
  clear_value last
  split
  · rfl
  · split
    · extract_lets gone s1
      split
      · rfl
      · refine (issueTopo_reports ..).trans ?_
        simp only [s1]
        split
        · simp [putN, putRow]
        · rfl
    · exact issueTopo_reports ..

/-- RING_OPEN moves no row that tells who acts as master. -/
theorem actsMaster_ringOpens (s : State) : actsMaster (ringOpens s) = actsMaster s := by
  have mod : modId (ringOpens s) = modId s := (stickySet_sameRows (by decide) ..).modId (by decide)
  unfold actsMaster
  rw [mod, (ringOpens_aside s).trunk]

/-- With no TOPO deferred a higher generation is taken up (R316). -/
theorem execTopo_higher {t : Nat} {p : Fin 2} {m o : TopoMsg} {s : State} (up : 3 ≤ (portOf s p.val).state)
    (none : s.trunk.later = none) (higher : seqHigher m.tgen s.trunk.tgen = true) (topo : s.trunk.topo = some o) :
    exec (.topo t p m) s =
      if removesLink o m then
        if m.anchor = o.anchor then done (tick t s) (adoptTopo m (tick t s))
        else done (tick t s) { adoptTopo { m with anchor := o.anchor } (tick t s) with
          trunk := { (adoptTopo { m with anchor := o.anchor } (tick t s)).trunk with
            later := some (m, boundaryAfter (adoptTopo { m with anchor := o.anchor } (tick t s)) 1) } }
      else done (tick t s) { tick t s with trunk := { s.trunk with later := some (m, boundaryAfter (tick t s) 1) } } := by
  have port : ¬(portOf (tick t s) p.val).state < 3 := Nat.not_lt_of_le up
  change execTopo t p m s = _
  simp only [execTopo, tick_frame, none, topo, higher]
  exact if_neg (by simp [port])

/-- A BREAK of a link not cut, of this generation or a later one, cuts it and sets RING_OPEN (R317). -/
theorem execBreakMsg_new {t a b g : Nat} {p : Fin 2} {s : State} (up : 3 ≤ (portOf s p.val).state) (whole : isCut s a b = false)
    (fresh : seqHigher s.trunk.tgen g = false) :
    exec (.breakMsg t p a b g) s =
      let v := ringOpens { tick t s with trunk := { s.trunk with cut := (a, b) :: s.trunk.cut } }
      if actsMaster v then
        done (tick t s) (masterTopo { v with trunk := { v.trunk with reports := (mmod (mmod v.trunk.reports a (fun r =>
          (if r.2.1 = b then 1 else r.1, r.2.1, if r.2.2.2 = b then 1 else r.2.2.1, r.2.2.2))) b (fun r =>
          (if r.2.1 = a then 1 else r.1, r.2.1, if r.2.2.2 = a then 1 else r.2.2.1, r.2.2.2))) } })
      else done (tick t s) (retryVoq v) := by
  have port : ¬(portOf (tick t s) p.val).state < 3 := Nat.not_lt_of_le up
  have whole : isCut (tick t s) a b = false := whole
  have fresh : seqHigher (tick t s).trunk.tgen g = false := fresh
  refine if_neg ?_
  rw [whole, fresh]
  simp [port]

/-- The TOPO that names the heir of the duties (R324). -/
def handoverTopo (back : Bool) (s : State) : TopoMsg :=
  { buildTopo { s with trunk := { s.trunk with hand := none } } with dateline := if back then 0 else getN s 0x30110 }

/-- Settles O43: it holds. `adoptTopo_ring` says what a TOPO in force leaves of the ring, and serving the trunk leaves it so. -/
theorem ringTopology : Obligations.RingTopology := by
  unfold Obligations.RingTopology
  refine ⟨?removed, ?added, ?deferred, ?flooded, ?report, ?periodic, ?cut, ?handover, ?applied⟩
  case removed =>
    intro t p m o s up none higher topo removes anchor
    have he : exec (.topo t p m) s = done (tick t s) (adoptTopo m (tick t s)) :=
      (execTopo_higher up none higher topo).trans ((if_pos removes).trans (if_pos anchor))
    refine runs_served he (adoptTopo_carries ..).fab fun u hu served => ?_
    have ring := served.ring.trans (adoptTopo_ring m (tick t s))
    exact ⟨(congrArg Trunk.topo ring :), (congrArg Trunk.tgen ring :), (congrArg Trunk.later ring :)⟩
  case added =>
    intro t p m o s up none higher topo removes
    have he : exec (.topo t p m) s = done (tick t s)
        { tick t s with trunk := { s.trunk with later := some (m, boundaryAfter (tick t s) 1) } } :=
      (execTopo_higher up none higher topo).trans (if_neg (by simp [removes]))
    exact runs_final he fun u hu => ⟨hu.sends.topo, (congrArg Trunk.later hu.sends.trunk :)⟩
  case deferred =>
    intro t b m s later due
    have he : exec (.topoDeferredAdopt t) s = done (tick t s) (adoptTopo m (tick t s)) := by
      change execTopoDeferredAdopt t s = _
      simp only [execTopoDeferredAdopt, tick_frame, later]
      exact if_pos due
    refine runs_served he (adoptTopo_carries ..).fab fun u hu served => ?_
    have ring := served.ring.trans (adoptTopo_ring m (tick t s))
    have topo : u.trunk.topo = some m := (congrArg Trunk.topo ring :)
    exact ⟨topo, (congrArg Trunk.tgen ring :), (congrArg Trunk.later ring :), by rw [masterId, topo]⟩
  case flooded =>
    intro t p m s topo master act ports up
    have he : exec (.topoFlood t) s = done (tick t s) (floodTopo m (tick t s)) := by
      change execTopoFlood t s = _
      simp only [execTopoFlood, tick_frame, topo]
      exact if_pos master
    have first := flood_serves 0 (.topo m) (tick t s)
    refine runs_served he (floodTopo_serves ..).fab fun u hu served => ?_
    refine served.flooded ((floodTopo_serves m (tick t s)).act ▸ act) ?_
    rcases Fin.exists_fin_two.mp ⟨p, rfl⟩ with rfl | rfl
    · refine (flood_serves 1 (.topo m) _).flooded (first.act ▸ act) ?_
      exact flood_flooded (s := tick t s) act (by simp [ports]) up _
    · refine flood_flooded (s := flood 0 (.topo m) (tick t s)) (first.act ▸ act) ?_ ?_ _
      · rw [first.count]
        simp [ports]
      · rw [first.state]
        exact up
  case report =>
    intro t n a1 a2 b1 b2 s master other small
    refine runs_served (if_pos ⟨master, other, small⟩) (masterTopo_carries _).fab fun u hu served => ?_
    rw [show u.trunk.reports = _ from (congrArg Trunk.reports served.ring :).trans (masterTopo_reports _)]
    exact mget_mset_same ..
  case periodic =>
    intro t p s member comm way act
    have he : exec (.linkReportPeriodic t) s = done (tick t s) (reportLinks (tick t s)) :=
      if_neg (fun h => h.elim (fun master => Bool.false_ne_true (member.symm.trans master)) fun h => by
        rw [show commissioned (tick t s) = true from comm] at h
        exact Bool.false_ne_true h)
    have sending : reportLinks (tick t s) = trunkSend (masterId s) 0 (.linkReport (modId s) (ownReport s).1 (ownReport s).2.1
        (ownReport s).2.2.1 (ownReport s).2.2.2) (tick t s) := if_neg fun master => Bool.false_ne_true (member.symm.trans master)
    rw [sending] at he
    exact runs_final he fun u hu =>
      hu.sends.trunkSent (trunkSend_sent (s := tick t s) act ((route_tick t s _).trans way) 0 _)
  case cut =>
    intro t a b g p s up whole fresh
    obtain ⟨v, hv⟩ : ∃ v, v = ringOpens { tick t s with trunk := { s.trunk with cut := (a, b) :: s.trunk.cut } } := ⟨_, rfl⟩
    have opened : v.dict.sticky.getLsbD 52 = true := by
      rw [hv]
      exact stickySet_getLsbD_same (by decide) ..
    have trunk : v.trunk = { s.trunk with cut := (a, b) :: s.trunk.cut } := by
      rw [hv]
      exact (ringOpens_aside _).trunk
    have master : actsMaster v = actsMaster s := by
      rw [hv]
      exact actsMaster_ringOpens _
    have fab : v.clk.fab = max s.clk.fab t := by
      rw [hv]
      exact (ringOpens_aside _).fab
    have he := execBreakMsg_new (t := t) up whole fresh
    rw [← hv] at he
    dsimp only at he
    rw [master] at he
    cases acts : actsMaster s with
    | true =>
      rw [if_pos acts] at he
      refine runs_served he ((masterTopo_carries _).fab.trans fab) fun u hu served =>
        ⟨served.sticky 52 ((masterTopo_carries _).sticky 52 opened), nofun⟩
    | false =>
      rw [if_neg (by simp [acts])] at he
      have retried := retryVoq_serves v
      refine runs_served he (retried.fab.trans fab) fun u hu served => ?_
      have ring := (served.ring.trans retried.ring)
      have cut : u.trunk.cut = v.trunk.cut := (congrArg Trunk.cut ring :)
      refine ⟨served.sticky 52 (retried.sticky 52 opened), fun _ => ⟨?_, ?_⟩⟩
      · rw [isCut, cut, trunk]
        simp
      · exact (congrArg Trunk.topo ring :).trans (by rw [ringOf, trunk])
  case handover =>
    intro t sid h args s hp master zero head locked
    have back : (argN args 0 == 1) = false := by simp [zero]
    obtain ⟨v, hv⟩ : ∃ v, v = { opState t h sid s with trunk := { s.trunk with hand := some (false, applyAsn (tick t s)) } } :=
      ⟨_, rfl⟩
    have master : actsMaster (opState t h sid s) = true := master
    have head : modId (opState t h sid s) = 0 := head
    have locked : memberLocked (opState t h sid s) (getN (opState t h sid s) 0x30110) = true := locked
    refine runs_executed (v := v) (r := { rOk .empty with applyAsn := applyAsn (tick t s) }) hp rfl ?_
      (by rw [hv]; exact live_of_passes hp) fun u hu => ⟨?_, hu.answered⟩
    · dsimp only
      rw [back, if_neg (by simp [master, head]), if_neg (by simp [locked]), hv]
      rfl
    · rw [show u.trunk.hand = v.trunk.hand from (congrArg Trunk.hand hu.trunk :), hv]
  case applied =>
    intro t a b s hand due
    have he : exec (.handoverApply t) s = done (tick t s) (floodTopo (handoverTopo b (tick t s))
        (adoptTopo (handoverTopo b (tick t s)) { tick t s with trunk := { s.trunk with hand := none } })) := by
      change execHandoverApply t s = _
      simp only [execHandoverApply, tick_frame, hand]
      exact if_neg (Nat.not_lt_of_le due)
    have adopted := adoptTopo_carries (handoverTopo b (tick t s)) { tick t s with trunk := { s.trunk with hand := none } }
    have flooded := floodTopo_serves (handoverTopo b (tick t s))
      (adoptTopo (handoverTopo b (tick t s)) { tick t s with trunk := { s.trunk with hand := none } })
    refine runs_served he (flooded.fab.trans adopted.fab) fun u hu served => ?_
    have ring := (served.ring.trans flooded.ring).trans (adoptTopo_ring ..)
    have topo : u.trunk.topo = some (handoverTopo b (tick t s)) := (congrArg Trunk.topo ring :)
    refine ⟨(congrArg Trunk.hand ring :), ?_⟩
    rw [masterId, topo]
    cases b <;> rfl

end Sys2Proof.Machine
end

section
/-!
PROOFS. The trunk's time transfer (chapters 11 and 12): how a Sync is followed, sent, timed and missed, and how the
real-time clocks are realigned, compensated, trimmed and watched.
-/
namespace Sys2Proof.Machine

open Sys2Proof.Safety

/-! ### The clock's slews -/

@[simp] theorem foldSlew_frame (s : State) : (foldSlew s).time = s.time ∧ (foldSlew s).dict = s.dict ∧
    (foldSlew s).clk.fab = s.clk.fab ∧ (foldSlew s).clk.slew = none ∧ (foldSlew s).trunk = s.trunk ∧
    (foldSlew s).ib = s.ib ∧ (foldSlew s).lanes = s.lanes := by
  simp [foldSlew]

@[simp] theorem startSlew_frame (corr : Int) (s : State) : (startSlew corr s).time = s.time ∧
    (startSlew corr s).dict = s.dict ∧ (startSlew corr s).clk.fab = s.clk.fab ∧
    (startSlew corr s).clk.slew = (if corr = 0 then none else some { amt := corr, start := s.clk.fab }) ∧
    (startSlew corr s).trunk = s.trunk ∧ (startSlew corr s).ib = s.ib ∧ (startSlew corr s).lanes = s.lanes := by
  by_cases zero : corr = 0 <;> simp [startSlew, zero]

/-! ### Sync -/

/-- How many Sync messages in a row were within 10 µs, this one included (R330). -/
def runWith (offset : Int) (s : State) : Nat := if offset.natAbs ≤ 10000 then s.time.offsetRun + 1 else 0

/-- On a node that was locked before, a Sync counts in the run and locks with the eighth; nothing else changes. -/
theorem lockCheckPtp_locked {offset : Int} {s : State} (ever : s.time.everLocked = true) :
    lockCheckPtp offset s = updTime (fun x => { x with
      offsetRun := min (runWith offset s) 8, locked := decide (8 ≤ runWith offset s) }) s := by
  rw [lockCheckPtp, if_neg (by simp [updTime, ever])]
  rfl

/-- The state in which a Sync's offset, time and slew are kept, before its lock is checked (R330, R331). -/
def syncTaken (offset : Int) (s : State) : State :=
  startSlew (-(offset * 2 / 5)) (updTime (fun x => { x with
    lastSync := s.clk.fab, misses := 0, goodRun := x.goodRun + 1, unexplained := none, held := false }) (putN 0x20013 offset s))

theorem syncTaken_time (offset : Int) (s : State) : (syncTaken offset s).time = { s.time with
    lastSync := s.clk.fab, misses := 0, goodRun := s.time.goodRun + 1, unexplained := none, held := false } :=
  (startSlew_frame ..).1

/-- A Sync at most 100 ms off, on a node locked before that neither holds over nor is in conflict, keeps the offset and the
time heard and slews by two fifths of a cycle per nanosecond against it (R330, R331). -/
theorem syncHeard_small {offset : Int} {s : State} (ever : s.time.everLocked = true) (agreed : s.time.conflict = false)
    (steady : s.time.holdover = false) (small : offset.natAbs ≤ 100000000) :
    syncHeard offset s = lockCheckPtp offset (syncTaken offset s) := by
  have stepless : ¬stepLimit < ((-(offset * 2 / 5)).natAbs : Int) := by rw [stepLimit]; omega
  have fits : max (-2147483648) (min 2147483647 offset) = offset := by omega
  unfold syncHeard syncTaken
  simp only [updTime, putN, putRow, ever, agreed, steady, decide_eq_false stepless, fits, Bool.false_and, Bool.not_true,
    Bool.false_eq_true, if_false]

theorem isSlavePort_tick (t p : Nat) (s : State) : isSlavePort (tick t s) p = isSlavePort s p := by
  rw [isSlavePort, isSlavePort, route_tick]
  rfl

theorem getI_putN (n : Nat) (v : Int) (s : State) : getI (putN n v s) n = v := by
  simp [getI, putN, rInt, Val.toInt]

theorem emit_reframed {o : Out} {s : State} (act : (active s).isSome = true) (leaves : outside o = true)
    (whole : ∀ p f m tag, o ≠ .trunk p f m tag) : Sent (emit o s) o := by
  obtain ⟨o', rfl | ⟨p, f, m, tag, n, tag', rfl, rfl⟩, sent⟩ := emit_sent act leaves
  · exact sent
  · exact absurd rfl (whole p f m tag)

/-- A master port sends Sync with its domain and TIME64, and an Announce where none was sent before (R320). -/
theorem syncSend_leaves {t : Nat} {p : Fin 2} {s : State} (act : (active s).isSome = true) (up : 3 ≤ (portOf s p.val).state)
    (master : isSlavePort s p.val = false) : ∃ v, exec (.ptpSyncSend t p) s = done (tick t s) v ∧
      Sent v (.ptpSync p.val (getN s 0x30120) (time64 (tick t s))) ∧
      ((portOf s p.val).announced = none → Sent v (.ptpAnnounce p.val (getN s 0x30120))) ∧ v.time = s.time := by
  have act : (active (tick t s)).isSome = true := act
  have master : ¬((portOf (tick t s) p.val).state < 3 ∨ isSlavePort (tick t s) p.val = true) := by
    rw [isSlavePort_tick, master]
    exact fun h => h.elim (Nat.not_lt.mpr up) Bool.false_ne_true
  have synced := emit_serves (.ptpSync p.val (getN s 0x30120) (time64 (tick t s))) (tick t s)
  have sync := emit_reframed act (o := .ptpSync p.val (getN s 0x30120) (time64 (tick t s))) rfl nofun
  have noted := (synced.port p.val).same Port.announced fun _ => rfl
  by_cases soon : (portOf (emit (.ptpSync p.val (getN s 0x30120) (time64 (tick t s))) (tick t s)) p.val).announced.any
      (fun a => decide ((tick t s).clk.fab < a + Config.secCycles)) = true
  · refine ⟨_, (if_neg master).trans (if_pos soon), sync, fun fresh => ?_, by simp⟩
    have none : (portOf (tick t s) p.val).announced = none := fresh
    rw [noted, none] at soon
    cases soon
  · exact ⟨_, (if_neg master).trans (if_neg soon), (emit_serves ..).sent _ sync,
      fun _ => emit_reframed (synced.act ▸ act) rfl nofun, by simp⟩

/-! ### HOLDOVER -/

/-- A miss is counted (R331). -/
def syncMissed (s : State) : State :=
  cntUp 0x2001A (updTime (fun x => { x with misses := x.misses + 1, goodRun := 0 }) s)

theorem syncMissed_time (s : State) :
    (syncMissed s).time = { s.time with misses := s.time.misses + 1, goodRun := 0 } := by
  simp [syncMissed, updTime]

theorem syncMissed_clk (s : State) : (syncMissed s).clk = s.clk := by simp [syncMissed]

/-- A miss that is due at a member is counted, and the third of a node locked before enters HOLDOVER. -/
theorem execSyncMiss_due {t : Nat} {s : State} (member : actsMaster s = false) (topo : s.trunk.topo.isSome = true)
    (due : s.time.lastSync + missAfter (min 3 (s.time.misses + 1)) ≤ max s.clk.fab t) :
    exec (.syncMiss t) s = done (tick t s) (if s.time.misses + 1 = 3 ∧ s.time.everLocked = true ∧ s.time.holdover = false
      then enterHoldover (syncMissed (tick t s)) else syncMissed (tick t s)) := by
  have here : ¬(actsMaster (tick t s) = true ∨ (tick t s).trunk.topo.isNone = true ∨
      (tick t s).clk.fab < (tick t s).time.lastSync + missAfter (min 3 ((tick t s).time.misses + 1))) := by
    rw [not_or, not_or, Nat.not_lt, show actsMaster (tick t s) = false from member]
    exact ⟨Bool.false_ne_true, by simpa [← Option.isSome_iff_ne_none] using topo, due⟩
  have third : ((syncMissed (tick t s)).time.misses = 3 ∧ (syncMissed (tick t s)).time.everLocked = true ∧
      (!(syncMissed (tick t s)).time.holdover) = true) ↔
      s.time.misses + 1 = 3 ∧ s.time.everLocked = true ∧ s.time.holdover = false := by
    rw [syncMissed_time, Bool.not_eq_true']
    rfl
  by_cases enters : s.time.misses + 1 = 3 ∧ s.time.everLocked = true ∧ s.time.holdover = false
  · rw [if_pos enters]
    exact (if_neg here).trans (if_pos (third.mpr enters))
  · rw [if_neg enters]
    exact (if_neg here).trans (if_neg (third.not.mpr enters))

theorem enterHoldover_reads (s : State) : (enterHoldover s).time.holdover = true ∧
    (enterHoldover s).time.holdoverAt = s.clk.fab ∧ (enterHoldover s).time.locked = false ∧
    (enterHoldover s).time.misses = s.time.misses ∧ (enterHoldover s).time.goodRun = 0 ∧
    (enterHoldover s).time.conflict = s.time.conflict ∧
    (enterHoldover s).dict.sticky.getLsbD 33 = true ∧ (enterHoldover s).dict.live = s.dict.live := by
  simp only [enterHoldover, record_frame, record_sticky, stickySet_getLsbD_same (show 33 < 256 by decide), record_live,
    stickySet_live, stickySet_frame, updTime]
  simp

/-- An ASN conflict is found (R334). -/
def conflictFound (s : State) : State := condSet 34 0 true (updTime (fun x => { x with conflict := true }) s)

theorem conflictFound_time (s : State) : (conflictFound s).time = { s.time with conflict := true } := by
  simp [conflictFound, updTime]

/-- An offset unexplained for 3 s is a conflict, and the node holds over if it does not yet. -/
theorem execAsnConflictTimeout_late {t f : Nat} {s : State} (since : s.time.unexplained = some f)
    (late : f + 3 * Config.secCycles ≤ max s.clk.fab t) (agreed : s.time.conflict = false) :
    exec (.asnConflictTimeout t) s = done (tick t s) (if s.time.holdover = true then conflictFound (tick t s)
      else enterHoldover (conflictFound (tick t s))) := by
  have due : f + 3 * Config.secCycles ≤ (tick t s).clk.fab ∧ (!(tick t s).time.conflict) = true :=
    ⟨late, by simp [agreed]⟩
  change execAsnConflictTimeout t s = _
  unfold execAsnConflictTimeout
  simp only [tick_frame, since]
  refine (if_pos due).trans ?_
  rw [← conflictFound, conflictFound_time]
  rfl

/-! ### The real-time clocks -/

theorem sumRow_time (q : Nat) (v : Int) (s : State) (r : Nat) : (sumRow q v s r).time = s.time := by
  unfold sumRow
  extract_lets c m
  split <;> rfl

@[simp] theorem sumSample_time (q : Nat) (v : Int) (s : State) : (sumSample q v s).time = s.time :=
  foldl_keeps (part := State.time) (fun s r => sumRow_time q v s r) ..

@[simp] theorem secondSamples_time (s : State) : (secondSamples s).time = s.time := by
  unfold secondSamples
  extract_lets s1 s2 s3 k s4 s5
  have first : s1.time = s.time := by unfold s1; split <;> simp only [sumSample_time]
  clear_value s1
  have second : s2.time = s1.time := by unfold s2; split <;> simp only [sumSample_time]
  clear_value s2
  have third : s3.time = s2.time := by simp only [s3, sumSample_time]
  clear_value s3
  have fourth : s4.time = s3.time := rfl
  clear_value s4
  have fifth : s5.time = s4.time := by unfold s5; split <;> simp only [sumSample_time]
  clear_value s5
  rw [← first, ← second, ← third, ← fourth, ← fifth]
  split <;> simp only [sumSample_time]

/-- A realignment of one lane touches neither the other lane nor its RTC. -/
theorem realign_other {l k : Lane} (h : k ≠ l) (s : State) :
    (realign l s).time.rtcs.get k = s.time.rtcs.get k ∧ (realign l s).lanes.get k = s.lanes.get k := by
  unfold realign
  split
  · obtain rfl : k = otherLane l := by cases l <;> cases k <;> trivial
    simp [updTime, icuRaiseAt, updIcu, updLane]
  · exact ⟨rfl, rfl⟩

/-- A running lane's RTC that has not stopped is realigned to the FAB counter. -/
theorem realign_same {l : Lane} {s : State} (running : (s.lanes.get l).running = true)
    (going : (s.time.rtcs.get l).stopped = false) :
    (realign l s).time.rtcs.get l = { s.time.rtcs.get l with realigned := s.clk.fab } := by
  rw [realign, if_pos (by simp [running, going])]
  simp [updTime]

@[simp] theorem realign_clk (l : Lane) (s : State) : (realign l s).clk = s.clk := by simp [realign]

/-- Both lanes are realigned, each by itself. -/
theorem realign_both {l : Lane} {s : State} (running : (s.lanes.get l).running = true)
    (going : (s.time.rtcs.get l).stopped = false) :
    (realign .B (realign .A s)).time.rtcs.get l = { s.time.rtcs.get l with realigned := s.clk.fab } := by
  cases l with
  | A => rw [(realign_other (by decide) _).1, realign_same running going]
  | B =>
    obtain ⟨clock, lane⟩ := realign_other (l := .A) (k := .B) (by decide) s
    rw [realign_same (lane ▸ running) (clock ▸ going), clock, realign_clk]

/-! ### RATE_TRIM -/

/-- A trim is kept within its range with its source, and marked. -/
theorem setTrim_reads (source : Nat) (v : Int) (s : State) : getI (setTrim source v s) 0x20015 = clampTrim v ∧
    getN (setTrim source v s) 0x20016 = source ∧
    (setTrim source v s).time = { s.time with trimmed := true } := by
  refine ⟨?_, getN_putN .., rfl⟩
  calc getI (setTrim source v s) 0x20015
    _ = getI (putN 0x20015 (clampTrim v) s) 0x20015 := by
      rw [getI, getI, setTrim]
      exact congrArg (rInt · 0) (getRow_putRow_ne (by decide) (by decide) ..)
    _ = clampTrim v := getI_putN ..

/-- A window's deviation enters the list and moves the trim by at most 1.0 ppm toward the mean (R332). -/
def windowTrim (dev : Int) (s : State) : State :=
  let w := (dev :: s.time.windows).take 64
  setTrim 2 (getI s 0x20015 + max (-10) (min 10 (w.sum / w.length - getI s 0x20015))) (updTime (fun x => { x with windows := w }) s)

theorem windowTrim_reads {dev : Int} {s : State} (inside : (getI s 0x20015).natAbs ≤ 5000) :
    (getI (windowTrim dev s) 0x20015 - getI s 0x20015).natAbs ≤ 10 ∧ getN (windowTrim dev s) 0x20016 = 2 ∧
      (windowTrim dev s).time.windows = (dev :: s.time.windows).take 64 := by
  obtain ⟨trim, source, time⟩ := setTrim_reads 2 _ _
  refine ⟨?_, source, congrArg TimeBase.windows time⟩
  rw [windowTrim, trim, clampTrim]
  omega

theorem mainsTrim_of_ref {f : Nat} {s : State} (since : s.met.refSince = some f)
    (late : f + 57600 * Config.secCycles ≤ s.clk.fab) (fall : s.met.freqFall = false) : mainsTrim s = true := by
  rw [mainsTrim, since, fall, Option.any_some, decide_eq_true late, Bool.not_false, Bool.and_true]

/-- With no lock and the reference phase there for 16 h, a window at 50 Hz within 200 ppm is taken (R332). -/
theorem execMainsTrimWindow_taken {t c f : Nat} {s : State} (unlocked : s.time.locked = false)
    (since : s.met.refSince = some f) (late : f + 57600 * Config.secCycles ≤ max s.clk.fab t)
    (fall : s.met.freqFall = false) (nominal : getN (tick t s) 0x80103 = 0) (low : 49990 ≤ c) (high : c ≤ 50010) :
    exec (.mainsTrimWindow t c) s =
      done (tick t s) (windowTrim (((c : Int) - 50000) * 10000000 / 50000) (tick t s)) := by
  have trims : mainsTrim (tick t s) = true := mainsTrim_of_ref (s := tick t s) since late fall
  have small : ¬2000 < ((((c : Int) - 50000) * 10000000 / 50000).natAbs) := by omega
  change execMainsTrimWindow t c s = _
  unfold execMainsTrimWindow
  extract_lets v want dev w mean old step
  have fifty : want = 50000 := if_pos nominal
  have within : dev = ((c : Int) - 50000) * 10000000 / 50000 := by rw [← fifty]
  rw [if_neg (by simp [v, unlocked, trims]), if_neg (within ▸ small), ← within]
  rfl

/-! ### The obligation -/

/-- Settles O45: each command's meaning is taken at the branch its hypotheses choose, and the closing of the step leaves the
time base, the clock's slews and the dictionary. -/
theorem timeTransfer : Obligations.TimeTransfer := by
  unfold Obligations.TimeTransfer
  refine ⟨?sync, ?spoilt, ?send, ?round, ?third, ?miss, ?conflict, ?slewed, ?realigned, ?warm, ?rate, ?mains, ?stopped⟩
  case sync =>
    intro t p off s up slave ever agreed steady small
    refine runs_final (s0 := tick t s) (v := icuRaise 122 (syncHeard off (tick t s))) ?_ fun u hu => ?_
    · refine (if_neg (Nat.not_lt.mpr up)).trans ((if_neg (by simp)).trans (if_pos ?_))
      exact (isSlavePort_tick ..).trans slave
    rw [syncHeard_small (s := tick t s) ever agreed steady small,
      lockCheckPtp_locked (by rw [syncTaken_time]; exact ever)] at hu
    have run : runWith off (syncTaken off (tick t s)) = runWith off s := by rw [runWith, syncTaken_time]; rfl
    have time : u.time = { (syncTaken off (tick t s)).time with
        offsetRun := min (runWith off s) 8, locked := decide (8 ≤ runWith off s) } := by
      rw [hu.time, run]
      simp [updTime]
    have offset : getI u 0x20013 = off := by
      rw [getI, getRow_of_dict (s := putN 0x20013 off (tick t s)) (by simp [hu.dict, syncTaken])]
      exact getI_putN ..
    rw [syncTaken_time] at time
    refine ⟨offset, congrArg TimeBase.lastSync time, congrArg TimeBase.misses time, congrArg TimeBase.held time,
      congrArg TimeBase.offsetRun time, congrArg TimeBase.locked time, ?_⟩
    rw [hu.clk]
    simp only [icuRaise_frame, updTime_frame, syncTaken, startSlew_frame]
    split <;> rfl
  case spoilt =>
    intro t p off s up served
    have he : exec (.ptpSync t p off false) s = done (tick t s) (cntUp 0x30015 (tick t s)) :=
      (if_neg (Nat.not_lt.mpr up)).trans (if_pos rfl)
    obtain ⟨u, hu, time⟩ := runs_final (P := fun u => u.time = s.time) he fun u hu => hu.time.trans (by simp)
    obtain ⟨u', hu', -, -, counted⟩ := runs_refused (n := 0x30015) (by decide) served he
    obtain rfl := Host.Outcome.next.inj (hu.symm.trans hu')
    exact ⟨u, hu, time, counted⟩
  case send =>
    intro t p s act up master
    obtain ⟨v, he, sync, announce, time⟩ := syncSend_leaves (t := t) act up master
    refine runs_final he fun u hu => ⟨hu.sent _ sync, fun fresh => hu.sent _ (announce fresh), hu.time.trans time⟩
  case round =>
    intro t r p s inside up fits
    refine runs_served (v := portConds p.val (updPort p.val (fun x => { x with
      rtt := min r 4294967295, long := decide (220000 < r), exchanges := x.exchanges + 1 }) (tick t s)))
      (if_neg (Nat.not_lt.mpr up)) (portConds_aside ..).fab fun u hu kept => ?_
    have measured : portOf (portConds p.val (updPort p.val (fun x => { x with
        rtt := min r 4294967295, long := decide (220000 < r), exchanges := x.exchanges + 1 }) (tick t s))) p.val = _ :=
      (portOf_of_trunk (congrArg Trunk.ports (portConds_aside ..).trunk) _).trans
        (portOf_updPort_same (s := tick t s) (lt_of_lt_of_eq p.isLt inside.symm) _)
    have port := kept.port p.val
    rw [measured] at port
    refine ⟨(port.same Port.rtt fun _ => rfl).trans (min_eq_left fits), port.same Port.long fun _ => rfl,
      port.same Port.exchanges fun _ => rfl⟩
  case third =>
    intro t s member topo due second ever steady
    have due : s.time.lastSync + missAfter (min 3 (s.time.misses + 1)) ≤ max s.clk.fab t := by rw [second]; exact due
    refine runs_final (execSyncMiss_due member topo due) fun u hu => ?_
    rw [if_pos ⟨congrArg (· + 1) second, ever, steady⟩] at hu
    obtain ⟨holds, since, unlocked, -, -, -, sticky, -⟩ := enterHoldover_reads (syncMissed (tick t s))
    rw [hu.time, hu.dict]
    exact ⟨holds, since.trans (congrArg Clock.fab (syncMissed_clk _)), unlocked, sticky⟩
  case miss =>
    intro t s member topo due
    refine runs_final (execSyncMiss_due member topo due) fun u hu => ?_
    rw [hu.time]
    split
    · obtain ⟨-, -, -, misses, good, -, -, -⟩ := enterHoldover_reads (syncMissed (tick t s))
      exact ⟨misses.trans (congrArg TimeBase.misses (syncMissed_time _)), good⟩
    · rw [syncMissed_time]
      exact ⟨rfl, rfl⟩
  case conflict =>
    intro t f s since late agreed
    refine runs_final (execAsnConflictTimeout_late since late agreed) fun u hu => ?_
    rw [hu.time, hu.dict]
    have live : (conflictFound (tick t s)).dict.live.getLsbD 34 = true := live_condSet_same (by decide) ..
    split
    next holds => rw [conflictFound_time]; exact ⟨rfl, holds, live⟩
    next =>
      obtain ⟨holds, -, -, -, -, conflict, -, conditions⟩ := enterHoldover_reads (conflictFound (tick t s))
      exact ⟨conflict.trans (congrArg TimeBase.conflict (conflictFound_time _)), holds, conditions ▸ live⟩
  case slewed =>
    intro t d s slewing near
    refine runs_final (s0 := tick t s) (if_pos ⟨slewing, near⟩) fun u hu => ?_
    rw [hu.time, hu.clk]
    exact ⟨rfl, rfl, rfl⟩
  case realigned =>
    intro t l s running going
    refine runs_final (s0 := tick t s) rfl fun u hu => ?_
    simp only [hu.time, secondSamples_time, condSet_frame, realign_both (s := tick t s) running going]
    exact ⟨rfl, going⟩
  case warm =>
    intro t x s low high
    have fits : max (-32768) (min 32767 x) = x := by omega
    refine runs_final (s0 := tick t s) rfl fun u hu => ?_
    rw [hu.time, sumSample_time, fits]
    exact ⟨rfl, rfl⟩
  case rate =>
    intro t r s locked
    refine runs_final (s0 := tick t s) (if_pos locked) fun u hu => ?_
    obtain ⟨trim, source, time⟩ := setTrim_reads 1 r (updTime (fun x => { x with
      rtcs := { a := { x.rtcs.a with rate := clampTrim r }, b := { x.rtcs.b with rate := clampTrim r } } }) (tick t s))
    rw [getI, getN, getRow_of_dict hu.dict, getRow_of_dict hu.dict, hu.time, time]
    exact ⟨trim, source, rfl, rfl⟩
  case mains =>
    intro t c f s unlocked since late fall nominal low high inside
    refine runs_final (execMainsTrimWindow_taken unlocked since late fall nominal low high) fun u hu => ?_
    obtain ⟨trim, source, windows⟩ :=
      windowTrim_reads (dev := ((c : Int) - 50000) * 10000000 / 50000) (s := tick t s) inside
    rw [getI, getN, getRow_of_dict hu.dict, getRow_of_dict hu.dict, hu.time]
    exact ⟨trim, source, windows⟩
  case stopped =>
    intro t l s
    refine runs_final (s0 := tick t s) rfl fun u hu => ?_
    rw [hu.time]
    have clock : (s.time.rtcs.upd l (fun r => { r with stopped := true, stops := r.stops + 1 })).get l = _ :=
      Pair.get_upd_same ..
    refine ⟨congrArg Rtc.stopped clock, congrArg Rtc.stops clock, fun own => ?_, fun other => ?_⟩
    · change (s.time.oscStopped || active s == some l) = true
      simp [own]
    · change (s.time.oscStopped || active s == some l) = s.time.oscStopped
      simp [other]

end Sys2Proof.Machine
end

section
/-!
PROOFS. Time of day (chapter 12): a TIME_SET's correction waits as a step or is slewed, steps and slews end with the ASN as it
was, and alarms fire.
-/
namespace Sys2Proof.Machine

open Sys2Proof.Safety

/-! ### Folding a slew -/

/-- A slew that is folded into the offsets leaves TAI and the slots as they are. -/
theorem foldSlew_tai (s : State) : tai (foldSlew s) = tai s ∧ asn (foldSlew s) = asn s := by
  have none : slewDone (s.clk.fab) none = 0 := rfl
  refine ⟨?_, ?_⟩
  · simp only [tai, taiAt, foldSlew, none, Int.add_zero, add_assoc]
  · simp only [asn, slotAt, foldSlew, none, Int.add_zero, add_assoc]

theorem foldSlew_twice (s : State) : (foldSlew (foldSlew s)).clk = (foldSlew s).clk := by
  simp [foldSlew, slewDone]

theorem foldSlew_clk {s u : State} (h : u.clk = s.clk) : (foldSlew u).clk = (foldSlew s).clk := by
  simp only [foldSlew, h]

theorem asn_congr {s u : State} (clk : u.clk.now = s.clk.now) : asn u = asn s := by
  have fab : u.clk.fab = s.clk.fab := (congrArg Clock.fab clk :)
  have off : u.clk.asnOff = s.clk.asnOff := (congrArg Clock.asnOff clk :)
  have slew : u.clk.slew = s.clk.slew := (congrArg Clock.slew clk :)
  have aslew : u.clk.aslew = s.clk.aslew := (congrArg Clock.aslew clk :)
  rw [asn, asn, slotAt, slotAt, fab, off, slew, aslew]

theorem time64_congr {s u : State} (clk : u.clk.now = s.clk.now) : time64 u = time64 s := by
  rw [time64, time64, tai_congr clk]

theorem boundaryAfter_of_clk {s u : State} (h : u.clk = s.clk) (cycles : Nat) :
    boundaryAfter u cycles = boundaryAfter s cycles := by rw [boundaryAfter, boundaryAfter, h]

/-! ### Alarms -/

theorem putRow_rowsKept {r : Nat} (hr : r < 4294967296) (n : Nat) (v : Row) (s : State) : RowsKept [n] s (putRow n r v s) where
  logs _ _ := rfl
  store m k hk hm := mget_mset_ne _ _ _ _ fun same => by
    have other : m ≠ n := fun h => hm (by simp [h])
    simp only [okey] at same
    omega

/-- Alarms touch neither the clock nor the time base, and no rows but their own. -/
structure AlarmsOnly (s u : State) : Prop where
  clk : u.clk = s.clk
  time : u.time = s.time
  ib : u.ib = s.ib
  rows : RowsKept [0x20131] s u

theorem AlarmsOnly.refl (s : State) : AlarmsOnly s s := ⟨rfl, rfl, rfl, .of_dict rfl⟩

theorem AlarmsOnly.trans {s v u : State} (h : AlarmsOnly s v) (k : AlarmsOnly v u) : AlarmsOnly s u :=
  ⟨k.clk.trans h.clk, k.time.trans h.time, k.ib.trans h.ib, h.rows.trans k.rows⟩

theorem AlarmsOnly.foldl {f : State → Nat → State} {l : List Nat} (hf : ∀ r ∈ l, ∀ s, AlarmsOnly s (f s r)) (s : State) :
    AlarmsOnly s (l.foldl f s) := by
  induction l generalizing s with
  | nil => exact .refl s
  | cons r l ih => exact (hf r List.mem_cons_self s).trans (ih (fun k hk => hf k (List.mem_cons_of_mem _ hk)) _)

theorem alarmFireRow_dict (r last next : Nat) (stepped : Bool) (skipped : Nat) (s : State) :
    (alarmFireRow r last next stepped skipped s).dict = (putRow 0x20131 r [vN next, vN last,
      v32 (rNat (getRow s 0x20131 r) 2 + 1), vB stepped, vN (min skipped 4294967295)] s).dict := by
  simp [alarmFireRow]

theorem alarmFireRow_only {r : Nat} (hr : r < 4294967296) (last next : Nat) (stepped : Bool) (skipped : Nat) (s : State) :
    AlarmsOnly s (alarmFireRow r last next stepped skipped s) where
  clk := by simp [alarmFireRow]
  time := by simp [alarmFireRow]
  ib := by simp [alarmFireRow]
  rows := by
    exact .trans (putRow_rowsKept hr ..) (.of_dict (alarmFireRow_dict ..))

theorem alarmMoved_only {r : Nat} (hr : r < 4294967296) (s : State) : AlarmsOnly s (alarmMoved s r) := by
  unfold alarmMoved
  extract_lets cfg st t nx p
  split
  · exact .refl s
  · split
    · exact alarmFireRow_only hr ..
    · split
      · exact .refl s
      · exact ⟨rfl, rfl, rfl, putRow_rowsKept hr ..⟩

theorem alarmsMoved_only (s : State) : AlarmsOnly s (alarmsMoved s) := by
  unfold alarmsMoved
  split
  · exact .refl s
  · exact .foldl (fun r hr => alarmMoved_only ((List.mem_range.mp hr).trans (by decide))) s

/-! ### A correction -/

theorem flood_clock (p : Nat) (m : TMsg) (s : State) : (flood p m s).clk = s.clk ∧ (flood p m s).time = s.time ∧
    (flood p m s).ib = s.ib := by
  unfold flood
  extract_lets q u
  split
  · exact ⟨rfl, rfl, rfl⟩
  · split <;> simp [sendFree, useCredit]

/-- A TOPO that is not taken at once leaves the clock and the time base. -/
theorem issueTopo_later (m : TopoMsg) (s : State) : (issueTopo m false s).clk = s.clk ∧ (issueTopo m false s).time = s.time ∧
    (issueTopo m false s).ib = s.ib := by
  obtain ⟨clk, time, ib⟩ := flood_clock 0 (.topo m) { s with trunk := { s.trunk with later := some (m, boundaryAfter s 1) } }
  obtain ⟨clk', time', ib'⟩ := flood_clock 1 (.topo m) (flood 0 (.topo m) { s with
    trunk := { s.trunk with later := some (m, boundaryAfter s 1) } })
  exact ⟨clk'.trans clk, time'.trans time, ib'.trans ib⟩

/-- Whether an entry of the journal is of a TIME_SET. -/
def ofTimeSet : JEntry → Bool
  | .timeSet _ _ => true
  | _ => false

/-- The entry of a correction in the journal touches neither the clock nor the time base. -/
def correctionNoted (corr : Int) (s : State) : State :=
  let s := journalErase ofTimeSet s
  if corr = 0 then s else journal (.timeSet corr 0) s

theorem correctionNoted_frame (corr : Int) (s : State) : (correctionNoted corr s).clk = s.clk ∧
    (correctionNoted corr s).time = s.time ∧ (correctionNoted corr s).ib = s.ib := by
  unfold correctionNoted
  extract_lets s1
  split <;> exact ⟨rfl, rfl, rfl⟩

/-- What a correction begins, before the master floods its anchor: a step that waits, or a slew (R333, R334). -/
def correctionBegun (corr : Int) (src : Nat) (client : Bytes) (s : State) : State :=
  if decide (stepLimit < corr.natAbs) then
    updTime (fun x => { x with
      pendingStep := some (corr, boundaryAfter (foldSlew s) (40 * Config.msCycles), src, client) }) (foldSlew s)
  else timeLog src corr false client (startSlew corr (updTime (fun x => { x with pendingStep := none }) s))

/-- The master's TOPO leaves the clock and the time base that the correction made. -/
theorem beginCorrection_begun (corr : Int) (src : Nat) (client : Bytes) (s : State) :
    (beginCorrection corr src client s).clk = (correctionBegun corr src client (correctionNoted corr s)).clk ∧
    (beginCorrection corr src client s).time = (correctionBegun corr src client (correctionNoted corr s)).time ∧
    (beginCorrection corr src client s).ib = (correctionBegun corr src client (correctionNoted corr s)).ib := by
  obtain ⟨flooded, h⟩ : ∃ b : Bool, beginCorrection corr src client s =
      if b then issueTopo (buildTopo (correctionBegun corr src client (correctionNoted corr s))) false
        (correctionBegun corr src client (correctionNoted corr s))
      else correctionBegun corr src client (correctionNoted corr s) := ⟨_, rfl⟩
  rw [h]
  split
  · exact issueTopo_later ..
  · exact ⟨rfl, rfl, rfl⟩

/-- A correction above 128 ms waits as a step, and no slew runs (R333, R334). -/
theorem beginCorrection_step {corr : Int} (far : stepLimit < corr.natAbs) (src : Nat) (client : Bytes) (s : State) :
    (beginCorrection corr src client s).clk = (foldSlew s).clk ∧
    (beginCorrection corr src client s).time = { s.time with
      pendingStep := some (corr, boundaryAfter (foldSlew s) (40 * Config.msCycles), src, client) } ∧
    (beginCorrection corr src client s).ib = s.ib := by
  obtain ⟨clk, time, ib⟩ := correctionNoted_frame corr s
  obtain ⟨clk', time', ib'⟩ := beginCorrection_begun corr src client s
  rw [correctionBegun, if_pos (decide_eq_true far)] at clk' time' ib'
  have folded : (foldSlew (correctionNoted corr s)).clk = (foldSlew s).clk := foldSlew_clk clk
  refine ⟨clk'.trans folded, time'.trans ?_, ib'.trans ib⟩
  rw [← boundaryAfter_of_clk folded, ← time]
  rfl

/-- A smaller correction is slewed from now, and no step waits (R333). -/
theorem beginCorrection_slew {corr : Int} (near : ¬stepLimit < corr.natAbs) (src : Nat) (client : Bytes) (s : State) :
    (beginCorrection corr src client s).clk.slew = (startSlew corr s).clk.slew ∧
    (beginCorrection corr src client s).time = { s.time with pendingStep := none } ∧
    (beginCorrection corr src client s).ib = s.ib := by
  obtain ⟨clk, time, ib⟩ := correctionNoted_frame corr s
  obtain ⟨clk', time', ib'⟩ := beginCorrection_begun corr src client s
  rw [correctionBegun, if_neg (by rw [decide_eq_false near]; exact Bool.false_ne_true)] at clk' time' ib'
  rw [clk', time', ib']
  simp [timeLog, clk, time, ib, updTime]

/-! ### TIME_SET -/

/-- A TIME_SET's source and time are kept, and both RTCs run (R336, R337). -/
def timeKept (src time : Nat) (s : State) : State :=
  updTime (fun x => { x with
    oscStopped := false, trimmed := x.trimmed && !x.oscStopped,
    rtcs := { a := { x.rtcs.a with stopped := false }, b := { x.rtcs.b with stopped := false } } })
    (putN 0x20017 (if src = 0 then time64 s else time : Nat) (putN 0x2001B src s))

/-- What an accepted TIME_SET makes of the state. -/
def timeSetTo (src time : Nat) (client : Bytes) (s : State) : State :=
  let corr := timeSetCorr src time (foldSlew s)
  let w := timeKept src time (beginCorrection corr src client (foldSlew s))
  if timeUnset s && !decide (stepLimit < corr.natAbs) then alarmsMoved w else w

theorem timeSetTo_only (src time : Nat) (client : Bytes) (s : State) :
    AlarmsOnly (timeKept src time (beginCorrection (timeSetCorr src time (foldSlew s)) src client (foldSlew s)))
      (timeSetTo src time client s) := by
  unfold timeSetTo
  extract_lets corr w
  split
  · exact alarmsMoved_only w
  · exact .refl w

theorem timeSetTo_ib (src time : Nat) (client : Bytes) (s : State) : (timeSetTo src time client s).ib = s.ib := by
  refine (timeSetTo_only ..).ib.trans ((beginCorrection_begun ..).2.2.trans ?_)
  rw [correctionBegun]
  split <;> simp [timeLog, (correctionNoted_frame _ _).2.2]

/-- The rows that name the last TIME_SET name this one. -/
theorem timeSetTo_rows {src : Nat} (given : src ≠ 0) (time : Nat) (client : Bytes) (s : State) :
    getN (timeSetTo src time client s) 0x2001B = src ∧ getN (timeSetTo src time client s) 0x20017 = time := by
  have rows := (timeSetTo_only src time client s).rows
  rw [rows.getN (by decide) (by decide), rows.getN (by decide) (by decide)]
  refine ⟨?_, (getN_putN ..).trans (if_neg given)⟩
  refine Eq.trans (congrArg (rNat · 0) (getRow_putRow_ne (by decide) (by decide) ..)) (getN_putN ..)

theorem timeSetCorr_given {src : Nat} (given : src ≠ 0) (time : Nat) (s : State) :
    timeSetCorr src time s = (ofTime64 time : Int) - tai s := if_neg given

theorem timeSetCorr_opState {src : Nat} (given : src ≠ 0) (t sid : Nat) (h : Hdr) (time : Nat) (s : State) :
    timeSetCorr src time (foldSlew (opState t h sid s)) = timeSetCorr src time (foldSlew (tick t s)) := by
  rw [timeSetCorr_given given, timeSetCorr_given given, tai_congr (congrArg Clock.now (foldSlew_clk (s := tick t s) (u := opState t h sid s) rfl))]

theorem timeSourceOk_congr {src : Nat} (given : src ≠ 0) {s u : State} (dict : u.dict = s.dict) (ring : ringOf u = ringOf s) :
    timeSourceOk src u = timeSourceOk src s := by
  simp only [timeSourceOk, if_neg given, actsMaster_congr dict ring, getN_of_dict dict]

theorem ofTime64_second {time : Nat} (h : 16777216 ≤ time) : Config.secCycles ≤ ofTime64 time := by
  rw [ofTime64, Nat.le_div_iff_mul_le (by decide), Nat.mul_comm]
  exact Nat.mul_le_mul_right _ h

/-- A TIME_SET of an accepted source other than TRUNK, not before 00:00:01 TAI, is taken. -/
theorem runs_timeSet {t sid : Nat} {h : Hdr} {args : List TVal} {s : State} {P : State → Prop}
    (hp : passes 0x20300 [.enum [0, 1, 2, 3], cTime] false t h args sid s = true)
    (accepted : timeSourceOk (argN args 0) (tick t s) = true) (given : argN args 0 ≠ 0) (late : 16777216 ≤ argN args 1)
    (hP : ∀ v, v.dict = (timeSetTo (argN args 0) (argN args 1) (caller t sid s).client (opState t h sid s)).dict →
      v.time = (timeSetTo (argN args 0) (argN args 1) (caller t sid s).client (opState t h sid s)).time →
      v.clk.slew = (timeSetTo (argN args 0) (argN args 1) (caller t sid s).client (opState t h sid s)).clk.slew → P v) :
    Runs (.timeSet t h args) s P := by
  have accepted : timeSourceOk (argN args 0) (opState t h sid s) = true :=
    (timeSourceOk_congr given (s := tick t s) rfl rfl).trans accepted
  have after : ¬(tai (opState t h sid s) : Int) + timeSetCorr (argN args 0) (argN args 1) (opState t h sid s) <
      (Config.secCycles : Int) := by
    have := ofTime64_second late
    rw [timeSetCorr_given given]
    omega
  let corr := timeSetCorr (argN args 0) (argN args 1) (foldSlew (opState t h sid s))
  refine runs_executed hp rfl (v := timeSetTo (argN args 0) (argN args 1) (caller t sid s).client (opState t h sid s))
    (r := rOk (.raw (tagged [cS64, .bool] [.num (corr * 5 / 2), vB (decide (stepLimit < corr.natAbs))]))) ?_ ?_
    fun u hu => hP u hu.dict hu.time (by rw [hu.clk])
  · refine (if_neg (by rw [accepted]; exact Bool.false_ne_true)).trans ((if_neg after).trans ?_)
    rfl
  · rw [timeSetTo_ib]
    exact live_of_passes hp

/-! ### Steps and slews that end -/

/-- A step moves TAI by its correction and folds the slew (R334). -/
theorem stepTai_clk (corr : Int) (source : Nat) (client : Bytes) (s : State) :
    (stepTai corr source client s).clk = { (foldSlew s).clk with taiOff := (foldSlew s).clk.taiOff + corr } ∧
    (stepTai corr source client s).time = s.time ∧ (stepTai corr source client s).ib = s.ib := by
  obtain ⟨clk, time, ib, -⟩ := alarmsMoved_only (timeLog source corr true client (ropUp 0x20019 1 { foldSlew s with
    clk := { (foldSlew s).clk with taiOff := (foldSlew s).clk.taiOff + corr } }))
  exact ⟨clk.trans rfl, time.trans rfl, ib.trans rfl⟩

theorem execTimeStep_reached {t a src : Nat} {x : Int} {b : Bytes} {s : State}
    (waits : s.time.pendingStep = some (x, a, src, b)) (reached : a ≤ asn (tick t s)) :
    exec (.timeStep t) s = done (tick t s) (stepTai x src b (updTime (fun y => { y with pendingStep := none })
      (journalErase ofTimeSet (tick t s)))) := by
  change execTimeStep t s = _
  unfold execTimeStep
  simp only [tick_frame, waits]
  exact if_neg (Nat.not_lt.mpr reached)

theorem execSlewComplete_ended {t : Nat} {w : Slew} {s : State} (runs : s.clk.slew = some w)
    (ended : slewDone (max s.clk.fab t) (some w) = w.amt) :
    exec (.slewComplete t) s = done (tick t s)
      (journalErase ofTimeSet (foldSlew (tick t s))) := by
  change execSlewComplete t s = _
  unfold execSlewComplete
  have runs : (tick t s).clk.slew = some w := runs
  simp only [runs]
  exact if_pos ended

/-- Settles O46: each command's meaning is taken at the branch its hypotheses choose, and a folded slew leaves TAI and the
slots as they were. -/
theorem timeOfDay : Obligations.TimeOfDay := by
  unfold Obligations.TimeOfDay
  refine ⟨?step, ?slew, ?boundary, ?complete, ?leap, ?alarm⟩
  case step =>
    intro t sid h args s hp accepted given late far
    refine runs_timeSet hp accepted given late fun u dict time slew => ?_
    obtain ⟨source, named⟩ := timeSetTo_rows given (argN args 1) (caller t sid s).client (opState t h sid s)
    have moment := timeSetCorr_opState given t sid h (argN args 1) s
    obtain ⟨clk, waits, -⟩ := beginCorrection_step (moment ▸ far) (argN args 0) (caller t sid s).client
      (foldSlew (opState t h sid s))
    have boundary := boundaryAfter_of_clk ((foldSlew_twice (opState t h sid s)).trans (foldSlew_clk (s := tick t s) rfl))
      (40 * Config.msCycles)
    rw [time, slew, getN_of_dict dict, getN_of_dict dict, (timeSetTo_only ..).time, (timeSetTo_only ..).clk]
    rw [moment]
    refine ⟨(congrArg TimeBase.pendingStep waits).trans ?_, (congrArg Clock.slew clk).trans rfl, source, named⟩
    exact congrArg some (by rw [boundary])
  case slew =>
    intro t sid h args s hp accepted given late near some
    refine runs_timeSet hp accepted given late fun u dict time slew => ?_
    obtain ⟨source, named⟩ := timeSetTo_rows given (argN args 1) (caller t sid s).client (opState t h sid s)
    have moment := timeSetCorr_opState given t sid h (argN args 1) s
    obtain ⟨clk, waits, -⟩ := beginCorrection_slew (Int.not_lt.mpr (moment ▸ near)) (argN args 0) (caller t sid s).client
      (foldSlew (opState t h sid s))
    rw [time, slew, getN_of_dict dict, getN_of_dict dict, (timeSetTo_only ..).time, (timeSetTo_only ..).clk]
    rw [moment]
    refine ⟨congrArg TimeBase.pendingStep waits, clk.trans ?_, source, named⟩
    rw [(startSlew_frame ..).2.2.2.1, if_neg some]
    rfl
  case boundary =>
    intro t a src x b s waits reached
    refine runs_final_at (execTimeStep_reached waits reached) fun u hu fab => ?_
    obtain ⟨clk, time, -⟩ := stepTai_clk x src b (updTime (fun y => { y with pendingStep := none })
      (journalErase ofTimeSet (tick t s)))
    have clk : u.clk.now = { (foldSlew (tick t s)).clk with
        taiOff := (foldSlew (tick t s)).clk.taiOff + x, prev := 0 } := by
      rw [hu.now (fab.trans (congrArg Clock.fab clk).symm), clk]
      rfl
    refine ⟨(congrArg TimeBase.pendingStep (hu.time.trans time)).trans rfl, (congrArg Clock.taiOff clk :), ?_,
      (congrArg Clock.slew clk :)⟩
    refine Eq.trans (asn_congr (s := { foldSlew (tick t s) with
      clk := { (foldSlew (tick t s)).clk with taiOff := (foldSlew (tick t s)).clk.taiOff + x } }) clk) ?_
    exact (foldSlew_tai (tick t s)).2
  case complete =>
    intro t w s runs ended
    refine runs_final_at (execSlewComplete_ended runs ended) fun u hu fab => ?_
    have now : u.clk.now = (foldSlew (tick t s)).clk.now := hu.now fab
    obtain ⟨tai, slots⟩ := foldSlew_tai (tick t s)
    refine ⟨(congrArg Clock.slew now :), (time64_congr now).trans ?_, (asn_congr now).trans slots⟩
    rw [time64, time64, tai]
  case leap =>
    intro t s named reached
    refine runs_final_at (s0 := tick t s) (if_pos ⟨named, reached⟩) fun u hu fab => ?_
    rw [getI, getC, getRow_of_dict hu.dict, getRow_of_dict hu.dict, getRow_putRow_same,
      getRow_putRow_ne (by decide) (by decide)]
    exact ⟨getI_putN .., rfl, time64_congr (s := tick t s) (hu.now fab)⟩
  case alarm =>
    intro t r s enabled named reached known
    refine runs_final (s0 := tick t s) (if_pos ⟨enabled, named, reached, by rw [known]; rfl⟩) fun u hu => ?_
    have row (c : Nat) : getC u 0x20131 r.val c = _ := congrArg (rNat · c)
      ((getRow_of_dict (hu.dict.trans (alarmFireRow_dict ..)) ..).trans (getRow_putRow_same ..))
    rw [row, row, row]
    exact ⟨rfl, rfl, rfl⟩

end Sys2Proof.Machine
end

section
/-!
PROOFS. The key vault's mailbox (chapter 13): GO makes an idle vault busy, and each operation ends with a result or a cause.
-/
namespace Sys2Proof.Machine

open Sys2Proof.Safety

/-! ### A lane's vault -/

@[simp] theorem vaultOf_updVault_same (l : Lane) (f : Vault → Vault) (s : State) :
    vaultOf (updVault l f s) l = f (vaultOf s l) := by
  cases l <;> rfl

@[simp] theorem vaultOf_updVault_other (l : Lane) (f : Vault → Vault) (s : State) :
    vaultOf (updVault l f s) (otherLane l) = vaultOf s (otherLane l) := by
  cases l <;> rfl

@[simp] theorem vaultOf_updIcu (l : Lane) (f : Icu → Icu) (s : State) (k : Lane) : vaultOf (updIcu l f s) k = vaultOf s k := by
  cases l <;> cases k <;> rfl

@[simp] theorem vaultOf_icuRaiseAt (l : Lane) (n : Nat) (s : State) (k : Lane) :
    vaultOf (icuRaiseAt l n s) k = vaultOf s k :=
  vaultOf_updIcu ..

theorem vaultOf_of_lanes {s u : State} (h : u.lanes = s.lanes) (k : Lane) : vaultOf u k = vaultOf s k := by
  rw [vaultOf, vaultOf, h]

/-- The closing of a step leaves both vaults. -/
theorem OnlySends.vault {v u : State} (h : OnlySends v u) (k : Lane) : vaultOf u k = vaultOf v k := by
  rw [vaultOf, h.lanes k]
  rfl

/-! ### GO -/

/-- GO with an operation makes an idle vault busy with it, and the other lane's stays. -/
theorem runs_vaultGo {i : Instr} {op : VaultOp} {t : Nat} {l : Lane} {c : Core} {s : State} (he : exec i s = vaultCmd op t l c s)
    (reaches : reachesVault c = true) (idle : (vaultOf s l).busy = none) :
    Runs i s (fun u => (vaultOf u l).busy = some (op, c) ∧ (vaultOf u l).op = vaultCode op ∧
      vaultOf u (otherLane l) = vaultOf s (otherLane l)) := by
  have idle : (vaultOf (tick t s) l).busy = none := idle
  have go : vaultGo l c op (tick t s) = icuRaiseAt l 147 (updVault l (fun v => { v with
      op := vaultCode op, busy := some (op, c) }) (tick t s)) := by rw [vaultGo, idle]
  refine runs_final (he.trans (if_pos reaches)) fun u hu => ?_
  rw [hu.vault, hu.vault, go, vaultOf_icuRaiseAt, vaultOf_icuRaiseAt, vaultOf_updVault_same, vaultOf_updVault_other]
  exact ⟨rfl, rfl, rfl⟩

/-! ### The end of an operation -/

/-- An operation's end leaves in the mailbox what the operation made of it. -/
theorem runs_opDone {t : Nat} {l : Lane} {c : Core} {op : VaultOp} {ok : Bool} {s : State} {P : State → Prop}
    (busy : (vaultOf s l).busy = some (op, c))
    (hP : ∀ u, vaultOf u l = opEnd op ok (tick t s) (vaultOf s l) → P u) : Runs (.vaultOpDone t l ok) s P := by
  have busy : (vaultOf (tick t s) l).busy = some (op, c) := busy
  have he : exec (.vaultOpDone t l ok) s = done (tick t s) (icuRaiseAt l (vaultDoneSrc c)
      (updIcu l (icuMod 147 (fun x => { x with pending := x.pending && !x.enabled }))
        (draw (updVault l (opEnd op ok (tick t s)) (tick t s))))) := by
    change execVaultOpDone t l ok s = _
    unfold execVaultOpDone
    simp only [busy]
  refine runs_final he fun u hu => hP u ?_
  rw [hu.vault, vaultOf_icuRaiseAt, vaultOf_updIcu]
  exact vaultOf_updVault_same ..

/-- With a failed known-answer test every operation fails (R352). -/
theorem opEnd_katBad {v : Vault} (bad : v.katBad = true) (op : VaultOp) (ok : Bool) (s : State) :
    opEnd op ok s v = opFail 3 v := by
  unfold opEnd
  exact if_pos bad

theorem opEnd_sign {v : Vault} (good : v.katBad = false) (ok : Bool) (s : State) : opEnd .sign ok s v =
    if (mget v.handles v.handle).isSome then opData 96 (freeBytes s) v else opFail 2 v := by
  unfold opEnd
  exact if_neg (by simp [good])

theorem opEnd_verify {v : Vault} (good : v.katBad = false) (s : State) : opEnd .verify false s v = opFail 4 v := by
  unfold opEnd
  exact if_neg (by simp [good])

/-- DERIVE with a label of the tree whose root is live makes a handle for the derived key (R350, R353). -/
theorem opEnd_derive {v : Vault} {r : String × Nat × Bool × Nat} {s : State} (good : v.katBad = false)
    (row : treeRow (mailLabel (mailBytes v (min v.inLen 2048))) = some r) (live : rootLive s v r.2.1 = true) (ok : Bool) :
    opEnd .derive ok s v = opHandle (freeNat s) (kdf (rootBytes v r.2.1) r.1
      (if r.2.2.1 then fit 1 (mailContext (mailBytes v (min v.inLen 2048))) else []) r.2.2.2) v := by
  unfold opEnd
  refine (if_neg (by simp [good])).trans ?_
  simp only [row, live, if_true]

/-- Settles O47: each operation's end is taken by its own case, and what follows leaves the vaults. -/
theorem vaultMailbox : Obligations.VaultMailbox := by
  unfold Obligations.VaultMailbox
  refine ⟨fun t l c s => runs_vaultGo rfl, fun t l c s => runs_vaultGo rfl, fun t l c s => runs_vaultGo rfl,
    fun t l c s => runs_vaultGo rfl, fun t l c s => runs_vaultGo rfl, fun t l c s => runs_vaultGo rfl,
    fun t l c s => runs_vaultGo rfl, fun t l c s => runs_vaultGo rfl, fun t l c s => runs_vaultGo rfl,
    fun t l c s => runs_vaultGo rfl, ?ignored, ?barred, ?kat, ?sign, ?derive, ?verify⟩
  case ignored =>
    intro t l c s reaches busy
    obtain ⟨b, busy⟩ := Option.isSome_iff_exists.mp busy
    have busy : (vaultOf (tick t s) l).busy = some b := busy
    have go : vaultGo l c .derive (tick t s) = updVault l (fun v => { v with ignored := v.ignored + 1 }) (tick t s) := by
      rw [vaultGo, busy]
    refine runs_final (s0 := tick t s) (if_pos reaches) fun u hu => ?_
    rw [hu.vault, go]
    exact vaultOf_updVault_same ..
  case barred =>
    intro t l c s barred
    refine runs_final (s0 := tick t s) (if_neg (by simp [barred])) fun u hu => ⟨?_, hu.sent _ (busErr_sent ..)⟩
    rw [hu.vault]
    exact vaultOf_of_lanes (busErr_lanes ..) l
  case kat =>
    intro t l c op b s busy bad
    refine runs_opDone busy fun u vault => ?_
    rw [vault, opEnd_katBad bad]
    exact ⟨rfl, rfl, rfl, rfl, rfl⟩
  case sign =>
    intro t l c b s busy good
    refine runs_opDone busy fun u vault => ?_
    rw [vault, opEnd_sign good]
    cases (mget (vaultOf s l).handles (vaultOf s l).handle).isSome with
    | true => exact ⟨rfl, fun _ => ⟨rfl, rfl⟩, nofun⟩
    | false => exact ⟨rfl, nofun, fun _ => ⟨rfl, rfl, rfl⟩⟩
  case derive =>
    intro t r l c b s busy good row live
    refine runs_opDone busy fun u vault => ?_
    have live : rootLive (tick t s) (vaultOf s l) r.2.1 = true := live
    rw [vault, opEnd_derive good row live]
    have least : 1 ≤ 1 + freeNat (tick t s) % 65535 := by omega
    have most : 1 + freeNat (tick t s) % 65535 ≤ 65535 := by omega
    exact ⟨rfl, least, most, rfl, mget_mset_same ..⟩
  case verify =>
    intro t l c s busy good
    refine runs_opDone busy fun u vault => ?_
    rw [vault, opEnd_verify good]
    exact ⟨rfl, rfl, rfl, rfl⟩

end Sys2Proof.Machine
end

section
/-!
PROOFS. What leaves a lane but for its counters and its interrupt controller: the trunk, the recorder, the life cycle's moves,
the outputs, and what follows a lane's restart.
-/
namespace Sys2Proof.Machine

open Sys2Proof.Safety

theorem lane_of_bare {s u : State} (h : u.lanes.bare = s.lanes.bare) (l : Lane) :
    (u.lanes.get l).bare = (s.lanes.get l).bare := by
  cases l
  · exact (congrArg Prod.fst h :)
  · exact (congrArg Prod.snd h :)

theorem vault_of_bare {s u : State} (h : u.lanes.bare = s.lanes.bare) (l : Lane) : vaultOf u l = vaultOf s l :=
  (congrArg LaneSt.vault (lane_of_bare h l) :)

/-- Sending only counts. -/
theorem OnlySends.bare {s u : State} (h : OnlySends s u) : u.lanes.bare = s.lanes.bare := by
  have lane (l : Lane) : (u.lanes.get l).bare = (s.lanes.get l).bare := by rw [h.lanes l]; rfl
  exact Prod.ext (lane .A) (lane .B)

/-! ### Counters, interrupts and records -/

@[simp] theorem cntLane_bare (l : Lane) (n r c k : Nat) (s : State) : (cntLane l n r c k s).lanes.bare = s.lanes.bare :=
  updLane_bare (by exact fun _ => rfl) s
@[simp] theorem updIcu_bare (l : Lane) (f : Icu → Icu) (s : State) : (updIcu l f s).lanes.bare = s.lanes.bare :=
  updLane_bare (by exact fun _ => rfl) s
@[simp] theorem icuRaiseAt_bare (l : Lane) (n : Nat) (s : State) : (icuRaiseAt l n s).lanes.bare = s.lanes.bare := by
  simp [icuRaiseAt]
@[simp] theorem icuLine_bare (n : Nat) (on : Bool) (s : State) : (icuLine n on s).lanes.bare = s.lanes.bare := by
  simp [icuLine]
@[simp] theorem icuLineAt_bare (l : Lane) (n : Nat) (on : Bool) (s : State) :
    (icuLineAt l n on s).lanes.bare = s.lanes.bare := by simp [icuLineAt]
@[simp] theorem submitRec_bare (r : Record) (s : State) : (submitRec r s).lanes.bare = s.lanes.bare := by simp [submitRec]
@[simp] theorem holdRecord_bare (l : Lane) (r : Record) (s : State) : (holdRecord l r s).lanes.bare = s.lanes.bare := by
  simp [holdRecord]
@[simp] theorem laneRecord_bare (l : Lane) (typ sev source : Nat) (payload : Bytes) (s : State) :
    (laneRecord l typ sev source payload s).lanes.bare = s.lanes.bare := by simp [laneRecord]
@[simp] theorem leave_bare (o : Out) (s : State) : (leave o s).lanes.bare = s.lanes.bare := by
  unfold leave
  split <;> simp
@[simp] theorem emit_bare (o : Out) (s : State) : (emit o s).lanes.bare = s.lanes.bare := by
  fun_cases emit <;> simp_all

/-! ### The trunk -/

@[simp] theorem useCredit_bare (p cls vc units : Nat) (s : State) : (useCredit p cls vc units s).lanes.bare = s.lanes.bare :=
  rfl
@[simp] theorem sendFree_bare (p dst cls : Nat) (m : TMsg) (s : State) : (sendFree p dst cls m s).lanes.bare = s.lanes.bare := by
  simp [sendFree]
@[simp] theorem sendNow_bare (p dst cls : Nat) (m : TMsg) (s : State) : (sendNow p dst cls m s).lanes.bare = s.lanes.bare :=
  (sendNow_onlySends ..).bare
@[simp] theorem trunkSend_bare (dst cls : Nat) (m : TMsg) (s : State) : (trunkSend dst cls m s).lanes.bare = s.lanes.bare :=
  (trunkSend_onlySends ..).bare
@[simp] theorem freeIngress_bare (p cls vc units : Nat) (s : State) :
    (freeIngress p cls vc units s).lanes.bare = s.lanes.bare := rfl
@[simp] theorem passOn_bare (p : Nat) (f : TrunkFrame) (s : State) : (passOn p f s).lanes.bare = s.lanes.bare := by
  simp [passOn]
@[simp] theorem serveQueue_bare (p : Nat) (q : Nat × Nat × TMsg) (s : State) :
    (serveQueue p q s).lanes.bare = s.lanes.bare := by simp [serveQueue]

theorem serveClass_bare {p cls : Nat} {s u : State} (h : serveClass p cls s = some u) : u.lanes.bare = s.lanes.bare := by
  simp only [serveClass] at h
  split at h
  case h_1 => cases h
  case h_2 => cases h; simp
  all_goals
    next own =>
      have kept : ∀ s, (‹State → State› s).lanes.bare = s.lanes.bare := by
        split at own
        · split at own <;> cases own
          simp
        · obtain ⟨_, _, rfl⟩ := Option.map_eq_some_iff.mp own
          simp
      cases h
      simp [kept]

@[simp] theorem serveEgress_bare (p n : Nat) (s : State) : (serveEgress p n s).lanes.bare = s.lanes.bare := by
  induction n generalizing s with
  | zero => rfl
  | succ n ih =>
    unfold serveEgress
    split
    · next h =>
      obtain ⟨c, -, hc⟩ := List.exists_of_findSome?_eq_some h
      rw [ih, serveClass_bare hc]
    · rfl

@[simp] theorem retryPort_bare (p : Nat) (s : State) : (retryPort p s).lanes.bare = s.lanes.bare := by simp [retryPort]
@[simp] theorem dropLost_bare (s : State) : (dropLost s).lanes.bare = s.lanes.bare := by simp [dropLost]
@[simp] theorem retryVoq_bare (s : State) : (retryVoq s).lanes.bare = s.lanes.bare := by simp [retryVoq]
@[simp] theorem flood_bare (p : Nat) (m : TMsg) (s : State) : (flood p m s).lanes.bare = s.lanes.bare := by simp [flood]
@[simp] theorem portConds_bare (p : Nat) (s : State) : (portConds p s).lanes.bare = s.lanes.bare := by simp [portConds]
@[simp] theorem turnFrame_bare (p : Nat) (s : State) (f : TrunkFrame) : (turnFrame p s f).lanes.bare = s.lanes.bare := by
  simp [turnFrame]
@[simp] theorem ringOpens_bare (s : State) : (ringOpens s).lanes.bare = s.lanes.bare := by simp [ringOpens]
@[simp] theorem ringBreakRec_bare (a b port : Nat) (s : State) : (ringBreakRec a b port s).lanes.bare = s.lanes.bare := by
  simp [ringBreakRec]
@[simp] theorem listPort_bare (m : TopoMsg) (p : Nat) (s : State) : (listPort m p s).lanes.bare = s.lanes.bare := by
  simp [listPort]
@[simp] theorem sendDcredit_bare (reset : Bool) (s : State) (n : Nat) : (sendDcredit reset s n).lanes.bare = s.lanes.bare := by
  simp [sendDcredit]
@[simp] theorem resetDcredits_bare (m : TopoMsg) (s : State) : (resetDcredits m s).lanes.bare = s.lanes.bare := by
  simp [resetDcredits]
@[simp] theorem sendList_bare (s : State) (m : Nat) : (sendList s m).lanes.bare = s.lanes.bare := by simp [sendList]
@[simp] theorem moduleReached_bare (s : State) (m : Nat) : (moduleReached s m).lanes.bare = s.lanes.bare := by
  simp [moduleReached]
@[simp] theorem alarmFireRow_bare (r last next : Nat) (stepped : Bool) (skipped : Nat) (s : State) :
    (alarmFireRow r last next stepped skipped s).lanes.bare = s.lanes.bare := by simp [alarmFireRow]
@[simp] theorem alarmMoved_bare (s : State) (r : Nat) : (alarmMoved s r).lanes.bare = s.lanes.bare := by simp [alarmMoved]
@[simp] theorem alarmsMoved_bare (s : State) : (alarmsMoved s).lanes.bare = s.lanes.bare := by simp [alarmsMoved]
@[simp] theorem stepTai_bare (corr : Int) (source : Nat) (client : Bytes) (s : State) :
    (stepTai corr source client s).lanes.bare = s.lanes.bare := by simp [stepTai, timeLog]
@[simp] theorem adoptTopo_bare (m : TopoMsg) (s : State) : (adoptTopo m s).lanes.bare = s.lanes.bare := by simp [adoptTopo]
@[simp] theorem issueTopo_bare (m : TopoMsg) (atOnce : Bool) (s : State) :
    (issueTopo m atOnce s).lanes.bare = s.lanes.bare := by simp [issueTopo, floodTopo]
@[simp] theorem masterTopo_bare (s : State) : (masterTopo s).lanes.bare = s.lanes.bare := by
  unfold masterTopo
  dsimp only
  repeat' split
  all_goals simp
@[simp] theorem reportLinks_bare (s : State) : (reportLinks s).lanes.bare = s.lanes.bare := by simp [reportLinks]
@[simp] theorem linkEnds_bare (p : Nat) (s : State) : (linkEnds p s).lanes.bare = s.lanes.bare := by simp [linkEnds]

/-! ### The life cycle -/

@[simp] theorem breakSeq_bare (hd cause : Nat) (s : State) : (breakSeq hd cause s).lanes.bare = s.lanes.bare := by
  unfold breakSeq
  split
  · rfl
  · split <;> simp
@[simp] theorem breakAllSeqs_bare (cause : Nat) (s : State) : (breakAllSeqs cause s).lanes.bare = s.lanes.bare := by
  simp [breakAllSeqs]
@[simp] theorem lcMove_bare (b : Lc) (client : Bytes) (cause : Nat) (s : State) :
    (lcMove b client cause s).lanes.bare = s.lanes.bare := by simp [lcMove, lcLog]
@[simp] theorem tamperLog_bare (r : TamperRec) (s : State) : (tamperLog r s).lanes.bare = s.lanes.bare := by simp [tamperLog]
@[simp] theorem tripRecord_bare (n z : Nat) (s : State) : (tripRecord n z s).lanes.bare = s.lanes.bare := by
  simp [tripRecord]

/-! ### The outputs -/

@[simp] theorem switchPin_bare (k : Nat) (v : Bool) (s : State) : (switchPin k v s).lanes.bare = s.lanes.bare := by
  simp [switchPin]
@[simp] theorem setPin_bare (k : Nat) (v : Bool) (s : State) : (setPin k v s).lanes.bare = s.lanes.bare := by simp [setPin]
@[simp] theorem driveOut_bare (k : Nat) (v : Bool) (s : State) : (driveOut k v s).lanes.bare = s.lanes.bare := by
  simp [driveOut]
@[simp] theorem outSync_bare (s : State) : (outSync s).lanes.bare = s.lanes.bare := by simp [outSync]

/-! ### The restart of a lane -/

@[simp] theorem voidPlanned_bare (s : State) : (voidPlanned s).lanes.bare = s.lanes.bare := by
  unfold voidPlanned
  split <;> simp [switchLog]
@[simp] theorem releaseAll_bare (s : State) : (releaseAll s).lanes.bare = s.lanes.bare := by simp [releaseAll]
@[simp] theorem degradedSync_bare (s : State) : (degradedSync s).lanes.bare = s.lanes.bare := by
  unfold degradedSync
  split <;> simp
@[simp] theorem cwvLaneStop_bare (l : Lane) (s : State) : (cwvLaneStop l s).lanes.bare = s.lanes.bare := by
  simp [cwvLaneStop, cwvEnd, cwvRecord]
@[simp] theorem fwEvent_bare (event sev failStep : Nat) (l : Lane) (bank : Nat) (s : State) :
    (fwEvent event sev failStep l bank s).lanes.bare = s.lanes.bare := by simp [fwEvent]
@[simp] theorem bankFail_bare (l : Lane) (bank step : Nat) (s : State) : (bankFail l bank step s).lanes.bare = s.lanes.bare := by
  simp [bankFail]
@[simp] theorem bootStart_bare (l : Lane) (bank : Nat) (trial : Bool) (retries : Nat) (s : State) :
    (bootStart l bank trial retries s).lanes.bare = s.lanes.bare := by simp [bootStart]
@[simp] theorem bootTrial_bare (l : Lane) (s : State) : (bootTrial l s).lanes.bare = s.lanes.bare := by simp [bootTrial]

/-- A lane but for its counters, its interrupt controller and whether it runs. -/
def LaneSt.still (x : LaneSt) : LaneSt := { x.bare with running := false }

theorem still_of_bare {s u : State} (h : u.lanes.bare = s.lanes.bare) (l : Lane) :
    (u.lanes.get l).still = (s.lanes.get l).still := by
  rw [LaneSt.still, lane_of_bare h]
  rfl

@[simp] theorem fwMixedSync_bare (s : State) : (fwMixedSync s).lanes.bare = s.lanes.bare := by simp [fwMixedSync]

theorem bootRecovery_still (l : Lane) (s : State) (k : Lane) :
    ((bootRecovery l s).lanes.get k).still = (s.lanes.get k).still := by
  unfold bootRecovery
  extract_lets s1 s2
  have stopped : (s2.lanes.get k).still = (s.lanes.get k).still := by cases l <;> cases k <;> rfl
  exact (still_of_bare (by simp) k).trans stopped

/-- The choice of a bank at most stops the lane. -/
theorem bootSelect_still (l : Lane) (s : State) (k : Lane) :
    ((bootSelect l s).lanes.get k).still = (s.lanes.get k).still := by
  unfold bootSelect
  extract_lets s1 b c o e s2 g e2 s3
  have first : s1.lanes.bare = s.lanes.bare := bootTrial_bare ..
  have failed : s2.lanes.bare = s.lanes.bare := (bankFail_bare ..).trans first
  refine (still_of_bare (fwMixedSync_bare _) k).trans ?_
  unfold s3
  split
  · exact still_of_bare ((bootStart_bare ..).trans first) k
  · split
    · split
      · exact still_of_bare ((bootStart_bare ..).trans failed) k
      · exact (bootRecovery_still ..).trans (still_of_bare ((bankFail_bare ..).trans failed) k)
    · exact (bootRecovery_still ..).trans (still_of_bare failed k)

theorem resetLaneSt_bare (x : LaneSt) (now t64 : Nat) : resetLaneSt now t64 x = resetLaneSt now t64 x.bare := rfl

/-- A lane that restarts is reset but for its memory in the battery domain and its vault's root (R297); the other lane stays. -/
theorem restartLane_still (l : Lane) (s : State) (k : Lane) : ((restartLane l s).lanes.get k).still =
    (if k = l then resetLaneSt s.clk.fab (time64 s) (s.lanes.get l) else s.lanes.get k).still := by
  unfold restartLane
  extract_lets s1 rel d s2 s3 r s4
  have clock : s1.clk = s.clk := by unfold s1; split <;> simp
  have first : s1.lanes.bare = s.lanes.bare := by unfold s1; split <;> simp
  have gone : s2.lanes.bare = s.lanes.bare := first
  have stopped : (cwvLaneStop l s2).lanes.bare = s.lanes.bare := (cwvLaneStop_bare ..).trans gone
  have reset : s3.lanes = (updLane l (resetLaneSt s.clk.fab (time64 s)) (cwvLaneStop l s2)).lanes := by
    unfold s3
    rw [show s2.clk = s.clk from clock, time64_of_clk (s := s) (u := s2) clock]
    simp [meterLoad]
  refine (still_of_bare (degradedSync_bare _) k).trans ((bootSelect_still ..).trans ?_)
  change (s3.lanes.get k).still = _
  rw [reset]
  split
  next same =>
    subst same
    have lane := lane_of_bare stopped k
    rw [resetLaneSt_bare (s.lanes.get k), ← lane, ← resetLaneSt_bare]
    exact congrArg LaneSt.still (Pair.get_upd_same ..)
  next other =>
    obtain rfl : k = otherLane l := by cases l <;> cases k <;> trivial
    exact (congrArg LaneSt.still (Pair.get_upd_other ..)).trans (still_of_bare stopped _)

theorem restartLane_same (l : Lane) (s : State) : ((restartLane l s).lanes.get l).still =
    (resetLaneSt s.clk.fab (time64 s) (s.lanes.get l)).still := by
  rw [restartLane_still, if_pos rfl]

theorem restartLane_other (l : Lane) (s : State) : ((restartLane l s).lanes.get (otherLane l)).still =
    (s.lanes.get (otherLane l)).still := by
  rw [restartLane_still, if_neg (by cases l <;> decide)]

end Sys2Proof.Machine
end

section
/-!
PROOFS. Tamper (chapter 13): trips zeroise the owner root, a missing root is copied, and suspensions begin and end.
-/
namespace Sys2Proof.Machine

open Sys2Proof.Safety

/-! ### What a trip takes -/

@[simp] theorem vaultOf_zeroLane_same (l : Lane) (f : Vault → Vault) (s : State) :
    vaultOf (zeroLane l f s) l = f (vaultOf s l) := by
  unfold zeroLane
  extract_lets b s1
  clear_value b
  split <;> simp [s1]

@[simp] theorem vaultOf_zeroLane_other (l : Lane) (f : Vault → Vault) (s : State) :
    vaultOf (zeroLane l f s) (otherLane l) = vaultOf s (otherLane l) := by
  unfold zeroLane
  extract_lets b s1
  clear_value b
  split <;> simp [s1]

theorem zeroVault_gone (v : Vault) : (zeroVault v).root = none ∧ (zeroVault v).handles = [] ∧
    (zeroVault v).zeroised = v.zeroised ∧ (zeroVault v).zeroTimes = v.zeroTimes := by
  unfold zeroVault abortOp
  split <;> exact ⟨rfl, rfl, rfl, rfl⟩

/-- Both vaults are zeroised. -/
theorem vaultOf_zeroBoth (f : Vault → Vault) (s : State) (l : Lane) :
    vaultOf (zeroLane .B f (zeroLane .A f s)) l = f (vaultOf s l) := by
  cases l with
  | A => exact (vaultOf_zeroLane_other .B f _).trans (vaultOf_zeroLane_same ..)
  | B => exact (vaultOf_zeroLane_same ..).trans (congrArg f (vaultOf_zeroLane_other .A f s))

theorem updLife_life (f : Life → Life) (s : State) : (updLife f s).life = f s.life := rfl

/-- A trip's record keeps the life cycle but for the time of the last trip. -/
theorem tripRecord_life (n z : Nat) (s : State) : ∃ last, (tripRecord n z s).life = { s.life with lastTrip := last } := by
  unfold tripRecord
  extract_lets s1 recent d r
  clear_value recent
  split
  · exact ⟨s.life.lastTrip, rfl⟩
  · refine ⟨some s1.clk.fab, Eq.trans (b := { s1.life with lastTrip := some s1.clk.fab }) ?_ rfl⟩
    simp [tamperLog, updLife_life]

theorem lcMove_life (b : Lc) (client : Bytes) (cause : Nat) (s : State) :
    (lcMove b client cause s).life = { s.life with state := b } := by
  simp [lcMove, lcLog, updLife_life]

/-- In TAMPERED the life cycle names the cause (R364). -/
theorem enterTampered_life (cause : Nat) (s : State) : ∃ first, (enterTampered cause s).life = { s.life with
    state := .tampered, cause := cause, firstTrip := first } := by
  unfold enterTampered
  extract_lets s1 s2 s3 s4
  have zeroed : s1.life = s.life := by simp [s1, zeroLane_quiet]
  have moved : s2.life = { s1.life with state := .tampered, cause := cause } := by
    simp only [s2, updLife_life, lcMove_life]
  clear_value s2
  have dropped : s4.life = { s2.life with firstTrip := time64 s3 } := by
    simp [s4, s3, updLife_life, dropSessions]
  clear_value s4
  have wired : (outSync (linkEnds 1 (linkEnds 0 s4))).life = s4.life := by simp
  exact ⟨time64 s3, wired.trans (dropped.trans (by rw [moved, zeroed]))⟩

/-- In TAMPERED both vaults are zeroised (R364). -/
theorem enterTampered_vault (cause : Nat) (s : State) (l : Lane) :
    vaultOf (enterTampered cause s) l = zeroVault (vaultOf s l) := by
  unfold enterTampered
  extract_lets s1 s2 s3 s4
  have moved : s2.lanes.bare = s1.lanes.bare := lcMove_bare ..
  clear_value s2
  have dropped : s4.lanes.bare = s2.lanes.bare := rfl
  clear_value s4
  have wired : (outSync (linkEnds 1 (linkEnds 0 s4))).lanes.bare = s1.lanes.bare := by simp [dropped, moved]
  exact (vault_of_bare wired l).trans (vaultOf_zeroBoth zeroVault s l)

theorem linkEnds_sticky {k : Nat} {s : State} (h : s.dict.sticky.getLsbD k = true) (p : Nat) :
    (linkEnds p s).dict.sticky.getLsbD k = true := by
  have still : (updPort p Port.ended s).dict = s.dict := rfl
  exact (linkEnds_carries p s).sticky k (by rw [still]; exact h)

/-- In TAMPERED sticky bit 16 is set (R364). -/
theorem enterTampered_sticky (cause : Nat) (s : State) : (enterTampered cause s).dict.sticky.getLsbD 16 = true := by
  unfold enterTampered
  extract_lets s1 s2 s3 s4
  clear_value s2
  have noted : s4.dict = (stickySet 16 cause (dropSessions s2)).dict := by simp only [s4, s3, updLife_frame]
  have set : s4.dict.sticky.getLsbD 16 = true := by rw [noted, stickySet_getLsbD_same (by decide)]
  clear_value s4
  rw [outSync_dict]
  exact linkEnds_sticky (linkEnds_sticky set 0) 1

theorem inputs_markInput {n : Nat} (h : n < 16) (s : State) : (markInput n s).life.inputs.getLsbD n = true := by
  simp [markInput, updLife_life, h]

/-- A module-wide trip in OWNED is recorded and marked as seen (R364). -/
def tripTaken (n : Nat) (s : State) : State :=
  updLife (fun x => { x with seen := BitVec.twoPow 16 n }) (tripRecord n (zeroMask s true true) s)

theorem moduleTrip_owned {n : Nat} {s : State} (owned : s.life.state = .owned) :
    moduleTrip n s = enterTampered 1 (tripTaken n s) := by
  unfold moduleTrip
  rw [owned]
  rfl

theorem tripTaken_inputs (n : Nat) (s : State) : (tripTaken n s).life.inputs = s.life.inputs := by
  obtain ⟨last, recorded⟩ := tripRecord_life n (zeroMask s true true) s
  exact (congrArg Life.inputs recorded :)

/-! ### Lane-local trips -/

/-- What a lane's own trip takes of its vault (R367). -/
def vaultLost (now : Nat) (v : Vault) : Vault :=
  { zeroVault v with zeroised := v.zeroised + 1, zeroTimes := now :: v.zeroTimes }

/-- A lane that is condemned while it is not active has no role; its vault's root, handles and counts stand, and so does the
other lane's vault. -/
theorem condemn_inactive {l : Lane} (c : Condemn) {s : State} (inactive : active s ≠ some l) :
    ((condemn l c s).lanes.get l).role = .undecided ∧
    (vaultOf (condemn l c s) l = vaultOf s l ∨ vaultOf (condemn l c s) l = vaultReset (vaultOf s l)) ∧
    vaultOf (condemn l c s) (otherLane l) = vaultOf s (otherLane l) := by
  have same : vaultOf (marked l c s) l = vaultOf s l := by cases l <;> rfl
  have other : vaultOf (marked l c s) (otherLane l) = vaultOf s (otherLane l) := by cases l <;> rfl
  rw [condemn_eq, if_neg inactive]
  split
  next none => exact ⟨(role_of_duties (marked_duties l c s) l).trans none, .inl same, other⟩
  next =>
    have restarted := restartLane_same l (marked l c s)
    have rest := (congrArg LaneSt.vault (restartLane_other l (marked l c s)) :)
    refine ⟨(congrArg LaneSt.role restarted :), .inr ?_, Eq.trans (b := vaultOf (marked l c s) (otherLane l)) rest other⟩
    rw [← same]
    exact (congrArg LaneSt.vault restarted :)

/-- A lane's own trip is recorded, its vault zeroised and its lane condemned (R367). -/
def localLost (l : Lane) (n : Nat) (s : State) : State :=
  let s := tripRecord n (zeroMask s (l == .A) (l == .B)) s
  condemn l .vault (stickySet 16 (laneNo l) (zeroLane l (vaultLost s.clk.fab) s))

/-- When the vaults were zeroised within the last 30 days (R367). -/
def recentZeros (s : State) : List Nat :=
  (s.lanes.a.vault.zeroTimes ++ s.lanes.b.vault.zeroTimes).filter (fun f => decide (s.clk.fab < f + 30 * dayCycles))

/-- With no third trip and a root left, a lane's own trip stays its own. -/
theorem localTrip_alone {l : Lane} {n : Nat} {s : State} (owned : s.life.state = .owned)
    (few : (recentZeros (localLost l n s)).length < 3)
    (spare : (vaultOf (localLost l n s) (otherLane l)).root.isSome = true) : localTrip l n s = localLost l n s := by
  have left : ¬((localLost l n s).lanes.a.vault.root.isNone && (localLost l n s).lanes.b.vault.root.isNone) = true := by
    intro both
    have none (k : Lane) : (vaultOf (localLost l n s) k).root = none := by
      simp only [Bool.and_eq_true, Option.isNone_iff_eq_none] at both
      cases k with
      | A => exact both.1
      | B => exact both.2
    rw [none] at spare
    cases spare
  unfold localTrip
  rw [owned]
  exact (if_neg (Nat.not_le.mpr few)).trans (if_neg left)

/-- What a lane's own trip leaves, where the lane is not active: its vault without root and handles, counted, and the other
vault as it was. -/
theorem localLost_reads {l : Lane} {n : Nat} {s : State} (inactive : active s ≠ some l) :
    ((localLost l n s).lanes.get l).role = .undecided ∧ (localLost l n s).life.state = s.life.state ∧
    (vaultOf (localLost l n s) l).root = none ∧ (vaultOf (localLost l n s) l).handles = [] ∧
    (vaultOf (localLost l n s) l).zeroised = (vaultOf s l).zeroised + 1 ∧
    (vaultOf (localLost l n s) l).zeroTimes.length = (vaultOf s l).zeroTimes.length + 1 ∧
    vaultOf (localLost l n s) (otherLane l) = vaultOf s (otherLane l) := by
  unfold localLost
  extract_lets s1
  have first (k : Lane) : vaultOf s1 k = vaultOf s k := vault_of_bare (tripRecord_bare ..) k
  have pair : active s1 = active s := active_of_bare (tripRecord_bare ..)
  obtain ⟨last, life⟩ := tripRecord_life n (zeroMask s (l == .A) (l == .B)) s
  have life : s1.life.state = s.life.state := (congrArg Life.state life :)
  clear_value s1
  have zeroed : vaultOf (stickySet 16 (laneNo l) (zeroLane l (vaultLost s1.clk.fab) s1)) l =
      vaultLost s1.clk.fab (vaultOf s l) := by
    rw [vaultOf_of_lanes (s := zeroLane l (vaultLost s1.clk.fab) s1) (by simp), vaultOf_zeroLane_same, first]
  have kept : vaultOf (stickySet 16 (laneNo l) (zeroLane l (vaultLost s1.clk.fab) s1)) (otherLane l) =
      vaultOf s (otherLane l) := by
    rw [vaultOf_of_lanes (s := zeroLane l (vaultLost s1.clk.fab) s1) (by simp), vaultOf_zeroLane_other, first]
  have idle : active (stickySet 16 (laneNo l) (zeroLane l (vaultLost s1.clk.fab) s1)) ≠ some l := by
    rw [active_of_duties (s := s1) (by simp), pair]
    exact inactive
  obtain ⟨role, lost, other⟩ := condemn_inactive .vault idle
  obtain ⟨root, handles, -, -⟩ := zeroVault_gone (vaultOf s l)
  refine ⟨role, ?_, ?_⟩
  · rw [← life]
    simp [zeroLane_quiet]
  · rw [other, kept]
    rw [zeroed] at lost
    rcases lost with lost | lost
    all_goals
      rw [lost]
      exact ⟨root, by simp [vaultLost, vaultReset, handles], rfl, rfl, rfl⟩

/-- The vaults' times of zeroising, counted over both lanes. -/
theorem recentZeros_le (s : State) (l : Lane) : (recentZeros s).length ≤
    (vaultOf s l).zeroTimes.length + (vaultOf s (otherLane l)).zeroTimes.length := by
  refine (List.length_filter_le ..).trans ?_
  rw [List.length_append]
  cases l with
  | A => exact le_rfl
  | B => exact (Nat.add_comm ..).le

/-! ### Sleep -/

/-- A live watched source in sleep takes both owner roots at once (R369). -/
theorem sleepTrip_taken {n : Nat} {s : State} (live : sourceLive s n = true) (blank : s.life.state ≠ .blank)
    (scrapped : s.life.state ≠ .scrapped) (dip : s.power.dip = none) :
    sleepTrip n s = sleepRecord (BitVec.twoPow 16 n) (time64 s) (ropUp 0x10016 1 s) := by
  have dip : (ropUp 0x10016 1 s).power.dip = none := dip
  unfold sleepTrip
  refine (if_neg (by simp [live, blank, scrapped])).trans ?_
  simp only [dip]
  rfl

/-- In a dip of VBD it waits in the latch (R451). -/
theorem sleepTrip_held {n : Nat} {d : Nat × Bool} {s : State} (live : sourceLive s n = true) (blank : s.life.state ≠ .blank)
    (scrapped : s.life.state ≠ .scrapped) (dip : s.power.dip = some d) (free : s.power.tamperPending = none) :
    sleepTrip n s = { ropUp 0x10016 1 s with power := { s.power with
      tamperPending := some (BitVec.twoPow 16 n, time64 s) } } := by
  have dip : (ropUp 0x10016 1 s).power.dip = some d := dip
  have free : (ropUp 0x10016 1 s).power.tamperPending = none := free
  unfold sleepTrip
  refine (if_neg (by simp [live, blank, scrapped])).trans ?_
  dsimp only
  split
  next =>
    simp only [free, BitVec.ofNat_eq_ofNat, BitVec.zero_or]
    rfl
  next none => exact absurd (dip.symm.trans none) nofun

theorem execSleepTrip_off {t : Nat} {n : Fin 11} {s : State} (power : s.power.mainOn = false)
    (watched : n.val ≤ 2 ∨ n.val = 9) :
    exec (.sleepTrip t n) s = done (tick t s) (sleepTrip n.val (markInput n.val (tick t s))) := by
  refine if_neg ?_
  simp only [tick_frame, power, Bool.false_or, Bool.not_eq_true', Bool.not_eq_false, Bool.or_eq_true, decide_eq_true_eq,
    beq_iff_eq]
  exact watched

theorem storeTrip_ne (r : TamperRec) (fold : Bool) (st : List TamperRec) : storeTrip r fold st ≠ [] := by
  unfold storeTrip
  split
  · split <;> simp
  · simp

theorem sleepRecord_reads (src : BitVec 16) (time : Nat) (s : State) :
    (∀ l, vaultOf (sleepRecord src time s) l = zeroVault (vaultOf s l)) ∧ (sleepRecord src time s).life.store ≠ [] ∧
    (sleepRecord src time s).life.inputs = s.life.inputs :=
  ⟨fun l => by cases l <;> rfl, fun none => storeTrip_ne _ _ _ none, rfl⟩

/-! ### A root that is copied -/

/-- A missing root is copied from the other vault, which was tested and whose ROOT_ID is right (R348). -/
theorem execRootCopy_taken {t f : Nat} {r : Bytes} {l : Lane} {s : State} (owned : s.life.state = .owned)
    (gone : (vaultOf s l).root = none) (root : (vaultOf s (otherLane l)).root = some r) (known : rootIdOf r = s.life.rootId)
    (tested : (vaultOf s (otherLane l)).katFab = some f) (fresh : max s.clk.fab t ≤ f + 10 * Config.secCycles)
    (good : (vaultOf s (otherLane l)).katBad = false) (bridge : bridgeUp s = true) (act : active s = some l) :
    exec (.rootCopy t l) s = done (tick t s)
      (updVault l (fun v => { v with root := some r, unsealed := true, keys := true }) (tick t s)) := by
  have fresh : (tick t s).clk.fab ≤ f + 10 * Config.secCycles := fresh
  have recent : ((vaultOf s (otherLane l)).katFab.any (fun f => decide ((tick t s).clk.fab ≤ f + 10 * Config.secCycles)) &&
      !(vaultOf s (otherLane l)).katBad) = true := by
    rw [tested, good, Option.any_some, decide_eq_true fresh]
    rfl
  have right : (vaultOf s (otherLane l)).root.any (fun r => rootIdOf r == s.life.rootId) = true := by
    rw [root, Option.any_some, known, beq_self_eq_true]
  have missing : (vaultOf s l).root.isNone = true := by rw [gone]; rfl
  refine (if_pos ⟨owned, missing, right, recent, bridge, .inl act⟩).trans ?_
  change done (tick t s) (updVault l (fun v => { v with
    root := (vaultOf s (otherLane l)).root, unsealed := true, keys := true }) (tick t s)) = _
  rw [root]

/-! ### Suspensions -/

theorem suspendEntry_frame (time tripped : Nat) (inForce : Bool) (s : State) :
    (suspendEntry time tripped inForce s).life = s.life ∧ (suspendEntry time tripped inForce s).clk = s.clk ∧
    (suspendEntry time tripped inForce s).ib = s.ib := by
  simp [suspendEntry, tamperLog]

/-- A suspension in force ends in the log before a new one begins (R363). -/
def suspendBefore (s : State) : State :=
  match s.life.suspend with
  | some _ => suspendEntry (time64 s) 0 false s
  | none => s

theorem suspendBefore_frame (s : State) : (suspendBefore s).clk = s.clk ∧ (suspendBefore s).ib = s.ib := by
  unfold suspendBefore
  split
  · exact (suspendEntry_frame ..).2
  · exact ⟨rfl, rfl⟩

/-- A suspension of `n` seconds from now (R363). -/
def suspendedFor (n : Nat) (s : State) : State :=
  updLife (fun x => { x with suspend := some (s.clk.fab + n * Config.secCycles, n * 1000) }) s

theorem moduleTrip_suspend (n : Nat) (s : State) : (moduleTrip n s).life.suspend = s.life.suspend := by
  have recorded (z : Nat) (s : State) : (tripRecord n z s).life.suspend = s.life.suspend := by
    obtain ⟨last, life⟩ := tripRecord_life n z s
    rw [life]
  unfold moduleTrip
  split
  · rfl
  · rfl
  · obtain ⟨first, life⟩ := enterTampered_life 1 (updLife (fun x => { x with seen := BitVec.twoPow 16 n })
      (tripRecord n (zeroMask s true true) s))
    rw [life]
    exact recorded ..
  · exact recorded ..
  · exact recorded ..
  · simp [dropSessions, zeroLane_quiet, recorded]

theorem endSuspend_none (s : State) : (endSuspend s).life.suspend = none := by
  unfold endSuspend
  split
  next none => exact none
  next =>
    extract_lets s1 s2 s3
    have ended : s2.life.suspend = none := congrArg Life.suspend (suspendEntry_frame ..).1
    clear_value s2
    have first : s3.life.suspend = none := by
      unfold s3
      split
      · rw [moduleTrip_suspend, ended]
      · exact ended
    clear_value s3
    split
    · rw [moduleTrip_suspend, first]
    · exact first

/-! ### The obligation -/

/-- Settles O48: it holds. -/
theorem tamper : Obligations.Tamper := by
  unfold Obligations.Tamper
  refine ⟨?trip, ?marked, ?lane, ?sleep, ?dip, ?copy, ?suspend, ?expiry⟩
  case trip =>
    intro t n s power wide live owned
    have he : exec (.tamperTrip t n) s = done (tick t s) _ := (if_neg (by simp [power]; omega)).trans
      (congrArg (done (tick t s)) ((if_pos live).trans (moduleTrip_owned (s := markInput n.val (tick t s)) owned)))
    refine runs_final he fun u hu => ?_
    obtain ⟨-, ⟨sessions, subs⟩, -⟩ := enterTampered_units 1 (tripTaken n.val (markInput n.val (tick t s)))
    obtain ⟨first, life⟩ := enterTampered_life 1 (tripTaken n.val (markInput n.val (tick t s)))
    have zeroed (l : Lane) : (vaultOf u l).root = none ∧ (vaultOf u l).handles = [] := by
      rw [hu.vault, enterTampered_vault]
      obtain ⟨root, handles, -, -⟩ := zeroVault_gone (vaultOf (tripTaken n.val (markInput n.val (tick t s))) l)
      exact ⟨root, handles⟩
    rw [hu.ib subs, hu.life, life, hu.dict]
    exact ⟨rfl, (zeroed .A).1, (zeroed .B).1, (zeroed .A).2, (zeroed .B).2, sessions, subs, rfl,
      (congrArg (·.getLsbD n.val) (tripTaken_inputs ..)).trans (inputs_markInput (by omega) _), enterTampered_sticky ..⟩
  case marked =>
    intro t n s power wide idle
    refine runs_final (s0 := tick t s) (v := markInput n.val (tick t s))
      ((if_neg (by simp [power]; omega)).trans (congrArg (done (tick t s)) (if_neg (by simp [idle])))) fun u hu => ?_
    rw [hu.life]
    exact ⟨rfl, inputs_markInput (by omega) _, hu.vault .A⟩
  case lane =>
    intro t l n s low high own power owned freshA freshB spare inactive
    have fresh (k : Lane) : (vaultOf s k).zeroTimes = [] := by cases k <;> assumption
    obtain ⟨role, state, root, handles, count, times, other⟩ :=
      localLost_reads (n := n.val) (s := markInput n.val (tick t s)) inactive
    have few : (recentZeros (localLost l n.val (markInput n.val (tick t s)))).length < 3 := by
      refine (recentZeros_le _ l).trans_lt ?_
      rw [times, other]
      change (vaultOf s l).zeroTimes.length + 1 + (vaultOf s (otherLane l)).zeroTimes.length < 3
      rw [fresh, fresh]
      decide
    have alone : localTrip l n.val (markInput n.val (tick t s)) = localLost l n.val (markInput n.val (tick t s)) :=
      localTrip_alone owned few (by rw [other]; exact spare)
    have he : exec (.laneLocalTrip t l n) s = done (tick t s) (localTrip l n.val (markInput n.val (tick t s))) :=
      if_pos ⟨low, high, own, power⟩
    rw [alone] at he
    refine runs_final he fun u hu => ?_
    rw [hu.life, hu.vault, hu.vault, hu.role]
    exact ⟨state.trans owned, root, handles, count, congrArg Vault.root other, role⟩
  case sleep =>
    intro t n s power watched live blank scrapped dip
    refine runs_final (execSleepTrip_off power watched) fun u hu => ?_
    rw [sleepTrip_taken (s := markInput n.val (tick t s)) live blank scrapped dip] at hu
    obtain ⟨vault, store, inputs⟩ := sleepRecord_reads (BitVec.twoPow 16 n.val) (time64 (markInput n.val (tick t s)))
      (ropUp 0x10016 1 (markInput n.val (tick t s)))
    have zeroed (l : Lane) : (vaultOf u l).root = none ∧ (vaultOf u l).handles = [] := by
      rw [hu.vault, vault]
      obtain ⟨root, handles, -, -⟩ := zeroVault_gone (vaultOf (ropUp 0x10016 1 (markInput n.val (tick t s))) l)
      exact ⟨root, handles⟩
    rw [hu.life]
    exact ⟨(zeroed .A).1, (zeroed .B).1, (zeroed .A).2, (zeroed .B).2, store,
      (congrArg (·.getLsbD n.val) inputs).trans (inputs_markInput (by omega) _)⟩
  case dip =>
    intro t n d s power watched live blank scrapped dip held
    refine runs_final (execSleepTrip_off power watched) fun u hu => ?_
    rw [sleepTrip_held (s := markInput n.val (tick t s)) live blank scrapped dip held] at hu
    rw [hu.power, hu.life]
    exact ⟨rfl, congrArg Vault.root (hu.vault .A), rfl⟩
  case copy =>
    intro t f r l s owned gone root known tested fresh good bridge act
    refine runs_final (execRootCopy_taken owned gone root known tested fresh good bridge act) fun u hu => ?_
    rw [hu.vault, vaultOf_updVault_same]
    exact ⟨rfl, rfl, rfl⟩
  case suspend =>
    intro t sid h args s hp some short
    have shortened : ¬(getB (opState t h sid s) 0x10110 && decide (3600 < argN args 0)) = true := by
      simp [Nat.not_lt.mpr short]
    obtain ⟨clk, ib⟩ := suspendBefore_frame (opState t h sid s)
    obtain ⟨life, -, ib'⟩ := suspendEntry_frame (time64 (suspendedFor (argN args 0) (suspendBefore (opState t h sid s))))
      (argN args 0 * 1000) true (suspendedFor (argN args 0) (suspendBefore (opState t h sid s)))
    refine runs_executed hp rfl ((if_neg shortened).trans (if_neg some)) (ib'.trans ib ▸ live_of_passes hp) fun u hu =>
      ⟨?_, hu.answered⟩
    refine (congrArg Life.suspend (hu.life.trans life)).trans ?_
    rw [suspendedFor, updLife_life, clk]
    rfl
  case expiry =>
    intro t f n s suspended late runs
    have he : exec (.encSuspendExpiry t) s = done (tick t s) (endSuspend (tick t s)) := by
      change execEncSuspendExpiry t s = _
      unfold execEncSuspendExpiry
      simp only [tick_frame, suspended]
      exact (if_neg (Nat.not_lt.mpr late)).trans (if_pos runs)
    exact runs_final he fun u hu => (congrArg Life.suspend hu.life).trans (endSuspend_none _)

end Sys2Proof.Machine
end

section
/-!
PROOFS. What no setting reaches: the vaults, the life cycle and the Ibier service (R354).
-/
namespace Sys2Proof.Machine

open Sys2Proof.Safety

/-- Both lanes' vaults. -/
def Pair.vaults (p : Pair LaneSt) : Vault × Vault := (p.a.vault, p.b.vault)

theorem vaults_of_bare {s u : State} (h : u.lanes.bare = s.lanes.bare) : u.lanes.vaults = s.lanes.vaults :=
  Prod.ext (vault_of_bare h .A) (vault_of_bare h .B)

theorem vault_of_vaults {s u : State} (h : u.lanes.vaults = s.lanes.vaults) (l : Lane) : vaultOf u l = vaultOf s l := by
  cases l
  · exact (congrArg Prod.fst h :)
  · exact (congrArg Prod.snd h :)

@[simp] theorem Pair.vaults_upd {l : Lane} {p : Pair LaneSt} {f : LaneSt → LaneSt} (h : ∀ x, (f x).vault = x.vault) :
    (p.upd l f).vaults = p.vaults := by
  cases l <;> simp [Pair.vaults, Pair.upd, Pair.put, Pair.get, h]

/-- The vaults, the life cycle and the Ibier service stand as they were. -/
@[simp] abbrev Secure (s u : State) : Prop := u.lanes.vaults = s.lanes.vaults ∧ u.life = s.life ∧ u.ib = s.ib

@[simp] theorem ite_vaults {c : Prop} [Decidable c] (s u : State) :
    (if c then s else u).lanes.vaults = if c then s.lanes.vaults else u.lanes.vaults :=
  apply_ite (fun s : State => s.lanes.vaults) c s u

@[simp] theorem foldl_secure {β : Type} {f : State → β → State} (h : ∀ s b, Secure s (f s b)) (l : List β) (s : State) :
    Secure s (l.foldl f s) := by
  induction l generalizing s with
  | nil => simp
  | cons b r ih => simp [ih, h]

theorem secure_of_bare {s u : State} (lanes : u.lanes.bare = s.lanes.bare) (life : u.life = s.life) (ib : u.ib = s.ib) :
    Secure s u := ⟨vaults_of_bare lanes, life, ib⟩


/-! ### Counters, records and the trunk -/

@[simp] theorem cntUpAt_secure (n r c k : Nat) (s : State) : Secure s (cntUpAt n r c k s) :=
  secure_of_bare (by simp) (by simp) (by simp)
@[simp] theorem cntUp_secure (n : Nat) (s : State) : Secure s (cntUp n s) := by simp [cntUp]
@[simp] theorem icuRaise_secure (n : Nat) (s : State) : Secure s (icuRaise n s) :=
  secure_of_bare (by simp) (by simp) (by simp)
@[simp] theorem record_secure (typ sev source : Nat) (payload : Bytes) (s : State) : Secure s (record typ sev source payload s) :=
  secure_of_bare (by simp) (by simp) (by simp)
@[simp] theorem trunkSend_secure (dst cls : Nat) (m : TMsg) (s : State) : Secure s (trunkSend dst cls m s) :=
  secure_of_bare (by simp) (by simp) (by simp)
@[simp] theorem linkEnds_secure (p : Nat) (s : State) : Secure s (linkEnds p s) :=
  secure_of_bare (by simp) (by simp) (by simp)
@[simp] theorem masterTopo_secure (s : State) : Secure s (masterTopo s) := secure_of_bare (by simp) (by simp) (by simp)
@[simp] theorem sendList_secure (s : State) (m : Nat) : Secure s (sendList s m) :=
  secure_of_bare (by simp) (by simp) (by simp)
@[simp] theorem alarmFireRow_secure (r last next : Nat) (stepped : Bool) (skipped : Nat) (s : State) :
    Secure s (alarmFireRow r last next stepped skipped s) := secure_of_bare (by simp) (by simp) (by simp)
@[simp] theorem outSync_secure (s : State) : Secure s (outSync s) := secure_of_bare (by simp) (by simp) (by simp)

/-! ### The gate, the bookings and the nodes -/

@[simp] theorem ledgerPut_secure (x ch sf : Nat) (f : Bucket → Bucket) (s : State) : Secure s (ledgerPut x ch sf f s) := by
  simp [ledgerPut]
@[simp] theorem gateReserve_secure (x ch sf dur : Nat) (s : State) : Secure s (gateReserve x ch sf dur s) := by
  simp [gateReserve]
@[simp] theorem gateRelease_secure (x ch sf dur : Nat) (s : State) : Secure s (gateRelease x ch sf dur s) := by
  simp [gateRelease]
@[simp] theorem dropBookings_secure (p : Booking → Bool) (s : State) : Secure s (dropBookings p s) := by simp [dropBookings]
@[simp] theorem loseBooking_secure (b : Booking) (s : State) : Secure s (loseBooking b s) := by simp [loseBooking]
@[simp] theorem book_secure (b : Booking) (s : State) : Secure s (book b s) := by simp [book]
@[simp] theorem rebook_secure (s : State) (b : Booking) : Secure s (rebook s b) := by
  unfold rebook
  dsimp only
  split <;> simp
@[simp] theorem rechannel_secure (s : State) : Secure s (rechannel s) := by
  refine foldl_secure (fun s b => ?_) _ s
  dsimp only
  split
  · split <;> simp
  · exact loseBooking_secure ..
@[simp] theorem release_secure (tk : Nat) (s : State) : Secure s (release tk s) := by
  unfold release
  split <;> simp
@[simp] theorem updArb_secure (l : Lane) (a : Nat) (f : Arb → Arb) (s : State) : Secure s (updArb l a f s) := by simp [updArb]
@[simp] theorem gourAlarmLine_secure (l : Lane) (s : State) : Secure s (gourAlarmLine l s) :=
  secure_of_bare (by simp [gourAlarmLine]) (by simp [gourAlarmLine]) (by simp [gourAlarmLine])
@[simp] theorem gourFaults_secure (l : Lane) (a r : Nat) (b : Arb) (s : State) : Secure s (gourFaults l a r b s) := by
  simp [gourFaults]
@[simp] theorem airDrop_secure (x r : Nat) (s : State) : Secure s (airDrop x r s) := by
  refine foldl_secure (fun s l => ?_) _ s
  split <;> simp
@[simp] theorem clearShock_secure (n : Nat) (s : State) : Secure s (clearShock n s) := by simp [clearShock]
@[simp] theorem dropJoins_secure (n : Nat) (s : State) : Secure s (dropJoins n s) := by simp [dropJoins]
@[simp] theorem leaveCluster_secure (n : Nat) (s : State) : Secure s (leaveCluster n s) := by simp [leaveCluster]
@[simp] theorem endVerify_secure (s : State) : Secure s (endVerify s) := by simp [endVerify]
@[simp] theorem verifyDone_secure (s : State) : Secure s (verifyDone s) := by simp [verifyDone]
@[simp] theorem removeRow_secure (n : Nat) (s : State) : Secure s (removeRow n s) := by simp [removeRow]

/-! ### Tracks and zones -/

@[simp] theorem updTrack_secure (n : Nat) (f : Track → Track) (s : State) : Secure s (updTrack n f s) := by simp [updTrack]
@[simp] theorem trkBatch_secure (s0 s : State) : Secure s (trkBatch s0 s) := by simp [trkBatch]
@[simp] theorem endTrack_secure (n : Nat) (s : State) : Secure s (endTrack n s) := by simp [endTrack]
@[simp] theorem endAllTracks_secure (s : State) : Secure s (endAllTracks s) := by simp [endAllTracks]
@[simp] theorem clearHistory_secure (s : State) (v : Nat) : Secure s (clearHistory s v) := by simp [clearHistory]
@[simp] theorem sendHandoff_secure (n q v d : Nat) (s : State) : Secure s (sendHandoff n q v d s) := by simp [sendHandoff]
@[simp] theorem tryHandoff_secure (n : Nat) (s : State) : Secure s (tryHandoff n s) := by
  unfold tryHandoff
  dsimp only
  split <;> simp
@[simp] theorem tryHandoffs_secure (s : State) : Secure s (tryHandoffs s) := by simp [tryHandoffs]
@[simp] theorem boundCommit_secure (s0 s : State) : Secure s (boundCommit s0 s) := by simp [boundCommit, boundSync]
@[simp] theorem graphCommit_secure (rows : List Nat) (s0 s : State) : Secure s (graphCommit rows s0 s) := by
  simp [graphCommit]
@[simp] theorem updZone_secure (z : Nat) (f : Zone → Zone) (s : State) : Secure s (updZone z f s) := by simp [updZone]
@[simp] theorem applyClass_secure (z : Nat) (s : State) : Secure s (applyClass z s) := by simp [applyClass]
@[simp] theorem applyOverride_secure (z : Nat) (s : State) : Secure s (applyOverride z s) := by simp [applyOverride]
@[simp] theorem adaptZone_secure (s : State) (z : Nat) : Secure s (adaptZone s z) := by simp [adaptZone]
@[simp] theorem zonesChanged_secure (s0 s : State) (z : Nat) : Secure s (zonesChanged s0 s z) := by simp [zonesChanged]

/-! ### Settings -/

@[simp] theorem calSource_secure (s : State) (r : Nat) : Secure s (calSource s r) := by simp [calSource]
@[simp] theorem recalRange_secure (s0 s : State) (c : Nat) : Secure s (recalRange s0 s c) := by simp [recalRange]
@[simp] theorem calUnused_secure (s : State) (r : Nat) : Secure s (calUnused s r) := by simp [calUnused]
@[simp] theorem ratioCut_secure (s0 : State) (ks : List Nat) (s : State) : Secure s (ratioCut s0 ks s) := by simp [ratioCut]
@[simp] theorem calSettle_secure (s0 : State) (ks : List Nat) (s : State) : Secure s (calSettle s0 ks s) := by
  simp [calSettle]
@[simp] theorem wearWord_secure (s : State) (k : Nat) : Secure s (wearWord s k) := by simp [wearWord]
@[simp] theorem alarmWritten_secure (r : Nat) (s : State) : Secure s (alarmWritten r s) := by simp [alarmWritten]
@[simp] theorem xcvrChanged_secure (s0 s : State) (x : Nat) : Secure s (xcvrChanged s0 s x) := by simp [xcvrChanged]
@[simp] theorem clusterChanged_secure (s0 s : State) (c : Nat) : Secure s (clusterChanged s0 s c) := by simp [clusterChanged]
@[simp] theorem strayBookings_secure (s : State) : Secure s (strayBookings s) := by simp [strayBookings]
@[simp] theorem directoryChanged_secure (s0 s : State) (n : Nat) : Secure s (directoryChanged s0 s n) := by
  simp [directoryChanged]
@[simp] theorem floorsChanged_secure (s0 s : State) : Secure s (floorsChanged s0 s) := by simp [floorsChanged]
@[simp] theorem overrideWaits_secure (s : State) (z : Nat) : Secure s (overrideWaits s z) := by simp [overrideWaits]
@[simp] theorem updEng_secure (l : Lane) (e : Nat) (f : Engine → Engine) (s : State) : Secure s (updEng l e f s) := by
  simp [updEng]
@[simp] theorem onLanes_secure {f : Lane → State → State} (h : ∀ l s, Secure s (f l s)) (s : State) :
    Secure s (onLanes f s) := by
  have one (l : Lane) (s : State) : Secure s (if consumes l s then f l s else s) := by
    split
    · exact h l s
    · simp
  simp [onLanes, one]
@[simp] theorem engLoad_secure (l : Lane) (e : Nat) (s : State) : Secure s (engLoad l e s) := by simp [engLoad]
@[simp] theorem engineChanged_secure (s : State) (e : Nat) : Secure s (engineChanged s e) := by
  refine onLanes_secure (fun l s => ?_) s
  split <;> simp [engStop]
@[simp] theorem busChanged_secure (s : State) (k : Nat) : Secure s (busChanged s k) := by simp [busChanged]
@[simp] theorem alarmChanged_secure (s : State) (a : Nat) : Secure s (alarmChanged s a) := by simp [alarmChanged]
@[simp] theorem effectsSys_secure (s0 : State) (ks : List Nat) (client : Bytes) (s : State) :
    Secure s (effectsSys s0 ks client s) := by simp [effectsSys, lcLog]
@[simp] theorem effectsStreet_secure (s0 : State) (ks : List Nat) (plain : Bool) (s : State) :
    Secure s (effectsStreet s0 ks plain s) := by simp [effectsStreet]
@[simp] theorem effectsUnits_secure (s0 : State) (ks : List Nat) (s : State) : Secure s (effectsUnits s0 ks s) := by
  simp [effectsUnits, copySafe, testEnabled]

/-- A change of settings, whatever its own change of the rows, leaves them where that does. -/
theorem changeSettings_secure {f : State → State} {s : State} (h : Secure s (f s)) (ks : List Nat) (client : Bytes)
    (plain : Bool) : Secure s (changeSettings f ks client plain s) := by
  obtain ⟨vaults, life, ib⟩ := h
  simp [changeSettings, vaults, life, ib]

end Sys2Proof.Machine
end

section
/-!
PROOFS. The life cycle (chapter 13): the module is commissioned, recommissioned, returned, scrapped and restocked.
-/
namespace Sys2Proof.Machine

open Sys2Proof.Safety

/-! ### Moves of the life cycle -/

theorem isSome_mget_mmod {α : Type} (m : NMap α) (k : Nat) (f : α → α) (j : Nat) :
    (mget (mmod m k f) j).isSome = (mget m j).isSome := by
  by_cases same : j = k
  · rw [same, mget_mmod_same, Option.isSome_map]
  · rw [mget_mmod_ne _ _ _ _ same]

theorem breakSeq_live (hd cause sid : Nat) (s : State) :
    (mget (breakSeq hd cause s).ib.sessions sid).isSome = (mget s.ib.sessions sid).isSome := by
  unfold breakSeq
  split
  · rfl
  next q _ =>
    split
    · rfl
    · simp only [record_frame, ropUp_frame, logPush_frame, stickySet_frame]
      exact isSome_mget_mmod ..

theorem record_rowsKept {sev : Nat} (h : sev < 4294967296) (typ source : Nat) (payload : Bytes) (s : State) :
    RowsKept [0xB0011] s (record typ sev source payload s) := .of_same (record_sameRows h ..)

/-- A broken sequence writes rows of its log and its faults only. -/
theorem breakSeq_rowsKept (hd cause : Nat) (s : State) :
    RowsKept [0xB0101, 0xB0011, 0x00230, 0x00231] s (breakSeq hd cause s) := by
  unfold breakSeq
  split
  · exact .of_dict rfl
  · split
    · exact .of_dict rfl
    · extract_lets mask n ib s1 s2 s3 s4
      have set : RowsKept [0xB0101] s s2 :=
        (RowsKept.of_dict (s := s) (u := s1) rfl).trans (.of_same (stickySet_sameRows (bit := 0) (by decide) ..))
      have noted : RowsKept [0x00230] s2 s3 := logPush_rowsKept ..
      have counted : RowsKept [0x00231] s3 s4 := putRow_rowsKept (by decide) ..
      refine (set.mono (by simp)).trans ((noted.mono (by simp)).trans ((counted.mono (by simp)).trans ?_))
      exact (record_rowsKept (by decide) ..).mono (by simp)

theorem breakAllSeqs_live (cause sid : Nat) (s : State) :
    (mget (breakAllSeqs cause s).ib.sessions sid).isSome = (mget s.ib.sessions sid).isSome :=
  foldl_keeps (part := fun s : State => (mget s.ib.sessions sid).isSome) (fun s hd => breakSeq_live hd cause sid s) ..

/-- A move of the life cycle ends no session (R354). -/
theorem lcMove_live (b : Lc) (client : Bytes) (cause sid : Nat) (s : State) :
    (mget (lcMove b client cause s).ib.sessions sid).isSome = (mget s.ib.sessions sid).isSome := by
  simp only [lcMove, lcLog, record_frame, logPush_frame]
  exact breakAllSeqs_live ..

/-- The rows that a move of the life cycle writes. -/
theorem lcMove_rowsKept (b : Lc) (client : Bytes) (cause : Nat) (s : State) :
    RowsKept [0xB0101, 0xB0011, 0x00230, 0x00231, 0x10030] s (lcMove b client cause s) := by
  unfold lcMove
  extract_lets a s1 s2
  have noted : RowsKept [0xB0101, 0xB0011, 0x00230, 0x00231] s (updLife (fun x => { x with state := b }) s1) :=
    ⟨fun _ _ => rfl, fun _ _ _ _ => rfl⟩
  have broken : RowsKept [0xB0101, 0xB0011, 0x00230, 0x00231] _ s2 := .foldl (fun hd _ => breakSeq_rowsKept hd 4) _
  have logged : RowsKept [0x10030] s2 (lcLog a b client cause s2) := logPush_rowsKept ..
  refine ((noted.trans broken).mono (by simp)).trans ((logged.mono (by simp)).trans ?_)
  exact (record_rowsKept (by decide) ..).mono (by simp)

/-! ### A new owner root -/

/-- Inputs that read nothing tripped let a command through (R368). -/
theorem sampleInputs_clear {s : State} (clear : s.life.inputs = 0) : (sampleInputs s).life = s.life ∧
    anyTripped (sampleInputs s) = false := by
  have life : (sampleInputs s).life = s.life := by
    change { s.life with inputs := s.life.inputs &&& BitVec.ofNat 16 (freeNat s) } = s.life
    rw [show s.life.inputs &&& BitVec.ofNat 16 (freeNat s) = s.life.inputs by simp [clear]]
  refine ⟨life, ?_⟩
  simp [anyTripped, life, clear]

/-- Both vaults hold a new owner root; the life cycle names it (R346, R357). -/
theorem newOwnerRoot_reads (imported : Bool) (blob : Bytes) (s : State) :
    (∀ l, (vaultOf (newOwnerRoot imported blob s) l).root.isSome = true ∧
      (vaultOf (newOwnerRoot imported blob s) l).unsealed = true) ∧
    (∃ id key, (newOwnerRoot imported blob s).life = { s.life with rootId := id, attestPub := key }) ∧
    (newOwnerRoot imported blob s).ib = s.ib := by
  unfold newOwnerRoot
  extract_lets root s1 renewed
  exact ⟨fun l => by cases l <;> exact ⟨rfl, rfl⟩, ⟨_, _, rfl⟩, rfl⟩

/-- COMMISSION of a good claim (R357): the owner root, the return anchor, and OWNED. -/
def commissionedFrom (imported : Bool) (blob anchor : Bytes) (days : Nat) (client : Bytes) (s : State) : State :=
  let s := newOwnerRoot imported blob (updLife (fun x => { x with claimBad := 0, lockout := none }) s)
  let s := putRow 0x10120 0 [vB true, .bytes anchor, vN days, .bytes []] s
  lcMove .owned client 0 (if s.life.everOwned then s else updLife (fun x => { x with everOwned := true }) (asnFromZero s))

/-- The answer to COMMISSION, with the escrow blob where an ESCROW_KEY is installed (R357). -/
def claimAnswer (s : State) : Answer :=
  let base : List Val := [.bytes (fit 8 s.life.rootId), .bytes (fit 97 s.life.attestPub)]
  if noEscrowKey s then okVals [.octets 8, .octets 97] base s
  else okVals [.octets 8, .octets 97, .octets 173] (base ++ [.bytes (escrowBlob s)]) (draw s)

theorem claimAnswer_keeps (s : State) : ∃ v r, claimAnswer s = (v, some r) ∧ v.life = s.life ∧ v.lanes = s.lanes ∧
    v.dict = s.dict ∧ v.ib = s.ib := by
  unfold claimAnswer
  extract_lets base
  split <;> exact ⟨_, _, rfl, rfl, rfl, rfl, rfl⟩

theorem commissionedFrom_reads (imported : Bool) (blob anchor : Bytes) (days : Nat) (client : Bytes) (s : State) :
    (commissionedFrom imported blob anchor days client s).life.state = .owned ∧
    (commissionedFrom imported blob anchor days client s).life.claimBad = 0 ∧
    (∀ l, (vaultOf (commissionedFrom imported blob anchor days client s) l).root.isSome = true ∧
      (vaultOf (commissionedFrom imported blob anchor days client s) l).unsealed = true) ∧
    getRow (commissionedFrom imported blob anchor days client s) 0x10120 0 =
      [vB true, .bytes anchor, vN days, .bytes []] ∧
    ∀ sid, (mget (commissionedFrom imported blob anchor days client s).ib.sessions sid).isSome =
      (mget s.ib.sessions sid).isSome := by
  unfold commissionedFrom
  extract_lets s1 s2
  obtain ⟨vault, ⟨id, key, named⟩, ib⟩ :=
    newOwnerRoot_reads imported blob (updLife (fun x => { x with claimBad := 0, lockout := none }) s)
  have life : s1.life.claimBad = 0 := congrArg Life.claimBad named
  have vault (l : Lane) : (vaultOf s1 l).root.isSome = true ∧ (vaultOf s1 l).unsealed = true := vault l
  have sessions : s1.ib = s.ib := ib
  clear_value s1
  have life : s2.life.claimBad = 0 := life
  have vault (l : Lane) : (vaultOf s2 l).root.isSome = true ∧ (vaultOf s2 l).unsealed = true := vault l
  have sessions : s2.ib = s.ib := sessions
  have row : getRow s2 0x10120 0 = [vB true, .bytes anchor, vN days, .bytes []] := by
    simp only [s2, getRow_putRow_same]
  clear_value s2
  obtain ⟨s3, eq⟩ : ∃ s3, (if s2.life.everOwned then s2 else updLife (fun x => { x with everOwned := true })
    (asnFromZero s2)) = s3 := ⟨_, rfl⟩
  have lanes : s3.lanes.bare = s2.lanes.bare := by simp [← eq, asnFromZero, asnMoved]
  have counted : s3.life.claimBad = s2.life.claimBad := by
    rw [← eq]
    split <;> simp [updLife_life, asnFromZero, asnMoved]
  have kept : RowsKept [] s2 s3 := by
    rw [← eq]
    split
    · exact .of_dict rfl
    · refine ⟨fun _ _ => ?_, fun _ _ _ _ => ?_⟩ <;> simp [asnFromZero, asnMoved]
  have same : s3.ib.sessions = s2.ib.sessions := by
    rw [← eq]
    split <;> simp [asnFromZero, asnMoved]
  rw [eq]
  refine ⟨?_, ?_, fun l => ?_, ?_, fun sid => ?_⟩
  · rw [lcMove_life]
  · rw [lcMove_life]
    exact counted.trans life
  · rw [vault_of_bare (lcMove_bare ..), vault_of_bare lanes]
    exact vault l
  · rw [(lcMove_rowsKept ..).getRow (by decide) (by decide) (by decide), kept.getRow (by simp) (by simp) (by decide)]
    exact row
  · rw [lcMove_live, same, sessions]

/-! ### The restart of the module -/

theorem vault_of_still {s u : State} {l k : Lane} (h : (u.lanes.get k).still = (s.lanes.get l).still) :
    vaultOf u k = vaultOf s l := (congrArg LaneSt.vault h :)

/-- A lane that boots keeps its vault's root (R297). -/
theorem bootLane_root (s : State) (l k : Lane) : (vaultOf (bootLane s l) k).root = (vaultOf s k).root := by
  unfold bootLane
  extract_lets rel d s1 s2
  have booted : (vaultOf s2 k).root = (vaultOf s k).root := by
    refine (congrArg Vault.root (vault_of_still (bootSelect_still ..))).trans ?_
    cases l <;> cases k <;> rfl
  clear_value s2
  split
  · exact (congrArg Vault.root (by cases l <;> cases k <;> rfl)).trans booted
  · exact booted

@[simp] theorem scanRec_bare (s : State) : (scanRec s).lanes.bare = s.lanes.bare := by
  unfold scanRec
  extract_lets s1 s2
  have same : s2.lanes.bare = s.lanes.bare := by simp [s2, s1]
  split
  · exact same
  · split <;> simpa using same

theorem bootModule_root (c : StartCause) (s : State) (l : Lane) : (vaultOf (bootModule c s) l).root = (vaultOf s l).root := by
  unfold bootModule
  extract_lets s1 s2
  have booted := (bootLane_root (bootLane s2 .A) .B l).trans (bootLane_root s2 .A l)
  have later : (scanRec (meterLoad .B (meterLoad .A (meterBoot (bootLane (bootLane s2 .A) .B))))).lanes.bare =
      (bootLane (bootLane s2 .A) .B).lanes.bare := by simp [meterLoad, meterBoot]
  exact (congrArg Vault.root (vault_of_bare later l)).trans booted

theorem bootLane_lp (s : State) (l : Lane) : (bootLane s l).lp = s.lp := by
  unfold bootLane
  extract_lets rel d s1 s2
  have booted : s2.lp = s.lp := by simp [s2, s1, laneRowsGone]
  split
  · exact booted
  · exact booted

theorem scanRec_lp (s : State) : (scanRec s).lp = s.lp := by
  unfold scanRec
  extract_lets r s1 r' s2
  have torn : s1.lp = s.lp := by
    unfold s1
    split <;> simp
  have same : s2.lp = s.lp := torn
  clear_value s2
  split
  · exact same
  next =>
    extract_lets n
    clear_value n
    split
    · exact same
    · simpa using same

theorem bootModule_lp (c : StartCause) (s : State) : (bootModule c s).lp = s.lp := by
  rw [bootModule, scanRec_lp]
  simp [meterLoad, meterBoot, bootLane_lp, updPower]

/-- After a restart of the module no lane owns the outputs (R26). -/
theorem restartModule_owner (c : StartCause) (s : State) : (restartModule c s).lp.owner = none := by
  unfold restartModule
  extract_lets s1
  have booted : s1.lp = (wipe (stopLanes (foldRealigned (cwvStop s)))).lp := bootModule_lp ..
  clear_value s1
  change s1.lp.owner = none
  rw [booted]
  rfl

/-- After a restart of the module no lane has a role, no session lives, and the roots and the life cycle stand. -/
theorem restartModule_reads (c : StartCause) (s : State) :
    (∀ l, ((restartModule c s).lanes.get l).role = .undecided) ∧ NoSessions (restartModule c s).ib ∧
    (restartModule c s).life = s.life ∧ ∀ l, (vaultOf (restartModule c s) l).root = (vaultOf s l).root := by
  unfold restartModule
  extract_lets s1
  obtain ⟨-, life, ib, -⟩ := bootModule_units c (wipe (stopLanes (foldRealigned (cwvStop s))))
  have wiped (l : Lane) : (vaultOf (wipe (stopLanes (foldRealigned (cwvStop s)))) l).root = (vaultOf s l).root := by
    have stopped : (cwvStop s).lanes.bare = s.lanes.bare := by simp [cwvStop, cwvEnd, cwvRecord]
    refine Eq.trans ?_ (congrArg Vault.root (vault_of_bare stopped l))
    cases l <;> rfl
  have kept : s1.life = s.life := life.trans (by simp [wipe, stopLanes, foldRealigned, foldAslew, cwvStop])
  have root (l : Lane) : (vaultOf s1 l).root = (vaultOf s l).root := (bootModule_root ..).trans (wiped l)
  have role (l : Lane) : (s1.lanes.get l).role = .undecided := bootModule_undecided ..
  have none : NoSessions s1.ib := by
    rw [show s1.ib = _ from ib]
    exact ⟨rfl, rfl⟩
  clear_value s1
  refine ⟨fun l => ?_, none, kept, fun l => ?_⟩
  · refine Eq.trans ?_ (role l)
    cases l <;> rfl
  · refine Eq.trans ?_ (root l)
    cases l <;> rfl

/-- Before its restart the module answers (R360). -/
theorem afterReply_restart {v : State} {c : StartCause} (restart : v.power.restart = some c) (sid : Nat) (h : Hdr) (r : Reply) :
    afterReply (answer sid h (v, some r)) =
      restartModule c (releaseAll (updPower (fun p => { p with restart := none }) (answer sid h (v, some r)))) := by
  have kept : (answer sid h (v, some r)).power.restart = some c := by simp [restart]
  unfold afterReply
  rw [kept]

theorem afterReply_none {v : State} (stays : v.power.restart = none) (sid : Nat) (h : Hdr) (r : Reply) :
    afterReply (answer sid h (v, some r)) = answer sid h (v, some r) := by
  have kept : (answer sid h (v, some r)).power.restart = none := by simp [stays]
  unfold afterReply
  rw [kept]

/-- A command whose answer is followed by a restart of the module leaves no role, no owner and no session, and the roots and
the life cycle as its effect made them. -/
theorem runs_restarted {i : Instr} {s s0 v : State} {sid : Nat} {h : Hdr} {r : Reply} {c : StartCause} {P : State → Prop}
    (restart : v.power.restart = some c) (he : exec i s = done s0 (afterReply (answer sid h (v, some r))))
    (hP : ∀ u, u.lp.owner = none → (∀ l, (u.lanes.get l).role = .undecided) → NoSessions u.ib → u.life = v.life →
      (∀ l, (vaultOf u l).root = (vaultOf v l).root) → P u) : Runs i s P := by
  rw [afterReply_restart restart] at he
  have owner := restartModule_owner c
    (releaseAll (updPower (fun p => { p with restart := Option.none }) (answer sid h (v, some r))))
  obtain ⟨roles, none, life, roots⟩ := restartModule_reads c
    (releaseAll (updPower (fun p => { p with restart := Option.none }) (answer sid h (v, some r))))
  refine runs_final he fun u hu => hP u ((owner_of_course (course_of_unsent hu.unsent)).trans owner)
    (fun l => (hu.role l).trans (roles l)) ?_ ?_ fun l => ?_
  · rw [hu.ib none.2]
    exact none
  · rw [hu.life, life]
    simp
  · rw [hu.vault, roots, vault_of_bare (releaseAll_bare _)]
    exact congrArg Vault.root ((answer_sends sid h v r).vault l)

theorem strike_of_passes {obj t sid : Nat} {cols : List ColKind} {nb : Bool} {h : Hdr} {args : List TVal} {s : State}
    (hp : passes obj cols nb t h args sid s = true) : ¬h.strike = .tamper := by
  have arrived := (Bool.and_eq_true_iff.1 hp).1
  simp only [arrives, Bool.and_eq_true, beq_iff_eq] at arrived
  obtain ⟨⟨⟨⟨⟨-, calm⟩, -⟩, -⟩, -⟩, -⟩ := arrived
  rw [calm]
  exact nofun

/-- One good vault test lets a command of the life cycle through (R352). -/
theorem katGood {s : State} (good : (vaultOf s .A).katBad = false) :
    ¬(s.lanes.a.vault.katBad && s.lanes.b.vault.katBad) = true := by
  rw [show s.lanes.a.vault.katBad = false from good]
  exact Bool.false_ne_true

theorem lockout_open {t sid : Nat} {h : Hdr} {s : State} (free : s.life.lockout = none) :
    ¬((opState t h sid s).life.lockout.any (fun f => decide ((opState t h sid s).clk.fab < f))) = true := by
  rw [show (opState t h sid s).life.lockout = none from free]
  exact Bool.false_ne_true

/-- The owner's keys are gone from both vaults (R361). -/
theorem ownerGone_root (s : State) (l : Lane) : (vaultOf (ownerGone s) l).root = none := by
  unfold ownerGone
  extract_lets s1 s2 z
  cases l
  · exact (zeroVault_gone s1.lanes.a.vault).1
  · exact (zeroVault_gone s1.lanes.b.vault).1

theorem ownerGone_ib (s : State) : (ownerGone s).ib = s.ib := by simp [ownerGone]

/-- SCRAP takes the roots of both vaults and latches the outputs off (R361). -/
def scrappedFrom (client : Bytes) (s : State) : State :=
  let s := if s.lanes.a.vault.root.isSome || s.lanes.b.vault.root.isSome then stickySet 16 0 s else s
  let s := lcMove .scrapped client 0 (updVault .B scrapVault (updVault .A scrapVault s))
  outSync { s with io := { s.io with scrap := true, outs := s.io.outs.map fun o => { o with powerOn := false } } }

theorem setPin_scrap (k : Nat) (v : Bool) (s : State) : (setPin k v s).io.scrap = s.io.scrap := by
  unfold setPin
  split
  · rfl
  · unfold switchPin
    split
    · rfl
    · rw [cntUpAt_io]
      rfl

/-- Outputs that are driven off keep the latch that drives them off (R361). -/
theorem outSync_scrap {s : State} (latched : s.io.scrap = true) : (outSync s).io.scrap = true := by
  rw [outSync, if_pos latched]
  exact (foldl_keeps (part := fun s : State => s.io.scrap) (fun s k => setPin_scrap k false s) ..).trans latched

theorem scrappedFrom_reads (client : Bytes) (s : State) : (scrappedFrom client s).life.state = .scrapped ∧
    (∀ l, (vaultOf (scrappedFrom client s) l).root = none ∧ (vaultOf (scrappedFrom client s) l).roots = false) ∧
    (scrappedFrom client s).io.scrap = true := by
  unfold scrappedFrom
  extract_lets s1 s2
  have life : s2.life.state = .scrapped := congrArg Life.state (lcMove_life ..)
  have gone (l : Lane) : (vaultOf s2 l).root = none ∧ (vaultOf s2 l).roots = false := by
    rw [vault_of_bare (lcMove_bare ..)]
    cases l
    · exact ⟨(zeroVault_gone s1.lanes.a.vault).1, rfl⟩
    · exact ⟨(zeroVault_gone s1.lanes.b.vault).1, rfl⟩
  clear_value s2
  refine ⟨?_, fun l => ?_, outSync_scrap rfl⟩
  · rw [(outSync_secure _).2.1]
    exact life
  · rw [vault_of_bare (outSync_bare _)]
    exact gone l

theorem releaseAll_io (s : State) : (releaseAll s).io = s.io :=
  (foldl_keeps (part := fun s : State => s.io) (fun s w => by simp) ..).trans rfl

/-- SCRAP of a module not scrapped: the answer leaves, then both lanes stop (R361). -/
theorem execScrap_taken {t sid : Nat} {h : Hdr} {args : List TVal} {s : State}
    (hp : passes 0x10303 [.octets 16] false t h args sid s = true) (own : argB args 0 = fit 16 Config.serial)
    (live : s.life.state ≠ .scrapped) :
    exec (.scrap t h args) s = done (tick t s) (stopLanes (dropSessions (releaseAll
      (answer sid h (scrappedFrom (caller t sid s).client (opState t h sid s), some (rOk .empty)))))) := by
  change execScrap t h args s = _
  have live : ¬(tick t s).life.state = .scrapped := live
  obtain ⟨state, -⟩ := scrappedFrom_reads (caller t sid s).client (opState t h sid s)
  have taken : execCmd 0x10303 [.octets 16] h args (fun _ x s =>
      if argB args 0 ≠ fit 16 Config.serial then refuse (rRange 0x10303 0) s
      else okEmpty (scrappedFrom x.client s)) (tick t s) =
      answer sid h (scrappedFrom (caller t sid s).client (opState t h sid s), some (rOk .empty)) :=
    (execCmd_passes hp _).trans (congrArg (answer sid h) (if_neg (not_not.mpr own)))
  have scrapped : (answer sid h (scrappedFrom (caller t sid s).client (opState t h sid s), some (rOk .empty))).life.state =
      .scrapped := by
    rw [show (answer sid h (scrappedFrom (caller t sid s).client (opState t h sid s), some (rOk .empty))).life =
      (scrappedFrom (caller t sid s).client (opState t h sid s)).life by simp]
    exact state
  generalize scrappedFrom (caller t sid s).client (opState t h sid s) = v at taken scrapped
  refine (if_neg live).trans ?_
  refine (congrArg (fun r : State => done (tick t s) (scrapStop (if r.life.state = .scrapped then releaseAll r else r)))
    taken).trans ?_
  have free : (releaseAll (answer sid h (v, some (rOk .empty)))).life.state = .scrapped := by
    rw [show (releaseAll (answer sid h (v, some (rOk .empty)))).life = _ from
      (foldl_keeps (part := fun s : State => s.life) (fun s w => by simp) ..).trans rfl]
    exact scrapped
  rw [if_pos scrapped, scrapStop, if_pos free]

theorem settingsGone_secure (s : State) (client : Bytes) :
    Secure s (changeSettings settingsGone (settingKeys s) client false s) :=
  changeSettings_secure ⟨rfl, rfl, rfl⟩ _ client false

/-- RECOMMISSION with its new owner root, before the restart that follows its answer (R360). -/
def recommissionedFrom (args : List TVal) (client : Bytes) (s : State) : State :=
  let imported := argN args 0 = 1
  let s := newOwnerRoot (decide imported) (argB args 1) s
  let s := updLife (fun y => { y with
    newRoot := !decide imported
    trunkKeyId := if imported then y.trunkKeyId else List.replicate 8 0
    trunkKey := if imported then y.trunkKey else [] }) s
  updPower (fun p => { p with restart := some .recommission }) (lcMove .owned client 0 s)

theorem recommissionedFrom_reads (args : List TVal) (client : Bytes) (s : State) :
    (recommissionedFrom args client s).life.state = .owned ∧
    (∀ l, (vaultOf (recommissionedFrom args client s) l).root.isSome = true) ∧
    (recommissionedFrom args client s).power.restart = some .recommission := by
  unfold recommissionedFrom
  extract_lets imported s1 s2
  have vault (l : Lane) : (vaultOf s2 l).root.isSome = true := ((newOwnerRoot_reads (decide imported) (argB args 1) s).1 l).1
  clear_value s2
  refine ⟨congrArg Life.state (lcMove_life ..), fun l => ?_, rfl⟩
  exact (congrArg (fun v : Vault => v.root.isSome) (vault_of_bare (lcMove_bare ..) l)).trans (vault l)

/-- Settles O49: it holds. -/
theorem lifeCycle : Obligations.LifeCycle := by
  unfold Obligations.LifeCycle
  refine ⟨?commission, ?wrong, ?lockout, ?recommission, ?struck, ?returned, ?scrap, ?stock, ?roots, ?escrow, ?key⟩
  case commission =>
    intro t sid h args s b hp free clear good new
    obtain ⟨life, quiet⟩ := sampleInputs_clear (s := opState t h sid s) clear
    obtain ⟨state, count, vault, row, sessions⟩ := commissionedFrom_reads (argN args 1 == 1) (argB args 4) (argB args 2)
      (argN args 3) (caller t sid s).client (sampleInputs (opState t h sid s))
    have fresh : ¬(argN args 1 = 1 ∧ (!b) = true) := by simp [new]
    obtain ⟨v, r, eq, alike, lanes, dict, ib⟩ := claimAnswer_keeps (commissionedFrom (argN args 1 == 1) (argB args 4)
      (argB args 2) (argN args 3) (caller t sid s).client (sampleInputs (opState t h sid s)))
    refine runs_executed hp rfl (((if_neg (lockout_open free)).trans ((if_neg (by rw [quiet]; exact Bool.false_ne_true)).trans
      ((if_neg (katGood good)).trans ((if_neg Bool.false_ne_true).trans ((if_neg fresh).trans
        (if_neg (strike_of_passes hp))))))).trans eq) (by rw [ib, sessions]; exact live_of_passes hp) fun u hu => ?_
    have vaults (l : Lane) : vaultOf u l = vaultOf _ l := (hu.vault l).trans (vaultOf_of_lanes lanes l)
    rw [hu.life, alike, getRow_of_dict (hu.dict.trans dict), vaults, vaults]
    exact ⟨state, count, (vault .A).1, (vault .B).1, (vault .A).2, row⟩
  case wrong =>
    intro t sid h args s b hp free clear good
    obtain ⟨life, quiet⟩ := sampleInputs_clear (s := opState t h sid s) clear
    refine runs_executed hp rfl ((if_neg (lockout_open free)).trans ((if_neg (by rw [quiet]; exact Bool.false_ne_true)).trans
      ((if_neg (katGood good)).trans (if_pos rfl)))) (live_of_passes hp) fun u hu => ?_
    have free : (opState t h sid s).life.lockout = none := free
    rw [hu.life, wrongClaim, updLife_life, life, free]
    exact ⟨rfl, rfl, rfl⟩
  case lockout =>
    intro t f s locked late
    have he : exec (.claimLockoutExpiry t) s = done (tick t s) (updLife (fun x => { x with lockout := none }) (tick t s)) := by
      change execClaimLockoutExpiry t s = _
      unfold execClaimLockoutExpiry
      simp only [tick_frame, locked]
      exact if_pos late
    refine runs_final he fun u hu => ?_
    rw [hu.life]
    exact ⟨rfl, rfl⟩
  case recommission =>
    intro t sid h args s b hp clear good new
    obtain ⟨life, quiet⟩ := sampleInputs_clear (s := opState t h sid s) clear
    have renewed : ¬(argN args 0 = 1 ∧ (!b) = true) := by simp [new]
    have other : ¬(argN args 0 = 1 ∧ ((argB args 1).drop 20).take 8 ≠ (sampleInputs (opState t h sid s)).life.rootId) := by
      simp [new]
    have he : exec (.recommission t h args b false) s = done (tick t s) (afterReply (answer sid h (recommissionedFrom args
        (caller t sid s).client (sampleInputs (opState t h sid s)), some (rOk .empty)))) := congrArg (fun u => done (tick t s) (afterReply u))
      ((execCmd_passes hp _).trans (congrArg (answer sid h) ((if_neg (by rw [quiet]; exact Bool.false_ne_true)).trans
        ((if_neg (katGood good)).trans ((if_neg renewed).trans ((if_neg other).trans (if_neg Bool.false_ne_true)))))))
    obtain ⟨state, vault, restart⟩ := recommissionedFrom_reads args (caller t sid s).client
      (sampleInputs (opState t h sid s))
    refine runs_restarted restart he fun u _ role none life root => ?_
    rw [life, root, root]
    exact ⟨state, vault .A, vault .B, role .A, role .B, none.1⟩
  case struck =>
    intro t sid h args s b hp clear good new fresh
    obtain ⟨life, quiet⟩ := sampleInputs_clear (s := opState t h sid s) clear
    have renewed : ¬(argN args 0 = 1 ∧ (!b) = true) := by simp [new]
    have other : ¬(argN args 0 = 1 ∧ ((argB args 1).drop 20).take 8 ≠ (sampleInputs (opState t h sid s)).life.rootId) := by
      simp [new]
    have he : exec (.recommission t h args b true) s = done (tick t s) _ := congrArg (fun u => done (tick t s) (afterReply u))
      ((execCmd_passes hp _).trans (congrArg (answer sid h) ((if_neg (by rw [quiet]; exact Bool.false_ne_true)).trans
        ((if_neg (katGood good)).trans ((if_neg renewed).trans ((if_neg other).trans (if_pos rfl)))))))
    have stays : (sampleInputs (opState t h sid s)).power.restart = none := fresh
    refine runs_answered (v := sampleInputs (opState t h sid s)) (live_of_passes hp)
      (he.trans (congrArg (done (tick t s)) (afterReply_none stays ..))) fun u hu => ?_
    rw [obj_of_passes hp] at hu
    rw [hu.life, life, hu.vault, hu.vault]
    exact ⟨rfl, rfl, rfl, rfl, hu.answered⟩
  case returned =>
    intro t sid h args s hp own
    obtain ⟨vaults, life, ib⟩ := settingsGone_secure (ownerGone (opState t h sid s)) (caller t sid s).client
    refine runs_executed hp rfl (if_neg (not_not.mpr own)) ?_ fun u hu => ?_
    · rw [lcMove_live, ib, ownerGone_ib]
      exact live_of_passes hp
    · have gone (l : Lane) : (vaultOf u l).root = none := by
        rw [hu.vault, vault_of_bare (lcMove_bare ..), vault_of_vaults vaults]
        exact ownerGone_root ..
      rw [hu.life, lcMove_life, life]
      exact ⟨rfl, gone .A, gone .B, rfl, hu.answered⟩
  case scrap =>
    intro t sid h args s hp own live
    obtain ⟨state, vault, scrap⟩ := scrappedFrom_reads (caller t sid s).client (opState t h sid s)
    refine runs_final (execScrap_taken hp own live) fun u hu => ?_
    generalize scrappedFrom (caller t sid s).client (opState t h sid s) = v at state vault scrap hu
    have sent := answer_sends sid h v (rOk .empty)
    have life : u.life = v.life := hu.life.trans ((foldl_keeps (part := fun s : State => s.life) (fun s w => by simp) ..).trans
      (show (answer sid h (v, some (rOk .empty))).life = v.life by simp))
    have io : u.io = v.io := hu.io.trans ((releaseAll_io _).trans sent.io)
    have kept (l : Lane) : vaultOf u l = vaultOf v l := by
      refine (hu.vault l).trans (Eq.trans ?_ ((vault_of_bare (releaseAll_bare _) l).trans (sent.vault l)))
      cases l <;> rfl
    have idle (l : Lane) : (u.lanes.get l).running = false := by
      rw [hu.lanes l]
      cases l <;> rfl
    have none : u.ib.sessions = [] := congrArg Ibier.sessions (hu.ib rfl)
    rw [life, io]
    exact ⟨state, (congrArg Vault.root (kept .A)).trans (vault .A).1, (congrArg Vault.root (kept .B)).trans (vault .B).1,
      (congrArg Vault.roots (kept .A)).trans (vault .A).2, (congrArg Vault.roots (kept .B)).trans (vault .B).2,
      idle .A, idle .B, scrap, none⟩
  case stock =>
    intro t sid h args s arrived vendor state passed level
    refine runs_answered (v := lcMove .stock (caller t sid s).client 0 (opState t h sid s)) (r := rOk .empty) ?_
      (congrArg (done (tick t s)) ((request_arrives arrived).trans (congrArg (answer sid h) ?_))) fun u hu => ?_
    · rw [lcMove_live]
      exact opState_session (sessions_of_arrives arrived) t h
    · exact (if_neg (not_not.mpr vendor)).trans ((if_neg (not_not.mpr state)).trans
        (if_neg (by rw [level]; decide)))
    · rw [hu.life, lcMove_life]
  case roots =>
    intro t s blank
    refine runs_final (s0 := tick t s) (if_pos blank) fun u hu => ?_
    rw [hu.life, lcMove_life]
    have vault (l : Lane) := (hu.vault l).trans (vault_of_bare (lcMove_bare ..) l)
    exact ⟨rfl, congrArg Vault.roots (vault .A), congrArg Vault.roots (vault .B)⟩
  case escrow =>
    intro t sid h args s hp named root good
    have named : ¬noEscrowKey (opState t h sid s) = true := by
      rw [show noEscrowKey (opState t h sid s) = false from named]
      exact Bool.false_ne_true
    have root : ¬(!ownerRoot (opState t h sid s)) = true := by
      rw [show ownerRoot (opState t h sid s) = true from root]
      exact Bool.false_ne_true
    have good : ¬(vaultOf (opState t h sid s) (servedBy (opState t h sid s))).katBad = true := by
      rw [show (vaultOf (opState t h sid s) (servedBy (opState t h sid s))).katBad = false from good]
      exact Bool.false_ne_true
    refine runs_executed hp rfl ((if_neg named).trans ((if_neg root).trans ((if_neg good).trans
      (if_neg (strike_of_passes hp))))) (live_of_passes hp) fun u hu => hu.answered
  case key =>
    intro t sid h args s hp root good
    have root : ¬(!ownerRoot (opState t h sid s)) = true := by
      rw [show ownerRoot (opState t h sid s) = true from root]
      exact Bool.false_ne_true
    have good : ¬(vaultOf (opState t h sid s) (servedBy (opState t h sid s))).katBad = true := by
      rw [show (vaultOf (opState t h sid s) (servedBy (opState t h sid s))).katBad = false from good]
      exact Bool.false_ne_true
    refine runs_executed hp rfl ((if_neg root).trans ((if_neg good).trans ((if_neg Bool.false_ne_true).trans
      (if_neg (strike_of_passes hp))))) ?_ fun u hu => ?_
    · rw [(linkEnds_secure ..).2.2, (linkEnds_secure ..).2.2]
      exact live_of_passes hp
    · rw [hu.life, (linkEnds_secure ..).2.1, (linkEnds_secure ..).2.1]
      exact ⟨rfl, rfl, hu.answered⟩

end Sys2Proof.Machine
end

section
/-!
PROOFS. The recorder (chapter 14): records are submitted, held, written, repeated and read.
-/
namespace Sys2Proof.Machine

open Sys2Proof.Safety

/-! ### The pages -/

/-- The part of the recorder that the notices of a record leave: its submissions, pages, RSEQ and summaries. -/
def booked (s : State) : List Record × NMap RecPage × Option Nat × Nat × Pair (List Record) :=
  (s.recd.queue, s.recd.pages, s.recd.openPage, s.recd.rseq, s.recd.held)

theorem booked_eq {s : State} {queue : List Record} {pages : NMap RecPage} {opened : Option Nat} {rseq : Nat}
    {held : Pair (List Record)} (h : booked s = (queue, pages, opened, rseq, held)) : s.recd.queue = queue ∧
    s.recd.pages = pages ∧ s.recd.openPage = opened ∧ s.recd.rseq = rseq ∧ s.recd.held = held := by
  simpa only [booked, Prod.mk.injEq] using h

@[simp] theorem busErr_recd (l : Lane) (c : Core) (a : Nat) (fence : Bool) (s : State) :
    (busErr l c a fence s).recd = s.recd := by
  simp only [busErr, emit_frame]
  split <;> simp

/-- A synchronous drain writes how much a page had left to drain, and nothing else (R381). -/
theorem syncDrain_recd (s : State) : (syncDrain s).recd.queue = s.recd.queue ∧
    (syncDrain s).recd.held = s.recd.held ∧ (syncDrain s).recd.rseq = s.recd.rseq ∧
    (syncDrain s).recd.openPage = s.recd.openPage ∧ (syncDrain s).recd.sums = s.recd.sums := by
  unfold syncDrain
  split
  · split <;> exact ⟨rfl, rfl, rfl, rfl, rfl⟩
  · exact ⟨rfl, rfl, rfl, rfl, rfl⟩

/-- What a page holds, but for how much it had left to drain. -/
theorem syncDrain_pages (s : State) (p : Nat) :
    (mget (syncDrain s).recd.pages p).map (fun g => (g.records, g.maxSev, g.firstRseq)) =
      (mget s.recd.pages p).map (fun g => (g.records, g.maxSev, g.firstRseq)) := by
  unfold syncDrain
  split
  · split
    next k _ =>
      change (mget (mmod s.recd.pages k _) p).map _ = _
      by_cases same : p = k
      · rw [same, mget_mmod_same, Option.map_map]
        rfl
      · rw [mget_mmod_ne _ _ _ _ same]
    · rfl
  · rfl

/-- The record written last, read from what its page holds. -/
theorem lastRec_congr {s u : State} (openPage : u.recd.openPage = s.recd.openPage)
    (pages : ∀ p, (mget u.recd.pages p).map (fun g => (g.records, g.maxSev, g.firstRseq)) =
      (mget s.recd.pages p).map (fun g => (g.records, g.maxSev, g.firstRseq))) : lastRec u = lastRec s := by
  unfold lastRec
  rw [openPage]
  cases s.recd.openPage with
  | none => rfl
  | some p =>
    have same := pages p
    cases hu : mget u.recd.pages p <;> cases hs : mget s.recd.pages p <;> simp [hu, hs] at same ⊢
    rw [same.1]

theorem submitRec_queued {r : Record} {s : State} (worth : getN s 0xB0110 ≤ r.sev) (room : s.recd.queue.length < 256) :
    (submitRec r s).recd.queue = s.recd.queue ++ [r] ∧ (submitRec r s).recd.held = s.recd.held := by
  rw [submitRec, if_neg (by omega), if_neg (by omega)]
  obtain ⟨queue, held, -⟩ := syncDrain_recd { s with recd := { s.recd with queue := s.recd.queue ++ [r] } }
  exact ⟨queue, held⟩

theorem submitRec_sums (r : Record) (s : State) : (submitRec r s).recd.sums = s.recd.sums := by
  unfold submitRec
  split
  · rfl
  · split
    · simp
    · exact (syncDrain_recd _).2.2.2.2

theorem holdRecord_held {l : Lane} {r : Record} {s : State} (worth : getN s 0xB0110 ≤ r.sev)
    (room : (s.recd.held.get l).length < 64) :
    (holdRecord l r s).recd.queue = s.recd.queue ∧ (holdRecord l r s).recd.held.get l = s.recd.held.get l ++ [r] := by
  rw [holdRecord, if_neg (by omega), if_neg (by omega)]
  exact ⟨rfl, Pair.get_upd_same ..⟩

/-! ### Notices -/

theorem payToken_booked (sev : Nat) (s : State) : booked (payToken sev s) = booked s := by
  unfold payToken
  split <;> rfl

theorem sendOrDrop_booked (id : Nat) (b : Sub) (sev flags changes time : Nat) (body : Bytes) (s : State) :
    booked (sendOrDrop id b sev flags changes time body s) = booked s := by
  unfold sendOrDrop
  split
  · exact (congrArg (fun r : Recorder => (r.queue, r.pages, r.openPage, r.rseq, r.held)) (by simp)).trans
      (payToken_booked sev s)
  · simp [booked]

theorem noticeRec_booked (r : Record) (s : State) (p : Nat × Sub) : booked (noticeRec r s p) = booked s := by
  unfold noticeRec
  split
  · extract_lets w s1
    have noticed : booked (sendNotice p.1 p.2 0 1 (recLast r) 0 (.raw (recBytes r)) (decide (6 ≤ r.sev)) s1) = booked s := by
      simp only [booked, sendNotice_frame]
      exact payToken_booked r.sev s
    have folded : booked (cntUp 0xB0013 (setWin (foldRec r 1 w) s)) = booked s := by
      simp only [booked, cntUp_frame]
      rfl
    refine (apply_ite booked _ _ _).trans ?_
    rw [noticed, folded, ite_self]
  · rfl

theorem repeatNotice_booked (id : Nat) (b : Sub) (s : State) (g : Nat × Nat) : booked (repeatNotice id b s g) = booked s := by
  unfold repeatNotice
  split
  · rfl
  · extract_lets w
    split
    · rfl
    · split
      · exact sendOrDrop_booked ..
      · simp only [booked, cntUpAt_frame]
        rfl

theorem foldNotice_booked (s : State) (w : NoticeWin) : booked (foldNotice s w) = booked s := by
  unfold foldNotice
  split
  · rfl
  · split
    · rfl
    · exact sendOrDrop_booked ..

theorem repeatNotices_booked (s : State) (p : Nat × Sub) : booked (repeatNotices s p) = booked s := by
  unfold repeatNotices
  split
  · exact foldl_keeps (part := booked) (repeatNotice_booked p.1 p.2) ..
  · rfl

/-! ### The writing of a record -/

/-- The page that a log with no page opens (R378, R379). -/
def firstPage (r : Record) (s : State) : RecPage :=
  { pageSeq := (s.recd.pageSeq + 1) % 4294967296, firstRseq := r.rseq, maxSev := r.sev, drain := 0, records := [r] }

/-- A record is placed on page 0 of a log with no page (R378). -/
theorem placeRecord_first {r : Record} {s : State} (none : s.recd.pages = []) :
    (placeRecord r s).2 = true ∧
    booked (placeRecord r s).1 = (s.recd.queue, [(0, firstPage r s)], some 0, s.recd.rseq, s.recd.held) := by
  have unfit : fitsOpen r s = false := by
    unfold fitsOpen
    rw [none]
    split <;> rfl
  have first : claimPage r.sev s = some 0 := by
    rw [claimPage, none]
    rfl
  have opened : (openPageAt 0 s).recd = { s.recd with
      pages := [(0, { pageSeq := (s.recd.pageSeq + 1) % 4294967296, firstRseq := 0, maxSev := 0, drain := 0, records := [] })]
      openPage := some 0
      pageSeq := (s.recd.pageSeq + 1) % 4294967296 } := by
    simp [openPageAt, none, mset]
  have put : booked (putRecord r (openPageAt 0 s)) =
      (s.recd.queue, [(0, firstPage r s)], some 0, s.recd.rseq, s.recd.held) := by
    unfold putRecord
    rw [opened]
    simp [booked, firstPage, mmod, mget, mset]
  rw [placeRecord, if_neg (by rw [unfit]; exact Bool.false_ne_true), first]
  exact ⟨rfl, put⟩

/-- The first record of a log with no page stands alone on page 0, with the next RSEQ (R374, R378, R379). -/
theorem newRecord_first {r : Record} {s : State} (none : s.recd.pages = []) :
    booked (writeRecord.newRecord r s) = (s.recd.queue, [(0, firstPage { r with rseq := nextRseq s } s)], some 0,
      nextRseq s, s.recd.held) := by
  unfold writeRecord.newRecord
  extract_lets n r1 recd s1
  obtain ⟨ok, placed⟩ := placeRecord_first (r := r1) (s := s1) none
  generalize placeRecord r1 s1 = v at ok placed
  obtain ⟨v, b⟩ := v
  obtain rfl : b = true := ok
  exact (foldl_keeps (part := booked) (noticeRec_booked r1) ..).trans placed

/-- The engine has taken the oldest submission of the queue (R376). -/
def queued (q : List Record) (s : State) : State := { s with recd := { s.recd with queue := q } }

theorem recordWrite_takes {t : Nat} {r : Record} {q : List Record} {s : State} (queue : s.recd.queue = r :: q) :
    exec (.recordWrite t) s = done (tick t s) (syncDrain (writeRecord r (queued q (tick t s)))) := by
  change execRecordWrite t s = _
  simp only [execRecordWrite, tick_frame, queue]
  rfl

/-- A repeat counts at the last record of the open page (R377). -/
theorem writeRecord_repeat {r b : Record} {p : Nat} {s : State} (opened : s.recd.openPage = some p) (last : lastRec s = some b)
    (same : sameRecord r b = true) :
    (writeRecord r s).recd.queue = s.recd.queue ∧ (writeRecord r s).recd.rseq = s.recd.rseq ∧
    (writeRecord r s).recd.openPage = s.recd.openPage ∧
    lastRec (writeRecord r s) = some { b with rep := b.rep + 1, lastMs := min ((r.time - b.time) * 1000 / 16777216) 4294967295 } := by
  obtain ⟨g, page, ends⟩ : ∃ g, mget s.recd.pages p = some g ∧ g.records.getLast? = some b := by
    simp only [lastRec, opened] at last
    split at last
    · cases last
    next g page => exact ⟨g, page, last⟩
  unfold writeRecord
  rw [last]
  dsimp only
  rw [if_pos same]
  refine ⟨rfl, rfl, rfl, ?_⟩
  simp [lastRec, opened, mget_mmod_same, page]

/-! ### The summaries -/

/-- The next interval of an hour, a day or a quarter starts by TAI. -/
theorem sumStart_congr {s u : State} (clk : u.clk.now = s.clk.now) (interval : Nat) (part : Bool) :
    sumStart u interval part = sumStart s interval part := by
  unfold sumStart taiSec
  rw [tai_congr clk]

/-- The end of an interval writes no configuration of a summary, and leaves the clock. -/
theorem sumEnd_basis {r : Nat} (small : r < 16) (interval : Nat) (s : State) (q : Nat) :
    getRow (sumEnd interval s q) 0xB0120 r = getRow s 0xB0120 r ∧ (sumEnd interval s q).clk = s.clk := by
  unfold sumEnd
  extract_lets c
  split
  · split
    · exact ⟨rfl, rfl⟩
    next x _ =>
      split
      · exact ⟨rfl, rfl⟩
      · extract_lets s1 m
        have row : RowsKept [0xB0011] s s1 := by
          unfold s1
          split
          · exact .of_dict rfl
          · exact .of_same (submitRec_sameRows (r := sumRecord s q x) (by decide : 1 < 4294967296) s)
        have clk : s1.clk = s.clk := by
          unfold s1
          split <;> simp
        exact ⟨row.getRow (by decide) (by decide) (Nat.lt_of_lt_of_le small (by decide)), clk⟩
  · exact ⟨rfl, rfl⟩

/-- A summary of another row stays. -/
theorem sumEnd_other {interval q r : Nat} (other : r ≠ q) (s : State) :
    mget (sumEnd interval s q).recd.sums r = mget s.recd.sums r := by
  unfold sumEnd
  extract_lets c
  split
  · split
    · rfl
    next x _ =>
      split
      · rfl
      · extract_lets s1 m
        have sums : s1.recd.sums = s.recd.sums := by
          unfold s1
          split
          · rfl
          · exact submitRec_sums ..
        exact (mget_mset_ne _ _ _ _ other).trans (congrArg (mget · r) sums)
  · rfl

/-- A summary whose interval has ended begins anew (R383). -/
theorem sumEnd_anew {interval r : Nat} {x : Summary} {s : State} (on : getC s 0xB0120 r 1 ≠ 0)
    (mine : getC s 0xB0120 r 2 = interval) (stands : mget s.recd.sums r = some x)
    (ended : (sumStart s interval false).start ≠ x.start) :
    ∃ b, mget (sumEnd interval s r).recd.sums r = some (sumStart s interval b) := by
  unfold sumEnd
  extract_lets c
  rw [if_pos ⟨on, mine⟩]
  split
  next none => cases none.symm.trans stands
  next y stood =>
    obtain rfl := Option.some.inj (stood.symm.trans stands)
    rw [if_neg ended]
    extract_lets s1 m
    have clk : s1.clk = s.clk := by
      unfold s1
      split <;> simp
    exact ⟨_, (mget_mset_same ..).trans (congrArg some (sumStart_congr (congrArg Clock.now clk) ..))⟩

/-- A summary that begins its interval stays. -/
theorem sumEnd_begun {interval r : Nat} {x : Summary} {s : State} (stands : mget s.recd.sums r = some x)
    (begun : (sumStart s interval false).start = x.start) : sumEnd interval s r = s := by
  unfold sumEnd
  extract_lets c
  split
  · rw [stands]
    exact if_pos begun
  · rfl

/-- The summary of a row has begun anew since `s`. -/
def Begun (interval r : Nat) (s u : State) : Prop := ∃ b, mget u.recd.sums r = some (sumStart s interval b)

/-- A row's summary as the walk over the rows has it: not reached yet, or begun anew. -/
structure SumAt (interval r : Nat) (x : Summary) (s u : State) : Prop where
  row : getRow u 0xB0120 r = getRow s 0xB0120 r
  clk : u.clk = s.clk
  sum : mget u.recd.sums r = some x ∨ Begun interval r s u

section
variable {interval r : Nat} {x : Summary} {s : State} (small : r < 16) (on : getC s 0xB0120 r 1 ≠ 0)
  (mine : getC s 0xB0120 r 2 = interval) (ended : (sumStart s interval false).start ≠ x.start)
include on mine ended

/-- The walk begins a summary at its row. -/
theorem sumEnd_begins {u : State} (h : SumAt interval r x s u) : Begun interval r s (sumEnd interval u r) := by
  have begins (b : Bool) : sumStart u interval b = sumStart s interval b := sumStart_congr (congrArg Clock.now h.clk) ..
  rcases h.sum with before | ⟨b, begun⟩
  · obtain ⟨b, anew⟩ := sumEnd_anew (s := u) (interval := interval) (by rwa [getC, h.row]) (by rwa [getC, h.row]) before
      (by rwa [begins])
    exact ⟨b, anew.trans (congrArg some (begins b))⟩
  · rw [sumEnd_begun begun ((congrArg Summary.start (begins false)).trans rfl)]
    exact ⟨b, begun⟩

theorem sumEnd_keeps_begun {u : State} (h : SumAt interval r x s u) (q : Nat) (begun : Begun interval r s u) :
    Begun interval r s (sumEnd interval u q) := by
  by_cases same : r = q
  · subst same
    exact sumEnd_begins on mine ended h
  · obtain ⟨b, begun⟩ := begun
    exact ⟨b, (sumEnd_other same u).trans begun⟩

include small

theorem sumEnd_sumAt {u : State} (h : SumAt interval r x s u) (q : Nat) : SumAt interval r x s (sumEnd interval u q) := by
  obtain ⟨row, clk⟩ := sumEnd_basis small interval u q
  refine ⟨row.trans h.row, clk.trans h.clk, ?_⟩
  by_cases same : r = q
  · subst same
    exact .inr (sumEnd_begins on mine ended h)
  · rcases h.sum with before | begun
    · exact .inl ((sumEnd_other same u).trans before)
    · exact .inr (sumEnd_keeps_begun on mine ended h q begun)

/-- The walk over the rows begins the summary of each row it comes by anew (R383). -/
theorem sumEnd_walk (l : List Nat) : ∀ u, SumAt interval r x s u → Begun interval r s u ∨ r ∈ l →
    Begun interval r s (l.foldl (sumEnd interval) u) := by
  induction l with
  | nil => exact fun u _ h => h.resolve_right List.not_mem_nil
  | cons q l ih =>
    intro u at_u h
    refine ih _ (sumEnd_sumAt small on mine ended at_u q) ?_
    rcases h with begun | mem
    · exact .inl (sumEnd_keeps_begun on mine ended at_u q begun)
    · rcases List.mem_cons.1 mem with rfl | later
      · exact .inl (sumEnd_begins on mine ended at_u)
      · exact .inr later

end

/-- Settles O50: it holds. -/
theorem recorderWrites : Obligations.RecorderWrites := by
  unfold Obligations.RecorderWrites
  refine ⟨?queued, ?held, ?policy, ?first, ?again, ?window, ?interval, ?read⟩
  case queued =>
    intro t l c r s core runs role worth room
    have he : exec (.recordSubmit t l c r) s = done (tick t s) (submitRec (submitted l r (tick t s)) (tick t s)) :=
      (if_neg (ne_true_of_eq_false core)).trans ((if_neg (ne_true_of_eq_false (congrArg (!·) runs))).trans (if_neg role))
    refine runs_final he fun u hu => ?_
    rw [hu.recd]
    exact submitRec_queued (r := submitted l r (tick t s)) (s := tick t s) worth room
  case held =>
    intro t l c r s core runs role worth room
    have he : exec (.recordSubmit t l c r) s = done (tick t s) (holdRecord l (submitted l r (tick t s)) (tick t s)) :=
      (if_neg (ne_true_of_eq_false core)).trans ((if_neg (ne_true_of_eq_false (congrArg (!·) runs))).trans (if_pos role))
    refine runs_final he fun u hu => ?_
    rw [hu.recd]
    exact holdRecord_held (r := submitted l r (tick t s)) (s := tick t s) worth room
  case policy =>
    intro t l c r s core
    refine runs_final (if_pos core) fun u hu => ⟨?_, hu.sent _ (busErr_sent ..)⟩
    rw [hu.recd, busErr_recd]
    rfl
  case first =>
    intro t r q s queue last pages
    have he : exec (.recordWrite t) s = done (tick t s) (syncDrain (writeRecord.newRecord r (queued q (tick t s)))) := by
      rw [recordWrite_takes queue, writeRecord]
      rw [show lastRec (queued q (tick t s)) = none from last]
    have written := newRecord_first (r := r) (s := queued q (tick t s)) pages
    refine runs_final he fun u hu => ?_
    obtain ⟨drained, -, rseq, opened, -⟩ := syncDrain_recd (writeRecord.newRecord r (queued q (tick t s)))
    have page := syncDrain_pages (writeRecord.newRecord r (queued q (tick t s))) 0
    obtain ⟨queue, pages, opens, next, -⟩ := booked_eq written
    rw [hu.recd, drained, rseq, opened, page, queue, pages, opens, next]
    exact ⟨rfl, rfl, rfl, rfl⟩
  case again =>
    intro t p r b q s queue opened last same given
    obtain ⟨taken, rseq, opens, repeats⟩ := writeRecord_repeat (s := queued q (tick t s)) opened last same
    refine runs_final (recordWrite_takes queue) fun u hu => ?_
    obtain ⟨drained, -, next, stays, -⟩ := syncDrain_recd (writeRecord r (queued q (tick t s)))
    rw [show lastRec u = _ from lastRec_congr (congrArg Recorder.openPage hu.recd) fun p => by rw [hu.recd],
      lastRec_congr stays (syncDrain_pages _), hu.recd, drained, next, stays]
    exact ⟨taken, rseq, opens, repeats⟩
  case window =>
    intro t s
    refine runs_final (s0 := tick t s) rfl fun u hu => ?_
    have repeated := foldl_keeps (part := booked) repeatNotices_booked (refillTokens (tick t s)).ib.subs
      (refillTokens (tick t s))
    generalize (refillTokens (tick t s)).ib.subs.foldl repeatNotices (refillTokens (tick t s)) = v at repeated hu
    have kept := (foldl_keeps (part := booked) foldNotice_booked v.recd.wins v).trans repeated
    obtain ⟨-, pages, -, rseq, -⟩ := booked_eq kept
    rw [hu.recd]
    exact ⟨rfl, rfl, pages, rseq⟩
  case interval =>
    intro t r k x s small on mine stands ended
    refine runs_final (s0 := tick t s) rfl fun u hu => ?_
    obtain ⟨b, begun⟩ := sumEnd_walk (s := tick t s) small on mine ended (List.range 16) (tick t s)
      ⟨rfl, rfl, .inl stands⟩ (.inr (List.mem_range.2 small))
    rw [hu.recd, begun]
    rfl
  case read =>
    intro t sid h args s hp
    refine runs_executed hp rfl rfl (live_of_passes hp) fun u hu => ⟨hu.answered, ?_⟩
    rw [hu.recd]
    rfl

end Sys2Proof.Machine
end

section
/-!
PROOFS. Interrupt claims (chapter 15): sources become pending, are claimed by their own core, completed, and dropped by a reset.
-/
namespace Sys2Proof.Machine

open Sys2Proof.Safety

/-! ### Targets of an interrupt controller -/

/-- A target of an interrupt controller. -/
def icuTarget (u : Icu) (tn : Nat) : IcuTarget := lget u.targets tn IcuTarget.init

theorem icuTarget_modTarget {tn : Nat} {u : Icu} (h : tn < u.targets.length) (f : IcuTarget → IcuTarget) :
    icuTarget (modTarget tn f u) tn = f (icuTarget u tn) := lget_lmod_same _ _ _ _ h

@[simp] theorem icuSrc_modTarget (tn n : Nat) (f : IcuTarget → IcuTarget) (u : Icu) :
    icuSrc (modTarget tn f u) n = icuSrc u n := rfl

@[simp] theorem icuMod_targets (n : Nat) (f : IcuSrc → IcuSrc) (u : Icu) : (icuMod n f u).targets = u.targets := rfl

@[simp] theorem icuStuckSync_lanes (detail : Nat) (s : State) : (icuStuckSync detail s).lanes = s.lanes := by
  simp [icuStuckSync]

theorem updIcu_icu_other (l : Lane) (f : Icu → Icu) (s : State) :
    ((updIcu l f s).lanes.get (otherLane l)).icu = (s.lanes.get (otherLane l)).icu := by
  cases l <;> rfl

/-- An edge makes its source pending, or merges with one that is (R391). -/
theorem icuSrc_icuEdge_same {u : Icu} (h : u.stopped = false) (now n : Nat) : icuSrc (icuEdge now n u) n =
    if (icuSrc u n).pending then { icuSrc u n with merged := min ((icuSrc u n).merged + 1) 65535 }
    else { icuSrc u n with pending := true, since := now } := by
  rw [icuEdge, if_neg (ne_true_of_eq_false h), icuSrc_icuMod_same]
  rfl

/-- A claim makes its source active at its target (R394). -/
theorem claimTake_reads {tn : Nat} {u : Icu} (h : tn < u.targets.length) (now : Nat) (w : Nat × Nat × Bool) :
    (icuSrc (claimTake now tn w u) w.2.1).active = some tn ∧ (icuSrc (claimTake now tn w u) w.2.1).pending = false ∧
    (icuTarget (claimTake now tn w u) tn).stack = (w.2.1, w.1) :: (icuTarget u tn).stack := by
  unfold claimTake
  extract_lets taken
  rw [icuSrc_modTarget, icuTarget_modTarget (u := taken) h, icuSrc_icuMod_same]
  exact ⟨rfl, rfl, rfl⟩

/-- A core reset empties its target's stack and marks the drop (R404). -/
theorem dropClaims_target {tn : Nat} {u : Icu} (h : tn < u.targets.length) (now : Nat) :
    (icuTarget (dropClaims now tn u) tn).stack = [] ∧ (icuTarget (dropClaims now tn u) tn).resetDrop = true := by
  unfold dropClaims
  extract_lets freed
  have same : freed.targets = u.targets := 
    List.foldlRecOn (motive := fun v : Icu => v.targets = u.targets) _ _ rfl fun _ h _ _ => h
  rw [icuTarget_modTarget (by rwa [same])]
  exact ⟨rfl, rfl⟩

/-! ### Claims -/

theorem icuClaim_own {t : Nat} {l : Lane} {c : Core} {tn : Fin 7} {s : State} (own : coreNo c = tn.val) :
    exec (.icuClaim t l c tn) s = done (tick t s) (claimRead l c tn.val (tick t s)) := if_pos (beq_iff_eq.2 own)

theorem icuComplete_own {t n : Nat} {l : Lane} {c : Core} {tn : Fin 7} {s : State} (own : coreNo c = tn.val) (small : n < 512) :
    exec (.icuComplete t l c tn n) s = done (tick t s) (completeEff l tn.val n (tick t s)) :=
  (if_pos (beq_iff_eq.2 own)).trans (by rw [Nat.mod_eq_of_lt small])

theorem claimRead_taken {l : Lane} {c : Core} {tn : Nat} {w : Nat × Nat × Bool} {s : State}
    (best : ∀ b, icuBest (icuPresented s.clk.fab b (s.lanes.get l).icu tn (icuTarget (s.lanes.get l).icu tn)) = some w) :
    claimRead l c tn s = emit (.regData l c (icuTargetAddr tn 4) (claimWord (some w)))
      (updIcu l (claimTake s.clk.fab tn w) (draw s)) := by
  unfold claimRead
  extract_lets addr u late v
  rw [show v = some w from best late]
  rfl

theorem claimRead_none {l : Lane} {c : Core} {tn : Nat} {s : State}
    (best : ∀ b, icuBest (icuPresented s.clk.fab b (s.lanes.get l).icu tn (icuTarget (s.lanes.get l).icu tn)) = none) :
    claimRead l c tn s = emit (.regData l c (icuTargetAddr tn 4) (claimWord none))
      (updIcu l (modTarget tn (fun x => { x with none_ := x.none_ + 1 })) (draw s)) := by
  unfold claimRead
  extract_lets addr u late v
  rw [show v = none from best late]

/-- Settles O51: it holds. -/
theorem interruptClaims : Obligations.InterruptClaims := by
  unfold Obligations.InterruptClaims
  refine ⟨?edge, ?level, ?claim, ?none, ?other, ?complete, ?stray, ?stuck, ?core, ?lane⟩
  case edge =>
    intro t l n b s edge runs
    refine runs_final (s0 := tick t s) rfl fun u hu => ?_
    rw [hu.icu, hu.icu, updIcu_icu, updIcu_icu_other, if_neg (ne_true_of_eq_false edge)]
    exact ⟨icuSrc_icuEdge_same runs .., rfl⟩
  case level =>
    intro t l n b s level
    refine runs_final (s0 := tick t s) rfl fun u hu => ?_
    rw [hu.icu, updIcu_icu, if_pos level, icuSetLine, icuSrc_icuMod_same]
    exact ⟨rfl, rfl, rfl⟩
  case claim =>
    intro t p n lt l c tn s own seven best
    refine runs_final (icuClaim_own own) fun u hu => ?_
    rw [claimRead_taken (s := tick t s) best] at hu
    obtain ⟨active, pending, stack⟩ := claimTake_reads (u := (s.lanes.get l).icu) (by rw [seven]; exact tn.isLt)
      (tick t s).clk.fab (p, n, lt)
    rw [hu.icu, (emit_regData ..).1, updIcu_icu]
    exact ⟨active, pending, stack, hu.sent _ (emit_regData ..).2⟩
  case none =>
    intro t l c tn s own seven best
    refine runs_final (icuClaim_own own) fun u hu => ?_
    rw [claimRead_none (s := tick t s) best] at hu
    rw [hu.icu, (emit_regData ..).1, updIcu_icu]
    exact ⟨icuTarget_modTarget (u := (s.lanes.get l).icu) (by rw [seven]; exact tn.isLt) _, hu.sent _ (emit_regData ..).2⟩
  case other =>
    intro t l c tn s other
    have other : ¬ownsTarget c tn.val = true := fun own => other (beq_iff_eq.1 own)
    refine runs_final (s0 := tick t s) (if_neg other) fun u hu => ?_
    rw [hu.icu, busErr_lanes]
    exact ⟨rfl, hu.sent _ (busErr_sent ..)⟩
  case complete =>
    intro t n l c tn s own small seven active
    refine runs_final ((icuComplete_own own small).trans (congrArg (done (tick t s)) (if_pos active))) fun u hu => ?_
    rw [hu.icu, icuStuckSync_lanes, updIcu_icu, icuSrc_modTarget, icuSrc_icuMod_same]
    have target := icuTarget_modTarget (u := icuMod n (fun x => { x with
        active := Option.none, unread := false, since := if icuLevel n then (tick t s).clk.fab else x.since }) (s.lanes.get l).icu)
      (by rw [icuMod_targets, seven]; exact tn.isLt) fun x => { x with
        stack := x.stack.filter (fun e => e.1 != n)
        stuck := if (x.stack.filter (fun e => e.1 != n)).isEmpty then false else x.stuck }
    exact ⟨rfl, (congrArg IcuTarget.stack target :), (congrArg IcuTarget.stray target :)⟩
  case stray =>
    intro t n l c tn s own small seven inactive
    refine runs_final ((icuComplete_own own small).trans (congrArg (done (tick t s)) (if_neg inactive))) fun u hu => ?_
    rw [hu.icu, hu.dict, (stickySet_frame ..).2.2.2.2.2.2.2.2.2.1, updIcu_icu]
    exact ⟨icuTarget_modTarget (u := (s.lanes.get l).icu) (by rw [seven]; exact tn.isLt) _,
      stickySet_getLsbD_same (by decide) _ _⟩
  case stuck =>
    intro t l tn s seven stack since
    have late : (!(icuTarget ((tick t s).lanes.get l).icu tn.val).stack.isEmpty &&
        decide ((icuTarget ((tick t s).lanes.get l).icu tn.val).since + 100 * Config.msCycles ≤ (tick t s).clk.fab)) = true :=
      Bool.and_eq_true_iff.2 ⟨by simpa [icuTarget] using stack, decide_eq_true since⟩
    refine runs_final (if_pos late) fun u hu => ?_
    rw [hu.icu, icuStuckSync_lanes, updIcu_icu]
    have target := icuTarget_modTarget (u := (s.lanes.get l).icu) (by rw [seven]; exact tn.isLt)
      fun x => { x with stuck := true }
    exact ⟨(congrArg IcuTarget.stuck target :), (congrArg IcuTarget.stack target :)⟩
  case core =>
    intro t l c s seven
    refine runs_final (s0 := tick t s) rfl fun u hu => ?_
    obtain ⟨stack, drop⟩ := dropClaims_target (u := (s.lanes.get l).icu) (tn := coreNo c) (by rw [seven]; cases c <;> decide)
      (tick t s).clk.fab
    rw [hu.icu, hu.sems, icuStuckSync_lanes, apply_ite State.lanes, ite_self]
    have freed : (((s.lanes.get l).sems.map fun h => if h = coreNo c + 1 then 0 else h).contains (coreNo c + 1)) = false := by
      simp only [List.contains_eq_mem, List.mem_map, decide_eq_false_iff_not]
      rintro ⟨h, -, eq⟩
      split at eq <;> omega
    cases l
    · exact ⟨stack, drop, freed⟩
    · exact ⟨stack, drop, freed⟩
  case lane =>
    intro t l s
    refine runs_final (s0 := tick t s) rfl fun u hu => ?_
    have still : (u.lanes.get l).still = (resetLaneSt (tick t s).clk.fab (time64 (tick t s)) (s.lanes.get l)).still := by
      refine (still_of_bare hu.bare l).trans ?_
      rw [icuStuckSync_lanes]
      exact restartLane_same l (tick t s)
    exact ⟨(congrArg LaneSt.role still :), (congrArg LaneSt.report still :), (congrArg LaneSt.sems still :),
      (congrArg (fun x => x.vault.root) still :)⟩

end Sys2Proof.Machine
end

section
/-!
PROOFS. The Gour arbiters (chapter 16): requests, grants, withdrawals and windows.
-/
namespace Sys2Proof.Machine

open Sys2Proof.Safety

/-! ### Requesters -/

@[simp] theorem reqOf_modReq_same (a r : Nat) (f : GReq → GReq) (b : Arb) : reqOf a (modReq a r f b) r = f (reqOf a b r) :=
  mgetD_mset_same ..

theorem reqOf_modReq_ne {a r n : Nat} (h : n ≠ r) (f : GReq → GReq) (b : Arb) :
    reqOf a (modReq a r f b) n = reqOf a b n := mgetD_mset_ne _ _ _ _ _ h

theorem arbOf_updArb (l : Lane) (a : Nat) (f : Arb → Arb) (s : State) :
    arbOf ((updArb l a f s).lanes.get l) a = f (arbOf (s.lanes.get l) a) := by
  rw [updArb, updLane, Pair.get_upd_same]
  exact mgetD_mset_same ..

theorem OnlySends.arb {v u : State} (h : OnlySends v u) (l : Lane) (a : Nat) :
    arbOf (u.lanes.get l) a = arbOf (v.lanes.get l) a := by
  rw [h.lanes l]
  rfl

/-- The faults of an arbitration change no arbiter. -/
theorem gourFaults_arb (l : Lane) (a r : Nat) (before : Arb) (s : State) (n : Nat) :
    arbOf ((gourFaults l a r before s).lanes.get l) n = arbOf (s.lanes.get l) n := by
  unfold gourFaults
  extract_lets b s1 s2
  have first : s1.lanes = s.lanes := by unfold s1; split <;> simp
  have second : s2.lanes = s1.lanes := by unfold s2; split <;> simp
  have same (x : State) : arbOf ((gourAlarmLine l x).lanes.get l) n = arbOf (x.lanes.get l) n := by
    rw [gourAlarmLine, updIcu, updLane, Pair.get_upd_same]
    rfl
  rw [same, second, first]

/-! ### Rounds and windows -/

/-- A requester loses a round unless it won it or asks for nothing (R411). -/
def loseOne (a w n : Nat) (b : Arb) : Arb :=
  let q := reqOf a b n
  if n = w ∨ q.waiting.isEmpty then b
  else
    let b := modReq a n (fun q => { q with waits := sat32 (q.waits + 1) }) b
    if q.waiting.all (fun e => e.2.2) then b
    else if 8 ≤ parkedOf q then b
    else if 32 ≤ parkedAll b then { b with pendFull := true, pendFullN := sat32 (b.pendFullN + 1) }
    else modReq a n (fun q => { q with waiting := q.waiting.map (fun e => (e.1, e.2.1, true)) }) b

theorem loseRound_succ (a w n : Nat) (b : Arb) : loseRound a w (n + 1) b = loseRound a w n (loseOne a w n b) := rfl

theorem loseOne_winner (a w n : Nat) (b : Arb) :
    reqOf a (loseOne a w n b) w = reqOf a b w ∧ (loseOne a w n b).holding = b.holding := by
  unfold loseOne
  extract_lets q b1
  split
  · exact ⟨rfl, rfl⟩
  next loses =>
    have other : w ≠ n := fun same => loses (.inl same.symm)
    have waits : reqOf a b1 w = reqOf a b w := reqOf_modReq_ne other ..
    split
    · exact ⟨waits, rfl⟩
    · split
      · exact ⟨waits, rfl⟩
      · split
        · exact ⟨waits, rfl⟩
        · exact ⟨(reqOf_modReq_ne other ..).trans waits, rfl⟩

/-- A round that the other requesters lose changes neither the winner nor what is held (R411). -/
theorem loseRound_winner (a w n : Nat) (b : Arb) :
    reqOf a (loseRound a w n b) w = reqOf a b w ∧ (loseRound a w n b).holding = b.holding := by
  induction n generalizing b with
  | zero => exact ⟨rfl, rfl⟩
  | succ n ih =>
    rw [loseRound_succ]
    obtain ⟨req, held⟩ := loseOne_winner a w n b
    exact ⟨(ih _).1.trans req, (ih _).2.trans held⟩

/-- A window starts once for each requester below `n` (R408). -/
theorem windowAll_req (a n r : Nat) (b : Arb) :
    reqOf a (windowAll a n b) r = if r < n then windowCredit a (reqOf a b r) else reqOf a b r := by
  induction n generalizing b with
  | zero => rfl
  | succ n ih =>
    rw [windowAll, ih]
    by_cases last : r = n
    · subst last
      simp
    · rw [reqOf_modReq_ne last]
      by_cases below : r < n
      · rw [if_pos below, if_pos (by omega)]
      · rw [if_neg below, if_neg (by omega)]

/-- A pair whose partners were both granted starts its window (R413). -/
def pairWindow (a p : Nat) (b : Arb) : Arb :=
  if b.granted.contains p && b.granted.contains (p + 1) then
    { modReq a p (windowCredit a) (modReq a (p + 1) (windowCredit a) b) with
      granted := b.granted.filter (fun x => x != p && x != p + 1) }
  else b

theorem windowPairs_succ (a n : Nat) (b : Arb) : windowPairs a (n + 1) b = windowPairs a n (pairWindow a (2 * n) b) := rfl

/-- A pair's window neither grants nor spends. -/
theorem pairWindow_keeps (a p r : Nat) (b : Arb) :
    ((reqOf a b r).used = 0 → (reqOf a (pairWindow a p b) r).used = 0) ∧
    (b.granted.contains r = false → (pairWindow a p b).granted.contains r = false) := by
  unfold pairWindow
  split
  · refine ⟨fun h => ?_, fun h => ?_⟩
    · change (reqOf a (modReq a p (windowCredit a) (modReq a (p + 1) (windowCredit a) b)) r).used = 0
      by_cases first : r = p
      · rw [first, reqOf_modReq_same]
        rfl
      · rw [reqOf_modReq_ne first]
        by_cases second : r = p + 1
        · rw [second, reqOf_modReq_same]
          rfl
        · rwa [reqOf_modReq_ne second]
    · simp only [List.contains_eq_mem, decide_eq_false_iff_not, List.mem_filter] at h ⊢
      exact fun mem => h mem.1
  · exact ⟨id, id⟩

theorem windowPairs_keeps (a n r : Nat) (b : Arb) :
    ((reqOf a b r).used = 0 → (reqOf a (windowPairs a n b) r).used = 0) ∧
    (b.granted.contains r = false → (windowPairs a n b).granted.contains r = false) := by
  induction n generalizing b with
  | zero => exact ⟨id, id⟩
  | succ n ih =>
    rw [windowPairs_succ]
    obtain ⟨used, granted⟩ := pairWindow_keeps a (2 * n) r b
    exact ⟨fun h => (ih _).1 (used h), fun h => (ih _).2 (granted h)⟩

/-- The window of another pair leaves a pair's grants. -/
theorem pairWindow_granted_ne {p r : Nat} (first : r ≠ p) (second : r ≠ p + 1) (a : Nat) (b : Arb) :
    (pairWindow a p b).granted.contains r = b.granted.contains r := by
  unfold pairWindow
  split
  · simp [List.contains_eq_mem, first, second]
  · rfl

theorem windowPairs_pair {a n p : Nat} (h : p < n) {b : Arb} (first : b.granted.contains (2 * p) = true)
    (second : b.granted.contains (2 * p + 1) = true) :
    (reqOf a (windowPairs a n b) (2 * p)).used = 0 ∧ (windowPairs a n b).granted.contains (2 * p) = false ∧
    (windowPairs a n b).granted.contains (2 * p + 1) = false := by
  induction n generalizing b with
  | zero => omega
  | succ n ih =>
    rw [windowPairs_succ]
    by_cases last : p = n
    · subst last
      have started : pairWindow a (2 * p) b = { modReq a (2 * p) (windowCredit a) (modReq a (2 * p + 1) (windowCredit a) b) with
          granted := b.granted.filter (fun x => x != 2 * p && x != 2 * p + 1) } := if_pos (by rw [first, second]; rfl)
      refine ⟨(windowPairs_keeps ..).1 ?_, (windowPairs_keeps ..).2 ?_, (windowPairs_keeps ..).2 ?_⟩
      · rw [started]
        exact congrArg GReq.used (reqOf_modReq_same ..)
      · simp [started, List.contains_eq_mem]
      · simp [started, List.contains_eq_mem]
    · refine ih (by omega) ?_ ?_
      · rwa [pairWindow_granted_ne (by omega) (by omega)]
      · rwa [pairWindow_granted_ne (by omega) (by omega)]

/-- A grant takes the winner's oldest request, at its cost (R408). -/
theorem gourTake_reads {a r at_ cost : Nat} {pk : Bool} {rest : List (Nat × Nat × Bool)} {b : Arb}
    (waiting : (reqOf a b r).waiting = (at_, cost, pk) :: rest) (now : Nat) :
    (∃ longest, reqOf a (gourTake a r now b) r = { reqOf a b r with
      waiting := rest, credit := (reqOf a b r).credit - cost, used := (reqOf a b r).used + cost
      grants := sat32 ((reqOf a b r).grants + 1), longest := longest }) ∧
    (gourTake a r now b).holding = some (r, cost, (reqOf a b r).credit) := by
  unfold gourTake
  extract_lets q
  rw [show q.waiting = _ from waiting]
  exact ⟨⟨sat32 (max (reqOf a b r).longest (waitUnits a (now - at_))), mgetD_mset_same ..⟩, rfl⟩

/-- A REFILL write that its checks let through waits for the next window (R410, R416). -/
theorem refillWrite_taken {l : Lane} {c : Core} {a r v : Nat} {s : State} (core : isPolicy c = false) (exists_ : r < arbReqs a)
    (fits : arbKind a = 0 → refillSum a r (v % 256) (arbOf (s.lanes.get l) a) ≤ arbCapacity a) :
    refillWrite l c a r v s = updArb l a (modReq a r (fun q => { q with next := v % 256 })) s := by
  unfold refillWrite
  extract_lets b
  rw [if_neg (ne_true_of_eq_false core), if_neg (Nat.not_le.2 exists_),
    if_neg fun h => absurd (fits h.1) (Nat.not_le.2 h.2)]

/-- A REFILL write that fails a check is a bus error (R416). -/
theorem refillWrite_refused {l : Lane} {c : Core} {a r v : Nat} {s : State} (refused : isPolicy c = true ∨ arbReqs a ≤ r ∨
    (arbKind a = 0 ∧ arbCapacity a < refillSum a r (v % 256) (arbOf (s.lanes.get l) a))) :
    ∃ fence, refillWrite l c a r v s = busErr l c (rcfgAddr a r) fence s := by
  unfold refillWrite
  extract_lets b
  by_cases policy : isPolicy c = true
  · exact ⟨_, if_pos policy⟩
  · rw [if_neg policy]
    by_cases none : arbReqs a ≤ r
    · exact ⟨_, if_pos none⟩
    · rw [if_neg none]
      exact ⟨_, if_pos ((refused.resolve_left policy).resolve_left none)⟩

/-- Settles O53: it holds. -/
theorem gourArbiters : Obligations.GourArbiters := by
  unfold Obligations.GourArbiters
  refine ⟨?request, ?grant, ?withdraw, ?window, ?pair, ?refill, ?refused⟩
  case request =>
    intro t cost l a r s exists_ door
    refine runs_final (s0 := tick t s) (if_pos ⟨exists_, door⟩) fun u hu => ?_
    rw [hu.arb, arbOf_updArb, reqOf_modReq_same]
    exact ⟨rfl, rfl⟩
  case grant =>
    intro t r cr at_ cost rest pk l a s wins waiting
    have he : exec (.gourGrant t l a) s = done (tick t s) (gourFaults l a.val r (arbOf (s.lanes.get l) a.val)
        (updArb l a.val (fun b => waitAlarmed a.val (tick t s).clk.fab (loseRound a.val r 16
          (gourTake a.val r (tick t s).clk.fab b))) (draw (tick t s)))) := by
      change execGourGrant t l a s = _
      unfold execGourGrant
      extract_lets s0 b first
      rw [show gourWinner a.val first b = some (cr, r) from wins first]
      rfl
    refine runs_final he fun u hu => ?_
    obtain ⟨⟨longest, req⟩, held⟩ := gourTake_reads waiting (tick t s).clk.fab
    obtain ⟨won, holding⟩ := loseRound_winner a.val r 16 (gourTake a.val r (tick t s).clk.fab (arbOf (s.lanes.get l) a.val))
    have arb : arbOf (u.lanes.get l) a.val = waitAlarmed a.val (tick t s).clk.fab (loseRound a.val r 16
        (gourTake a.val r (tick t s).clk.fab (arbOf (s.lanes.get l) a.val))) := by
      rw [hu.arb, gourFaults_arb, arbOf_updArb]
      rfl
    have same : reqOf a.val (arbOf (u.lanes.get l) a.val) r = _ := (congrArg (reqOf a.val · r) arb).trans (won.trans req)
    rw [same, arb]
    exact ⟨rfl, rfl, rfl, rfl, holding.trans held⟩
  case withdraw =>
    intro t cost cr b l a r s holding
    have he : exec (.gourWithdraw t l a r b) s = done (tick t s) (updArb l a.val (withdrawGrant a.val r.val cost cr
        (arbKind a.val == 0 || (arbKind a.val == 1 && b))) (tick t s)) := by
      change execGourWithdraw t l a r b s = _
      unfold execGourWithdraw
      simp only [tick_frame, holding]
      exact if_pos trivial
    refine runs_final he fun u hu => ?_
    rw [hu.arb, arbOf_updArb]
    have req := reqOf_modReq_same a.val r.val (fun q => { q with
      withdrawn := sat32 (q.withdrawn + 1), credit := cr, used := q.used - cost }) (arbOf (s.lanes.get l) a.val)
    refine ⟨rfl, (congrArg GReq.credit req :), (congrArg GReq.withdrawn req :), ?_⟩
    change (if _ then _ else _) = _
    simp
  case window =>
    intro t r l a s kind exists_
    refine runs_final (s0 := tick t s) rfl fun u hu => ?_
    have req : reqOf a.val (arbOf (u.lanes.get l) a.val) r = windowCredit a.val (reqOf a.val (arbOf (s.lanes.get l) a.val) r) := by
      rw [hu.arb, gourFaults_arb, arbOf_updArb, if_neg kind]
      exact (windowAll_req ..).trans (if_pos exists_)
    rw [req]
    refine ⟨rfl, rfl, ?_⟩
    simp only [windowCredit, capOf, if_neg kind]
  case pair =>
    intro t p l a s kind small first second
    refine runs_final (s0 := tick t s) rfl fun u hu => ?_
    rw [hu.arb, gourFaults_arb, arbOf_updArb, if_pos kind]
    have started := windowPairs_pair (a := a.val) small first second
    simp only [tick_frame]
    generalize windowPairs a.val 8 (arbOf (s.lanes.get l) a.val) = b at started ⊢
    exact started
  case refill =>
    intro t l c a r v s core exists_ fits
    refine runs_final (s0 := tick t s) (congrArg (done (tick t s)) (refillWrite_taken core exists_ fits)) fun u hu => ?_
    rw [hu.arb, arbOf_updArb, reqOf_modReq_same]
    exact ⟨rfl, rfl⟩
  case refused =>
    intro t l c a r v s refused
    obtain ⟨fence, eq⟩ := refillWrite_refused (s := tick t s) (c := c) refused
    refine runs_final (s0 := tick t s) (congrArg (done (tick t s)) eq) fun u hu => ?_
    rw [hu.arb, busErr_lanes]
    exact ⟨rfl, hu.sent _ (busErr_sent ..)⟩

end Sys2Proof.Machine
end

section
/-!
PROOFS. The Sump queues (chapter 16): words come and go, queues are flushed, and an empty read stalls its core.
-/
namespace Sys2Proof.Machine

open Sys2Proof.Safety

/-! ### A queue of a lane -/

/-- A queue of the state. -/
def queueOf (l : Lane) (q : Nat) (s : State) : SumpQ := sumpOf (s.lanes.get l) q
/-- The stalled cores of a lane. -/
def stallsOf (l : Lane) (s : State) : List (Option (Nat × Nat)) := (s.lanes.get l).stalls

@[simp] theorem queueOf_updSump (l : Lane) (q : Nat) (f : SumpQ → SumpQ) (s : State) :
    queueOf l q (updSump l q f s) = f (queueOf l q s) := by
  rw [queueOf, updSump, updLane, Pair.get_upd_same]
  exact mgetD_mset_same ..

@[simp] theorem stallsOf_updSump (l k : Lane) (q : Nat) (f : SumpQ → SumpQ) (s : State) :
    stallsOf k (updSump l q f s) = stallsOf k s := by
  cases l <;> cases k <;> rfl

theorem queueOf_of_lanes {s u : State} (h : u.lanes = s.lanes) (l : Lane) (q : Nat) : queueOf l q u = queueOf l q s := by
  rw [queueOf, queueOf, h]

theorem stallsOf_of_lanes {s u : State} (h : u.lanes = s.lanes) (l : Lane) : stallsOf l u = stallsOf l s := by
  rw [stallsOf, stallsOf, h]

theorem queueOf_of_still {s u : State} {l : Lane} (h : (u.lanes.get l).still = (s.lanes.get l).still) (q : Nat) :
    queueOf l q u = queueOf l q s ∧ stallsOf l u = stallsOf l s :=
  ⟨(congrArg (fun x => sumpOf x q) h :), (congrArg LaneSt.stalls h :)⟩

theorem queueOf_of_bare {s u : State} (h : u.lanes.bare = s.lanes.bare) (l : Lane) (q : Nat) :
    queueOf l q u = queueOf l q s ∧ stallsOf l u = stallsOf l s := queueOf_of_still (still_of_bare h l) q

theorem OnlySends.queue {v u : State} (h : OnlySends v u) (l : Lane) (q : Nat) :
    sumpOf (u.lanes.get l) q = queueOf l q v ∧ (u.lanes.get l).stalls = stallsOf l v := queueOf_of_bare h.bare l q

@[simp] theorem serviceRxLine_bare (l : Lane) (s : State) : (serviceRxLine l s).lanes.bare = s.lanes.bare :=
  updIcu_bare ..

@[simp] theorem sumpNotice_bare (l : Lane) (q : Nat) (s : State) : (sumpNotice l q s).lanes.bare = s.lanes.bare := by
  unfold sumpNotice
  split <;> simp

/-- A word with room, and no flush in its cycle, stands last (R417). -/
theorem sumpPush_room {now : Nat} {k : SumpQ} (taking : k.dropping = false) (calm : k.flushAt ≠ some now) (w : SumpWord) :
    sumpPush now w k = { k with words := k.words ++ [w], mid := !w.last } := by
  rw [sumpPush, if_neg (ne_true_of_eq_false taking), if_neg calm]

/-- Whether a packet is in progress after a word (R417). -/
theorem sumpPush_mid (now : Nat) (w : SumpWord) (k : SumpQ) : (sumpPush now w k).mid = !w.last := by
  unfold sumpPush
  split
  · rfl
  · split <;> rfl

/-! ### The engine that takes a packet -/

/-- A queue's words and its lane's stalled cores stay, or are gone as the lane restarts. -/
def QueueKept (l : Lane) (q : Nat) (s u : State) : Prop :=
  ((queueOf l q u).words = (queueOf l q s).words ∧ stallsOf l u = stallsOf l s) ∨
  ((queueOf l q u).words = [] ∧ stallsOf l u = List.replicate 6 none)

theorem QueueKept.trans {l : Lane} {q : Nat} {s v u : State} (h : QueueKept l q s v) (k : QueueKept l q v u) :
    QueueKept l q s u := by
  rcases k with ⟨words, stalls⟩ | gone
  · rcases h with ⟨words', stalls'⟩ | ⟨words', stalls'⟩
    · exact .inl ⟨words.trans words', stalls.trans stalls'⟩
    · exact .inr ⟨words.trans words', stalls.trans stalls'⟩
  · exact .inr gone

theorem QueueKept.of_still {l : Lane} {s u : State} (h : (u.lanes.get l).still = (s.lanes.get l).still) (q : Nat) :
    QueueKept l q s u := by
  obtain ⟨queue, stalls⟩ := queueOf_of_still h q
  exact .inl ⟨congrArg SumpQ.words queue, stalls⟩

/-- A change of a lane that keeps its queues and its stalled cores. -/
theorem QueueKept.updLane {l : Lane} {f : LaneSt → LaneSt} (sumps : ∀ x, (f x).sumps = x.sumps)
    (stalls : ∀ x, (f x).stalls = x.stalls) (q : Nat) (s : State) : QueueKept l q s (Machine.updLane l f s) := by
  refine .inl ⟨?_, ?_⟩
  · rw [queueOf, Machine.updLane, Pair.get_upd_same, sumpOf, sumps]
    rfl
  · rw [stallsOf, Machine.updLane, Pair.get_upd_same, stalls]
    rfl

/-- A lane that is condemned keeps its queues, unless it restarts (R287, R297). -/
theorem condemn_queue (l : Lane) (c : Condemn) (q : Nat) (s : State) : QueueKept l q s (condemn l c s) := by
  have noted : QueueKept l q s (marked l c s) := .updLane (by exact fun _ => rfl) (by exact fun _ => rfl) q s
  rw [condemn_eq]
  split
  · split
    · split
      · exact noted
      · exact noted
    · exact noted.trans (.of_still (still_of_bare (degraded_bare ..) l) q)
  · split
    · exact noted
    · have reset := restartLane_same l (marked l c s)
      exact .inr ⟨(congrArg (fun x => (sumpOf x q).words) reset :), (congrArg LaneSt.stalls reset :)⟩

theorem eccCorrected_queue (l : Lane) (q : Nat) (s : State) : QueueKept l q s (eccCorrected l s) := by
  unfold eccCorrected
  extract_lets s1 keep s2
  have noted : QueueKept l q s s1 := .updLane (by exact fun _ => rfl) (by exact fun _ => rfl) q s
  have counted : QueueKept l q s s2 := noted.trans (.updLane (by exact fun _ => rfl) (by exact fun _ => rfl) q s1)
  split
  · exact counted.trans (condemn_queue ..)
  · exact counted

theorem sumpPoison_queue (l : Lane) (q n : Nat) (s : State) : QueueKept l q s (sumpPoison l q n s) := by
  unfold sumpPoison
  split
  · exact .inl ⟨rfl, rfl⟩
  · extract_lets s1
    have counted : QueueKept l q s s1 := .inl ⟨by simp [s1], by simp [s1]⟩
    refine counted.trans ?_
    have raised : QueueKept l q s1 (stickySet 228 (gourDetail l q) (icuRaiseAt l 154 s1)) :=
      .of_still (still_of_bare (by simp) l) q
    exact raised.trans (.trans (.updLane (by exact fun _ => rfl) (by exact fun _ => rfl) q _) (condemn_queue ..))

/-- A queue that a core reads is not taken by an engine. -/
theorem engineTake_core {q : Nat} (reads : sumpCoreReads q = true) (l : Lane) (s : State) : engineTake l q s = s :=
  if_pos (by rw [reads]; rfl)

/-- A packet in progress waits for its last word (R417). -/
theorem engineTake_waits {l : Lane} {q : Nat} {s : State} (mid : (queueOf l q s).mid = true)
    (packets : (sumpFacts q).2.2 = true) : engineTake l q s = s := by
  refine if_pos ?_
  change (_ || _ || ((queueOf l q s).mid && (sumpFacts q).2.2)) = true
  rw [mid, packets]
  exact Bool.or_true _

/-- An engine takes a packet with its last word, and a stream's words at once (R417, R420). -/
theorem engineTake_takes {l : Lane} {q : Nat} {s : State} (reads : sumpCoreReads q = false)
    (whole : ((queueOf l q s).mid && (sumpFacts q).2.2) = false) :
    (queueOf l q (engineTake l q s)).words = [] ∧
    (stallsOf l s = List.replicate 6 none → stallsOf l (engineTake l q s) = List.replicate 6 none) := by
  have kept (s1 u : State) (gone : (queueOf l q s1).words = []) (same : stallsOf l s1 = stallsOf l s)
      (h : QueueKept l q s1 u) : (queueOf l q u).words = [] ∧
      (stallsOf l s = List.replicate 6 none → stallsOf l u = List.replicate 6 none) := by
    rcases h with ⟨words, stalls⟩ | ⟨words, stalls⟩
    · exact ⟨words.trans gone, fun h => stalls.trans (same.trans h)⟩
    · exact ⟨words, fun _ => stalls⟩
  unfold engineTake
  extract_lets k good fixed poison s1 s2
  split
  next stays =>
    refine ⟨?_, id⟩
    rw [reads, show (k.mid && (sumpFacts q).2.2) = false from whole] at stays
    have none : k.words = [] := by simpa using stays
    exact none
  next =>
    have first : QueueKept l q s1 s2 := List.foldlRecOn (motive := fun u => QueueKept l q s1 u) _ _ (.inl ⟨rfl, rfl⟩)
      fun u h _ _ => h.trans ((QueueKept.of_still (still_of_bare (icuRaiseAt_bare ..) l) q).trans (eccCorrected_queue ..))
    refine kept s1 _ (by simp [s1]) (by simp [s1]) ?_
    split
    · exact first.trans (sumpPoison_queue ..)
    · exact first

/-- With no core stalled a word wakes none (R421). -/
theorem unstall_none {l : Lane} {s : State} (free : stallsOf l s = List.replicate 6 none) (q : Nat) : unstall l q s = s := by
  unfold unstall
  rw [show (s.lanes.get l).stalls = List.replicate 6 none from free]
  rfl

/-! ### Reads and faults -/

/-- A read of a good word takes it and answers both halves (R420). -/
theorem sumpRead_good {l : Lane} {c : Core} {q : Nat} {w : SumpWord} {r : List SumpWord} {s : State}
    (words : (queueOf l q s).words = w :: r) (good : w.bad = 0) :
    sumpRead l c q true s = serviceRxLine l (emit (.regData l c (sumpAddr q 0x14) (w.data.extractLsb' 32 32))
      (emit (.regData l c (sumpAddr q 0x10) (w.data.extractLsb' 0 32)) (updSump l q (fun k => { k with words := r }) s))) := by
  have head : sumpHead ((queueOf l q s).words.length + 1) (queueOf l q s).words = (some w, r, 0) := by
    rw [words]
    exact if_neg (by rw [good]; decide)
  unfold sumpRead
  extract_lets k x s1 s2
  have hx : x = (some w, r, 0) := head
  clear_value x
  subst hx
  exact (if_pos rfl).trans (congrArg (serviceRxLine l) (if_neg (by rw [good]; decide)))

/-- A read of an empty queue stalls its core (R421). -/
theorem sumpRead_empty {l : Lane} {c : Core} {q : Nat} {s : State} (empty : (queueOf l q s).words = []) :
    sumpRead l c q true s = serviceRxLine l (updSump l q (fun k => { k with stalls := sat32 (k.stalls + 1) })
      (updLane l (fun y => { y with stalls := lset y.stalls (coreNo c) (some (q, s.clk.fab)) })
        (updSump l q (fun k => { k with words := [] }) s))) := by
  have head : sumpHead ((queueOf l q s).words.length + 1) (queueOf l q s).words = (none, [], 0) := by
    rw [empty]
    rfl
  unfold sumpRead
  extract_lets k x s1 s2
  have hx : x = (none, [], 0) := head
  clear_value x
  subst hx
  exact if_pos rfl

/-- An engine's word, and what a complete packet announces (R405, R417). -/
def wordIn (l : Lane) (q : Nat) (w : SumpWord) (s : State) : State :=
  let s1 := updSump l q (sumpPush s.clk.fab w) s
  if w.last && !(queueOf l q s).dropping && (sumpFacts q).2.2 then sumpNotice l q s1 else s1

theorem wordIn_queue (l : Lane) (q : Nat) (w : SumpWord) (s : State) :
    queueOf l q (wordIn l q w s) = sumpPush s.clk.fab w (queueOf l q s) ∧ stallsOf l (wordIn l q w s) = stallsOf l s := by
  unfold wordIn
  extract_lets s1
  split
  · obtain ⟨queue, stalls⟩ := queueOf_of_bare (sumpNotice_bare l q s1) l q
    exact ⟨queue.trans (queueOf_updSump ..), stalls.trans (stallsOf_updSump ..)⟩
  · exact ⟨queueOf_updSump .., stallsOf_updSump ..⟩

/-- An engine writes with credit (R418). -/
theorem sumpWordArrival_room {t : Nat} {l : Lane} {q : Fin 22} {w : BitVec 64} {lst : Bool} {bad : Fin 3} {s : State}
    (room : (sumpOf (s.lanes.get l) q.val).words.length < (sumpFacts q.val).1) :
    exec (.sumpWordArrival t l q w lst bad) s = done (tick t s) (unstall l q.val (engineTake l q.val
      (wordIn l q.val { data := w, last := lst, bad := bad.val } (tick t s)))) :=
  if_pos (.inr (Nat.sub_pos_of_lt room))

/-- A core's word, and what a complete packet announces (R405, R422). -/
def wordOut (l : Lane) (q : Nat) (v : Word32) (s : State) : State :=
  let e := coreLast (queueOf l q s) (v ++ (queueOf l q s).low)
  let s1 := updSump l q (fun k =>
    { sumpPush s.clk.fab { data := v ++ (queueOf l q s).low, last := e.1, bad := 0 } k with remain := e.2 }) s
  if e.1 then sumpNotice l q s1 else s1

theorem wordOut_queue (l : Lane) (q : Nat) (v : Word32) (s : State) :
    queueOf l q (wordOut l q v s) = { sumpPush s.clk.fab { data := v ++ (queueOf l q s).low
                                                           last := (coreLast (queueOf l q s) (v ++ (queueOf l q s).low)).1
                                                           bad := 0 } (queueOf l q s) with
      remain := (coreLast (queueOf l q s) (v ++ (queueOf l q s).low)).2 } := by
  unfold wordOut
  extract_lets e s1
  split
  · exact (queueOf_of_bare (sumpNotice_bare l q s1) l q).1.trans (queueOf_updSump ..)
  · exact queueOf_updSump ..

/-- The queues that a core writes carry packets to engines (R417, log entry 18). -/
theorem coreWrites_facts {q : Nat} (writes : sumpCoreWrites q = true) :
    sumpCoreReads q = false ∧ (sumpFacts q).2.2 = true := by
  simp only [sumpCoreWrites, Bool.or_eq_true, beq_iff_eq] at writes
  rcases writes with ((rfl | rfl) | rfl) | rfl <;> decide

/-- A flush empties its queue (R419). -/
theorem flushAt_queue (l : Lane) (q : Nat) (s : State) : queueOf l q (flushAt l q s) = flushQ s.clk.fab (queueOf l q s) := by
  unfold flushAt
  extract_lets cut s1
  have flushed : queueOf l q s1 = flushQ s.clk.fab (queueOf l q s) :=
    (queueOf_of_bare (serviceRxLine_bare ..) l q).1.trans (queueOf_updSump ..)
  clear_value s1 cut
  split
  · exact (queueOf_of_bare (emit_onlySends ..).bare l q).1.trans flushed
  · exact flushed

/-- A flush in the middle of a frame of a trunk stream cuts it at the active lane (R419). -/
theorem flushAt_cut {l : Lane} {q : Nat} {s : State} (stream : q = 13 ∨ q = 14) (mid : (queueOf l q s).mid = true)
    (act : active s = some l) : Sent (flushAt l q s) (.streamCut (if q = 13 then 1 else 0)) := by
  unfold flushAt
  extract_lets cut s1
  have cuts : cut = true := by
    change ((q == 13 || q == 14) && (queueOf l q s).mid && active s == some l) = true
    rw [mid, act]
    rcases stream with rfl | rfl <;> simp
  have act : active s1 = some l := (active_of_duties (by simp [s1, serviceRxLine])).trans act
  clear_value cut s1
  rw [if_pos cuts]
  exact emit_reframed (by rw [act]; rfl) rfl nofun

theorem busErr_sticky (l : Lane) (c : Core) (a : Nat) (s : State) : (busErr l c a false s).dict.sticky = s.dict.sticky := by
  rw [busErr, Bool.and_false]
  rfl

/-- An access that outlasts its watchdog ends with a bus error (R288, R421). -/
def abortedFrom (l : Lane) (c : Core) (q : Nat) (s : State) : State :=
  let s := updLane l (fun x => { x with stalls := lset x.stalls (coreNo c) none }) s
  let s := stickySet 230 (gourDetail l (coreNo c)) (icuRaiseAt l (156 + coreNo c) (addC 0xE0033 (laneNo l * 6 + coreNo c) 0 1 s))
  emit (.busError l c (sumpAddr q 0x10)) (if isPolicy c then s else healthEvent l .busWd s)

theorem abortedFrom_reads (l : Lane) (c : Core) (q : Nat) (s : State) :
    stallsOf l (abortedFrom l c q s) = lset (stallsOf l s) (coreNo c) none ∧
    (abortedFrom l c q s).dict.sticky.getLsbD 230 = true ∧
    ((abortedFrom l c q s).lanes.get l).health =
      if isPolicy c then (s.lanes.get l).health else (.busWd, s.clk.fab) :: (s.lanes.get l).health := by
  unfold abortedFrom
  extract_lets s1 s2
  have marked : s2.dict.sticky.getLsbD 230 = true := stickySet_getLsbD_same (by decide) ..
  have same : (s2.lanes.get l).still = { (s.lanes.get l).still with stalls := lset (stallsOf l s) (coreNo c) none } := by
    refine (still_of_bare (s := s1) (by simp [s2]) l).trans ?_
    cases l <;> rfl
  have clk : s2.clk = s.clk := by simp [s2, s1]
  have stalls : (s2.lanes.get l).stalls = _ := (congrArg LaneSt.stalls same :)
  have health : (s2.lanes.get l).health = (s.lanes.get l).health := (congrArg LaneSt.health same :)
  clear_value s2
  split
  · exact ⟨stalls, marked, health⟩
  · rw [← clk, ← health]
    cases l <;> exact ⟨stalls, marked, rfl⟩

/-- Settles O54: it holds. -/
theorem sumpQueues : Obligations.SumpQueues := by
  unfold Obligations.SumpQueues
  refine ⟨?arrives, ?engine, ?written, ?full, ?read, ?empty, ?flush, ?cut, ?watchdog⟩
  case arrives =>
    intro t l q w lst bad s reads taking calm room free
    obtain ⟨queue, stalls⟩ := wordIn_queue l q.val { data := w, last := lst, bad := bad.val } (tick t s)
    refine runs_final (sumpWordArrival_room room) fun u hu => ?_
    rw [engineTake_core reads, unstall_none (stalls.trans free)] at hu
    rw [(hu.queue l q.val).1, queue, sumpPush_room (k := queueOf l q.val (tick t s)) (now := (tick t s).clk.fab) taking calm]
    exact ⟨rfl, rfl⟩
  case engine =>
    intro t l q w lst bad s reads taking room ends free
    obtain ⟨queue, stalls⟩ := wordIn_queue l q.val { data := w, last := lst, bad := bad.val } (tick t s)
    have whole : ((queueOf l q.val (wordIn l q.val { data := w, last := lst, bad := bad.val } (tick t s))).mid &&
        (sumpFacts q.val).2.2) = false := by
      rw [queue, sumpPush_mid]
      rcases ends with last | stream
      · rw [last]
        rfl
      · rw [stream]
        exact Bool.and_false _
    obtain ⟨gone, kept⟩ := engineTake_takes reads whole
    refine runs_final (sumpWordArrival_room room) fun u hu => ?_
    rw [unstall_none (kept (stalls.trans free))] at hu
    rw [(hu.queue l q.val).1, gone]
  case written =>
    intro t l c q v s core writes taking calm room
    obtain ⟨reads, packets⟩ := coreWrites_facts writes
    have queue := wordOut_queue l q.val v (tick t s)
    have credit : ¬(sumpCredit q.val (sumpOf ((tick t s).lanes.get l) q.val) = 0 &&
        !(sumpOf ((tick t s).lanes.get l) q.val).dropping) = true := by
      have some := Nat.sub_pos_of_lt room
      simp only [Bool.and_eq_true, decide_eq_true_eq, not_and]
      exact fun none => absurd none (Nat.ne_of_gt some)
    refine runs_final (s0 := tick t s) (v := engineTake l q.val (wordOut l q.val v (tick t s)))
      (congrArg (done (tick t s)) ((if_neg (ne_true_of_eq_false core)).trans ((if_neg (by rw [writes]; decide)).trans
        (if_neg credit)))) fun u hu => ?_
    rw [(hu.queue l q.val).1]
    by_cases last : (coreLast (queueOf l q.val (tick t s)) (v ++ (queueOf l q.val (tick t s)).low)).1 = true
    · have gone := (engineTake_takes reads (l := l) (s := wordOut l q.val v (tick t s)) (by
        rw [queue]
        simp only [sumpPush_mid, last]
        rfl)).1
      rw [gone]
      exact (if_pos last).symm
    · rw [engineTake_waits (by
        rw [queue]
        simp only [sumpPush_mid, last]
        rfl) packets, queue]
      simp only [sumpPush_room (k := queueOf l q.val (tick t s)) (now := (tick t s).clk.fab) taking calm, List.map_append]
      exact (if_neg last).symm
  case full =>
    intro t l c q v s core writes taking full
    have credit : (sumpCredit q.val (sumpOf ((tick t s).lanes.get l) q.val) = 0 &&
        !(sumpOf ((tick t s).lanes.get l) q.val).dropping) = true :=
      Bool.and_eq_true_iff.2 ⟨decide_eq_true (Nat.sub_eq_zero_of_le full), congrArg (!·) taking⟩
    refine runs_final (s0 := tick t s) (congrArg (done (tick t s)) ((if_neg (ne_true_of_eq_false core)).trans
      ((if_neg (by rw [writes]; decide)).trans (if_pos credit)))) fun u hu => ⟨?_, ?_, hu.sent _ (busErr_sent ..)⟩
    · rw [(hu.queue l q.val).1, queueOf_of_lanes (busErr_lanes ..), (queueOf_of_bare (icuRaiseAt_bare ..) l q.val).1,
        queueOf_of_lanes (stickySet_frame ..).2.2.2.2.2.2.2.2.2.1, queueOf_updSump]
      rfl
    · rw [hu.dict, busErr_sticky, (icuRaiseAt_frame ..).2.2.2.1]
      exact stickySet_getLsbD_same (by decide) ..
  case read =>
    intro t l c q w r s core reads words good
    refine runs_final (s0 := tick t s) ((if_neg (ne_true_of_eq_false core)).trans ((if_neg (by rw [reads]; decide)).trans
      (congrArg (done (tick t s)) (sumpRead_good words good)))) fun u hu => ⟨?_, ?_, ?_⟩
    · rw [(hu.queue l q.val).1, (queueOf_of_bare (serviceRxLine_bare ..) l q.val).1]
      exact (congrArg SumpQ.words (queueOf_updSump l q.val (fun k => { k with words := r }) (tick t s)) :)
    · exact hu.sent _ (.inl (List.mem_cons_of_mem _ (List.mem_cons_self ..)))
    · exact hu.sent _ (.inl (List.mem_cons_self ..))
  case empty =>
    intro t l c q s core reads empty six
    refine runs_final (s0 := tick t s) ((if_neg (ne_true_of_eq_false core)).trans ((if_neg (by rw [reads]; decide)).trans
      (congrArg (done (tick t s)) (sumpRead_empty empty)))) fun u hu => ?_
    obtain ⟨queue, stalls⟩ := hu.queue l q.val
    obtain ⟨queue', stalls'⟩ := queueOf_of_bare (serviceRxLine_bare l _) l q.val
    rw [queue, stalls, queue', stalls', queueOf_updSump, stallsOf_updSump]
    have queue : queueOf l q.val (updLane l (fun y => { y with stalls := lset y.stalls (coreNo c) (some (q.val, (tick t s).clk.fab)) })
        (updSump l q.val (fun k => { k with words := [] }) (tick t s))) = { queueOf l q.val (tick t s) with words := [] } := by
      refine Eq.trans ?_ (queueOf_updSump l q.val (fun k => { k with words := [] }) (tick t s))
      cases l <;> rfl
    rw [queue]
    refine ⟨?_, rfl⟩
    have stalls : stallsOf l (updLane l (fun y => { y with stalls := lset y.stalls (coreNo c) (some (q.val, (tick t s).clk.fab)) })
        (updSump l q.val (fun k => { k with words := [] }) (tick t s))) =
        lset (stallsOf l s) (coreNo c) (some (q.val, (tick t s).clk.fab)) := by
      cases l <;> rfl
    rw [stalls]
    exact lget_lset_same _ _ _ _ (by rw [show (stallsOf l s).length = 6 from six]; cases c <;> decide)
  case flush =>
    intro t l c q s core
    refine runs_final (s0 := tick t s) (if_neg (ne_true_of_eq_false core)) fun u hu => ?_
    rw [(hu.queue l q.val).1, flushAt_queue]
    exact ⟨rfl, rfl, rfl⟩
  case cut =>
    intro t l c q s core stream mid act
    refine runs_final (s0 := tick t s) (if_neg (ne_true_of_eq_false core)) fun u hu => hu.sent _ ?_
    exact flushAt_cut stream mid act
  case watchdog =>
    intro t q f l c s six stalled late
    have he : exec (.busWatchdogAbort t l c) s = done (tick t s) (abortedFrom l c q (tick t s)) := by
      change execBusWatchdogAbort t l c s = _
      unfold execBusWatchdogAbort
      simp only [tick_frame, stalled]
      exact if_pos late
    obtain ⟨stalls, sticky, health⟩ := abortedFrom_reads l c q (tick t s)
    refine runs_final he fun u hu => ⟨?_, ?_, hu.sent _ (.inl (List.mem_cons_self ..)), ?_⟩
    · rw [(hu.queue l q).2, stalls]
      exact lget_lset_same _ _ _ _ (by rw [show (stallsOf l (tick t s)).length = 6 from six]; cases c <;> decide)
    · rw [hu.dict]
      exact sticky
    · rw [hu.lanes l]
      exact health

end Sys2Proof.Machine
end

section
/-!
PROOFS. The pin self-test (chapter 17): slices run at their tick, are restored, and sweeps begin and end.
-/
namespace Sys2Proof.Machine

open Sys2Proof.Safety

/-! ### Rows above every row that is written -/

/-- A row of an object above every object that is written stays, whatever its index. -/
theorem RowsKept.getRow_above {objs : List Nat} {s u : State} (h : RowsKept objs s u) (module : 0x30101 ∉ objs) {n : Nat}
    (above : ∀ m ∈ objs, m < n) (r : Nat) : Machine.getRow u n r = Machine.getRow s n r := by
  have apart (k : Nat) : n + k ∉ objs := fun mem => absurd (above _ mem) (by omega)
  have store : mget u.dict.store (okey n r) = mget s.dict.store (okey n r) := by
    rw [show okey n r = okey (n + r / 4294967296) (r % 4294967296) by unfold okey; omega]
    exact h.store _ _ (Nat.mod_lt _ (by decide)) (apart _)
  have same : modId u = modId s := by rw [modId, modId, h.store _ _ (by decide) module]
  have default : defRow u n r = defRow s n r := by rw [defRow, defRow, same]
  rw [Machine.getRow, Machine.getRow, store, h.logs n (apart 0), default]

/-! ### What a slice drives -/

theorem driveString_apart (k : Nat) (d : Nat × List (Nat × Nat)) (s : State) : (driveString k d s).dict = s.dict ∧
    (driveString k d s).io = s.io ∧ (driveString k d s).test = s.test := ⟨rfl, rfl, rfl⟩

theorem sliceString_io (on : Bool) (k : Nat) (s : State) : (sliceString on k s).io = s.io := by
  unfold sliceString
  exact (driveString_apart ..).2.1

theorem sliceDrive_io (r : Nat) (s : State) : (sliceDrive r s).io = s.io := by
  unfold sliceDrive
  extract_lets c
  split
  · rfl
  · split
    · split
      · exact sliceString_io ..
      · rfl
    · split
      · exact (sliceString_io ..).trans (sliceString_io ..)
      · rfl

theorem ledgerPut_io (x ch sf : Nat) (f : Bucket → Bucket) (s : State) : (ledgerPut x ch sf f s).io = s.io := by
  unfold ledgerPut
  extract_lets one s1
  refine (foldl_keeps (part := State.io) ?_ ..).trans rfl
  exact fun _ _ => rfl

theorem sliceCharge_io (r : Nat) (s : State) : (sliceCharge r s).1.io = s.io := by
  unfold sliceCharge
  split
  · rfl
  · split
    · extract_lets x
      split
      · rfl
      · split
        · exact ledgerPut_io ..
        · exact cntUpAt_io ..
    · rfl

/-! ### The end of a slice -/

/-- The strings get back what they had; nothing else changes (R431). -/
theorem foldl_driveString {α : Type} (d : Nat × α → Nat × List (Nat × Nat)) (l : NMap α) (s : State) :
    (l.foldl (fun s p => driveString p.1 (d p) s) s).dict = s.dict ∧
    (l.foldl (fun s p => driveString p.1 (d p) s) s).io = s.io ∧
    (l.foldl (fun s p => driveString p.1 (d p) s) s).test = s.test := by
  induction l generalizing s with
  | nil => exact ⟨rfl, rfl, rfl⟩
  | cons p l ih =>
    obtain ⟨dict, io, test⟩ := driveString_apart p.1 (d p) s
    obtain ⟨dict', io', test'⟩ := ih (driveString p.1 (d p) s)
    exact ⟨dict'.trans dict, io'.trans io, test'.trans test⟩

theorem diEdge_test (n : Nat) (on : Bool) (s : State) : (diEdge n on s).test = s.test := by simp [diEdge]

/-- A slice that ends leaves no slice (R431). -/
theorem sliceReturn_slice (s : State) : (sliceReturn s).test.slice = none := by
  unfold sliceReturn
  extract_lets t s1 cut s2 s3
  clear_value cut
  have driven : s2.dict = s1.dict ∧ s2.io = s1.io ∧ s2.test = s1.test :=
    foldl_driveString (fun p => (if cut p.1 then 0 else p.2.1, p.2.2)) t.saved s1
  clear_value s2
  have second : s3.test = s2.test := foldl_keeps (part := State.test) (fun _ _ => by simp) ..
  have third : (t.edges.foldl (fun s p => if s.io.inputs.getLsbD p.1 = p.2 then s else diEdge p.1 p.2 s) s3).test = s3.test :=
    foldl_keeps (part := State.test) (fun s p => by split; rfl; exact diEdge_test ..) ..
  rw [third, second, driven.2.2]
  rfl

/-- Where the copy holds no output and no edge came, only strings get back what they had (R431). -/
theorem sliceReturn_calm {s : State} (copy : s.test.copy = []) (edges : s.test.edges = []) :
    (sliceReturn s).dict = s.dict ∧ (sliceReturn s).io = s.io ∧
    (sliceReturn s).test = { s.test with slice := none, copy := [], edges := [], saved := [] } := by
  unfold sliceReturn
  extract_lets t s1 cut s2 s3
  have driven : s3 = s2 := by
    unfold s3
    rw [show t.copy = [] from copy]
    rfl
  have ended : t.edges.foldl (fun s p => if s.io.inputs.getLsbD p.1 = p.2 then s else diEdge p.1 p.2 s) s3 = s3 := by
    rw [show t.edges = [] from edges]
    rfl
  rw [ended, driven]
  exact foldl_driveString (fun p => (if cut p.1 then 0 else p.2.1, p.2.2)) t.saved s1

/-! ### What a slice finds -/

theorem rowClass_le (r : Nat) : rowClass r ≤ 7 := by
  unfold rowClass
  repeat' split
  all_goals decide

/-- A result is a row of ST_RESULTS (R434). -/
def resultRow (r res : Nat) (m : Int) (transient : Bool) (s : State) : Row :=
  [vN res, .num m, vN (time64 s), v32 (rNat (getRow s 0xC0020 r) 3 + b2n transient),
    v32 (rNat (getRow s 0xC0020 r) 4 + b2n (decide (res = 3)))]

theorem rNat_first (a b c d e : Val) : rNat [a, b, c, d, e] 0 = a.toNat := rfl
theorem rNat_third (a b c d e : Val) : rNat [a, b, c, d, e] 2 = c.toNat := rfl
theorem toNat_vN (n : Nat) : (vN n).toNat = n := Int.toNat_natCast n

theorem resultRow_reads (r res : Nat) (m : Int) (transient : Bool) (s : State) :
    rNat (resultRow r res m transient s) 0 = res ∧ rNat (resultRow r res m transient s) 2 = time64 s := by
  rw [resultRow, rNat_first, rNat_third, toNat_vN, toNat_vN]
  exact ⟨rfl, rfl⟩

/-- A result enters its row, and the counts of the sweep that runs (R434). -/
theorem stResult_reads {r res : Nat} (shown : res ≠ 4) (m : Int) (transient : Bool) (s : State) :
    getRow (stResult r res m transient s) 0xC0020 r = resultRow r res m transient s ∧
    (∃ w, (stResult r res m transient s).test = { s.test with sweep := w }) ∧ (stResult r res m transient s).io = s.io := by
  unfold stResult
  extract_lets row s1 s2 s3 s4
  have put : getRow s2 0xC0020 r = resultRow r res m transient s := by
    unfold s2
    rw [if_neg shown]
    exact getRow_putRow_same ..
  have same : s2.test = s.test ∧ s2.io = s.io := by
    unfold s2
    rw [if_neg shown]
    exact ⟨rfl, rfl⟩
  clear_value s2
  have bits : RowsKept [0xB0101, 0xB0011] s2 s3 :=
    (condSet_rowsKept (Nat.lt_of_le_of_lt (Nat.add_le_add_left (rowClass_le r) 192) (by decide)) ..).mono (by simp)
  have noted : RowsKept [0xB0101, 0xB0011] s3 s4 := by
    unfold s4
    split
    · exact .of_dict rfl
    · refine .trans ((record_rowsKept ?_ ..).mono (by simp)) (.of_dict (draw_dict _))
      split
      · decide
      · split
        · decide
        · split
          · decide
          · omega
  have fields : s4.test = s2.test ∧ s4.io = s2.io := by
    unfold s4
    split <;> simp [s3, classBit, selfTestRec]
  refine ⟨?_, ⟨s.test.sweep.map fun w => { w with counts := lmod w.counts (res - 1) (· + 1) }, ?_⟩, fields.2.trans same.2⟩
  · exact ((bits.trans noted).getRow_above (by decide) (by decide) r).trans put
  · rw [updTest, fields.1, same.1]

theorem passEffect_apart (r : Nat) (s : State) : (passEffect r s).dict = s.dict ∧ (passEffect r s).test = s.test ∧
    (passEffect r s).io = s.io := by
  unfold passEffect
  split
  · exact ⟨rfl, rfl, rfl⟩
  · split <;> exact ⟨rfl, rfl, rfl⟩

theorem suspectSync_apart (s : State) : (suspectSync s).dict = s.dict ∧ (suspectSync s).test = s.test ∧
    (suspectSync s).io = s.io := by
  unfold suspectSync
  split <;> exact ⟨rfl, rfl, rfl⟩

/-- A PASS enters the item's row with its time (R434). -/
theorem sliceFound_pass {x : Slice} {o : SliceObs} {s : State} (tested : x.skip = false) (pass : sliceResult s x.row o = 1) :
    getRow (sliceFound x o s) 0xC0020 x.row = resultRow x.row 1 o.measured (x.retest && true) s ∧
    (∃ w, (sliceFound x o s).test = { s.test with sweep := w }) ∧ (sliceFound x o s).io = s.io := by
  have found : sliceFound x o s = suspectSync (passEffect x.row (stResult x.row 1 o.measured (x.retest && true) s)) := by
    unfold sliceFound
    simp only [tested, pass]
    rfl
  obtain ⟨row, test, io⟩ := stResult_reads (r := x.row) (res := 1) (by decide) o.measured (x.retest && true) s
  obtain ⟨dict, test', io'⟩ := passEffect_apart x.row (stResult x.row 1 o.measured (x.retest && true) s)
  obtain ⟨dict', test'', io''⟩ := suspectSync_apart (passEffect x.row (stResult x.row 1 o.measured (x.retest && true) s))
  rw [found, getRow_of_dict (dict'.trans dict), test'', test', io'', io']
  exact ⟨row, test, io⟩

/-- A first FAIL is to be tested again (R434). -/
theorem sliceFound_fail {x : Slice} {o : SliceObs} {s : State} (tested : x.skip = false) (first : x.retest = false)
    (fail : sliceResult s x.row o = 3) :
    sliceFound x o s = updTest (fun t => { t with retests := t.retests ++ [x.row] }) s := by
  unfold sliceFound
  simp only [tested, fail, first]
  rfl

/-- A slice whose restore reads back as it should (R431). -/
theorem sliceRestore_read {t : Nat} {x : Slice} {o : SliceObs} {b1 b2 : Bool} {s : State} (slice : s.test.slice = some x)
    (read : b1 = true ∨ b2 = true) : exec (.sliceRestore t o b1 b2) s = done (tick t s) (sliceReturn (sliceFound
      { x with skip := x.skip || realEdge (tick t s) } o (tick t s))) := by
  change execSliceRestore t o b1 b2 s = _
  unfold execSliceRestore
  simp only [tick_frame, slice]
  exact if_pos (by simpa using read)

/-- The slice of an item that starts (R428, R431). -/
def slicing (r : Nat) (retest : Bool) (s : State) : State :=
  let c := sliceCharge r s
  cntUp 0xC0011 (updTest (fun t =>
    { takeItem r retest t with
      slice := some { row := r, retest, started := s.clk.fab, skip := c.2 }, lastAsn := some (asn s)
      lastTick := if s.test.sweep.isSome then t.lastTick else asn s / 50 + 1 }) (if c.2 then c.1 else sliceDrive r c.1))

theorem slicing_reads (r : Nat) (retest : Bool) (s : State) :
    (slicing r retest s).test.slice.map (fun x => (x.row, x.retest, x.started)) = some (r, retest, s.clk.fab) ∧
    (slicing r retest s).test.lastAsn = some (asn s) ∧ (slicing r retest s).io = s.io := by
  unfold slicing
  extract_lets c
  have io : (if c.2 then c.1 else sliceDrive r c.1).io = s.io := by
    split
    · exact sliceCharge_io r s
    · exact (sliceDrive_io ..).trans (sliceCharge_io r s)
  simp only [cntUp_frame]
  exact ⟨rfl, rfl, io⟩

/-- The slice of the next item starts where its tick falls (R428). -/
theorem sliceTick_starts {t r : Nat} {b : Bool} {s : State} (act : (active s).isSome = true) (idle : s.test.slice = none)
    (runs : s.test.stopped = false) (free : s.test.barred = false) (calm : s.power.warning = false)
    (late : 1840000 ≤ slotAt (tick t s).clk (tick t s).clk.fab % Config.slotCycles)
    (soon : slotAt (tick t s).clk (tick t s).clk.fab % Config.slotCycles ≤ 1872000) (next : nextItem s = some (r, b))
    (due : tickDue (tick t s) r = true) (fits : sliceFree (tick t s) r (asn (tick t s)) = true) :
    exec (.sliceTick t) s = done (tick t s) (slicing r b (tick t s)) := by
  have open_ : ¬((active (tick t s)).isNone || (tick t s).test.slice.isSome || (tick t s).test.stopped ||
      (tick t s).test.barred || (tick t s).power.warning ||
      decide (slotAt (tick t s).clk (tick t s).clk.fab % Config.slotCycles < 1840000) ||
      decide (1872000 < slotAt (tick t s).clk (tick t s).clk.fab % Config.slotCycles)) = true := by
    rw [show (tick t s).test = s.test from rfl, show (tick t s).power = s.power from rfl, idle, runs, free, calm,
      show (active (tick t s)).isNone = false by rw [← Option.not_isSome, show active (tick t s) = active s from rfl, act]; rfl,
      decide_eq_false (Nat.not_lt.2 late), decide_eq_false (Nat.not_lt.2 soon)]
    decide
  change execSliceTick t s = _
  unfold execSliceTick
  extract_lets s0
  rw [if_neg open_]
  rw [show nextItem s0 = some (r, b) from next]
  dsimp only
  rw [if_pos (Bool.and_eq_true_iff.2 ⟨due, fits⟩)]
  cases charged : sliceCharge r s0 with
  | mk s1 skip =>
    have charged : sliceCharge r (tick t s) = (s1, skip) := charged
    rw [slicing, charged]

/-- Settles O56: it holds. -/
theorem pinSelfTest : Obligations.PinSelfTest := by
  unfold Obligations.PinSelfTest
  refine ⟨?tick, ?pass, ?fail, ?differs, ?sweep, ?ends⟩
  case tick =>
    intro t r b s act idle runs free calm late soon next due fits
    have he := sliceTick_starts act idle runs free calm late soon next due fits
    obtain ⟨slice, last, io⟩ := slicing_reads r b (tick t s)
    refine runs_final he fun u hu => ?_
    rw [hu.test, hu.io, slice, last, io]
    exact ⟨rfl, rfl, rfl⟩
  case pass =>
    intro t x o b1 b2 s slice read tested edges copy pass
    have calm : realEdge (tick t s) = false := by
      rw [realEdge, show (tick t s).test.edges = [] from edges]
      rfl
    have skip : (x.skip || realEdge (tick t s)) = false := by rw [tested, calm]; rfl
    have he := sliceRestore_read (t := t) (o := o) slice read
    have pass : sliceResult (tick t s) x.row o = 1 := pass
    obtain ⟨row, ⟨w, test⟩, io⟩ := sliceFound_pass (x := { x with skip := x.skip || realEdge (tick t s) }) skip pass
    generalize sliceFound { x with skip := x.skip || realEdge (tick t s) } o (tick t s) = v at he row test io
    obtain ⟨dict, io', test'⟩ := sliceReturn_calm (s := v) (by rw [test]; exact copy) (by rw [test]; exact edges)
    refine runs_final he fun u hu => ?_
    have row : getRow u 0xC0020 x.row = _ := (getRow_of_dict (hu.dict.trans dict) _ _).trans row
    obtain ⟨result, time⟩ := resultRow_reads x.row 1 o.measured (x.retest && true) (tick t s)
    rw [hu.test, hu.io, getC, getC, row, test', io', test, io, result, time]
    exact ⟨rfl, rfl, rfl, rfl, rfl⟩
  case fail =>
    intro t x o b1 b2 s slice read tested first edges copy fail
    have calm : realEdge (tick t s) = false := by
      rw [realEdge, show (tick t s).test.edges = [] from edges]
      rfl
    have skip : (x.skip || realEdge (tick t s)) = false := by rw [tested, calm]; rfl
    have he := sliceRestore_read (t := t) (o := o) slice read
    have fail : sliceResult (tick t s) x.row o = 3 := fail
    rw [sliceFound_fail (x := { x with skip := x.skip || realEdge (tick t s) }) skip first fail] at he
    obtain ⟨dict, -, test⟩ := sliceReturn_calm (s := updTest (fun t => { t with retests := t.retests ++ [x.row] }) (tick t s))
      copy edges
    refine runs_final he fun u hu => ?_
    rw [hu.test, test, getRow_of_dict (hu.dict.trans dict)]
    exact ⟨rfl, rfl, rfl⟩
  case differs =>
    intro t x o s slice
    have he : exec (.sliceRestore t o false false) s = done (tick t s) (recordOpen 6 (stickySet 200 x.row
        (updTest (fun t => { t with stopped := true, sweepState := 3 }) (sliceReturn (sliceFound
          { x with skip := x.skip || realEdge (tick t s) } o (tick t s)))))) := by
      change execSliceRestore t o false false s = _
      unfold execSliceRestore
      simp only [tick_frame, slice]
      rfl
    refine runs_final he fun u hu => ?_
    have ended := sliceReturn_slice (sliceFound { x with skip := x.skip || realEdge (tick t s) } o (tick t s))
    generalize sliceReturn (sliceFound { x with skip := x.skip || realEdge (tick t s) } o (tick t s)) = v at he hu ended
    rw [hu.test, hu.dict, recordOpen, draw_dict, record_sticky]
    refine ⟨?_, ?_, ?_, stickySet_getLsbD_same (by decide) ..⟩
    · simpa [updTest] using ended
    · simp [updTest]
    · simp [updTest]
  case sweep =>
    intro t sid h args s hp none
    refine runs_executed hp rfl (if_neg (by rw [show (opState t h sid s).test.sweep = Option.none from none]; decide))
      (live_of_passes hp) fun u hu => ?_
    rw [hu.test]
    exact ⟨rfl, hu.answered⟩
  case ends =>
    intro t w s sweep idle retests slice runs
    have he : exec (.sweepEnd t) s = done (tick t s) (record 0xC011 2 0 (be 4 w.mask ++ (w.counts.map (be 2)).flatten)
        (icuRaise 136 (cntUp 0xC0013 (updTest (fun t => { t with sweep := none, sweepState := 2 }) (tick t s))))) := by
      change execSweepEnd t s = _
      unfold execSweepEnd
      simp only [tick_frame, sweep]
      refine if_neg ?_
      rw [show w.rows.any (rowRuns (tick t s)) = false from idle, retests, slice, runs]
      decide
    refine runs_final he fun u hu => ?_
    rw [hu.test]
    simp [updTest]

end Sys2Proof.Machine
end

section
/-!
PROOFS. The firmware stream (chapter 19): images are opened, received, ended, aborted and programmed.
-/
namespace Sys2Proof.Machine

open Sys2Proof.Safety

/-! ### Messages of this module -/

/-- A message of an association of the service port that this module serves is its own (R462, R463). -/
theorem streamTake_own {t : Nat} {h : StreamHdr} {a : Assoc} {s : State} (act : (active s).isSome = true) (named : h.assoc ≠ 0)
    (assoc : mget s.ib.assocs h.assoc = some a) (service : a.entry = .service) (opens : entryOpen s .service = true)
    (anchor : (s.life.state == .returned) = a.cert.returnAnchor) (valid : certDenied (tick t s) a.cert = false)
    (level : 2 ≤ a.level) (own : h.target = modId s) (styp : Nat) (body : Bytes) (eff : State → State) :
    streamTake styp h body eff (tick t s) = eff (tick t s) := by
  have assoc : mget (tick t s).ib.assocs h.assoc = some a := assoc
  have ours : ¬(!entryOpen (tick t s) a.entry || ((tick t s).life.state == .returned) != a.cert.returnAnchor) = true := by
    rw [service, show entryOpen (tick t s) .service = true from opens,
      show ((tick t s).life.state == .returned) = a.cert.returnAnchor from anchor]
    simp
  have trusted : ¬(certDenied (tick t s) a.cert || decide (a.level < 2)) = true := by
    rw [valid, decide_eq_false (Nat.not_lt.2 level)]
    decide
  have running : ¬(recoverer (tick t s)).isSome = true := by
    rw [recoverer, if_pos (show (active (tick t s)).isSome = true from act)]
    decide
  unfold streamTake
  rw [if_neg named]
  simp only [assoc]
  rw [if_neg (by rw [service]; decide), if_neg ours, if_neg trusted, if_neg running]
  exact if_pos own

theorem streamReply_fw (h : StreamHdr) (styp status next : Nat) (s : State) :
    (streamReply h styp status next s).fw = s.fw ∧ (streamReply h styp status next s).dict = s.dict := by
  unfold streamReply emitAs
  split
  · exact ⟨rfl, rfl⟩
  · split
    · exact ⟨rfl, rfl⟩
    · simp

/-- The reply to a stream message leaves of an active lane (R463). -/
theorem streamReply_sent {h : StreamHdr} {s : State} (act : (active s).isSome = true) (named : h.assoc ≠ 0)
    (styp status next : Nat) :
    Sent (streamReply h styp status next s) (.stream h.assoc (streamWire (styp + 128) h status next)) := by
  have running : (recoverer s).isSome = false := by
    rw [recoverer, if_pos act]
    rfl
  rw [streamReply, if_neg named, running]
  exact emit_reframed act rfl nofun

/-- A stream message that ends with its reply runs; the reply changes neither transfers nor rows. -/
theorem runs_replied {c : Instr} {t styp status next : Nat} {h : StreamHdr} {s v : State} {P : State → Prop}
    (he : exec c s = done (tick t s) (streamReply h styp status next v)) (act : (active s).isSome = true)
    (same : v.lanes.duties = s.lanes.duties) (named : h.assoc ≠ 0)
    (hP : ∀ u, u.fw = v.fw → u.dict = v.dict → Sent u (.stream h.assoc (streamWire (styp + 128) h status next)) → P u) :
    Runs c s P := by
  obtain ⟨fw, dict⟩ := streamReply_fw h styp status next v
  refine runs_final he fun u hu => hP u (hu.fw.trans fw) (hu.dict.trans dict) (hu.sent _ (streamReply_sent ?_ named ..))
  rw [active_of_duties same]
  exact act

/-! ### Firmware events -/

theorem holdRecord_dict (l : Lane) (r : Record) (s : State) : (holdRecord l r s).dict = s.dict ∧ (holdRecord l r s).fw = s.fw := by
  unfold holdRecord
  split
  · exact ⟨rfl, rfl⟩
  · split
    · exact ⟨by simp, by simp⟩
    · exact ⟨rfl, rfl⟩

theorem submitRec_sticky (r : Record) (s : State) : (submitRec r s).dict.sticky = s.dict.sticky := by
  unfold submitRec
  split
  · rfl
  · split
    · rw [(cntUp_frame ..).2.2.2.1]
      rfl
    · rw [(syncDrain_frame _).2.2.2.1]

/-- A firmware event is a record: the images and the sticky bits stand. -/
@[simp] theorem fwEvent_fw (event sev failStep : Nat) (l : Lane) (bank : Nat) (s : State) :
    (fwEvent event sev failStep l bank s).fw = s.fw := by
  unfold fwEvent laneRecord
  extract_lets g v body r
  split
  · simp
  · split
    · exact (holdRecord_dict ..).2
    · simp

theorem fwEvent_sticky (event sev failStep : Nat) (l : Lane) (bank : Nat) (s : State) :
    (fwEvent event sev failStep l bank s).dict.sticky = s.dict.sticky := by
  unfold fwEvent laneRecord
  extract_lets g v body r
  split
  · exact record_sticky ..
  · split
    · rw [(holdRecord_dict ..).1]
    · exact submitRec_sticky ..

/-! ### Rows of TRANSFERS -/

/-- A transfer that begins (R464). -/
def newTransfer (h : StreamHdr) (sha : Bytes) (now : Nat) : Transfer :=
  { tid := h.tid, kind := h.kind, lanes := h.lanes, total := h.length, sha := fit 32 sha, got := [], opened := now,
    last := now, programming := none, closed := false, data := [] }

theorem openRow_transfer (h : StreamHdr) (sha : Bytes) (s : State) (r : Nat) :
    mget (openRow h sha s r).fw.transfers r = some (newTransfer h sha s.clk.fab) := by
  unfold openRow
  extract_lets x s1
  have opened : mget s1.fw.transfers r = some x := mget_mset_same ..
  split
  · split
    · exact opened
    · exact opened
  · exact opened

/-- A discarded row holds no transfer; sticky bit 213 is set where it is asked for (R465). -/
theorem discardRow_reads (sticky : Bool) (s : State) (r : Nat) :
    mget (discardRow sticky s r).fw.transfers r = none ∧
    (sticky = true → (discardRow sticky s r).dict.sticky.getLsbD 213 = true) := by
  unfold discardRow
  extract_lets s1 s2 s3 l b s4
  have gone : mget s1.fw.transfers r = none := mget_mdel_same ..
  split
  · have slot : s2.fw = s1.fw := by
      unfold s2
      split <;> rfl
    have noted : s3.fw = s2.fw := by
      unfold s3
      split <;> simp
    refine ⟨?_, fun set => ?_⟩
    · rw [show (record 0xD010 4 65535 (be 1 4 ++ be 11 0) s3).fw = s3.fw by simp, noted, slot]
      exact gone
    · rw [record_sticky, show s3 = stickySet 213 0 s2 from if_pos set]
      exact stickySet_getLsbD_same (by decide) ..
  · have noted : s4.fw = s1.fw := by
      unfold s4
      split <;> simp
    refine ⟨?_, fun set => ?_⟩
    · rw [fwEvent_fw, noted]
      exact gone
    · rw [fwEvent_sticky, show s4 = stickySet 213 (laneNo l * 65536 + b) s1 from if_pos set]
      exact stickySet_getLsbD_same (by decide) ..

/-- A row of an image of a lane that ends well is to be programmed (R465). -/
theorem endRow_programs {img : ImageHdr} {s : State} {r : Nat} {x : Transfer} (lane : r < 2)
    (stands : mget s.fw.transfers r = some x) :
    mget (endRow img s r).fw.transfers r = some { x with programming := some img, last := s.clk.fab } := by
  unfold endRow
  rw [stands]
  dsimp only
  rw [if_neg (by omega)]
  exact mget_mset_same ..

theorem rowsNext_cons {s : State} {r : Nat} {x : Transfer} (stands : mget s.fw.transfers r = some x) (rs : List Nat) :
    rowsNext (r :: rs) s = nextOffset x := by
  rw [rowsNext, stands]

/-- The bytes of a DATA message and their range enter a row (R465). -/
def dataRow (h : StreamHdr) (data : Bytes) (s : State) (r : Nat) : State :=
  let m := mmod s.fw.transfers r (fun x =>
    { x with got := addRange h.offset (h.offset + h.length) x.got, last := s.clk.fab, data := putBytes h.offset data x.data })
  updFw (fun f => { f with transfers := m }) s

theorem dataRow_transfer {h : StreamHdr} {data : Bytes} {s : State} {r : Nat} {x : Transfer}
    (stands : mget s.fw.transfers r = some x) : mget (dataRow h data s r).fw.transfers r =
      some { x with got := addRange h.offset (h.offset + h.length) x.got, last := s.clk.fab
                    data := putBytes h.offset data x.data } := by
  refine (mget_mmod_same ..).trans ?_
  rw [stands]
  rfl

/-- A message for a row that stays: its time (R465). -/
def touchRow (s : State) (r : Nat) : State :=
  updFw (fun f => { f with transfers := mmod f.transfers r (fun x => { x with last := s.clk.fab }) }) s

theorem touchRow_transfer {s : State} {r : Nat} {x : Transfer} (stands : mget s.fw.transfers r = some x) :
    mget (touchRow s r).fw.transfers r = some { x with last := s.clk.fab } := by
  refine (mget_mmod_same ..).trans ?_
  rw [stands]
  rfl

/-- Whether a row has every byte of its transfer (R465). -/
def rowFull (s : State) (r : Nat) : Bool :=
  match mget s.fw.transfers r with | some x => nextOffset x == x.total | none => false
/-- Whether a row's bytes have the hash of its OPEN (R465). -/
def rowHashed (s : State) (r : Nat) : Bool :=
  match mget s.fw.transfers r with | some x => sha256 (imageBytes x) == x.sha | none => false
/-- The bytes of a row. -/
def rowImage (s : State) (r : Nat) : Bytes := match mget s.fw.transfers r with | some x => imageBytes x | none => []

/-- What END makes of one open row (R465, R475). -/
def endOne (h : StreamHdr) (sigOk : Bool) (policyKey : Bytes) (r : Nat) (s : State) : State :=
  let rows := [r]
  let img := readImage (rowImage s r) sigOk policyKey
  if !rows.all (rowFull s) then streamReply h 3 stRange (rowsNext rows s) (rows.foldl touchRow s)
  else if !rows.all (rowHashed s) then streamReply h 3 stRange (rowsNext rows s) (rows.foldl (discardRow false) s)
  else if recoveryBad img rows s then streamReply h 3 stRange (rowsNext rows s) (rows.foldl (recoveryFail img) s)
  else streamReply h 3 0 (rowsNext rows s) (rows.foldl (endRow img) s)

theorem streamEnd_one {t r : Nat} {b : Bool} {k : Bytes} {h : StreamHdr} {s : State}
    (own : ∀ body eff, streamTake 3 h body eff (tick t s) = eff (tick t s)) (rows : liveRows h s = [r]) :
    exec (.streamEnd t h b k) s = done (tick t s) (endOne h b k r (tick t s)) := by
  refine congrArg (done (tick t s)) ((own _ _).trans ?_)
  rw [show liveRows h (tick t s) = [r] from rows]
  rfl

/-- A lane's bank is programmed (R465). -/
def programmed (l : Lane) (x : Transfer) (g : ImageHdr) (s : State) : State :=
  let v := updFw (fun f => { f with transfers := mset f.transfers (laneNo l) { x with programming := none, closed := true } }) s
  ropUp 0xD0022 1 (updBank l (otherBank s l)
    (fun _ => { state := 2, img := some g, staged := time64 v, failStep := 0, data := x.data }) v)

theorem programmed_reads {l : Lane} {x : Transfer} {g : ImageHdr} {s : State} (boot : (s.fw.boots.get l).recovery = false)
    (banks : s.fw.banks.length = 4) :
    (bankOf (programmed l x g s) l (1 - (s.fw.boots.get l).running)).state = 2 ∧
    (bankOf (programmed l x g s) l (1 - (s.fw.boots.get l).running)).img = some g ∧
    mget (programmed l x g s).fw.transfers (laneNo l) = some { x with programming := none, closed := true } ∧
    getN (programmed l x g s) 0xD0022 = min (getN s 0xD0022 + 1) 4294967295 := by
  have other : otherBank s l = 1 - (s.fw.boots.get l).running := by
    simp [otherBank, boot]
  unfold programmed
  extract_lets v
  have fw (u : State) : (ropUp 0xD0022 1 u).fw = u.fw := by simp
  have within : laneNo l * 2 + otherBank s l < v.fw.banks.length := by
    have lane : laneNo l ≤ 1 := by cases l <;> decide
    have four : v.fw.banks.length = 4 := banks
    omega
  rw [bankOf, fw, ← other, updBank, lget_lmod_same _ _ _ _ within]
  exact ⟨rfl, rfl, mget_mset_same .., getN_putN ..⟩

/-- Settles O57: it holds. -/
theorem firmwareStream : Obligations.FirmwareStream := by
  unfold Obligations.FirmwareStream
  refine ⟨?opened, ?data, ?ended, ?hash, ?missing, ?abort, ?timeout, ?programmed⟩
  case opened =>
    intro t r h a b s act named assoc service opens anchor valid level own status rows
    have he : exec (.streamOpen t h b) s = done (tick t s) (streamReply h 1 0 0 ([r].foldl (openRow h b) (tick t s))) := by
      refine congrArg (done (tick t s)) ((streamTake_own act named assoc service opens anchor valid level own ..).trans ?_)
      rw [← rows]
      exact if_neg (not_not.2 status)
    refine runs_replied he act (openRow_duties ..) named fun u fw _ sent => ⟨?_, sent⟩
    rw [fw]
    exact congrArg (Option.map fun x : Transfer => (x.tid, x.total, x.got, x.last, x.closed)) (openRow_transfer h b (tick t s) r)
  case data =>
    intro t r h a x b s act named assoc service opens anchor valid level own rows stands some_ few whole fits
    have stands : mget (tick t s).fw.transfers r = some x := stands
    have fits : ¬(h.length = 0 ∨ 1024 < h.length ∨ b.length ≠ h.length ∨ x.total < h.offset + h.length) := by omega
    have he : exec (.streamData t h b) s = done (tick t s) (streamReply h 2 0
        (rowsNext [r] ([r].foldl (dataRow h b) (tick t s))) ([r].foldl (dataRow h b) (tick t s))) := by
      refine congrArg (done (tick t s)) ((streamTake_own act named assoc service opens anchor valid level own ..).trans ?_)
      rw [show liveRows h (tick t s) = [r] from rows]
      dsimp only
      rw [stands]
      exact if_neg fits
    have put := dataRow_transfer (h := h) (data := b) stands
    rw [rowsNext_cons (s := [r].foldl (dataRow h b) (tick t s)) put] at he
    refine runs_replied he act rfl named fun u fw _ sent => ⟨?_, sent⟩
    rw [fw]
    exact congrArg (Option.map fun y : Transfer => (y.got, y.last, y.data)) put
  case ended =>
    intro t r b k h a x s act named assoc service opens anchor valid level own lane rows stands full hash boot
    have stands : mget (tick t s).fw.transfers r = some x := stands
    have he := streamEnd_one (b := b) (k := k) (streamTake_own act named assoc service opens anchor valid level own 3) rows
    have good : recoveryBad (readImage (imageBytes x) b k) [r] (tick t s) = false := by
      simp [recoveryBad, boot]
    rw [endOne] at he
    simp only [rowImage, stands, List.all_cons, List.all_nil, rowFull, rowHashed, full, hash, beq_self_eq_true, Bool.and_true,
      Bool.not_true, good, rowsNext_cons stands, Bool.false_eq_true, if_false] at he
    refine runs_replied he act (endRow_duties ..) named fun u fw _ sent => ⟨?_, sent⟩
    rw [fw]
    exact endRow_programs lane stands
  case hash =>
    intro t r b k h a x s act named assoc service opens anchor valid level own rows stands full hash
    have stands : mget (tick t s).fw.transfers r = some x := stands
    have he := streamEnd_one (b := b) (k := k) (streamTake_own act named assoc service opens anchor valid level own 3) rows
    rw [endOne] at he
    simp only [stands, List.all_cons, List.all_nil, rowFull, rowHashed, full, beq_eq_false_iff_ne.2 hash, beq_self_eq_true,
      Bool.and_true, Bool.not_true, Bool.not_false, rowsNext_cons stands, Bool.false_eq_true, if_false, if_true] at he
    refine runs_replied he act (discardRow_duties ..) named fun u fw _ sent => ⟨?_, sent⟩
    rw [fw]
    exact (discardRow_reads false (tick t s) r).1
  case missing =>
    intro t r b k h a x s act named assoc service opens anchor valid level own rows stands missing
    have stands : mget (tick t s).fw.transfers r = some x := stands
    have he := streamEnd_one (b := b) (k := k) (streamTake_own act named assoc service opens anchor valid level own 3) rows
    rw [endOne] at he
    simp only [stands, List.all_cons, List.all_nil, rowFull, beq_eq_false_iff_ne.2 missing, Bool.and_true, Bool.not_false,
      rowsNext_cons stands, if_true] at he
    refine runs_replied he act rfl named fun u fw _ sent => ⟨?_, sent⟩
    rw [fw]
    exact touchRow_transfer stands
  case abort =>
    intro t r h a s act named assoc service opens anchor valid level own rows
    have he : exec (.streamAbort t h) s = done (tick t s) (streamReply h 4 0 0 ([r].foldl (discardRow true) (tick t s))) := by
      refine congrArg (done (tick t s)) ((streamTake_own act named assoc service opens anchor valid level own ..).trans ?_)
      rw [show liveRows h (tick t s) = [r] from rows]
    obtain ⟨gone, sticky⟩ := discardRow_reads true (tick t s) r
    refine runs_replied he act (discardRow_duties ..) named fun u fw dict sent => ⟨?_, ?_, sent⟩
    · rw [fw]
      exact gone
    · rw [dict]
      exact sticky rfl
  case timeout =>
    intro t r x s stands live idle late
    have he : exec (.streamTimeout t r) s = done (tick t s) (discardRow true (tick t s) r.val) := by
      change execStreamTimeout t r s = _
      unfold execStreamTimeout
      simp only [tick_frame, stands]
      refine if_pos ?_
      rw [live, idle, decide_eq_true (show x.last + 600 * Config.secCycles ≤ (tick t s).clk.fab from late)]
      rfl
    obtain ⟨gone, sticky⟩ := discardRow_reads true (tick t s) r.val
    refine runs_final he fun u hu => ?_
    rw [hu.fw, hu.dict]
    exact ⟨gone, sticky rfl⟩
  case programmed =>
    intro t l x g s stands programming boot running banks
    have he : exec (.bankProgramDone t l) s = done (tick t s) (programmed l x g (tick t s)) := by
      change execBankProgramDone t l s = _
      unfold execBankProgramDone
      simp only [tick_frame, stands, programming, boot]
      rfl
    obtain ⟨state, img, transfer, count⟩ := programmed_reads (s := tick t s) (x := x) (g := g) boot banks
    refine runs_final he fun u hu => ?_
    rw [bankOf, hu.fw, getN_of_dict hu.dict, count, transfer]
    exact ⟨state, img, rfl, rfl⟩

end Sys2Proof.Machine
end

section
/-!
PROOFS. The firmware banks (chapter 19): trials, confirmations, commits and erasures.
-/
namespace Sys2Proof.Machine

open Sys2Proof.Safety

/-! ### Banks and boots -/

theorem bankOf_updBank_same {l : Lane} {b : Nat} {s : State} (h : laneNo l * 2 + b < s.fw.banks.length) (f : Bank → Bank) :
    bankOf (updBank l b f s) l b = f (bankOf s l b) := lget_lmod_same _ _ _ _ h

/-- What no element loses is not lost of a list. -/
theorem lget_lmod_keeps {α β : Type} {part : α → β} {f : α → α} (h : ∀ x, part (f x) = part x) (l : List α) (i k : Nat) (d : α) :
    part (lget (lmod l i f) k d) = part (lget l k d) := by
  induction l generalizing i k with
  | nil => rfl
  | cons x r ih =>
    cases i with
    | zero =>
      cases k with
      | zero => exact h x
      | succ k => rfl
    | succ i =>
      cases k with
      | zero => rfl
      | succ k => exact ih i k

/-- The second argument of a command of two numbers is in its range (R43). -/
theorem argN_one_le_of_argRange {obj tag tag' hi hi' : Nat} {lo lo' : Int} {args : List TVal}
    (h : argRange obj 0 [.int tag lo hi, .int tag' lo' hi'] args = none) : argN args 1 ≤ hi' := by
  rcases args with _ | ⟨a, _ | ⟨⟨k, n | b⟩, as⟩⟩
  · exact Nat.zero_le hi'
  · exact Nat.zero_le hi'
  · have inside : n ≤ hi' := by
      by_contra above
      have refused : (ColKind.int tag' lo' hi').inRange (.num n) = false := by simp [ColKind.inRange, above]
      simp only [argRange, refused] at h
      split at h
      · cases h
      · cases h
    change n.toNat ≤ hi'
    omega
  · exact Nat.zero_le hi'

/-- A bank's state as BANKS shows it while no trial runs (R477). -/
theorem fwBankRow_state {l : Lane} {k : Nat} {s : State} (small : k ≤ 1) (trial : (s.fw.boots.get l).trial = false) :
    rNat (fwBankRow s (laneNo l * 2 + k)) 0 = (bankOf s l k).state := by
  have lane : (laneRow 2 (laneNo l * 2 + k)).1 = l := by
    cases l
    · exact if_pos (by simp only [laneNo]; omega)
    · exact if_neg (by simp only [laneNo]; omega)
  unfold fwBankRow
  extract_lets g b i
  have trial : b.trial = false := by
    simp only [b, lane]
    exact trial
  rw [trial]
  exact toNat_vN _

/-- What FW_COMMIT and a trial change of the firmware: the boots, the active level, and the commit that waits (R467, R472). -/
def Firmware.commits (f : Firmware) : Pair Boot × Nat × Bool × Option Nat := (f.boots, f.activeLevel, f.uncommitted, f.commitAt)

/-- What the commit of a lane's image leaves of the others' images and of what was committed before. -/
structure ImagesKept (s u : State) : Prop where
  commits : u.fw.commits = s.fw.commits
  img : ∀ k, bankImg (lget u.fw.banks k Bank.init) = bankImg (lget s.fw.banks k Bank.init)

theorem ImagesKept.refl (s : State) : ImagesKept s s := ⟨rfl, fun _ => rfl⟩

theorem ImagesKept.trans {s v u : State} (h : ImagesKept s v) (k : ImagesKept v u) : ImagesKept s u :=
  ⟨k.commits.trans h.commits, fun n => (k.img n).trans (h.img n)⟩

theorem ImagesKept.running {s u : State} (h : ImagesKept s u) (l : Lane) : runningImg u l = runningImg s l := by
  have boots : u.fw.boots = s.fw.boots := congrArg Prod.fst h.commits
  rw [runningImg, runningImg, boots, h.img]

/-- A bank that fails keeps its image (R466). -/
theorem bankFail_images (l : Lane) (b step : Nat) (s : State) : ImagesKept s (bankFail l b step s) := by
  have fw : (bankFail l b step s).fw = (updBank l b (fun g => { g with state := 3, failStep := step }) s).fw := by
    simp [bankFail]
  refine ⟨?_, fun k => ?_⟩
  · rw [fw]
    rfl
  · rw [fw]
    exact lget_lmod_keeps (part := bankImg) (f := fun g => { g with state := 3, failStep := step }) (fun _ => rfl) ..

theorem commitBank_images (l : Lane) (s : State) (k : Nat) : ImagesKept s (commitBank l s k) := by
  unfold commitBank
  extract_lets g b
  split
  · exact .refl s
  · split
    · exact .refl s
    · split
      · exact bankFail_images ..
      · split
        · exact bankFail_images ..
        · exact .refl s

/-- A commit on a lane sets its floor and its layout by the image it runs (R472). -/
def floored (s : State) (l : Lane) : State :=
  updBoot l (fun b => { b with floor := (runningImg s l).rollback, layout := (runningImg s l).settingsLayout }) s

theorem commitLane_images (s : State) (l : Lane) : ImagesKept (floored s l) (commitLane s l) := by
  unfold commitLane
  extract_lets i s1 s2
  have banks : ImagesKept (floored s l) s2 :=
    List.foldlRecOn (motive := ImagesKept (floored s l)) [0, 1] (commitBank l) (.refl _) fun u h k _ =>
      h.trans (commitBank_images l u k)
  refine banks.trans ⟨?_, fun k => ?_⟩
  · rw [fwEvent_fw]
  · rw [fwEvent_fw]

theorem floored_running (s : State) (l k : Lane) : runningImg (floored s l) k = runningImg s k := by
  cases l <;> cases k <;> rfl

/-- FW_COMMIT on both lanes: each lane's floor and layout are those of the image it runs (R472). -/
theorem commitBoth_reads (s : State) (l : Lane) :
    ((commitLane (commitLane s .A) .B).fw.boots.get l).floor = (runningImg s l).rollback ∧
    ((commitLane (commitLane s .A) .B).fw.boots.get l).layout = (runningImg s l).settingsLayout ∧
    (commitLane (commitLane s .A) .B).fw.commitAt = s.fw.commitAt ∧
    (commitLane (commitLane s .A) .B).fw.uncommitted = s.fw.uncommitted ∧
    (commitLane (commitLane s .A) .B).fw.activeLevel = s.fw.activeLevel := by
  have first := commitLane_images s .A
  have second := commitLane_images (commitLane s .A) .B
  have boots : (commitLane s .A).fw.boots = (floored s .A).fw.boots := congrArg Prod.fst first.commits
  have boots' : (commitLane (commitLane s .A) .B).fw.boots = (floored (commitLane s .A) .B).fw.boots :=
    congrArg Prod.fst second.commits
  have image (l : Lane) : runningImg (commitLane s .A) l = runningImg s l := (first.running l).trans (floored_running s .A l)
  have level := (congrArg (fun c => c.2.1) second.commits).trans (congrArg (fun c => c.2.1) first.commits)
  have waits := (congrArg (fun c => c.2.2.1) second.commits).trans (congrArg (fun c => c.2.2.1) first.commits)
  have planned := (congrArg (fun c => c.2.2.2) second.commits).trans (congrArg (fun c => c.2.2.2) first.commits)
  rw [boots']
  refine ⟨?_, ?_, planned, waits, level⟩
  · cases l
    · exact (congrArg (fun b : Pair Boot => b.a.floor) boots)
    · exact congrArg ImageHdr.rollback (image .B)
  · cases l
    · exact (congrArg (fun b : Pair Boot => b.a.layout) boots)
    · exact congrArg ImageHdr.settingsLayout (image .B)

/-- A trial that is confirmed (R467). -/
def confirmedFrom (l : Lane) (s : State) : State :=
  let b := s.fw.boots.get l
  fwEvent 1 2 0 l b.running (updBank l b.running (fun g => { g with state := 1 })
    (updBoot l (fun b => { b with trial := false, retries := 0, confirmed := b.running, next := none }) s))

theorem confirmedFrom_reads {l : Lane} {s : State} (banks : s.fw.banks.length = 4) (running : (s.fw.boots.get l).running ≤ 1) :
    ((confirmedFrom l s).fw.boots.get l).trial = false ∧
    ((confirmedFrom l s).fw.boots.get l).confirmed = (s.fw.boots.get l).running ∧
    ((confirmedFrom l s).fw.boots.get l).next = none ∧
    (bankOf (confirmedFrom l s) l (s.fw.boots.get l).running).state = 1 := by
  have within : laneNo l * 2 + (s.fw.boots.get l).running < s.fw.banks.length := by
    have lane : laneNo l ≤ 1 := by cases l <;> decide
    omega
  have bank := bankOf_updBank_same (l := l) (s := updBoot l (fun b =>
    { b with trial := false, retries := 0, confirmed := b.running, next := none }) s) within (fun g => { g with state := 1 })
  unfold confirmedFrom
  extract_lets b
  rw [bankOf, fwEvent_fw]
  refine ⟨?_, ?_, ?_, congrArg Bank.state bank⟩
  · cases l <;> rfl
  · cases l <;> rfl
  · cases l <;> rfl

/-- A commit that applies: what the module keeps of it (R472). -/
def committing (s : State) : State :=
  journalErase (fun e => match e with | .fwCommit _ => true | _ => false) (condSet 211 0 false
    (updFw (fun f => { f with commitAt := none, uncommitted := false, pre := both none
                              activeLevel := (runningImg s (servedBy s)).feature }) s))

theorem committing_reads (s : State) (l : Lane) : runningImg (committing s) l = runningImg s l ∧
    (committing s).fw.activeLevel = (runningImg s (servedBy s)).feature ∧ (committing s).fw.uncommitted = false ∧
    (committing s).fw.commitAt = none := by
  have fw : (committing s).fw = { s.fw with
      commitAt := none, uncommitted := false, pre := both none, activeLevel := (runningImg s (servedBy s)).feature } := by
    simp [committing, updFw]
  rw [runningImg, fw]
  exact ⟨rfl, rfl, rfl, rfl⟩

/-- Settles O58: it holds. -/
theorem firmwareBanks : Obligations.FirmwareBanks := by
  unfold Obligations.FirmwareBanks
  refine ⟨?activate, ?confirm, ?commit, ?apply_, ?restart, ?erase⟩
  case activate =>
    intro t sid h args s l hp lane state trial floor act ready
    have small : argN args 1 ≤ 1 := argN_one_le_of_argRange (hi' := 1) (argRange_of_passes hp)
    have shown := fwBankRow_state (s := opState t h sid s) small trial
    have good : ¬(!(rNat (fwBankRow (opState t h sid s) (laneNo l * 2 + argN args 1)) 0 == 1 ||
        rNat (fwBankRow (opState t h sid s) (laneNo l * 2 + argN args 1)) 0 == 2) ||
        decide ((bankImg (bankOf (opState t h sid s) l (argN args 1))).rollback < ((opState t h sid s).fw.boots.get l).floor)) = true := by
      have floor : ((opState t h sid s).fw.boots.get l).floor ≤ (bankImg (bankOf (opState t h sid s) l (argN args 1))).rollback :=
        floor
      rw [shown, decide_eq_false (Nat.not_lt.2 floor)]
      have state : (bankOf (opState t h sid s) l (argN args 1)).state = 1 ∨ (bankOf (opState t h sid s) l (argN args 1)).state = 2 :=
        state
      rcases state with one | two
      · simp [one]
      · simp [two]
    have idle : ¬(active (opState t h sid s) = some l ∨ (!standbyReady (opState t h sid s)) = true) := by
      rw [show active (opState t h sid s) = some (otherLane l) from act,
        show standbyReady (opState t h sid s) = true by rw [standbyReady, show standby (opState t h sid s) = some l from ready]; rfl]
      cases l <;> decide
    subst lane
    refine runs_executed hp rfl ((if_neg good).trans (if_neg idle)) ?_ fun u hu => ?_
    · rw [restartLane_ib]
      exact live_of_passes hp
    · have active : (s.lanes.get (otherLane (if argN args 0 = 0 then .A else .B))).role = .active := role_of_active act
      generalize (if argN args 0 = 0 then Lane.A else .B) = l at hu active
      have other := restartLane_other l (updBoot l (fun b => { b with next := some (argN args 1) }) (opState t h sid s))
      rw [hu.role, hu.role]
      exact ⟨(role_of_upd (restartLane_duties ..)).1, (congrArg LaneSt.role other :).trans active, hu.answered⟩
  case confirm =>
    intro t l s trial role held good banks running
    have he : exec (.trialConfirm t l) s = done (tick t s) (confirmedFrom l (tick t s)) := by
      refine if_pos ?_
      have held : decide (((tick t s).lanes.get l).roleSince + getN (tick t s) 0xD0100 * Config.secCycles ≤ (tick t s).clk.fab) =
        true := decide_eq_true held
      have plays : (((tick t s).lanes.get l).role == .standby || ((tick t s).lanes.get l).role == .active) = true := by
        simpa using role
      rw [held, plays, show ((tick t s).fw.boots.get l).trial = true from trial,
        show condemned ((tick t s).lanes.get l) = false from good]
      rfl
    obtain ⟨trial, confirmed, next, state⟩ := confirmedFrom_reads (s := tick t s) banks running
    refine runs_final he fun u hu => ?_
    rw [bankOf, hu.fw]
    exact ⟨trial, confirmed, next, state⟩
  case commit =>
    intro t sid h args s hp ready same trialA trialB
    have quiet : ¬(!standbyReady (opState t h sid s)) = true := by
      rw [show standbyReady (opState t h sid s) = true from ready]
      decide
    refine runs_executed hp rfl ((if_neg quiet).trans ((if_neg (not_not.2 same)).trans
      ((if_neg (ne_true_of_eq_false trialA)).trans (if_neg (ne_true_of_eq_false trialB))))) (live_of_passes hp) fun u hu => ?_
    rw [hu.fw]
    exact ⟨rfl, hu.answered⟩
  case apply_ =>
    intro t a l s planned reached
    have he : exec (.fwCommitApply t) s = done (tick t s) (commitLane (commitLane (committing (tick t s)) .A) .B) := by
      change execFwCommitApply t s = _
      unfold execFwCommitApply
      simp only [tick_frame, planned]
      exact if_neg (Nat.not_lt.2 reached)
    obtain ⟨floor, layout, at_, waits, level⟩ := commitBoth_reads (committing (tick t s)) l
    obtain ⟨image, level', waits', at'⟩ := committing_reads (tick t s) l
    refine runs_final he fun u hu => ?_
    rw [hu.fw, floor, layout, at_, waits, level, image, level', waits', at']
    exact ⟨rfl, rfl, rfl, rfl, rfl⟩
  case restart =>
    intro t sid h args s hp own stagedA stagedB same
    have he : exec (.fwRestartAll t h args) s = done (tick t s) (afterReply (answer sid h (updPower (fun p =>
        { p with restart := some .laneRestart }) (updBoot .B (fun b => { b with next := some (otherBank (updBoot .A (fun b => { b with next := some (otherBank (opState t h sid s) .A) }) (opState t h sid s)) .B) })
          (updBoot .A (fun b => { b with next := some (otherBank (opState t h sid s) .A) }) (opState t h sid s))),
        some (rOk .empty)))) := congrArg (fun u => done (tick t s) (afterReply u))
      ((execCmd_passes hp _).trans (congrArg (answer sid h) ((if_neg (not_not.2 own)).trans
        ((if_neg (by rw [show stagedOther (opState t h sid s) .A = true from stagedA]; decide)).trans
        ((if_neg (by rw [show stagedOther (opState t h sid s) .B = true from stagedB]; decide)).trans (if_neg (not_not.2 same)))))))
    exact runs_restarted rfl he fun u owner role none _ _ => ⟨role .A, role .B, owner, none.1⟩
  case erase =>
    intro t sid h args s l hp lane trial other banks
    have small : argN args 1 ≤ 1 := argN_one_le_of_argRange (hi' := 1) (argRange_of_passes hp)
    have free : ¬(((opState t h sid s).fw.boots.get l).trial || (argN args 1 == ((opState t h sid s).fw.boots.get l).running &&
        !((opState t h sid s).fw.boots.get l).recovery)) = true := by
      rw [show ((opState t h sid s).fw.boots.get l).trial = false from trial,
        show (argN args 1 == ((opState t h sid s).fw.boots.get l).running) = false from beq_eq_false_iff_ne.2 other]
      exact Bool.false_ne_true
    subst lane
    refine runs_executed hp rfl (if_neg free) (live_of_passes hp) fun u hu => ⟨?_, hu.answered⟩
    rw [bankOf, hu.fw]
    refine bankOf_updBank_same (s := opState t h sid s) ?_ _
    have four : (opState t h sid s).fw.banks.length = 4 := banks
    have lane : laneNo (if argN args 0 = 0 then .A else .B) ≤ 1 := by split <;> decide
    omega

end Sys2Proof.Machine
end
